-- ==== Sys2Proof/Word.lean ====
section
/-! DEFINITION. The word types of the model: register contents are 64-bit words (a 32-bit register
uses the low half), counters are 48-bit words (R499). -/
namespace Sys2Proof

/-- A register's contents. -/
abbrev Word := BitVec 64
/-- A counter's contents (R499). -/
abbrev Ctr := BitVec 48
/-- A byte. -/
abbrev Byte := BitVec 8

end Sys2Proof
end

