-- ==== Sys2Proof/Payload.lean ====
section
/-! DEFINITION. Operand structures of the commands: what a packet or an event brings from outside the block. -/
namespace Sys2Proof

/-- Names one command packet: function, queue number and TAG (Table 13.3). -/
structure CmdRef where
  fn  : BitVec 12
  qp  : BitVec 8
  tag : BitVec 32
deriving DecidableEq, Repr

/-- Global index of a packet's queue pair (R344). -/
def CmdRef.key (h : CmdRef) : Nat := h.fn.toNat * 256 + h.qp.toNat

/-- A command packet as fetched (Table 13.3): its header, the count field of its body where the opcode has one
(QP_CREATE and most have none, then 0), and whether a reserved body byte is not 0 (R373). -/
structure Packet where
  opc    : BitVec 16
  flags  : BitVec 8
  len    : BitVec 8
  tag    : BitVec 32
  objId  : BitVec 32
  atTick : BitVec 32
  cnt    : Nat
  rsvdNZ : Bool
deriving DecidableEq, Repr

/-- A scatter-gather element (Table 13.5). -/
structure SgElem where
  addr   : BitVec 64
  length : BitVec 32
  type   : BitVec 8
  rsvd   : BitVec 24
deriving DecidableEq, Repr

/-- A scatter-gather list: its root, the lists its SEGMENT elements name, in order, and whether a host read of a list
or of the payload failed (R358). -/
structure Sgl where
  root     : SgElem
  segs     : List (List SgElem)
  readFail : Bool
deriving DecidableEq, Repr

/-- Queue-pair descriptor (Table 13.2). -/
structure QpDesc where
  qp      : BitVec 8
  kind    : BitVec 8
  vector  : BitVec 16
  sqLog2  : BitVec 8
  ringLog2 : BitVec 8
  entLog2 : BitVec 8
  bufLog2 : BitVec 8
  sqBase  : BitVec 64
  ringBase : BitVec 64
  bufBase : BitVec 64
  bufCount : BitVec 16
deriving DecidableEq, Repr

/-- Body of PARTITION_CREATE (Table 14.4). -/
structure PartBody where
  slipcase : BitVec 8
  mode     : BitVec 8
  keySlot  : BitVec 16
  nQuires  : BitVec 8
  hoppers  : BitVec 16
  regions  : BitVec 16
  ovfKib   : BitVec 32
  powerMw  : BitVec 32
  /-- BASE and SIZE of each window. -/
  wins     : List (BitVec 64 × BitVec 64)
deriving DecidableEq, Repr

/-- One entry of a rule table (Table 15.5), with its reserved bytes. -/
structure RuleEnt where
  win    : BitVec 8
  rights : BitVec 8
  base   : BitVec 64
  size   : BitVec 64
  rsvdNZ : Bool
deriving DecidableEq, Repr

/-- A rule table as read through a list (Table 15.5). -/
structure RuleTbl where
  nWin   : BitVec 8
  rsvdNZ : Bool
  ents   : List RuleEnt
deriving DecidableEq, Repr

/-- A CSI-2 long packet at its arrival (R66, R72, R90): SoT and header error state (0 none, 1 corrected single-bit,
2 uncorrectable), data type, virtual channel, word count of the header, payload, whether the link returned to LP before
the word count was complete, whether the CRC is wrong, the SYSTIME of the arrival instant and whether its transmission
began before the port was enabled. -/
structure LinkPkt where
  sot       : BitVec 2
  hdr       : BitVec 2
  dt        : BitVec 6
  vc        : BitVec 4
  wordCount : BitVec 16
  payload   : List (BitVec 8)
  short     : Bool
  crcBad    : Bool
  arrival   : BitVec 64
  stale     : Bool
deriving DecidableEq, Repr

/-- A contract source entry (Table 12.2). -/
structure ConSrc where
  kind    : BitVec 8
  index   : BitVec 8
  link    : BitVec 8
  rsvd    : BitVec 8
  rate    : BitVec 32
  burst   : BitVec 32
  sizeMax : BitVec 32
deriving DecidableEq, Repr

/-- A contract descriptor (Table 12.1). -/
structure ConDesc where
  graph      : BitVec 32
  priority   : BitVec 8
  protection : BitVec 8
  nSrc       : BitVec 8
  flags      : BitVec 8
  deadline   : BitVec 32
  revokeLead : BitVec 16
deriving DecidableEq, Repr

/-- A part of a graph on another device (R340): the device, its share of DEADLINE and its sources. -/
structure ConPart where
  dev      : BitVec 16
  deadline : BitVec 32
  srcs     : List ConSrc
deriving DecidableEq, Repr

/-- What the Contract Manager computes from the package's cycle tables (R326–R332), which the model does not hold: WC_TICKS, the longest
path without its Brew cost in ns, the refusal where a term fails (DETAIL of Table 12.7, FAIL_TERM, OTHER), the partners of the graph's
quires (R337), arbiter settings as register and value (R327) with their longest window in ns, and the parts on other devices. -/
structure AdmitPlan where
  wcTicks  : Nat
  restNs   : Nat
  fail     : Option (Nat × Nat × Nat)
  partners : List Nat
  arbs     : List (Nat × Nat)
  winNs    : Nat
  parts    : List ConPart
deriving DecidableEq, Repr

/-- What a time marker does at its tick (R49, R55, R41, R454). -/
inductive MarkerOp where
  | sourceChange (old new : Nat)
  | epochChange (old new : Nat)
  | tickLen (q : Nat)
  | leadMax (ns : Nat)
deriving DecidableEq, Repr

/-- A JOIN message (R455): a request climbing to the root with the latency of the path behind it in ps, or the root's reply, with
the L_dev (ps) and depth of the device it comes from as the reply passes down. Times of the root are those of the start of a tick;
a refusal says why: 0 taken, 1 busy, 2 latency. -/
inductive JoinMsg where
  | request (id path : Nat)
  | accept (id root sys tick tickQ jumpNs leadNs lDev depth : Nat)
  | refuse (id why : Nat)
deriving DecidableEq, Repr

/-- A GLOBAL message (R465, R466). -/
inductive GlobalMsg where
  | arrive (id atTick : Nat)
  | release (id tick : Nat)
  | releaseFail (id : Nat)
  | broadcast (origin tick : Nat) (payload : List Nat)
  | snapReq (origin tick : Nat)
  | snapshot (id origin tick : Nat)
  | snapRefuse
  | bindReset (tick : Nat)
deriving DecidableEq, Repr

/-- The body of a Spine message (Table 17.4). The data of a write carry whether they arrived poisoned. -/
inductive SpBody where
  | writeChan (items : List (BitVec 64)) (poison : Bool)
  | writeDram (offset : Nat) (data : List (BitVec 8)) (poison : Bool)
  | spikes (l : List (BitVec 64))
  | credit (credits applied : Nat)
  | writeError (first cause farTick : Nat)
  | fence (last : Nat)
  | fenceAck (last firstFailed : Nat)
  | streamCtl (op kind lag : Nat)
  | tickMark (ets : Nat)
  | timeMarker (tick : Nat) (op : MarkerOp)
  | globalOp (g : GlobalMsg)
  | summary (ents : List (Nat × Nat × Nat × Nat))
  | contract (l : List Nat)
  | join (j : JoinMsg)
deriving DecidableEq, Repr

/-- A Spine message (Tables 17.3 and 17.4): hops left, destination (0xFFFF the link peer), source, stream number, sequence and body. -/
structure SpMsg where
  hops   : Nat := 64
  dst    : Nat := 0xFFFF
  src    : Nat := 0
  stream : Nat := 0
  seq    : Nat := 0
  body   : SpBody
deriving DecidableEq, Repr

/-- An SPDM request (Table 16.4), with the session and the fields the device's state depends on. IDE key management programs
a key set of a stream that covers functions, starts it or stops it; a VF's TDISP messages travel in the secured session. -/
inductive SpdmReq where
  | getVersion | getCapabilities | negotiateAlgorithms | getDigests | getCertificate | challenge | getMeasurements
  | keyExchange (heartbeat : BitVec 8)
  | finish (session : Nat) (ok : Bool)
  | heartbeat (session : Nat)
  | keyUpdate (session : Nat)
  | endSession (session : Nat)
  | chunkSend | chunkGet
  | ideProg (session stream keySet : Nat) (fns : List Nat)
  | ideGo (session stream keySet : Nat)
  | ideStop (session stream : Nat)
  | tdispStart (session fn : Nat)
  | unsupported
deriving DecidableEq, Repr

/-- A lifecycle authorisation (Table 16.9) as read through its list; keys and digests are numbers. `vendor`: SIGNER_PUB digests
to the vendor key digest in ROM; `sigOk`: SIGNATURE verifies under SIGNER_PUB. -/
structure LifeAuth where
  magic    : BitVec 32
  target   : BitVec 8
  flags    : BitVec 8
  nPub     : BitVec 8
  rsvdNZ   : Bool
  uid      : BitVec 128
  vaultGen : BitVec 32
  signer   : Nat
  newOwner : Nat
  pubs     : List Nat
  vendor   : Bool
  sigOk    : Bool
deriving DecidableEq, Repr

/-- A firmware image (R425, R589): bytes, VERSION, security version and digest, and whether the vendor signature verifies. -/
structure FwImage where
  bytes   : Nat
  version : BitVec 32
  svn     : BitVec 8
  digest  : Nat
  sigOk   : Bool
deriving DecidableEq, Repr

/-- What a package loads into one tile and its router (R235, R248): the quire's index in the placement, key base, DUNIT − 1, neurons (Table
9.2 words), classes (Table 9.3) and route entries (Table 9.5). -/
structure SpkTileInit where
  quire   : Nat
  keyBase : Nat
  dunitM1 : Nat
  neurons : List (Nat × BitVec 96)
  classes : List (BitVec 128)
  routes  : List (Nat × BitVec 128)
deriving DecidableEq, Repr

/-- A multicast group of a package (Table 9.8): its number, routers by index in the placement, routers by quire number, Spine ports
and stream. -/
structure SpkGroup where
  num    : Nat
  quires : List Nat
  others : List Nat
  spine  : Nat
  stream : Nat
deriving DecidableEq, Repr

/-- The spiking part of a package: tiles, groups, attach settings (port and Table 9.12 word) and LAG. -/
structure SpkPart where
  tiles  : List SpkTileInit
  groups : List SpkGroup
  atts   : List (Nat × BitVec 64)
  lag    : Nat
deriving DecidableEq, Repr

/-- The header of an external sample (Table 11.4), with whether a reserved field is not 0. -/
structure SampleHdr where
  slot    : BitVec 8
  kind    : BitVec 8
  fmt     : BitVec 8
  flags   : BitVec 8
  count   : BitVec 32
  validNs : BitVec 64
  ageNs   : BitVec 64
  w       : BitVec 16
  h       : BitVec 16
  c       : BitVec 16
  rsvdNZ  : Bool
  seq     : BitVec 64
  bytes   : BitVec 64
deriving DecidableEq, Repr

/-- A UDP datagram of chapter 21 as it arrives: port, source, and the header of Table 21.6 with its data. -/
structure Datagram where
  udpPort : BitVec 16
  srcIp   : BitVec 32
  magic   : BitVec 16
  kind    : BitVec 8
  entry   : BitVec 8
  seq     : BitVec 32
  frag    : BitVec 16
  nfrag   : BitVec 16
  offset  : BitVec 32
  data    : List (BitVec 8)
deriving DecidableEq, Repr

/-- What an Ethernet frame carries, as far as a MAC tells frames apart (R547, R548, R552). -/
inductive EthBody where
  /-- An ARP request, or a Neighbor Solicitation, and whether it is for the port's address. -/
  | resolve (own : Bool)
  | ptp (domain : BitVec 8)
  | ipFragment | icmp | pause | udp | other
deriving DecidableEq, Repr

/-- A fusion job of a package: its number, descriptor and channel table (Table 11.1), and whether GRID_ADDR lies in DRAM. -/
structure FuJobInit where
  num   : Nat
  words : List (BitVec 64)
  chans : List (BitVec 64)
  dram  : Bool
deriving DecidableEq, Repr

/-- A source of a package (Table 11.2): its job, descriptor and map, the graph its channel leaves (0: the loading graph) and ASCU channel,
and its first transform bank. -/
structure FuSrcInit where
  job   : Nat
  words : List (BitVec 64)
  maps  : List (BitVec 32)
  fromG : Nat
  chan  : Nat
  bank  : List (BitVec 64)
  dram  : Bool
deriving DecidableEq, Repr

/-- The fusion section of a package: jobs, sources, and track sets as number and descriptor (Table 11.8). -/
structure FuPart where
  jobs : List FuJobInit
  srcs : List FuSrcInit
  sets : List (Nat × List (BitVec 64))
deriving DecidableEq, Repr

/-- A channel entry of a package: quire by index in the placement, entry number and what Table 5.9 gives it. -/
structure ChanInit where
  quire    : Nat
  chan     : Nat
  prod     : Nat
  cons     : Nat
  isRibbon : Bool
  base     : Nat
  isize    : Nat
  cap      : Nat
deriving DecidableEq, Repr

/-- A kernel object (Table 5.6): quire by index, the engine its load binds it to (4 VU, 5 and 6 SU harts), header bytes, channel
declarations, code, the channel entries bound, inputs first, and W of R143. -/
structure KernelInit where
  quire  : Nat
  engine : Nat
  hdr    : List (BitVec 8)
  decls  : List (BitVec 32)
  code   : List (BitVec 8)
  chans  : List Nat
  wait   : Nat
deriving DecidableEq, Repr

/-- A delta part: layer descriptors (Table 7.2), the quire of each band by index, and what the package states of its surface (R116). -/
structure DeltaPart where
  layers : List (List (BitVec 64))
  bands  : List (List Nat)
  surfD  : Nat
  tau2   : Nat
  mult   : Nat
deriving DecidableEq, Repr

/-- A DPP job of a package: its descriptor's eight words (Table 8.6), four words per level (Table 8.7), where its anchors lie. -/
structure DppInit where
  words  : List (BitVec 64)
  levels : List (List (BitVec 64))
  anchorDram : Bool
deriving DecidableEq, Repr

/-- A readout part: its header (Table 8.1), layers (Table 8.2), the stripes of each layer that ends a chain, where addresses lie, jobs, and
what the package states of the surface it samples. -/
structure ReadoutPart where
  sched    : Nat
  nLayers  : Nat
  nJobs    : Nat
  outChan  : Nat
  period   : Nat
  phase    : Nat
  srcGraph : Nat
  rsvdNZ   : Bool
  layers   : List (List (BitVec 64))
  stripes  : List (List (Nat × Nat × Nat))
  dramW    : List Nat
  dramB    : List Nat
  dramO    : List Nat
  scaleW   : List Nat
  scaleO   : List Nat
  jobs     : List DppInit
  surfD    : Nat
  tau2     : Nat
  mult     : Nat
deriving DecidableEq, Repr

/-- A binding block (Table 16.7): whether its fixed fields are as the table says, the UIDs of its entries, and whether the unwrap and the tag
succeed (R434). -/
structure BindBlk where
  fmtOk : Bool
  uids  : List Nat
  keyOk : Bool
deriving DecidableEq, Repr

/-- A Speop graph package as GRAPH_LOAD reads it; the manual gives the parts it holds, and no layout of the whole. `parses`: it is well
formed, and its channels cannot form a cycle of waits (R20). Keys and digests are numbers. Images are bytes for QSP (false) or SYS of a
quire by index, and for a DRAM window. -/
structure Package where
  bytes    : Nat
  parses   : Bool
  signer   : Nat
  vendor   : Bool
  sigOk    : Bool
  bind     : Option BindBlk
  progDigest : Nat
  wDigest  : Nat
  nQuires  : Nat
  chans    : List ChanInit
  kernels  : List KernelInit
  /-- Descriptor rings: quire, engine, base and LOG2N (Table 5.8). -/
  rings    : List (Nat × Bool × Nat × Nat)
  delta    : Option DeltaPart
  readout  : Option ReadoutPart
  spk      : Option SpkPart
  fu       : Option FuPart
  /-- ASCU channels taken: channel, Ristretto, quire and channel entry. -/
  auxs     : List (Nat × Bool × Nat × Nat)
  /-- Derived channels taken: port, Corner Unit, quire and channel entry. -/
  derived  : List (Nat × Bool × Nat × Nat)
  /-- Unit input channels (R457) taken: channel, quire and channel entry. -/
  unitIns  : List (Nat × Nat × Nat)
  images   : List (Nat × Bool × Nat × List (BitVec 8))
  dramImgs : List (Nat × Nat × List (BitVec 8))
  /-- Wake set (R31), streams it takes items from, unit channels it writes to with the stream behind each, and chip-level ones. -/
  wake     : List Nat
  streams  : List Nat
  egress   : List (Nat × Nat)
  units    : List Nat
  /-- Largest record it issues to a RESULT queue, in bytes. -/
  maxRec   : Nat
deriving DecidableEq, Repr

end Sys2Proof
end

