-- ==== Sys2Proof/Syntax.lean ====
section
/-! DEFINITION. The commands of the block: one constructor for each row of spec/opcode_table.json, those with operands first, in the table's order.
Rows 0 to 73 are the command packets of chapter 14 (each names its fetched packet); the others are the block's events, with what
their environment supplies as operands (log entry 3). -/
namespace Sys2Proof

/-- A command of the block. -/
inductive Instr where
  /-- R380. Admin fast-path command that does nothing and completes. -/
  | nop (h : CmdRef)
  /-- R380. Fast-path command that returns the queue table entry of one queue pair. -/
  | queueQuery (h : CmdRef) (q : BitVec 8)
  /-- R380. Returns the function number, slipcase, firmware version, device ID and lifecycle. -/
  | identify (h : CmdRef)
  /-- R346. Creates a queue pair from a 48-byte descriptor after checking its fields, kind and bind sizes. -/
  | qpCreate (h : CmdRef) (d : QpDesc)
  /-- R380. Deletes a queue pair other than queue 0 or the queue that carries the command. -/
  | qpDelete (h : CmdRef) (q : BitVec 8)
  /-- R367. PF0 command that resets a VF through the steps of Table 13.9. -/
  | functionReset (h : CmdRef) (func : BitVec 16)
  /-- R493. Command that completes and then starts a device reset within 10 µs. -/
  | deviceReset (h : CmdRef) (confirm : BitVec 32)
  /-- R392. Creates a slipcase, assigns quires, ports, regions, key slot, windows and overflow buffer, and sets it ACTIVE. -/
  | partitionCreate (h : CmdRef) (b : PartBody)
  /-- R394. Changes a slipcase's quires, ports and regions and advances its rule epoch. -/
  | partitionResize (h : CmdRef) (n : BitVec 8) (hoppers regions : BitVec 16)
  /-- R406. Moves a slipcase to a parked key slot through the scrub sequence. -/
  | partitionHandover (h : CmdRef) (slot : BitVec 16) (scrubUs : BitVec 32)
  /-- R395. Scrubs a slipcase with no loaded graph, frees its resources and parks its key slot. -/
  | partitionDestroy (h : CmdRef)
  /-- R408. Releases contracts, scrubs, aborts commands and unloads graphs, returning the slipcase to ACTIVE. -/
  | partitionReset (h : CmdRef)
  /-- R381. Assigns a VF to a slipcase or removes it. -/
  | vfAssign (h : CmdRef) (func : BitVec 16) (assign : BitVec 8)
  /-- R403. Installs a new rule table, advances RULE_EPOCH and drains or cancels old-epoch requests. -/
  | ruleUpdate (h : CmdRef) (flags : BitVec 8) (sgl : Sgl) (tbl : RuleTbl) (cancels : List (Nat × Nat × Nat × Nat))
  /-- R381. Sets a slipcase to EXACT or ADAPTIVE mode at its AT_TICK. -/
  | modeSet (h : CmdRef) (mode : BitVec 8)
  /-- R381. Fast-path command that returns a slipcase's state, mode, key slot and rule epoch. -/
  | partitionQuery (h : CmdRef)
  /-- R382. Reads, verifies, decrypts and places a Speop graph package in a slipcase. -/
  | graphLoad (h : CmdRef) (slip : BitVec 8) (sgl : Sgl) (p : Package)
  /-- R382. Unloads a graph that carries no contract. -/
  | graphUnload (h : CmdRef)
  /-- R588. Starts a LOADED or STOPPED graph, beginning a start rebase for a delta part. -/
  | graphStart (h : CmdRef)
  /-- R382. Stops a graph that carries no contract, ending its state in service. -/
  | graphStop (h : CmdRef)
  /-- R362. Binds a graph's records to a RESULT queue number of a function of its slipcase. -/
  | graphBind (h : CmdRef) (func : BitVec 16) (q : BitVec 8)
  /-- R193. Reads a read-point layer at tick τ and writes a virtual-frame record through a list. -/
  | vframeRead (h : CmdRef) (layer form : BitVec 8) (sgl : Sgl)
  /-- R201. Schedules a readout instant of a COMMAND-scheduled graph at AT_TICK. -/
  | readoutAt (h : CmdRef)
  /-- R382. Fast-path command that returns a graph's state, rebase phase, contract and switch tick. -/
  | graphQuery (h : CmdRef)
  /-- R332. Computes worst cases for a contract and all admitted ones, then admits or refuses it. -/
  | contractAdmit (h : CmdRef) (d : ConDesc) (srcs : List ConSrc) (plan : AdmitPlan)
  /-- R334. Ends a contract's guarantee at its tick and clears unneeded limiters. -/
  | contractRelease (h : CmdRef) (arbs : List (Nat × Nat))
  /-- R383. Writes a 128-byte report of a contract's state and counters. -/
  | contractQuery (h : CmdRef) (sgl : Sgl)
  /-- R328. Sets device-wide contract shares, CONTRACT_STEP, ALLOW and recovery reserve while no contract is admitted. -/
  | contractPolicy (h : CmdRef) (dram spine host step : BitVec 8) (allow win : BitVec 16) (reserve : BitVec 8)
  /-- R384. Loads a port's whole hot-pixel mask from a list. -/
  | portHotmaskLoad (h : CmdRef) (port : BitVec 8) (sgl : Sgl) (mask : List Nat)
  /-- R384. Sets or clears up to 64 hot-pixel mask bits. -/
  | portHotmaskEdit (h : CmdRef) (port : BitVec 8) (entries : List (BitVec 32))
  /-- R384. Binds a port's event ring to an EVENT queue. -/
  | portEvringBind (h : CmdRef) (port : BitVec 8) (func : BitVec 16) (q : BitVec 8)
  /-- R41. Stages a change of TICK_LEN at AT_TICK, refused while anything that counts in ticks is in use. -/
  | timeSetTick (h : CmdRef) (q : BitVec 8) (farInUse : Bool)
  /-- R55. Accepts a refused jump: moves TU_EPOCH_SRC on the root, or steps SYSTIME on a non-root device. -/
  | timeAcceptJump (h : CmdRef) (rootSys : BitVec 64) (rootTick : BitVec 64)
  /-- R384. Fast-path command that returns SYSTIME, ETS and the time state. -/
  | timeQuery (h : CmdRef)
  /-- R286. Delivers an external sample to a fusion source slot, checked and retained. -/
  | fusionSamplePut (h : CmdRef) (slot : BitVec 8) (sgl : Sgl) (d : SampleHdr) (b : List (BitVec 8)) (arrival : BitVec 64)
  /-- R294. Loads a transform table and meshes into the bank of a slot that is not in service. -/
  | fusionXformSet (h : CmdRef) (slot : BitVec 8) (words : List (BitVec 64)) (dram : Bool) (sgl : Sgl) (meshes : List (BitVec 8))
  /-- R385. Frees every track of a set at the first cycle at or after AT_TICK. -/
  | trackClear (h : CmdRef) (set : BitVec 8)
  /-- R249. Changes Kettle route entries at AT_TICK, or while the spiking graph is stopped. -/
  | spikeRouteSet (h : CmdRef) (qi : BitVec 8) (ents : List (BitVec 16 × BitVec 128))
  /-- R243. Writes SYS synapse rows between settlements at AT_TICK. -/
  | spikeWeights (h : CmdRef) (qi : BitVec 8) (addr bytes : BitVec 32) (sgl : Sgl) (data : List (BitVec 8))
  /-- R239. Returns neuron states as they stand after settlement of AT_TICK. -/
  | spikeStateRead (h : CmdRef) (qi : BitVec 8) (first count : BitVec 16) (sgl : Sgl)
  /-- R385. Writes an ASCU fetch entry. -/
  | auxFetchSet (h : CmdRef) (f : BitVec 8) (e : BitVec 128)
  /-- R385. Writes the source, chain, output and time settings of a disabled ASCU channel. -/
  | auxChanSet (h : CmdRef) (c : BitVec 8) (src chain out time : BitVec 64)
  /-- R277. Enables or disables an ASCU channel, checking its settings and computing its holds. -/
  | auxChanEnable (h : CmdRef) (c en : BitVec 8)
  /-- R272. Loads the FIR coefficient bank that is not in service and reports its symmetry. -/
  | auxCoefLoad (h : CmdRef) (c stage taps shift : BitVec 8) (coef : List (BitVec 16))
  /-- R272. Stages a swap of FIR coefficient banks, completing at the swap. -/
  | auxCoefSwap (h : CmdRef) (c stages : BitVec 8)
  /-- R430. The Security Engine writes a signed Colophon report with the given nonce. -/
  | colophonGet (h : CmdRef) (nonce : BitVec 256) (sgl : Sgl)
  /-- R427. Passes one SPDM request to the SE responder and writes its response. -/
  | spdmMessage (h : CmdRef) (req rsp : Sgl) (reqBytes : BitVec 32) (r : SpdmReq)
  /-- R396. Generates a new memory key in a slot that is not in service. -/
  | keySlotGen (h : CmdRef) (slot : BitVec 16)
  /-- R396. Destroys a slot's key, makes its granules DIRTY and the slot EMPTY. -/
  | keySlotErase (h : CmdRef) (slot : BitVec 16)
  /-- R425. Reads and verifies a firmware image into the service area. -/
  | fwStage (h : CmdRef) (sgl : Sgl) (img : FwImage)
  /-- R426. Commits the staged firmware, updates the vault and restarts the CP on it. -/
  | fwCommit (h : CmdRef)
  /-- R437. Returns a fresh debug nonce in OWNER_PROVISION or FIELD. -/
  | debugChallenge (h : CmdRef) (sgl : Sgl)
  /-- R438. Checks a signed response and opens debug after resetting slipcases and erasing keys. -/
  | debugResponse (h : CmdRef) (sgl : Sgl) (sigOk : Bool)
  /-- R435. Moves the lifecycle forward under a signed authorisation, committed as a vault update. -/
  | lifecycleAdvance (h : CmdRef) (target : BitVec 8) (sgl : Sgl) (auth : LifeAuth)
  /-- R502. Schedules a local or binding-wide counter snapshot at AT_TICK. -/
  | cuppingSchedule (h : CmdRef) (flags : BitVec 8)
  /-- R504. Fast-path read of one counter's shadow from the latest snapshot. -/
  | snapshotRead (h : CmdRef) (snapId counter : BitVec 32)
  /-- R508. Writes alarm table entries visible to the function. -/
  | alarmRead (h : CmdRef) (sgl : Sgl)
  /-- R508. Frees or acknowledges the alarm entries of one cause. -/
  | alarmAck (h : CmdRef) (cause : BitVec 16)
  /-- R509. Names the LOG queue and sets log and trace caps and the trace mask. -/
  | logConfig (h : CmdRef) (func : BitVec 16) (q : BitVec 8) (logCap traceCap : BitVec 16) (mask : BitVec 64)
  /-- R387. Fast-path command that returns the safety state, flags and spare count. -/
  | safetyQuery (h : CmdRef)
  /-- R484. Sets the known-answer test interval. -/
  | katIntervalSet (h : CmdRef) (ms : BitVec 8)
  /-- R489. Releases the FAULT pins when no pin-asserting cause is present. -/
  | safeStateClear (h : CmdRef)
  /-- R558. Clears retry counts of named field outputs and drives latched ones again. -/
  | outputRelease (h : CmdRef) (mask : BitVec 16)
  /-- R387. Injects a fault of a given source in VENDOR_TEST or with debug opened. -/
  | faultInject (h : CmdRef) (source : BitVec 8)
  /-- R455. Makes the device a binding root or joins it to a binding through a parent port. -/
  | bindingJoin (h : CmdRef) (dev : BitVec 16) (parent : BitVec 8)
  /-- R457. Opens, or reopens after poison, the local end of a Spine stream. -/
  | streamOpen (h : CmdRef) (n peer : BitVec 16) (kind lag : BitVec 8) (group : BitVec 16) (rate : BitVec 64) (farOpen : Bool)
  /-- R461. Closes both ends of a stream once earlier writes are applied or refused. -/
  | streamClose (h : CmdRef) (n : BitVec 16)
  /-- R462. Sends FENCE on a write stream and completes on FENCE_ACK with the first failure. -/
  | writeFence (h : CmdRef) (peer n : BitVec 16)
  /-- R466. Joins a binding-wide barrier that completes at the release tick. -/
  | barrier (h : CmdRef) (id : BitVec 32)
  /-- R465. Sends up to 4 KiB to every member of the binding at AT_TICK. -/
  | broadcast (h : CmdRef) (sgl : Sgl) (payload : List (BitVec 8))
  /-- R465. On the root, schedules a device reset of every member at AT_TICK. -/
  | bindingReset (h : CmdRef)
  /-- R388. Sets whether armed idle or Warmer-only idle is allowed. -/
  | powerPolicy (h : CmdRef) (idle : BitVec 8)
  /-- R527. Sets a slipcase's power share for the ADAPTIVE governor. -/
  | governorSet (h : CmdRef) (mw : BitVec 32)
  /-- R388. Fast-path command that returns power and temperature. -/
  | powerQuery (h : CmdRef)
  /-- R355. A staged command takes effect at the start of its AT_TICK in class-5 order. -/
  | stagedCommandEffect (farBad : Bool)
  /-- R349. Host doorbell write of a submission tail, checked against the ring. -/
  | sqTail (fn : BitVec 12) (q : BitVec 8) (v : BitVec 32)
  /-- R349. Host doorbell write of the consumer index of a completion or entry ring, freeing entries and buffers. -/
  | head (fn : BitVec 12) (q : BitVec 8) (v : BitVec 32)
  /-- R344. Write of FN_CTL.EN that checks FN_ADMQ_CFG and starts the admin queue. -/
  | fnCtlEn (fn : BitVec 12) (en : Bool)
  /-- R367. W1S of FN_CTL.RESET that starts a function reset. -/
  | fnCtlReset (fn : BitVec 12)
  /-- R563. Host write to a register without behaviour of its own, applied, staged or refused by width and target. -/
  | registerWrite (fn : BitVec 12) (off : BitVec 28) (width : Nat) (be : BitVec 8) (v : BitVec 64)
  /-- R565. 4-byte read of the low half of a 64-bit register that latches the whole register. -/
  | lowHalfRead (fn : BitVec 12) (off : BitVec 28)
  /-- R569. PF0 read of an SFM, QSP or SYS data window through bank arbiter input 0. -/
  | dataWindowRead (off : BitVec 28) (width : Nat) (granted : Bool) (eccBad : Bool)
  /-- R568. A request to an address outside every BAR or to a disabled VF is answered Unsupported Request. -/
  | unsupportedRequest (fn : BitVec 12) (off : BitVec 64) (isWrite : Bool)
  /-- R91. Write of HOP_CTL.EN = 1 that checks geometry and starts the port afresh, or 0 that disables it. -/
  | hopCtlEn (n : BitVec 4) (v : BitVec 32)
  /-- R71. Write of HOP_DEC_CFG that loads a built-in preset or selects CUSTOM. -/
  | hopDecCfg (n : BitVec 4) (v : BitVec 32)
  /-- R97. Write that enables a surface, checking its settings and starting the region clear, or disables it. -/
  | sfmSurfCfgEn (r : BitVec 4) (v : BitVec 32)
  /-- R107. Write that enables or disables the Corner Unit after range checks. -/
  | crnCfgEn (r : BitVec 4) (v : BitVec 32)
  /-- R111. Write that enables or disables the Flow Unit after range checks. -/
  | flowCfgEn (r : BitVec 4) (v : BitVec 32)
  /-- R443. Write of SPN_CTL.EN that enables a Spine port or takes it DOWN. -/
  | spnCtlEn (p : BitVec 2) (en : Bool)
  /-- R444. W1S of SPN_CTL.RETRAIN that forces a retrain. -/
  | spnCtlRetrain (p : BitVec 2)
  /-- R452. Write of a route entry, accepted only while no stream's path uses it. -/
  | spnRoute (w : BitVec 12) (v : BitVec 64)
  /-- R454. Write of TICK_LEAD_MAX, clamped and raised to the binding's largest L_dev on the root and sent down as a marker. -/
  | tuTickLead (v : BitVec 32)
  /-- R475. Write of a cause's reaction, stored at no less than its minimum. -/
  | siReact (c : BitVec 5) (v : BitVec 32)
  /-- R46. A consumer finds a tick closed once every feeding channel has delivered its mark. -/
  | tickClosed (g : BitVec 32)
  /-- R17. A unit starts an operation once its input tokens and output credits are present. -/
  | channelOperationStart (q : BitVec 7) (e : BitVec 4) (ins outs : List (Nat × Nat)) (writes : List (Nat × List (BitVec 8))) (items : List (Nat × BitVec 64))
  /-- R21. An arbiter grants the highest unmasked requesting input. -/
  | arbiterGrant (k : BitVec 28) (reqs : BitVec 64)
  /-- R22. An arbiter window ends: counts reset, masks lift and new settings apply. -/
  | arbiterWindowStart (k : BitVec 28)
  /-- R53. A synchronisation from the time source is filtered and slewed, or a jump refused. -/
  | syncReceived (src : BitVec 4) (time off : BitVec 64) (freq res : BitVec 32)
  /-- R49. A candidate delivers valid sync for QUAL_TIME and may become the followed source. -/
  | sourceQualified (src : BitVec 4)
  /-- R51. No valid sync for LOSS_TIME: the device changes source or enters HOLDOVER. -/
  | sourceLost (src : BitVec 4)
  /-- R31. Start of transmission on a sleeping Hopper raises a wake request for its wake sets. -/
  | hopperWake (n : BitVec 4)
  /-- R83. A CSI-2 long packet is received into the packet buffer, checked and stamped at arrival. -/
  | packetReceive (n : BitVec 4) (p : LinkPkt)
  /-- R66. A Frame Start, Frame End or ignored short packet is taken for resynchronisation and sequence checks. -/
  | shortPacket (n : BitVec 4) (dt : BitVec 6) (vc : BitVec 4) (hdr : BitVec 2)
  /-- R90. Lane synchronisation lost in HS drops the packet and re-locks at the next SoT. -/
  | linkErr (n : BitVec 4) (dt : BitVec 6) (vc : BitVec 4) (wordCount : BitVec 16)
  /-- R90. An escape command other than ULPS entry or an LP turnaround is ignored and counted. -/
  | escErr (n : BitVec 4)
  /-- R63. A buffered packet is decoded and its events range-checked, time-checked, masked, rate-limited and stamped. -/
  | frontEndDecode (n : BitVec 4)
  /-- R86. An item passes the refractory and rank filters, its DT16 entry is written and it is handed to channels. -/
  | itemPipeline (n : BitVec 4)
  /-- R86. An item waiting in a channel's spill queue is placed when a credit returns. -/
  | spillQueueDrain (n : BitVec 4)
  /-- R79. The port sweeps its cell map and clears entries older than 8,192 ticks. -/
  | cellMapSweep (n : BitVec 4)
  /-- R98. The clear after surface enable ends and ORIGIN is set at the next tick boundary. -/
  | regionClear (r : BitVec 4)
  /-- R101. A surface passes to a new epoch and every beat becomes previous-generation. -/
  | epochChange (r : BitVec 4)
  /-- R101. The background sweep converts every remaining beat to the current generation. -/
  | generationSweep (r : BitVec 4)
  /-- R106. The Corner Unit tests the rings of an item in the pre-tick view and may issue a corner record. -/
  | cornerTest (n : BitVec 4)
  /-- R108. The Flow Unit fits a plane to an item's window and may issue a flow record. -/
  | flowFit (n : BitVec 4)
  /-- R113. A derived record waiting in a spill queue is placed when credit returns. -/
  | derivedSpillDrain (n : BitVec 4) (corner : Bool)
  /-- R185. At the first tick of a new surface epoch, SNAP bits are set, the log is marked and the target bank chosen. -/
  | rebaseStart (g : BitVec 32)
  /-- R186. The sweep emits a remaining SNAP beat into the snapshot channel. -/
  | snapshotSweep (r : BitVec 4)
  /-- R188. A rebase phase (COPY, REBUILD, REPLAY) ends and the next begins. -/
  | rebasePhaseEnd (g : BitVec 32)
  /-- R189. At S_k the target bank becomes the state in service. -/
  | rebaseSwitch (g : BitVec 32)
  /-- R190. A rebase not caught up by S_k, or a full log, fails and a new rebase starts. -/
  | rebaseFail (g : BitVec 32)
  /-- R191. A Brew that finds the anchor passed starts a wake rebase. -/
  | wakeRebase (g : BitVec 32)
  /-- R588. At START_TICK a graph's start rebase begins. -/
  | startRebase (g : BitVec 32)
  /-- R179. An item or delta reaches a delta layer and its accumulators are updated. -/
  | dxeInput (g : BitVec 32) (layer : BitVec 6) (bank : Bool)
  /-- R179. Once a tick closes, a layer evaluates dirty records and sends deltas past GRIND. -/
  | dxeSettle (g : BitVec 32) (layer : BitVec 6) (bank : Bool)
  /-- R193. A layer with READ_PERIOD is read at its period and the record written to READ_CHAN. -/
  | scheduledRead (g : BitVec 32) (layer : BitVec 6)
  /-- R192. A read point copies its elements after settling tick τ. -/
  | vframeCopy (h : CmdRef)
  /-- R128. An Access Engine checks and starts the next descriptor of its ring. -/
  | descriptorStart (q : BitVec 7) (e : Bool)
  /-- R128. A descriptor completes, posts its token in ring order and retires. -/
  | descriptorComplete (q : BitVec 7) (e : Bool) (bad : List Nat)
  /-- R134. A segment passes the detection window and its held writes, tokens and items take effect. -/
  | segmentCommit (q : BitVec 7) (e : BitVec 4)
  /-- R135. A detected timing error discards the segment, steps the clock down and re-executes. -/
  | replay (q : BitVec 7) (engines : BitVec 8) (stepping : Bool) (cycles : BitVec 8)
  /-- R138. After 65,536 clean cycles the quire moves one step up. -/
  | stepUp (q : BitVec 7)
  /-- R139. At the end of a replay window the count is checked against ALLOW. -/
  | replayWindowEnd (q : BitVec 7)
  /-- R142. A kernel starts when its tokens and credits are present and posts outputs at its end. -/
  | kernelInvocation (q : BitVec 7) (k n : BitVec 16) (writes : List (Nat × List (BitVec 8))) (items : List (Nat × BitVec 64)) (tail0 tail1 : Option (BitVec 12))
  /-- R143. An invocation reaching LIMIT(n) + 1 cycles is stopped and reported. -/
  | kernelOverrun (q : BitVec 7) (k n : BitVec 16) (cycles : BitVec 32)
  /-- R144. A quire's memories and state are cleared within 8 µs. -/
  | quireScrub (q : BitVec 7)
  /-- R146. A failed quire is fenced, drained and a spare chosen and loaded. -/
  | quireRetirement (q : BitVec 7)
  /-- R146. The spare takes over at a tick boundary and the live map is updated. -/
  | quireTakeover (q : BitVec 7)
  /-- R201. A readout instant falls due and its input gathering begins or it is skipped. -/
  | readoutInstant (g : BitVec 32)
  /-- R204. Slot bits are set on the sample window after stage 8 has written tick T. -/
  | sampleSlotSet (r : BitVec 4)
  /-- R205. The sweep emits a remaining slot beat into the sample channel. -/
  | sampleSweep (r : BitVec 4)
  /-- R207. Every beat of the window is written and the slot is freed. -/
  | sampleComplete (r slot : BitVec 4)
  /-- R209. A VFIN layer takes a virtual-frame record and converts its elements. -/
  | vfinRecord (g : BitVec 32)
  /-- R219. The AXE evaluates one stripe of a fused chain once its tokens are present. -/
  | stripeEvaluation (g : BitVec 32) (layer : BitVec 6) (st : BitVec 12)
  /-- R221. The EGE evaluates an output row once its input row token is posted. -/
  | egeRow (g : BitVec 32) (layer : BitVec 6) (st : BitVec 12)
  /-- R225. A granted DPP job scores, decodes, suppresses and issues a detection set. -/
  | dppJob (g : BitVec 32) (j : BitVec 2) (readOk : Bool)
  /-- R232. A tile settles tick n at the later of tick n + LAG and the end of tick n − 1. -/
  | settlement (q : BitVec 7) (bad : List Nat)
  /-- R234. A delivery reaches the tile's spike buffer or is dropped LATE or TILE_FULL. -/
  | spikeDelivery (q : BitVec 7)
  /-- R245. A spike is matched against the Kettle router table and its actions taken. -/
  | routerLookup (q : BitVec 7) (fromTile : Bool) (hops : List (BitVec 8))
  /-- R246. A delay queue releases a spike when ETS reaches n_i − 1. -/
  | delayQueueRelease (q : BitVec 7) (loop : Bool)
  /-- R247. The crossbar copies a spike to every destination of its group. -/
  | kxbCopy (hops : List (BitVec 8))
  /-- R251. A Hopper event item becomes an attach spike sent to its group. -/
  | attachSpike (n : BitVec 4)
  /-- R238. After settling a tick multiple of 2^28, neurons with old T_LAST are renewed. -/
  | renewalSweep (q : BitVec 7)
  /-- R263. An IBI, GPIO edge or periodic grid instant triggers an ASCU fetch and stamps it. -/
  | fetchTrigger (f : BitVec 4) (t : BitVec 64)
  /-- R265. A bus transaction completes and its channels receive input values. -/
  | fetchComplete (bus : BitVec 2) (ok : Bool) (data : List (BitVec 8))
  /-- R268. In its slot a channel takes an input, advances its filters and computes outputs. -/
  | channelSlot (c : BitVec 5)
  /-- R285. An internal record or item reaches a fusion source and is retained. -/
  | fusionInput (slot : BitVec 6)
  /-- R295. Fusion of an instant starts when sources are closed or at WAIT_MAX. -/
  | fusionStart (j : BitVec 3)
  /-- R307. The TM processes the batches of an instant and issues a track record. -/
  | trackCycle (t : BitVec 3)
  /-- R550. A UDP sample fragment is matched and reassembled. -/
  | pointCloudDatagram (e : BitVec 1) (d : Datagram) (arrival : BitVec 64)
  /-- R552. A received Ethernet frame is filtered and passed on or dropped. -/
  | ethFrame (e : BitVec 1) (fcsBad : Bool) (len : BitVec 16) (tag : Option (BitVec 12)) (b : EthBody)
  /-- R551. An issued record is sent in KIND RECORD datagrams by an egress entry. -/
  | egressDatagram (k : BitVec 4)
  /-- R338. After a retirement with no spare the Contract Manager re-plans and gives notice. -/
  | contractReplan (n : Nat)
  /-- R338. At the revocation tick a contract's limiters and quotas are withdrawn and its graph stops. -/
  | contractRevoked (c : BitVec 32) (arbs : List (Nat × Nat))
  /-- R350. The device fetches a covered packet after reserving a completion entry and checks it. -/
  | packetFetch (fn : BitVec 12) (q : BitVec 8) (p : Packet) (readOk : Bool)
  /-- R352. A completion entry is written with PHASE last. -/
  | completionWrite (fn : BitVec 12) (q : BitVec 8)
  /-- R320. The host-link egress writes a record's payload, header and ring entry. -/
  | recordIssue (r : Nat)
  /-- R363. A record held in the overflow buffer leaves when its ring has room. -/
  | overflowDrain (slip : BitVec 6)
  /-- R364. A vector's moderation condition is met and its MSI-X message is sent. -/
  | msixMessage (fn : BitVec 12) (v : BitVec 11)
  /-- R537. A failed read of submission slots is retried after 1 ms, stopping the queue after three. -/
  | submissionReadRetry (fn : BitVec 12) (q : BitVec 8) (ok : Bool)
  /-- R536. A PCIe Function Level Reset resets the function. -/
  | pcieFlr (fn : BitVec 12)
  /-- R536. Fundamental reset or its UCIe equivalent starts a device reset, and its deassertion ends WARMER_ONLY. -/
  | perst (assert : Bool)
  /-- R543. A poisoned write TLP is dropped and reported. -/
  | poisonedTlp (fn : BitVec 12) (off : BitVec 64)
  /-- R538. A data object in PF0's DOE mailbox is answered by the SE or refused. -/
  | doeRequest (proto : BitVec 8) (len : BitVec 32) (r : SpdmReq)
  /-- R539. A TLP failing its IDE check is discarded and the stream goes Insecure. -/
  | ideCheckFailed (n : BitVec 8)
  /-- R540. TDISP LOCK_INTERFACE locks a VF of an ACTIVE slipcase, sealing it. -/
  | lockInterface (fn : BitVec 12)
  /-- R540. TDISP STOP_INTERFACE resets the VF. -/
  | stopInterface (fn : BitVec 12)
  /-- R403. Old-epoch requests complete or are cancelled and the rule change completes. -/
  | ruleDrain (slip : BitVec 6)
  /-- R418. 100 ms after a failure the TRNG restarts and repeats its start-up test. -/
  | trngRestart (pass : Bool)
  /-- R443. Signal at both ends of an enabled DOWN link starts training. -/
  | signalPresent (p : BitVec 2)
  /-- R443. Lanes lock and pass the test, and the link enters AUTH. -/
  | trainingDone (p : BitVec 2) (lanes : BitVec 5) (rtt cable : BitVec 32)
  /-- R445. Peers exchange certificates and keys, and the link goes UP or DOWN. -/
  | auth (p : BitVec 2) (verified : Bool) (life : BitVec 3) (debug : Bool) (peer : BitVec 16)
  /-- R443. A DOWN link retries bring-up every 10 ms. -/
  | linkRetry (p : BitVec 2) (signal : Bool)
  /-- R444. Lost lock or excess NAKs retrain the link, retiring failed lanes. -/
  | retrain (p : BitVec 2) (lanes : BitVec 5) (transit : List (Nat × Nat × Nat × Nat))
  /-- R460. A link goes DOWN and streams, spikes and global operations over it fail. -/
  | linkDown (p : BitVec 2) (transit : List (Nat × Nat × Nat × Nat))
  /-- R447. After 2^32 messages or 1 h the link rekeys without stopping traffic. -/
  | rekey (p : BitVec 2)
  /-- R442. A flit is checked, taken in sequence or discarded with NAK. -/
  | flitReceive (p : BitVec 2) (kind : BitVec 3) (seq ack : BitVec 12) (crcOk : Bool)
  /-- R442. A NAK makes the sender resend every flit after ACK. -/
  | nakReplay (p : BitVec 2) (ack : BitVec 12)
  /-- R452. A received message is verified and forwarded or delivered by the route table. -/
  | messageForward (p : BitVec 2) (m : SpMsg) (tagOk fieldsOk : Bool)
  /-- R458. A stream write of channel items is applied at the receiving end in SEQ order. -/
  | writeChan (p : BitVec 2) (m : SpMsg)
  /-- R458. A stream write to a DRAM window is applied at the receiving end. -/
  | writeDram (p : BitVec 2) (m : SpMsg)
  /-- R463. A SPIKES message enters the KXB at the receiving port. -/
  | spikes (p : BitVec 2) (m : SpMsg)
  /-- R463. A SPIKES message is sent when full or 50 ns after its first spike. -/
  | spikesSend (n : BitVec 12)
  /-- R458. A CREDIT message grants write credits and reports APPLIED_SEQ. -/
  | credit (p : BitVec 2) (m : SpMsg)
  /-- R459. A WRITE_ERROR poisons the sending end and writes a function event. -/
  | writeError (p : BitVec 2) (m : SpMsg)
  /-- R462. A FENCE message is answered with FENCE_ACK once earlier writes are settled. -/
  | fence (p : BitVec 2) (m : SpMsg)
  /-- R462. A FENCE_ACK completes the WRITE_FENCE command. -/
  | fenceAck (p : BitVec 2) (m : SpMsg)
  /-- R457. A stream control message opens, reopens, closes, acknowledges or refuses a stream end. -/
  | streamCtl (p : BitVec 2) (m : SpMsg)
  /-- R458. A tick-end mark of a channel stream arrives over Spine. -/
  | tickMark (p : BitVec 2) (m : SpMsg)
  /-- R464. Every 1 ms a child exchanges TIME_SYNC flits with its parent and steers SYSTIME. -/
  | timeSync (p : BitVec 2) (time off : BitVec 64) (freq res : BitVec 32)
  /-- R464. A class-6 marker from the root is inserted at its effective tick. -/
  | timeMarker (p : BitVec 2) (m : SpMsg)
  /-- R455. A JOIN message is checked at the root and routes are written along the path. -/
  | join (p : BitVec 2) (m : SpMsg)
  /-- R465. A global operation message travels the tree and takes effect at its AT_TICK. -/
  | globalOp (p : BitVec 2) (m : SpMsg)
  /-- R340. A contract part is evaluated on the hosting device and the reply returned. -/
  | contractPart (p : BitVec 2) (m : SpMsg) (plan : AdmitPlan)
  /-- R512. Once per ms a member sends changed alarm summaries to its parent, which merges them. -/
  | alarmSummary (p : BitVec 2) (ents : List (Nat × Nat × Nat × Nat))
  /-- R377. A remote part not answered within its bound completes with TIMEOUT and is undone. -/
  | remoteSilent (h : CmdRef)
  /-- R474. The SI receives a class-7 fault and applies its reaction. -/
  | internalFault (source cause : BitVec 8) (slip : BitVec 8) (info : BitVec 32)
  /-- R478. At tick n + 2 the SI compares the pair's signatures of tick n. -/
  | pairCompare (primary : BitVec 7) (n : BitVec 64) (sigA sigB : Option (BitVec 64)) (dropA dropB : BitVec 32) (passA passB : Bool)
  /-- R482. The kept quire or spare receives the partner's state and the compare resumes. -/
  | pairResync (primary : BitVec 7)
  /-- R484. A unit runs its known-answer test once per KAT interval. -/
  | katRun (source : BitVec 8) (pass : Bool) (engine : BitVec 8)
  /-- R487. A DPP, FU or TM datapath mismatch reruns the job from retained inputs. -/
  | lockstepUnit (source slip : BitVec 8)
  /-- R472. A clock more than 2 % off for 1 µs, or a failed crystal or oscillator, is reported. -/
  | clockMon (oscillator : Bool)
  /-- R472. A rail out of window for 1 µs or a falling PWR_GOOD is reported. -/
  | supplyMon (r : BitVec 3) (mv : Int) (goodFell : Bool)
  /-- R585. The junction passes 115 °C and THERMAL is raised until below 105 °C. -/
  | thermal (tempC : Int)
  /-- R490. Two samples showing a request on the SAFE_IN pair raise a safe-state request. -/
  | safeInReq (a b : BitVec 2)
  /-- R490. The SAFE_IN inputs disagree for more than 10 µs. -/
  | safeInDisagree (a b : BitVec 2)
  /-- R490. A request ends after valid non-request levels for SAFEIN_RELEASE. -/
  | safeInRelease (a b : BitVec 2)
  /-- R489. Readback of the FAULT pins every 1 µs finds a mismatch. -/
  | faultPin (a b : Bool)
  /-- R558. Three mismatched readbacks put a field output high-Z or latch it. -/
  | outputContention (n : BitVec 4)
  /-- R493. A device reset fences, resets functions, destroys keys, self-tests and boots. -/
  | deviceResetSequence (active retired : BitVec 68) (pass : Bool)
  /-- R516. A domain idle for DOM_IDLE_US enters its armed-idle state. -/
  | domainIdle (d : BitVec 6) (idleUs wakeUs : BitVec 32)
  /-- R33. A wake powers the wake set's domains, locks PLLs and restores state. -/
  | brew (ns : BitVec 32)
  /-- R520. A scheduled tick needing a sleeping domain starts a Brew 15 µs ahead. -/
  | timerWake (tick : BitVec 64) (doms : BitVec 48)
  /-- R525. Every 100 µs the power sum is checked and one limiter action taken or lifted. -/
  | limiterWindow (total : BitVec 32) (clusters : List (BitVec 32))
  /-- R527. Every 100 µs the governor adjusts steps, voltage and GRIND of an ADAPTIVE slipcase. -/
  | governorWindow (slip : BitVec 6)
  /-- R521. Every 1 ms the Warmer checks the crystal against the time oscillator. -/
  | crystalCheck (ppm : BitVec 32) (running timeOk : Bool)
  /-- R528. VDD_AON entering its window starts power-on reset, strap sampling, rail enables, self-test and boot. -/
  | powerUp (straps : List (BitVec 2))
  /-- R531. Loss of VDD_AON takes the whole device down at once. -/
  | vddAonLoss (cut : BitVec 2)
  /-- R530. The host delivers a firmware image through the boot mailbox and it is verified and started. -/
  | hostBootImage (img : FwImage)
  /-- R510. An alarm record is built from a created or rising entry, at most once per ms. -/
  | alarmRecordEgress (i : BitVec 8)
  /-- R557. A trigger output goes active at its grid instant for WIDTH_US. -/
  | trigOut (n : BitVec 3) (k : BitVec 64) (fall : Bool)
  /-- R557. SYNC_OUT pulses at each second or each Nth tick. -/
  | syncOut (fall : Bool)
  /-- R553. An in-band interrupt is acknowledged and triggers its fetch or is ignored. -/
  | ibi (i : BitVec 1) (addr : BitVec 7) (t : BitVec 64)
  /-- R553. A Hot-Join is accepted while HJ_EN = 1, otherwise NACKed. -/
  | hotJoin (i : BitVec 1)
  /-- R553. SDA held low for 1 ms triggers bus recovery. -/
  | i3cStuck (i : BitVec 1)
  /-- R544. Every 100 ms the DRAM error count is read. -/
  | dramEcsRead (counts : List Nat)
  /-- R544. Every 100 ms each channel is retrained. -/
  | wck2dqRetraining (c : BitVec 3)
  /-- R578. A PWR_GOOD input rises: a rail returns so power-up resumes at step 4, or, with its RAIL_EN deasserted, it is ignored and counted in PWR_RAIL_FAILS. -/
  | pwrGood (r : BitVec 2) (active retired : BitVec 68) (pass : Bool)
  /-- R66. The sensor puts the clock and data lanes of a Hopper link into ULPS, and HOP_STATUS.LINK reports ULPS. -/
  | ulpsEntry (n : BitVec 4)
  /-- R341. The host writes VF Enable or NumVFs in PF0's SR-IOV capability, bringing VFs into existence or removing them. -/
  | vfEnable (en : Bool) (num : BitVec 16)
  /-- R364. A masked MSI-X vector with its PBA bit set is unmasked and its held message is sent. -/
  | vectorUnmask (fn : BitVec 12) (v : BitVec 11)
  /-- R552. An Ethernet port loses link or block lock, sets LINK_DOWN in XIO_ERR and counts toward LOSS_TIME of its PTP source. -/
  | ethLinkLoss (e : BitVec 1)
  /-- R548. The PTP slave on an Ethernet port sends its delay-request or peer-delay message so that the path delay can be measured. -/
  | delayRequest (e : BitVec 1)
  /-- R555. A JTAG boundary-scan instruction such as EXTEST is shifted in and drives the pins, FAULT_A and FAULT_B included. -/
  | extest (pins : List (Nat × Nat))
  /-- R562. A host read of a register is refused with Completer Abort when unaligned, too wide or spanning, or first starts a Brew of a sleeping domain. -/
  | registerRead (fn : BitVec 12) (off : BitVec 28) (width : Nat) (be : BitVec 8)
  /-- R498. W1S that locks the SIM configuration until device reset. -/
  | siLock
  /-- R40. SYSTIME reaches a tick boundary and TICK_COUNT increments. -/
  | tickBoundary
  /-- R60. A Spine-fed channel is treated as closed when local ETS reaches n + L + 1. -/
  | spineChannelClose
  /-- R541. Every 10 ms the device issues a PTM request while HOST_PTM is a candidate. -/
  | ptmRequest
  /-- R277. The ASCU sends the tick-end mark of tick n at local tick n + H. -/
  | auxTickEnd
  /-- R550. A sample incomplete 2 ms after its first fragment is dropped. -/
  | pclReasmDrop
  /-- R324. At t_ref + DEADLINE + 1 the monitor reports a record not yet issued. -/
  | deadlineMiss
  /-- R360. A packed ring entry closes when full or at the end of its first record's tick. -/
  | packedEntryClose
  /-- R536. Hot reset or link down from L0 starts a device reset. -/
  | hotReset
  /-- R536. PF0 entering D3hot resets every VF. -/
  | d3hotEntry
  /-- R543. A completion the device did not expect is dropped and reported. -/
  | unexpectedCompletion
  /-- R538. DOE Abort clears the mailbox and its error bit. -/
  | doeAbort
  /-- R397. A DIRTY granule is cleared in the background and becomes FREE. -/
  | granuleClear
  /-- R417. The DRBG is reseeded from the entropy source at least once per second. -/
  | drbgReseed
  /-- R418. A failed health test puts the TRNG in FAILED. -/
  | trngFail
  /-- R419. A debug nonce ends 10 s after issue. -/
  | nonceExpiry
  /-- R429. Three missed heartbeat periods end an SPDM session. -/
  | heartbeatMissed
  /-- R466. The root gathers all arrivals and sends RELEASE with the release tick. -/
  | barrierRelease
  /-- R466. A barrier not gathered within its bound ends with TIMEOUT. -/
  | releaseFail
  /-- R472. Ten missed CP heartbeats are reported as a fault. -/
  | cpWatchdog
  /-- R492. The CP restarts and reloads its firmware and tables within 50 ms. -/
  | cpRestart
  /-- R472. No SI kick for 4 ms drives the FAULT pins by hardware. -/
  | siWatchdog
  /-- R558. 10 ms after contention the output drives again. -/
  | contentionRetry
  /-- R493. SI_AUTO_RESET ms after a DEVICE reaction the SI starts a device reset. -/
  | siAutoReset
  /-- R523. After DEEP_IDLE_MS the device asserts FAULT pins and turns every domain but the Warmer off. -/
  | warmerOnlyEntry
  /-- R524. An edge on WAKE_IN ends WARMER_ONLY. -/
  | wakeIn
  /-- R528. A PWR_GOOD missing 10 ms after its RAIL_EN turns rails off and retries after 100 ms. -/
  | railTimeout
  /-- R520. A host-link exit from L1.2 or an arriving write wakes domains 2 to 4. -/
  | l12Exit
  /-- R503. At the snapshot tick every counter is copied into its shadow. -/
  | snapshotTick
  /-- R511. A log or trace record leaves the on-chip ring under its cap. -/
  | logEgress
  /-- R472. A lockstep mismatch of the Safety Island cores drives FAULT_A and FAULT_B by a hardware path within 1 µs and takes the SI out of service until device reset. -/
  | siLockstep
  /-- R521. The stopped time oscillator runs again and SYSTIME resumes advancing. -/
  | timeOscillatorReturn
deriving DecidableEq, Repr

end Sys2Proof
end

