-- ==== Sys2Proof/Config.lean ====
section
/-! DEFINITION. What the spec leaves open and a part fixes: constants without a body, so that no proof can see their values.
Every use is named in the assumption log. -/
namespace Sys2Proof

/-- The form of the part (R4, Table 22.4 CAP_FORM). -/
inductive Form where
  | cardC | moduleM | dieD
deriving DecidableEq, Repr, Inhabited

/-- The form this part has. -/
opaque Config.form : Form

/-- DEVICE_UID (R420): the first 16 bytes of the digest of this die's DeviceID public key. -/
opaque Config.deviceUid : BitVec 128

/-- The digest of the ROM (R420). -/
opaque Config.romDigest : Nat

/-- SHA-384 of a message given as its fields (R432); the function itself is not modelled. -/
opaque Config.sha384 : List Nat → Nat

/-- Free values: `Config.freeValue n` is the value an open result takes at the n-th time one is taken (log entry 2). -/
opaque Config.freeValue : Nat → Nat

/-- The place of term i (a window tap over a group of 32 input channels) in the order a layer descriptor fixes for its floating-point
sums (R158); the manual does not say which order. -/
opaque Config.tapOrder : List (BitVec 64) → Nat → Nat

/-- How far, in ulp (modulo 5, minus 2), the DPP's exp and σ lie from the nearest FP32 value of an argument (R224: within 2 ulp). -/
opaque Config.expUlp : Nat → Nat
opaque Config.sigmoidUlp : Nat → Nat

/-- The code of an element of an MX block whose scale is NaN (R162), by format, place and FP32 value. -/
opaque Config.mxNanElem : Nat → Nat → Nat → Nat

end Sys2Proof
end

