-- ==== Sys2Proof/Machine/Map.lean ====
section
/-! DEFINITION. Sparse maps: lists of (key, value) pairs with strictly rising keys and no entry equal to the default
value, so that equal maps are equal data. Registers, counters, units, queue pairs and memories are kept so. -/
namespace Sys2Proof.Machine

/-- A map from numbers to `α`; the default of an unlisted key is an argument of every operation. -/
abbrev SMap (α : Type) := List (Nat × α)

/-- The value at key `k`, `d` where none is listed. -/
def SMap.get {α : Type} (d : α) : SMap α → Nat → α
  | [], _ => d
  | (k', v) :: r, k => if k = k' then v else SMap.get d r k

/-- Insert or replace, keeping the keys rising. -/
def SMap.ins {α : Type} : SMap α → Nat → α → SMap α
  | [], k, v => [(k, v)]
  | (k', v') :: r, k, v =>
    if k < k' then (k, v) :: (k', v') :: r
    else if k = k' then (k, v) :: r
    else (k', v') :: SMap.ins r k v

/-- Remove a key. -/
def SMap.del {α : Type} : SMap α → Nat → SMap α
  | [], _ => []
  | (k', v') :: r, k => if k = k' then r else (k', v') :: SMap.del r k

/-- Write value `v` at key `k`; writing the default removes the entry. -/
def SMap.put {α : Type} [DecidableEq α] (d : α) (m : SMap α) (k : Nat) (v : α) : SMap α :=
  if v = d then SMap.del m k else SMap.ins m k v

/-- Change the value at key `k`. -/
def SMap.upd {α : Type} [DecidableEq α] (d : α) (m : SMap α) (k : Nat) (f : α → α) : SMap α :=
  SMap.put d m k (f (SMap.get d m k))

/-- Drop every key in [lo, hi). -/
def SMap.clear {α : Type} (m : SMap α) (lo hi : Nat) : SMap α :=
  m.filter (fun p => p.1 < lo || hi ≤ p.1)

/-- Keep the entries whose value passes `p`. -/
def SMap.keep {α : Type} (m : SMap α) (p : Nat → α → Bool) : SMap α :=
  m.filter (fun e => p e.1 e.2)

/-- Change every listed value; entries that become the default are dropped. -/
def SMap.mapAll {α : Type} [DecidableEq α] (d : α) (m : SMap α) (f : Nat → α → α) : SMap α :=
  (m.map (fun e => (e.1, f e.1 e.2))).filter (fun e => e.2 ≠ d)

/-- Write the values of a list at keys k, k + 1, … -/
def SMap.putAll {α : Type} [DecidableEq α] (d : α) : SMap α → Nat → List α → SMap α
  | m, _, [] => m
  | m, k, v :: r => SMap.putAll d (SMap.put d m k v) (k + 1) r

/-- The keys of a map are at least `n`, strictly rising, and no value is the default. -/
def SMap.wfFrom {α : Type} [DecidableEq α] (d : α) : Nat → SMap α → Bool
  | _, [] => true
  | n, (k, v) :: r => decide (n ≤ k) && decide (v ≠ d) && SMap.wfFrom d (k + 1) r

/-- The canonical form of a map. -/
def SMap.wf {α : Type} [DecidableEq α] (d : α) (m : SMap α) : Bool := SMap.wfFrom d 0 m

/-- The keys whose values pass a test. -/
def SMap.keysWhere {α : Type} (m : SMap α) (p : Nat → α → Bool) : List Nat :=
  (m.filter (fun e => p e.1 e.2)).map (·.1)

end Sys2Proof.Machine
end

