-- ==== Sys2Proof/Machine/StAux.lean ====
section
/-! DEFINITION. State of the ASCU (10): fetches, bus queues, channels with their filters, and the channels that take their outputs. -/
namespace Sys2Proof.Machine

/-- A coefficient bank (R272): TAPS, SHIFT, coefficients and the SYM bit. -/
structure FirBank where
  taps  : Nat := 0
  shift : Nat := 0
  coef  : List Int := []
  sym   : Bool := false
deriving DecidableEq, Repr

/-- A FIR stage: its banks, the one in service (B where true), a pending swap with its AT_TICK, its delay line, newest first, and
the inputs since its last output. -/
structure FirStage where
  a     : FirBank := {}
  b     : FirBank := {}
  useB  : Bool := false
  pend  : Option (Option Nat) := none
  line  : List Int := []
  phase : Nat := 0
deriving DecidableEq, Repr

/-- An input of a channel's queue: instant in ns, value, and whether an input before it was lost. -/
structure AuxIn where
  t   : Int
  v   : Int
  gap : Bool
deriving DecidableEq, Repr

/-- One output kind: hold, next SEQ, tick of the last output (as a TICK_COUNT plus 1), ticks closed by its tick-end marks, and whether a
stage saturated since the last output. -/
structure AuxOut where
  hold   : Nat := 0
  seq    : Nat := 0
  last   : Nat := 0
  closed : Nat := 0
  sat    : Bool := false
deriving DecidableEq, Repr

/-- A channel that takes outputs: the graph that names it, its output kind, and the slot of the fusion job or the quire (by
index) and channel entry behind it; items in its ribbon, how many of them have been read, and its spill queue. -/
structure AuxSink where
  graph : Nat
  rist  : Bool
  slot  : Nat := 0
  quire : Option (Nat × Nat) := none
  items : List (BitVec 64) := []
  rp    : Nat := 0
  spill : List (BitVec 64) := []
deriving DecidableEq, Repr

/-- A channel: its four setting words (Tables 10.9, 10.10), input queue, continuity state (R266, R267) and filters. -/
structure AuxChan where
  en    : Bool := false
  src   : Nat := 1 <<< 52 + 1 <<< 51
  chain : Nat := 0
  out   : Nat := 0
  time  : Nat := 0
  q     : List AuxIn := []
  lost  : Bool := false
  tLast : Option Int := none
  vLast : Int := 0
  /-- Substitutes inserted and due, with the instant and period they start from. -/
  subs  : Option (Nat × Nat × Int × Nat) := none
  /-- The ring of input instants, newest first. -/
  ring  : List Int := []
  /-- Inputs since enable or restart, and the numbers of the latest substitute and of the latest input behind a gap. -/
  nIn   : Nat := 0
  lastSub : Nat := 0
  lastGap : Nat := 0
  win   : List Int := []
  ints  : List Nat := []
  combs : List (List Nat) := []
  phase : Nat := 0
  f1    : FirStage := {}
  f2    : FirStage := {}
  /-- The command that waits for a swap, with the stages it named. -/
  swaps : List (CmdRef × Nat) := []
  lungo : AuxOut := {}
  rist  : AuxOut := {}
  sinks : List AuxSink := []
deriving DecidableEq, Repr

/-- The ASCU: fetch entries (Table 10.8), triggered fetches of each bus by trigger instant, and channels. -/
structure Ascu where
  fetch : SMap Nat := []
  busq  : SMap (List (Nat × Nat)) := []
  chans : SMap AuxChan := []
deriving DecidableEq, Repr

end Sys2Proof.Machine
end

