-- ==== Sys2Proof/Machine/StContract.lean ====
section
/-! DEFINITION. State of contracts (12) and of the records that wait for the host-link egress. -/
namespace Sys2Proof.Machine

/-- A contract (R317–R340). Unlisted identifiers hold no contract. -/
structure Contract where
  exist    : Bool := false
  graph    : Nat := 0
  slip     : Nat := 0
  priority : Nat := 0
  paired   : Bool := false
  keepWarm : Bool := false
  binding  : Bool := false
  deadline : Nat := 0
  lead     : Nat := 0
  srcs     : List ConSrc := []
  /-- The function whose event queue receives a revocation. -/
  func     : Nat := 0
  wcTicks  : Nat := 0
  effTick  : Nat := 0
  warm     : Bool := false
  noRecovery : Bool := false
  unguaranteed : Bool := false
  /-- 0 ADMITTED, 1 NOTICED, 2 REVOKED. -/
  state    : Nat := 0
  revokeAt : Nat := 0
  order    : Nat := 0
  records  : Nat := 0
  /-- Misses by cause code of Table 12.4. -/
  misses   : SMap Nat := []
  heldMiss : Nat := 0
  extDrop  : Nat := 0
  /-- Latest tick, plus 1, in which each contract fault was seen (Table 12.4). -/
  faults   : SMap Nat := []
  /-- External buckets: slot, level in items · 10^9 ns, time of the last refill (R335). -/
  buckets  : List (Nat × Nat × Nat) := []
  /-- Devices that hold other parts (R340); for a part, its home device and the contract's number there. -/
  parts    : List Nat := []
  home     : Option (Nat × Nat) := none
deriving DecidableEq, Repr

/-- An admission with parts on several devices (R340): at home the command, and the devices whose replies are awaited; elsewhere the
home device and its number for the contract. `commitAt`: the tick at which every part applies. -/
structure ConAdmit where
  ref      : Option CmdRef
  home     : Option (Nat × Nat)
  id       : Nat
  func     : Nat
  desc     : ConDesc
  srcs     : List ConSrc
  plan     : AdmitPlan
  atTick   : Option Nat
  wait     : List Nat
  commitAt : Option Nat := none
deriving DecidableEq, Repr

/-- Kinds of record (Table 12.3). -/
inductive RecKind where
  | vframe | readout | detset | fused | track
deriving DecidableEq, Repr

/-- A record complete in its unit and not yet issued (R320): the fields of its header but for ISSUE_TICK, the two bits of
FLAGS that egress sets, and its payload. -/
structure Rec where
  kind    : RecKind
  graph   : Nat
  /-- Reference tick, as a TICK_COUNT. -/
  tref    : Nat
  /-- Layer, job or unit, as the deadline monitor tells records apart. -/
  layer   : Nat := 0
  bytes   : Nat
  flags   : Nat
  /-- Header fields in the header's order, FLAGS and ISSUE_TICK left out. -/
  fields  : List Nat
  payload : List Nat
  /-- It has waited in the overflow buffer (R323). -/
  held    : Bool := false
deriving DecidableEq, Repr

/-- A record a graph must issue: reference tick and kind, with the layer or unit (R324), its contract, and whether the miss was
reported. -/
structure Due where
  graph  : Nat
  kind   : RecKind
  layer  : Nat
  tref   : Nat
  con    : Nat := 0
  missed : Bool := false
deriving DecidableEq, Repr

end Sys2Proof.Machine
end

