-- ==== Sys2Proof/Machine/StFusion.lean ====
section
/-! DEFINITION. State of the Fusion Unit and the Track Manager (11). FP32 values are held as their encodings. -/
namespace Sys2Proof.Machine

/-- A transform bank: the twelve words of Table 11.5, and whether MESH_ADDR lies in DRAM. -/
structure XBank where
  words : List (BitVec 64) := []
  dram  : Bool := false
deriving DecidableEq, Repr

/-- A detection of Table 8.10, as fusion reads it. -/
structure FDet where
  x1 : Nat
  y1 : Nat
  x2 : Nat
  y2 : Nat
  score : Nat
  cls : Nat
deriving DecidableEq, Repr

/-- What a sample holds. -/
inductive FData where
  /-- A planar tensor: format, width, height, channels, bytes. -/
  | grid (fmt w h c : Nat) (data : List (BitVec 8))
  /-- Points: x, y, z, intensity. -/
  | points (l : List (Nat × Nat × Nat × Nat))
  | dets (l : List FDet)
  | aux (v : Nat)
deriving DecidableEq, Repr

/-- A retained sample (R287): tick as a TICK_COUNT, age A of R302, GAP; `late` (R297) and whether an instant has had it; whether the TM has
had its batch, and whether its detections have been converted before. -/
structure FSample where
  tick  : Nat
  age   : Nat
  gap   : Bool
  late  : Bool
  data  : FData
  tried : Bool := false
  tm    : Bool := false
  conv  : Bool := false
deriving DecidableEq, Repr

/-- A source slot. `en`: loaded. State, AGE and T_USED are those of the last instant. -/
structure FSrc where
  en     : Bool := false
  job    : Nat := 0
  graph  : Nat := 0
  words  : List (BitVec 64) := []
  maps   : List (BitVec 32) := []
  /-- The graph whose channel IN_CHAN is, and the ASCU channel of an AUX source. -/
  fromG  : Nat := 0
  chan   : Nat := 0
  bankA  : XBank := {}
  bankB  : XBank := {}
  useB   : Bool := false
  /-- The bank in service serves from this tick on; the other serves earlier ticks. A change waits for its first instant. -/
  since  : Nat := 0
  pend   : Bool := false
  samples : List FSample := []
  seq    : Option Nat := none
  lateCnt : Nat := 0
  stale  : Bool := false
  delivered : Bool := false
  state  : Nat := 0
  age    : Nat := 0
deriving DecidableEq, Repr

/-- A fusion job: descriptor words (Table 11.1), channel table, whether GRID_ADDR lies in DRAM, next instant, start tick, late samples since
the last record, and the last forced instant. -/
structure FJob where
  en      : Bool := false
  graph   : Nat := 0
  words   : List (BitVec 64) := []
  chans   : List (BitVec 64) := []
  dram    : Bool := false
  runs    : Bool := false
  next    : Nat := 0
  start   : Nat := 0
  lateDisc : Nat := 0
  forced   : Option Nat := none
deriving DecidableEq, Repr

/-- A measurement: index, position, size, class, score. -/
structure Meas where
  idx   : Nat
  x     : Nat
  y     : Nat
  w     : Nat
  l     : Nat
  cls   : Nat
  score : Nat
deriving DecidableEq, Repr

/-- The measurements of one detection sample (R307). -/
structure Batch where
  tick : Nat
  slot : Nat
  late : Bool
  meas : List Meas
deriving DecidableEq, Repr

/-- A cycle the TM owes for an instant. -/
structure TCycle where
  tf       : Nat
  forced   : Bool
  lateCnt  : Nat
  lateDisc : Nat
  batches  : List Batch
deriving DecidableEq, Repr

/-- A track that is not FREE: state 1 TENTATIVE to 4 DELETED; state vector and covariance in the order x, y, vx, vy, ax, ay, held at a
tick; instants it has existed for. -/
structure Track where
  id      : Nat
  state   : Nat
  miss    : Nat
  cls     : Nat
  x       : List Nat
  p       : List (List Nat)
  w       : Nat
  l       : Nat
  score   : Nat
  at_     : Nat
  lastHit : Nat
  hits    : Nat
  hitNow  : Bool
  src     : Nat
  age     : Nat
deriving DecidableEq, Repr

/-- A track set: descriptor words (Table 11.8), first track slot, next ID, pending TRACK_CLEAR, tracks by slot, cycles it owes. -/
structure TSet where
  en      : Bool := false
  graph   : Nat := 0
  words   : List (BitVec 64) := []
  base    : Nat := 0
  idNext  : Nat := 1
  clearAt : Option Nat := none
  tracks  : SMap (Option Track) := []
  cycles  : List TCycle := []
deriving DecidableEq, Repr

/-- The units. -/
structure Fu where
  jobs : SMap FJob := []
  srcs : SMap FSrc := []
  sets : SMap TSet := []
deriving DecidableEq, Repr

end Sys2Proof.Machine
end

