-- ==== Sys2Proof/Machine/StDelta.lean ====
section
/-! DEFINITION. State of the delta part of a graph (07): layer descriptors, banks, rebase and reads. -/
namespace Sys2Proof.Machine

/-- A delta item on its way to a layer (Table 7.5), with the layer it comes from. -/
structure DItem where
  src  : Nat
  x    : Nat
  y    : Nat
  c    : Nat
  d    : Int
  tick : Nat
deriving DecidableEq, Repr

/-- What the two state banks hold beside their records in memory (R177): the anchor, the tick from which the bank takes items, per
layer the ticks below which it has settled, dirty records (layer, row, column, group) and delta items under way, by layer. -/
structure DBank where
  anchor  : Nat := 0
  base    : Nat := 0
  settled : SMap Nat := []
  dirty   : List (Nat × Nat × Nat × Nat) := []
  queue   : List (Nat × DItem) := []
deriving DecidableEq, Repr

/-- An entry of the rebase log (R187): an item with its tick, or the tick-end mark of a tick. -/
inductive LogEnt where
  | item (w : BitVec 64) (tick : Nat)
  | mark (tick : Nat)
deriving DecidableEq, Repr

/-- Which rule a rebase follows: R185, R190, R191 or R588. -/
inductive RebKind where
  | normal | retry | wake | start
deriving DecidableEq, Repr

/-- A rebase under way (R185–R191, R588). Phases as in Table 7.9: 1 COPY, 2 REBUILD, 3 REPLAY, 4 CAUGHT_UP, 5 FAILED. -/
structure Rebase where
  kind     : RebKind
  phase    : Nat
  /-- The system tick it begins at; of a failed one, the tick at which the new rebase starts. -/
  boundary : Nat
  bank     : Nat
  anchor   : Nat
  /-- The tick of the switch, once known, and the earliest one. -/
  switchAt : Option Nat := none
  notBefore : Nat := 0
  log      : List LogEnt := []
  /-- The log has filled. -/
  full     : Bool := false
  /-- Ticks below this have been replayed. -/
  closed   : Nat := 0
deriving DecidableEq, Repr

/-- The values of a read-point layer copied for tick τ: elements in [y][x][c] order, bank, its anchor, and the GRIND sum. -/
structure DCopy where
  layer  : Nat
  tick   : Nat
  vals   : List Int
  bank   : Nat
  anchor : Nat
  grinds : Nat
deriving DecidableEq, Repr

/-- A VFRAME_READ under way (R193). -/
structure VRead where
  ref   : CmdRef
  layer : Nat
  form  : Nat
  tick  : Nat
  copy  : Option DCopy := none
deriving DecidableEq, Repr

/-- The delta part of a graph. -/
structure Delta where
  /-- Layer descriptors by LAYER, eight words each (Table 7.2), and the quire of each band, by index within the placement. -/
  layers   : List (List (BitVec 64)) := []
  bands    : List (List Nat) := []
  bankA    : DBank := {}
  bankB    : DBank := {}
  /-- The bank in service and the first tick it serves; the tick from which a failed rebase leaves none. -/
  service  : Option (Nat × Nat) := none
  deadFrom : Option Nat := none
  /-- The old bank (R189): its first tick, and the tick of the switch away from it. -/
  old      : Option (Nat × Nat × Nat) := none
  reb      : Option Rebase := none
  /-- GRAPH_START waits for its start rebase. -/
  startDue : Bool := false
  /-- The surface epoch at whose end the next rebase begins. -/
  epoch    : Nat := 0
  /-- Ticks below this have passed the INPUT layer. -/
  live     : Nat := 0
  /-- GRIND changes, latest first: layer, first tick, value; and layers in the order they were raised, latest first. -/
  grinds   : List (Nat × Nat × Nat) := []
  raised   : List Nat := []
  /-- Deltas each layer has sent in the present window (R196). -/
  sent     : SMap Nat := []
  /-- GAP markers since the last record of each read point (R181). -/
  gaps     : SMap Nat := []
  reads    : List VRead := []
  /-- The next scheduled read of each layer, and copies that wait for their channel. -/
  sched    : SMap Nat := []
  scopies  : List DCopy := []
deriving DecidableEq, Repr

end Sys2Proof.Machine
end

