-- ==== Sys2Proof/Machine/StReadout.lean ====
section
/-! DEFINITION. State of the readout part of a graph (08): header, layers, stripes, jobs and the instants under way. -/
namespace Sys2Proof.Machine

/-- The virtual-frame record a VFIN layer took (R209): header fields, raw elements in [y][x][c] order. -/
structure VfIn where
  scale    : Nat
  age      : Nat
  gaps     : Nat
  adaptive : Bool
  invalid  : Bool
  vals     : List Int
deriving DecidableEq, Repr

/-- An instant a readout graph holds (R202). -/
structure RoInst where
  tick  : Nat
  /-- Its input is complete (R207, R209). -/
  ready : Bool := false
  vfin  : Option VfIn := none
  /-- Output rows evaluated: layer, stripe, rows. -/
  rows  : List (Nat × Nat × Nat) := []
  /-- Layers whose record has been handed over, and DPP jobs done. -/
  recs  : List Nat := []
  jobs  : List Nat := []
  /-- The tick of the instant before it. -/
  since : Nat := 0
deriving DecidableEq, Repr

/-- A DPP job: its descriptor's eight words (Table 8.6) and four words per level (Table 8.7). -/
structure DppJob where
  words  : List (BitVec 64)
  levels : List (List (BitVec 64))
  anchorDram : Bool := false
deriving DecidableEq, Repr

/-- The readout part of a graph: the header (Table 8.1), layer descriptors (Table 8.2) and, per layer that ends a chain, its stripes:
quire by index within the placement, first output column and width. -/
structure Readout where
  sched   : Nat := 0
  outChan : Nat := 0xFF
  period  : Nat := 1
  phase   : Nat := 0
  srcGraph : Nat := 0
  layers  : List (List (BitVec 64)) := []
  stripes : List (List (Nat × Nat × Nat)) := []
  /-- Layers whose W_ADDR, B_ADDR and OUT_ADDR name DRAM. -/
  dramW   : List Nat := []
  dramB   : List Nat := []
  dramO   : List Nat := []
  /-- Where the scale arrays of MX weights and outputs lie, by layer (R159), in the space of their elements. -/
  scaleW  : List Nat := []
  scaleO  : List Nat := []
  jobs    : List DppJob := []
  insts   : List RoInst := []
  /-- Instants skipped since the last record, and the tick of the latest instant. -/
  skipped : Nat := 0
  last    : Nat := 0
  /-- Instants that READOUT_AT has asked for; the tick after the latest periodic instant dealt with. -/
  asked   : List Nat := []
  next    : Nat := 0
deriving DecidableEq, Repr

end Sys2Proof.Machine
end

