-- ==== Sys2Proof/Machine/StGraph.lean ====
section
/-! DEFINITION. State of loaded graphs (14, R382): what every part of a graph shares. -/
namespace Sys2Proof.Machine

/-- A loaded graph. State 0 LOADED, 1 RUNNING, 2 STOPPED, 3 FAILED (R382). -/
structure Graph where
  exist    : Bool := false
  slip     : Nat := 0
  state    : Nat := 0
  /-- Quires of its placement, by index within it (R385), and the partner set of a PAIRED contract (R337). -/
  quires   : List Nat := []
  partners : List Nat := []
  /-- [0] delta, [1] readout, [2] spiking, [3] fusion. -/
  parts    : Nat := 0
  pkgBytes : Nat := 0
  /-- Digests of its GRAPH_PROGRAM and GRAPH_WEIGHTS blocks (R432). -/
  progDigest : Nat := 0
  wDigest  : Nat := 0
  /-- Hopper ports whose items it takes. -/
  ports    : List Nat := []
  /-- The RESULT queue: function and queue number (R362), and its largest record. -/
  bind     : Option (Nat × Nat) := none
  maxRec   : Nat := 0
  /-- Its contract's identifier, 0 if none. -/
  contract : Nat := 0
  startTick : Nat := 0
  /-- Every tick below this is closed (R46). -/
  closed   : Nat := 0
  /-- Stopped by STOP at a SAFE_IN request: no record with a later reference tick is issued until PF0 starts it (R490). -/
  stopAfter : Option Nat := none
  /-- Unit channels it writes to: the stream behind an egress channel (R458), and input channels of chip-level units. -/
  egress   : List (Nat × Nat) := []
  units    : List Nat := []
  /-- Unit input channels it takes items from: channel, quire by index and channel entry. -/
  unitIns  : List (Nat × Nat × Nat) := []
  /-- Its wake set (R31) and the streams it takes items from. -/
  wake     : List Nat := []
  streams  : List Nat := []
  /-- The package it was loaded from, which a takeover loads again (Table 5.7). -/
  pkg      : Option Package := none
  delta    : Option Delta := none
  readout  : Option Readout := none
deriving DecidableEq, Repr

end Sys2Proof.Machine
end

