-- ==== Sys2Proof/Machine/StHost.lean ====
section
/-! DEFINITION. State of the host side: functions and queue pairs (13), slipcases, key slots and windows (15), faults,
alarms and log records (18, 19), time (02). -/
namespace Sys2Proof.Machine

/-- Where a fetched command stands: waiting to start, running (its completion comes from a later step), or staged. -/
inductive CmdPhase where
  | waiting | running | staged
deriving DecidableEq, Repr

/-- A fetched command that has not completed (R353, R355). -/
structure Fetched where
  opc    : BitVec 16
  fence  : Bool
  irqNow : Bool
  atEn   : Bool
  tag    : BitVec 32
  objId  : BitVec 32
  atTick : BitVec 32
  sqHead : Nat
  phase  : CmdPhase
  /-- When its present phase began (R377). -/
  since  : Nat := 0
deriving DecidableEq, Repr

/-- A completion that waits to be written (Table 13.4). -/
structure Cpl where
  tag    : BitVec 32
  status : Nat
  detail : Nat
  tick   : BitVec 32
  sqHead : Nat
  fast   : Bool
  irqNow : Bool
  result : BitVec 128
deriving DecidableEq, Repr

/-- A queue pair (R344–R349, R353, R360, R361, R537). `valid = false` is the queue that does not exist. -/
structure QPair where
  valid    : Bool := false
  kind     : Nat := 0
  vector   : Nat := 0
  sqLog2   : Nat := 0
  ringLog2 : Nat := 0
  entLog2  : Nat := 0
  bufLog2  : Nat := 0
  sqBase   : Nat := 0
  ringBase : Nat := 0
  bufBase  : Nat := 0
  bufCount : Nat := 0
  /-- Device submission head and last accepted SQ_TAIL. -/
  head     : Nat := 0
  tail     : Nat := 0
  /-- Host's last accepted HEAD and the next entry the device writes. -/
  hhead    : Nat := 0
  dtail    : Nat := 0
  /-- PHASE of the present pass. -/
  phase    : Bool := true
  /-- Fetched and not completed, oldest first. -/
  fetched  : List Fetched := []
  /-- Completed and not yet written. -/
  done     : List Cpl := []
  /-- Records of this ring dropped since the previous entry (Table 13.6). -/
  drops    : Nat := 0
  /-- Next buffer to use and, per entry still unread, whether it names a buffer (oldest first). -/
  bufNext  : Nat := 0
  entBufs  : List Bool := []
  /-- The open PACKED entry: records so far and the tick of the first. -/
  openRecs : List (List Nat) := []
  openTick : Nat := 0
  /-- The head packet is not yet covered by this tail (R350: it waits). -/
  waitTail : Option Nat := none
  /-- The head packet is a firmware command that waits (R354, R492). -/
  waitFw   : Bool := false
  /-- The head packet is a COLOPHON_GET that waits (R430). -/
  waitCol  : Bool := false
  /-- Failed slot reads in a row, and stopped by three of them (R537). -/
  slotFails : Nat := 0
  stopped  : Bool := false
deriving DecidableEq, Repr

/-- TDISP state of a VF (R413, R540). -/
inductive Tdisp where
  | unlocked | locked | run | error
deriving DecidableEq, Repr

/-- A function (R341, R342, R368). Its registers lie in the register map. -/
structure Fn where
  exist    : Bool := false
  slip     : Option Nat := none
  rdy      : Bool := false
  resetting : Bool := false
  admqErr  : Bool := false
  tdisp    : Tdisp := .unlocked
  /-- The CMD queue fetch served last (R354). -/
  lastQp   : Nat := 0
deriving DecidableEq, Repr

/-- An MSI-X vector (R364): pending bit, pending entries, time of the oldest, immediate cause pending. Its mask is bit 0 of
the table's vector control, a register. -/
structure Vec where
  pba    : Bool := false
  count  : Nat := 0
  since  : Nat := 0
  urgent : Bool := false
deriving DecidableEq, Repr

/-- One DRAM window of a rule table (Table 15.5). -/
structure Win where
  win  : Nat
  rd   : Bool
  wr   : Bool
  base : Nat
  size : Nat
deriving DecidableEq, Repr

/-- A rule change that drains (R403): the command that waits for it and its result. -/
structure Drain where
  ref : CmdRef
  res : BitVec 128
deriving DecidableEq, Repr

/-- A record held for a ring (R363): queue key and bytes; the contents of an AUX or SPIKE record, or a RESULT record. -/
structure HeldRec where
  queue : Nat
  bytes : Nat
  words : List Nat
  rec_  : Option Rec
deriving DecidableEq, Repr

/-- A slipcase (R389, R390, Table 15.1). State 0 FREE is the slipcase that does not exist. -/
structure Slip where
  state     : Nat := 0
  adaptive  : Bool := false
  keySlot   : Nat := 0
  quires    : List Nat := []
  hoppers   : BitVec 16 := 0
  regions   : BitVec 16 := 0
  ovfKib    : Nat := 0
  powerMw   : Nat := 0
  epoch     : Nat := 0
  rules     : List Win := []
  drain     : Option Drain := none
  ovf       : List HeldRec := []
  /-- Granules of the overflow buffer. -/
  ovfGran   : List Nat := []
  /-- Alarm LOST count with the SOURCE and first and latest tick of lost alarms (R506). -/
  lost      : Nat := 0
  lostSrc   : Nat := 0
  lostFirst : Nat := 0
  lostLast  : Nat := 0
  /-- Spikes lost since the previous spike record, and the spike ring used last (R255, R369). -/
  spkDrops  : Nat := 0
  spikeQ    : Option Nat := none
  /-- Table 15.7 counters and their shadows. -/
  cnt       : List Nat := [0, 0, 0, 0, 0, 0, 0, 0]
  shadow    : List Nat := [0, 0, 0, 0, 0, 0, 0, 0]
deriving DecidableEq, Repr

/-- A key slot (Table 15.3): 0 EMPTY, 1 PARKED, 2 IN_SERVICE. -/
structure KeySlot where
  state   : Nat := 0
  slip    : Nat := 0
  key     : Nat := 0
  epoch   : Nat := 0
  rules   : List Win := []
deriving DecidableEq, Repr

/-- A granule (Table 15.4). Reset DIRTY (R399). -/
inductive Granule where
  | free | owned (slot : Nat) | dirty | clearing
deriving DecidableEq, Repr

/-- A fault record (Table 18.7). -/
structure FaultRec where
  tick       : Nat := 0
  source     : Nat := 0
  cause      : Nat := 0
  reaction   : Nat := 0
  flags      : BitVec 8 := 0
  slip       : Nat := 0
  partner    : Nat := 0
  contract   : Nat := 0
  info       : Nat := 0
  recoveryUs : Nat := 0
deriving DecidableEq, Repr

/-- An alarm entry (Table 19.2), keyed by cause, source and slipcase. -/
structure Alarm where
  cause   : Nat := 0
  source  : Nat := 0
  slip    : Nat := 0
  present : Bool := false
  acked   : Bool := false
  count   : Nat := 0
  first   : Nat := 0
  last    : Nat := 0
  /-- An ALARM record is due for this entry, and the time the last one left (R510). -/
  due     : Bool := false
  sentAt  : Option Nat := none
deriving DecidableEq, Repr

/-- An observability record (Table 19.4). -/
structure ObsRec where
  kind   : Nat
  source : Nat
  slip   : Nat
  arg    : Nat
  code   : Nat
  seq    : Nat
  tick   : Nat
  data   : List Nat
deriving DecidableEq, Repr

/-- A run of dropped records of one KIND (R510). -/
structure DropRun where
  count : Nat := 0
  first : Nat := 0
  last  : Nat := 0
deriving DecidableEq, Repr

/-- A summary entry (R512). -/
structure SumEnt where
  dev   : Nat
  cause : Nat
  count : Nat
  last  : Nat
  dirty : Bool
deriving DecidableEq, Repr

/-- The observability unit (19). -/
structure Obs where
  alarms   : SMap Alarm := []
  ring     : List ObsRec := []
  runLog   : DropRun := {}
  runTrace : DropRun := {}
  seqs     : List Nat := [0, 0, 0, 0, 0]
  /-- The LOG queue: function and queue number. -/
  logQ     : Option (Nat × Nat) := none
  logCap   : Nat := 0
  traceCap : Nat := 0
  traceMask : BitVec 64 := 0
  snapId   : BitVec 32 := 0
  snapTick : Nat := 0
  /-- The pending snapshot: its ID (none while the root has not assigned it), its tick and the command that completes at it. -/
  snapPend : Option (Option Nat × Nat × Option CmdRef) := none
  /-- SNAP_ID counters: local (bit 31 = 0) and, on the root, binding (bit 31 = 1). -/
  snapLocal : Nat := 0
  snapBind : Nat := 0
  unaligned : Bool := false
  sums     : List SumEnt := []
  sumOvf   : Nat := 0
  sumOvfSent : Nat := 0
  sumSent  : Nat := 0
  /-- Earliest times, in ps, of the next alarm, log and trace record under the caps (R511). -/
  egressAt : List Nat := [0, 0, 0]
  /-- A log record has been dropped since the ring was last empty (Table 19.3, LOG_DROP). -/
  dropped  : Bool := false
deriving DecidableEq, Repr

/-- The Time Unit (02). SYSTIME in ns; tick K took effect at B_K (R40). -/
structure Tim where
  systime : Nat := 0
  tick    : Nat := 0
  tickQ   : Nat := 4
  kTick   : Nat := 0
  bK      : Nat := 0
  /-- Per source code 1–4: start of the present run of valid synchronisation and time of the latest (R49). -/
  runFrom : SMap (Option Nat) := []
  lastAt  : SMap Nat := []
  /-- Consecutive synchronisations beyond and within JUMP_LIMIT (R54), and beyond ±5 ns (R58). -/
  bigRun  : Nat := 0
  smallRun : Nat := 0
  alignRun : Nat := 0
  /-- Ever locked to a source (R51). -/
  locked  : Bool := false
  /-- SYSTIME at which a slewed offset is removed at the full rate (R53). -/
  slewEnd : Nat := 0
  /-- PTP: delay request outstanding, per port; PTM request outstanding. -/
  delayReq : BitVec 2 := 0
  ptmReq  : Bool := false
  /-- Time oscillator stopped (R521). -/
  stopped : Bool := false
deriving DecidableEq, Repr

end Sys2Proof.Machine
end

