-- ==== Sys2Proof/Machine/StIngress.lean ====
section
/-! DEFINITION. State of event ingress (03), surfaces and their units (04), and the channels and ribbons they feed. -/
namespace Sys2Proof.Machine

/-- Who consumes a channel that leaves a port or a derived-event unit (R27, R113). -/
inductive Consumer where
  | evring
  | corner
  | flow
  /-- A graph's INPUT layer, by graph number. -/
  | graph (g : Nat)
  /-- The KXB attach input of the port. -/
  | attach
  /-- The chip-level fusion unit's source slot. -/
  | fusion (slot : Nat)
  /-- A ribbon channel entry of a graph's quire: graph, quire by index, entry. -/
  | quire (g i c : Nat)
deriving DecidableEq, Repr

/-- A ribbon FIFO (R87): the items from REL to WR; RP and MARK as distances from REL. -/
structure Ribbon where
  items : List (BitVec 64) := []
  rp    : Nat := 0
  mark  : Option Nat := none
  /-- The last value read, and UNDERRUN. -/
  last  : BitVec 64 := 0
  underrun : Bool := false
deriving DecidableEq, Repr

/-- One channel of a port or derived unit: its consumer, whether an admitted contract feeds on it, its ribbon, its
spill queue, the losses not yet reported per tick and cause and the tick of the last marker per cause (R85, R86), the last
tick-end mark sent (R46) and its stall cycles (R20). -/
structure HChan where
  consumer : Consumer
  contracted : Bool := false
  ribbon   : Ribbon := {}
  spill    : List (BitVec 64) := []
  lost     : SMap Nat := []
  marked   : SMap Nat := []
  /-- The latest tick of an item placed, and, for the event ring, the items of ticks not yet closed. -/
  lastTick : Nat := 0
  held     : List (Nat × BitVec 64) := []
  endSent  : Nat := 0
  stall    : Nat := 0
deriving DecidableEq, Repr

/-- A packet in the packet buffer (R83): payload and stamp. -/
structure BufPkt where
  payload : List (BitVec 8)
  tick    : Nat
deriving DecidableEq, Repr

/-- An item between front end and item pipeline. -/
structure HItem where
  pol  : Bool
  x    : Nat
  y    : Nat
  tick : Nat
deriving DecidableEq, Repr

/-- A cell map cell (Table 3.8): TICK of LAST and PREV where VALID. -/
structure Cell where
  last : Option (BitVec 15) := none
  prev : Option (BitVec 15) := none
deriving DecidableEq, Repr

/-- A Hopper port (R63–R91). Its registers lie in the register map. -/
structure Hopper where
  stime     : Nat := 0
  yCur      : Nat := 0
  xBase     : Nat := 0
  polCur    : Bool := false
  timeValid : Bool := false
  addrValid : Bool := false
  resyncWait : Bool := false
  stimeMax  : Option Nat := none
  /-- First tick of the open backstep run (R74). -/
  runStart  : Option Nat := none
  frameOpen : Bool := false
  buf       : List BufPkt := []
  hold      : Bool := false
  /-- 0 stop, 1 ULPS, 2 HS, 3 error recovery (Table 3.17). -/
  link      : Nat := 0
  /-- Rate limiter: level in 1/256 event and the tick of its last refill (R81). -/
  level     : Nat := 0
  levelTick : Nat := 0
  hot       : SMap Bool := []
  cells     : SMap Cell := []
  items     : List HItem := []
  chans     : List HChan := []
  /-- HOP_REFR and HOP_BA in force (R80). -/
  refr      : BitVec 64 := 0
  ba        : BitVec 64 := 0x07D00000
  /-- What was in force before them, while items of those ticks may be left: each with the tick at which it ended, ascending. -/
  was       : List (Nat × BitVec 64 × BitVec 64) := []
  /-- Hot-pixel masks in force before a change at a tick (R77), while packets of earlier ticks are left: each with that tick, ascending. -/
  hotWas    : List (Nat × SMap Bool) := []
  /-- The bound EVENT queue: function and queue number. -/
  evq       : Option (Nat × Nat) := none
  /-- Earliest tick whose tick-end mark has not been sent. -/
  nextEnd   : Nat := 0
  /-- GAP markers the port has inserted, by tick and cause, latest first (R222). -/
  gapLog    : List (Nat × Nat) := []
  /-- Wake sets recorded against the port (R31), as domain numbers. -/
  wake      : List Nat := []
deriving DecidableEq, Repr

/-- A run of beats whose bits are set, beside each beat of a region: those from `pos` to below `hi`, but for the ones first writes
have emitted. -/
structure BeatBits where
  pos  : Nat := 0
  hi   : Nat := 0
  done : List Nat := []
deriving DecidableEq, Repr

/-- A sample slot of a region (R203–R207): the graph and instant that hold it, and, once its bits are set, those bits. -/
structure SampSlot where
  busy  : Bool := false
  graph : Nat := 0
  tick  : Nat := 0
  armed : Bool := false
  bits  : BeatBits := {}
deriving DecidableEq, Repr

/-- A record of the recent-write buffer (R105). -/
structure Rwb where
  addr  : Nat
  /-- The entry before the write: its absolute surface tick and polarity, none where stale. -/
  prior : Option (Int × Bool)
  tick  : Nat
deriving DecidableEq, Repr

/-- An SFM region with its Corner and Flow Units (R92–R115). Entries read 0x7FFF where unlisted. -/
structure Sfm where
  entries  : SMap (BitVec 16) := []
  /-- GEN, and the beats already of the current generation while a sweep is to be done: a beat's generation bit is GEN if it
  is of the current generation and the other value if not; none: every beat is current (R101). -/
  gen      : Bool := false
  conv     : Option (SMap Bool) := none
  epoch    : Nat := 0
  /-- Shift S from the previous generation's base to the current one's. -/
  shift    : Nat := 0
  origin   : Option Nat := none
  clearing : Bool := false
  /-- Epoch changes accumulated in RETAIN. -/
  pendEpochs : Nat := 0
  rwb      : List Rwb := []
  crnChans : List HChan := []
  flwChans : List HChan := []
  /-- Ticks for which the units have evaluated items: items waiting for a test. -/
  crnItems : List HItem := []
  flwItems : List HItem := []
  /-- SNAP bits (R185), and the tick at whose start the boundary contents stand. -/
  snap     : BeatBits := {}
  snapAt   : Nat := 0
  /-- LOG_PEAK (Table 7.9). -/
  logPeak  : Nat := 0
  slots    : List SampSlot := [{}, {}, {}, {}]
deriving DecidableEq, Repr

end Sys2Proof.Machine
end

