-- ==== Sys2Proof/Machine/StIo.lean ====
section
/-! DEFINITION. State of the field outputs and the interfaces of chapter 21. -/
namespace Sys2Proof.Machine

/-- A field output (R557, R558), in OUTPUT_RELEASE order: TRIG_OUT0–7, SYNC_OUT, FAULT_A, FAULT_B. -/
structure OutPin where
  /-- Its active level is driven. -/
  active     : Bool := false
  contention : Bool := false
  latched    : Bool := false
  retries    : Nat := 0
  retryAt    : Nat := 0
deriving DecidableEq, Repr

/-- A sample under reassembly (R550): its SEQ, fragment count, time of the first fragment and the fragments so far, as index,
offset and bytes. -/
structure Reasm where
  entry : Nat
  seq   : Nat
  nfrag : Nat
  since : Nat
  frags : List (Nat × Nat × List (BitVec 8))
deriving DecidableEq, Repr

/-- Field outputs, Ethernet, I3C, GPIO and DRAM upkeep (21). -/
structure Xio where
  outs    : SMap OutPin := []
  /-- What has been configured on each GPIO pin, in that order (R556): 1 general output, 2 + n the hold signal of Hopper n, 32 + f the
  trigger of fetch f. -/
  gpio    : SMap (List Nat) := []
  reasm   : List Reasm := []
  /-- Bytes in each port's egress buffer, records sent per egress entry since it was enabled, and the records that wait there: entry,
  bytes and contents. -/
  egBytes : SMap Nat := []
  egSeq   : SMap Nat := []
  egWait  : List (Nat × Nat × List Nat) := []
  /-- Last ECS error count and time of the last retraining, per DRAM channel. -/
  ecs     : SMap Nat := []
  wckAt   : SMap Nat := []
  /-- A boundary-scan instruction drives the pins. -/
  extest  : Bool := false
deriving DecidableEq, Repr

end Sys2Proof.Machine
end

