-- ==== Sys2Proof/Machine/StPower.lean ====
section
/-! DEFINITION. State of power, clocks and start-up (20). -/
namespace Sys2Proof.Machine

/-- Power state (20). Domain states 0 OFF, 1 RETAIN, 2 ON (Table 20.1); unlisted domains are ON. -/
structure Pwr where
  doms   : SMap Nat := []
  /-- Warm sets by contract: a domain is warm while listed (R35). -/
  warm   : List (Nat × Nat) := []
  /-- IDLE of POWER_POLICY. -/
  idle   : Nat := 1
  /-- Hottest junction in 0.1 °C. -/
  tempC  : Int := 250
  /-- Strap values taken (PWR_STRAP[4:0]) and their AMBIG bits. -/
  straps : Nat := 0
  ambig  : Nat := 0
  /-- Domains asked for by wake requests whose Brew has not ended (R33, R34). -/
  req    : List Nat := []
  /-- WARMER_ONLY: domain 0 only (R522). -/
  down   : Bool := false
  /-- The rails (R528): steps 4 to 8 of Table 20.6 are under way; RAIL_EN1 to RAIL_EN of this number are asserted, the last at this SYSTIME;
  PWR_GOOD[3:1]; failed tries, when step 4 is tried again, and given up until the next power-on. -/
  up     : Bool := false
  rails  : Nat := 3
  railAt : Nat := 0
  good   : Nat := 7
  railTries : Nat := 0
  retryAt : Option Nat := none
  dead   : Bool := false
  /-- The crystal clocks the Warmer (R521). -/
  xtalOk : Bool := true
  /-- The limiter (R525): windows in a row above PWR_LIMIT, its actions, latest first (1 to 3, as R525 numbers them, each quire with the
  limit that held it before), the time of the first of a run, and since when the sum has stayed below 0.95 × PWR_LIMIT. -/
  excess   : Nat := 0
  acts   : List (Nat × List (Nat × Nat)) := []
  actAt  : Nat := 0
  under  : Option Nat := none
  /-- The step at which the limiter holds a quire; unlisted: none holds it. -/
  caps   : SMap Nat := []
  /-- Power of each slipcase in mW in its latest 100 windows, and the readings of the hottest junction of the last second, latest first. -/
  shares : SMap (List Nat) := []
  temps  : List (Nat × Int) := []
  /-- Regulator of each cluster in mV where it differs from that of its highest step, and its measured power in mW. -/
  mv     : SMap (Option Nat) := []
  meas   : SMap Nat := []
  /-- Waiting for the host's boot image (R530). -/
  bootWait : Bool := false
  /-- When the conditions of R523 began to hold. -/
  deepAt : Option Nat := none
deriving DecidableEq, Repr

end Sys2Proof.Machine
end

