-- ==== Sys2Proof/Machine/StSpk.lean ====
section
/-! DEFINITION. State of the spiking fabric (09): tiles, Kettle routers and the crossbar. Spikes are 64-bit words (R231). -/
namespace Sys2Proof.Machine

/-- A neuron (Table 9.2). `fresh`: no input has been integrated since it fired or was loaded (R236). -/
structure Neuron where
  v      : Int := 0
  cls    : Nat := 0
  fired  : Bool := false
  en     : Bool := false
  fresh  : Bool := false
  tLast  : Nat := 0
  tStart : Nat := 0
deriving DecidableEq, Repr

/-- A spike as its neuron fired it: key, firing tick (ETS) and T_START. -/
structure Fire where
  key    : Nat
  tick   : Nat
  tStart : Nat
deriving DecidableEq, Repr

/-- A change of a route entry and the first tick it applies to (R249). -/
structure RouteChg where
  idx  : Nat
  tick : Nat
  ent  : Nat
deriving DecidableEq, Repr

/-- A write to SYS that waits for its settlement (R243), and a state read that waits for one (R239). -/
structure SysWrite where
  tick  : Nat
  addr  : Nat
  bytes : List (BitVec 8)
deriving DecidableEq, Repr

structure SpkRead where
  ref   : CmdRef
  tick  : Nat
  first : Nat
  count : Nat
deriving DecidableEq, Repr

/-- A Spiking Tile and its router. -/
structure Tile where
  en      : Bool := false
  keyBase : Nat := 0
  /-- DUNIT − 1. -/
  dunitM1 : Nat := 0
  neurons : SMap Neuron := []
  /-- Class words (Table 9.3) and route entries (Table 9.5). -/
  classes : SMap Nat := []
  table   : SMap Nat := []
  /-- Spike buffer and deliveries on their way to it: row address and integration tick. -/
  buf     : List (Nat × Nat) := []
  flight  : List (Nat × Nat) := []
  /-- The next tick to settle, as a TICK_COUNT, and whether a renewal sweep is due. -/
  next    : Nat := 0
  sweepDue : Bool := false
  pend    : List RouteChg := []
  writes  : List SysWrite := []
  reads   : List SpkRead := []
  /-- Spikes fired and not yet at the router, its two input FIFOs, and the two delay queues: spike and group. -/
  fires   : List Fire := []
  tileQ   : List Fire := []
  xbarQ   : List Nat := []
  loopQ   : List Nat := []
  delayQ  : List (Nat × Nat) := []
deriving DecidableEq, Repr

/-- A spike at a source port of the crossbar: its word, group and slipcase. -/
structure XSpike where
  word  : Nat
  group : Nat
  slip  : Nat
deriving DecidableEq, Repr

/-- The crossbar: groups (Table 9.8), attach settings (Table 9.12), spikes at source ports, and destination FIFOs: spike and stream. -/
structure Kxb where
  groups : SMap Nat := []
  att    : SMap Nat := []
  src    : List XSpike := []
  dst    : SMap (List (Nat × Nat)) := []
deriving DecidableEq, Repr

end Sys2Proof.Machine
end

