-- ==== Sys2Proof/Machine/StQuire.lean ====
section
/-! DEFINITION. State of a quire (05): its place in the live map, clock steps, Access Engines, channels and memories. -/
namespace Sys2Proof.Machine

/-- A descriptor that has been started and has not retired (R128): its four words and whether it has completed. -/
structure AeFlight where
  words : List (BitVec 64)
  /-- RULE_EPOCH it was checked under (R403), and the far bytes whose reads were cancelled (R404). -/
  epoch : Nat := 0
  poison : List Nat := []
  done  : Bool := false
  /-- Its slot's credit has returned, or it posts no token: it retires when it is the oldest (R128). -/
  freed : Bool := false
  /-- QSP address the block goes to or comes from. -/
  qaddr : Nat := 0
deriving DecidableEq, Repr

/-- An Access Engine (R127–R132, Table 5.8). Indices are ring indices. -/
structure Ae where
  base   : Nat := 0
  log2n  : Nat := 0
  retire : Nat := 0
  start  : Nat := 0
  tail   : Nat := 0
  flight : List AeFlight := []
  /-- Stopped by a descriptor fault (R130). -/
  stopped : Bool := false
deriving DecidableEq, Repr

/-- A channel entry (Table 5.9) with its counts and ribbon (R124, R125, R20). -/
structure QChan where
  valid  : Bool := false
  prod   : Nat := 0
  cons   : Nat := 0
  isRibbon : Bool := false
  base   : Nat := 0
  isize  : Nat := 1
  cap    : Nat := 0
  tokens : Nat := 0
  credits : Nat := 0
  /-- Next slot the producer fills. -/
  slot   : Nat := 0
  items  : List (BitVec 64) := []
  rp     : Nat := 0
  mark   : Option Nat := none
  last   : BitVec 64 := 0
deriving DecidableEq, Repr

/-- A kernel slot (R141–R143): engine (4 VU, 5 and 6 SU harts), resources and channels bound, inputs first. -/
structure Kernel where
  engine  : Nat
  wcetFix : Nat
  wcetPer : Nat
  memFix  : Nat
  memPer  : Nat
  itemMax : Nat
  /-- Channel and items consumed or produced per invocation. -/
  ins     : List (Nat × Nat)
  outs    : List (Nat × Nat)
  /-- W of R143, in quire cycles. -/
  wait    : Nat
deriving DecidableEq, Repr

/-- What a segment holds until it commits (R134): QSP writes, tokens and credits by channel, items by channel, and the
input items it took. -/
structure Segment where
  writes  : List (Nat × List (BitVec 8)) := []
  tokens  : List Nat := []
  credits : List Nat := []
  outs    : List (Nat × BitVec 64) := []
  /-- Input ribbons of the segment. -/
  ribbons : List (Nat × Nat) := []
deriving DecidableEq, Repr

/-- An arbiter (R21–R24), keyed by the address of its ARB_CFG: settings in force, grants of each input in the window, and the
input granted last. Unlisted arbiters have the reset settings, under which no input is limited. -/
structure Arb where
  qlevel : Nat := 64
  quotas : List Nat := []
  grants : SMap Nat := []
  last   : Option Nat := none
deriving DecidableEq, Repr

/-- A quire. State none: as the self-test decided (log entry 1). -/
structure Quire where
  state  : Option Nat := none
  slip   : Option Nat := none
  curStep : Nat := 20
  target : Nat := 20
  contractStep : Nat := 20
  adaptive : Bool := false
  /-- The replay window: its start tick and replays in it (R139). -/
  winStart : Nat := 0
  winReplays : Nat := 0
  winOver : Bool := false
  /-- Errors in a row of one segment at step 0, per engine (1 DXE, 2 AXE, 4 VU). -/
  floorErr : SMap Nat := []
  ae0    : Ae := {}
  ae1    : Ae := {}
  aeFault : Nat := 0
  chans  : SMap QChan := []
  kernels : List Kernel := []
  /-- Segments in execution, by engine code. -/
  segs   : List (Nat × Segment) := []
  qsp    : SMap (BitVec 8) := []
  sys    : SMap (BitVec 8) := []
  /-- Busy bits of the engines (Table 5.10 [9:1]). -/
  busy   : Nat := 0
  spk    : Tile := {}
deriving DecidableEq, Repr

end Sys2Proof.Machine
end

