-- ==== Sys2Proof/Machine/StSafety.lean ====
section
/-! DEFINITION. State of the Safety Island (18) and of the field pins it drives. -/
namespace Sys2Proof.Machine

/-- A PAIRED quire pair (R477–R483): primary and partner quires, the contract, the quire that runs alone, the ticks of
attributed mismatches, and whether recovery runs. -/
structure Pair where
  primary  : Nat
  partner  : Nat
  contract : Nat
  sole     : Option Nat
  lastMis  : List (Nat × Nat)
  recovering : Bool
  /-- The attributed quire under recovery and whether it is retired; none while unresolved. -/
  attributed : Option Nat
  retire   : Bool
  /-- Compares of every tick below this have passed (R480). -/
  passed   : Nat
deriving DecidableEq, Repr

/-- A cause that is present (R476): cause, source, slipcase and the reaction applied. -/
structure Present where
  cause    : Nat
  source   : Nat
  slip     : Nat
  reaction : Nat
deriving DecidableEq, Repr

/-- The Safety Island (R471–R495). -/
structure Si where
  flog     : SMap FaultRec := []
  flogHead : Nat := 0
  /-- Causes present (R476). -/
  present  : List Present := []
  /-- FAULT_A and FAULT_B asserted (asserted after reset, R495). -/
  pins     : Bool := true
  /-- The SI takes no further part until device reset (R472). -/
  dead     : Bool := false
  /-- The safe state of R488 holds: after a SAFE or DEVICE reaction, and from a reset until SAFE_STATE_CLEAR (R493, R495). -/
  safe     : Bool := true
  /-- A DEVICE reaction has been taken. -/
  devFault : Bool := false
  /-- Step 3 of the device reset has passed (R495). -/
  testOk   : Bool := true
  autoAt   : Option Nat := none
  cpRestarts : List Nat := []
  cpDown   : Bool := false
  /-- SAFE_IN: a request is present; consecutive request samples; since when the inputs disagree; since when both are valid non-request. -/
  safeReq  : Bool := false
  safeRun  : Nat := 0
  disagreeAt : Option Nat := none
  validAt  : Option Nat := none
  /-- FAULT pin readback mismatch present. -/
  pinBad   : Bool := false
  /-- Chip-level units whose results are INVALID until device reset (R487), and units on a rerun, as sources. -/
  unitBad  : List Nat := []
  rerun    : List Nat := []
  /-- Quires under SINGLE recovery: quire and whether it is to be retired (R486). -/
  recover  : List (Nat × Bool) := []
  pairs    : List Pair := []
  /-- Self-check traces: quire, tick (R481). -/
  traces   : List (Nat × Nat) := []
  /-- Time of the last KAT of each unit (by source) and KATs deferred once. -/
  katAt    : SMap Nat := []
  katDeferred : List Nat := []
  /-- Quires ready to take over: the failed quire and the one that takes its place (itself where it is kept). -/
  takeover : List (Nat × Nat) := []
  /-- Counts the changes of the live map (R36). -/
  liveGen  : Nat := 0
  /-- A quire or lane has been retired with no spare left, and the re-planning of R338 is due. -/
  replan   : Bool := false
  /-- SAFE_STATE_CLEAR has not succeeded since reset (R495). -/
  fresh    : Bool := true
deriving DecidableEq, Repr

end Sys2Proof.Machine
end

