-- ==== Sys2Proof/Machine/StSec.lean ====
section
/-! DEFINITION. State of the Security Engine (16): lifecycle, vault, firmware images, sessions and streams. -/
namespace Sys2Proof.Machine

/-- The contents of a vault (Table 16.2); keys and digests are numbers, 0 for none. -/
structure Vault where
  gen      : Nat := 0
  svn      : Nat := 0
  fwSvn    : Nat := 0
  life     : Nat := 0
  owner    : Nat := 0
  pubs     : List Nat := []
  fwDigest : Nat := 0
  cert     : Nat := 0
deriving DecidableEq, Repr

/-- A commit copy (Table 16.3). -/
structure CommitCopy where
  gen  : Nat := 0
  slot : Bool := false
  svn  : Nat := 0
deriving DecidableEq, Repr

/-- An SPDM session (R427, R429): whether FINISH has been taken, its heartbeat period in s and the time of the last sign of life. -/
structure Session where
  id     : Nat
  up     : Bool
  period : Nat
  seen   : Nat
deriving DecidableEq, Repr

/-- A selective IDE stream (R539): its session, functions, key sets programmed, the one in use and whether it is Insecure. -/
structure IdeStream where
  id       : Nat
  session  : Nat
  fns      : List Nat
  sets     : List Nat
  active   : Option Nat
  insecure : Bool
deriving DecidableEq, Repr

/-- The Security Engine (R415–R440). -/
structure Sec where
  /-- Table 16.8, in OTP. -/
  life  : Nat := 0
  dbgOpen : Bool := false
  /-- 0 STARTING, 1 OK, 2 FAILED, and when the health test failed; when the DRBG was last reseeded. -/
  trng     : Nat := 1
  trngAt   : Nat := 0
  reseedAt : Nat := 0
  /-- The vault in force; none under VAULT_NONE. -/
  vault    : Option Vault := some {}
  /-- What the sectors of SPI NOR hold: slots A and B, commit copies C0 and C1; none where incomplete. -/
  slotA    : Option Vault := some {}
  slotB    : Option Vault := none
  copy0    : Option CommitCopy := some {}
  copy1    : Option CommitCopy := none
  /-- OTP_FLOOR (R424). -/
  floor    : Nat := 0
  /-- The active firmware, the staged image, and the two image banks of the boot flash with the active one. -/
  active   : FwImage := { bytes := 0, version := 0, svn := 0, digest := 0, sigOk := true }
  staged   : Option FwImage := none
  bank0    : Option FwImage := some { bytes := 0, version := 0, svn := 0, digest := 0, sigOk := true }
  bank1    : Option FwImage := none
  bankB    : Bool := false
  /-- The live debug nonce and the time of its issue (R437). -/
  nonce    : Option (Nat × Nat) := none
  sessions : List Session := []
  nextSession : Nat := 1
  streams  : List IdeStream := []
  /-- The DOE mailbox: its Error bit and whether a response waits (R538). -/
  doeErr   : Bool := false
  doeReady : Bool := false
deriving DecidableEq, Repr

end Sys2Proof.Machine
end

