-- ==== Sys2Proof/Machine/StSpine.lean ====
section
/-! DEFINITION. State of the Spine ports, streams and the binding (17). -/
namespace Sys2Proof.Machine

/-- A port's link (R441–R447, Tables 17.2, 17.10). State 0 DOWN, 1 TRAINING, 2 AUTH, 3 UP, 4 RETRAIN, 5 FAILED. EN is a register. -/
structure SpPort where
  state    : Nat := 0
  /-- Lanes in use (lane 4 is the spare), and how many. -/
  lanes    : Nat := 0x0F
  width    : Nat := 4
  /-- Lanes that failed a lane test. -/
  retired  : Nat := 0
  rttPs    : Nat := 0
  cablePs  : Nat := 0
  peer     : Nat := 0
  /-- SYSTIME before which no bring-up is tried again. -/
  retryAt  : Nat := 0
  /-- Next SEQ to send, last SEQ received in order, the sequence numbers of the replay buffer, NAK to be returned. -/
  txSeq    : Nat := 0
  rxSeq    : Nat := 4095
  replay   : List Nat := []
  nak      : Bool := false
  nakTimes : List Nat := []
  failTimes : List Nat := []
  authTimes : List Nat := []
  /-- Message counters of the two directions, the number of the keys and when they were made. -/
  txCtr    : Nat := 0
  rxCtr    : Nat := 0
  keys     : Nat := 0
  /-- The next message is the first under new keys (FLAGS.REKEY). -/
  rekey    : Bool := false
  keyAt    : Nat := 0
  /-- Messages that wait for the link, oldest first. -/
  egress   : List SpMsg := []
deriving DecidableEq, Repr

/-- A stream end (Table 17.11). State 0 CLOSED, 1 WAITING, 2 UP, 3 POISONED. -/
structure Strm where
  state    : Nat := 0
  peer     : Nat := 0
  slip     : Option Nat := none
  pf       : Bool := false
  spike    : Bool := false
  cls      : Nat := 0
  lag      : Nat := 1
  group    : Nat := 0
  rate     : Nat := 0
  func     : Nat := 0
  txSeq    : Nat := 0
  applied  : Nat := 0
  credits  : Nat := 0
  /-- Receiving side: last SEQ applied, credits granted and not used, first SEQ refused since the open. -/
  rxSeq    : Nat := 0
  granted  : Nat := 0
  firstFail : Nat := 0
  /-- WRITE_ERROR has been sent for this poison. -/
  refused  : Nat := 0
  discarded : Nat := 0
  /-- FIRST_SEQ of the poison (R462). -/
  poisonSeq : Nat := 0
  /-- Commands that wait for the far end: open or reopen, close, fence. -/
  openRef  : Option CmdRef := none
  closeRef : Option CmdRef := none
  fenceRef : Option CmdRef := none
  /-- Writes that wait for credit, spikes that wait to be packed, ticks closed by TICK_MARK. -/
  out      : List SpBody := []
  spikes   : List Nat := []
  closed   : Nat := 0
  /-- A contract covers the stream. -/
  contracted : Bool := false
deriving DecidableEq, Repr

/-- A barrier pending on this device (R466). -/
structure Barrier where
  id      : Nat
  ref     : Option CmdRef
  at_     : Nat
  /-- Child ports whose subtree has arrived; ARRIVE sent to the parent; the release tick once known. -/
  ports   : List Nat
  sent    : Bool
  release : Option Nat
  since   : Nat
deriving DecidableEq, Repr

/-- A time marker waiting for its tick (R464). -/
structure Marker where
  tick : Nat
  what : MarkerOp
deriving DecidableEq, Repr

/-- The binding (R454, R455): DEV_ID, ROOT_ID, membership, parent port, depth, latencies (L_dev in ps, TICK_LEAD_MAX and JUMP_LIMIT in ns). -/
structure Bind where
  member  : Bool := false
  dev     : Nat := 0
  root    : Nat := 0
  isRoot  : Bool := false
  parent  : Option Nat := none
  depth   : Nat := 0
  lDev    : Nat := 0
  leadNs  : Nat := 0
  jumpNs  : Nat := 0
  /-- Root: members with their L_dev. -/
  ids     : List (Nat × Nat) := []
  /-- Child ports, and joins passing through: identifier and port. -/
  children : List Nat := []
  joins   : List (Nat × Nat) := []
  joinRef : Option (CmdRef × Nat × Nat) := none
  barriers : List Barrier := []
  /-- Commands of this device that a reply of the root completes: broadcasts, with their tick, and a snapshot. -/
  bcastRefs : List (CmdRef × Nat) := []
  snapRef  : Option CmdRef := none
  /-- Items dropped because they came late, by origin device (R60). -/
  late     : SMap Nat := []
  markers : List Marker := []
  /-- Broadcast buffer: origin and payload; broadcasts waiting for their tick. -/
  bcast   : Option (Nat × List Nat) := none
  bcastDue : List (Nat × Nat × List Nat) := []
  /-- Tick of a binding reset. -/
  resetAt : Option (Nat × Option CmdRef) := none
deriving DecidableEq, Repr

end Sys2Proof.Machine
end

