-- ==== Sys2Proof/Machine/State.lean ====
section
/-! DEFINITION. The state of the block as plain data: every register (in `regs`, by BAR0 offset), counter and shadow, and
every unit's typed state, with the queue of waiting commands; State.reset is the device at the end of power-up. -/
namespace Sys2Proof.Machine

/-- Why a run stops with a fault. -/
inductive Fault where
  /-- Raised by SUPPLY_MON on a rail beyond the absolute maximum ratings: no rule of the manual holds of a device so
  stressed (R579). Safe: the model claims nothing of it. -/
  | overstress
deriving DecidableEq, Repr

/-- Why a run stops with a refusal. -/
inductive Refusal where
  /-- Raised by an arm of the dispatch that has no meaning yet. Safe. -/
  | notModelled (mnemonic : String)
deriving DecidableEq, Repr

/-- What the block sends to the outside. -/
inductive EmitKind where
  /-- A completion entry (Table 13.4): function, queue, entry; tag, status, detail, tick, SQ_HEAD, flags, result. -/
  | completion
  /-- A ring entry (Table 13.6): function, queue, entry; RTYPE, PHASE, DROPS, SIZE, then contents. -/
  | ringEntry
  /-- An MSI-X message: function, vector. -/
  | msix
  /-- An AER report: function, error, cause, offset. -/
  | aer
  /-- Bytes written through a command's scatter-gather list: function, queue, tag; contents. -/
  | sglWrite
  /-- The value of a register or window read: function, offset; value. -/
  | readData
  /-- A read refused with Completer Abort, answered Unsupported Request, or returned poisoned: function, offset. -/
  | completerAbort | unsupported | poisoned
  /-- A pin driven: pin, level. -/
  | pin
  /-- A Spine message: port, type; contents. -/
  | spine
  /-- A datagram on Ethernet: port; contents. -/
  | ethernet
  /-- A transaction on I3C or SPI: bus; contents. -/
  | bus
  /-- A class-6 marker in a result stream (R49, R55): function, queue; kind, tick, contents. -/
  | marker
  /-- A trigger or sync edge: output, level, SYSTIME. -/
  | edge
  /-- A PCIe or DOE message: kind; contents. -/
  | link
deriving DecidableEq, Repr

/-- One thing sent: its kind, its destination and its contents. -/
structure Emit where
  kind : EmitKind
  dst  : List Nat
  data : List Nat
deriving DecidableEq, Repr

/-- A staged command (R355, R374): its packet, effective tick, object and the command itself. -/
structure Staged where
  ref  : CmdRef
  tick : Nat
  obj  : Nat
  cmd  : Instr
deriving DecidableEq, Repr

/-- The state of the block. -/
structure State where
  /-- Registers by key (PF0's BAR0 offset; VF f's page at f · 2^32 + offset): what differs from the reset value. -/
  regs     : SMap (Option Word) := []
  /-- Counters (R499) by the key of their register, and their shadows (R503). -/
  ctrs     : SMap Ctr := []
  shadow   : SMap Ctr := []
  /-- Staging buffer (R564) and read latch (R565) of each function: register key and data. -/
  stageBuf : SMap (Option (Nat × Word)) := []
  latch    : SMap (Option (Nat × Word)) := []
  tim      : Tim := {}
  fns      : SMap Fn := []
  qps      : SMap QPair := []
  vecs     : SMap Vec := []
  /-- Fetch order (R354): was PF0 served last, and the last VF served. -/
  fetchPf  : Bool := false
  fetchFn  : Nat := 0
  staged   : List Staged := []
  /-- A device reset has been started (R493) and its sequence waits. -/
  resetDue : Bool := false
  slips    : SMap Slip := []
  keys     : SMap KeySlot := []
  granules : SMap Granule := []
  obs      : Obs := {}
  si       : Si := {}
  hops     : SMap Hopper := []
  sfms     : SMap Sfm := []
  pwr      : Pwr := {}
  quires   : SMap Quire := []
  arbs     : SMap Arb := []
  kxb      : Kxb := {}
  ascu     : Ascu := {}
  fu       : Fu := {}
  graphs   : SMap Graph := []
  contracts : SMap Contract := []
  /-- Admissions that wait for other devices (R340). -/
  conAdmits : List ConAdmit := []
  /-- The next object identifiers (graphs and contracts count up from 1). -/
  nextGraph : Nat := 1
  nextContract : Nat := 1
  /-- Device-wide values of CONTRACT_POLICY (R328): DRAM, Spine and host shares in percent, CONTRACT_STEP, ALLOW, WIN_TICKS, recovery reserve. -/
  policy   : List Nat := [75, 90, 80, 18, 500, 10000, 32]
  /-- Records that wait for issue, oldest first, and reference ticks to be served (R324). -/
  recs     : List Rec := []
  dues     : List Due := []
  sps      : SMap SpPort := []
  streams  : SMap Strm := []
  bind     : Bind := {}
  sec      : Sec := {}
  xio      : Xio := {}
  /-- Items that wait in the input channels of the chip-level units, by channel number (Table 5.5, R457). -/
  uchans   : SMap (List (BitVec 64)) := []
  /-- DRAM contents by address, under the key that wrote them; unlisted bytes read as the clear leaves them (R397). -/
  dram     : SMap (BitVec 8) := []
  /-- What has been sent, latest first, and the number of free values taken (the model's own fields). -/
  out      : List Emit := []
  free     : Nat := 0
  /-- Commands waiting to be taken, first in first out. -/
  pending  : List Instr := []
deriving DecidableEq, Repr

/-- The device at the end of power-up (R528, R493 step 5): every unit at reset, PF0 ready (log entry 1). -/
def State.reset : State := { fns := [(0, { exist := true, rdy := true })] }

end Sys2Proof.Machine
end

