-- ==== Sys2Proof/Machine/RegTable.lean ====
section
/-! DEFINITION. The register table: what chapter 22 and the register tables of the blocks' chapters say of every
register: its place, width, reset value, the fields a host write may change, and when. -/
namespace Sys2Proof.Machine

/-- When a register's RW fields are writable. -/
inductive WCond where
  | always
  /-- FN_CTL.EN = 0 (Table 13.10). -/
  | admqOff
  /-- The port is disabled (R91), and for rules also PRESET = CUSTOM (R71). -/
  | portOff | portCustom
  /-- The Corner or Flow Unit is disabled (R115). -/
  | crnOff | flowOff
  /-- The XIO entry or interface is disabled (R559); the register whose EN (bit 63 or 31) decides lies at an offset back. -/
  | xioSelf | xioBack (n : Nat)
  deriving DecidableEq, Repr

/-- What a register holds. -/
inductive RKind where
  /-- Stored contents, written by the host or by hardware. -/
  | store
  /-- A counter (R499). -/
  | ctr
  /-- A value computed from the state. -/
  | sysTime | tickCount | ets | tickCfg
  | fnId | fnStatus | fnOvf | pba
  | mcSlc | mcKsData | mcGrData | mcSvc | mcClear
  | siStatus | flogHead | flog
  | obsStatus | obsSnapId | obsSnapTick | obsSnapPend | obsCaps | obsTrace | obsLost | obsAlarm | obsBsum
  | hopStatus | hopStime
  | sfmQ | sfmStatus | sfmOrigin | sfmEnd | snapStatus | drebAnchor | drebSwitch | drebLog | slotStatus | slotT
  | capForm | capLinks | capFw | lvActive | lvActiveHi | lvRetired | lvRetiredHi | lvStatus | lvLanes | lvGen
  | qrStatus | qrFreq | qrRing0 | qrRing1 | qrPtr0 | qrPtr1 | qrAeFault | qrChan | qrChanCnt | qrGrind
  | spkStatus | spkCfg | neurData | neurStart | krTblLo | krTblHi | krPending | krCfg | spkClass | spkClassHi
  | kxbStatus | kxbAtt | kxbGroup | kxbGroupHi
  | dppStatus | fuStatus | fuNext | fuSrc | fuAge | tmStatus | tmSet | tmId | tmTrk
  | ascuStatus | ascuFetch | ascuFetchHi | ascuSrc | ascuChain | ascuOut | ascuTime | ascuP | ascuHold | ascuCoef
  | spnStatus | spnRtt | spnBind | spnBindLat | spnStream | spnStreamHi | spnStreamCnt | spnBcast
  | seStatus | seGen | seUid | seUidHi
  | pwrStatus | pwrStrap | pwrTemp | domLo | domHi | domWarm | pwrCl
  | xioStatus | gpioIn | quota | queue | doorbell | arbCfg
deriving DecidableEq, Repr

/-- Registers whose write has an action of its own, besides storing. -/
inductive RAct where
  | none
  | hopCtl | hopDec | hopRefr | hopBa | surfCfg | crnCfg | flowCfg | spnCtl | tickLead | jumpLimit | siReact | siLock
  | fnCtl | pwrLimit | msixCtl | hopBuf | gpioDir | gpioOut | egr | outCfg | outSafe | srcCtl | route | sqTail | head
deriving DecidableEq, Repr

/-- One register, or an array of them: offset in its block, (stride, count) pairs, 64 bits wide or 32, kind, reset value,
host-writable, write-1-to-clear and lockable fields, condition and action. -/
structure RegDef where
  off   : Nat
  dims  : List (Nat × Nat) := []
  wide  : Bool := false
  kind  : RKind := .store
  reset : Word := 0
  rw    : Word := 0
  w1c   : Word := 0
  rwl   : Word := 0
  cond  : WCond := .always
  act   : RAct := .none
deriving DecidableEq, Repr

/-- An arbiter's CFG register and N quota registers (Tables 1.3, 1.4). -/
def arbDefs (off : Nat) (dims : List (Nat × Nat)) (n : Nat) : List RegDef :=
  [ { off := off, dims := dims, reset := 0x40040, kind := .arbCfg },
    { off := off + 4, dims := dims ++ [(4, n)], reset := 0xFFFF, kind := .quota } ]

/-- Table 22.4. -/
def capDefs : List RegDef :=
  [ { off := 0x0, reset := 0x4C5809B0 }, { off := 0x4, kind := .capForm }, { off := 0x8, kind := .capFw }, { off := 0xC, reset := 0x00010024 },
    { off := 0x100, reset := 0x00400044 }, { off := 0x104, reset := 0x00101004 }, { off := 0x108, kind := .capLinks },
    { off := 0x10C, reset := 0x08200040 }, { off := 0x110, reset := 0x10000100 }, { off := 0x114, reset := 0x00401000 },
    { off := 0x118, reset := 0x00041130 }, { off := 0x11C, reset := 0x20080101 }, { off := 0x120, reset := 0x02008018 },
    { off := 0x200, wide := true, kind := .lvActive }, { off := 0x208, kind := .lvActiveHi },
    { off := 0x210, wide := true, kind := .lvRetired }, { off := 0x218, kind := .lvRetiredHi },
    { off := 0x220, kind := .lvStatus }, { off := 0x224, kind := .lvLanes }, { off := 0x228, kind := .lvGen } ]

/-- Table 20.8. -/
def pwrDefs : List RegDef :=
  [ { off := 0x0, kind := .pwrStatus }, { off := 0x4, w1c := 0x1F }, { off := 0x8, kind := .pwrStrap },
    { off := 0x10, wide := true, kind := .domLo }, { off := 0x18, wide := true, kind := .domHi },
    { off := 0x20, wide := true, kind := .domWarm }, { off := 0x28, reset := 0x03E80064, rw := 0xFFFFFFFF },
    { off := 0x2C, reset := 0xFDE8, rw := 0x1FFFF, act := .pwrLimit }, { off := 0x30 }, { off := 0x34, kind := .pwrTemp }, { off := 0x38 },
    { off := 0x100, dims := [(8, 17)], wide := true, kind := .pwrCl },
    { off := 0x200, dims := [(8, 8)], wide := true, kind := .ctr } ]

/-- Table 2.6. -/
def tuDefs : List RegDef :=
  [ { off := 0x0, wide := true, kind := .sysTime }, { off := 0x8, wide := true, kind := .tickCount }, { off := 0x10, kind := .ets },
    { off := 0x14, kind := .tickCfg }, { off := 0x18, reset := 0x14320321, rw := 0xFFFFFFFF, act := .srcCtl },
    { off := 0x1C, reset := 0x2000 }, { off := 0x20, reset := 0x7D0, rw := 0xFFFFF, act := .jumpLimit },
    { off := 0x24, reset := 0xC8, rw := 0x7FF, act := .tickLead },
    { off := 0x28, wide := true }, { off := 0x30, wide := true }, { off := 0x38, wide := true }, { off := 0x40 }, { off := 0x44 } ]

/-- Default and minimum reaction of causes 0x01 to 0x1D (Table 18.5). -/
def reactTable : List (Nat × Nat) :=
  [ (2, 2), (3, 2), (2, 2), (2, 2), (0, 0), (2, 2), (2, 2), (1, 1), (1, 1), (1, 1), (1, 1), (0, 0), (0, 0), (0, 0), (3, 0), (3, 0),
    (2, 2), (2, 2), (0, 0), (0, 0), (4, 4), (4, 4), (3, 3), (3, 3), (3, 3), (3, 3), (0, 0), (4, 4), (4, 4) ]

/-- Default and minimum reaction of one cause; reserved causes have none. -/
def reactOf (c : Nat) : Nat × Nat := (reactTable[c - 1]?).getD (0, 0)

/-- SI_REACT_c: MIN at [6:4], REACTION at [2:0]. -/
def reactDefs : List RegDef :=
  (List.range 29).map (fun i =>
    { off := 0x104 + 4 * i, act := .siReact, rwl := 0x7,
      reset := BitVec.ofNat 64 ((reactOf (i + 1)).2 * 16 + (reactOf (i + 1)).1) })

/-- Table 18.8. -/
def simDefs : List RegDef :=
  [ { off := 0x0, kind := .siStatus }, { off := 0x4, rwl := 0x3 }, { off := 0x8, reset := 0x01FF0000, rwl := 0x01FF01FF, act := .outSafe },
    { off := 0xC, reset := 0x3E8, rwl := 0x8000FFFF }, { off := 0x10, rwl := 0xFFFF }, { off := 0x14, reset := 0x5 },
    { off := 0x18, act := .siLock }, { off := 0x20, wide := true }, { off := 0x28, kind := .flogHead },
    { off := 0x400, dims := [(8, 10)], wide := true, kind := .ctr },
    { off := 0x1000, dims := [(32, 64), (8, 4)], wide := true, kind := .flog } ] ++ reactDefs

/-- Table 16.10. -/
def semDefs : List RegDef :=
  [ { off := 0x0, kind := .seStatus }, { off := 0x4, w1c := 0x1E }, { off := 0x8, kind := .seGen },
    { off := 0x10, wide := true, kind := .seUid }, { off := 0x18, wide := true, kind := .seUidHi },
    { off := 0x100, dims := [(8, 7)], wide := true, kind := .ctr } ]

/-- Table 19.7. -/
def obsDefs : List RegDef :=
  [ { off := 0x0, kind := .obsStatus }, { off := 0x4, w1c := 0x7 }, { off := 0x8, kind := .obsSnapId },
    { off := 0x10, wide := true, kind := .obsSnapTick }, { off := 0x18, wide := true, kind := .obsSnapPend },
    { off := 0x20, kind := .obsCaps }, { off := 0x28, wide := true, kind := .obsTrace },
    { off := 0x100, dims := [(8, 9)], wide := true, kind := .ctr }, { off := 0x200, dims := [(8, 64)], wide := true, kind := .obsLost },
    { off := 0x1000, dims := [(32, 256), (8, 4)], wide := true, kind := .obsAlarm },
    { off := 0x4000, dims := [(16, 1024), (8, 2)], wide := true, kind := .obsBsum } ]

/-- Function page (Table 13.10), relative to its base; PF0 has 2,048 moderation registers, a VF 8. -/
def fnDefs (pf : Bool) : List RegDef :=
  [ { off := 0x0, kind := .fnId }, { off := 0x4, rw := 0x1, act := .fnCtl }, { off := 0x8, kind := .fnStatus },
    { off := 0xC, w1c := 0x1FF }, { off := 0x10, wide := true, rw := 0xFFFFFFFFFFFFFFFF, cond := .admqOff },
    { off := 0x18, wide := true, rw := 0xFFFFFFFFFFFFFFFF, cond := .admqOff },
    { off := 0x20, reset := 0x07060000, rw := 0x1F1F07FF, cond := .admqOff },
    { off := 0x28, wide := true }, { off := 0x30, wide := true, kind := .tickCount }, { off := 0x38, wide := true, kind := .sysTime },
    { off := 0x40, kind := .fnOvf }, { off := 0x200, dims := [(8, 6)], wide := true, kind := .ctr } ] ++
  (if pf then [ { off := 0x2000, dims := [(4, 2048)], reset := 0x00010000, rw := 0x00FF03FF },
                { off := 0x4000, dims := [(8, 32)], wide := true, kind := .pba },
                { off := 0x8000, dims := [(16, 2048), (4, 3)], rw := 0xFFFFFFFF },
                { off := 0x800C, dims := [(16, 2048)], reset := 1, rw := 1, act := .msixCtl } ]
             ++ arbDefs 0x1000 [] 7 ++ arbDefs 0x1040 [] 17
   else [ { off := 0x100, dims := [(4, 8)], reset := 0x00010000, rw := 0x00FF03FF } ])

/-- The rest of a VF's BAR0 (Table 22.3): static CAP copy, MSI-X table and PBA. -/
def vfDefs : List RegDef :=
  [ { off := 0x4000, dims := [(16, 8), (4, 3)], rw := 0xFFFFFFFF },
    { off := 0x400C, dims := [(16, 8)], reset := 1, rw := 1, act := .msixCtl },
    { off := 0x5000, wide := true, kind := .pba } ]

/-- Tables 3.15 to 3.18. -/
def hopDefs : List RegDef :=
  [ { off := 0x0, rw := 0x5F, act := .hopCtl }, { off := 0x4, kind := .hopStatus },
    { off := 0x8, reset := 0x03FF07FF, rw := 0x0FFF0FFF, cond := .portOff }, { off := 0xC, reset := 0xC03E4, rw := 0xFFFFF, cond := .portOff },
    { off := 0x10, reset := 0x885100, rw := 0xFFF383, cond := .portOff, act := .hopDec },
    { off := 0x14, reset := 0x00102710, rw := 0xFFFFFFFF, cond := .portOff },
    { off := 0x20, rw := 0xFFF, act := .hopRefr }, { off := 0x24, reset := 0x07D00000, rw := 0x1FFF001F, act := .hopBa },
    { off := 0x28 }, { off := 0x2C }, { off := 0x30, reset := 0x30204020, rw := 0xFFFFFF3F, act := .hopBuf },
    { off := 0x38, wide := true }, { off := 0x40, wide := true, kind := .hopStime }, { off := 0x48, w1c := 0x1F },
    { off := 0x100, wide := true, reset := 0xC000101863182BB7, rw := 0xFFFFFFFFFFFFFFFF, cond := .portCustom },
    { off := 0x108, wide := true, reset := 0xC040403C00000001, rw := 0xFFFFFFFFFFFFFFFF, cond := .portCustom },
    { off := 0x110, wide := true, reset := 0xC080800000000001, rw := 0xFFFFFFFFFFFFFFFF, cond := .portCustom },
    { off := 0x118, wide := true, reset := 0xC0C0000000000001, rw := 0xFFFFFFFFFFFFFFFF, cond := .portCustom },
    { off := 0x120, dims := [(8, 28)], wide := true, rw := 0xFFFFFFFFFFFFFFFF, cond := .portCustom },
    { off := 0x208, dims := [(8, 17)], wide := true, kind := .ctr },
    { off := 0x300, dims := [(8, 11)], wide := true, kind := .ctr } ]

/-- Table 4.8: the global page. -/
def sfmDefs : List RegDef := [ { off := 0x0, kind := .sfmQ } ]

/-- Tables 4.8, 7.9, 8.12: the page of a region. -/
def sfmPageDefs : List RegDef :=
  [ { off := 0x0, reset := 0x10006400, rw := 0xFFFFFF00, act := .surfCfg }, { off := 0x4, kind := .sfmStatus },
    { off := 0x8, wide := true, kind := .sfmOrigin }, { off := 0x10, wide := true, kind := .sfmEnd },
    { off := 0x20, reset := 0x46384000, rw := 0xEFFFF000, act := .crnCfg }, { off := 0x24, reset := 0x27100001, rw := 0xFFFFFFFF, cond := .crnOff },
    { off := 0x28, reset := 0x50C02000, rw := 0xFFFFE000, act := .flowCfg }, { off := 0x2C, reset := 0x03E80008, rw := 0xFFFFFFFF, cond := .flowOff },
    { off := 0x30, w1c := 0x7 }, { off := 0x40, kind := .snapStatus }, { off := 0x48, wide := true, kind := .drebAnchor },
    { off := 0x50, wide := true, kind := .drebSwitch }, { off := 0x58, wide := true, kind := .drebLog },
    { off := 0x60, kind := .slotStatus }, { off := 0x68, dims := [(8, 4)], wide := true, kind := .slotT },
    { off := 0x100, dims := [(8, 19)], wide := true, kind := .ctr } ] ++ arbDefs 0x200 [] 22

/-- Tables 5.8, 7.8, 8.11, 9.10: the QR block of a quire. -/
def qrDefs : List RegDef :=
  [ { off := 0x0, kind := .qrStatus }, { off := 0x4, kind := .qrFreq }, { off := 0x8, reset := 0xFFFF2710 }, { off := 0xC, w1c := 0x7FF },
    { off := 0x20, wide := true, kind := .qrRing0 }, { off := 0x28, wide := true, kind := .qrPtr0 },
    { off := 0x30, wide := true, kind := .qrRing1 }, { off := 0x38, wide := true, kind := .qrPtr1 },
    { off := 0x40, wide := true, kind := .qrAeFault }, { off := 0x100, dims := [(8, 64)], wide := true, kind := .qrChan },
    { off := 0x300, dims := [(4, 64)], kind := .qrChanCnt }, { off := 0x400, dims := [(8, 64)], wide := true, kind := .ctr },
    { off := 0x600, dims := [(8, 27)], wide := true, kind := .ctr }, { off := 0x2000, dims := [(4, 8)], kind := .qrGrind },
    { off := 0x2200, kind := .spkCfg }, { off := 0x2204, kind := .spkStatus }, { off := 0x2208, w1c := 0x3 }, { off := 0x220C, kind := .krCfg },
    { off := 0x2210, rw := 0x1FFF }, { off := 0x2218, wide := true, kind := .neurData }, { off := 0x2220, kind := .neurStart },
    { off := 0x2228, rw := 0xFFF }, { off := 0x2230, wide := true, kind := .krTblLo }, { off := 0x2238, wide := true, kind := .krTblHi },
    { off := 0x2240, kind := .krPending }, { off := 0x2400, dims := [(16, 16)], wide := true, kind := .spkClass },
    { off := 0x2408, dims := [(16, 16)], wide := true, kind := .spkClassHi }, { off := 0x2500, dims := [(8, 16)], wide := true, kind := .ctr } ] ++
  arbDefs 0x1000 [(0x40, 16)] 8 ++ arbDefs 0x1400 [(0x40, 8)] 4 ++ arbDefs 0x2100 [] 2

/-- Table 9.11. -/
def kxbDefs : List RegDef :=
  [ { off := 0x0, kind := .kxbStatus }, { off := 0x4, w1c := 0x1 }, { off := 0x100, dims := [(4, 64)], reset := 7 },
    { off := 0x400, dims := [(8, 16)], wide := true, kind := .kxbAtt }, { off := 0x1000, dims := [(16, 1024)], wide := true, kind := .kxbGroup },
    { off := 0x1008, dims := [(16, 1024)], wide := true, kind := .kxbGroupHi }, { off := 0x5000, dims := [(8, 72)], wide := true, kind := .ctr },
    { off := 0x5300, dims := [(8, 4)], wide := true, kind := .ctr }, { off := 0x5400, dims := [(8, 18)], wide := true, kind := .ctr } ]

/-- Table 11.12. -/
def fuDefs : List RegDef :=
  [ { off := 0x0, kind := .fuStatus }, { off := 0x4, w1c := 0xF }, { off := 0x40, dims := [(8, 8)], wide := true, kind := .fuNext },
    { off := 0x100, dims := [(8, 11)], wide := true, kind := .ctr }, { off := 0x2000, dims := [(16, 64)], wide := true, kind := .fuSrc },
    { off := 0x2008, dims := [(16, 64)], wide := true, kind := .fuAge } ] ++ arbDefs 0x1000 [] 64

/-- Table 11.13. -/
def tmDefs : List RegDef :=
  [ { off := 0x0, kind := .tmStatus }, { off := 0x4, w1c := 0x7 }, { off := 0x40, dims := [(8, 8)], wide := true, kind := .tmSet },
    { off := 0x100, dims := [(8, 8)], wide := true, kind := .tmId }, { off := 0x200, dims := [(8, 14)], wide := true, kind := .ctr },
    { off := 0x2000, rw := 0xFFF }, { off := 0x2040, dims := [(8, 8)], wide := true, kind := .tmTrk } ] ++ arbDefs 0x1000 [] 64

/-- Table 8.13. -/
def dppDefs : List RegDef :=
  [ { off := 0x0, kind := .dppStatus }, { off := 0x4, w1c := 0x3 }, { off := 0x100, dims := [(8, 7)], wide := true, kind := .ctr } ] ++
  arbDefs 0x1000 [] 64

/-- Table 10.7. -/
def ascuDefs : List RegDef :=
  [ { off := 0x0, kind := .ascuStatus }, { off := 0x4, w1c := 0x1F }, { off := 0x100, dims := [(16, 16)], wide := true, kind := .ascuFetch },
    { off := 0x108, dims := [(16, 16)], wide := true, kind := .ascuFetchHi }, { off := 0x1000, dims := [(0x40, 32)], wide := true, kind := .ascuSrc },
    { off := 0x1008, dims := [(0x40, 32)], wide := true, kind := .ascuChain }, { off := 0x1010, dims := [(0x40, 32)], wide := true, kind := .ascuOut },
    { off := 0x1018, dims := [(0x40, 32)], wide := true, kind := .ascuTime }, { off := 0x1020, dims := [(0x40, 32)], wide := true, kind := .ascuP },
    { off := 0x1028, dims := [(0x40, 32)], wide := true, kind := .ascuHold },
    { off := 0x4000, dims := [(0x400, 32), (8, 103)], wide := true, kind := .ascuCoef },
    { off := 0xC000, dims := [(0x80, 32), (8, 10)], wide := true, kind := .ctr }, { off := 0xE000, dims := [(0x20, 16), (8, 3)], wide := true, kind := .ctr } ]

/-- Table 17.9; the registers from 0x2000 on are SP0's only. -/
def spnDefs (p : Nat) : List RegDef :=
  [ { off := 0x0, rw := 0x1, act := .spnCtl }, { off := 0x4, kind := .spnStatus }, { off := 0x8, w1c := 0x3F },
    { off := 0x10, wide := true, kind := .spnRtt }, { off := 0x100, dims := [(8, 16)], wide := true, kind := .ctr } ] ++ arbDefs 0x1000 [] 8 ++
  (if p = 0 then
    [ { off := 0x2000, wide := true, kind := .spnBind }, { off := 0x2008, wide := true, kind := .spnBindLat }, { off := 0x2010, rw := 0xFFF },
      { off := 0x2018, wide := true, kind := .spnStream }, { off := 0x2020, wide := true, kind := .spnStreamHi },
      { off := 0x2028, wide := true, kind := .spnStreamCnt }, { off := 0x2100, dims := [(8, 2)], wide := true, kind := .ctr },
      { off := 0x3000, dims := [(8, 512)], wide := true, kind := .spnBcast },
      { off := 0x8000, dims := [(8, 4096)], wide := true, rw := 0xFFFFFFFFFFFFFFFF, act := .route } ]
   else [])

/-- Tables 15.8, 21.8, 21.9 and the DRAM and mesh arbiters of Table 22.6. -/
def mcDefs : List RegDef :=
  [ { off := 0x0, reset := 0x00402155, rwl := 0xBFF0FFFF }, { off := 0x4, w1c := 0x7 }, { off := 0x1000, dims := [(8, 64)], wide := true, kind := .mcSlc },
    { off := 0x2000, rw := 0xFFF }, { off := 0x2008, wide := true, kind := .mcKsData }, { off := 0x2010, rw := 0x7FFF },
    { off := 0x2018, wide := true, kind := .mcGrData }, { off := 0x2020, wide := true, kind := .mcSvc }, { off := 0x2028, wide := true, kind := .mcClear },
    { off := 0x3000, dims := [(8, 9)], wide := true, kind := .ctr } ] ++
  arbDefs 0x3800 [(0x40, 8)] 8 ++ arbDefs 0x4000 [(0x80, 64)] 27 ++ arbDefs 0x6000 [(0x400, 27)] 4 ++ arbDefs 0x6200 [(0x400, 27)] 27

/-- Table 21.7. -/
def xioDefs : List RegDef :=
  [ { off := 0x0, kind := .xioStatus }, { off := 0x4, w1c := 0x1F },
    { off := 0x10, dims := [(8, 2)], wide := true, rw := 0xFFFF8000FFFFFFFF, cond := .xioSelf },
    { off := 0x20, dims := [(8, 2)], wide := true, rw := 0xE0FF0000FFFFFFFF, cond := .xioBack 0x10 },
    { off := 0x100, dims := [(8, 16)], wide := true, rw := 0xFF3FFFFFFFFFFFFF, cond := .xioSelf },
    { off := 0x200, dims := [(16, 16)], wide := true, rw := 0xFF00FFFFFFFF0000, cond := .xioSelf, act := .egr },
    { off := 0x208, dims := [(16, 16)], wide := true, rw := 0xFFFFFFFFFFFFFFFF, cond := .xioBack 8 },
    { off := 0x300, dims := [(16, 8)], wide := true, reset := 0x4000000000000000, rw := 0xFFFFFFFFFFFF0000, cond := .xioSelf, act := .outCfg },
    { off := 0x308, dims := [(16, 8)], wide := true, rw := 0xFFFFFFFFFFFFFFFF, cond := .xioBack 8 },
    { off := 0x380, reset := 0x20000001, rw := 0xE0FFFFFF, cond := .xioSelf, act := .outCfg },
    { off := 0x390, dims := [(4, 2)], rw := 0xC0FF00FF, cond := .xioSelf }, { off := 0x3A0, dims := [(4, 2)], rw := 0x8FF000FF, cond := .xioSelf },
    { off := 0x3C0, wide := true, rw := 0xFFFFFFFFFFFFFFFF, act := .gpioOut }, { off := 0x3C8, wide := true, rw := 0xFFFFFFFFFFFFFFFF, act := .gpioDir },
    { off := 0x3D0, wide := true, kind := .gpioIn },
    { off := 0x400, dims := [(8, 16)], wide := true, kind := .ctr }, { off := 0x480, dims := [(8, 2)], wide := true, kind := .ctr } ]

/-- The doorbells of a function's queue pairs (R348), which read as 0. -/
def doorDefs : List RegDef :=
  [ { off := 0, dims := [(64, 256)], kind := .doorbell, act := .sqTail }, { off := 4, dims := [(64, 256)], kind := .doorbell, act := .head } ]

/-- The register definitions of the block page that holds an offset of PF0's BAR0, and the page's base (Table 22.2). -/
def pfPage (o : Nat) : Option (Nat × List RegDef) :=
  if o < 0x10000 then some (0, capDefs)
  else if o < 0x20000 then some (0x10000, pwrDefs)
  else if o < 0x30000 then some (0x20000, tuDefs)
  else if o < 0x40000 then some (0x30000, simDefs)
  else if o < 0x50000 then some (0x40000, semDefs)
  else if o < 0x60000 then some (0x50000, obsDefs)
  else if o < 0x70000 then some (0x60000, fnDefs true)
  else if o < 0x100000 then none
  else if o < 0x200000 then some (o / 0x10000 * 0x10000, hopDefs)
  else if o < 0x201000 then some (0x200000, sfmDefs)
  else if o < 0x211000 then some (o / 0x1000 * 0x1000, sfmPageDefs)
  else if o < 0x300000 then none
  else if o < 0x410000 then some (o / 0x4000 * 0x4000, qrDefs)
  else if o < 0x500000 then none
  else if o < 0x510000 then some (0x500000, kxbDefs)
  else if o < 0x600000 then none
  else if o < 0x610000 then some (0x600000, fuDefs)
  else if o < 0x620000 then some (0x610000, tmDefs)
  else if o < 0x630000 then some (0x620000, dppDefs)
  else if o < 0x700000 then none
  else if o < 0x710000 then some (0x700000, ascuDefs)
  else if o < 0x800000 then none
  else if o < 0x840000 then some (o / 0x10000 * 0x10000, spnDefs ((o - 0x800000) / 0x10000))
  else if o < 0x900000 then none
  else if o < 0x910000 then some (0x900000, mcDefs)
  else if o < 0xA00000 then none
  else if o < 0xA10000 then some (0xA00000, xioDefs)
  else if o < 0x1000000 then none
  else if o < 0x1004000 then some (0x1000000, doorDefs)
  else if o < 0x1800000 then none
  else if o < 0x2000000 then some (0x1800000, [ { off := 0, dims := [(8, 1048576)], wide := true, kind := .queue } ])
  else none

/-- The page of a function's BAR0 that holds an offset, with the key of the page's start. -/
def page (fn o : Nat) : Option (Nat × Nat × List RegDef) :=
  if fn = 0 then (pfPage o).map (fun p => (p.1, p.1, p.2))
  else if o < 0x1000 then some (0, fn * 2 ^ 32, fnDefs false)
  else if o < 0x1024 then some (0xF00, 0, capDefs)
  else if o < 0x8000 then some (0, fn * 2 ^ 32, vfDefs)
  else if o < 0xC000 then some (0x8000, fn * 2 ^ 32 + 0x8000, doorDefs)
  else none

/-- Matching of an offset against nested strides: the indices, outermost first. -/
def idxs : Nat → List (Nat × Nat) → Option (List Nat)
  | off, [] => if off = 0 then some [] else none
  | off, (st, ct) :: r => if off / st < ct then (idxs (off % st) r).map (fun l => off / st :: l) else none

/-- Find the definition that an offset within a page names, with its indices. -/
def findDef : List RegDef → Nat → Option (RegDef × List Nat)
  | [], _ => none
  | d :: r, o =>
    if d.off ≤ o then (match idxs (o - d.off) d.dims with | some l => some (d, l) | none => findDef r o) else findDef r o

/-- The register at an offset of a function's BAR0: its key, definition and indices. -/
def locate (fn o : Nat) : Option (Nat × RegDef × List Nat) :=
  match page fn o with
  | none => none
  | some (b, k, ds) => (findDef ds (o - b)).map (fun p => (k + (o - b), p.1, p.2))

/-- The reset value of the register with a key. -/
def resetVal (k : Nat) : Word :=
  match locate (k / 2 ^ 32) (k % 2 ^ 32) with
  | some (_, d, _) => d.reset
  | none => 0

/-- Contents of a stored register. -/
def State.reg (s : State) (k : Nat) : Word := (SMap.get none s.regs k).getD (resetVal k)

/-- Store a register's contents. -/
def State.setReg (s : State) (k : Nat) (v : Word) : State :=
  { s with regs := SMap.put none s.regs k (if v = resetVal k then none else some v) }

/-- Field [hi:lo] of a stored register. -/
def State.rfld (s : State) (k hi lo : Nat) : Nat := ((s.reg k).toNat >>> lo) % 2 ^ (hi + 1 - lo)

end Sys2Proof.Machine
end

