-- ==== Sys2Proof/Machine/Ops.lean ====
section
/-! DEFINITION. The named operations the meanings share: bit fields, registers, counters, emissions, free values, logs,
alarms, function events and completions. -/
namespace Sys2Proof.Machine

/-! ## Bits and bytes -/

/-- Bits [hi:lo] of a number. -/
def bitsN (v hi lo : Nat) : Nat := (v >>> lo) % 2 ^ (hi + 1 - lo)

/-- Bits [hi:lo] of a word, as a number. -/
def fld (v : Word) (hi lo : Nat) : Nat := (v.toNat >>> lo) % 2 ^ (hi + 1 - lo)

/-- One bit of a word. -/
def bit (v : Word) (i : Nat) : Bool := v.getLsbD i

/-- Mask of bits [hi:lo]. -/
def mask (hi lo : Nat) : Word := BitVec.ofNat 64 ((2 ^ (hi + 1 - lo) - 1) <<< lo)

/-- A word with bits [hi:lo] replaced by x. -/
def setFld (v : Word) (hi lo : Nat) (x : Nat) : Word :=
  (v &&& ~~~ mask hi lo) ||| (BitVec.ofNat 64 ((x % 2 ^ (hi + 1 - lo)) <<< lo))

/-- A word with one bit set or cleared. -/
def setBit (v : Word) (i : Nat) (b : Bool) : Word := setFld v i i b.toNat

/-- Little-endian packing of (value, bytes) fields. -/
def packLE : List (Nat × Nat) → Nat
  | [] => 0
  | (v, n) :: r => v % 256 ^ n + 256 ^ n * packLE r

/-- A completion's RESULT from its fields (R373). -/
def result (l : List (Nat × Nat)) : BitVec 128 := BitVec.ofNat 128 (packLE l)

/-- The signed value of an n-bit number. -/
def sext (n v : Nat) : Int := if v % 2 ^ n < 2 ^ (n - 1) then ((v % 2 ^ n : Nat) : Int) else ((v % 2 ^ n : Nat) : Int) - (2 ^ n : Nat)

/-- The n-bit number of a signed value. -/
def unsig (n : Nat) (i : Int) : Nat := (i % ((2 ^ n : Nat) : Int)).toNat

/-- A count that stops at a limit. -/
def satN (m v : Nat) : Nat := min m v

/-- Numbers whose bits are set, ascending. -/
def bitsSet (n v : Nat) : List Nat := (List.range n).filter (fun i => v.testBit i)

/-- The number with the given bits set. -/
def maskOf (l : List Nat) : Nat := l.foldl (fun a i => a ||| 1 <<< i) 0

/-! ## Where registers lie (Tables 22.2 and 22.3) -/

/-- The bases of the blocks in PF0's BAR0. -/
def capB : Nat := 0x0
def pwrB : Nat := 0x10000
def tuB : Nat := 0x20000
def simB : Nat := 0x30000
def semB : Nat := 0x40000
def obsB : Nat := 0x50000
def cmdB : Nat := 0x60000
def hopB (n : Nat) : Nat := 0x100000 + n * 0x10000
def sfmB : Nat := 0x200000
def sfmP (r : Nat) : Nat := 0x201000 + r * 0x1000
def qrB (q : Nat) : Nat := 0x300000 + q * 0x4000
def kxbB : Nat := 0x500000
def fuB : Nat := 0x600000
def tmB : Nat := 0x610000
def dppB : Nat := 0x620000
def ascuB : Nat := 0x700000
def spnB (p : Nat) : Nat := 0x800000 + p * 0x10000
def mcB : Nat := 0x900000
def xioB : Nat := 0xA00000
/-- The register page of a function (R342): CMD for PF0, the start of BAR0 for a VF. -/
def fnB (f : Nat) : Nat := if f = 0 then cmdB else f * 2 ^ 32

/-! ## Units, registers and counters -/

def State.fn (s : State) (f : Nat) : Fn := SMap.get {} s.fns f
def State.modFn (s : State) (f : Nat) (g : Fn → Fn) : State := { s with fns := SMap.upd {} s.fns f g }
/-- The queue pair with global index f · 256 + q (R344). -/
def State.qp (s : State) (k : Nat) : QPair := SMap.get {} s.qps k
def State.modQp (s : State) (k : Nat) (g : QPair → QPair) : State := { s with qps := SMap.upd {} s.qps k g }
def State.slip (s : State) (n : Nat) : Slip := SMap.get {} s.slips n
def State.modSlip (s : State) (n : Nat) (g : Slip → Slip) : State := { s with slips := SMap.upd {} s.slips n g }
/-- Add to a partition's resource counter (Table 15.7). -/
def Slip.count (x : Slip) (i n : Nat) : Slip := { x with cnt := x.cnt.set i ((x.cnt[i]?).getD 0 + n) }
def State.key (s : State) (n : Nat) : KeySlot := SMap.get {} s.keys n
def State.modKey (s : State) (n : Nat) (g : KeySlot → KeySlot) : State := { s with keys := SMap.upd {} s.keys n g }
def State.gran (s : State) (n : Nat) : Granule := SMap.get .dirty s.granules n
def State.setGran (s : State) (n : Nat) (g : Granule) : State := { s with granules := SMap.put .dirty s.granules n g }
def State.vec (s : State) (k : Nat) : Vec := SMap.get {} s.vecs k
def State.modVec (s : State) (k : Nat) (g : Vec → Vec) : State := { s with vecs := SMap.upd {} s.vecs k g }
def State.hop (s : State) (n : Nat) : Hopper := SMap.get {} s.hops n
def State.modHop (s : State) (n : Nat) (g : Hopper → Hopper) : State := { s with hops := SMap.upd {} s.hops n g }
def State.sfm (s : State) (n : Nat) : Sfm := SMap.get {} s.sfms n
def State.modSfm (s : State) (n : Nat) (g : Sfm → Sfm) : State := { s with sfms := SMap.upd {} s.sfms n g }

def State.quire (s : State) (q : Nat) : Quire := SMap.get {} s.quires q
def State.modQuire (s : State) (q : Nat) (g : Quire → Quire) : State := { s with quires := SMap.upd {} s.quires q g }
/-- STATE of a quire (Table 5.10): 0 SPARE, 1 ACTIVE, 2 FENCED, 3 RETIRED. -/
def State.qState (s : State) (q : Nat) : Nat := (s.quire q).state.getD (if q < 64 then 1 else 0)
def State.modTile (s : State) (q : Nat) (g : Tile → Tile) : State := s.modQuire q (fun x => { x with spk := g x.spk })
def State.modKxb (s : State) (g : Kxb → Kxb) : State := { s with kxb := g s.kxb }
def State.graph (s : State) (g : Nat) : Graph := SMap.get {} s.graphs g
def State.modGraph (s : State) (g : Nat) (f : Graph → Graph) : State := { s with graphs := SMap.upd {} s.graphs g f }
def State.contract (s : State) (c : Nat) : Contract := SMap.get {} s.contracts c
def State.modContract (s : State) (c : Nat) (f : Contract → Contract) : State := { s with contracts := SMap.upd {} s.contracts c f }
def State.port (s : State) (p : Nat) : SpPort := SMap.get {} s.sps p
def State.modPort (s : State) (p : Nat) (f : SpPort → SpPort) : State := { s with sps := SMap.upd {} s.sps p f }
def State.strm (s : State) (n : Nat) : Strm := SMap.get {} s.streams n
def State.modStrm (s : State) (n : Nat) (f : Strm → Strm) : State := { s with streams := SMap.upd {} s.streams n f }
def State.modBind (s : State) (f : Bind → Bind) : State := { s with bind := f s.bind }
def State.modSi (s : State) (g : Si → Si) : State := { s with si := g s.si }
def State.modTim (s : State) (g : Tim → Tim) : State := { s with tim := g s.tim }

def State.modPwr (s : State) (g : Pwr → Pwr) : State := { s with pwr := g s.pwr }
/-- A domain's state: 0 OFF, 1 RETAIN, 2 ON (Table 20.1). -/
def State.dom (s : State) (d : Nat) : Nat := SMap.get 2 s.pwr.doms d

/-- Write bits [hi:lo] of a stored register. -/
def State.setRfld (s : State) (k hi lo x : Nat) : State := s.setReg k (setFld (s.reg k) hi lo x)

/-- Set bits of a stored register (an error register's sticky bits). -/
def State.orReg (s : State) (k : Nat) (m : Word) : State := s.setReg k (s.reg k ||| m)

/-- A counter's value. -/
def State.ctr (s : State) (k : Nat) : Ctr := SMap.get 0 s.ctrs k

/-- Count n more (R499: modulo 2^48). -/
def State.bump (s : State) (k : Nat) (n : Nat := 1) : State :=
  { s with ctrs := SMap.put 0 s.ctrs k (SMap.get 0 s.ctrs k + BitVec.ofNat 48 n) }

/-- TICK_COUNT[31:0]. -/
def State.ets (s : State) : Nat := s.tim.tick % 2 ^ 32

/-- TICK_LEN in ns (Table 2.1). -/
def State.tickLen (s : State) : Nat := 250 * s.tim.tickQ

/-- Send something. -/
def State.emit (s : State) (k : EmitKind) (dst data : List Nat) : State := { s with out := ⟨k, dst, data⟩ :: s.out }

/-- Take a free value: the value and the state after (log entry 2). -/
def State.take (s : State) : Nat × State := (Config.freeValue s.free, { s with free := s.free + 1 })

/-- The signed difference a − b of two ETS values (R43). -/
def etsDiff (a b : Nat) : Int := sext 32 (a + 2 ^ 32 - b % 2 ^ 32)

/-- The AT_TICK check of R59: the ticks ahead, where acceptable. -/
def State.lead (s : State) (atTick : BitVec 32) : Option Nat :=
  let d := etsDiff atTick.toNat s.ets
  if 0 < d ∧ d ≤ 2 ^ 30 then some d.toNat else none

def State.modObs (s : State) (g : Obs → Obs) : State := { s with obs := g s.obs }

/-! ## Logs and alarms (19) -/

/-- The next sequence number of a KIND (Table 19.4) and the state after. -/
def Obs.nextSeq (o : Obs) (k : Nat) : Nat × Obs :=
  ((o.seqs[k]?).getD 0, { o with seqs := o.seqs.set k (((o.seqs[k]?).getD 0 + 1) % 2 ^ 16) })

/-- Add a record behind the ring's others. -/
def Obs.push (o : Obs) (kind source slip arg code tick : Nat) (data : List Nat) : Obs :=
  let p := o.nextSeq kind
  { p.2 with ring := p.2.ring ++ [{ kind := kind, source := source, slip := slip, arg := arg, code := code, seq := p.1, tick := tick, data := data }] }

/-- A drop marker for a run of dropped records of one KIND (R510). -/
def Obs.marker (o : Obs) (kind : Nat) (r : DropRun) : Obs :=
  if r.count = 0 then o else o.push 4 0 0xFF kind 0 r.last [r.count, r.first]

/-- One more dropped record in a run. -/
def DropRun.add (r : DropRun) (tick : Nat) : DropRun :=
  { count := r.count + 1, first := if r.count = 0 then tick else r.first, last := tick }

/-- Index of the alarm entry with a key, among 0 to 254 (R506). -/
def Obs.findAlarm (o : Obs) (cause source slip : Nat) : Option Nat :=
  ((o.alarms.find? (fun e => decide (e.1 < 255 ∧ e.2.cause = cause ∧ e.2.source = source ∧ e.2.slip = slip)))).map (·.1)

/-- The first free entry among 0 to 254. -/
def Obs.freeAlarm (o : Obs) : Option Nat :=
  (List.range 255).find? (fun i => (SMap.get ({} : Alarm) o.alarms i).cause = 0)

/-- Count a raise in an entry. -/
def Alarm.again (a : Alarm) (present : Bool) (t : Nat) : Alarm :=
  { a with count := (a.count + 1) % 2 ^ 48, last := t, present := a.present || present, due := true }

/-- Count a raise in the ALARM_OVERFLOW entry. -/
def Alarm.excess (a : Alarm) (source t : Nat) : Alarm :=
  { a with cause := 0x100, slip := 0xFF, source := source, count := (a.count + 1) % 2 ^ 48, first := if a.count = 0 then t else a.first, last := t, due := true }

/-- A fresh alarm entry. -/
def Alarm.fresh (cause source slip : Nat) (present : Bool) (t : Nat) : Alarm :=
  { cause := cause, source := source, slip := slip, present := present, acked := false, count := 1, first := t, last := t, due := true }

/-- Raise an alarm (R506). `safety`: raised by the SI with a fault record; `present`: R476. -/
def State.alarm (s : State) (cause source slip : Nat) (present : Bool := false) : State :=
  let s := s.bump (obsB + 0x100)
  let t := s.tim.tick
  match s.obs.findAlarm cause source slip with
  | some i => s.modObs (fun o => { o with alarms := SMap.upd {} o.alarms i (fun a => a.again present t) })
  | none =>
    let held := (s.obs.alarms.filter (fun e => decide (e.1 < 255 ∧ e.2.slip = slip))).length
    match s.obs.freeAlarm, decide (slip = 0xFF ∨ held < 16) with
    | some i, true => s.modObs (fun o => { o with alarms := SMap.put {} o.alarms i (Alarm.fresh cause source slip present t) })
    | _, _ =>
      let s := (s.bump (obsB + 0x108)).orReg (obsB + 4) 4
      let s := s.modObs (fun o => { o with alarms := SMap.upd {} o.alarms 255 (fun a => a.excess source t) })
      if slip < 64 then
        s.modSlip slip (fun p => { p with lost := p.lost + 1, lostSrc := source, lostFirst := if p.lost = 0 then t else p.lostFirst, lostLast := t })
      else s

/-- Write a log record (R510): admitted while the ring holds fewer than 2,048 records. -/
def State.log (s : State) (source slip level code : Nat) (data : List Nat) : State :=
  let t := s.tim.tick
  let need := if s.obs.runLog.count = 0 then 1 else 2
  if s.obs.ring.length + need ≤ 2048 then
    let o := (s.obs.marker 2 s.obs.runLog).push 2 source slip level code t data
    State.bump { s with obs := { o with runLog := {} } } (obsB + 0x110)
  else
    let first := !s.obs.dropped
    let s := { s with obs := { s.obs with runLog := s.obs.runLog.add t, dropped := true } }
    let s := (s.bump (obsB + 0x118)).orReg (obsB + 4) 1
    if first then s.alarm 0x106 0x6F 0xFF else s

/-- Write a trace record of an enabled point (R510): admitted while the ring holds fewer than 1,536 records. -/
def State.trace (s : State) (source slip point : Nat) (data : List Nat) : State :=
  if !s.obs.traceMask.getLsbD point then s
  else
    let t := s.tim.tick
    let need := if s.obs.runTrace.count = 0 then 1 else 2
    if s.obs.ring.length + need ≤ 1536 then
      let o := (s.obs.marker 3 s.obs.runTrace).push 3 source slip point 0 t data
      State.bump { s with obs := { o with runTrace := {} } } (obsB + 0x120)
    else
      let s := { s with obs := { s.obs with runTrace := s.obs.runTrace.add t } }
      (s.bump (obsB + 0x128)).orReg (obsB + 4) 2

/-! ## Ring entries, vectors and function events (13) -/

/-- Entries of a ring and free entries (R349: one is always left free). -/
def QPair.size (q : QPair) : Nat := 2 ^ q.ringLog2
def QPair.used (q : QPair) : Nat := (q.dtail + q.size - q.hhead) % q.size
def QPair.room (q : QPair) : Nat := q.size - 1 - q.used

/-- Count an entry pending on the queue's vector (R364). -/
def State.pend (s : State) (f v : Nat) (urgent : Bool) : State :=
  s.modVec (f * 2048 + v) (fun x => { x with count := x.count + 1, since := if x.count = 0 then s.tim.systime else x.since, urgent := x.urgent || urgent })

/-- The device index after one more entry, and PHASE inverted on a wrap (R352). -/
def QPair.advance (q : QPair) : QPair :=
  if q.dtail + 1 = q.size then { q with dtail := 0, phase := !q.phase } else { q with dtail := q.dtail + 1 }

/-- Write one entry of a device-to-host ring (R359): RTYPE, SIZE, buffer and contents; the DROPS count is reported and cleared. -/
def State.writeEntry (s : State) (k rtype size : Nat) (buf : Option Nat) (words : List Nat) (urgent : Bool) : State :=
  let q := s.qp k
  let s := s.emit .ringEntry [k / 256, k % 256, q.dtail] ([rtype, q.phase.toNat, min q.drops 0xFFFF, size, buf.getD 0] ++ words)
  let s := s.modQp k (fun q => { q.advance with drops := 0, entBufs := q.entBufs ++ [buf.isSome] })
  s.pend (k / 256) q.vector urgent

/-- The function's queue of kind FN_EVENT, as a global index (R345). -/
def State.eventQueue (s : State) (f : Nat) : Option Nat :=
  (s.qps.find? (fun e => decide (e.1 / 256 = f ∧ e.2.valid ∧ e.2.kind = 6))).map (·.1)

/-- Write a function event record (R366): TYPE, CODE, QP and INFO; dropped and counted where the queue is full. -/
def State.fnEvent (s : State) (f type code q : Nat) (info : List Nat) : State :=
  match s.eventQueue f with
  | none => s
  | some k =>
    if 0 < (s.qp k).room then s.writeEntry k 1 32 none ([type, code, q, s.tim.tick] ++ info) true
    else
      let s := (s.bump (fnB f + 0x218)).orReg (fnB f + 0xC) 2
      s.modQp k (fun q => { q with drops := q.drops + 1 })

/-- Drop a host posted write (R365): cause, BAR offset, queue, data and byte enables; no record under RESETTING. -/
def State.refuseWrite (s : State) (f cause off q data be : Nat) : State :=
  let s := s.log 0x6A ((s.fn f).slip.getD 0xFF) 1 4 [f, cause, off]
  let s := s.emit .aer [f, 1] [cause, off]
  let errBit := match cause with | 1 => 4 | 2 => 8 | 3 => 16 | 4 => 32 | 6 => 64 | 7 => 128 | 8 => 256 | _ => 0
  let s := s.orReg (fnB f + 0xC) (BitVec.ofNat 64 errBit)
  let s := s.setReg (fnB f + 0x28) (BitVec.ofNat 64 (q % 2 ^ 16 * 2 ^ 48 + cause % 256 * 2 ^ 40 + off % 2 ^ 32))
  let s := s.bump (fnB f + 0x210)
  if cause = 5 then s else s.fnEvent f 1 cause q [off, data, be]

/-! ## Commands: status codes, completion, withdrawal (14) -/

/-- Status codes (Table 14.1). -/
def stOk : Nat := 0
def stPending : Nat := 1
def stBadOpcode : Nat := 0x100
def stBadLength : Nat := 0x101
def stBadParam : Nat := 0x102
def stNoResource : Nat := 0x200
def stInfeasible : Nat := 0x201
def stNotPermitted : Nat := 0x300
def stFenced : Nat := 0x301
def stTimeout : Nat := 0x400
def stRemote : Nat := 0x500
def stDegraded : Nat := 0x600
def stTransition : Nat := 0x700
def stAborted : Nat := 0x800

/-- The oldest fetched command with the packet's TAG. -/
def State.fetchedOf (s : State) (h : CmdRef) : Option Fetched :=
  (s.qp h.key).fetched.find? (fun f => f.tag = h.tag)

/-- Take the oldest command with a TAG out of the fetched list. -/
def dropTag (t : BitVec 32) : List Fetched → List Fetched
  | [] => []
  | f :: r => if f.tag = t then r else f :: dropTag t r

/-- Complete a fetched command (R352): its completion waits to be written, COMPLETE_TICK is the present tick. -/
def State.complete (s : State) (h : CmdRef) (status detail : Nat) (res : BitVec 128 := 0) : State :=
  match s.fetchedOf h with
  | none => s
  | some f =>
    let c : Cpl := { tag := f.tag, status := status, detail := detail, tick := BitVec.ofNat 32 s.tim.tick, sqHead := f.sqHead,
                     fast := f.opc.getLsbD 15, irqNow := f.irqNow, result := res }
    let s := s.modQp h.key (fun q => { q with fetched := dropTag h.tag q.fetched, done := q.done ++ [c] })
    let s := if detail = 0xF007 then (s.orReg (xioB + 4) 2).bump (xioB + 0x418) else s
    s.trace 0x6F 0xFF 1 [h.fn.toNat, h.qp.toNat, status, h.tag.toNat]

/-- Change the phase of a fetched command at a time. -/
def setPhase (t : BitVec 32) (p : CmdPhase) (now : Nat) : List Fetched → List Fetched
  | [] => []
  | f :: r => if f.tag = t then { f with phase := p, since := now } :: r else f :: setPhase t p now r

def State.setCmdPhase (s : State) (h : CmdRef) (p : CmdPhase) : State :=
  s.modQp h.key (fun q => { q with fetched := setPhase h.tag p s.tim.systime q.fetched })

/-- Complete every staged command that passes a test, with a status and detail, and drop it (R379). -/
def State.endStaged (s : State) (p : Staged → Bool) (status detail : Nat) : State :=
  let hit := s.staged.filter p
  let s := { s with staged := s.staged.filter (fun x => !p x) }
  hit.foldl (fun s x => s.complete x.ref status detail) s

end Sys2Proof.Machine
end

