-- ==== Sys2Proof/Machine/Chan.lean ====
section
/-! DEFINITION. Ribbons, channels, credits, GAP markers and spill queues (R16, R17, R84–R88, R113), and the places of a
packed ring (R360). -/
namespace Sys2Proof.Machine

/-! ## Ribbons (Table 3.10) -/

/-- Write at WR. The producer holds a credit (R17). -/
def Ribbon.write (r : Ribbon) (x : BitVec 64) : Ribbon := { r with items := r.items ++ [x] }

/-- Read at RP: the item, or on an empty ribbon the last value with UNDERRUN set. -/
def Ribbon.read (r : Ribbon) : BitVec 64 × Ribbon :=
  match r.items[r.rp]? with
  | some x => (x, { r with rp := r.rp + 1, last := x })
  | none => (r.last, { r with underrun := true })

/-- Read n items, as many as are there. -/
def Ribbon.reads (r : Ribbon) : Nat → Ribbon
  | 0 => r
  | n + 1 => if r.rp < r.items.length then r.read.2.reads n else r

/-- MARK = RP. -/
def Ribbon.setMark (r : Ribbon) : Ribbon := { r with mark := some r.rp }

/-- RP = MARK if set, otherwise REL. -/
def Ribbon.rewind (r : Ribbon) : Ribbon := { r with rp := r.mark.getD 0 }

/-- REL = min(p, RP), p counted from REL: frees p stages; a mark older than the new REL is cleared. -/
def Ribbon.release (r : Ribbon) (p : Nat) : Ribbon :=
  let n := min p r.rp
  { r with items := r.items.drop n, rp := r.rp - n, mark := r.mark.bind (fun m => if m < n then none else some (m - n)) }

/-- The operations of one cycle in the order of R88: release, rewind, mark, read; then a write. -/
def Ribbon.cycle (r : Ribbon) (rel : Option Nat) (rew mk rd : Bool) (wr : Option (BitVec 64)) : BitVec 64 × Ribbon :=
  let r := match rel with | some p => r.release p | none => r
  let r := if rew then r.rewind else r
  let r := if mk then r.setMark else r
  let p := if rd then r.read else (r.last, r)
  (p.1, match wr with | some x => p.2.write x | none => p.2)

/-- Credits the producer holds: free stages of the 64 (R16, R87). -/
def Ribbon.credits (r : Ribbon) : Nat := 64 - r.items.length

/-! ## Places of a packed ring (R360) -/

/-- Bytes of one record by ring kind. -/
def recBytes (kind : Nat) : Nat := match kind with | 3 => 8 | 4 => 32 | 5 => 16 | _ => 32

/-- Records that fit a PACKED entry. -/
def QPair.perEntry (q : QPair) : Nat := (2 ^ q.entLog2 - 16) / recBytes q.kind

/-- Free record places of a packed ring. -/
def QPair.places (q : QPair) : Nat :=
  if q.openRecs.isEmpty then q.room * q.perEntry else (q.room - 1) * q.perEntry + (q.perEntry - q.openRecs.length)

/-- Close the open PACKED entry of a queue, if any (R360). -/
def State.closeEntry (s : State) (k : Nat) : State :=
  let q := s.qp k
  if q.openRecs.isEmpty then s
  else (s.writeEntry k 3 q.openRecs.length none q.openRecs.flatten false).modQp k (fun q => { q with openRecs := [] })

/-- Place one record in a packed ring that has a place; a full entry is closed. -/
def State.placeRec (s : State) (k : Nat) (rec : List Nat) : State :=
  let s := if (s.qp k).openTick = s.tim.tick then s else s.closeEntry k
  let s := s.modQp k (fun q => { q with openRecs := q.openRecs ++ [rec], openTick := if q.openRecs.isEmpty then s.tim.tick else q.openTick })
  if (s.qp k).perEntry ≤ (s.qp k).openRecs.length then s.closeEntry k else s

/-! ## Items (Tables 3.9, 3.14) -/

/-- An EVENT item. -/
def eventWord (i : HItem) : BitVec 64 :=
  BitVec.ofNat 64 (i.pol.toNat * 2 ^ 60 + i.y % 4096 * 2 ^ 48 + i.x % 4096 * 2 ^ 36 + i.tick % 2 ^ 32)

/-- EXACT of a cause: counts are events (packets and restarts are not). -/
def gapExact (c : Nat) : Bool := 7 < c && c ≠ 0x11

/-- A GAP marker. -/
def gapWord (cause count tick : Nat) : BitVec 64 :=
  BitVec.ofNat 64 (2 ^ 61 + cause % 32 * 2 ^ 56 + (gapExact cause).toNat * 2 ^ 55 + min count 0x7FFFFF * 2 ^ 32 + tick % 2 ^ 32)

/-- Causes that produce GAP markers (Table 3.14). -/
def gapCause (c : Nat) : Bool := (1 ≤ c && c ≤ 6) || c = 9 || c = 0xA || c = 0xE || c = 0xF || c = 0x10 || c = 0x11

/-! ## Channels -/

/-- Note losses of a cause in a channel, in the tick of the loss (R85). -/
def HChan.lose (c : HChan) (cause n tick : Nat) : HChan :=
  if gapCause cause then { c with lost := SMap.upd 0 c.lost (tick * 32 + cause) (· + n) } else c

/-- Losses of a cause up to a tick that no marker has reported. -/
def HChan.lossIn (c : HChan) (cause t : Nat) : Nat :=
  ((c.lost.filter (fun e => decide (e.1 % 32 = cause ∧ e.1 / 32 ≤ t))).map (·.2)).foldl (· + ·) 0
/-- They have been reported in a marker of that tick. -/
def HChan.reported (c : HChan) (cause t : Nat) : HChan :=
  { c with lost := c.lost.filter (fun e => !decide (e.1 % 32 = cause ∧ e.1 / 32 ≤ t)), marked := SMap.put 0 c.marked cause (t + 1) }

/-- Place the marker of a loss, named by its tick and cause: in its tick or the earliest one whose tick-end mark has not been sent,
where the spill queue is empty, a credit is left and none of the cause was placed in that tick (R85). -/
def HChan.placeGap (c : HChan) (key : Nat) : HChan :=
  let cause := key % 32
  let t := max (key / 32) (max c.endSent c.lastTick)
  let n := c.lossIn cause t
  if n = 0 ∨ !c.spill.isEmpty ∨ c.ribbon.credits = 0 ∨ SMap.get 0 c.marked cause = t + 1 then c
  else { c.reported cause t with ribbon := c.ribbon.write (gapWord cause n t), lastTick := t }

/-- Where the markers of the losses before tick t go, each named by the tick its marker takes and its cause, ascending. -/
def HChan.gapKeys (c : HChan) (t : Nat) : List Nat :=
  ((c.lost.filter (fun e => decide (e.1 / 32 < t))).foldl (fun (m : SMap Nat) e =>
    SMap.put 0 m (max (e.1 / 32) (max c.endSent c.lastTick) * 32 + e.1 % 32) 1) []).map (·.1)

/-- Place the markers of losses before tick t, ticks ascending and in ascending CAUSE code: the ticks close, or an item of tick t follows. -/
def HChan.placeGaps (c : HChan) (t : Nat) : HChan := (c.gapKeys t).foldl HChan.placeGap c

/-- Hand an item to a channel (R86): into the ribbon while a credit besides the reserved one is held and nothing
waits, else into the spill queue of 256; `true` when it is dropped. -/
def HChan.offer (c : HChan) (w : BitVec 64) (tick : Nat) : HChan × Bool :=
  if c.spill.isEmpty ∧ 2 ≤ c.ribbon.credits then ({ c with ribbon := c.ribbon.write w, lastTick := max c.lastTick tick }, false)
  else if c.spill.length < 256 then ({ c with spill := c.spill ++ [w], stall := c.stall + 1, lastTick := max c.lastTick tick }, false)
  else (c, true)

/-- Move waiting items into the ribbon while credits last. -/
def HChan.drainSpill (c : HChan) : HChan :=
  let n := min c.spill.length (c.ribbon.credits - 1)
  let r := { c.ribbon with items := c.ribbon.items ++ c.spill.take n }
  { c with ribbon := r, spill := c.spill.drop n }

/-- Hand a derived record of two items (R113): two credits besides the reserved one, else the spill queue of 256 records. -/
def HChan.offer2 (c : HChan) (w0 w1 : BitVec 64) (tick : Nat) : HChan × Bool :=
  if c.spill.isEmpty ∧ 3 ≤ c.ribbon.credits then
    ({ c with ribbon := (c.ribbon.write w0).write w1, lastTick := max c.lastTick tick }, false)
  else if c.spill.length < 512 then ({ c with spill := c.spill ++ [w0, w1], stall := c.stall + 1, lastTick := max c.lastTick tick }, false)
  else (c, true)

/-- Move waiting records, two items each, while credits last. -/
def HChan.drainSpill2 (c : HChan) : HChan :=
  let n := min (c.spill.length / 2) ((c.ribbon.credits - 1) / 2) * 2
  let r := { c.ribbon with items := c.ribbon.items ++ c.spill.take n }
  { c with ribbon := r, spill := c.spill.drop n }

/-- Insert by key, after those of equal key. -/
def insByKey (x : Nat × BitVec 64) : List (Nat × BitVec 64) → List (Nat × BitVec 64)
  | [] => [x]
  | y :: r => if x.1 < y.1 then x :: y :: r else y :: insByKey x r

/-- Sort by key, keeping the order of equal keys. -/
def sortByKey (l : List (Nat × BitVec 64)) : List (Nat × BitVec 64) := l.foldl (fun a x => insByKey x a) []

end Sys2Proof.Machine
end

