-- ==== Sys2Proof/Machine/Brew.lean ====
section
/-! DEFINITION. Brews: the start of the domains that work needs (R31–R34, R518). -/
namespace Sys2Proof.Machine

/-- Switch domains ON; the quires of a woken cluster run at their TARGET_STEP. -/
def State.power (s : State) (ds : List Nat) : State :=
  let s := ds.foldl (fun s d => if 25 ≤ d ∧ d < 42 then
      (List.range 4).foldl (fun s i => s.modQuire (4 * (d - 25) + i) (fun x => { x with curStep := x.target })) s
    else s) s
  s.modPwr (fun p => { p with doms := ds.foldl (fun m d => SMap.put 2 m d 2) p.doms })

/-- The domains of a list that are not ON. -/
def State.asleep (s : State) (ds : List Nat) : List Nat := ds.eraseDups.filter (fun d => decide (1 ≤ d ∧ d < 48 ∧ s.dom d ≠ 2))

/-- A Brew of some domains (R34, R518): those not ON are switched ON; it counts once and names them in the BREW trace point. In
WARMER_ONLY nothing is left to start them but R524. -/
def State.brew (s : State) (ds : List Nat) : State :=
  let up := s.asleep ds
  if up.isEmpty ∨ s.pwr.down then s
  else ((s.bump (pwrB + 0x200)).trace 0x72 0xFF 6 [maskOf up]).power up

/-- A wake request of some domains (R31, R520): where one of them is not ON, a Brew of the list is in progress. -/
def State.wakeReq (s : State) (ds : List Nat) : State :=
  if (s.asleep ds).isEmpty ∨ s.pwr.down then s else s.modPwr (fun p => { p with req := (p.req ++ ds).eraseDups })

/-- The wake set of the host link and of Spine messages (R520). -/
def linkDoms : List Nat := [2, 3, 4]

/-- The domains of quires. -/
def quireDoms (qs : List Nat) : List Nat := qs.map (fun q => 25 + q / 4)

/-- Domains of the units a firmware command acts on (R518), beside the wake set of a graph it names. -/
def cmdDoms : Instr → List Nat
  | .portHotmaskLoad _ p .. => [5 + p.toNat % 16]
  | .portHotmaskEdit _ p _ => [5 + p.toNat % 16]
  | .portEvringBind _ p .. => [5 + p.toNat % 16]
  | .auxFetchSet .. => [43]
  | .auxChanSet .. => [43]
  | .auxChanEnable .. => [43, 47]
  | .auxCoefLoad .. => [43]
  | .auxCoefSwap .. => [43]
  | .streamOpen .. => [45, 46]
  | .streamClose .. => [45, 46]
  | .writeFence .. => [45, 46]
  | .bindingJoin .. => [45, 46]
  | .barrier .. => [45, 46]
  | .broadcast .. => [45, 46]
  | .bindingReset .. => [45, 46]
  | .fusionSamplePut .. => [42]
  | .fusionXformSet .. => [42]
  | .trackClear .. => [42]
  | .graphLoad _ _ _ p => p.wake
  | _ => []

/-- Domain of the block whose page holds an offset of PF0's BAR0 (Tables 20.1, 22.2). -/
def regDoms (o : Nat) : List Nat :=
  if o < 0x30000 then []
  else if o < 0x40000 then [1]
  else if o < 0x60000 then [2]
  else if o < 0x100000 then [3]
  else if o < 0x200000 then [5 + (o - 0x100000) / 0x10000]
  else if o < 0x201000 then []
  else if o < 0x300000 then [21 + (o - 0x201000) / 0x4000]
  else if o < 0x500000 then [25 + (o - 0x300000) / 0x10000]
  else if o < 0x600000 then [44]
  else if o < 0x700000 then [42]
  else if o < 0x800000 then [43]
  else if o < 0x900000 then [45 + (o - 0x800000) / 0x20000]
  else if o < 0xA00000 then [4]
  else if o < 0x1000000 then [47]
  else [3]

/-- Key of the register at an offset of a function's BAR0. -/
def regKey (f o : Nat) : Nat := f * 2 ^ 32 + o

/-- A write that reaches a register discards what the function has staged for another (R564). -/
def State.unstage (s : State) (f k : Nat) : State :=
  match SMap.get none s.stageBuf f with
  | some p => if p.1 = k then s else { s with stageBuf := SMap.put none s.stageBuf f none }
  | none => s

/-- A host access to the register at an offset starts the Brew of the host side and of its block's domain (R518, R520). -/
def State.access (s : State) (f o : Nat) : State := s.brew (linkDoms ++ (if f = 0 then regDoms o else []))

/-- A host write that reaches a register. -/
def State.touch (s : State) (f o : Nat) : State := (s.access f o).unstage f (regKey f o)

end Sys2Proof.Machine
end

