-- ==== Sys2Proof/Machine/SpLink.lean ====
section
/-! DEFINITION. Sending over Spine: message bytes, egress inputs, the egress queues, routes and time markers (17). -/
namespace Sys2Proof.Machine

/-! ## Messages (Tables 17.3 to 17.5) -/

/-- TYPE of a body. -/
def spType : SpBody → Nat
  | .writeChan .. => 1 | .writeDram .. => 2 | .spikes _ => 3 | .credit .. => 4 | .writeError .. => 5 | .fence _ => 6
  | .fenceAck .. => 7 | .streamCtl .. => 8 | .tickMark _ => 9 | .timeMarker .. => 0x10 | .globalOp _ => 0x11 | .summary _ => 0x12
  | .contract _ => 0x13 | .join _ => 0x14

/-- Bytes of a global message: its fields in 8-byte words, and a broadcast's payload. The manual gives these bodies no layout. -/
def globalLen : GlobalMsg → Nat
  | .broadcast _ _ p => 16 + p.length
  | _ => 16

/-- LEN of a body (Table 17.4). -/
def spLen : SpBody → Nat
  | .writeChan l _ => 8 * l.length
  | .writeDram _ d _ => 8 + d.length
  | .spikes l => 8 * l.length
  | .credit .. => 8 | .writeError .. => 16 | .fence _ => 8 | .fenceAck .. => 8 | .streamCtl .. => 8 | .tickMark _ => 8
  | .timeMarker .. => 16
  | .globalOp g => globalLen g
  | .summary l => 8 + 16 * l.length
  | .contract l => 8 * l.length
  | .join _ => 64

/-- A LEN that fits its TYPE. -/
def spLenOk : SpBody → Bool
  | .writeChan l _ => decide (1 ≤ l.length ∧ l.length ≤ 512)
  | .writeDram _ d _ => decide (8 ≤ d.length ∧ d.length ≤ 4088)
  | .spikes l => decide (1 ≤ l.length ∧ l.length ≤ 16)
  | .summary l => decide (1 ≤ l.length ∧ l.length ≤ 255)
  | b => decide (spLen b ≤ 4096)

/-- The fields of a body, as numbers. -/
def spWords : SpBody → List Nat
  | .writeChan l _ => l.map (·.toNat)
  | .writeDram o d _ => o :: d.map (·.toNat)
  | .spikes l => l.map (·.toNat)
  | .credit c a => [c, a]
  | .writeError a b c => [a, b, 0, c]
  | .fence a => [a, 0]
  | .fenceAck a b => [a, b]
  | .streamCtl a b c => [a, b, c]
  | .tickMark a => [a, 0]
  | .timeMarker t (.sourceChange a b) => [t, 1, a, b]
  | .timeMarker t (.epochChange a b) => [t, 2, a, b]
  | .timeMarker t (.tickLen q) => [t, 3, q]
  | .timeMarker t (.leadMax n) => [t, 4, n]
  | .globalOp (.arrive i t) => [1, i, t]
  | .globalOp (.release i t) => [2, i, t]
  | .globalOp (.releaseFail i) => [3, i]
  | .globalOp (.broadcast o t p) => [4, o, t] ++ p
  | .globalOp (.snapReq o t) => [5, o, t]
  | .globalOp (.snapshot i o t) => [6, i, o, t]
  | .globalOp .snapRefuse => [7]
  | .globalOp (.bindReset t) => [8, t]
  | .summary l => l.length :: l.flatMap (fun e => [e.1, e.2.1, e.2.2.1, e.2.2.2])
  | .contract l => l
  | .join (.request i p) => [1, i, p]
  | .join (.accept i r a b c d e f g) => [2, i, r, a, b, c, d, e, f, g]
  | .join (.refuse i b) => [3, i, b]

/-- Bytes of flit data of a message (R449). -/
def spBytes (m : SpMsg) : Nat := 32 + (spLen m.body + 15) / 16 * 16
/-- Flits, or arbiter beats, of a message (R450). -/
def spFlits (m : SpMsg) : Nat := (spBytes m + 63) / 64

/-- The egress input of a message (Tables 17.4, 17.5); a stream's class and whether a contract covers it are known where it is
open. -/
def State.spInput (s : State) (m : SpMsg) : Nat :=
  match spType m.body with
  | 1 | 2 | 9 =>
    let st := s.strm (m.stream % 4096)
    if st.contracted then 1 + st.cls else 0
  | 3 => 5
  | 0x12 => 6
  | _ => 7

/-! ## Egress -/

/-- The first message of the highest waiting input, and the others. -/
def State.pickEgress (s : State) (l : List SpMsg) : Option (SpMsg × List SpMsg) :=
  let hi := l.foldl (fun a m => max a (s.spInput m)) 0
  match l.findIdx? (fun m => s.spInput m = hi) with
  | none => none
  | some i => (l[i]?).map (fun m => (m, l.eraseIdx i))

/-- The sequence numbers of the next n flits. -/
def seqsFrom (a n : Nat) : List Nat := (List.range n).map (fun i => (a + i) % 4096)

/-- Send the messages of a port that is UP while its replay buffer of 512 flits has room (R442); each rises the direction's counter
(R446), and the first under new keys carries FLAGS.REKEY (R447). -/
def State.pumpN (s : State) (p : Nat) : Nat → State
  | 0 => s
  | fuel + 1 =>
    let t := s.port p
    if t.state ≠ 3 then s
    else
      match s.pickEgress t.egress with
      | none => s
      | some (m, rest) =>
        if 512 < t.replay.length + spFlits m then s
        else
          let s := s.emit .spine [p, spType m.body] ([m.hops, spLen m.body, m.dst, m.src, m.stream, t.rekey.toNat, m.seq] ++ spWords m.body)
          let s := (s.bump (spnB p + 0x148)).bump (spnB p + 0x100) (spFlits m)
          let s := s.modPort p (fun t => { t with egress := rest, replay := t.replay ++ seqsFrom t.txSeq (spFlits m), rekey := false,
                                                  txSeq := (t.txSeq + spFlits m) % 4096, txCtr := t.txCtr + 1 })
          s.pumpN p fuel

def State.pump (s : State) (p : Nat) : State := s.pumpN p (s.port p).egress.length

/-- Put a message in a port's egress queue. -/
def State.sendOn (s : State) (p : Nat) (m : SpMsg) : State :=
  (s.modPort p (fun t => { t with egress := t.egress ++ [m] })).pump p

/-! ## Routes (R452) -/

/-- The device's ID; 0 outside a binding. -/
def State.devId (s : State) : Nat := if s.bind.member then s.bind.dev else 0

/-- The stored route entry of an ID. -/
def State.routeEntry (s : State) (id : Nat) : Nat := fld (s.reg (spnB 0 + 0x8000 + 8 * (id / 16))) (4 * (id % 16) + 3) (4 * (id % 16))
def State.setRoute (s : State) (id e : Nat) : State :=
  s.setRfld (spnB 0 + 0x8000 + 8 * (id / 16)) (4 * (id % 16) + 3) (4 * (id % 16)) e

/-- Where messages to an ID go: a port 0–3, or 4 for the local device. A device routes every ID without an entry of its own up. -/
def State.route (s : State) (id : Nat) : Option Nat :=
  let e := s.routeEntry id
  if 8 ≤ e then (if e % 8 ≤ 4 then some (e % 8) else none)
  else if s.bind.member ∧ id = s.bind.dev then some 4
  else if s.bind.member then s.bind.parent else none

/-- Send a message by the route table; without a port it goes nowhere. -/
def State.sendTo (s : State) (m : SpMsg) : State :=
  match s.route m.dst with
  | some p => if p < 4 then s.sendOn p m else s
  | none => s

/-- Send a body to the peer of every child link. -/
def State.sendDown (s : State) (b : SpBody) : State :=
  s.bind.children.foldl (fun s p => s.sendOn p { src := s.devId, body := b }) s

/-- L of R60, in ticks: TICK_LEAD_MAX in force (R454). -/
def State.leadNs (s : State) : Nat := if s.bind.member then s.bind.leadNs else s.rfld (tuB + 0x24) 10 0 * 1000
def State.leadTicks (s : State) : Nat := (s.leadNs + s.tickLen - 1) / s.tickLen

/-- Schedule a marker of the root at a tick and send it down the tree (R464). -/
def State.scheduleMarker (s : State) (tick : Nat) (op : MarkerOp) : State :=
  (s.modBind (fun b => { b with markers := b.markers ++ [{ tick := tick, what := op }] })).sendDown (.timeMarker tick op)

end Sys2Proof.Machine
end

