-- ==== Sys2Proof/Machine/Fault.lean ====
section
/-! DEFINITION. Internal faults: what the Safety Island does with one (R471–R476, R486–R488), and the fence of a slipcase. -/
namespace Sys2Proof.Machine

/-! ## Fences -/

/-- A slipcase becomes FENCED (R390): only an ACTIVE one does; the others are already held off. -/
def State.fenceSlip (s : State) (n : Nat) : State :=
  if (s.slip n).state = 1 then s.modSlip n (fun p => { p with state := 2 }) else s

/-- Every slipcase FENCED (Table 18.4, DEVICE). -/
def State.fenceAll (s : State) : State := (List.range 64).foldl State.fenceSlip s

/-- Step 1 of Table 5.7: the quire is FENCED, its Access Engines' queues are cancelled, uncommitted outputs discarded. -/
def Quire.fence (q : Quire) : Quire :=
  { q with state := some 2, segs := [], ae0 := { q.ae0 with flight := [], start := q.ae0.tail, retire := q.ae0.tail },
           ae1 := { q.ae1 with flight := [], start := q.ae1.tail, retire := q.ae1.tail } }

/-! ## Contract faults (Table 12.4) -/

/-- Note a contract fault with every contract whose graph passes a test. -/
def State.conFault (s : State) (p : Graph → Bool) (cause : Nat) : State :=
  { s with contracts := SMap.mapAll {} s.contracts (fun _ c =>
      if p (s.graph c.graph) then { c with faults := SMap.put 0 c.faults cause (s.tim.tick + 1) } else c) }

/-- The graph uses the unit that has a source number (Table 18.3), as far as a graph names units. -/
def Graph.uses (g : Graph) (source : Nat) : Bool :=
  if source < 68 then (g.quires ++ g.partners).contains source
  else if source < 0x54 then g.ports.contains (source - 0x44)
  else if source < 0x64 then g.ports.contains (source - 0x54)
  else if source = 0x64 ∨ source = 0x68 then g.parts.testBit 2
  else if source = 0x65 then g.parts.testBit 1
  else if source = 0x66 ∨ source = 0x67 then g.parts.testBit 3
  else false

/-! ## Pins -/

/-- A cause asserts the pins (R488). -/
def State.assertsPins (s : State) (reaction : Nat) : Bool := decide (3 ≤ reaction) || (decide (1 ≤ reaction) && s.rfld (simB + 4) 0 0 = 1)

/-- Field outputs at their safe levels (R488): TRIG_OUT0–7 and SYNC_OUT, high-Z or a level. -/
def State.safeOutputs (s : State) : State :=
  let c := s.reg (simB + 8)
  (List.range 9).foldl (fun s i => s.emit .pin [10 + i] [if c.getLsbD (16 + i) then 2 else (c.getLsbD i).toNat]) s

/-- FAULT_A low and FAULT_B high. -/
def State.assertPins (s : State) : State :=
  if s.si.pins then s else ((s.modSi (fun x => { x with pins := true })).emit .pin [1] [0]).emit .pin [2] [1]

/-- FAULT_A released and FAULT_B low. -/
def State.releasePins (s : State) : State :=
  if s.si.pins then ((s.modSi (fun x => { x with pins := false, safe := false })).emit .pin [1] [2]).emit .pin [2] [0] else s

/-! ## The reaction -/

/-- The reaction of a cause (SI_REACT_c). -/
def State.reaction (s : State) (cause : Nat) : Nat := s.rfld (simB + 0x100 + 4 * cause) 2 0

/-- Causes whose presence is a condition (R476). -/
def condCause (c : Nat) : Bool := c = 0x18 || c = 0x19 || c = 0x17 || c = 0x15 || c = 0x16 || c = 0x1A

/-- A fault in a slipcase that is RESETTING, HANDING_OVER or DESTROYING is only logged (R491). -/
def State.scrubbing (s : State) (slip : Nat) : Bool := decide (3 ≤ (s.slip slip).state)

/-- RECOVER acts on the unit that reported (Table 18.4): a quire is fenced for recovery (R486), a chip-level unit reruns
(R487), the CP restarts (R492). A PAIRED quire under recovery stays with its pair (R482). -/
def State.recoverUnit (s : State) (source cause slip : Nat) : State :=
  if source < 68 then
    let s := s.conFault (fun g => g.uses source) 3
    if s.scrubbing slip ∨ s.qState source ≠ 1 then s
    else
      let s := s.modQuire source Quire.fence
      s.modSi (fun x => { x with recover := x.recover ++ [(source, decide (cause = 4))] })
  else
    let s := s.conFault (fun g => g.uses source) 7
    if cause = 7 ∧ 0x65 ≤ source ∧ source ≤ 0x67 then s.modSi (fun x => { x with rerun := if x.rerun.contains source then x.rerun else x.rerun ++ [source] })
    else if cause = 0x11 ∨ cause = 0x12 then
      s.modSi (fun x => { x with cpDown := true, cpRestarts := x.cpRestarts ++ [s.tim.systime] })
    else s

/-- The recovery of a fault's unit runs on after the reaction. -/
def State.recoveryRuns (s : State) (source cause : Nat) : Bool :=
  s.si.recover.any (fun p => p.1 = source) || (decide (cause = 7) && s.si.rerun.contains source) ||
    ((decide (cause = 0x11) || decide (cause = 0x12)) && s.si.cpDown) || s.si.pairs.any (fun p => p.recovering && (p.primary = source || p.partner = source))

/-- Mark a cause present, once. -/
def Si.addPresent (x : Si) (p : Present) : Si :=
  { x with present := if x.present.any (fun y => y.cause = p.cause && y.source = p.source && y.slip = p.slip)
      then x.present.map (fun y => if y.cause = p.cause && y.source = p.source && y.slip = p.slip then { y with reaction := max y.reaction p.reaction } else y)
      else x.present ++ [p] }

/-- Move the ring's newest records of the same tick and a lower source up by one place, `n` at most: the place left free. -/
def Si.logSlot (x : Si) (f : FaultRec) : Nat → Nat → Si × Nat
  | 0, at_ => (x, at_)
  | n + 1, at_ =>
    let p := (at_ + 63) % 64
    let r := SMap.get {} x.flog p
    if r.cause ≠ 0 ∧ r.tick = f.tick ∧ r.source < f.source then { x with flog := SMap.put {} x.flog at_ r }.logSlot f n p
    else (x, at_)

/-- Write a fault record (Table 18.7, R471): within a tick, higher source numbers first (R473). -/
def State.writeFault (s : State) (f : FaultRec) : State :=
  let s := s.modSi (fun x =>
    let (y, at_) := x.logSlot f 63 x.flogHead
    { y with flog := SMap.put {} y.flog at_ f, flogHead := (x.flogHead + 1) % 64 })
  let s := s.setReg (simB + 0x20) (BitVec.ofNat 64 s.tim.tick)
  let s := s.log f.source f.slip 2 6 [f.cause, f.reaction, f.flags.toNat, f.contract, f.info, f.recoveryUs]
  s.bump (simB + 0x400)

/-- A fault with its record's fields and a reaction at least `floor` (R487, R492). -/
def State.faultFull (s : State) (f : FaultRec) (floor : Nat) : State :=
  if s.si.dead then s
  else
    let r := max (s.reaction f.cause) floor
    let fence := decide (f.slip < 64) && (r = 1 || (decide (2 ≤ r) && (reactOf f.cause).2 = 1))
    -- the third CP restart within 1 s (R492)
    let cp := (f.cause = 0x11 ∨ f.cause = 0x12) ∧ 2 ≤ (s.si.cpRestarts.filter (fun t => decide (s.tim.systime < t + 1000000000))).length
    let r := if cp then 4 else r
    let pins := s.assertsPins r
    let s := s.writeFault { f with tick := s.tim.tick, reaction := r, flags := f.flags ||| (if pins then 8 else 0) }
    -- FENCE
    let s := if fence then (s.fenceSlip f.slip).conFault (fun g => g.slip = f.slip) 7 else s
    -- RECOVER and above
    let s := if 2 ≤ r then s.recoverUnit f.source f.cause f.slip else s
    -- pins and outputs
    let s := if 3 ≤ r ∧ !s.si.safe then (s.bump (simB + 0x430)).modSi (fun x => { x with safe := true }) else s
    let s := if pins then s.assertPins else s
    let s := if 3 ≤ r then s.safeOutputs else s
    -- DEVICE
    let s := if r = 4 then
        let s := s.fenceAll
        let ms := s.rfld (simB + 0x10) 15 0
        s.modSi (fun x => { x with devFault := true, autoAt := if ms = 0 then x.autoAt else some (x.autoAt.getD (s.tim.systime + ms * 1000000)) })
      else s
    let here := condCause f.cause || r = 4 || (fence && (s.slip f.slip).state = 2) || s.recoveryRuns f.source f.cause
    let s := if here then s.modSi (fun x => x.addPresent { cause := f.cause, source := f.source, slip := f.slip, reaction := r }) else s
    s.alarm f.cause f.source f.slip here

/-- An internal fault of a source and cause, against a slipcase or 0xFF. -/
def State.fault (s : State) (source cause slip : Nat) (info : Nat := 0) : State :=
  s.faultFull { source := source, cause := cause, slip := slip, info := info, partner := 0xFF, recoveryUs := 0xFFFFFFFF } 0

/-! ## The end of a cause (R476, R489, R508) -/

/-- An alarm's cause is no longer present: an acknowledged entry is freed. -/
def Obs.endAlarm (o : Obs) (cause source slip : Nat) : Obs :=
  match o.findAlarm cause source slip with
  | none => o
  | some i =>
    let a := SMap.get ({} : Alarm) o.alarms i
    { o with alarms := SMap.put {} o.alarms i (if a.acked then {} else { a with present := false }) }

/-- Causes that pass a test stop being present; with AUTO_CLEAR the pins are released with the last pin-asserting one,
but not after a reset, where SAFE_STATE_CLEAR alone releases them (R495). -/
def State.endCause (s : State) (p : Present → Bool) : State :=
  let gone := s.si.present.filter p
  if gone.isEmpty then s
  else
    let s := s.modSi (fun x => { x with present := x.present.filter (fun y => !p y) })
    let s := gone.foldl (fun s g => s.modObs (fun o => o.endAlarm g.cause g.source g.slip)) s
    if !s.si.fresh ∧ s.rfld (simB + 4) 1 1 = 1 ∧ gone.any (fun g => s.assertsPins g.reaction) ∧ !(s.si.present.any (fun g => s.assertsPins g.reaction)) then s.releasePins else s

end Sys2Proof.Machine
end

