-- ==== Sys2Proof/Machine/Time.lean ====
section
/-! DEFINITION. The Time Unit (02): sources, offsets, jumps and alignment, and the events of its family. -/
namespace Sys2Proof.Machine

/-- TU_SRC_STATUS (Table 2.9). -/
def tuStat : Nat := tuB + 0x1C
def State.timeState (s : State) : Nat := s.rfld tuStat 2 0
def State.curSrc (s : State) : Nat := s.rfld tuStat 7 4
def State.isRoot (s : State) : Bool := s.rfld tuStat 13 13 = 1

/-- ALIGN_FAULT (R56, R58): a device that is not the root in REFUSED or HOLDOVER, or a residual beyond its bound 16 times in a row.
On its rise the fault ALIGN_FAULT of the Time Unit is raised, which is the alarm TICK_ALIGN_FAULT. -/
def State.alignUpdate (s : State) : State :=
  let a := (!s.isRoot && (s.timeState = 3 || s.timeState = 4)) || decide (16 ≤ s.tim.alignRun)
  let was := s.rfld tuStat 14 14 = 1
  let s := s.setRfld tuStat 14 14 a.toNat
  if a ∧ !was then s.fault 0x71 0x14 0xFF else s

/-- Enter a time state (Table 2.10). -/
def State.setTimeState (s : State) (v : Nat) : State := (s.setRfld tuStat 2 0 v).alignUpdate

/-- Insert a class-6 marker into every result stream (R49, R55): 1 source change, 2 EPOCH_CHANGE. -/
def State.markStreams (s : State) (kind : Nat) (data : List Nat) : State :=
  (s.qps.filter (fun e => decide (e.2.valid ∧ e.2.kind = 2))).foldl (fun s e => s.emit .marker [e.1 / 256, e.1 % 256] ([kind, s.tim.tick] ++ data)) s

/-- A class-6 marker of this device: on the root of a binding it is scheduled L ticks ahead for every member (R55, R464), elsewhere
it is inserted now. -/
def State.timeMarker (s : State) (op : MarkerOp) : State :=
  if s.bind.member ∧ s.bind.isRoot ∧ !s.bind.children.isEmpty then s.scheduleMarker (s.tim.tick + s.leadTicks) op
  else
    match op with
    | .sourceChange a b => s.markStreams 1 [a, b]
    | .epochChange a b => s.markStreams 2 [a, b]
    | _ => s

/-- The candidates in order of priority (R49): repeated and reserved codes are NONE. On a device that is not the root, SPINE only (R50). -/
def State.candidates (s : State) : List Nat :=
  if s.isRoot then
    let c := s.reg (tuB + 0x18)
    ([fld c 3 0, fld c 7 4, fld c 11 8, fld c 15 12].filter (fun x => decide (1 ≤ x ∧ x ≤ 3))).eraseDups
  else [4]

/-- QUALIFIED of a source code. -/
def State.qualified (s : State) (src : Nat) : Bool := (s.reg tuStat).getLsbD (7 + src)
def State.setQualified (s : State) (src : Nat) (b : Bool) : State := s.setRfld tuStat (7 + src) (7 + src) b.toNat

def State.qualTime (s : State) : Nat := max 1 (s.rfld (tuB + 0x18) 31 24) * 100000000
def State.lossTime (s : State) : Nat := max 1 (s.rfld (tuB + 0x18) 23 16) * 10000000

/-- Follow the highest-priority qualified candidate (R49); a change is a master change. With none: HOLDOVER, or FREE if the
device never locked (R51). -/
def State.selectSource (s : State) : State :=
  match s.candidates.find? (fun c => s.qualified c) with
  | some c =>
    if c = s.curSrc then s
    else
      let old := s.curSrc
      let s := (s.setRfld tuStat 7 4 c).modTim (fun t => { t with bigRun := 0, smallRun := 0, alignRun := 0 })
      s.timeMarker (.sourceChange old c)
  | none =>
    if s.curSrc = 0 ∨ s.qualified s.curSrc then s
    else if s.tim.locked then s.setTimeState 3
    else (s.setRfld tuStat 7 4 0).setTimeState 0

/-- JUMP_LIMIT in ns: the root's on a device that is not the root (R61). -/
def State.jumpLimit (s : State) : Nat := if s.isRoot then s.rfld (tuB + 0x20) 19 0 else s.bind.jumpNs

/-- Slew an offset away at no more than 100 ppm (R53). -/
def State.slew (s : State) (off : Int) : State :=
  if off = 0 then s.setTimeState 1
  else (s.modTim (fun t => { t with slewEnd := t.systime + off.natAbs * 10000 })).setTimeState 2

/-- A filtered offset of the followed source (R53, R54). -/
def State.offset (s : State) (off : Int) : State :=
  let u := BitVec.ofInt 64 off
  let s := s.setReg (tuB + 0x28) u
  let big := decide (s.jumpLimit < off.natAbs)
  let s := s.modTim (fun t => { t with bigRun := if big then t.bigRun + 1 else 0, smallRun := if big then 0 else t.smallRun + 1 })
  if s.timeState = 4 then
    if 2 ≤ s.tim.smallRun then (s.setRfld tuStat 12 12 0).slew off
    else s.setReg (tuB + 0x38) u
  else if big then
    if 2 ≤ s.tim.bigRun then
      let s := ((s.setReg (tuB + 0x38) u).setRfld tuStat 12 12 1).setTimeState 4
      s.alarm 0x101 0x71 0xFF
    else s
  else s.slew off

/-- The servo residual in ps: 16 in a row beyond ±5 ns set ALIGN_FAULT (R58). -/
def State.residual (s : State) (res : Int) : State :=
  let s := s.setReg (tuB + 0x44) (BitVec.ofNat 64 (unsig 32 res))
  (s.modTim (fun t => { t with alignRun := if 5000 < res.natAbs then t.alignRun + 1 else 0 })).alignUpdate

/-- A valid synchronisation of a source: its run goes on; where it is the one followed, the first lock of a root registers the
epoch (R52) and later offsets are slewed or refused. -/
def State.sync (s : State) (src : Nat) (time : Nat) (off : Int) (freq : Nat) (res : Int) : State :=
  if src = 0 ∨ 4 < src then s
  else
    let now := s.tim.systime
    let s := s.modTim (fun t => { t with lastAt := SMap.put 0 t.lastAt src now, runFrom := SMap.upd none t.runFrom src (fun r => some (r.getD now)) })
    if src ≠ s.curSrc then s
    else
      let s := (s.setReg (tuB + 0x40) (BitVec.ofNat 64 (freq % 2 ^ 32))).modTim (fun t => { t with locked := true })
      if s.isRoot ∧ s.rfld tuStat 15 15 = 0 then
        ((s.setReg (tuB + 0x30) (BitVec.ofNat 64 (time + 2 ^ 64 - now % 2 ^ 64))).setRfld tuStat 15 15 1).setTimeState 1
      else
        let s := s.offset off
        if s.isRoot then s else s.residual res

/-- SYNC_RECEIVED (R52–R54): a valid synchronisation of a source, with the source time of its instant, the offset and frequency
correction as the Time Unit filters them, and the residual. -/
def execSyncReceived (src : BitVec 4) (time off : BitVec 64) (freq res : BitVec 32) (s : State) : Host.Outcome State Fault Refusal :=
  .next (s.sync src.toNat time.toNat off.toInt freq.toNat res.toInt)

/-- SOURCE_QUALIFIED (R49): a candidate that has delivered valid synchronisation for QUAL_TIME. -/
def execSourceQualified (src : BitVec 4) (s : State) : Host.Outcome State Fault Refusal :=
  .next (match SMap.get none s.tim.runFrom src.toNat with
  | some t =>
    if s.candidates.contains src.toNat ∧ t + s.qualTime ≤ s.tim.systime then (s.setQualified src.toNat true).selectSource else s
  | none => s)

/-- SOURCE_LOST (R49, R51): no valid synchronisation for LOSS_TIME. -/
def execSourceLost (src : BitVec 4) (s : State) : Host.Outcome State Fault Refusal :=
  .next (if SMap.get 0 s.tim.lastAt src.toNat + s.lossTime ≤ s.tim.systime ∧ (SMap.get none s.tim.runFrom src.toNat).isSome then
    ((s.modTim (fun t => { t with runFrom := SMap.put none t.runFrom src.toNat none })).setQualified src.toNat false).selectSource
  else s)

/-- PTM_REQUEST (R541): a request leaves while HOST_PTM is a candidate. -/
def execPtmRequest (s : State) : Host.Outcome State Fault Refusal :=
  .next (if s.candidates.contains 3 then (s.emit .link [1] []).modTim (fun t => { t with ptmReq := true }) else s)

/-- TIME_OSCILLATOR_RETURN (R521): SYSTIME advances again. -/
def execTimeOscillatorReturn (s : State) : Host.Outcome State Fault Refusal :=
  .next (s.modTim (fun t => { t with stopped := false }))

/-- A change of TICK_LEN at the present tick (R40, R41). -/
def State.newTickLen (s : State) (q : Nat) : State :=
  s.modTim (fun t => { t with tickQ := q, kTick := t.tick, bK := t.systime })

end Sys2Proof.Machine
end

