-- ==== Sys2Proof/Machine/Cmd.lean ====
section
/-! DEFINITION. Command packets (13, 14): the opcode table, the checks every command shares, execution order, staging and
completion. -/
namespace Sys2Proof.Machine

/-! ## The opcode table (Tables 14.3 to 14.11) -/

/-- Use of AT_TICK (R374). -/
inductive AtRule where
  | no | opt | req
deriving DecidableEq, Repr

/-- What OBJ_ID names (R375). -/
inductive ObjKind where
  | none | slipcase | graph | contract
deriving DecidableEq, Repr

/-- One row: whether a VF may issue it, AT_TICK, OBJ_ID and the bytes of the body. -/
structure OpInfo where
  vf   : Bool
  at_  : AtRule
  obj  : ObjKind
  body : Nat
deriving DecidableEq, Repr

/-- The row of an opcode; cnt is the body's count field where it has one. -/
def opInfo (opc cnt : Nat) : Option OpInfo :=
  match opc with
  | 0x8000 => some ⟨true, .no, .none, 0⟩
  | 0x8001 => some ⟨true, .no, .none, 8⟩
  | 0x0001 => some ⟨true, .no, .none, 0⟩
  | 0x0002 => some ⟨true, .no, .none, 48⟩
  | 0x0003 => some ⟨true, .no, .none, 8⟩
  | 0x0004 => some ⟨false, .no, .none, 8⟩
  | 0x0005 => some ⟨false, .opt, .none, 8⟩
  | 0x0101 => some ⟨false, .no, .none, 32 + 16 * cnt⟩
  | 0x0102 => some ⟨false, .opt, .slipcase, 8⟩
  | 0x0103 => some ⟨false, .opt, .slipcase, 8⟩
  | 0x0104 => some ⟨false, .no, .slipcase, 0⟩
  | 0x0105 => some ⟨true, .opt, .slipcase, 0⟩
  | 0x0106 => some ⟨false, .no, .slipcase, 8⟩
  | 0x0107 => some ⟨false, .no, .slipcase, 24⟩
  | 0x0108 => some ⟨false, .req, .slipcase, 8⟩
  | 0x8101 => some ⟨true, .no, .slipcase, 0⟩
  | 0x0201 => some ⟨true, .no, .none, 24⟩
  | 0x0202 => some ⟨true, .no, .graph, 0⟩
  | 0x0203 => some ⟨true, .opt, .graph, 0⟩
  | 0x0204 => some ⟨true, .opt, .graph, 0⟩
  | 0x0205 => some ⟨true, .no, .graph, 8⟩
  | 0x0206 => some ⟨true, .req, .graph, 24⟩
  | 0x0207 => some ⟨true, .req, .graph, 0⟩
  | 0x8201 => some ⟨true, .no, .graph, 0⟩
  | 0x0301 => some ⟨true, .opt, .none, 64 + 16 * cnt⟩
  | 0x0302 => some ⟨true, .opt, .contract, 0⟩
  | 0x0303 => some ⟨true, .no, .contract, 16⟩
  | 0x0304 => some ⟨false, .no, .none, 16⟩
  | 0x0401 => some ⟨false, .opt, .none, 24⟩
  | 0x0402 => some ⟨false, .opt, .none, 8 + 4 * cnt⟩
  | 0x0403 => some ⟨false, .no, .none, 8⟩
  | 0x0501 => some ⟨false, .req, .none, 8⟩
  | 0x0502 => some ⟨false, .req, .none, 0⟩
  | 0x8501 => some ⟨true, .no, .none, 0⟩
  | 0x0601 => some ⟨true, .no, .graph, 24⟩
  | 0x0602 => some ⟨true, .opt, .graph, 120⟩
  | 0x0603 => some ⟨true, .opt, .graph, 8⟩
  | 0x0701 => some ⟨true, .opt, .graph, 8 + 24 * cnt⟩
  | 0x0702 => some ⟨true, .opt, .graph, 32⟩
  | 0x0703 => some ⟨true, .req, .graph, 24⟩
  | 0x0801 => some ⟨false, .no, .none, 24⟩
  | 0x0802 => some ⟨false, .no, .none, 40⟩
  | 0x0803 => some ⟨true, .opt, .none, 8⟩
  | 0x0804 => some ⟨true, .no, .none, 8 + 2 * cnt⟩
  | 0x0805 => some ⟨true, .opt, .none, 8⟩
  | 0x0901 => some ⟨true, .no, .none, 48⟩
  | 0x0902 => some ⟨false, .no, .none, 32⟩
  | 0x0903 => some ⟨false, .no, .none, 8⟩
  | 0x0904 => some ⟨false, .opt, .none, 8⟩
  | 0x0905 => some ⟨false, .no, .none, 16⟩
  | 0x0906 => some ⟨false, .opt, .none, 0⟩
  | 0x0907 => some ⟨false, .no, .none, 16⟩
  | 0x0908 => some ⟨false, .no, .none, 16⟩
  | 0x0909 => some ⟨false, .no, .none, 24⟩
  | 0x0A01 => some ⟨false, .req, .none, 8⟩
  | 0x8A01 => some ⟨true, .no, .none, 8⟩
  | 0x0A02 => some ⟨true, .no, .none, 16⟩
  | 0x0A03 => some ⟨false, .no, .none, 8⟩
  | 0x0A04 => some ⟨false, .no, .none, 16⟩
  | 0x8B01 => some ⟨true, .no, .none, 0⟩
  | 0x0B01 => some ⟨false, .opt, .none, 8⟩
  | 0x0B02 => some ⟨false, .no, .none, 0⟩
  | 0x0B03 => some ⟨false, .no, .none, 8⟩
  | 0x0B04 => some ⟨false, .opt, .none, 8⟩
  | 0x0C01 => some ⟨false, .no, .none, 8⟩
  | 0x0C02 => some ⟨true, .no, .none, 16⟩
  | 0x0C03 => some ⟨true, .opt, .none, 8⟩
  | 0x0C04 => some ⟨true, .no, .none, 8⟩
  | 0x0C05 => some ⟨false, .req, .none, 8⟩
  | 0x0C06 => some ⟨false, .req, .none, 16⟩
  | 0x0C07 => some ⟨false, .req, .none, 0⟩
  | 0x0D01 => some ⟨false, .opt, .none, 8⟩
  | 0x0D02 => some ⟨false, .opt, .slipcase, 8⟩
  | 0x8D01 => some ⟨true, .no, .none, 0⟩
  | _ => none

/-- Slots of a packet with a body of b bytes (R373). -/
def slotsFor (b : Nat) : Nat := (16 + b + 63) / 64

/-! ## Objects (R375) -/

/-- The slipcase of a function. -/
def State.fnSlip (s : State) (f : Nat) : Option Nat := (s.fn f).slip

/-- A function may name objects of a slipcase: PF0 any, a VF its own. -/
def State.mayName (s : State) (f n : Nat) : Bool := decide (f = 0) || decide (s.fnSlip f = some n)

/-- The VFs of a slipcase. -/
def State.vfsOf (s : State) (n : Nat) : List Nat := (s.fns.filter (fun e => decide (e.2.slip = some n))).map (·.1)

/-- SEALED (R413). -/
def State.sealed (s : State) (n : Nat) : Bool := (s.vfsOf n).any (fun f => (s.fn f).tdisp = .locked || (s.fn f).tdisp = .run)

/-- PF0 may not read or write the slipcase's data (R413). -/
def State.sealedFor (s : State) (h : CmdRef) (n : Nat) : Bool := decide (h.fn = 0) && s.sealed n

/-- The slipcase of the object a command names. -/
def State.objSlip (s : State) (k : ObjKind) (o : Nat) : Option Nat :=
  match k with
  | .none => none
  | .slipcase => if o < 64 ∧ (s.slip o).state ≠ 0 then some o else none
  | .graph => if (s.graph o).exist then some (s.graph o).slip else none
  | .contract => if (s.contract o).exist then some (s.contract o).slip else none

/-- The object checks: unknown objects, objects of a slipcase that is not ACTIVE but for the three exceptions, and a change of a slipcase
whose rule change is still running (R379, R403). -/
def State.objErr (s : State) (opc f o : Nat) : Option (Nat × Nat) :=
  match opInfo opc 0 with
  | none => none
  | some i =>
    if i.obj = .none then (if o = 0 then none else some (stBadParam, 0xF025))
    else match s.objSlip i.obj o with
    | none => some (stBadParam, 0xF023)
    | some n =>
      if !s.mayName f n then some (stBadParam, 0xF023)
      else if (s.slip n).state ≠ 1 ∧ opc ≠ 0x8101 ∧ opc ≠ 0x0105 ∧ opc ≠ 0x0104 then some (stFenced, 0)
      else if i.obj = .slipcase ∧ opc < 0x8000 ∧ (s.slip n).drain.isSome then some (stTransition, 0xF026)
      else none

/-! ## Running a command -/

/-- What a command's execution answers: the state after, and its completion; none where it completes in a later step. A failed
command has no effect (R371) unless its row gives it one (`keep`). -/
structure Res where
  s    : State
  fin  : Option (Nat × Nat × BitVec 128)
  keep : Bool := false

def Res.ok (s : State) (r : BitVec 128 := 0) : Res := { s := s, fin := some (stOk, 0, r) }
/-- A failed command has no effect: its caller passes the state it was given (R371). -/
def Res.err (s : State) (st det : Nat) (r : BitVec 128 := 0) : Res := { s := s, fin := some (st, det, r) }
/-- A failed command whose row gives the failure an effect. -/
def Res.errKeep (s : State) (st det : Nat) : Res := { s := s, fin := some (st, det, 0), keep := true }
def Res.later (s : State) : Res := { s := s, fin := none }

/-- A firmware opcode (bit 15 clear). -/
def Fetched.fw (f : Fetched) : Bool := !f.opc.getLsbD 15

/-- The commands of a queue fetched before the one with a TAG. -/
def beforeTag (t : BitVec 32) : List Fetched → List Fetched
  | [] => []
  | f :: r => if f.tag = t then [] else f :: beforeTag t r

/-- A fetched command may start (R355): its packet has this opcode and waits; with FENCE nothing earlier is left; a firmware
command waits for every earlier firmware command to complete or be staged, and for the CP (R492); COLOPHON_GET waits for neither (R430). -/
def State.startable (s : State) (h : CmdRef) (opc : Nat) : Option Fetched :=
  match s.fetchedOf h with
  | none => none
  | some f =>
    let e := beforeTag h.tag (s.qp h.key).fetched
    if f.opc.toNat = opc ∧ f.phase = .waiting ∧ (!f.fence ∨ e.isEmpty) ∧
       (f.fw ∧ opc ≠ 0x0901 → e.all (fun x => !x.fw || x.phase = .staged) ∧ !s.si.cpDown) then some f else none

/-- Apply a command's answer: complete it, or leave it running. -/
def State.finish (s : State) (h : CmdRef) (r : Res) : State :=
  match r.fin with
  | some (0, det, res) => r.s.complete h 0 det res
  | some (st, det, res) => (if r.keep then r.s else s).complete h st det res
  | none => r.s.setCmdPhase h .running

/-- Stage a command for its AT_TICK (R355). -/
def State.stage (s : State) (h : CmdRef) (f : Fetched) (d : Nat) (c : Instr) : State :=
  State.setCmdPhase { s with staged := s.staged ++ [{ ref := h, tick := s.tim.tick + d, obj := f.objId.toNat, cmd := c }] } h .staged

/-- The Brew a command starts before it acts (R518, R520): the host side, and for a firmware command the units of its class and the wake set
of the graph it names. -/
def State.brewFor (s : State) (f : Fetched) (c : Instr) : State :=
  if !f.fw then s.brew linkDoms
  else s.brew (linkDoms ++ cmdDoms c ++ (if (opInfo f.opc.toNat 0).any (fun i => decide (i.obj = .graph)) then (s.graph f.objId.toNat).wake else []))

/-- Run a command row (R350, R355, R374, R375): the object checks, R59, the command's own checks, then its effect or its
staging. A command whose packet cannot start leaves the state unchanged. -/
def State.cmd (s : State) (h : CmdRef) (opc : Nat) (c : Instr) (run : State → Fetched → Res) : State :=
  match s.startable h opc with
  | none => s
  | some f =>
    let s := s.brewFor f c
    match s.objErr opc h.fn.toNat f.objId.toNat with
    | some (st, det) => s.complete h st det
    | none =>
      if f.atEn then
        match s.lead f.atTick with
        | none => s.complete h stBadParam 0xF022
        | some d =>
          match (run s f).fin with
          | some (0, _, _) => s.stage h f d c
          | none => s.stage h f d c
          | some (st, det, r) => (if (run s f).keep then (run s f).s else s).complete h st det r
      else s.finish h (run s f)

/-- A staged command takes effect (R355): the object checks again, then its run. -/
def State.staged1 (s : State) (h : CmdRef) (opc : Nat) (run : State → Fetched → Res) : State :=
  match s.fetchedOf h with
  | none => s
  | some f =>
    match s.objErr opc h.fn.toNat f.objId.toNat with
    | some (st, det) => s.complete h st det
    | none => s.finish h (run s f)

/-- Run a command whose operation starts when it executes and ends in a later step (R192, R201, R239, R272, R465, R502): while it waits
it stands as a staged command does. -/
def State.cmdOpen (s : State) (h : CmdRef) (opc : Nat) (c : Instr) (run : State → Fetched → Res) : State :=
  match s.startable h opc with
  | none => s
  | some f =>
    let s := s.brewFor f c
    match s.objErr opc h.fn.toNat f.objId.toNat with
    | some (st, det) => s.complete h st det
    | none =>
      let r := run s f
      match r.fin with
      | none => r.s.setCmdPhase h .staged
      | some _ => s.finish h r

/-- Such a command whose AT_TICK names the tick of its operation: it gets the ticks ahead. -/
def State.cmdAt (s : State) (h : CmdRef) (opc : Nat) (c : Instr) (run : State → Fetched → Nat → Res) : State :=
  s.cmdOpen h opc c (fun s f =>
    match s.lead f.atTick with
    | none => .err s stBadParam 0xF022
    | some d => run s f d)

/-! ## Scatter-gather lists (R357, R358) -/

/-- An element's own format. -/
def sgBad (e : SgElem) : Bool := decide (1 < e.type.toNat) || e.rsvd != 0

/-- A SEGMENT element names a list of LENGTH bytes. -/
def segBad (e : SgElem) : Bool :=
  e.type = 1 && (decide (e.length.toNat % 16 ≠ 0 ∨ e.length = 0 ∨ 4096 < e.length.toNat ∨ e.addr.toNat % 16 ≠ 0))

/-- Walk the lists a SEGMENT names: total DATA bytes, or a DETAIL code. -/
def walkSegs : List (List SgElem) → SgElem → Nat → Nat → Except Nat Nat
  | [], e, _, tot => if e.type = 1 then .error 0xF004 else .ok tot
  | l :: r, e, n, tot =>
    if e.type ≠ 1 then .ok tot
    else if 1024 ≤ n then .error 0xF006
    else if e.length.toNat ≠ 16 * l.length then .error 0xF004
    else
      let init := l.dropLast
      match l.getLast? with
      | none => .error 0xF004
      | some z =>
        if l.any (fun x => sgBad x || segBad x) || init.any (fun x => x.type = 1) || l.any (fun x => x.type = 0 && x.length = 0) then .error 0xF004
        else walkSegs r z (n + 1) (tot + ((l.filter (fun x => x.type = 0)).map (fun x => x.length.toNat)).foldl (· + ·) 0)

/-- The DATA bytes of a list, or the DETAIL of its failure. -/
def sglBytes (g : Sgl) : Except Nat Nat :=
  if sgBad g.root || segBad g.root || (g.root.type = 0 && g.root.length = 0) then .error 0xF004
  else walkSegs g.segs g.root 0 (if g.root.type = 0 then g.root.length.toNat else 0)

/-- The failure of a list that must move n bytes, if any (R358): format, depth, length, and a host read that failed. -/
def sglErr (g : Sgl) (n : Nat) : Option Nat :=
  match sglBytes g with
  | .error d => some d
  | .ok t => if t < n ∨ 2 ^ 32 < t then some 0xF005 else if g.readFail then some 0xF007 else none

/-- Write bytes through a command's list (R356). -/
def State.sglWrite (s : State) (h : CmdRef) (words : List Nat) : State := s.emit .sglWrite [h.fn.toNat, h.qp.toNat, h.tag.toNat] words

end Sys2Proof.Machine
end

