-- ==== Sys2Proof/Machine/Rings.lean ====
section
/-! DEFINITION. Functions, doorbells, fetch, completions, rings and interrupts (13), and the events of their family. -/
namespace Sys2Proof.Machine

/-! ## Functions -/

/-- The function's slipcase holds its doorbells off (Table 13.7, FENCED). -/
def State.fnFenced (s : State) (f : Nat) : Bool :=
  match s.fnSlip f with
  | some n => decide ((s.slip n).state ≠ 1)
  | none => false

/-- BAR0 offset of a doorbell (R348). -/
def dbOff (f q o : Nat) : Nat := (if f = 0 then 0x01000000 else 0x8000) + 64 * q + o

/-- The queue that a write to an offset of BAR0 concerns, by its doorbell stride (R348, Table 13.8); 0xFFFF for none. -/
def dbQueue (f off : Nat) : Nat :=
  let q := (off - dbOff f 0 0) / 64
  if dbOff f 0 0 ≤ off ∧ q < 256 then q else 0xFFFF

/-- The causes that refuse a doorbell before its value is looked at. -/
def State.dbCause (s : State) (f q : Nat) : Option Nat :=
  if (s.fn f).resetting then some 5
  else if s.fnFenced f then some 4
  else if !(s.qp (f * 256 + q)).valid then some 1
  else none

/-- A request to a VF that is not enabled (Table 21.3). -/
def State.unsupported (s : State) (f off : Nat) : State := (s.emit .aer [f, 2] [off]).bump (xioB + 0x408)

/-- SQ_TAIL (R348, R349, R365). -/
def State.sqTail (s : State) (f q v : Nat) : State :=
  if f ≠ 0 ∧ !(s.fn f).exist then s.unsupported f (dbOff f q 0)
  else match s.dbCause f q with
  | some c => s.refuseWrite f c (dbOff f q 0) q v 0xF
  | none =>
    let k := f * 256 + q
    let x := s.qp k
    let n := 2 ^ x.sqLog2
    let w := v % 2 ^ 16
    if x.kind ≠ 1 then s.refuseWrite f 6 (dbOff f q 0) q v 0xF
    else if n ≤ w then s.refuseWrite f 2 (dbOff f q 0) q v 0xF
    else if (x.head + n - x.tail - 1) % n < (w + n - x.tail) % n then s.refuseWrite f 3 (dbOff f q 0) q v 0xF
    else (s.touch f (dbOff f q 0)).modQp k (fun x => { x with tail := w })

def execSqTail (fn : BitVec 12) (q : BitVec 8) (v : BitVec 32) (s : State) : Host.Outcome State Fault Refusal :=
  .next (s.sqTail fn.toNat q.toNat v.toNat)

/-- HEAD (R348, R349, R361): buffers of the entries passed become free. -/
def State.hostHead (s : State) (f q v : Nat) : State :=
  if f ≠ 0 ∧ !(s.fn f).exist then s.unsupported f (dbOff f q 4)
  else match s.dbCause f q with
  | some c => s.refuseWrite f c (dbOff f q 4) q v 0xF
  | none =>
    let k := f * 256 + q
    let x := s.qp k
    let n := x.size
    let w := v % 2 ^ 16
    if n ≤ w then s.refuseWrite f 2 (dbOff f q 4) q v 0xF
    else if x.used < (w + n - x.hhead) % n then s.refuseWrite f 3 (dbOff f q 4) q v 0xF
    else (s.touch f (dbOff f q 4)).modQp k (fun x => { x with hhead := w, entBufs := x.entBufs.drop ((w + n - x.hhead) % n) })

def execHead (fn : BitVec 12) (q : BitVec 8) (v : BitVec 32) (s : State) : Host.Outcome State Fault Refusal :=
  .next (s.hostHead fn.toNat q.toNat v.toNat)

/-! ## Fetch (R347, R350, R353, R354, R537) -/

/-- Firmware commands fetched and not completed, on every queue (R354). -/
def State.fwHeld (s : State) : Nat := (s.qps.map (fun e => (e.2.fetched.filter Fetched.fw).length)).foldl (· + ·) 0

/-- Fetch of firmware commands waits (R354, R492). -/
def State.fwWaits (s : State) : Bool := s.si.cpDown || decide (4096 ≤ s.fwHeld)

/-- COLOPHON_GET commands fetched and not completed are four (R430). -/
def State.colFull (s : State) : Bool :=
  decide (4 ≤ (s.qps.map (fun e => (e.2.fetched.filter (fun f => f.opc = 0x0901)).length)).foldl (· + ·) 0)

/-- A queue whose head packet fetch may take now: accepted slots, not known to be uncovered or to wait, a completion entry to
reserve (R353), no FENCE outstanding (R355), not stopped and no retry due (R537). -/
def State.qWork (s : State) (k : Nat) (q : QPair) : Bool :=
  q.valid && decide (q.kind = 1) && decide (q.tail ≠ q.head) && decide (q.waitTail ≠ some q.tail) && !q.stopped && decide (q.slotFails = 0) &&
    !(q.fetched.any (·.fence)) && decide (q.fetched.length + q.done.length < q.room) && !(s.fn (k / 256)).resetting && !(q.waitFw && s.fwWaits) && !(q.waitCol && s.colFull)

/-- The next of a list of numbers in round-robin order after a. -/
def rrNext (a : Nat) (l : List Nat) : Nat := ((l.find? (fun x => decide (a < x))).getD (l.headD 0))

/-- The queue whose turn fetch is (R354), as a global index: PF0 every second turn while it has work, functions and queues in
round-robin order. -/
def State.fetchTurn (s : State) : Option Nat :=
  let ks := (s.qps.filter (fun e => s.qWork e.1 e.2)).map (·.1)
  if ks.isEmpty then none
  else
    let vf := ks.filter (fun k => decide (256 ≤ k))
    let f := if ks.any (fun k => decide (k < 256)) ∧ (!s.fetchPf ∨ vf.isEmpty) then 0 else rrNext s.fetchFn (vf.map (· / 256))
    some (f * 256 + rrNext (s.fn f).lastQp ((ks.filter (fun k => decide (k / 256 = f))).map (· % 256)))

/-- Fetch has served a queue. -/
def State.served (s : State) (k : Nat) : State :=
  let f := k / 256
  let s := { s with fetchPf := decide (f = 0), fetchFn := if f = 0 then s.fetchFn else f }
  s.modFn f (fun x => { x with lastQp := k % 256 })

/-- Another failed read of submission slots (R537). -/
def State.slotFail (s : State) (k : Nat) : State :=
  let s := ((s.orReg (xioB + 4) 2).bump (xioB + 0x418)).modQp k (fun q => { q with slotFails := q.slotFails + 1 })
  if 3 ≤ (s.qp k).slotFails then (s.modQp k (fun q => { q with stopped := true })).fnEvent (k / 256) 6 0 (k % 256) [] else s

/-- A packet that fails a check of R350 to R375 before it is started completes at once. -/
def State.fetchErr (s : State) (k : Nat) (p : Packet) (st det : Nat) : State :=
  let q := s.qp k
  let c : Cpl := { tag := p.tag, status := st, detail := det, tick := BitVec.ofNat 32 s.tim.tick, sqHead := q.head, fast := p.opc.getLsbD 15,
                   irqNow := p.flags.getLsbD 2, result := 0 }
  s.modQp k (fun q => { q with done := q.done ++ [c] })

/-- R343: classes and opcodes open to a function. -/
def State.classOk (s : State) (f opc : Nat) (i : OpInfo) : Bool :=
  decide (f = 0) || (i.vf && ((s.fnSlip f).isSome || decide (opc / 256 % 128 = 0)))

/-- The checks of a fetched packet that need nothing but its header and function (R350, R373, R374). -/
def State.packetErr (s : State) (f : Nat) (p : Packet) : Option (Nat × Nat) :=
  if 8 ≤ p.flags.toNat then some (stBadParam, 0xF002)
  else match opInfo p.opc.toNat p.cnt with
  | none => some (stBadOpcode, 0)
  | some i =>
    if !s.classOk f p.opc.toNat i then some (stNotPermitted, 0xF003)
    else if p.len.toNat ≠ slotsFor i.body then some (stBadLength, 0xF02A)
    else if p.rsvdNZ then some (stBadParam, 0xF025)
    else if i.at_ = .no ∧ p.flags.getLsbD 0 then some (stBadParam, 0xF021)
    else if i.at_ = .req ∧ !p.flags.getLsbD 0 then some (stBadParam, 0xF020)
    else none

/-- The device fetches the head packet of the queue whose turn it is. -/
def State.fetch (s : State) (k : Nat) (p : Packet) : State :=
  let f := k / 256
  let q := s.qp k
  let n := 2 ^ q.sqLog2
  let len := p.len.toNat
  if len = 0 ∨ 64 < len then
    ((s.modQp k (fun q => { q with head := q.tail, waitTail := none })).served k).fetchErr k p stBadLength 0xF001
  else if (q.tail + n - q.head) % n < len then s.modQp k (fun q => { q with waitTail := some q.tail })
  else if p.opc = 0x0901 ∧ s.colFull then s.modQp k (fun q => { q with waitCol := true })
  else if !p.opc.getLsbD 15 ∧ p.opc ≠ 0x0901 ∧ s.fwWaits then s.modQp k (fun q => { q with waitFw := true })
  else
    let s := (s.modQp k (fun q => { q with head := (q.head + len) % n, waitTail := none, waitFw := false, waitCol := false })).served k
    let s := s.bump (fnB f + (if p.opc.getLsbD 15 then 0x208 else 0x200))
    let s := s.trace 0x6F ((s.fnSlip f).getD 0xFF) 0 [f, k % 256, p.opc.toNat, p.tag.toNat]
    match s.packetErr f p with
    | some (st, det) => s.fetchErr k p st det
    | none =>
      let c : Fetched := { opc := p.opc, fence := p.flags.getLsbD 1, irqNow := p.flags.getLsbD 2, atEn := p.flags.getLsbD 0, tag := p.tag,
                           objId := p.objId, atTick := p.atTick, sqHead := (s.qp k).head, phase := .waiting }
      s.modQp k (fun q => { q with fetched := q.fetched ++ [c] })

/-- PACKET_FETCH (R350): a packet whose slots were read; the row runs only for the queue whose turn it is. -/
def execPacketFetch (fn : BitVec 12) (q : BitVec 8) (p : Packet) (readOk : Bool) (s : State) : Host.Outcome State Fault Refusal :=
  let k := fn.toNat * 256 + q.toNat
  .next (if s.fetchTurn ≠ some k then s else if readOk then s.fetch k p else s.slotFail k)

/-- SUBMISSION_READ_RETRY (R537): a failed read is tried again. -/
def execSubmissionReadRetry (fn : BitVec 12) (q : BitVec 8) (ok : Bool) (s : State) : Host.Outcome State Fault Refusal :=
  let k := fn.toNat * 256 + q.toNat
  .next (if (s.qp k).slotFails = 0 ∨ (s.qp k).stopped then s
  else if ok then s.modQp k (fun q => { q with slotFails := 0 }) else s.slotFail k)

/-! ## Completions (R352) -/

/-- Write the oldest completion of a queue, PHASE last. -/
def State.writeCompletion (s : State) (k : Nat) : State :=
  match (s.qp k).done with
  | [] => s
  | c :: rest =>
    let q := s.qp k
    if q.room = 0 then s
    else
      let s := s.emit .completion [k / 256, k % 256, q.dtail]
        [c.tag.toNat, c.status, c.detail, c.tick.toNat, c.sqHead, q.phase.toNat + 2 * c.fast.toNat, c.result.toNat]
      let s := s.modQp k (fun q => { q.advance with done := rest, entBufs := q.entBufs ++ [false] })
      s.pend (k / 256) q.vector c.irqNow

/-- COMPLETION_WRITE (R352). -/
def execCompletionWrite (fn : BitVec 12) (q : BitVec 8) (s : State) : Host.Outcome State Fault Refusal :=
  .next (s.writeCompletion (fn.toNat * 256 + q.toNat))

/-! ## Device-to-host rings (R359–R363) -/

/-- PACKED_ENTRY_CLOSE (R360): every entry that is full or whose first record's tick has ended. -/
def execPackedEntryClose (s : State) : Host.Outcome State Fault Refusal :=
  .next ((s.qps.keysWhere (fun _ q => decide (q.openTick < s.tim.tick ∨ q.perEntry ≤ q.openRecs.length))).foldl State.closeEntry s)

/-- Bytes held in an overflow buffer. -/
def Slip.ovfUsed (p : Slip) : Nat := (p.ovf.map (·.bytes)).foldl (· + ·) 0

/-- A record of a ring is dropped (R363): RESULT_DROP, DROPS of the next entry, and the partition's counter. -/
def State.dropRec (s : State) (k slip : Nat) : State :=
  let s := (s.bump (fnB (k / 256) + 0x228)).modQp k (fun q => if q.valid then { q with drops := q.drops + 1 } else q)
  if slip < 64 then s.modSlip slip (fun p => p.count 7 1) else s

/-- Hold a record in its slipcase's overflow buffer, or drop it where the buffer is full; `true` when held. -/
def State.hold (s : State) (slip : Nat) (r : HeldRec) : State × Bool :=
  if slip < 64 ∧ (s.slip slip).ovfUsed + r.bytes ≤ (s.slip slip).ovfKib * 1024 then
    (s.modSlip slip (fun p => { p with ovf := p.ovf ++ [r] }), true)
  else (s.dropRec r.queue slip, false)

/-- Hand a record to a packed ring (AUX, SPIKE) in order (R363); `false` when it was dropped. -/
def State.packed (s : State) (k kind slip : Nat) (rec : List Nat) : State × Bool :=
  let q := s.qp k
  if q.valid ∧ q.kind = kind ∧ 0 < q.places ∧ !((s.slip slip).ovf.any (fun r => r.queue = k)) then (s.placeRec k rec, true)
  else s.hold slip { queue := k, bytes := recBytes kind, words := rec, rec_ := none }

/-- Buffers of a RESULT ring in use. -/
def QPair.bufsUsed (q : QPair) : Nat := (q.entBufs.filter id).length

/-- A RESULT record of some bytes finds its entry, and its buffer where it needs one (R361). -/
def QPair.takes (q : QPair) (bytes : Nat) : Bool :=
  q.valid && decide (q.kind = 2) && decide (0 < q.room) && (decide (bytes + 16 ≤ 2 ^ q.entLog2) || decide (q.bufsUsed < q.bufCount))

/-- Sizes satisfy the bind check (R362). -/
def QPair.fits (q : QPair) (bytes : Nat) : Bool := decide (bytes + 16 ≤ 2 ^ q.entLog2) || decide (bytes ≤ 2 ^ q.bufLog2)

/-- A reference tick is served: its entry leaves the deadline monitor's list. -/
def State.serve (s : State) (r : Rec) : State :=
  { s with dues := s.dues.filter (fun d => !(d.graph = r.graph && d.kind = r.kind && d.layer = r.layer && d.tref = r.tref)) }

/-- An egress entry sends a graph's records. -/
def State.egrFor (s : State) (k g : Nat) : Bool :=
  let c := xioB + 0x200 + 16 * k
  s.rfld c 63 63 = 1 && s.rfld (c + 8) 63 32 = g && s.rfld c 61 56 = (s.graph g).slip

/-- A record issued on the host link goes to the egress entries of its graph (R551): counted and withheld where the slipcase is sealed,
counted and dropped where the port's 1 MiB buffer has no room. -/
def State.egress1 (s : State) (r : Rec) (words : List Nat) (k : Nat) : State :=
  let e := s.rfld (xioB + 0x200 + 16 * k) 62 62
  let used := SMap.get 0 s.xio.egBytes e
  if s.sealed (s.graph r.graph).slip then s.bump (xioB + 0x440)
  else if 0x100000 < used + r.bytes then s.bump (xioB + 0x438)
  else { s with xio := { s.xio with egBytes := SMap.put 0 s.xio.egBytes e (used + r.bytes), egWait := s.xio.egWait ++ [(k, r.bytes, words)] } }

def State.egressRec (s : State) (r : Rec) (words : List Nat) : State :=
  ((List.range 16).filter (fun k => s.egrFor k r.graph)).foldl (fun s k => s.egress1 r words k) s

/-- Write a record into its ring (R320, R325, R361): DEADLINE_MISS and HOST_HELD of a contracted graph, ISSUE_TICK, the entry. -/
def State.issue (s : State) (k : Nat) (r : Rec) : State :=
  let g := s.graph r.graph
  let c := s.contract g.contract
  let con := g.contract ≠ 0 ∧ c.exist
  let missed := s.dues.any (fun d => d.graph = r.graph && d.kind = r.kind && d.layer = r.layer && d.tref = r.tref && d.missed)
  let late := con ∧ c.effTick ≤ r.tref ∧ (c.deadline < s.tim.tick - r.tref ∨ missed)
  let flags := r.flags ||| (if late then 0x80 else 0) ||| (if con ∧ r.held then 0x40 else 0)
  let q := s.qp k
  let inline_ := r.bytes + 16 ≤ 2 ^ q.entLog2
  let buf := if inline_ then none else some (q.bufBase + q.bufNext % q.bufCount * 2 ^ q.bufLog2)
  let s := s.writeEntry k (if inline_ then 1 else 2) r.bytes buf ([flags, s.ets] ++ r.fields ++ r.payload) (decide late)
  let s := if inline_ then s else s.modQp k (fun q => { q with bufNext := (q.bufNext + 1) % q.bufCount })
  let s := if con then
      s.modContract g.contract (fun c => { c with records := c.records + 1, heldMiss := c.heldMiss + (if late ∧ r.held then 1 else 0) })
    else s
  let s := s.modSlip g.slip (fun p => p.count 2 1)
  let s := s.trace 0x6A g.slip 2 [r.graph, r.tref % 2 ^ 32, r.bytes, flags]
  (s.egressRec r ([flags, s.ets] ++ r.fields ++ r.payload)).serve r

/-- The compares of every tick up to a record's reference tick have passed, or one quire runs alone (R480, R482). -/
def State.compared (s : State) (g tref : Nat) : Bool :=
  s.si.pairs.all (fun p => p.contract ≠ (s.graph g).contract || p.sole.isSome || decide (tref < p.passed))

/-- RECORD_ISSUE (R320, R363): a record that waits, with none of its graph before it, whose compares have passed and that no STOP
withholds (R490), leaves for its ring or its overflow buffer. A record of a graph with no binding waits. -/
def State.recordIssue (s : State) (i : Nat) : State :=
  match s.recs[i]? with
  | none => s
  | some r =>
    let g := s.graph r.graph
    match g.bind with
    | none => s
    | some (f, q) =>
      if (s.recs.take i).any (fun x => x.graph = r.graph) || !s.compared r.graph r.tref || g.stopAfter.any (fun t => decide (t < r.tref)) then s
      else
        let k := f * 256 + q
        let s := { s with recs := s.recs.eraseIdx i }
        if (s.qp k).takes r.bytes ∧ !((s.slip g.slip).ovf.any (fun x => x.queue = k)) then s.issue k r
        else
          let h := s.hold g.slip { queue := k, bytes := r.bytes, words := [], rec_ := some { r with held := true } }
          if h.2 then h.1
          else
            -- a contracted record dropped here counts as a HOST_HELD miss (R363)
            (if g.contract ≠ 0 then h.1.modContract g.contract (fun c => { c with heldMiss := c.heldMiss + 1 }) else h.1).serve r

def execRecordIssue (r : Nat) (s : State) : Host.Outcome State Fault Refusal := .next (s.recordIssue r)

/-- A held record's ring has room for it. -/
def State.heldGoes (s : State) (h : HeldRec) : Bool :=
  let q := s.qp h.queue
  match h.rec_ with
  | some r => q.takes r.bytes
  | none => q.valid && decide (0 < q.places)

/-- Index of the first held record that is the oldest of its ring and whose ring has room. -/
def State.drainIdx (s : State) (l : List HeldRec) : Option Nat :=
  (List.range l.length).find? (fun i =>
    match l[i]? with
    | some h => !((l.take i).any (fun x => x.queue = h.queue)) && s.heldGoes h
    | none => false)

/-- OVERFLOW_DRAIN (R363): the oldest record of a ring that has room leaves. -/
def execOverflowDrain (slip : BitVec 6) (s : State) : Host.Outcome State Fault Refusal :=
  let l := (s.slip slip.toNat).ovf
  .next (match s.drainIdx l with
  | none => s
  | some i =>
    match l[i]? with
    | none => s
    | some h =>
      let s := s.modSlip slip.toNat (fun p => { p with ovf := p.ovf.eraseIdx i })
      match h.rec_ with
      | some r => s.issue h.queue r
      -- a spike or aux record takes its ISSUE_TICK now (R255, R278)
      | none => s.placeRec h.queue (match (s.qp h.queue).kind with | 5 => h.words.set 2 s.ets | 4 => h.words.set 5 s.tim.tick | _ => h.words))

/-! ## Interrupts (R364) -/

/-- Key of a vector's control register, whose bit 0 is the mask bit. -/
def vecCtl (f v : Nat) : Nat := if f = 0 then cmdB + 0x800C + 16 * v else fnB f + 0x400C + 16 * v
/-- Key of FN_VEC_MODv. -/
def vecMod (f v : Nat) : Nat := if f = 0 then cmdB + 0x2000 + 4 * v else fnB f + 0x100 + 4 * v

/-- The vector's moderation condition is met. -/
def State.vecDue (s : State) (f v : Nat) : Bool :=
  let x := s.vec (f * 2048 + v)
  let m := s.reg (vecMod f v)
  let us := fld m 9 0
  decide (0 < x.count) && (decide (max 1 (fld m 23 16) ≤ x.count) || x.urgent || (decide (0 < us) && decide (x.since + us * 1000 ≤ s.tim.systime)))

/-- Send a vector's message: the pending count is cleared. -/
def State.sendVec (s : State) (f v : Nat) : State :=
  (s.emit .msix [f, v] []).modVec (f * 2048 + v) (fun _ => {})

/-- MSIX_MESSAGE (R364): a masked vector sets its PBA bit instead. -/
def execMsixMessage (fn : BitVec 12) (v : BitVec 11) (s : State) : Host.Outcome State Fault Refusal :=
  .next (if !s.vecDue fn.toNat v.toNat ∨ (s.fn fn.toNat).resetting then s
  else if (s.reg (vecCtl fn.toNat v.toNat)).getLsbD 0 then s.modVec (fn.toNat * 2048 + v.toNat) (fun x => { x with pba := true })
  else s.sendVec fn.toNat v.toNat)

/-- Clear a vector's mask: a message that its PBA bit holds is sent. -/
def State.unmask (s : State) (f v : Nat) : State :=
  let s := s.setRfld (vecCtl f v) 0 0 0
  if (s.vec (f * 2048 + v)).pba then s.sendVec f v else s

/-- VECTOR_UNMASK (R364). -/
def execVectorUnmask (fn : BitVec 12) (v : BitVec 11) (s : State) : Host.Outcome State Fault Refusal :=
  .next (if v.toNat < (if fn = 0 then 2048 else 8) then (s.touch fn.toNat (vecCtl fn.toNat v.toNat % 2 ^ 32)).unmask fn.toNat v.toNat else s)

/-! ## Function control and reset (R344, R367–R369) -/

/-- The check of FN_ADMQ_CFG and its bases. -/
def State.admqOk (s : State) (f : Nat) : Bool :=
  let c := s.reg (fnB f + 0x20)
  decide (7 ≤ fld c 28 24 ∧ fld c 28 24 ≤ 16 ∧ 6 ≤ fld c 20 16 ∧ fld c 20 16 ≤ 16 ∧ (f = 0 ∨ fld c 10 0 < 8)) &&
    decide ((s.reg (fnB f + 0x10)).toNat % 4096 = 0) && decide ((s.reg (fnB f + 0x18)).toNat % 4096 = 0)

/-- A write of FN_CTL.EN (R344, Table 13.10): 1 checks the admin queue's settings and starts queue 0; 0 deletes it. -/
def State.wrFnEn (s : State) (f : Nat) (en : Bool) : State :=
  let cur := (s.reg (fnB f + 4)).getLsbD 0
  if en = cur then s
  else if !en then
    { (s.setReg (fnB f + 4) 0) with qps := SMap.put {} s.qps (f * 256) {} }
  else if s.admqOk f then
    let c := s.reg (fnB f + 0x20)
    ((s.setReg (fnB f + 4) 1).modFn f (fun x => { x with admqErr := false })).modQp (f * 256) (fun _ =>
      { valid := true, kind := 1, vector := fld c 10 0, sqLog2 := fld c 28 24, ringLog2 := fld c 20 16, entLog2 := 5,
        sqBase := (s.reg (fnB f + 0x10)).toNat, ringBase := (s.reg (fnB f + 0x18)).toNat })
  else (s.orReg (fnB f + 0xC) 1).modFn f (fun x => { x with admqErr := true })

/-- FN_CTL_EN. -/
def execFnCtlEn (fn : BitVec 12) (en : Bool) (s : State) : Host.Outcome State Fault Refusal :=
  .next (if fn ≠ 0 ∧ !(s.fn fn.toNat).exist then s.unsupported fn.toNat 4 else (s.touch fn.toNat (fnB fn.toNat % 2 ^ 32 + 4)).wrFnEn fn.toNat en)

/-- Complete every outstanding command of a queue as a reset does (Table 13.9, step 4), and write what has completed. -/
def State.abortQueue (s : State) (k : Nat) : State :=
  let s := (s.qp k).fetched.foldl (fun s f =>
    s.complete { fn := BitVec.ofNat 12 (k / 256), qp := BitVec.ofNat 8 (k % 256), tag := f.tag } stAborted (if f.phase = .running then 0xF010 else 0xF011)) s
  (List.range (s.qp k).done.length).foldl (fun s _ => s.writeCompletion k) s

/-- Drop a range of registers: they return to reset. -/
def State.clearRegs (s : State) (lo hi : Nat) : State := { s with regs := SMap.clear s.regs lo hi }

/-- Admissions over a binding that pass a test end; the devices of their parts are told (R340). -/
def State.dropAdmits (s : State) (p : ConAdmit → Bool) : State :=
  let gone := s.conAdmits.filter p
  gone.foldl (fun s a => if a.home.isSome then s
    else a.plan.parts.foldl (fun s z => s.sendTo { dst := z.dev.toNat, src := s.devId, body := .contract [5, a.id] }) s)
    { s with conAdmits := s.conAdmits.filter (fun a => !p a) }

/-- The reset of one function (Table 13.9), without the record PF0 receives. -/
def State.resetFn1 (s : State) (f : Nat) (flr : Bool) : State :=
  let ks := (s.qps.filter (fun e => decide (e.1 / 256 = f))).map (·.1)
  -- step 3: staged commands are abandoned; steps 2 and 4: completions after a register or command reset
  let s := if flr then s else ks.foldl (fun s k => s.abortQueue k) s
  let s := { s with staged := s.staged.filter (fun x => !(x.ref.fn.toNat = f)) }
  let s := s.dropAdmits (fun a => a.ref.any (fun h => h.fn.toNat = f))
  -- step 5
  let s := { s with qps := SMap.clear s.qps (f * 256) (f * 256 + 256), vecs := SMap.clear s.vecs (f * 2048) (f * 2048 + 2048) }
  let b := fnB f
  let s := (s.setReg (b + 0xC) 0).setReg (b + 4) 0
  let s := if f = 0 then (s.clearRegs (b + 0x2000) (b + 0x4000)).clearRegs (b + 0x8000) (b + 0x10000)
    else (s.clearRegs (b + 0x100) (b + 0x200)).clearRegs (b + 0x4000) (b + 0x5000)
  let s := { s with stageBuf := SMap.put none s.stageBuf f none }
  let s := if s.obs.logQ.any (fun q => q.1 = f) then s.modObs (fun o => { o with logQ := none }) else s
  let s := s.bump (b + 0x220)
  s.modFn f (fun x => { x with rdy := x.exist, resetting := false, admqErr := false, lastQp := 0, tdisp := if flr then .unlocked else x.tdisp })

/-- Commands of a function outstanding, and those past their commit point. -/
def State.outstanding (s : State) (f : Nat) : Nat × Nat :=
  let l := (s.qps.filter (fun e => decide (e.1 / 256 = f))).flatMap (fun e => e.2.fetched)
  (l.length, (l.filter (fun x => x.phase = .running)).length)

/-- Reset a VF: PF0 receives a FUNCTION_RESET record (step 6). -/
def State.resetVf (s : State) (f : Nat) (flr : Bool) : State :=
  let o := s.outstanding f
  (s.resetFn1 f flr).fnEvent 0 4 flr.toNat 0xFFFF [f, o.1, o.2]

/-- VF Enable is cleared: every VF that exists is reset and exists no more (R367, R535). -/
def State.clearVfs (s : State) (flr : Bool) : State :=
  let vs := (s.fns.filter (fun e => decide (e.1 ≠ 0) && e.2.exist)).map (·.1)
  let s := vs.foldl (fun s f => s.resetVf f flr) s
  { s with fns := s.fns.filter (fun e => decide (e.1 = 0)) }

/-- A function reset (R367, R368). -/
def State.fnReset (s : State) (f : Nat) (flr : Bool) : State :=
  if f = 0 then (s.clearVfs flr).resetFn1 0 flr
  else if (s.fn f).exist then s.resetVf f flr else s

/-- FN_CTL_RESET (R367): a write of 1 to FN_CTL.RESET. -/
def execFnCtlReset (fn : BitVec 12) (s : State) : Host.Outcome State Fault Refusal :=
  .next (if fn ≠ 0 ∧ !(s.fn fn.toNat).exist then s.unsupported fn.toNat 4 else (s.touch fn.toNat (fnB fn.toNat % 2 ^ 32 + 4)).fnReset fn.toNat false)

/-- PCIE_FLR (R367, R536). -/
def execPcieFlr (fn : BitVec 12) (s : State) : Host.Outcome State Fault Refusal := .next (s.fnReset fn.toNat true)

/-- VF_ENABLE (R341, R535): the host sets VF Enable with NumVFs, or clears it. -/
def execVfEnable (en : Bool) (num : BitVec 16) (s : State) : Host.Outcome State Fault Refusal :=
  .next (if en then
    (List.range (min num.toNat 4095)).foldl (fun s i =>
      if (s.fn (i + 1)).exist then s else s.modFn (i + 1) (fun _ => { exist := true, rdy := true })) s
  else s.clearVfs true)

/-- D3HOT_ENTRY (R536): every VF is reset; slipcases run on. -/
def execD3hotEntry (s : State) : Host.Outcome State Fault Refusal :=
  let vs := (s.fns.filter (fun e => decide (e.1 ≠ 0) && e.2.exist)).map (·.1)
  .next (vs.foldl (fun s f => s.resetVf f true) s)

/-! ## The queue table (Table 13.11) -/

def State.queueEntry (s : State) (k : Nat) : Nat :=
  let q := s.qp k
  if !q.valid then 0
  else
    let f := k / 256
    let held := match s.fnSlip f with | some n => (s.slip n).ovf.any (fun r => r.queue = k) | none => false
    2 ^ 63 + q.kind % 8 * 2 ^ 60 + (s.fnFenced f || (s.fn f).resetting).toNat * 2 ^ 59 + held.toNat * 2 ^ 58 +
      (if q.kind = 1 then q.head else q.dtail) * 2 ^ 32 + (if q.kind = 1 then q.tail else q.hhead) * 2 ^ 16 + (if q.kind = 1 then q.fetched.length else 0)

end Sys2Proof.Machine
end

