-- ==== Sys2Proof/Machine/Admin.lean ====
section
/-! DEFINITION. Meanings of the Admin class (R380). -/
namespace Sys2Proof.Machine

/-- NOP. -/
def execNop (h : CmdRef) (s : State) : Host.Outcome State Fault Refusal :=
  .next (s.cmd h 0x8000 (.nop h) (fun s _ => .ok s))

/-- QUEUE_QUERY: the entry of Table 13.11. -/
def execQueueQuery (h : CmdRef) (q : BitVec 8) (s : State) : Host.Outcome State Fault Refusal :=
  .next (s.cmd h 0x8001 (.queueQuery h q) (fun s _ =>
    let k := h.fn.toNat * 256 + q.toNat
    if (s.qp k).valid then .ok s (result [(s.queueEntry k, 8)]) else .err s stBadParam 1))

/-- The fields of a queue-pair descriptor (Table 13.2). -/
def qpFieldsOk (f : Nat) (d : QpDesc) : Bool :=
  let al := fun (a : BitVec 64) => decide (a.toNat % 4096 = 0)
  let k := d.kind.toNat
  decide (d.qp ≠ 0 ∧ 1 ≤ k ∧ k ≤ 7 ∧ d.vector.toNat < (if f = 0 then 2048 else 8) ∧ 6 ≤ d.ringLog2.toNat ∧ d.ringLog2.toNat ≤ 16) && al d.ringBase &&
    (if k = 1 then decide (7 ≤ d.sqLog2.toNat ∧ d.sqLog2.toNat ≤ 16 ∧ d.entLog2 = 5) && al d.sqBase
     else decide (d.sqLog2 = 0 ∧ d.sqBase = 0 ∧ 6 ≤ d.entLog2.toNat ∧ d.entLog2.toNat ≤ 12 ∧ (k = 6 → d.entLog2 = 6))) &&
    (if k = 2 then decide (12 ≤ d.bufLog2.toNat ∧ d.bufLog2.toNat ≤ 26 ∧ 1 ≤ d.bufCount.toNat ∧ d.bufCount.toNat ≤ 1024) && al d.bufBase
     else decide (d.bufLog2 = 0 ∧ d.bufBase = 0 ∧ d.bufCount = 0))

/-- The queue pair of a descriptor, indices 0 and PHASE 1 (R346). -/
def qpOf (d : QpDesc) : QPair :=
  { valid := true, kind := d.kind.toNat, vector := d.vector.toNat, sqLog2 := d.sqLog2.toNat, ringLog2 := d.ringLog2.toNat,
    entLog2 := d.entLog2.toNat, bufLog2 := d.bufLog2.toNat, sqBase := d.sqBase.toNat, ringBase := d.ringBase.toNat,
    bufBase := d.bufBase.toNat, bufCount := d.bufCount.toNat }

/-- QP_CREATE (R344–R346, R362). -/
def State.qpCreate (s : State) (f : Nat) (d : QpDesc) : Res :=
  let k := f * 256 + d.qp.toNat
  if !qpFieldsOk f d then .err s stBadParam 5
  else if d.kind = 7 ∧ f ≠ 0 then .err s stNotPermitted 3
  else if (s.qp k).valid then .err s stNoResource 1
  else if d.kind = 6 ∧ (s.eventQueue f).isSome then .err s stNoResource 2
  else if d.kind = 2 ∧ s.graphs.any (fun e => e.2.bind = some (f, d.qp.toNat) && !(qpOf d).fits e.2.maxRec) then .err s stBadParam 4
  else .ok (s.modQp k (fun _ => qpOf d)) (result [(d.qp.toNat, 1)])

def execQpCreate (h : CmdRef) (d : QpDesc) (s : State) : Host.Outcome State Fault Refusal :=
  .next (s.cmd h 2 (.qpCreate h d) (fun s _ => s.qpCreate h.fn.toNat d))

/-- QP_DELETE (R344). -/
def State.qpDelete (s : State) (h : CmdRef) (q : Nat) : Res :=
  let k := h.fn.toNat * 256 + q
  if q = 0 then .err s stBadParam 2
  else if !(s.qp k).valid then .err s stBadParam 1
  else if k = h.key then .err s stBadParam 3
  else if !(s.qp k).fetched.isEmpty ∨ !(s.qp k).done.isEmpty then .err s stTransition 4
  else
    let s := { s with qps := SMap.put {} s.qps k {} }
    .ok (if s.obs.logQ = some (h.fn.toNat, q) then s.modObs (fun o => { o with logQ := none }) else s)

def execQpDelete (h : CmdRef) (q : BitVec 8) (s : State) : Host.Outcome State Fault Refusal :=
  .next (s.cmd h 3 (.qpDelete h q) (fun s _ => s.qpDelete h q.toNat))

/-- FUNCTION_RESET (R367, R369): completes after step 6. -/
def execFunctionReset (h : CmdRef) (func : BitVec 16) (s : State) : Host.Outcome State Fault Refusal :=
  .next (s.cmd h 4 (.functionReset h func) (fun s _ =>
    let f := func.toNat
    if f = 0 ∨ 4096 ≤ f ∨ !(s.fn f).exist then .err s stBadParam 1
    else if (s.fn f).resetting then .err s stTransition 0
    else .ok (s.fnReset f false)))

/-- DEVICE_RESET: CONFIRM, then the reset begins (R493). -/
def State.deviceResetCmd (s : State) (confirm : BitVec 32) : Res :=
  if confirm = 0x4C583952 then .ok { s with resetDue := true } else .err s stBadParam 1

def execDeviceReset (h : CmdRef) (confirm : BitVec 32) (s : State) : Host.Outcome State Fault Refusal :=
  .next (s.cmd h 5 (.deviceReset h confirm) (fun s _ => s.deviceResetCmd confirm))

end Sys2Proof.Machine
end

