-- ==== Sys2Proof/Machine/Num.lean ====
section
/-! DEFINITION. Exact arithmetic and its one rounding: rationals to floating-point formats (06). -/
namespace Sys2Proof.Machine

/-- Round a quotient to the nearest integer, ties to even; den > 0. -/
def rneDiv (num den : Nat) : Nat :=
  let q := num / den
  let r := num % den
  if 2 * r < den then q else if den < 2 * r then q + 1 else q + q % 2

/-- Round a signed quotient to the nearest integer, ties to even. -/
def rneDivI (num : Int) (den : Nat) : Int :=
  if num < 0 then - (rneDiv num.natAbs den : Int) else (rneDiv num.natAbs den : Int)

/-- ⌊log2(num / den)⌋ for num, den > 0. -/
def flog2 (num den : Nat) : Int :=
  let e : Int := (num.log2 : Int) - (den.log2 : Int)
  if e < 0 then (if num * 2 ^ e.natAbs < den then e - 1 else e)
  else (if num < den * 2 ^ e.natAbs then e - 1 else e)

/-- A binary floating-point format: exponent bits, mantissa bits, largest exponent of a finite number and the mantissa
of the largest finite number. -/
structure FpFmt where
  eb   : Nat
  mb   : Nat
  emax : Int
  mmax : Nat

def FpFmt.bias (f : FpFmt) : Int := (2 ^ (f.eb - 1) : Nat) - 1
def FpFmt.width (f : FpFmt) : Nat := 1 + f.eb + f.mb

/-- The largest finite magnitude's encoding. -/
def FpFmt.maxEnc (f : FpFmt) : Nat := (f.emax + f.bias).toNat * 2 ^ f.mb + f.mmax

/-- Encode a magnitude num / den by round-to-nearest-even, saturating at the largest finite number. -/
def FpFmt.encMag (f : FpFmt) (num den : Nat) : Nat :=
  if num = 0 then 0
  else
    let e := max (flog2 num den) (1 - f.bias)
    let p : Int := e - f.mb
    let q := if p < 0 then rneDiv (num * 2 ^ p.natAbs) den else rneDiv num (den * 2 ^ p.natAbs)
    -- q < 2^(mb+1), or exactly that after a carry
    let enc := if q < 2 ^ f.mb then q else (e + f.bias).toNat * 2 ^ f.mb + (q - 2 ^ f.mb)
    min enc f.maxEnc

/-- Encode a signed rational. -/
def FpFmt.enc (f : FpFmt) (num : Int) (den : Nat) : Nat :=
  (if num < 0 then 2 ^ (f.eb + f.mb) else 0) + f.encMag num.natAbs den

/-- FP16 (IEEE binary16), saturating. -/
def fp16 : FpFmt := { eb := 5, mb := 10, emax := 15, mmax := 1023 }
/-- BF16. -/
def bf16 : FpFmt := { eb := 8, mb := 7, emax := 127, mmax := 127 }
/-- FP32 (IEEE binary32). -/
def fp32 : FpFmt := { eb := 8, mb := 23, emax := 127, mmax := 2 ^ 23 - 1 }

/-- The exact value of a finite encoding, as numerator and denominator; infinities and NaNs are the caller's. -/
def FpFmt.val (f : FpFmt) (x : Nat) : Int × Nat :=
  let m := x % 2 ^ f.mb
  let e := x / 2 ^ f.mb % 2 ^ f.eb
  let mag : Nat := if e = 0 then m else m + 2 ^ f.mb
  let p : Int := (if e = 0 then 1 else (e : Int)) - f.bias - f.mb
  let sg : Int := if x / 2 ^ (f.eb + f.mb) % 2 = 1 then -1 else 1
  if p < 0 then (sg * mag, 2 ^ p.natAbs) else (sg * ((mag * 2 ^ p.natAbs : Nat) : Int), 1)

/-- All-ones exponent: an infinity or a NaN (IEEE formats). -/
def FpFmt.special (f : FpFmt) (x : Nat) : Bool := x / 2 ^ f.mb % 2 ^ f.eb = 2 ^ f.eb - 1
/-- A NaN. -/
def FpFmt.isNan (f : FpFmt) (x : Nat) : Bool := f.special x && decide (x % 2 ^ f.mb ≠ 0)

end Sys2Proof.Machine
end

