-- ==== Sys2Proof/Machine/Expo.lean ====
section
/-! DEFINITION. Requantisation (R157) and the exponent unit (R163, R164), computed exactly. -/
namespace Sys2Proof.Machine

/-- Saturate to a range. -/
def satI (lo hi x : Int) : Int := max lo (min hi x)

/-- Range of an integer format (Table 6.1): 0 INT2, 1 INT4, 2 INT8, 3 UINT8, 4 INT16, 5 INT32. -/
def fmtRange (f : Nat) : Int × Int :=
  match f with
  | 0 => (-2, 1) | 1 => (-8, 7) | 2 => (-128, 127) | 3 => (0, 255) | 4 => (-32768, 32767) | _ => (-2147483648, 2147483647)

/-- Saturate to an integer format. -/
def satFmt (f : Nat) (x : Int) : Int := satI (fmtRange f).1 (fmtRange f).2 x

/-- a · m / 2^sh, rounded half to even, before saturation (R157). -/
def requantRaw (a : Int) (m sh : Nat) : Int := rneDivI (a * m) (2 ^ sh)

/-- The nearest integer to 2^(e / 1024), for 0 ≤ e < 1024 · 32, by its bits from the top: the greatest n with (2n − 1)^1024 ≤ 2^(e + 1024). -/
def root1024 (e : Nat) : Nat :=
  ((List.range 33).reverse).foldl (fun n i => if (2 * (n + 2 ^ i) - 1) ^ 1024 ≤ 2 ^ (e + 1024) then n + 2 ^ i else n) 0

/-- TBL[f] of R163. -/
def expoTbl (f : Nat) : Nat := root1024 (15 * 1024 - f)

/-- The value of an age: TBL and n, none where it is zero (R163). -/
def expo (age tau : Nat) : Option (Nat × Nat) :=
  if 15 * tau ≤ age then none
  else
    let e10 := (age * 1024 + tau / 2) / tau
    if 15 ≤ e10 / 1024 then none else some (expoTbl (e10 % 1024), e10 / 1024)

/-- The exponent unit's output (R164): 0 Q1.7, 1 Q1.14. -/
def expoFix (xfmt age tau : Nat) : Nat :=
  match expo age tau with
  | none => 0
  | some (t, n) => rneDiv t (2 ^ (if xfmt = 0 then n + 8 else n + 1))

/-- The exponent unit's output in FP16 (R164). -/
def expoFp16 (age tau : Nat) : Nat :=
  match expo age tau with
  | none => 0
  | some (t, n) => fp16.encMag t (2 ^ (15 + n))

/-- SCALE of R174: 2^(e10 / 1024) rounded once to FP32. -/
def scaleFp32 (e10 : Nat) : Nat :=
  let m := root1024 (23 * 1024 + e10 % 1024)
  (e10 / 1024 + 127) * 2 ^ 23 + (m - 2 ^ 23)

end Sys2Proof.Machine
end

