-- ==== Sys2Proof/Machine/Mem.lean ====
section
/-! DEFINITION. Bytes in QSP and DRAM: little-endian values, packed elements (R151), and the locations that descriptors name. -/
namespace Sys2Proof.Machine

/-- n bytes at an address. -/
def bytesAt (m : SMap (BitVec 8)) (a n : Nat) : List (BitVec 8) := (List.range n).map (fun i => SMap.get 0 m (a + i))
/-- The little-endian value of bytes. -/
def leVal (l : List (BitVec 8)) : Nat := packLE (l.map (fun b => (b.toNat, 1)))
/-- A value as n little-endian bytes. -/
def leBytes (n v : Nat) : List (BitVec 8) := (List.range n).map (fun i => BitVec.ofNat 8 (v / 256 ^ i))
/-- A little-endian 64-bit word at an address. -/
def wordAt (m : SMap (BitVec 8)) (a : Nat) : BitVec 64 := BitVec.ofNat 64 (leVal (bytesAt m a 8))
/-- 64-bit words of bytes. -/
def wordsOf : Nat → List (BitVec 8) → List (BitVec 64)
  | 0, _ => []
  | n + 1, l => if l.isEmpty then [] else BitVec.ofNat 64 (leVal (l.take 8)) :: wordsOf n (l.drop 8)

/-- The DRAM address of an offset in a slipcase's window, none where it has no such window. -/
def State.winAddr (s : State) (slip win off : Nat) : Option Nat :=
  ((s.slip slip).rules.find? (fun w => w.win = win)).map (fun w => w.base + off)

/-- A location as descriptors encode it (Table 7.2): a QSP address in [19:0], or a DRAM window in [51:40] and offset in [39:0]. -/
structure Loc where
  dram : Bool
  enc  : Nat

/-- Read n bytes at an offset of a location; QSP is that of the first of the quires. QSP addresses have 20 bits (R120). -/
def State.locGet (s : State) (slip : Nat) (qs : List Nat) (l : Loc) (off n : Nat) : List (BitVec 8) :=
  if l.dram then
    match s.winAddr slip (bitsN l.enc 51 40) (bitsN l.enc 39 0 + off) with
    | some a => bytesAt s.dram a n
    | none => List.replicate n 0
  else (List.range n).map (fun i => SMap.get 0 (s.quire (qs.headD 0)).qsp ((l.enc + off + i) % 2 ^ 20))

/-- Write bytes at an offset of a location: in the QSP of each of the quires, or in DRAM. -/
def State.locPut (s : State) (slip : Nat) (qs : List Nat) (l : Loc) (off : Nat) (b : List (BitVec 8)) : State :=
  if l.dram then
    match s.winAddr slip (bitsN l.enc 51 40) (bitsN l.enc 39 0 + off) with
    | some a => { s with dram := SMap.putAll 0 s.dram a b }
    | none => s
  else qs.foldl (fun s q => s.modQuire q (fun x => { x with qsp := SMap.putAll 0 x.qsp ((l.enc + off) % 2 ^ 20) b })) s

/-- A request of n bytes at the start of a location passes the check of its chip-level unit (R402). -/
def State.locOk (s : State) (slip : Nat) (l : Loc) (n : Nat) (write : Bool) : Bool :=
  !l.dram || (s.slip slip).rules.any (fun w => decide (w.win = bitsN l.enc 51 40) && (if write then w.wr else w.rd) && decide (bitsN l.enc 39 0 + n ≤ w.size))

/-- Element i of a run of w-bit elements, as an unsigned number (R151). -/
def State.locElem (s : State) (slip : Nat) (qs : List Nat) (l : Loc) (w i : Nat) : Nat :=
  if 8 ≤ w then leVal (s.locGet slip qs l (i * (w / 8)) (w / 8))
  else bitsN (leVal (s.locGet slip qs l (i * w / 8) 1)) (w * (i % (8 / w)) + w - 1) (w * (i % (8 / w)))

end Sys2Proof.Machine
end

