-- ==== Sys2Proof/Machine/Float.lean ====
section
/-! DEFINITION. Floating-point values and their operations, each exact and rounded once (R152–R162), and the DPP's exp and σ (R224). -/
namespace Sys2Proof.Machine

/-- A value: NaN, an infinity, or a signed rational n / d, whose sign shows also where it is zero (R153). -/
inductive FV where
  | nan
  | inf (neg : Bool)
  | num (neg : Bool) (n d : Nat)
deriving DecidableEq, Repr

def FV.ofInt (i : Int) : FV := .num (decide (i < 0)) i.natAbs 1
/-- The signed numerator. -/
def sgnNum (neg : Bool) (n : Nat) : Int := if neg then -(n : Int) else n
def FV.isZero : FV → Bool
  | .num _ n _ => decide (n = 0)
  | _ => false

/-- Exact sum: ∞ − ∞ is NaN; a zero sum is −0 only of two negative zeros. -/
def FV.add : FV → FV → FV
  | .nan, _ => .nan
  | _, .nan => .nan
  | .inf a, .inf b => if a = b then .inf a else .nan
  | .inf a, _ => .inf a
  | _, .inf b => .inf b
  | .num s n d, .num t m e =>
    let v := sgnNum s (n * e) + sgnNum t (m * d)
    if v = 0 then .num (s && t && decide (n = 0)) 0 1 else .num (decide (v < 0)) v.natAbs (d * e)

def FV.neg : FV → FV
  | .nan => .nan
  | .inf a => .inf !a
  | .num s n d => .num (!s) n d

/-- Exact product: 0 × ∞ is NaN. -/
def FV.mul : FV → FV → FV
  | .nan, _ => .nan
  | _, .nan => .nan
  | .inf a, .inf b => .inf (a != b)
  | .inf a, .num t m _ => if m = 0 then .nan else .inf (a != t)
  | .num s n _, .inf b => if n = 0 then .nan else .inf (s != b)
  | .num s n d, .num t m e => .num (s != t) (n * m) (d * e)

/-- Exact quotient: 0 / 0 and ∞ / ∞ are NaN, x / 0 is an infinity. -/
def FV.div : FV → FV → FV
  | .nan, _ => .nan
  | _, .nan => .nan
  | .inf _, .inf _ => .nan
  | .inf a, .num t _ _ => .inf (a != t)
  | .num s _ _, .inf b => .num (s != b) 0 1
  | .num s n d, .num t m e => if m = 0 then (if n = 0 then .nan else .inf (s != t)) else .num (s != t) (n * e) (d * m)

/-- a < b; false where a NaN is involved (R225). -/
def FV.lt : FV → FV → Bool
  | .nan, _ => false
  | _, .nan => false
  | .inf a, .inf b => a && !b
  | .inf a, _ => a
  | _, .inf b => !b
  | .num s n d, .num t m e => decide (sgnNum s (n * e) < sgnNum t (m * d))
def FV.le (a b : FV) : Bool := a.lt b || (match a, b with
  | .inf x, .inf y => x = y
  | .num s n d, .num t m e => decide (sgnNum s (n * e) = sgnNum t (m * d))
  | _, _ => false)
def FV.max (a b : FV) : FV := if a.lt b then b else a
def FV.min (a b : FV) : FV := if b.lt a then b else a

/-! ## Formats (Tables 6.1 and 6.2) -/

def fE4M3 : FpFmt := { eb := 4, mb := 3, emax := 8, mmax := 6 }
def fE5M2 : FpFmt := { eb := 5, mb := 2, emax := 15, mmax := 3 }
def fE2M1 : FpFmt := { eb := 2, mb := 1, emax := 2, mmax := 1 }

/-- The floating-point format of a FMT code, with whether it has infinities. -/
def fmtFp (f : Nat) : Option (FpFmt × Bool) :=
  match f with
  | 6 => some (fE4M3, false) | 7 => some (fE5M2, true) | 8 => some (fp16, true) | 9 => some (bf16, true) | 0xA => some (fp32, true)
  | _ => none

/-- Bits of an element. -/
def fmtBits (f : Nat) : Nat :=
  match f with
  | 0 => 2 | 1 => 4 | 2 => 8 | 3 => 8 | 4 => 16 | 5 => 32 | 6 => 8 | 7 => 8 | 8 => 16 | 9 => 16 | 0xA => 32 | 0xB => 4 | 0xC => 8 | _ => 16
/-- A floating-point format: FP8 to MXINT8. -/
def fmtFloat (f : Nat) : Bool := decide (6 ≤ f ∧ f ≤ 0xC)
/-- A microscaling format. -/
def fmtMx (f : Nat) : Bool := f = 0xB || f = 0xC

/-- A finite encoding's value. -/
def FpFmt.fv (m : FpFmt) (x : Nat) : FV := let v := m.val x; .num (x.testBit (m.eb + m.mb)) v.1.natAbs v.2

/-- An element's value; an MX element's is without its scale. -/
def fmtDec (f x : Nat) : FV :=
  match f with
  | 3 => .ofInt x
  | 0xB => fE2M1.fv x
  | 0xC => let i := sext 8 x; .num (decide (i < 0)) i.natAbs 64
  | _ =>
    match fmtFp f with
    | none => .ofInt (sext (fmtBits f) x)
    | some (m, hasInf) =>
      let mag := x % 2 ^ (m.eb + m.mb)
      if !hasInf then (if mag = 2 ^ (m.eb + m.mb) - 1 then .nan else m.fv x)
      else if m.isNan x then .nan
      else if m.special x then .inf (x.testBit (m.eb + m.mb))
      else m.fv x

/-- The value of an E8M0 scale (R159, R160). -/
def e8m0 (x : Nat) : FV := if x = 0xFF then .nan else if x < 127 then .num false 1 (2 ^ (127 - x)) else .num false (2 ^ (x - 127)) 1

/-- The canonical NaN of a format (R153). -/
def nanOf (f : Nat) : Nat := match f with | 6 => 0x7F | 7 => 0x7E | 8 => 0x7E00 | 9 => 0x7FC0 | _ => 0x7FC00000

/-- Convert to a floating-point format, rounded once and saturated (R154, R155). -/
def fpEnc (f : Nat) (m : FpFmt) (hasInf : Bool) (v : FV) : Nat :=
  match v with
  | .nan => nanOf f
  | .inf s => s.toNat * 2 ^ (m.eb + m.mb) + (if hasInf then (2 ^ m.eb - 1) * 2 ^ m.mb else m.maxEnc)
  | .num s n d => s.toNat * 2 ^ (m.eb + m.mb) + m.encMag n d

/-- Round to an integer and saturate to a range (Table 6.3). -/
def FV.toInt (lo hi : Int) : FV → Int
  | .nan => 0
  | .inf s => if s then lo else hi
  | .num s n d => satI lo hi (sgnNum s (rneDiv n d))

/-- Convert a value to a format other than MX: its bits. -/
def fmtEnc (f : Nat) (v : FV) : Nat :=
  match fmtFp f with
  | some (m, i) => fpEnc f m i v
  | none => unsig (fmtBits f) (v.toInt (fmtRange f).1 (fmtRange f).2)

/-- Rounded once to FP32, as a value. -/
def FV.r32 (v : FV) : FV := fmtDec 0xA (fpEnc 0xA fp32 true v)

/-- The block conversion of R162: elements and scale. Under the NaN scale the elements are left open. -/
def mxBlock (f : Nat) (vs : List FV) : List Nat × Nat :=
  if vs.any (fun v => match v with | .num _ _ _ => false | _ => true) then
    (vs.mapIdx (fun i v => Config.mxNanElem f i (fpEnc 0xA fp32 true v) % 2 ^ fmtBits f), 0xFF)
  else
    let mags := vs.filterMap (fun v => match v with | .num _ n d => if n = 0 then none else some (n, d) | _ => none)
    let m := mags.foldl (fun a b => if a.1 * b.2 < b.1 * a.2 then b else a) (0, 1)
    if m.1 = 0 then (vs.map (fun _ => 0), 0)
    else
      let e := satI (-127) 127 (flog2 m.1 m.2 - (if f = 0xB then 2 else 0))
      let x := (e + 127).toNat
      let enc := fun (v : FV) =>
        let q := v.div (e8m0 x)
        if f = 0xB then fpEnc 0xB fE2M1 false q
        else unsig 8 (FV.toInt (-128) 127 (q.mul (.num false 64 1)))
      (vs.map enc, x)

/-! ## exp and σ (R224) -/

/-- Taylor's sum of e^r for a fixed-point r with 2^-256 units. -/
def expTaylor (r : Int) : Nat → Nat → Int → Int → Int
  | 0, _, _, acc => acc
  | n + 1, k, term, acc => let t := term * r / (2 ^ 256 * k); expTaylor r n (k + 1) t (acc + t)

/-- e^(n / d) in units of 2^-256, for |n / d| ≤ 128. -/
def expFix (n : Int) (d : Nat) : Int :=
  let r := n * 2 ^ 256 / (d * 65536 : Nat)
  (List.range 16).foldl (fun (x : Int) _ => x * x / 2 ^ 256) (expTaylor r 24 1 (2 ^ 256) (2 ^ 256))

/-- An FP32 encoding moved by u − 2 ulp, u modulo 5, not below 0 nor past the largest finite. -/
def ulpMove (x u : Nat) : Nat := min (x + u % 5 - min 2 (x + u % 5)) fp32.maxEnc

/-- exp of an FP32 value, within 2 ulp. -/
def expFp32 : FV → FV
  | .nan => .nan
  | .inf s => if s then .num false 0 1 else .inf false
  | .num s n d =>
    let near := if 128 * d < n then (if s then 0 else fp32.maxEnc) else fp32.encMag (expFix (sgnNum s n) d).toNat (2 ^ 256)
    fmtDec 0xA (ulpMove near (Config.expUlp (fpEnc 0xA fp32 true (.num s n d))))

/-- σ of an FP32 value, within 2 ulp. -/
def sigmoidFp32 : FV → FV
  | .nan => .nan
  | .inf s => .num false (if s then 0 else 1) 1
  | .num s n d =>
    let near := if 128 * d < n then (if s then 0 else 0x3F800000)
      else fp32.encMag (2 ^ 256) (2 ^ 256 + (expFix (- sgnNum s n) d).toNat)
    fmtDec 0xA (ulpMove near (Config.sigmoidUlp (fpEnc 0xA fp32 true (.num s n d))))

end Sys2Proof.Machine
end

