-- ==== Sys2Proof/Machine/Pins.lean ====
section
/-! DEFINITION. The GPIO pins (R556): what serves each one. -/
namespace Sys2Proof.Machine

/-- What is configured on a pin: 1 a general output, 2 + n the hold signal of Hopper n, 32 + f the trigger of fetch f. -/
def State.gpioNames (s : State) (f p : Nat) : Bool :=
  if f = 1 then (s.reg (xioB + 0x3C8)).getLsbD p
  else if f < 18 then
    let c := s.reg (hopB (f - 2) + 0x30)
    c.getLsbD 15 && decide (fld c 13 8 = p)
  else
    let e := SMap.get 0 s.ascu.fetch (f - 32)
    e.testBit 63 && decide (bitsN e 60 59 = 1 ∧ bitsN e 56 51 = p)

/-- A pin serves the one configured first (R556). -/
def State.gpioServes (s : State) (f p : Nat) : Bool := ((SMap.get [] s.xio.gpio p).filter (fun x => s.gpioNames x p)).head? = some f

/-- Enter what a function's configuration now names; a pin that something else names already sets CFG_CONFLICT. -/
def State.gpioUpdate (s : State) (f : Nat) : State :=
  (List.range 64).foldl (fun s p =>
    let l := (SMap.get [] s.xio.gpio p).filter (fun x => s.gpioNames x p)
    if s.gpioNames f p ∧ !l.contains f then
      let s : State := { s with xio := { s.xio with gpio := SMap.put [] s.xio.gpio p (l ++ [f]) } }
      if l.isEmpty then s else s.orReg (xioB + 4) 0x10
    else { s with xio := { s.xio with gpio := SMap.put [] s.xio.gpio p l } }) s

/-- The level at a pin that the block drives; none where it is an input. -/
def State.gpioLevel (s : State) (p : Nat) : Option Bool :=
  match ((SMap.get [] s.xio.gpio p).filter (fun x => s.gpioNames x p)).head? with
  | some f =>
    if f = 1 then some ((s.reg (xioB + 0x3C0)).getLsbD p)
    else if f < 18 then some ((s.hop (f - 2)).hold == (s.reg (hopB (f - 2) + 0x30)).getLsbD 14)
    else none
  | none => none

/-- Drive a pin: 0, 1, or 2 for an input. -/
def State.gpioDrive (s : State) (p : Nat) : State :=
  s.emit .pin [100 + p] [match s.gpioLevel p with | some b => b.toNat | none => 2]

end Sys2Proof.Machine
end

