-- ==== Sys2Proof/Machine/DLayer.lean ====
section
/-! DEFINITION. Delta layer descriptors (Tables 7.2, 7.3), the geometry of their operations, and the records of the state banks
(R177, Table 7.4) where the descriptors place them. -/
namespace Sys2Proof.Machine

/-- A descriptor: eight 64-bit words. -/
abbrev Desc64 := List (BitVec 64)

/-- Bits [hi:lo] of word w of a descriptor. -/
def lf (l : Desc64) (w hi lo : Nat) : Nat := bitsN ((l[w]?).getD 0).toNat hi lo

/-! ## Fields of a delta layer descriptor (Table 7.2) -/

def dlOp (l : Desc64) : Nat := lf l 0 63 60
def dlAct (l : Desc64) : Nat := lf l 0 59 58
def dlGrind (l : Desc64) : Nat := lf l 0 57 54
def dlGrindMax (l : Desc64) : Nat := lf l 0 53 50
def dlLayer (l : Desc64) : Nat := lf l 0 49 44
def dlSrcA (l : Desc64) : Nat := lf l 0 43 38
def dlSrcB (l : Desc64) : Nat := lf l 0 37 32
def dlAFmt (l : Desc64) : Nat := lf l 0 31 28
def dlWFmt (l : Desc64) : Nat := lf l 0 27 24
def dlOutFmt (l : Desc64) : Nat := lf l 0 23 20
def dlReadPoint (l : Desc64) : Bool := lf l 0 19 19 = 1
def dlW (l : Desc64) : Nat := lf l 1 63 52 + 1
def dlH (l : Desc64) : Nat := lf l 1 51 40 + 1
def dlC (l : Desc64) : Nat := lf l 1 39 28 + 1
def dlCin (l : Desc64) : Nat := lf l 1 27 16 + 1
def dlKW (l : Desc64) : Nat := lf l 1 15 13 + 1
def dlKH (l : Desc64) : Nat := lf l 1 12 10 + 1
def dlSX (l : Desc64) : Nat := lf l 1 9 8 + 1
def dlSY (l : Desc64) : Nat := lf l 1 7 6 + 1
def dlDX (l : Desc64) : Nat := lf l 1 5 4 + 1
def dlDY (l : Desc64) : Nat := lf l 1 3 2 + 1
def dlMult (l : Desc64) : Nat := lf l 2 63 48
def dlShift (l : Desc64) : Nat := lf l 2 47 42
def dlMultN (l : Desc64) : Nat := lf l 2 41 26
def dlPadL (l : Desc64) : Nat := lf l 2 25 23
def dlPadT (l : Desc64) : Nat := lf l 2 22 20
def dlBand (l : Desc64) : Nat := lf l 2 19 8 + 1
def dlWA (l : Desc64) : Int := sext 16 (lf l 3 63 48)
def dlWB (l : Desc64) : Int := sext 16 (lf l 3 47 32)
def dlMultiplier (l : Desc64) : Nat := lf l 3 63 56
def dlWeights (l : Desc64) : Loc := { dram := lf l 0 17 17 = 1, enc := lf l 4 63 0 }
/-- State bank A (0) or B (1). -/
def dlBank (l : Desc64) (b : Nat) : Loc := { dram := lf l 0 18 18 = 1, enc := lf l (5 + b) 63 0 }
def dlReadPeriod (l : Desc64) : Nat := lf l 7 63 32
def dlReadChan (l : Desc64) : Nat := lf l 7 31 24
/-- The INPUT layer's PARAM (Table 7.3): modes 0 UNSIGNED, 1 SIGNED, 2 SPLIT. -/
def dlInMode (l : Desc64) : Nat := lf l 3 63 62
def dlXfmt (l : Desc64) : Nat := lf l 3 61 60
def dlRegion (l : Desc64) : Nat := lf l 3 59 56
def dlG (l : Desc64) : Nat := lf l 3 55 40
def dlLogCap (l : Desc64) : Nat := 2 ^ lf l 3 39 35
/-- Groups of 16 channels. -/
def dlNG (l : Desc64) : Nat := (dlC l + 15) / 16
/-- Bits of a weight. -/
def dlWBits (l : Desc64) : Nat := 2 * 2 ^ dlWFmt l
/-- Bytes of an element of OUT_FMT. -/
def dlOutBytes (l : Desc64) : Nat := if dlOutFmt l = 4 then 2 else 1

/-! ## Geometry -/

/-- The layers of a graph's delta part by index. -/
def Delta.layer (d : Delta) (l : Nat) : Desc64 := (d.layers[l]?).getD []

/-- Layers that name a layer as a source. -/
def Delta.users (d : Delta) (l : Nat) : List Nat :=
  (List.range d.layers.length).filter (fun m => decide (0 < m) && (dlSrcA (d.layer m) = l || (dlOp (d.layer m) = 7 && dlSrcB (d.layer m) = l)))

/-- Output places along one axis that take input place x at a tap: kernel size, stride, dilation, padding and output size. -/
def reach1 (k s dil pad out x : Nat) : List (Nat × Nat) :=
  (List.range k).filterMap (fun t =>
    if t * dil ≤ x + pad ∧ (x + pad - t * dil) % s = 0 ∧ (x + pad - t * dil) / s < out then some ((x + pad - t * dil) / s, t) else none)

/-- Columns and taps, and rows and taps, of a layer's windows that hold a position (R179). -/
def reachX (l : Desc64) (x : Nat) : List (Nat × Nat) := reach1 (dlKW l) (dlSX l) (dlDX l) (dlPadL l) (dlW l) x
def reachY (l : Desc64) (y : Nat) : List (Nat × Nat) := reach1 (dlKH l) (dlSY l) (dlDY l) (dlPadT l) (dlH l) y

/-- Input positions of the window of an output place along one axis that lie inside the input, with their taps. -/
def window1 (k s dil pad size o : Nat) : List (Nat × Nat) :=
  (List.range k).filterMap (fun t => if pad ≤ o * s + t * dil ∧ o * s + t * dil - pad < size then some (o * s + t * dil - pad, t) else none)

/-! ## Quires and records -/

/-- Quires, with partners of a PAIRED contract, by index within the placement. -/
def Graph.quireOf (g : Graph) (i : Nat) : List Nat := ((g.quires[i]?).toList) ++ ((g.partners[i]?).toList)

/-- The quires that hold an output row of a layer (R178). -/
def Graph.rowQuires (g : Graph) (d : Delta) (l y : Nat) : List Nat :=
  g.quireOf ((((d.bands[l]?).getD [])[y / dlBand (d.layer l)]?).getD 0)

/-- The quire that counts for a row. -/
def Graph.rowQuire (g : Graph) (d : Delta) (l y : Nat) : Nat := (g.rowQuires d l y).headD 0

/-- Offset of the record that holds channel c of (x, y), and of an input record of a MAXPOOL layer (Table 7.4). -/
def Delta.recOff (d : Delta) (l x y c : Nat) : Nat :=
  let e := d.layer l
  let a := d.layer (dlSrcA e)
  (if dlOp e = 5 then dlW a * dlH a * dlNG e * 96 else 0) + ((y * dlW e + x) * dlNG e + c / 16) * 96
def Delta.inOff (d : Delta) (l x y c : Nat) : Nat := ((y * dlW (d.layer (dlSrcA (d.layer l))) + x) * dlNG (d.layer l) + c / 16) * 96

/-- A word of a record: read as INT32, and written modulo 2^32. -/
def State.getI32 (s : State) (slip : Nat) (qs : List Nat) (l : Loc) (off : Nat) : Int := sext 32 (leVal (s.locGet slip qs l off 4))
def State.putI32 (s : State) (slip : Nat) (qs : List Nat) (l : Loc) (off : Nat) (v : Int) : State := s.locPut slip qs l off (leBytes 4 (unsig 32 v))

/-- Y_SENT of an element, in OUT_FMT. -/
def State.getSent (s : State) (slip : Nat) (qs : List Nat) (l : Loc) (e : Desc64) (off c : Nat) : Int :=
  let n := dlOutBytes e
  let v := leVal (s.locGet slip qs l (off + 64 + c % 16 * n) n)
  if dlOutFmt e = 3 then v else sext (8 * n) v
def State.putSent (s : State) (slip : Nat) (qs : List Nat) (l : Loc) (e : Desc64) (off c : Nat) (v : Int) : State :=
  let n := dlOutBytes e
  s.locPut slip qs l (off + 64 + c % 16 * n) (leBytes n (unsig (8 * n) v))

/-- An INPUT entry (Table 7.4): POL, AGE (0x7FFF where there is no event) and X_SENT. -/
structure InEntry where
  pol : Bool
  age : Nat
  x   : Int

def State.getEntry (s : State) (g : Graph) (d : Delta) (b x y : Nat) : InEntry :=
  let e := d.layer 0
  let v := leVal (s.locGet g.slip (g.rowQuires d 0 y) (dlBank e b) ((y * dlW e + x) * 4) 4)
  { pol := v.testBit 31, age := bitsN v 30 16, x := if dlInMode e = 1 then sext 16 v else (v % 2 ^ 16 : Nat) }

def State.putEntry (s : State) (g : Graph) (d : Delta) (b x y : Nat) (i : InEntry) : State :=
  let e := d.layer 0
  s.locPut g.slip (g.rowQuires d 0 y) (dlBank e b) ((y * dlW e + x) * 4) (leBytes 4 (i.pol.toNat * 2 ^ 31 + min i.age 0x7FFF * 2 ^ 16 + unsig 16 i.x))

/-- The value of an entry's age and polarity, signed in SIGNED mode (R164, R173). -/
def inValue (e : Desc64) (pol : Bool) (age tau : Nat) : Int :=
  let v := expoFix (dlXfmt e) age tau
  if dlInMode e = 1 ∧ !pol then - (v : Int) else v

/-- Input channels from a polarity and the value held for it (R173). -/
def inChans (e : Desc64) (pol : Bool) (x : Int) : List Int :=
  if dlInMode e = 2 then (if pol then [x, 0] else [0, x]) else [x]

def Delta.bank (d : Delta) (b : Nat) : DBank := if b = 0 then d.bankA else d.bankB
def Delta.modBank (d : Delta) (b : Nat) (f : DBank → DBank) : Delta := if b = 0 then { d with bankA := f d.bankA } else { d with bankB := f d.bankB }
/-- Ticks below this are settled by a layer in a bank. -/
def DBank.settledTo (b : DBank) (l : Nat) : Nat := SMap.get b.base b.settled l

def State.modDelta (s : State) (g : Nat) (f : Delta → Delta) : State := s.modGraph g (fun x => { x with delta := x.delta.map f })

end Sys2Proof.Machine
end

