-- ==== Sys2Proof/Machine/Surface.lean ====
section
/-! DEFINITION. Surfaces, corners and flow (04): DT16 entries, epochs and generations, the pre-tick view, the Corner and
Flow Units, and the commands and events of their family. -/
namespace Sys2Proof.Machine

/-! ## Settings -/

/-- HOP_CTL.EN and PAIR of a port. -/
def State.hopEn (s : State) (n : Nat) : Bool := (s.reg (hopB n)).getLsbD 0
/-- Ports 2k and 2k + 1 form a pair (R75). -/
def State.paired (s : State) (n : Nat) : Bool := (s.reg (hopB (n / 2 * 2))).getLsbD 1
/-- The port whose settings govern a port (R75). -/
def State.cfgPort (s : State) (n : Nat) : Nat := if s.paired n then n / 2 * 2 else n
/-- Sensor width and height (HOP_GEOM). -/
def State.geomW (s : State) (n : Nat) : Nat := s.rfld (hopB (s.cfgPort n) + 8) 11 0 + 1
def State.geomH (s : State) (n : Nat) : Nat := s.rfld (hopB (s.cfgPort n) + 8) 27 16 + 1

/-- SFM_SURF_CFG fields of the region that governs (R93). -/
def State.surfEn (s : State) (r : Nat) : Bool := (s.reg (sfmP (s.cfgPort r))).getLsbD 31
def State.surfD (s : State) (r : Nat) : Nat := s.rfld (sfmP (s.cfgPort r)) 27 20 + 1
def State.surfTau (s : State) (r : Nat) : Nat := s.rfld (sfmP (s.cfgPort r)) 19 8
def State.surfMult (s : State) (r : Nat) : Nat := s.rfld (sfmP (s.cfgPort r)) 30 28 + 1
/-- L = EPOCH_MULT × τ₂. -/
def State.surfL (s : State) (r : Nat) : Nat := s.surfMult r * s.surfTau r
def State.crnEn (s : State) (r : Nat) : Bool := (s.reg (sfmP (s.cfgPort r) + 0x20)).getLsbD 31
def State.flwEn (s : State) (r : Nat) : Bool := (s.reg (sfmP (s.cfgPort r) + 0x28)).getLsbD 31

/-- Absolute surface tick of a system tick (R98); none before ORIGIN. -/
def State.surfTick (s : State) (r k : Nat) : Option Nat :=
  match (s.sfm (s.cfgPort r)).origin with
  | some o => if s.surfEn r ∧ o ≤ k then some ((k - o) / s.surfD r) else none
  | none => none

/-- The epoch base B_e = E_e − 32,766, E_e = (e + 1) L (R99). -/
def epochBase (l e : Nat) : Int := ((e + 1) * l : Nat) - 32766

/-- The epoch that holds a surface tick (R99). -/
def epochOf (l u : Nat) : Nat := if u = 0 ∨ l = 0 then 0 else (u - 1) / l

/-- SFM_SURF_STATUS.HORIZON_SHORT (R102). -/
def State.horizonShort (s : State) (r : Nat) : Bool := decide (32766 < 15 * s.surfTau r + s.surfL r)

/-! ## Placement (R94) -/

/-- The bank and row of a beat. -/
def beatBank (b : Nat) : Nat := (b % 32) ^^^ (b / 32 % 32) ^^^ (b / 1024 % 32) ^^^ (b / 32768 % 4)
def beatRow (b : Nat) : Nat := b / 32

/-- The region and entry index of the pixel at a linear address, from a port of its sensor (R93, R94). -/
def State.place (s : State) (n a : Nat) : Nat × Nat :=
  if s.paired n then (n / 2 * 2 + a / 2097152, a % 2097152) else (n, a)

/-! ## Entries and generations (R100, R101) -/

/-- Stale: TREL = 0x7FFF. -/
def dtStale (v : BitVec 16) : Bool := v.toNat % 2 ^ 15 = 0x7FFF

/-- Conversion of a previous-generation entry by the shift. -/
def dtConvert (shift : Nat) (v : BitVec 16) : BitVec 16 :=
  let t := v.toNat % 2 ^ 15
  if t = 0x7FFF ∨ t < shift then 0x7FFF else v - BitVec.ofNat 16 shift

/-- A beat is of the current generation. -/
def Sfm.current (f : Sfm) (beat : Nat) : Bool :=
  match f.conv with
  | none => true
  | some d => SMap.get false d beat

/-- A beat's generation bit (R101). -/
def Sfm.genBit (f : Sfm) (beat : Nat) : Bool := if f.current beat then f.gen else !f.gen

/-- The entry at an index as a read returns it: converted (R101). -/
def Sfm.stored (f : Sfm) (i : Nat) : BitVec 16 :=
  let v := SMap.get 0x7FFF f.entries i
  if f.current (i / 16) then v else dtConvert f.shift v

/-- A read of an entry: 0x7FFF during the clear (R97). -/
def Sfm.read (f : Sfm) (i : Nat) : BitVec 16 := if f.clearing then 0x7FFF else f.stored i

/-- Convert every entry of a beat and set its generation bit. -/
def Sfm.convertBeat (f : Sfm) (b : Nat) : Sfm :=
  match f.conv with
  | none => f
  | some d =>
    if SMap.get false d b then f
    else
      { f with
        entries := SMap.mapAll 0x7FFF f.entries (fun i v => if i / 16 = b then dtConvert f.shift v else v),
        conv := some (SMap.put false d b true) }

/-- Write an entry: a previous-generation beat is converted first. -/
def Sfm.write (f : Sfm) (i : Nat) (v : BitVec 16) : Sfm :=
  let f := f.convertBeat (i / 16)
  { f with entries := SMap.put 0x7FFF f.entries i v }

/-- Convert every remaining beat: the end of the sweep. -/
def Sfm.sweepAll (f : Sfm) : Sfm :=
  { f with
    entries := SMap.mapAll 0x7FFF f.entries (fun i v => if f.current (i / 16) then v else dtConvert f.shift v),
    conv := none, shift := 0 }

/-- Pass to a new epoch, n epochs on: what is left of the last sweep is converted, every beat becomes a previous-generation
beat, and GEN inverts (R101). -/
def Sfm.toEpoch (f : Sfm) (l n : Nat) : Sfm :=
  let f := f.sweepAll
  { f with epoch := f.epoch + n, shift := n * l, gen := !f.gen, conv := some [], pendEpochs := 0 }

/-- Pass through n single epoch changes. -/
def Sfm.epochs (f : Sfm) (l : Nat) : Nat → Sfm
  | 0 => f
  | n + 1 => (f.toEpoch l 1).epochs l n

/-- The absolute surface tick and polarity an entry holds, none if stale. -/
def Sfm.time (f : Sfm) (l : Nat) (v : BitVec 16) : Option (Int × Bool) :=
  if dtStale v then none else some (epochBase l f.epoch + (v.toNat % 2 ^ 15 : Nat), v.getLsbD 15)

/-! ## Passing of epochs -/

/-- The regions a surface's settings govern: both of a pair (R93). -/
def State.surfRegions (s : State) (r : Nat) : List Nat := if s.paired r then [r / 2 * 2, r / 2 * 2 + 1] else [r]

/-- Change every region a surface governs. -/
def State.modSurf (s : State) (r : Nat) (g : Sfm → Sfm) : State := (s.surfRegions r).foldl (fun s i => s.modSfm i g) s

/-- Bring a surface's epoch up to a system tick (R99): one change for each epoch passed while the quarter is ON; in RETAIN
the changes are accumulated (R101). -/
def State.surfAt (s : State) (r k : Nat) : State :=
  match s.surfTick r k with
  | none => s
  | some u =>
    let l := s.surfL r
    let f := s.sfm (s.cfgPort r)
    let e := epochOf l u
    if s.dom (21 + r / 4) = 2 then s.modSurf r (fun x => x.epochs l (e - f.epoch))
    else s.modSurf r (fun x => { x with pendEpochs := e - f.epoch })

/-! ## The pre-tick view (R104, R105) -/

/-- The time and polarity of the pixel (x, y) as it stood at the start of tick k; none if stale or outside the sensor. -/
def State.view (s : State) (n k : Nat) (x y : Int) : Option (Int × Bool) :=
  if x < 0 ∨ y < 0 ∨ (s.geomW n : Int) ≤ x ∨ (s.geomH n : Int) ≤ y then none
  else
    let a := y.toNat * s.geomW n + x.toNat
    let p := s.place n a
    let f := s.sfm p.1
    match f.rwb.find? (fun w => decide (w.addr = p.2 ∧ k ≤ w.tick)) with
    | some w => w.prior
    | none => f.time (s.surfL n) (f.read p.2)

/-- Drop the records that no evaluation outstanding can need (R105). -/
def State.pruneRwb (s : State) (n : Nat) : State :=
  let f := s.sfm (s.cfgPort n)
  let ts := (f.crnItems ++ f.flwItems).map (·.tick) ++ (s.surfRegions n).flatMap (fun p => (s.hop p).items.map (·.tick) ++ (s.hop p).buf.map (·.tick))
  let m := ts.foldl min s.tim.tick
  s.modSurf n (fun f => { f with rwb := f.rwb.filter (fun w => m ≤ w.tick) })

/-- The view of an item of tick k stands: on a pair, both links have passed stage 8 for every earlier tick (R104). -/
def State.viewReady (s : State) (n k : Nat) : Bool :=
  !s.paired n || (s.surfRegions n).all (fun p => ((s.hop p).items.map (·.tick) ++ (s.hop p).buf.map (·.tick)).all (fun t => decide (k ≤ t)))

/-! ## The Corner Unit (R106) -/

/-- Table 4.3. -/
def ringInner : List (Int × Int) :=
  [(0, -3), (1, -3), (2, -2), (3, -1), (3, 0), (3, 1), (2, 2), (1, 3), (0, 3), (-1, 3), (-2, 2), (-3, 1), (-3, 0), (-3, -1), (-2, -2), (-1, -3)]
def ringOuter : List (Int × Int) :=
  [(0, -4), (1, -4), (2, -3), (3, -2), (4, -1), (4, 0), (4, 1), (3, 2), (2, 3), (1, 4), (0, 4), (-1, 4), (-2, 3), (-3, 2), (-4, 1), (-4, 0),
   (-4, -1), (-3, -2), (-2, -3), (-1, -4)]

/-- Least and greatest of a non-empty list. -/
def minI (l : List Int) (d : Int) : Int := l.foldl min (l.headD d)
def maxI (l : List Int) (d : Int) : Int := l.foldl max (l.headD d)

/-- The gap of the arc of n positions from i: the least time on it minus the greatest of the others. -/
def arcGap (t : List Int) (n i : Nat) : Int :=
  let rot := t.drop i ++ t.take i
  minI (rot.take n) 0 - maxI (rot.drop n) 0

/-- The best arc of a ring: gap, start and length; smallest length, then smallest start, among equals. -/
def bestArc (t : List Int) (lmin lmax : Nat) : Option (Int × Nat × Nat) :=
  let nn := t.length
  (List.range nn).foldl (fun best n =>
    if n = 0 ∨ !((decide (lmin ≤ n ∧ n ≤ lmax)) || decide (lmin ≤ nn - n ∧ nn - n ≤ lmax)) then best
    else (List.range nn).foldl (fun best i =>
      let g := arcGap t n i
      if decide (0 < g) && (match best with | none => true | some b => decide (b.1 < g)) then some (g, i, n) else best) best) none

/-- view_time of R106. -/
def State.crnTime (s : State) (n k : Nat) (u0 : Int) (p0 : Bool) (x y : Int) : Int :=
  let c := s.reg (sfmP (s.cfgPort n) + 0x20)
  let age : Int := s.rfld (sfmP (s.cfgPort n) + 0x24) 31 16
  let old := u0 - age - 1
  match s.view n k x y with
  | none => old
  | some (t, p) => if (c.getLsbD 30 ∧ p ≠ p0) ∨ age < u0 - t then old else t

/-- The event lies within 4 pixels of the sensor edge. -/
def State.nearEdge (s : State) (n : Nat) (i : HItem) : Bool :=
  decide (i.x < 4 ∨ i.y < 4 ∨ s.geomW n ≤ i.x + 4 ∨ s.geomH n ≤ i.y + 4)

/-- Word 0 of a derived record (Tables 4.4, 4.5). -/
def derWord0 (kind : Nat) (i : HItem) : BitVec 64 := BitVec.ofNat 64 (kind * 2 ^ 61) ||| eventWord i

/-- The corner record of an item, if it is a corner (R106, Table 4.4). -/
def State.corner (s : State) (n : Nat) (i : HItem) (u0 : Nat) : Option (BitVec 64 × BitVec 64) :=
  let c := s.reg (sfmP (s.cfgPort n) + 0x20)
  let ts := fun (ring : List (Int × Int)) => ring.map (fun d => s.crnTime n i.tick u0 i.pol ((i.x : Int) + d.1) ((i.y : Int) + d.2))
  match bestArc (ts ringInner) (fld c 23 20) (fld c 27 24) with
  | none => none
  | some bi =>
    match bestArc (ts ringOuter) (fld c 15 12) (fld c 19 16) with
    | none => none
    | some bo =>
      let score := (min bi.1 bo.1).toNat
      if score < s.rfld (sfmP (s.cfgPort n) + 0x24) 15 0 then none
      else some (derWord0 2 i, BitVec.ofNat 64 (min score 0xFFFF * 2 ^ 48 + bi.2.1 * 2 ^ 44 + bi.2.2 * 2 ^ 40 + bo.2.1 * 2 ^ 35 + bo.2.2 * 2 ^ 30))

/-! ## The Flow Unit (R108–R111) -/

/-- Exact sums of a fit: n, Σdx, Σdy, Σdt, Σdx², Σdy², Σdxdy, Σdxdt, Σdydt. -/
structure FlowSums where
  n   : Int := 0
  x   : Int := 0
  y   : Int := 0
  t   : Int := 0
  xx  : Int := 0
  yy  : Int := 0
  xy  : Int := 0
  xt  : Int := 0
  yt  : Int := 0

def flowSums (p : List (Int × Int × Int)) : FlowSums :=
  p.foldl (fun m q =>
    { n := m.n + 1, x := m.x + q.1, y := m.y + q.2.1, t := m.t + q.2.2, xx := m.xx + q.1 * q.1,
      yy := m.yy + q.2.1 * q.2.1, xy := m.xy + q.1 * q.2.1, xt := m.xt + q.1 * q.2.2, yt := m.yt + q.2.1 * q.2.2 }) {}

/-- Determinant of a 3 × 3 matrix. -/
def det3 (a b c d e f g h i : Int) : Int := a * (e * i - f * h) - b * (d * i - f * g) + c * (d * h - e * g)

/-- M_0, M_a, M_b and the determinant of the constant term (R109). -/
def FlowSums.solve (m : FlowSums) : Int × Int × Int × Int :=
  (det3 m.xx m.xy m.x m.xy m.yy m.y m.x m.y m.n, det3 m.xt m.xy m.x m.yt m.yy m.y m.t m.y m.n,
   det3 m.xx m.xt m.x m.xy m.yt m.y m.x m.t m.n, det3 m.xx m.xy m.xt m.xy m.yy m.yt m.x m.y m.t)

/-- Outcome of a fit. -/
inductive FlowOut where
  | few | sing | conf
  | issue (w0 w1 : BitVec 64)
deriving DecidableEq, Repr

/-- One pass of R108's count and R109's fit over points. -/
def flowPass (p : List (Int × Int × Int)) (nmin : Nat) : Option FlowOut × (Int × Int × Int × Int) :=
  let m := (flowSums p).solve
  if p.length < nmin then (some .few, m)
  else if m.1 = 0 ∨ (m.2.1 = 0 ∧ m.2.2.1 = 0) then (some .sing, m)
  else (none, m)

/-- The residual of a point, times M_0. -/
def flowRes (m : Int × Int × Int × Int) (q : Int × Int × Int) : Int := q.2.2 * m.1 - (m.2.1 * q.1 + m.2.2.1 * q.2.1 + m.2.2.2)

/-- The point set P of an item (R108). -/
def State.flowPoints (s : State) (n : Nat) (i : HItem) (u0 : Nat) : List (Int × Int × Int) :=
  let c := s.reg (sfmP (s.cfgPort n) + 0x28)
  let age : Int := s.rfld (sfmP (s.cfgPort n) + 0x2C) 31 16
  let r : Nat := fld c 28 27
  let offs := (List.range (2 * r + 1)).map (fun (a : Nat) => (a : Int) - (r : Int))
  (0, 0, 0) :: (offs.flatMap (fun dy => offs.filterMap (fun dx =>
    if dx = 0 ∧ dy = 0 then none
    else match s.view n i.tick ((i.x : Int) + dx) ((i.y : Int) + dy) with
      | none => none
      | some (t, p) => if (c.getLsbD 30 ∧ p ≠ i.pol) ∨ t - u0 < -age then none else some (dx, dy, t - (u0 : Int)))))

/-- The flow unit's result for an item (R108–R111, Table 4.5). -/
def State.flow (s : State) (n : Nat) (i : HItem) (u0 : Nat) : FlowOut :=
  let c := s.reg (sfmP (s.cfgPort n) + 0x28)
  let nmin := fld c 26 21
  let r := fld c 28 27
  let res : Int := s.rfld (sfmP (s.cfgPort n) + 0x2C) 15 0
  let p1 := s.flowPoints n i u0
  let f1 := flowPass p1 nmin
  match f1.1 with
  | some o => o
  | none =>
    let p2 := if c.getLsbD 29 then p1.filter (fun q => q = (0, 0, 0) ∨ (flowRes f1.2 q).natAbs ≤ res.natAbs * f1.2.1.natAbs) else p1
    let f2 := if c.getLsbD 29 then flowPass p2 nmin else f1
    match f2.1 with
    | some o => o
    | none =>
      let m := f2.2
      let nn : Int := p2.length
      let sse : Int := (p2.map (fun q => flowRes m q * flowRes m q)).foldl (· + ·) 0
      let d : Int := m.1 * m.1 * nn * res * res
      let conf : Nat := if d ≤ sse then 0 else (255 * nn * (d - sse) / (((2 * r + 1) ^ 2 : Nat) * d)).toNat
      if conf < fld c 20 13 then .conf
      else
        let den : Nat := (m.2.1 * m.2.1 + m.2.2.1 * m.2.2.1).natAbs * (s.surfD n * s.tickLen)
        let vx := fp16.enc (m.2.1 * m.1 * 1000000) den
        let vy := fp16.enc (m.2.2.1 * m.1 * 1000000) den
        .issue (derWord0 3 i) (BitVec.ofNat 64 (vx * 2 ^ 48 + vy * 2 ^ 32 + conf % 256 * 2 ^ 24 + p2.length % 64 * 2 ^ 18))

end Sys2Proof.Machine
end

