-- ==== Sys2Proof/Machine/Snap.lean ====
section
/-! DEFINITION. What a region emits (R185, R186, R203–R206): the beginning of rebases and of sampled instants, the boundary contents
of SNAP beats and the samples of slot beats, by first write or by sweep. Emitted contents go where their channel's consumer puts them:
into the INPUT entries of the rebase's target bank (Table 7.6, COPY), and into SAMPLE_BUF. -/
namespace Sys2Proof.Machine

/-! ## Bits beside beats -/

def BeatBits.has (b : BeatBits) (i : Nat) : Bool := decide (b.pos ≤ i ∧ i < b.hi) && !b.done.contains i
def BeatBits.any (b : BeatBits) : Bool := decide (b.pos < b.hi)

/-- Move past beats already emitted. -/
def BeatBits.skip (b : BeatBits) : Nat → BeatBits
  | 0 => b
  | n + 1 => if b.done.contains b.pos then ({ b with pos := b.pos + 1, done := b.done.erase b.pos }).skip n else b

/-- Clear the bit of a beat that has it. -/
def BeatBits.clear (b : BeatBits) (i : Nat) : BeatBits :=
  if i = b.pos then ({ b with pos := b.pos + 1 }).skip b.done.length else { b with done := b.done ++ [i] }

/-! ## Surface arithmetic of a graph (R98, R99, R169) -/

def State.originOf (s : State) (r : Nat) : Nat := (s.sfm (s.cfgPort r)).origin.getD 0
/-- The first system tick of a surface tick. -/
def State.tickOfSurf (s : State) (r u : Nat) : Nat := s.originOf r + u * s.surfD r
/-- The surface tick of a system tick, 0 before ORIGIN. -/
def State.surfOfTick (s : State) (r k : Nat) : Nat := (k - s.originOf r) / s.surfD r
/-- The first surface-tick boundary after a system tick. -/
def State.nextSurf (s : State) (r k : Nat) : Nat := s.tickOfSurf r (s.surfOfTick r k + 1)
/-- E_e and N_e = E_e + G (R169). -/
def State.epochEnd (s : State) (r e : Nat) : Nat := (e + 1) * s.surfL r
def State.anchorOf (s : State) (r g e : Nat) : Nat := s.epochEnd r e + g
/-- The state epoch that serves a surface tick (R169). -/
def State.servingEpoch (s : State) (r g u : Nat) : Nat := (u - g) / s.surfL r

/-- Pixels of the surface that lie in a region (R93), and the linear address of its first. -/
def State.regionPix (s : State) (r : Nat) : Nat :=
  let p := s.geomW r * s.geomH r
  if s.paired r ∧ r % 2 = 1 then p - 2097152 else min p 2097152
def State.regionBase (s : State) (r : Nat) : Nat := if s.paired r ∧ r % 2 = 1 then 2097152 else 0

/-- Every quire of a graph is powered. -/
def State.quiresOn (s : State) (g : Graph) : Bool := g.quires.all (fun q => decide (s.dom (25 + q / 4) = 2))

/-! ## The beginning of a rebase (R185, R190, R191, R588) -/

/-- Trace a phase (Table 19.6). -/
def State.tracePhase (s : State) (g r phase : Nat) : State := s.trace (0x54 + r) (s.graph g).slip 4 [r, phase]

/-- Begin a rebase of a graph at a tick: SNAP bits of every beat of the sensor, the log marked, the target bank fresh. -/
def State.beginRebase (s : State) (g : Nat) (rb : Rebase) : State :=
  match (s.graph g).delta with
  | none => s
  | some d =>
    let r := dlRegion (d.layer 0)
    let s := s.modDelta g (fun d =>
      { (d.modBank rb.bank (fun _ => { anchor := rb.anchor, base := rb.boundary })) with
        reb := some { rb with phase := 1, closed := rb.boundary }, startDue := false,
        old := d.old.filter (fun o => decide (o.1 ≠ rb.bank)) })
    let s := (s.surfRegions r).foldl (fun s i => s.modSfm i (fun f => { f with snap := { hi := (s.regionPix i + 15) / 16 }, snapAt := rb.boundary })) s
    (s.bump (sfmP r + 0x168)).tracePhase g r 1

/-- The bank a rebase builds: A for a start rebase, else the one not in service. -/
def Delta.target (d : Delta) : Nat := match d.service with | some (b, _) => 1 - b | none => 0

/-- Begin a start rebase, or one that restarts as it does, at a boundary (R588). -/
def State.beginStart (s : State) (g : Nat) (kind : RebKind) (boundary : Nat) : State :=
  match (s.graph g).delta with
  | none => s
  | some d =>
    let r := dlRegion (d.layer 0)
    let lead := dlG (d.layer 0)
    let u := s.surfOfTick r boundary
    let j := s.servingEpoch r lead u
    let late := s.epochEnd r j < u
    let s := s.modDelta g (fun d => { d with epoch := epochOf (s.surfL r) u })
    s.beginRebase g { kind := kind, phase := 1, boundary := boundary, bank := d.target, anchor := s.anchorOf r lead (if late then j + 1 else j),
                      notBefore := if late then s.tickOfSurf r (s.anchorOf r lead j) else 0 }

/-- Begin what is due of a graph's rebases at a tick: its start rebase (R588), the new rebase after a failure (R190), the rebase of a new
surface epoch (R185), or the restart of one that is not switched by then (R588). -/
def State.rebaseDue (s : State) (g k : Nat) : State :=
  let x := s.graph g
  match x.delta with
  | none => s
  | some d =>
    let r := dlRegion (d.layer 0)
    let lead := dlG (d.layer 0)
    let bound := s.tickOfSurf r (s.epochEnd r d.epoch + 1)
    if x.state ≠ 1 then s
    else if d.startDue then (if x.startTick ≤ k then s.beginStart g .start x.startTick else s)
    else
      match d.reb with
      | some rb =>
        if rb.phase = 5 then
          (if k < rb.boundary then s
           else if rb.kind = .start then s.beginStart g .start rb.boundary
           else s.beginRebase g { kind := .retry, phase := 1, boundary := rb.boundary, bank := d.target, anchor := rb.anchor })
        else if bound ≤ k ∧ rb.kind ≠ .normal then s.beginStart g rb.kind bound
        else s
      | none =>
        if k < bound then s
        else if !s.quiresOn x then s.modDelta g (fun d => { d with epoch := epochOf (s.surfL r) (s.surfOfTick r k) })
        else
          let s := s.modDelta g (fun d => { d with epoch := d.epoch + 1 })
          s.beginRebase g { kind := .normal, phase := 1, boundary := bound, bank := d.target, anchor := s.anchorOf r lead (d.epoch + 1),
                            switchAt := some (s.tickOfSurf r (s.anchorOf r lead d.epoch)) }

/-- Graphs with a delta part on a surface. -/
def State.deltaOn (s : State) (r : Nat) : Option Nat :=
  (s.graphs.find? (fun e => match e.2.delta with | some d => decide (dlRegion (d.layer 0) = s.cfgPort r) | none => false)).map (·.1)

/-- Emit the boundary contents of a beat (R186): each entry, with its age under the new anchor, becomes an INPUT entry of the target
bank. -/
def State.emitSnap (s : State) (r b : Nat) (first : Bool) : State :=
  let s := s.modSfm r (fun f => { f with snap := f.snap.clear b })
  let s := s.bump (sfmP (s.cfgPort r) + 0x150)
  let s := if first then s.bump (sfmP (s.cfgPort r) + 0x158) else s
  match s.deltaOn r with
  | none => s
  | some g =>
    let x := s.graph g
    match x.delta with
    | none => s
    | some d =>
      match d.reb with
      | none => s
      | some rb =>
        let e := d.layer 0
        let w := s.geomW r
        let tau := s.surfTau r
        (List.range 16).foldl (fun s j =>
          let i := 16 * b + j
          if s.regionPix r ≤ i then s
          else
            let a := s.regionBase r + i
            let ent : InEntry := match (s.sfm r).time (s.surfL r) ((s.sfm r).read i) with
              | none => { pol := false, age := 0x7FFF, x := 0 }
              | some (t, p) => let age := ((rb.anchor : Int) - t).toNat; { pol := p, age := age, x := inValue e p age tau }
            s.putEntry x d rb.bank (a % w) (a / w) ent) s

/-! ## Sampled instants (R201–R206) -/

/-- Fields of a readout layer's descriptor that locate a sample (Tables 8.2, 8.3). -/
def rlOp (l : Desc64) : Nat := lf l 0 63 60
def rlRegion (l : Desc64) : Nat := lf l 3 63 60
def rlY0 (l : Desc64) : Nat := lf l 2 63 52
def rlY1 (l : Desc64) : Nat := lf l 2 51 40
def rlOutChan (l : Desc64) : Nat := lf l 7 63 56

def Readout.layer (d : Readout) (l : Nat) : Desc64 := (d.layers[l]?).getD []
/-- The region a readout part samples, none where it takes virtual frames. -/
def Readout.region (d : Readout) : Option Nat := if rlOp (d.layer 0) = 1 then some (rlRegion (d.layer 0)) else none
def State.modReadout (s : State) (g : Nat) (f : Readout → Readout) : State := s.modGraph g (fun x => { x with readout := x.readout.map f })

/-- The first and last beat of a sample window (R205). -/
def State.sampBeats (s : State) (r : Nat) (l : Desc64) : Nat × Nat := (rlY0 l * s.geomW r / 16, ((rlY1 l + 1) * s.geomW r - 1) / 16)

/-- The window's beats of one region, as numbers within it. -/
def State.sampBits (s : State) (r : Nat) (l : Desc64) : BeatBits :=
  let w := s.sampBeats r l
  if s.paired r ∧ r % 2 = 1 then { pos := max w.1 131072 - 131072, hi := w.2 + 1 - 131072 } else { pos := w.1, hi := min (w.2 + 1) 131072 }

/-- Reference ticks a contract must serve (R324). -/
def State.addDue (s : State) (g : Nat) (kind : RecKind) (layer tref : Nat) : State :=
  let c := s.contract (s.graph g).contract
  if (s.graph g).contract ≠ 0 ∧ c.exist ∧ c.effTick ≤ tref then { s with dues := s.dues ++ [{ graph := g, kind := kind, layer := layer, tref := tref, con := (s.graph g).contract }] } else s

/-- Records of a readout instant: of each layer with OUT_CHAN set, and of each job (R222). -/
def State.readoutDues (s : State) (g t : Nat) : State :=
  match (s.graph g).readout with
  | none => s
  | some d =>
    let s := (List.range d.layers.length).foldl (fun s l => if rlOutChan (d.layer l) = 0xFF then s else s.addDue g .readout l t) s
    (List.range d.jobs.length).foldl (fun s j => s.addDue g .detset j t) s

/-- The graph's first quire. -/
def Graph.quire0 (g : Graph) : Nat := g.quires.headD 0

/-- Note a contract fault with the contract of one graph. -/
def State.graphConFault (s : State) (g cause : Nat) : State :=
  let c := (s.graph g).contract
  if c = 0 ∨ !(s.contract c).exist then s else s.modContract c (fun x => { x with faults := SMap.put 0 x.faults cause (s.tim.tick + 1) })

/-- An instant is skipped (R202, R203). -/
def State.skipInstant (s : State) (g : Nat) : State :=
  let s := s.modReadout g (fun d => { d with skipped := d.skipped + 1 })
  (s.bump (qrB (s.graph g).quire0 + 0x6C8)).graphConFault g 5

/-- A readout instant falls due (R201–R203): it is skipped, or the graph holds it, with a slot where it samples a surface. -/
def State.beginInstant (s : State) (g t : Nat) : State :=
  let x := s.graph g
  match x.readout with
  | none => s
  | some d =>
    let s := s.readoutDues g t
    let hold := fun (s : State) =>
      let s := s.modReadout g (fun d => { d with insts := d.insts ++ [{ tick := t, since := d.last }], last := t })
      (s.bump (qrB x.quire0 + 0x6C0)).trace 0x6F x.slip 3 [g, 0, t]
    if 2 ≤ d.insts.length then s.skipInstant g
    else
      match d.region with
      | none => hold s
      | some r =>
        match (List.range 4).find? (fun i => (s.surfRegions r).all (fun k => !(((s.sfm k).slots[i]?).getD {}).busy)) with
        | none => (s.bump (sfmP r + 0x190)).skipInstant g
        | some i =>
          let s := (s.surfRegions r).foldl (fun s k => s.modSfm k (fun f => { f with slots := f.slots.set i { busy := true, graph := g, tick := t } })) s
          (hold s).bump (sfmP r + 0x178)

/-- The next instant of a periodic or command schedule that is due by a tick (R200, R201). -/
def State.instantDue (s : State) (g k : Nat) : Option Nat :=
  let x := s.graph g
  match x.readout with
  | none => none
  | some d =>
    if x.state ≠ 1 then none
    else if d.sched = 1 then
      let o := s.originOf (d.region.getD 0)
      let a := max d.next (max o x.startTick) - o
      let t := o + (a + (d.phase + d.period - a % d.period) % d.period)
      if t ≤ k then some t else none
    else d.asked.find? (fun t => decide (t ≤ k))

/-- Deal with the next due instant of a graph. -/
def State.takeInstant (s : State) (g k : Nat) : State :=
  match s.instantDue g k with
  | none => s
  | some t => (s.modReadout g (fun d => { d with next := t + 1, asked := d.asked.filter (fun u => decide (u ≠ t)) })).beginInstant g t

/-- Set the bits of slots whose instant lies before a tick (R204). -/
def State.armSlots (s : State) (r k : Nat) : State :=
  s.modSfm r (fun f => { f with slots := f.slots.map (fun x =>
    if x.busy ∧ !x.armed ∧ x.tick < k then
      { x with armed := true, bits := s.sampBits r ((((s.graph x.graph).readout.map (·.layer 0))).getD []) }
    else x) })

/-- Emit a sample beat (R205, R206): each entry, converted to the base of the epoch of T, goes to SAMPLE_BUF. -/
def State.emitSample (s : State) (r i b : Nat) (first : Bool) : State :=
  let f := s.sfm r
  let x := (f.slots[i]?).getD {}
  let s := s.modSfm r (fun f => { f with slots := f.slots.set i { x with bits := x.bits.clear b } })
  let s := s.bump (sfmP (s.cfgPort r) + 0x180)
  let s := if first then s.bump (sfmP (s.cfgPort r) + 0x188) else s
  let g := s.graph x.graph
  match g.readout with
  | none => s
  | some d =>
    let e := d.layer 0
    let l := s.surfL r
    let bt := epochBase l (epochOf l (s.surfOfTick r x.tick))
    let bytes := (List.range 16).flatMap (fun j =>
      let v := f.read (16 * b + j)
      let out : Nat := match f.time l v with
        | none => 0x7FFF
        | some (t, p) => if t < bt then 0x7FFF else p.toNat * 2 ^ 15 + min (t - bt).toNat 0x7FFE
      leBytes 2 out)
    let lin := b + (if s.paired r ∧ r % 2 = 1 then 131072 else 0)
    s.locPut g.slip (g.quireOf 0) { dram := d.dramW.contains 0, enc := lf e 4 63 0 } ((lin - (s.sampBeats r e).1) * 32) bytes

/-- Indices of armed slots, in ascending order of their instants. -/
def Sfm.slotOrder (f : Sfm) : List Nat :=
  (sortByKey ((List.range 4).filterMap (fun i => match f.slots[i]? with | some x => if x.armed then some (x.tick, BitVec.ofNat 64 i) else none | none => none))).map (fun p => p.2.toNat)

/-! ## Before a Hopper write (R186, R204, R205) -/

/-- Before stage 8 writes an item of a tick to a beat of a region: rebases and instants that the tick passes begin, and a set bit's
contents leave first: SNAP, then the slots by instant. -/
def State.preWrite (s : State) (r b k : Nat) : State :=
  let gs := (s.graphs.filter (fun e => e.2.delta.any (fun d => dlRegion (d.layer 0) = s.cfgPort r) || e.2.readout.any (fun d => d.region = some (s.cfgPort r)))).map (·.1)
  let s := gs.foldl (fun s g => if k = 0 then s else (s.rebaseDue g k).takeInstant g (k - 1)) s
  let s := s.armSlots r k
  let s := if (s.sfm r).snap.has b then s.emitSnap r b true else s
  (s.sfm r).slotOrder.foldl (fun s i => if (((s.sfm r).slots[i]?).getD {}).bits.has b then s.emitSample r i b true else s) s

end Sys2Proof.Machine
end

