-- ==== Sys2Proof/Machine/SurfaceCmd.lean ====
section
/-! DEFINITION. Meanings of the surface, corner and flow commands (04). -/
namespace Sys2Proof.Machine

/-- The slipcase that holds a port, 0xFF if none (Table 15.1). -/
def State.portSlip (s : State) (n : Nat) : Nat :=
  ((s.slips.find? (fun e => decide (e.2.state ≠ 0) && e.2.hoppers.getLsbD n)).map (·.1)).getD 0xFF

/-- Set a bit of SFM_ERR of a region. -/
def State.sfmErr (s : State) (r : Nat) (i : Nat) : State := s.orReg (sfmP r + 0x30) (BitVec.ofNat 64 (2 ^ i))

/-- The settings of R97 that an enable checks. -/
def State.surfOk (s : State) (r : Nat) : Bool :=
  let c := s.reg (sfmP r)
  let tau := fld c 19 8
  let l := (fld c 30 28 + 1) * tau
  decide (1 ≤ tau ∧ l ≤ 16383 ∧ 64 ≤ l * (fld c 27 20 + 1) ∧ s.dom (21 + r / 4) = 2)

/-- Start a surface: cleared, generation 0, epoch 0, no ORIGIN yet (R97). -/
def Sfm.start (f : Sfm) : Sfm :=
  { f with entries := [], gen := false, conv := none, epoch := 0, shift := 0, origin := none, clearing := true, pendEpochs := 0,
           rwb := [], crnItems := [], flwItems := [], snap := {} }

/-- Change the regions a region's settings govern: none for the upper region of a pair (R93). -/
def State.modGoverned (s : State) (r : Nat) (g : Sfm → Sfm) : State := if s.cfgPort r = r then s.modSurf r g else s

/-- A write to SFM_SURF_CFG (R97, R115). -/
def State.wrSurfCfg (s : State) (r : Nat) (v : Word) : State :=
  let k := sfmP r
  let cur := s.reg k
  let new := setBit ((cur &&& ~~~ 0xFFFFFF00) ||| (v &&& 0xFFFFFF00)) 31 false
  if cur.getLsbD 31 then
    if v.getLsbD 31 then s.sfmErr r 1
    else
      let s := s.setReg k (setBit cur 31 false)
      let s := s.setReg (k + 0x20) (setBit (s.reg (k + 0x20)) 31 false)
      let s := s.setReg (k + 0x28) (setBit (s.reg (k + 0x28)) 31 false)
      s.modGoverned r (fun f => { f with origin := none, clearing := false })
  else
    let s := s.setReg k new
    if !v.getLsbD 31 then s
    else if s.surfOk r then (s.setReg k (setBit new 31 true)).modGoverned r Sfm.start
    else s.sfmErr r 0

/-- SFM_SURF_CFG_EN (R97). -/
def execSfmSurfCfgEn (r : BitVec 4) (v : BitVec 32) (s : State) : Host.Outcome State Fault Refusal :=
  .next ((s.touch 0 (sfmP r.toNat)).wrSurfCfg r.toNat (v.setWidth 64))

/-- CRN_CFG's ranges (R107). -/
def State.crnOk (s : State) (r : Nat) : Bool :=
  let c := s.reg (sfmP r + 0x20)
  let ok := fun (lo hi top : Nat) => decide (1 ≤ lo ∧ lo ≤ hi ∧ hi ≤ top)
  ok (fld c 23 20) (fld c 27 24) 8 && ok (fld c 15 12) (fld c 19 16) 10 && decide (s.rfld (sfmP r + 0x24) 31 16 ≠ 0) &&
    (s.reg (sfmP r)).getLsbD 31

/-- FLOW_CFG's ranges (R111). -/
def State.flwOk (s : State) (r : Nat) : Bool :=
  let c := s.reg (sfmP r + 0x28)
  let rr := fld c 28 27
  decide (1 ≤ rr ∧ 3 ≤ fld c 26 21 ∧ fld c 26 21 ≤ (2 * rr + 1) ^ 2 ∧ s.rfld (sfmP r + 0x2C) 31 16 ≠ 0 ∧ s.rfld (sfmP r + 0x2C) 15 0 ≠ 0) &&
    (s.reg (sfmP r)).getLsbD 31

/-- A write to a unit's CFG register at an offset of the region's page (R107, R111, R115). -/
def State.wrUnitCfg (s : State) (r off : Nat) (m : Word) (ok : State → Bool) (v : Word) : State :=
  let k := sfmP r + off
  let cur := s.reg k
  if cur.getLsbD 31 then (if v.getLsbD 31 then s.sfmErr r 1 else s.setReg k (setBit cur 31 false))
  else
    let new := setBit ((cur &&& ~~~ m) ||| (v &&& m)) 31 false
    let s := s.setReg k new
    if !v.getLsbD 31 then s
    else if ok s then s.setReg k (setBit new 31 true) else s.sfmErr r 0

def State.wrCrnCfg (s : State) (r : Nat) (v : Word) : State := s.wrUnitCfg r 0x20 0xEFFFF000 (fun s => s.crnOk r) v
def State.wrFlowCfg (s : State) (r : Nat) (v : Word) : State := s.wrUnitCfg r 0x28 0xFFFFE000 (fun s => s.flwOk r) v

/-- CRN_CFG_EN (R107). -/
def execCrnCfgEn (r : BitVec 4) (v : BitVec 32) (s : State) : Host.Outcome State Fault Refusal :=
  .next ((s.touch 0 (sfmP r.toNat + 0x20)).wrCrnCfg r.toNat (v.setWidth 64))

/-- FLOW_CFG_EN (R111). -/
def execFlowCfgEn (r : BitVec 4) (v : BitVec 32) (s : State) : Host.Outcome State Fault Refusal :=
  .next ((s.touch 0 (sfmP r.toNat + 0x28)).wrFlowCfg r.toNat (v.setWidth 64))

/-- REGION_CLEAR (R98): the clear ends, and ORIGIN is the next tick boundary. -/
def execRegionClear (r : BitVec 4) (s : State) : Host.Outcome State Fault Refusal :=
  .next (if (s.sfm r.toNat).clearing then s.modSurf r.toNat (fun f => { f with clearing := false, origin := some (s.tim.tick + 1) }) else s)

/-- EPOCH_CHANGE (R99, R101): the surface passes to every epoch that has begun by the present tick. -/
def execEpochChange (r : BitVec 4) (s : State) : Host.Outcome State Fault Refusal := .next (s.surfAt r.toNat s.tim.tick)

/-- GENERATION_SWEEP (R101): while the quarter is ON and the surface enabled, every remaining beat is converted. -/
def execGenerationSweep (r : BitVec 4) (s : State) : Host.Outcome State Fault Refusal :=
  .next (if s.surfEn r.toNat ∧ s.dom (21 + r.toNat / 4) = 2 then s.modSfm r.toNat Sfm.sweepAll else s)

/-- The first item of a list in (tick, linear address, polarity) order, and the rest. -/
def firstItem (w : Nat) (l : List HItem) : Option (HItem × List HItem) :=
  match l with
  | [] => none
  | i :: r =>
    let key := fun (j : HItem) => (j.tick, j.y * w + j.x, j.pol.toNat)
    let b := r.foldl (fun b j => if (key j).1 < (key b).1 ∨ ((key j).1 = (key b).1 ∧ ((key j).2.1 < (key b).2.1 ∨
      ((key j).2.1 = (key b).2.1 ∧ (key j).2.2 < (key b).2.2))) then j else b) i
    some (b, l.erase b)

/-- Issue a derived record in every output channel of a unit (R113); a drop is counted, marked and reported. -/
def State.issueDer (s : State) (n : Nat) (corner : Bool) (w0 w1 : BitVec 64) (tick : Nat) : State :=
  let r := s.cfgPort n
  let f := s.sfm r
  let res := (if corner then f.crnChans else f.flwChans).map (fun c => (c.placeGaps tick).offer2 w0 w1 tick)
  let chans := res.map (fun p => if p.2 then p.1.lose 0xE 1 tick else p.1)
  let drops := (res.filter (·.2)).length
  let s := s.modSfm r (fun f => if corner then { f with crnChans := chans } else { f with flwChans := chans })
  if drops = 0 then s else (s.bump (sfmP r + 0x138) drops).fault (0x44 + n) 0x0D (s.portSlip n)

/-- CORNER_TEST (R106, R112–R114): the unit takes its next item. -/
def execCornerTest (n : BitVec 4) (s : State) : Host.Outcome State Fault Refusal :=
  let r := s.cfgPort n.toNat
  .next (match firstItem (s.geomW r) (s.sfm r).crnItems with
  | none => s
  | some (i, rest) =>
    if !s.viewReady r i.tick then s
    else
    let s := s.modSfm r (fun f => { f with crnItems := rest })
    let s' := match s.surfTick r i.tick with
      | none => s
      | some u0 =>
        if !s.crnEn r ∨ ((s.reg (sfmP r + 0x20)).getLsbD 29 ∧ s.nearEdge r i) then s
        else
          let s1 := s.bump (sfmP r + 0x100)
          match s.corner r i u0 with
          | none => s1
          | some (w0, w1) => (s1.bump (sfmP r + 0x108)).issueDer r true w0 w1 i.tick
    s'.pruneRwb r)

/-- FLOW_FIT (R108–R114): the unit takes its next item. -/
def execFlowFit (n : BitVec 4) (s : State) : Host.Outcome State Fault Refusal :=
  let r := s.cfgPort n.toNat
  .next (match firstItem (s.geomW r) (s.sfm r).flwItems with
  | none => s
  | some (i, rest) =>
    if !s.viewReady r i.tick then s
    else
    let s := s.modSfm r (fun f => { f with flwItems := rest })
    let s' := match s.surfTick r i.tick with
      | none => s
      | some u0 =>
        if !s.flwEn r then s
        else
          let s1 := s.bump (sfmP r + 0x110)
          match s.flow r i u0 with
          | .few => s1.bump (sfmP r + 0x120)
          | .sing => s1.bump (sfmP r + 0x128)
          | .conf => s1.bump (sfmP r + 0x130)
          | .issue w0 w1 => (s1.bump (sfmP r + 0x118)).issueDer r false w0 w1 i.tick
    s'.pruneRwb r)

/-- DERIVED_SPILL_DRAIN (R113): waiting records are placed as credits allow; markers follow as their ticks close. -/
def execDerivedSpillDrain (n : BitVec 4) (corner : Bool) (s : State) : Host.Outcome State Fault Refusal :=
  let r := s.cfgPort n.toNat
  .next (s.modSfm r (fun f => if corner then { f with crnChans := f.crnChans.map (·.drainSpill2) }
                              else { f with flwChans := f.flwChans.map (·.drainSpill2) }))

end Sys2Proof.Machine
end

