-- ==== Sys2Proof/Machine/Hopper.lean ====
section
/-! DEFINITION. Hopper ports (03): packet reception, the decoder, filters, the item pipeline and the commands of the family. -/
namespace Sys2Proof.Machine

/-! ## Settings in force -/

/-- The port takes part in an enabled sensor: its own EN, or that of the pair's lower port (R75, R91). -/
def State.portEn (s : State) (n : Nat) : Bool := s.hopEn (s.cfgPort n)

/-- PKT_MAX in bytes (R67). -/
def State.pktMax (s : State) (n : Nat) : Nat :=
  let v := s.rfld (hopB (s.cfgPort n) + 0x30) 5 0
  if v = 0 ∨ 32 < v then 2048 else 64 * v

/-- Effective HOLD_HI and HOLD_LO in 16-byte units (Table 3.15). -/
def State.holdHi (s : State) (n : Nat) : Nat := 64 * (min (max (s.rfld (hopB n + 0x30) 31 24) 1) 64)
def State.holdLo (s : State) (n : Nat) : Nat :=
  let hi := s.holdHi n / 64
  let lo := s.rfld (hopB n + 0x30) 23 16
  64 * (if hi ≤ lo then hi - 1 else lo)

/-- The room a packet takes, in 16-byte units (R83). -/
def pktUnits (bytes : Nat) : Nat := (bytes + 6 + 15) / 16

/-- Packet buffer occupancy in 16-byte units. -/
def Hopper.occ (h : Hopper) : Nat := (h.buf.map (fun p => pktUnits p.payload.length)).foldl (· + ·) 0

/-- The tick that contains a SYSTIME (R40). -/
def State.tickAt (s : State) (ns : Nat) : Nat := if ns < s.tim.bK then s.tim.tick else s.tim.kTick + (ns - s.tim.bK) / s.tickLen

/-- Drive the hold signal by the occupancy (R83). -/
def State.holdPin (s : State) (n : Nat) : State :=
  let c := s.reg (hopB n + 0x30)
  let occ := (s.hop n).occ
  let pin := fun (s : State) => if s.gpioServes (2 + n) (fld c 13 8) then s.gpioDrive (fld c 13 8) else s
  if !c.getLsbD 15 then s
  else if !(s.hop n).hold ∧ s.holdHi n ≤ occ then
    pin ((s.modHop n (fun h => { h with hold := true })).bump (hopB n + 0x350))
  else if (s.hop n).hold ∧ occ ≤ s.holdLo n then pin (s.modHop n (fun h => { h with hold := false }))
  else s

/-! ## Losses (R85, R90) -/

/-- Count front-end losses of a cause and mark them in every channel of the port and of its derived units. -/
def State.portLoss (s : State) (n cause cnt tick : Nat) : State :=
  if cnt = 0 then s
  else
    let s := s.bump (hopB n + 0x200 + 8 * cause) cnt
    if !gapCause cause then s
    else
      let k := s.cfgPort n
      let g := fun (c : HChan) => c.lose cause cnt tick
      let s := s.modHop k (fun h => { h with chans := h.chans.map g, gapLog := if h.gapLog.contains (tick, cause) then h.gapLog else (tick, cause) :: h.gapLog })
      let s := s.modSfm k (fun f => { f with crnChans := f.crnChans.map g, flwChans := f.flwChans.map g })
      s.trace (0x44 + n) (s.portSlip n) 7 [n, cause, cnt]

/-- The port clears TIME_VALID and ADDR_VALID after a lost packet of its own stream (R70). -/
def Hopper.lostPacket (h : Hopper) : Hopper := { h with timeValid := false, addrValid := false }

/-- A packet of the port's own stream is dropped under a cause. -/
def State.dropPacket (s : State) (n cause tick : Nat) : State :=
  (s.modHop n Hopper.lostPacket).portLoss n cause 1 tick

/-! ## Reception (R66, R67, R72, R83, R90) -/

/-- The stamp of an arrival: its tick, and never one whose tick-end mark has been sent (R72). -/
def State.stamp (s : State) (n ns : Nat) : Nat := max (s.tickAt ns) (s.hop n).nextEnd

/-- PACKET_RECEIVE (R72, R83, R90): checks in the order of R63; an accepted packet enters the buffer. The packet's end
leaves the lanes in the stop state; a packet whose footer came is the latest arrival. -/
def State.receive (s : State) (n : Nat) (p : LinkPkt) : State :=
  if p.stale then s
  else if !s.portEn n then s.modHop n (fun h => { h with link := 0 })
  else
    let s := s.modHop n (fun h => { h with link := 0 })
    let k := hopB n
    let c := s.reg (hopB (s.cfgPort n) + 0xC)
    let t := s.stamp n p.arrival.toNat
    let s := if p.short then s else s.setReg (k + 0x38) p.arrival
    let s := if p.sot = 1 then s.bump (k + 0x318) else s
    let s := if p.hdr = 1 then s.bump (k + 0x328) else s
    if 2 ≤ p.sot then
      ((s.bump (k + 0x320)).modHop n (fun h => { h with resyncWait := true })).dropPacket n 1 t
    else if 2 ≤ p.hdr then
      (s.modHop n (fun h => { h with resyncWait := true })).dropPacket n 1 t
    else if (s.hop n).resyncWait ∧ !(s.reg (hopB (s.cfgPort n))).getLsbD 2 then s.dropPacket n 1 t
    else
      let s := s.modHop n (fun h => { h with resyncWait := false })
      if p.dt.toNat ≠ fld c 19 14 ∨ p.vc.toNat ≠ fld c 13 10 then s.bump (k + 0x330)
      else
        if s.pktMax n < p.wordCount.toNat then s.dropPacket n 3 t
        else if 4096 < (s.hop n).occ + pktUnits p.wordCount.toNat then s.dropPacket n 5 t
        else if p.short then s.dropPacket n 4 t
        else if p.crcBad then s.dropPacket n 2 t
        else
          let s := (s.modHop n (fun h => { h with buf := h.buf ++ [{ payload := p.payload, tick := t }] })).bump (k + 0x300)
          s.holdPin n

def execPacketReceive (n : BitVec 4) (p : LinkPkt) (s : State) : Host.Outcome State Fault Refusal := .next (s.receive n.toNat p)

/-- Short packets that the port takes (R66): Frame Start and End, Line Start and End, and the generic ones. -/
def shortType (dt : Nat) : Bool := dt < 4 || (8 ≤ dt && dt < 16)

/-- SHORT_PACKET (R66, R90): Frame Start ends a resynchronisation wait; sequence errors are counted; line and generic
packets are ignored; a packet of another channel or type is discarded as such. -/
def execShortPacket (n : BitVec 4) (dt : BitVec 6) (vc : BitVec 4) (hdr : BitVec 2) (s : State) : Host.Outcome State Fault Refusal :=
  let k := hopB n.toNat
  let s := s.modHop n.toNat (fun h => { h with link := 0 })
  .next (if !s.portEn n.toNat then s
  else
    let s := if hdr = 1 then s.bump (k + 0x328) else s
    if 2 ≤ hdr then (s.modHop n.toNat (fun h => { h with resyncWait := true })).dropPacket n.toNat 1 s.tim.tick
    else
      let own := vc.toNat = s.rfld (hopB (s.cfgPort n.toNat) + 0xC) 13 10
      let any := (s.reg (hopB (s.cfgPort n.toNat))).getLsbD 2
      let wait := (s.hop n.toNat).resyncWait
      if wait ∧ !any ∧ dt ≠ 0 then s.dropPacket n.toNat 1 s.tim.tick
      else
        let s := s.modHop n.toNat (fun h => { h with resyncWait := false })
        if !own ∨ !shortType dt.toNat then s.bump (k + 0x330)
        else if dt = 0 then
          let s := if (s.hop n.toNat).frameOpen then s.bump (k + 0x338) else s
          s.modHop n.toNat (fun h => { h with frameOpen := true })
        else if dt = 1 then
          let s := if (s.hop n.toNat).frameOpen then s else s.bump (k + 0x338)
          s.modHop n.toNat (fun h => { h with frameOpen := false })
        else s)

/-- LINK_ERR (R63, R90): the packet is dropped, under the first cause that applies, and the receiver re-locks at the next
SoT; a packet whose header named another stream is discarded as such. -/
def execLinkErr (n : BitVec 4) (dt : BitVec 6) (vc : BitVec 4) (wordCount : BitVec 16) (s : State) : Host.Outcome State Fault Refusal :=
  let c := s.reg (hopB (s.cfgPort n.toNat) + 0xC)
  let s := s.modHop n.toNat (fun h => { h with link := 3 })
  .next (if !s.portEn n.toNat then s
  else
    if (s.hop n.toNat).resyncWait ∧ !(s.reg (hopB (s.cfgPort n.toNat))).getLsbD 2 then s.dropPacket n.toNat 1 s.tim.tick
    else
      let s := s.modHop n.toNat (fun h => { h with resyncWait := false })
      if dt.toNat ≠ fld c 19 14 ∨ vc.toNat ≠ fld c 13 10 then s.bump (hopB n.toNat + 0x330)
      else s.dropPacket n.toNat (if s.pktMax n.toNat < wordCount.toNat then 3
        else if 4096 < (s.hop n.toNat).occ + pktUnits wordCount.toNat then 5 else 6) s.tim.tick)

/-- ESC_ERR (R90): ignored and counted. -/
def execEscErr (n : BitVec 4) (s : State) : Host.Outcome State Fault Refusal :=
  .next (if s.portEn n.toNat then s.bump (hopB n.toNat + 0x340) else s)

/-- ULPS_ENTRY (R66, Table 3.17). -/
def execUlpsEntry (n : BitVec 4) (s : State) : Host.Outcome State Fault Refusal :=
  .next (s.modHop n.toNat (fun h => { h with link := 1 }))

/-! ## The decoder (R68–R70) -/

/-- Word width in bits (Table 3.18). -/
def State.wordBits (s : State) (n : Nat) : Nat := match s.rfld (hopB (s.cfgPort n) + 0x10) 9 8 with | 0 => 16 | 2 => 64 | _ => 32

/-- A word from its bytes. -/
def leWord : List (BitVec 8) → Nat
  | [] => 0
  | b :: r => b.toNat + 256 * leWord r

/-- Assemble a payload into words of n bytes; trailing bytes are discarded. -/
def words (n : Nat) (swap : Bool) : Nat → List (BitVec 8) → List Nat
  | 0, _ => []
  | fuel + 1, l =>
    if n = 0 ∨ l.length < n then []
    else leWord (if swap then (l.take n).reverse else l.take n) :: words n swap fuel (l.drop n)

/-- An extractor of a rule: field of the word, widths 0 meaning 32 (Table 3.6). -/
def extract (w lsb wid : Nat) : Nat := (w >>> lsb) % 2 ^ (if wid = 0 then 32 else wid)
/-- Effective width. -/
def extWid (wid : Nat) : Nat := if wid = 0 then 32 else wid

/-- What decoding one word yields: events (X, Y, polarity), and whether they need address state that is unset; malformed
and extension words. -/
structure Decoded where
  events  : List (Nat × Nat × Bool) := []
  noState : Bool := false
  bad     : Bool := false
  ext     : Bool := false

/-- Apply a rule's action (Table 3.7). -/
def Hopper.action (h : Hopper) (rule : Word) (w timeBits thi : Nat) : Hopper × Decoded :=
  let a := extract w (fld rule 43 38) (fld rule 37 33)
  let b := extract w (fld rule 32 27) (fld rule 26 22)
  let c := extract w (fld rule 21 16) (fld rule 15 11)
  let aw := extWid (fld rule 37 33)
  let cw := extWid (fld rule 15 11)
  let pol := if rule.getLsbD 4 then w.testBit (fld rule 10 5) else rule.getLsbD 3
  let low := fun (st v wd : Nat) => (st / 2 ^ wd * 2 ^ wd + v % 2 ^ wd) % 2 ^ timeBits
  match fld rule 47 44 with
  | 0 => (h, {})
  | 1 =>
    let h := if rule.getLsbD 2 then { h with stime := low h.stime c cw } else h
    (h, { events := [(a, if rule.getLsbD 1 then b else h.yCur, pol)], noState := !rule.getLsbD 1 && !h.addrValid })
  | 2 => ({ h with yCur := a, addrValid := true }, {})
  | 3 => ({ h with stime := low h.stime a aw }, {})
  | 4 => ({ h with stime := a * 2 ^ thi % 2 ^ timeBits, timeValid := true }, {})
  | 5 => ({ h with xBase := a, polCur := pol, yCur := if rule.getLsbD 1 then b else h.yCur, addrValid := true }, {})
  | 6 => ({ h with xBase := h.xBase + aw },
          { events := (bitsSet aw a).map (fun i => (h.xBase + i, h.yCur, h.polCur)), noState := !h.addrValid })
  | 7 => (h, { events := (bitsSet aw a).map (fun i => (b + i, c, pol)) })
  | 8 => (h, { ext := true })
  | _ => (h, { bad := true })

/-- Decode one word by the first rule that matches its top byte (R68). -/
def Hopper.decode (h : Hopper) (rules : List Word) (bitsW w timeBits thi : Nat) : Hopper × Decoded :=
  let top := w >>> (bitsW - 8) % 256
  match rules.find? (fun r => r.getLsbD 0 && decide (top &&& fld r 63 56 = fld r 55 48)) with
  | none => (h, { bad := true })
  | some r => h.action r w timeBits thi

/-! ## Stages 3 to 5 (R70, R74, R76, R77, R81) -/

/-- Settings a packet is decoded under. -/
structure FeCfg where
  w      : Nat
  hgt    : Nat
  tick   : Nat
  tbits  : Nat
  tol    : Nat
  restart : Nat
  hotEn  : Bool
  hot    : Nat → Bool
  limEn  : Bool
  rate   : Nat
  burst  : Nat

/-- The front end's state while it works on a packet: the port, counts by cause, events that left stage 2, items out,
restarts of sensor time. -/
structure FeSt where
  h     : Hopper
  drops : SMap Nat := []
  evs   : Nat := 0
  ext   : Nat := 0
  items : List HItem := []
  rest  : Nat := 0

def FeSt.drop (f : FeSt) (c : Nat) (n : Nat := 1) : FeSt := { f with drops := SMap.upd 0 f.drops c (· + n) }

/-- The sensor-time check (R74): the port after it, whether the event passes, whether a restart happened. -/
def Hopper.timeCheck (h : Hopper) (c : FeCfg) : Hopper × Bool × Bool :=
  if !h.timeValid then (h, true, false)
  else match h.stimeMax with
  | none => ({ h with stimeMax := some h.stime, runStart := none }, true, false)
  | some m =>
    let d := sext c.tbits (h.stime + 2 ^ c.tbits - m)
    if 0 ≤ d then ({ h with stimeMax := some h.stime, runStart := none }, true, false)
    else if d.natAbs ≤ c.tol then ({ h with runStart := none }, true, false)
    else
      let st := h.runStart.getD c.tick
      if 0 < c.restart ∧ h.runStart.isSome ∧ st + c.restart ≤ c.tick then
        ({ h with stimeMax := some h.stime, runStart := none }, true, true)
      else ({ h with runStart := some st }, false, false)

/-- The rate limiter (R81): refills follow the event's tick. -/
def Hopper.limit (h : Hopper) (c : FeCfg) : Hopper × Bool :=
  if !c.limEn then (h, true)
  else
    let lv := min (h.level + c.rate * (c.tick - h.levelTick)) (c.burst * 256)
    if 256 ≤ lv then ({ h with level := lv - 256, levelTick := max h.levelTick c.tick }, true)
    else ({ h with level := lv, levelTick := max h.levelTick c.tick }, false)

/-- One decoded event through stages 3 to 5. -/
def FeSt.event (c : FeCfg) (f : FeSt) (e : Nat × Nat × Bool) : FeSt :=
  let f := { f with evs := f.evs + 1 }
  if c.w ≤ e.1 ∨ c.hgt ≤ e.2.1 then f.drop 8
  else
    let t := f.h.timeCheck c
    let f := { f with h := t.1, rest := f.rest + t.2.2.toNat }
    if !t.2.1 then f.drop 9
    else if c.hotEn ∧ c.hot (e.2.1 * c.w + e.1) then f.drop 0xB
    else
      let l := f.h.limit c
      let f := { f with h := l.1 }
      if l.2 then { f with items := f.items ++ [{ pol := e.2.2, x := e.1, y := e.2.1, tick := c.tick }] } else f.drop 0xA

/-- One word through stages 2 to 5. -/
def FeSt.word (c : FeCfg) (rules : List Word) (bitsW thi : Nat) (f : FeSt) (w : Nat) : FeSt :=
  let d := f.h.decode rules bitsW w c.tbits thi
  let f := { f with h := d.1, ext := f.ext + d.2.ext.toNat }
  if d.2.bad then f.drop 7
  else if d.2.noState then f.drop 0x10 d.2.events.length
  else d.2.events.foldl (FeSt.event c) f

/-- The hot-pixel mask for the events of a tick (R77): that in force before a change, for the ticks before the change's. -/
def Hopper.hotAt (h : Hopper) (k : Nat) : SMap Bool :=
  match h.hotWas.find? (fun e => decide (k < e.1)) with
  | some e => e.2
  | none => h.hot

/-- The settings for a port and tick. -/
def State.feCfg (s : State) (n tick : Nat) : FeCfg :=
  let g := s.cfgPort n
  { w := s.geomW n, hgt := s.geomH n, tick := tick, tbits := s.rfld (hopB g + 0x10) 23 18 + 1,
    tol := s.rfld (hopB g + 0x14) 31 16, restart := s.rfld (hopB g + 0x14) 15 0, hotEn := (s.reg (hopB g)).getLsbD 3,
    hot := fun a => let p := s.place n a; SMap.get false ((s.hop p.1).hotAt tick) p.2,
    limEn := (s.reg (hopB n)).getLsbD 5, rate := s.rfld (hopB n + 0x28) 23 0, burst := s.rfld (hopB n + 0x2C) 23 0 }

/-- The rules of a port. -/
def State.rules (s : State) (n : Nat) : List Word := (List.range 32).map (fun i => s.reg (hopB (s.cfgPort n) + 0x100 + 8 * i))

/-- Hand items to the port's event ring channels, in a tick kept back until it closes (R47, R86). -/
def State.toRing (s : State) (n : Nat) (l : List HItem) : State :=
  if !(s.reg (hopB (s.cfgPort n))).getLsbD 4 then s
  else
    let w := s.geomW n
    let add := l.map (fun i => (i.tick * 2 ^ 33 + (i.y * w + i.x) * 2 + i.pol.toNat, eventWord i))
    s.modHop n (fun h => { h with chans := h.chans.map (fun c => if c.consumer = .evring then { c with held := c.held ++ add } else c) })

/-- FRONT_END_DECODE (R63, R68–R85): the oldest packet of the buffer. -/
def State.frontEnd (s : State) (n : Nat) : State :=
  match (s.hop n).buf with
  | [] => s
  | p :: rest =>
    let k := hopB n
    let c := s.feCfg n p.tick
    let wb := s.wordBits n
    let ws := words (wb / 8) ((s.reg (hopB (s.cfgPort n) + 0x10)).getLsbD 7) p.payload.length p.payload
    let f0 : FeSt := { h := s.hop n }
    let f := ws.foldl (FeSt.word c (s.rules n) wb (s.rfld (hopB (s.cfgPort n) + 0x10) 17 12)) f0
    let f := if p.payload.length % (wb / 8) = 0 then f else f.drop 7
    let s := s.modHop n (fun _ => { f.h with buf := rest })
    let s := (s.bump (k + 0x308) f.evs).bump (k + 0x348) f.ext
    -- items go to the port that holds their address (R75)
    let s := f.items.foldl (fun s i => s.modHop (s.place n (i.y * c.w + i.x)).1 (fun h => { h with items := h.items ++ [i] })) s
    let s := if (s.reg (hopB (s.cfgPort n))).getLsbD 6 then s.toRing (s.cfgPort n) f.items else s
    let s := if f.rest = 0 then s
      else ((s.portLoss n 0x11 f.rest p.tick).orReg (k + 0x48) 8).alarm 0x102 (0x44 + n) (s.portSlip n)
    let s := f.drops.foldl (fun s d => s.portLoss n d.1 d.2 p.tick) s
    let s := if s.portSlip n < 64 then
        s.modSlip (s.portSlip n) (fun x => (x.count 0 f.items.length).count 1 ((f.drops.map (·.2)).foldl (· + ·) 0))
      else s
    s.holdPin n

def execFrontEndDecode (n : BitVec 4) (s : State) : Host.Outcome State Fault Refusal := .next (s.frontEnd n.toNat)

/-! ## Stages 6 to 8 -/

/-- HOP_REFR and HOP_BA for the items of a tick (R80): all of them see the same settings. -/
def State.filters (s : State) (n k : Nat) : Word × Word :=
  match (s.hop n).was.find? (fun e => decide (k < e.1 ∧ e.1 ≤ s.tim.tick)) with
  | some e => e.2
  | none => ((s.hop n).refr, (s.hop n).ba)

/-- The refractory filter drops an item (R78). -/
def State.refractory (s : State) (n : Nat) (i : HItem) : Bool :=
  let g := s.cfgPort n
  let st := fld (s.filters g i.tick).1 11 0
  match s.surfTick n i.tick with
  | none => false
  | some u =>
    let p := s.place n (i.y * s.geomW n + i.x)
    match (s.sfm p.1).time (s.surfL n) ((s.sfm p.1).read p.2) with
    | none => false
    | some (t, _) => decide (0 < st ∧ 0 < (u : Int) - t ∧ (u : Int) - t < st)

/-- Update a cell with an item of tick k (R79). -/
def Cell.update (c : Cell) (k : Nat) : Cell :=
  let v := BitVec.ofNat 15 k
  if c.last = some v then c else { last := some v, prev := c.last }

/-- A cell's latest activity before tick k supports it (R79). -/
def Cell.supports (c : Cell) (k win : Nat) : Bool :=
  let e := if c.last = some (BitVec.ofNat 15 k) then c.prev else c.last
  match e with
  | none => false
  | some t => let d := sext 15 (k % 2 ^ 15 + 2 ^ 15 - t.toNat); decide (0 < d ∧ d ≤ win)

/-- Cells whose support is counted for an item: the neighbours inside the map, and its own under SELF (R79). -/
def State.baCells (s : State) (n : Nat) (i : HItem) (self : Bool) : List Nat :=
  let cw := (s.geomW n + 3) / 4
  let ch := (s.geomH n + 3) / 4
  [0, 1, 2].flatMap (fun dy => [0, 1, 2].filterMap (fun dx =>
    -- cell (x/4 + dx - 1, y/4 + dy - 1)
    let x := i.x / 4 + dx
    let y := i.y / 4 + dy
    if 1 ≤ x ∧ x ≤ cw ∧ 1 ≤ y ∧ y ≤ ch ∧ ((dx ≠ 1 ∨ dy ≠ 1) ∨ self) then some ((y - 1) * cw + (x - 1)) else none))

/-- The background-activity filter on an item that passed the refractory filter: the port with the cell updated, and
whether the item passes (R79). -/
def State.rankFilter (s : State) (n : Nat) (i : HItem) : State × Bool :=
  let g := s.cfgPort n
  let ba := (s.filters g i.tick).2
  let win := max 1 (fld ba 28 16)
  let rank := min 9 (fld ba 3 0)
  let sup := ((s.baCells n i (ba.getLsbD 4)).filter (fun c => (SMap.get ({} : Cell) (s.hop g).cells c).supports i.tick win)).length
  let own := i.y / 4 * ((s.geomW n + 3) / 4) + i.x / 4
  (s.modHop g (fun h => { h with cells := SMap.upd {} h.cells own (fun c => c.update i.tick) }), decide (rank = 0 ∨ rank ≤ sup))

/-- Write the item's DT16 entry (R98, R100): early items are counted and not written. -/
def State.writeEntryDt (s : State) (n : Nat) (i : HItem) : State :=
  let r := s.cfgPort n
  if !s.surfEn r then s
  else match s.surfTick n i.tick with
  | none => s.bump (sfmP r + 0x148)
  | some u =>
    let p := s.place n (i.y * s.geomW n + i.x)
    let l := s.surfL n
    let s := s.preWrite p.1 (p.2 / 16) i.tick
    let f := s.sfm p.1
    let old := f.read p.2
    let trel := ((u : Int) - epochBase l f.epoch).toNat
    let pol := i.pol || (!dtStale old && decide (old.toNat % 2 ^ 15 = trel) && old.getLsbD 15)
    let rec_ := s.crnEn r || s.flwEn r
    s.modSfm p.1 (fun f =>
      let f' := f.write p.2 (BitVec.ofNat 16 (pol.toNat * 2 ^ 15 + trel % 2 ^ 15))
      if rec_ then { f' with rwb := f'.rwb ++ [{ addr := p.2, prior := f.time l old, tick := i.tick }] } else f')

/-- Hand an item to every channel of the port but the event ring (R86, R112). -/
def State.fanOut (s : State) (n : Nat) (i : HItem) : State :=
  let g := s.cfgPort n
  let res := (s.hop g).chans.map (fun c => if c.consumer = .evring then (c, false) else (c.placeGaps i.tick).offer (eventWord i) i.tick)
  let chans := res.map (fun p => if p.2 then p.1.lose 0xE 1 i.tick else p.1)
  let drops := (res.filter (·.2)).length
  let bad := (res.filter (fun p => p.2 && p.1.contracted)).length
  let s := s.modHop g (fun h => { h with chans := chans, gapLog := if drops = 0 || h.gapLog.contains (i.tick, 0xE) then h.gapLog else (i.tick, 0xE) :: h.gapLog })
  let s := s.bump (hopB n + 0x270) drops
  let s := if bad = 0 then s else (s.orReg (hopB n + 0x48) 4).fault (0x44 + n) 0x0D (s.portSlip n)
  s.modSfm g (fun f => { f with
    crnItems := if s.crnEn g then f.crnItems ++ [i] else f.crnItems,
    flwItems := if s.flwEn g then f.flwItems ++ [i] else f.flwItems })

/-- ITEM_PIPELINE (R78, R79, R86): the oldest item of the port. With the recent-write buffer full, stage 8 waits (R105). -/
def State.pipeline (s : State) (n : Nat) : State :=
  match (s.hop n).items with
  | [] => s
  | i :: rest =>
    let g := s.cfgPort n
    let s := s.surfAt g i.tick
    if (s.crnEn g ∨ s.flwEn g) ∧ 4096 ≤ (s.sfm n).rwb.length then (s.bump (sfmP n + 0x140)).sfmErr n 2
    else
      let s := s.modHop n (fun h => { h with items := rest })
      if s.refractory n i then s.portLoss n 0xC 1 i.tick
      else
        let r := s.rankFilter n i
        if !r.2 then r.1.portLoss n 0xD 1 i.tick
        else
          let s := (r.1.bump (hopB n + 0x310)).writeEntryDt n i
          let s := s.fanOut n i
          if (s.reg (hopB g)).getLsbD 6 then s else s.toRing g [i]

def execItemPipeline (n : BitVec 4) (s : State) : Host.Outcome State Fault Refusal := .next (s.pipeline n.toNat)

/-- SPILL_QUEUE_DRAIN (R85, R86): waiting items and markers of every channel are placed as credits allow. -/
def execSpillQueueDrain (n : BitVec 4) (s : State) : Host.Outcome State Fault Refusal :=
  .next (s.modHop n.toNat (fun h => { h with chans := h.chans.map (fun c => if c.consumer = .evring then c else c.drainSpill) }))

/-- CELL_MAP_SWEEP (R79): entries older than 8,192 ticks lose VALID. -/
def Cell.sweep (c : Cell) (k : Nat) : Cell :=
  let keep := fun (t : BitVec 15) => decide ((k % 2 ^ 15 + 2 ^ 15 - t.toNat) % 2 ^ 15 ≤ 8192)
  { last := c.last.filter keep, prev := c.prev.filter keep }

def execCellMapSweep (n : BitVec 4) (s : State) : Host.Outcome State Fault Refusal :=
  .next (s.modHop n.toNat (fun h => { h with cells := SMap.mapAll {} h.cells (fun _ c => c.sweep s.tim.tick) }))

/-! ## The event ring and tick-end marks (R46, R47, R85) -/

/-- Items the event ring of a port can take now. -/
def State.ringPlaces (s : State) (n : Nat) : Nat :=
  match (s.hop n).evq with
  | none => 0
  | some (f, q) => if (s.qp (f * 256 + q)).valid then (s.qp (f * 256 + q)).places else 0

/-- Place one item or marker in the bound ring. -/
def State.ringPut (s : State) (n : Nat) (w : BitVec 64) : State :=
  match (s.hop n).evq with
  | none => s
  | some (f, q) => s.placeRec (f * 256 + q) [w.toNat]

/-- Change the event ring channel of a port. -/
def Hopper.modRing (h : Hopper) (g : HChan → HChan) : Hopper :=
  { h with chans := h.chans.map (fun c => if c.consumer = .evring then g c else c) }

/-- Offer one item to the event ring: a place besides the reserved one, else the spill queue, else dropped under EVRING. -/
def State.ringOffer (s : State) (n : Nat) (w : BitVec 64) (tick : Nat) : State :=
  let sp := ((s.hop n).chans.find? (fun c => c.consumer = .evring)).map (·.spill)
  match sp with
  | none => s
  | some l =>
    if l.isEmpty ∧ 2 ≤ s.ringPlaces n then s.ringPut n w
    else if l.length < 256 then s.modHop n (fun h => h.modRing (fun c => { c with spill := c.spill ++ [w] }))
    else ((s.bump (hopB n + 0x278)).modHop n (fun h => h.modRing (fun c => c.lose 0xF 1 tick)))

/-- Move spilled items into the ring as places return. -/
def State.ringDrain (s : State) (n : Nat) : Nat → State
  | 0 => s
  | fuel + 1 =>
    match ((s.hop n).chans.find? (fun c => c.consumer = .evring)).bind (fun c => c.spill.head?) with
    | none => s
    | some w =>
      if s.ringPlaces n < 2 then s
      else ((s.ringPut n w).modHop n (fun h => h.modRing (fun c => { c with spill := c.spill.drop 1 }))).ringDrain n fuel

/-- Place the ring's markers of one tick, in ascending cause, while a place is left and no item waits (R85). -/
def State.ringGaps (s : State) (n tick : Nat) : State :=
  (List.range 18).foldl (fun s cause =>
    match (s.hop n).chans.find? (fun c => c.consumer = .evring) with
    | none => s
    | some c =>
      let k := c.lossIn cause tick
      if k = 0 ∨ !c.spill.isEmpty ∨ s.ringPlaces n = 0 then s
      else (s.ringPut n (gapWord cause k tick)).modHop n (fun h => h.modRing (fun c => c.reported cause tick))) s

/-- A tick of the port's event ring closes: markers first, then its items in ascending address, OFF before ON (Table 2.4). -/
def State.ringClose (s : State) (n tick : Nat) : State :=
  match (s.hop n).chans.find? (fun c => c.consumer = .evring) with
  | none => s
  | some c =>
    let now := sortByKey (c.held.filter (fun p => p.1 < (tick + 1) * 2 ^ 33))
    let s := s.modHop n (fun h => h.modRing (fun c => { c with held := c.held.filter (fun p => decide ((tick + 1) * 2 ^ 33 ≤ p.1)) }))
    let s := s.ringDrain n 256
    let s := s.ringGaps n tick
    now.foldl (fun s p => s.ringOffer n p.2 tick) s

/-- The tick of an item that a channel holds: its low 32 bits are the item's. -/
def State.itemTick (s : State) (w : BitVec 64) : Nat := s.tim.tick - (s.tim.tick - w.toNat % 2 ^ 32) % 2 ^ 32

/-- A producer's tick-end marks in a channel (R46): those before tick t, but for the ticks of the items that wait for credit. -/
def State.markTo (s : State) (c : HChan) (t : Nat) : HChan :=
  { c with endSent := max c.endSent (match c.spill.head? with | some w => min t (s.itemTick w) | none => t) }

/-- Ticks before t of which the ring holds items or losses, and the last one, ascending. -/
def State.ringTicks (s : State) (n t : Nat) : List Nat :=
  match (s.hop n).chans.find? (fun c => c.consumer = .evring) with
  | none => []
  | some c =>
    let ks : List Nat := c.held.map (fun p => p.1 / 2 ^ 33) ++ c.lost.map (fun p => p.1 / 32)
    ((ks.filter (fun k => decide (k + 1 < t))).foldl (fun (m : SMap Nat) k => SMap.put 0 m k 1) []).map (·.1) ++ [t - 1]

/-- Send a port's tick-end marks up to the present tick, or up to the tick of its oldest waiting packet or item (R46). -/
def State.portMarks (s : State) (n : Nat) : State :=
  let h := s.hop n
  let h' := if s.paired n then s.hop (if n % 2 = 0 then n + 1 else n - 1) else {}
  let t := (h.buf.map (·.tick) ++ h.items.map (·.tick) ++ h'.buf.map (·.tick) ++ h'.items.map (·.tick)).foldl min s.tim.tick
  if t ≤ h.nextEnd then s
  else
    let s := (s.ringTicks n t).foldl (fun s k => s.ringClose n k) s
    let e := fun (c : HChan) => if c.consumer = .evring then { c with endSent := t } else s.markTo (c.placeGaps t) t
    s.modHop n (fun h => { h with nextEnd := t, chans := h.chans.map e })

/-! ## Enabling (R76, R91) and presets (R71, R587) -/

/-- The geometry check of R76. -/
def State.geomOk (s : State) (n : Nat) (pair : Bool) : Bool :=
  let w := s.rfld (hopB n + 8) 11 0 + 1
  let h := s.rfld (hopB n + 8) 27 16 + 1
  let m := if pair then 2 else 1
  decide (w * h ≤ 2097152 * m ∧ ((w + 3) / 4) * ((h + 3) / 4) ≤ 131072 * m)

/-- The port afresh: only counters and the hot-pixel mask are kept (R91); the limiter starts full (R81). -/
def Hopper.start (h : Hopper) (burst tick : Nat) (limEn : Bool) : Hopper :=
  { h with stime := 0, yCur := 0, xBase := 0, polCur := false, timeValid := false, addrValid := false, stimeMax := none, runStart := none,
           resyncWait := false, frameOpen := false, buf := [], items := [], cells := [], was := [], hotWas := [], level := if limEn then burst * 256 else h.level,
           levelTick := tick, hold := false }

/-- A write of HOP_CTL (R91, Table 3.16). -/
def State.wrHopCtl (s : State) (n : Nat) (v : Word) : State :=
  let k := hopB n
  let cur := s.reg k
  let pairBit := n % 2 = 0
  let m : Word := if pairBit then 0x5E else 0x5C
  let cur' := (cur &&& ~~~ m) ||| (v &&& m)
  if cur.getLsbD 0 then
    -- PAIR is writable only while EN = 0
    let bad := pairBit ∧ v.getLsbD 1 ≠ cur.getLsbD 1
    let s := s.setReg k (setBit (setBit cur' 1 (cur.getLsbD 1)) 0 (v.getLsbD 0))
    if bad then s.orReg (k + 0x48) 1 else s
  else
    let s := s.setReg k (setBit cur' 0 false)
    if !v.getLsbD 0 then s
    else if s.geomOk n (cur'.getLsbD 1) then
      let s := s.setReg k (setBit cur' 0 true)
      let ps := if cur'.getLsbD 1 then [n, n + 1] else [n]
      let s := ps.foldl (fun s p => s.modHop p (fun h => h.start (s.rfld (hopB p + 0x2C) 23 0) s.tim.tick ((s.reg (hopB p)).getLsbD 5))) s
      ps.foldl (fun s p => s.modSfm p (fun f => { f with rwb := [], crnItems := [], flwItems := [] })) s
    else s.orReg (k + 0x48) 0x10

/-- HOP_CTL_EN (R91). -/
def execHopCtlEn (n : BitVec 4) (v : BitVec 32) (s : State) : Host.Outcome State Fault Refusal :=
  .next ((s.touch 0 (hopB n.toNat)).wrHopCtl n.toNat (v.setWidth 64))

/-- Rules of a preset (Table 3.20). EVW-C rule 0 is packed from its listed fields by Table 3.6 (log entry 8). -/
def presetRules : Nat → List Nat
  | 0 => [0xC000101863182BB7, 0xC040403C00000001, 0xC080800000000001, 0xC0C0000000000001]
  | 1 => [0x80001018000C11D5, 0xC080201800000001, 0xE0C0501800000191, 0xF8E0601600000001, 0xF8E8301600000001, 0xF8F0401600000001,
          0xFCF8800000000001, 0xFCFC000000000001]
  | _ => [0xF000000000000001, 0xF01070011B2F6777, 0xF020400000000001, 0xF030800000000001, 0xF0F0000000000001]

/-- WORD, THI_SHIFT and TIME_BITS_M1 of a preset (Table 3.19), in place in HOP_DEC_CFG. -/
def presetCfg : Nat → Word
  | 0 => 0x885100
  | 1 => 0x54B000
  | _ => 0x7C0200

/-- A write of HOP_DEC_CFG (R71). -/
def State.wrHopDec (s : State) (n : Nat) (v : Word) : State :=
  let k := hopB n
  if s.hopEn n then s.orReg (k + 0x48) 1
  else if fld v 1 0 = 3 then s.setReg (k + 0x10) (v &&& 0xFFF383)
  else
    let p := fld v 1 0
    let s := s.setReg (k + 0x10) (presetCfg p ||| (v &&& 0x83))
    (List.range 32).foldl (fun s i => s.setReg (k + 0x100 + 8 * i) (BitVec.ofNat 64 (((presetRules p)[i]?).getD 0))) s

/-- HOP_DEC_CFG (R71). -/
def execHopDecCfg (n : BitVec 4) (v : BitVec 32) (s : State) : Host.Outcome State Fault Refusal :=
  .next ((s.touch 0 (hopB n.toNat + 0x10)).wrHopDec n.toNat (v.setWidth 64))

end Sys2Proof.Machine
end

