-- ==== Sys2Proof/Machine/Conditioning.lean ====
section
/-! DEFINITION. Auxiliary sensor conditioning (10): fetches, the datapath, stamping, outputs and the Aux-class commands. -/
namespace Sys2Proof.Machine

/-! ## Settings (Tables 10.8 to 10.10) -/

def State.aux (s : State) (c : Nat) : AuxChan := SMap.get {} s.ascu.chans c
def State.modAux (s : State) (c : Nat) (g : AuxChan → AuxChan) : State := { s with ascu := { s.ascu with chans := SMap.upd {} s.ascu.chans c g } }
def State.fetchEnt (s : State) (f : Nat) : Nat := SMap.get 0 s.ascu.fetch f

def feValid (e : Nat) : Bool := e.testBit 63
def feBus (e : Nat) : Nat := bitsN e 62 61
def feTrig (e : Nat) : Nat := bitsN e 60 59
def feAddr (e : Nat) : Nat := bitsN e 50 44
def feLen (e : Nat) : Nat := bitsN e 25 20 + 1
def feSlip (e : Nat) : Nat := bitsN e 19 14
def fePeriod (e : Nat) : Nat := bitsN e 95 64
def feLat (e : Nat) : Nat := bitsN e 127 96

def AuxChan.fetch (x : AuxChan) : Nat := bitsN x.src 62 59
def AuxChan.off (x : AuxChan) : Nat := bitsN x.src 58 54
def AuxChan.bytes (x : AuxChan) : Nat := bitsN x.src 53 52 + 1
def AuxChan.k (x : AuxChan) : Nat := 2 * bitsN x.chain 63 61 + 1
def AuxChan.cicN (x : AuxChan) : Nat := bitsN x.chain 52 50
def AuxChan.cicM (x : AuxChan) : Nat := bitsN x.chain 49 49 + 1
/-- R; 1 where the CIC is bypassed. -/
def AuxChan.cicR (x : AuxChan) : Nat := if x.cicN = 0 then 1 else bitsN x.chain 48 43 + 1
def AuxChan.r1 (x : AuxChan) : Nat := bitsN x.chain 29 27 + 1
def AuxChan.r2 (x : AuxChan) : Nat := bitsN x.chain 12 10 + 1
def AuxChan.rtap (x : AuxChan) : Nat := bitsN x.out 63 62
def AuxChan.period (x : AuxChan) : Nat := bitsN x.time 63 32
def AuxChan.ptol (x : AuxChan) : Nat := bitsN x.time 31 20
def AuxChan.acq (x : AuxChan) : Nat := bitsN x.time 19 0

def FirStage.bank (f : FirStage) : FirBank := if f.useB then f.b else f.a

/-- The slipcase of a channel: its fetch's (R262). -/
def State.auxSlip (s : State) (c : Nat) : Nat := feSlip (s.fetchEnt (s.aux c).fetch)

def chCnt (c i : Nat) : Nat := ascuB + 0xC000 + 0x80 * c + 8 * i
def feCnt (f i : Nat) : Nat := ascuB + 0xE000 + 0x20 * f + 8 * i

/-- Enabled channels that take from a fetch. -/
def State.fetchChans (s : State) (f : Nat) : List Nat := s.ascu.chans.keysWhere (fun _ x => x.en && x.fetch = f)

/-! ## Fetches (R263–R265, R279, R553) -/

/-- Insert a triggered fetch by its trigger instant. -/
def insTrig (x : Nat × Nat) : List (Nat × Nat) → List (Nat × Nat)
  | [] => [x]
  | y :: r => if x.1 < y.1 then x :: y :: r else y :: insTrig x r

/-- The channels of a fetch miss a sample. -/
def State.missed (s : State) (f : Nat) : State := (s.fetchChans f).foldl (fun s c => s.modAux c (fun x => { x with lost := true })) s

/-- A trigger of a fetch at an instant. -/
def State.trigger (s : State) (f t : Nat) : State :=
  let e := s.fetchEnt f
  if !feValid e then s
  else
    let b := feBus e
    let l := SMap.get [] s.ascu.busq b
    if 16 ≤ l.length then (s.bump (feCnt f 2)).missed f
    else { s with ascu := { s.ascu with busq := SMap.put [] s.ascu.busq b (insTrig (t, f) l) } }

/-- FETCH_TRIGGER (R263): an edge, or an instant of the fetch's grid, in the present tick. -/
def execFetchTrigger (f : BitVec 4) (t : BitVec 64) (s : State) : Host.Outcome State Fault Refusal :=
  let e := s.fetchEnt f.toNat
  .next (if feTrig e = 2 ∧ (fePeriod e < 1024 ∨ t.toNat % fePeriod e ≠ 0) ∨ s.tickAt t.toNat ≠ s.tim.tick ∨
    (feTrig e = 1 ∧ !s.gpioServes (32 + f.toNat) (bitsN e 56 51)) then s else s.trigger f.toNat t.toNat)

/-- IBI (R553): acknowledged; it triggers the fetches that name its address on this bus, or is counted. -/
def execIbi (i : BitVec 1) (addr : BitVec 7) (t : BitVec 64) (s : State) : Host.Outcome State Fault Refusal :=
  .next (if s.rfld (xioB + 0x390 + 4 * i.toNat) 31 31 = 0 then s
  else
    let s := s.emit .bus [i.toNat] [1, addr.toNat]
    let fs := (List.range 16).filter (fun f => let e := s.fetchEnt f; feValid e && feTrig e = 0 && feBus e = i.toNat && feAddr e = addr.toNat)
    if fs.isEmpty then s.bump (xioB + 0x460) else fs.foldl (fun s f => s.trigger f t.toNat) s)

/-- A fetch is abandoned (R279). -/
def State.acqFail (s : State) (f : Nat) : State :=
  let s := if feBus (s.fetchEnt f) < 2 then s.bump (xioB + 0x458) else s
  ((s.bump (feCnt f 1)).orReg (ascuB + 4) 1).missed f

/-- The value a channel takes from a block (R264). -/
def AuxChan.value (x : AuxChan) (data : List (BitVec 8)) : Int :=
  let b := (data.drop x.off).take x.bytes
  let v := leVal (if x.src.testBit 50 then b.reverse else b)
  if x.src.testBit 51 then sext (8 * x.bytes) v else v

/-- An input reaches a channel's queue of 16 (R268). -/
def State.auxInput (s : State) (c : Nat) (ts : Int) (data : List (BitVec 8)) : State :=
  let x := s.aux c
  if 16 ≤ x.q.length then (s.bump (chCnt c 8)).modAux c (fun x => { x with lost := true })
  else s.modAux c (fun x => { x with q := x.q ++ [{ t := ts + sext 18 (bitsN x.src 49 32), v := x.value data, gap := x.lost }], lost := false })

/-- FETCH_COMPLETE (R265, R279): the transaction of the bus's oldest triggered fetch ends, with the block read or a failure. -/
def execFetchComplete (bus : BitVec 2) (ok : Bool) (data : List (BitVec 8)) (s : State) : Host.Outcome State Fault Refusal :=
  .next (match SMap.get [] s.ascu.busq bus.toNat with
  | [] => s
  | (t, f) :: rest =>
    let s := { s with ascu := { s.ascu with busq := SMap.put [] s.ascu.busq bus.toNat rest } }
    let e := s.fetchEnt f
    if !ok ∨ data.length < feLen e then s.acqFail f
    else (s.fetchChans f).foldl (fun s c => s.auxInput c ((t : Int) - feLat e) (data.take (feLen e))) (s.bump (feCnt f 0)))

/-- I3C_STUCK (R553): bus recovery by 16 SCL pulses and STOP; the fetches that wait meanwhile are abandoned. -/
def execI3cStuck (i : BitVec 1) (s : State) : Host.Outcome State Fault Refusal :=
  let l := SMap.get [] s.ascu.busq i.toNat
  let s := { s with ascu := { s.ascu with busq := SMap.put [] s.ascu.busq i.toNat [] } }
  .next (l.foldl (fun s p => s.acqFail p.2) ((s.bump (xioB + 0x470)).emit .bus [i.toNat] [3, 16]))

/-! ## The datapath (R267–R273) -/

/-- P in units of 2^−8 ns (R267). -/
def AuxChan.p (x : AuxChan) : Nat :=
  match x.ring[0]?, x.ring[256]? with
  | some a, some b => (a - b).toNat
  | _, _ => x.period * 256

/-- Saturation to INT32, and whether it took place. -/
def sat32 (v : Int) : Int × Bool := (satFmt 5 v, decide (satFmt 5 v ≠ v))

/-- Insert into an ascending list. -/
def insInt (v : Int) : List Int → List Int
  | [] => [v]
  | y :: r => if v < y then v :: y :: r else y :: insInt v r

/-- The prefilter (R269): the window with the new input, and its output. -/
def AuxChan.pre (x : AuxChan) (v : Int) : Int × Bool × AuxChan :=
  let w := (v :: x.win).take x.k
  let l := (w ++ List.replicate (x.k - w.length) 0).foldl (fun a b => insInt b a) []
  let r := sat32 ((l[bitsN x.chain 60 57]?).getD 0 * ((2 ^ bitsN x.chain 56 53 : Nat) : Int))
  (r.1, r.2, { x with win := w })

/-- One step of the integrators: each adds the one before it, modulo 2^72. -/
def integrate : Nat → List Nat → List Nat
  | _, [] => []
  | v, a :: r => (a + v) % 2 ^ 72 :: integrate ((a + v) % 2 ^ 72) r

/-- The comb sections: each subtracts its input m outputs ago; the output and the delay lines. -/
def combSections (m : Nat) : Nat → List (List Nat) → Nat × List (List Nat)
  | v, [] => (v, [])
  | v, d :: r =>
    let o := (v + 2 ^ 72 - (d[m - 1]?).getD 0) % 2 ^ 72
    let p := combSections m o r
    (p.1, (v :: d).take m :: p.2)

/-- The CIC (R270): its output, every R inputs. -/
def AuxChan.cic (x : AuxChan) (v : Int) : Option (Int × Bool) × AuxChan :=
  if x.cicN = 0 then (some (v, false), x)
  else
    let n := x.cicN
    let ints := integrate (unsig 72 v) ((x.ints ++ List.replicate n 0).take n)
    let x := { x with ints := ints, phase := x.phase + 1 }
    if x.phase < x.cicR then (none, x)
    else
      let c := combSections x.cicM ((ints.getLast?).getD 0) ((x.combs ++ List.replicate n []).take n)
      let r := sat32 (rneDivI (sext 72 c.1) (2 ^ bitsN x.chain 42 37))
      (some r, { x with combs := c.2, phase := 0 })

/-- A pending swap is due at an output whose newest input lies in a tick (R272). -/
def FirStage.swapDue (f : FirStage) (tick : Nat) : Bool :=
  match f.pend with
  | some (some t) => decide (t ≤ tick)
  | some none => true
  | none => false

/-- A FIR stage takes a sample (R271): the output, whether it saturated and whether the stage swapped, every r samples. -/
def FirStage.push (f : FirStage) (max_ r : Nat) (v : Int) (tick : Nat) : Option (Int × Bool) × Bool × FirStage :=
  let f := { f with line := (v :: f.line).take max_, phase := f.phase + 1 }
  if f.phase < r then (none, false, f)
  else
    let sw := f.swapDue tick
    let f := { f with phase := 0, useB := f.useB != sw, pend := if sw then none else f.pend }
    let b := f.bank
    if b.taps = 0 then (some (v, false), sw, f)
    else
      let sum := ((List.range b.taps).map (fun i => (b.coef[i]?).getD 0 * (f.line[i]?).getD 0)).foldl (· + ·) 0
      (some (sat32 (rneDivI sum (2 ^ b.shift))), sw, f)

/-- S_in − 1 up to a tap point (R274): 1 prefilter, 2 CIC, 3 FIR1, 4 FIR2, with the taps of the two stages. -/
def AuxChan.reach (x : AuxChan) (tap t1 t2 : Nat) : Nat :=
  (x.k - 1) + (if 2 ≤ tap then x.cicN * (x.cicR * x.cicM - 1) else 0) + (if 3 ≤ tap then x.cicR * (t1 - 1) else 0) +
    (if 4 ≤ tap then x.cicR * x.r1 * (t2 - 1) else 0)

/-- What a slot computes at one tap point. -/
structure TapVal where
  v   : Int
  sat : Bool
deriving DecidableEq, Repr

/-- What a slot computes: values after the prefilter, CIC, FIR1 and FIR2, and which FIR stages swapped. -/
structure SlotOut where
  pre  : Int
  cic  : Option Int
  f1   : Option Int
  f2   : Option Int
  /-- Saturation at each of the four points. -/
  sats : List Bool
  sw1  : Bool
  sw2  : Bool
deriving DecidableEq, Repr

/-- Run one input through the stages. -/
def AuxChan.run (x : AuxChan) (v : Int) (tick : Nat) : SlotOut × AuxChan :=
  let a := x.pre v
  let c := a.2.2.cic a.1
  match c.1 with
  | none => ({ pre := a.1, cic := none, f1 := none, f2 := none, sats := [a.2.1], sw1 := false, sw2 := false }, c.2)
  | some cv =>
    let y := c.2
    let p := y.f1.push 64 y.r1 cv.1 tick
    match p.1 with
    | none => ({ pre := a.1, cic := some cv.1, f1 := none, f2 := none, sats := [a.2.1, cv.2], sw1 := false, sw2 := false }, { y with f1 := p.2.2 })
    | some fv =>
      let q := y.f2.push 128 y.r2 fv.1 tick
      ({ pre := a.1, cic := some cv.1, f1 := some fv.1, f2 := q.1.map (·.1), sats := [a.2.1, cv.2, fv.2, (q.1.map (·.2)).getD false], sw1 := p.2.1, sw2 := q.2.1 },
       { y with f1 := p.2.2, f2 := q.2.2 })

/-! ## Outputs (R273–R278) -/

/-- The tick that contains an instant, as a TICK_COUNT. -/
def State.tickOfNs (s : State) (t : Int) : Nat :=
  let d := (t - s.tim.bK) / (s.tickLen : Int)
  ((s.tim.kTick : Int) + d).toNat

/-- The aux ring of a slipcase: its valid AUX queue of the lowest function and number. -/
def State.auxRing (s : State) (n : Nat) : Option Nat :=
  (s.qps.find? (fun e => e.2.valid && e.2.kind = 4 && decide (s.fnSlip (e.1 / 256) = some n))).map (·.1)

/-- Move what waits into a sink's ribbon of 64 items. -/
def AuxSink.drain (k : AuxSink) : AuxSink :=
  let n := min k.spill.length ((64 - k.items.length) / 2 * 2)
  { k with items := k.items ++ k.spill.take n, spill := k.spill.drop n }

/-- Drain every sink of a channel. -/
def State.drainSinks (s : State) (c : Nat) : State :=
  s.modAux c (fun x => { x with sinks := x.sinks.map AuxSink.drain })

/-- Offer an output to the sinks of its kind; one that finds a spill queue of 64 outputs full is dropped (R278). -/
def State.toSinks (s : State) (c : Nat) (rist : Bool) (w0 w1 : BitVec 64) : State :=
  let full := fun (k : AuxSink) => k.rist == rist && decide (128 ≤ k.spill.length)
  let hit := (s.aux c).sinks.filter full
  let s := s.modAux c (fun x => { x with sinks := x.sinks.map (fun k => if k.rist == rist && !full k then ({ k with spill := k.spill ++ [w0, w1] } : AuxSink).drain else k) })
  hit.foldl (fun s k =>
    (((s.bump (chCnt c 7)).orReg (ascuB + 4) 8).fault 0x68 0xD (s.auxSlip c)).conFault (fun g => g.exist && decide (g = s.graph k.graph)) 5) s

/-- VALUE × OUT_SCALE in FP32 (R276). -/
def auxScale (v : Int) (scale : Nat) : Nat := fmtEnc 0xA ((FV.ofInt v).mul (fmtDec 0xA scale)).r32

/-- Issue one output: stamp, item, ring record (R275–R278). `tap` is its tap point. -/
def State.auxIssue (s : State) (c : Nat) (rist : Bool) (tap : Nat) (v : Int) (tNew : Int) : State :=
  let x := s.aux c
  let o := if rist then x.rist else x.lungo
  let reach := x.reach tap x.f1.bank.taps x.f2.bank.taps
  let tOut := tNew - rneDivI (reach * x.p) 512
  let raw := s.tickOfNs tOut
  let clamped := decide (raw + 1 < o.last)
  let tick := max raw (o.last - 1)
  let warm := decide (x.nIn ≤ reach)
  let gap := decide (0 < x.lastGap) && decide (x.nIn ≤ x.lastGap + reach)
  let sub := decide (0 < x.lastSub) && decide (x.nIn ≤ x.lastSub + reach)
  let bank := if 4 ≤ tap ∧ 0 < x.f2.bank.taps then x.f2.useB else if 3 ≤ tap ∧ 0 < x.f1.bank.taps then x.f1.useB else false
  let vf := auxScale v (bitsN x.out 31 0)
  let w0 := BitVec.ofNat 64 (5 * 2 ^ 61 + rist.toNat * 2 ^ 60 + warm.toNat * 2 ^ 59 + gap.toNat * 2 ^ 58 + sub.toNat * 2 ^ 57 + o.sat.toNat * 2 ^ 56 +
    clamped.toNat * 2 ^ 55 + bank.toNat * 2 ^ 54 + c * 2 ^ 49 + o.seq % 2 ^ 16 * 2 ^ 33 + tick % 2 ^ 32)
  let w1 := BitVec.ofNat 64 (unsig 32 v * 2 ^ 32 + vf)
  let late := decide (tick < o.closed)
  let s := s.bump (chCnt c (if rist then 2 else 1))
  let s := if o.sat then s.bump (chCnt c 6) else s
  let upd := fun (o : AuxOut) => { o with seq := (o.seq + 1) % 2 ^ 32, last := tick + 1, sat := false }
  let s := s.modAux c (fun x => if rist then { x with rist := upd x.rist } else { x with lungo := upd x.lungo })
  let s := if late then s.bump (chCnt c 5) else s.toSinks c rist w0 w1
  let age := (tick : Int) - s.tickOfNs (tNew - rneDivI (reach * x.p) 256)
  let flags := rist.toNat + 2 * bank.toNat + 4 * clamped.toNat + 8 * o.sat.toNat + 16 * sub.toNat + 32 * gap.toNat + 64 * warm.toNat + 128 * late.toNat
  match s.auxRing (s.auxSlip c) with
  | none => s
  | some k =>
    if late ∨ x.out.testBit 32 then
      (s.packed k 4 (s.auxSlip c) [c, flags, min age.toNat 0xFFFF, o.seq, tick, s.tim.tick, unsig 32 v, vf]).1
    else s

/-- The tap point of Lungo: the last stage in use. -/
def AuxChan.lungoTap (x : AuxChan) : Nat :=
  if 0 < x.f2.bank.taps then 4 else if 0 < x.f1.bank.taps then 3 else if 0 < x.cicN then 2 else 1

/-- The commands whose named stages have all swapped complete, with the banks in service (Table 14.8). -/
def State.swapsDone (s : State) (c : Nat) : State :=
  let x := s.aux c
  let open_ := (if x.f1.pend.isSome then 1 else 0) + (if x.f2.pend.isSome then 2 else 0)
  let done := x.swaps.filter (fun p => p.2 &&& open_ = 0)
  let s := s.modAux c (fun x => { x with swaps := x.swaps.filter (fun p => p.2 &&& open_ ≠ 0) })
  done.foldl (fun s p => s.complete p.1 0 0 (result [(x.f1.useB.toNat, 1), (x.f2.useB.toNat, 1)])) s

/-- Take one input or substitute and issue what its slot computes. -/
def State.auxTake (s : State) (c : Nat) (t v : Int) (sub gap : Bool) : State :=
  let s := s.modAux c (fun x => { x with
    tLast := some t, vLast := v, ring := (t :: x.ring).take 257, nIn := x.nIn + 1,
    lastSub := if sub then x.nIn + 1 else x.lastSub, lastGap := if gap then x.nIn + 1 else x.lastGap })
  let r := (s.aux c).run v (s.tickOfNs t)
  let o := r.1
  let satTo := fun (n : Nat) => (o.sats.take n).any id
  let x := r.2
  let lt := x.lungoTap
  let x := { x with lungo := { x.lungo with sat := x.lungo.sat || satTo lt }, rist := { x.rist with sat := x.rist.sat || satTo x.rtap } }
  let s := s.modAux c (fun _ => x)
  -- the last stage, bypassed or not, sets the rate of Lungo (R271)
  let s := match o.f2 with
    | some w => s.auxIssue c false lt w t
    | none => s
  let tapped := match x.rtap with | 1 => some o.pre | 2 => o.cic | 3 => o.f1 | _ => none
  let s := match tapped with
    | some w =>
      let r := sat32 (rneDivI w (2 ^ bitsN x.out 61 56))
      (if r.2 then s.modAux c (fun x => { x with rist := { x.rist with sat := true } }) else s).auxIssue c true x.rtap r.1 t
    | none => s
  if o.sw1 || o.sw2 then s.swapsDone c else s

/-- Forget history and zero every stage (R266). -/
def AuxChan.restart (x : AuxChan) : AuxChan :=
  { x with
    tLast := none, subs := none, ring := [], nIn := 0, lastSub := 0, lastGap := 0, win := [], ints := [], combs := [], phase := 0,
    f1 := { x.f1 with line := [], phase := 0 }, f2 := { x.f2 with line := [], phase := 0 } }

/-- Accept the input at the head of the queue. -/
def State.auxAccept (s : State) (c : Nat) (i : AuxIn) : State :=
  ((s.modAux c (fun x => { x with q := x.q.drop 1, subs := none })).bump (chCnt c 0)).auxTake c i.t i.v false i.gap

/-- Insert substitute k of m, from an instant on with a period in 2^−8 ns (R266). -/
def State.auxSubst (s : State) (c k m : Nat) (base : Int) (p : Nat) (gap : Bool) : State :=
  let s := (s.modAux c (fun x => { x with subs := some (k, m, base, p) })).bump (chCnt c 3)
  s.auxTake c (base + rneDivI (k * p) 256) (s.aux c).vLast true gap

/-- CHANNEL_SLOT (R266, R268): at most one input or substitute. -/
def State.auxSlot (s : State) (c : Nat) : State :=
  if !(s.aux c).en then s
  else
    let s := s.drainSinks c
    let x := s.aux c
    match x.q with
    | [] => s
    | i :: rest =>
      match x.subs, x.tLast with
      | some (k, m, base, p), _ => if k < m then s.auxSubst c (k + 1) m base p i.gap else s.auxAccept c { i with gap := false }
      | none, none => s.auxAccept c i
      | none, some tl =>
        let d := i.t - tl
        if d ≤ 0 then (s.modAux c (fun x => { x with q := rest })).bump (chCnt c 9)
        else if (d.toNat * 256) * 2 ≤ 3 * x.p then s.auxAccept c i
        else
          let m := rneDiv (d.toNat * 256) (max 1 x.p) - 1
          if 8 < m then (((s.modAux c AuxChan.restart).orReg (ascuB + 4) 4).bump (chCnt c 4)).auxAccept c i
          else if m = 0 then s.auxAccept c i
          else s.auxSubst c 1 m tl x.p i.gap

def execChannelSlot (c : BitVec 5) (s : State) : Host.Outcome State Fault Refusal := .next (s.auxSlot c.toNat)

/-- AUX_TICK_END (R277): in every enabled channel's outputs, the tick-end marks of the ticks whose hold has passed. -/
def execAuxTickEnd (s : State) : Host.Outcome State Fault Refusal :=
  let upd := fun (o : AuxOut) => if o.hold = 0 then o else { o with closed := max o.closed (s.tim.tick + 1 - o.hold) }
  .next { s with ascu := { s.ascu with chans := SMap.mapAll {} s.ascu.chans (fun _ x => if x.en then { x with lungo := upd x.lungo, rist := upd x.rist } else x) } }

/-! ## The Aux class (Table 14.8) -/

/-- A function may command a channel or fetch of a slipcase. -/
def State.mayAux (s : State) (h : CmdRef) (n : Nat) : Bool := decide (h.fn = 0) || decide (s.fnSlip h.fn.toNat = some n)

/-- The format of a fetch entry. -/
def fetchBad (e : Nat) : Bool :=
  feTrig e = 3 || bitsN e 27 26 = 3 || decide (32 < feLen e) || e.testBit 57 || decide (bitsN e 13 0 ≠ 0) ||
    (feTrig e = 2 && decide (fePeriod e < 1024)) || (feTrig e = 0 && decide (2 ≤ feBus e)) || (feBus e = 2 && bitsN e 46 44 = 0)

/-- AUX_FETCH_SET. -/
def execAuxFetchSet (h : CmdRef) (f : BitVec 8) (e : BitVec 128) (s : State) : Host.Outcome State Fault Refusal :=
  .next (s.cmd h 0x0801 (.auxFetchSet h f e) (fun s _ =>
    if 16 ≤ f.toNat ∨ (e.getLsbD 63 ∧ fetchBad e.toNat) then .err s stBadParam 0xF025
    else if !(s.fetchChans f.toNat).isEmpty then .err s stTransition 1
    else .ok (State.gpioUpdate { s with ascu := { s.ascu with fetch := SMap.put 0 s.ascu.fetch f.toNat e.toNat } } (32 + f.toNat))))

/-- Reserved bits of the setting words are 0. -/
def auxWordsBad (src chain out : Nat) : Bool :=
  decide (bitsN src 31 0 ≠ 0) || decide (bitsN chain 3 0 ≠ 0) || decide (bitsN out 51 33 ≠ 0)

/-- AUX_CHAN_SET (R262): a write while EN = 1 changes nothing and sets CFG_WHILE_EN. -/
def execAuxChanSet (h : CmdRef) (c : BitVec 8) (src chain out time : BitVec 64) (s : State) : Host.Outcome State Fault Refusal :=
  .next (s.cmd h 0x0802 (.auxChanSet h c src chain out time) (fun s _ =>
    if 32 ≤ c.toNat ∨ auxWordsBad src.toNat chain.toNat out.toNat then .err s stBadParam 0xF025
    else if (s.aux c.toNat).en then .errKeep (s.orReg (ascuB + 4) 16) stTransition 2
    else .ok (s.modAux c.toNat (fun x => { x with src := src.toNat % 2 ^ 63, chain := chain.toNat, out := out.toNat, time := time.toNat }))))

/-- The checks of R264 and the ranges of Table 10.10. -/
def State.auxCfgOk (s : State) (c : Nat) : Bool :=
  let x := s.aux c
  let e := s.fetchEnt x.fetch
  feValid e && decide (x.off + x.bytes ≤ feLen e) && decide (bitsN x.chain 63 61 ≤ 4) && decide (bitsN x.chain 60 57 < x.k) && decide (x.cicN ≤ 5) &&
    decide (bitsN x.chain 42 37 ≤ 47) && decide (bitsN x.out 61 56 ≤ 47)

/-- The hold of an output with a support of r + 1 inputs (R277). -/
def State.auxHold (s : State) (x : AuxChan) (r : Nat) : Nat :=
  let den := 2000000 * s.tickLen
  (r * x.period * (1000000 + x.ptol) + x.acq * 2000000 + den - 1) / den + 1

/-- AUX_CHAN_ENABLE. -/
def State.auxEnable (s : State) (h : CmdRef) (c : Nat) (en : Nat) : Res :=
  if 32 ≤ c ∨ 1 < en then .err s stBadParam 0xF025
  else if !s.mayAux h (s.auxSlip c) then .err s stNotPermitted 0xF024
  else if en = 0 then .ok (s.modAux c (fun x => { x with en := false, q := [], lost := false }))
  else if !s.auxCfgOk c then .errKeep (s.orReg (ascuB + 4) 2) stBadParam 3
  else
    let x := s.aux c
    let t1 := max x.f1.a.taps x.f1.b.taps
    let t2 := max x.f2.a.taps x.f2.b.taps
    let hl := s.auxHold x (x.reach 4 t1 t2)
    let hr := if x.rtap = 0 then 0 else s.auxHold x (x.reach x.rtap t1 t2)
    let res := result [(hl, 4), (hr, 4)]
    if x.en then .ok s (result [(x.lungo.hold, 4), (x.rist.hold, 4)])
    else .ok (s.modAux c (fun x => { x.restart with en := true, q := [], lost := false, lungo := { hold := hl }, rist := { hold := hr } })) res

def execAuxChanEnable (h : CmdRef) (c en : BitVec 8) (s : State) : Host.Outcome State Fault Refusal :=
  .next (s.cmd h 0x0803 (.auxChanEnable h c en) (fun s _ => s.auxEnable h c.toNat en.toNat))

/-- c_i = c_(TAPS−1−i) for every i. -/
def coefSym (l : List Int) : Bool := l == l.reverse

/-- AUX_COEF_LOAD (R272): the bank not in service. -/
def State.coefLoad (s : State) (h : CmdRef) (c stage taps shift : Nat) (coef : List (BitVec 16)) : Res :=
  let x := s.aux c
  let f := if stage = 1 then x.f1 else x.f2
  let m := if stage = 1 then 64 else 128
  if 32 ≤ c ∨ stage = 0 ∨ 2 < stage ∨ 47 < shift then .err s stBadParam 0xF025
  else if !s.mayAux h (s.auxSlip c) then .err s stNotPermitted 0xF024
  else if m < taps then .err s stBadParam 5
  else if f.pend.isSome then .err s stTransition 4
  else
    let l := ((coef.take m).map (fun w => w.toInt))
    let b : FirBank := { taps := taps, shift := shift, coef := l, sym := coefSym (l.take taps) }
    let f' := if f.useB then { f with a := b } else { f with b := b }
    .ok (s.modAux c (fun x => if stage = 1 then { x with f1 := f' } else { x with f2 := f' })) (result [(b.sym.toNat, 1)])

def execAuxCoefLoad (h : CmdRef) (c stage taps shift : BitVec 8) (coef : List (BitVec 16)) (s : State) : Host.Outcome State Fault Refusal :=
  .next (s.cmd h 0x0804 (.auxCoefLoad h c stage taps shift coef) (fun s _ => s.coefLoad h c.toNat stage.toNat taps.toNat shift.toNat coef))

/-- AUX_COEF_SWAP (R272): the swap waits for its output; the command completes there. -/
def State.coefSwap (s : State) (h : CmdRef) (c st : Nat) (at_ : Option Nat) : Res :=
  let x := s.aux c
  if 32 ≤ c ∨ st = 0 ∨ 3 < st then .err s stBadParam 0xF025
  else if !s.mayAux h (s.auxSlip c) then .err s stNotPermitted 0xF024
  else if (st.testBit 0 ∧ x.f1.pend.isSome) ∨ (st.testBit 1 ∧ x.f2.pend.isSome) then .err s stTransition 4
  else .later (s.modAux c (fun x => { x with
    f1 := if st.testBit 0 then { x.f1 with pend := some at_ } else x.f1,
    f2 := if st.testBit 1 then { x.f2 with pend := some at_ } else x.f2,
    swaps := x.swaps ++ [(h, st)] }))

def execAuxCoefSwap (h : CmdRef) (c stages : BitVec 8) (s : State) : Host.Outcome State Fault Refusal :=
  .next (if (s.startable h 0x0805).any (fun f => f.atEn) then
    s.cmdAt h 0x0805 (.auxCoefSwap h c stages) (fun s _ d => s.coefSwap h c.toNat stages.toNat (some (s.tim.tick + d)))
  else s.cmdOpen h 0x0805 (.auxCoefSwap h c stages) (fun s _ => s.coefSwap h c.toNat stages.toNat none))

/-- Step 3d of Table 15.6 for the ASCU: a slipcase's channels stop and their banks clear; swaps that wait are aborted. -/
def State.scrubAux (s : State) (n : Nat) : State :=
  let cs := (List.range 32).filter (fun c => feValid (s.fetchEnt (s.aux c).fetch) && decide (s.auxSlip c = n))
  cs.foldl (fun s c =>
    let s := (s.aux c).swaps.foldl (fun s p => s.complete p.1 stAborted 0) s
    s.modAux c (fun _ => {})) s

end Sys2Proof.Machine
end

