-- ==== Sys2Proof/Machine/Scrub.lean ====
section
/-! DEFINITION. Ending what a slipcase holds: quire scrub (R144), region and port clears, release of contracts (R334, R82),
unloading of graphs, and the scrub sequence of Table 15.6. -/
namespace Sys2Proof.Machine

/-! ## Quires -/

/-- A quire scrub (R144): memories, channels, rings, kernels and commit buffers return to reset; the place in the live map, the
clock steps and the replay window are kept. -/
def Quire.scrub (q : Quire) : Quire :=
  { state := q.state, slip := q.slip, curStep := q.curStep, target := q.target, contractStep := q.contractStep, adaptive := q.adaptive,
    winStart := q.winStart, winReplays := q.winReplays, winOver := q.winOver }

/-! ## Ports and regions (Table 15.6, steps 3b and 3c) -/

/-- Disable a port and clear its packet buffer, hot-pixel mask, cell map and recent-write buffer. -/
def State.scrubPort (s : State) (n : Nat) : State :=
  let s := s.setRfld (hopB n) 0 0 0
  let s := s.modHop n (fun h => { h with buf := [], hot := [], hotWas := [], cells := [], items := [], hold := false })
  s.modSfm n (fun f => { f with rwb := [] })

/-- Disable a region's surface and its units and clear it to 0x7FFF. -/
def State.scrubRegion (s : State) (r : Nat) : State :=
  let s := ((s.setRfld (sfmP r) 31 31 0).setRfld (sfmP r + 0x20) 31 31 0).setRfld (sfmP r + 0x28) 31 31 0
  s.modSfm r (fun f => { f with
    entries := [], conv := none, shift := 0, origin := none, clearing := false, pendEpochs := 0, rwb := [], crnItems := [], flwItems := [],
    snap := {}, slots := [{}, {}, {}, {}] })

/-- Another slipcase read-shares a region (R393). -/
def State.sharedByOther (s : State) (n r : Nat) : Bool :=
  s.slips.any (fun e => decide (e.1 ≠ n) && decide (e.2.state ≠ 0) && e.2.regions.getLsbD r)

/-! ## Contracts -/

/-- Ports that feed an admitted contract. -/
def Contract.ports (c : Contract) : List Nat := (c.srcs.filter (fun x => x.kind = 1)).map (fun x => x.index.toNat + x.link.toNat)

/-- Clear the limiters of links that no contract needs (R82). -/
def State.clearLimiters (s : State) : State :=
  let used := s.contracts.flatMap (fun e => if e.2.exist ∧ e.2.state ≠ 2 then e.2.ports else [])
  (List.range 16).foldl (fun s n => if used.contains n then s else s.setRfld (hopB n) 5 5 0) s

/-- Which of a graph's channels feed an admitted contract (R86). -/
def State.markContracted (s : State) : State :=
  let gs := (s.contracts.filter (fun e => e.2.exist && e.2.state ≠ 2)).map (fun e => e.2.graph)
  let upd := fun (c : HChan) => { c with contracted := match c.consumer with | .graph g => gs.contains g | _ => false }
  { s with hops := SMap.mapAll {} s.hops (fun _ h => { h with chans := h.chans.map upd }),
           sfms := SMap.mapAll {} s.sfms (fun _ f => { f with crnChans := f.crnChans.map upd, flwChans := f.flwChans.map upd }) }

/-- The wake sets recorded against every Hopper that feeds an admitted graph (R31). -/
def State.recordWake (s : State) : State :=
  let cs := s.contracts.filter (fun e => e.2.exist && decide (e.2.state ≠ 2))
  (List.range 16).foldl (fun s n => s.modHop n (fun h => { h with
    wake := ((cs.filter (fun e => e.2.ports.contains n)).flatMap (fun e => (s.graph e.2.graph).wake)).eraseDups })) s

/-- Another contract than c takes a stream as its SPINE source (R451). -/
def State.strmContract (s : State) (c n : Nat) : Bool :=
  s.contracts.any (fun e => decide (e.1 ≠ c) && e.2.exist && decide (e.2.state ≠ 2) &&
    e.2.srcs.any (fun x => decide (x.kind = 4 ∧ x.index.toNat + 256 * (x.link.toNat % 16) = n)))

/-- End a contract's guarantee (R334) for reference ticks from this one on: its graph has none, its links' limiters, its streams'
classes, its keep-warm settings and its pairs are withdrawn. -/
def State.endContract (s : State) (c : Nat) : State :=
  let g := (s.contract c).graph
  let s := s.modGraph g (fun x => { x with contract := 0, partners := [] })
  -- reference ticks before this one are still monitored
  let s := { s with dues := s.dues.filter (fun d => decide (d.con ≠ c ∨ d.tref < s.tim.tick)) }
  let s := { s with streams := SMap.mapAll {} s.streams (fun n t => { t with contracted := t.contracted && s.strmContract c n }) }
  let s := s.modPwr (fun p => { p with warm := p.warm.filter (fun w => decide (w.1 ≠ c)) })
  let s := s.modSi (fun x => { x with pairs := x.pairs.filter (fun p => decide (p.contract ≠ c)) })
  (s.clearLimiters).markContracted.recordWake

/-- Tell the other devices of a contract that it ends (R340): the home device tells every part, of a release (0) or a revocation (1) at a
tick; a part tells its home device. -/
def State.withdrawParts (s : State) (c kind tick : Nat) : State :=
  let x := s.contract c
  let s := x.parts.foldl (fun s d => s.sendTo { dst := d, src := s.devId, body := .contract [4, c, kind, tick] }) s
  match x.home with
  | some (d, n) => s.sendTo { dst := d, src := s.devId, body := .contract [6, n, kind, tick] }
  | none => s

/-- Release a contract: the object is withdrawn; what is left of it is what the reference ticks before this one need. -/
def State.dropContract (s : State) (c : Nat) : State :=
  let s := ((s.modContract c (fun x => { x with state := 2 })).endContract c).modContract c (fun x => { x with exist := false })
  s.log 0x6F 0xFF 0 5 [c, 1]

def State.releaseContract (s : State) (c : Nat) : State := (s.withdrawParts c 0 s.tim.tick).dropContract c

/-! ## Graphs -/

/-- A channel that a graph takes items from. -/
def HChan.ofGraph (c : HChan) (g : Nat) : Bool := match c.consumer with | .graph x => x = g | .quire x _ _ => x = g | _ => false

/-- Close the channels a graph takes items from: at ports, derived-event units and the ASCU. -/
def State.closeChans (s : State) (g : Nat) : State :=
  { s with hops := SMap.mapAll {} s.hops (fun _ h => { h with chans := h.chans.filter (fun c => !c.ofGraph g) }),
           sfms := SMap.mapAll {} s.sfms (fun _ f =>
             { f with crnChans := f.crnChans.filter (fun c => !c.ofGraph g), flwChans := f.flwChans.filter (fun c => !c.ofGraph g) }),
           ascu := { s.ascu with chans := SMap.mapAll {} s.ascu.chans (fun _ c => { c with sinks := c.sinks.filter (fun z => decide (z.graph ≠ g)) }) } }

/-- End the reads of a graph that wait for their tick: of virtual frames (R193) and of neurons (R239). -/
def State.endReads (s : State) (g st det : Nat) : State :=
  let x := s.graph g
  let s := ((x.delta.map (·.reads)).getD []).foldl (fun s r => s.complete r.ref st det) s
  let s := x.quires.foldl (fun s q => (s.quire q).spk.reads.foldl (fun s r => s.complete r.ref st det) s) s
  let s := s.modGraph g (fun x => { x with delta := x.delta.map (fun d => { d with reads := [] }) })
  x.quires.foldl (fun s q => s.modTile q (fun t => { t with reads := [] })) s

/-- Unload a graph's jobs, slots and sets. -/
def State.unloadFu (s : State) (g : Nat) : State :=
  { s with fu := {
      jobs := s.fu.jobs.filter (fun e => decide (e.2.graph ≠ g)), srcs := s.fu.srcs.filter (fun e => decide (e.2.graph ≠ g)),
      sets := s.fu.sets.filter (fun e => decide (e.2.graph ≠ g)) } }

/-- Unload a spiking part: tiles, groups and attach ports. -/
def State.unloadSpk (s : State) (slip : Nat) (qs : List Nat) (p : SpkPart) : State :=
  let s := qs.foldl (fun s q => s.modTile q (fun _ => {})) s
  let s := s.modKxb (fun x => { x with
    groups := p.groups.foldl (fun m g => if bitsN (SMap.get 0 m (g.num % 1024)) 126 121 = slip then SMap.put 0 m (g.num % 1024) 0 else m) x.groups,
    att := p.atts.foldl (fun m a => SMap.put 0 m (s.cfgPort (a.1 % 16)) 0) x.att })
  p.atts.foldl (fun s a => s.modHop (s.cfgPort (a.1 % 16)) (fun h => { h with chans := h.chans.filter (fun c => decide (c.consumer ≠ .attach)) })) s

/-- Unload a quire: its channels, kernels, rings and commit buffers return to reset, its memories stay (log entry). -/
def Quire.unload (q : Quire) : Quire := { q with chans := [], kernels := [], segs := [], ae0 := {}, ae1 := {}, aeFault := 0, busy := 0 }

/-- Remove a graph from the device: its channels at ports and units, its records and reference ticks, and its parts. -/
def State.dropGraph (s : State) (g : Nat) : State :=
  let x := s.graph g
  let s := (s.endReads g stAborted 0xF011).closeChans g
  let s := { s with recs := s.recs.filter (fun r => decide (r.graph ≠ g)), dues := s.dues.filter (fun d => decide (d.graph ≠ g)),
                    sfms := SMap.mapAll {} s.sfms (fun _ f => { f with slots := f.slots.map (fun (z : SampSlot) => if z.busy && z.graph = g then {} else z) }) }
  let s := match x.pkg.bind (·.spk) with | some p => s.unloadSpk x.slip x.quires p | none => s
  let s := (x.quires ++ x.partners).foldl (fun s q => s.modQuire q Quire.unload) s
  let s := (s.unloadFu g).dropAdmits (fun a => a.desc.graph.toNat = g)
  { s with graphs := SMap.put {} s.graphs g {} }

/-! ## The scrub sequence (R407, R414, Table 15.6) -/

/-- Close a stream whose slipcase is scrubbed: commands that wait for its far end are aborted, and CLOSE goes to an end that is up. -/
def State.scrubStrm (s : State) (n : Nat) : State :=
  let t := s.strm n
  let s := (t.openRef.toList ++ t.closeRef.toList ++ t.fenceRef.toList).foldl (fun s h => s.complete h stAborted 0xF010) s
  let s := if 2 ≤ t.state then s.sendTo { dst := t.peer, src := s.devId, stream := n + t.cls * 4096, body := .streamCtl 3 t.spike.toNat (t.lag - 1) } else s
  { s with streams := SMap.put {} s.streams n {} }

/-- Step 3d: what the slipcase holds in the chip-level units: source slots, banks and tracks, readout and detection work, aux channels,
groups and attach settings; its streams are closed. -/
def State.scrubChip (s : State) (n : Nat) : State :=
  let gs := (s.graphs.filter (fun e => e.2.exist && decide (e.2.slip = n))).map (·.1)
  let s := gs.foldl (fun s g => (s.unloadFu g).modGraph g (fun x => { x with readout := x.readout.map (fun d => { d with insts := [], asked := [], skipped := 0 }) })) s
  let s := s.scrubAux n
  let hs := bitsSet 16 (s.slip n).hoppers.toNat
  let s := s.modKxb (fun x => { x with
    groups := x.groups.filter (fun e => decide (bitsN e.2 126 121 ≠ n)), att := x.att.filter (fun e => !hs.contains e.1),
    src := x.src.filter (fun w => decide (w.slip ≠ n)) })
  let s := hs.foldl (fun s r => s.modHop r (fun h => { h with chans := h.chans.filter (fun c => decide (c.consumer ≠ .attach)) })) s
  let s := s.setRfld (kxbB + 0x100 + 4 * n) 8 8 0
  (s.streams.keysWhere (fun _ t => decide (t.slip = some n))).foldl State.scrubStrm s

/-- A VF of a sealed slipcase moves to the TDISP state ERROR, on entry to which it is reset (R414, R540). -/
def State.tdispError (s : State) (f : Nat) : State :=
  if (s.fn f).tdisp = .locked ∨ (s.fn f).tdisp = .run then
    (s.modFn f (fun x => { x with tdisp := .error })).resetVf f false
  else s

/-- Steps 1 to 3 of Table 15.6: locked VFs to ERROR, quires scrubbed, regions and ports cleared, chip-level state cleared. -/
def State.scrubSlip (s : State) (n st : Nat) : State :=
  let p := s.slip n
  let s := s.modSlip n (fun p => { p with state := st, drain := none })
  let s := (s.vfsOf n).foldl State.tdispError s
  let s := (s.graphs.filter (fun e => e.2.exist && decide (e.2.slip = n))).foldl (fun s e => s.endReads e.1 stAborted 0xF011) s
  let s := p.quires.foldl (fun s q => s.modQuire q Quire.scrub) s
  let s := (bitsSet 16 p.hoppers.toNat).foldl (fun s r => if s.sharedByOther n r then s else s.scrubRegion r) s
  let s := (bitsSet 16 p.hoppers.toNat).foldl State.scrubPort s
  s.scrubChip n

/-- Discard the records of an overflow buffer, counting each (step 4). -/
def State.dropOvf (s : State) (n : Nat) : State :=
  let l := (s.slip n).ovf
  let s := l.foldl (fun s r => s.dropRec r.queue n) s
  s.modSlip n (fun p => { p with ovf := [] })

/-- Unassign a slipcase's quires. -/
def State.freeQuires (s : State) (qs : List Nat) : State := qs.foldl (fun s q => s.modQuire q (fun x => { x.scrub with slip := none })) s

end Sys2Proof.Machine
end

