-- ==== Sys2Proof/Machine/Partition.lean ====
section
/-! DEFINITION. Slipcases (15): the meanings of the Partition class and of the family's events. -/
namespace Sys2Proof.Machine

/-! ## DRAM granules (R397, R545) -/

/-- DRAM granules, in data capacity: 8 channels of MC_CFG.GIB_PER_CH GiB, 31/32 of it under inline ECC. -/
def State.dramGran (s : State) : Nat :=
  let g := 8 * min 8 (max 1 (s.rfld mcB 27 20)) * 512
  if s.rfld mcB 30 30 = 1 then g * 31 / 32 else g

/-- The first granule of the service area, the top 256 MiB. -/
def State.svcGran (s : State) : Nat := s.dramGran - 128

def granBytes : Nat := 2097152

/-- Free granules, highest first: those nearest to the service area. -/
def State.freeGrans (s : State) : List Nat :=
  ((s.granules.filter (fun e => decide (e.2 = .free ∧ e.1 < s.svcGran))).map (·.1)).reverse

/-- The granules of a window. -/
def Win.grans (w : Win) : List Nat := (List.range (w.size / granBytes)).map (fun i => w.base / granBytes + i)

/-- A window's own format (Table 15.5, R401). -/
def State.winOk (s : State) (w : Win) : Bool :=
  decide (w.win < 16 ∧ w.base % granBytes = 0 ∧ w.size % granBytes = 0 ∧ granBytes ≤ w.size ∧ w.base + w.size ≤ s.svcGran * granBytes)

/-- Two windows overlap. -/
def Win.overlaps (a b : Win) : Bool := decide (a.base < b.base + b.size ∧ b.base < a.base + a.size)

/-- Windows name different WINs and do not overlap. -/
def winsApart : List Win → Bool
  | [] => true
  | w :: r => r.all (fun x => decide (x.win ≠ w.win) && !w.overlaps x) && winsApart r

/-- A granule may be covered by a window of a key slot: FREE, or OWNED by it. -/
def State.granOk (s : State) (ks g : Nat) : Bool := s.gran g = .free || s.gran g = .owned ks

/-- Granules that windows cover become OWNED by the key slot. -/
def State.ownGrans (s : State) (ks : Nat) (ws : List Win) : State :=
  (ws.flatMap Win.grans).foldl (fun s g => s.setGran g (.owned ks)) s

/-! ## Quires (R391) -/

/-- Active quires that belong to no slipcase. -/
def State.unassigned (s : State) : List Nat := (List.range 68).filter (fun q => decide (s.qState q = 1) && (s.quire q).slip.isNone)

/-- Quires for n more: whole free clusters where n is a multiple of 4 and enough are free, else clusters already used first. -/
def State.pickQuires (s : State) (slip n : Nat) : Option (List Nat) :=
  let u := s.unassigned
  let whole := (List.range 17).filter (fun c => (List.range 4).all (fun i => u.contains (4 * c + i)))
  let own := (s.slip slip).quires.map (· / 4)
  let first := u.filter (fun q => own.contains (q / 4)) ++ u.filter (fun q => !own.contains (q / 4))
  if n % 4 = 0 ∧ n / 4 ≤ whole.length then some ((whole.take (n / 4)).flatMap (fun c => (List.range 4).map (4 * c + ·)))
  else if n ≤ u.length then some (first.take n) else none

/-- Give quires to a slipcase. -/
def State.giveQuires (s : State) (slip : Nat) (qs : List Nat) : State :=
  qs.foldl (fun s q => s.modQuire q (fun x => { x with slip := some slip, adaptive := (s.slip slip).adaptive })) s

/-! ## PARTITION_CREATE (R392) -/

/-- Both ports of a pair, or neither. -/
def State.pairsWhole (s : State) (m : BitVec 16) : Bool :=
  (List.range 8).all (fun k => !s.paired (2 * k) || m.getLsbD (2 * k) = m.getLsbD (2 * k + 1))

/-- A port is held by a slipcase other than n. -/
def State.portTaken (s : State) (n p : Nat) : Bool :=
  s.slips.any (fun e => decide (e.1 ≠ n) && decide (e.2.state ≠ 0) && e.2.hoppers.getLsbD p)

def PartBody.windows (b : PartBody) : List Win :=
  (List.range b.wins.length).map (fun i =>
    let w := (b.wins[i]?).getD (0, 0)
    { win := i, rd := true, wr := true, base := w.1.toNat, size := w.2.toNat })

/-- The ranges of Table 14.4 and Table 15.1. -/
def PartBody.rangesOk (b : PartBody) : Bool :=
  decide (b.slipcase.toNat < 64 ∧ b.mode.toNat < 2 ∧ b.keySlot.toNat < 4096 ∧ 1 ≤ b.nQuires.toNat ∧ b.nQuires.toNat ≤ 64 ∧
    1 ≤ b.wins.length ∧ b.wins.length ≤ 16 ∧ b.ovfKib.toNat % 2048 = 0 ∧ 2048 ≤ b.ovfKib.toNat ∧ b.ovfKib.toNat ≤ 1048576)

def State.partCreate (s : State) (b : PartBody) : Res :=
  let n := b.slipcase.toNat
  let ks := b.keySlot.toNat
  let ws := PartBody.windows b
  let excess := b.ovfKib.toNat / 2048
  if !PartBody.rangesOk b then .err s stBadParam 0xF025
  else if (s.slip n).state ≠ 0 then .err s stNoResource 1
  else if !(ws.all s.winOk && winsApart ws) then .err s stBadParam 0xB
  else match s.pickQuires n b.nQuires.toNat with
  | none => .err s stNoResource 2
  | some qs =>
    let ports := bitsSet 16 b.hoppers.toNat
    if !s.pairsWhole b.hoppers ∨ ports.any (s.portTaken n) then .err s stNoResource 3
    else if ports.any (fun p => !b.regions.getLsbD p) then .err s stNoResource 4
    else if (s.key ks).state = 2 then .err s stNoResource 5
    else
      let used := ws.flatMap Win.grans
      let ovg := (s.freeGrans.filter (fun g => !used.contains g)).take excess
      if !(used.all (s.granOk ks)) ∨ ovg.length < excess then .err s stNoResource 6
      else
        let s := s.ownGrans ks ws
        let s := ovg.foldl (fun s g => s.setGran g (.owned ks)) s
        let s := s.modKey ks (fun k => { k with state := 2, slip := n })
        let s := s.modSlip n (fun _ =>
          { state := 1, adaptive := decide (b.mode = 1), keySlot := ks, quires := qs, hoppers := b.hoppers, regions := b.regions,
            ovfKib := b.ovfKib.toNat, powerMw := b.powerMw.toNat, epoch := 1, rules := ws, ovfGran := ovg })
        let s := s.giveQuires n qs
        let s := ports.foldl (fun s p => s.setRfld (hopB p) 0 0 0) s
        .ok s (result [(maskOf qs, 9)])

def execPartitionCreate (h : CmdRef) (b : PartBody) (s : State) : Host.Outcome State Fault Refusal :=
  .next (s.cmd h 0x0101 (.partitionCreate h b) (fun s _ => s.partCreate b))

/-! ## Rule changes (R403) -/

/-- The next RULE_EPOCH of a slipcase with a new table. -/
def State.newRules (s : State) (n : Nat) (ws : List Win) : State :=
  (s.modSlip n (fun p => { p with rules := ws, epoch := (p.epoch + 1) % 2 ^ 32 })).bump (mcB + 0x3000)

/-- Access Engine descriptors of a slipcase in flight under an epoch other than its present one (R403, step 3). -/
def State.oldFlights (s : State) (n : Nat) : Nat :=
  let e := (s.slip n).epoch
  let old := fun (a : Ae) => (a.flight.filter (fun f => !f.done && decide (f.epoch ≠ e))).length
  ((s.slip n).quires.map (fun q => old (s.quire q).ae0 + old (s.quire q).ae1)).foldl (· + ·) 0

/-- End a rule change whose old requests have all completed: the command completes (R403, step 4). -/
def State.ruleDrain (s : State) (n : Nat) : State :=
  match (s.slip n).drain with
  | none => s
  | some d =>
    if s.oldFlights n = 0 then (s.modSlip n (fun p => { p with drain := none })).complete d.ref stOk 0 d.res else s

/-- RULE_DRAIN (R403). -/
def execRuleDrain (slip : BitVec 6) (s : State) : Host.Outcome State Fault Refusal := .next (s.ruleDrain slip.toNat)

/-! ## PARTITION_RESIZE (R394) -/

/-- Quires that a loaded graph of a slipcase uses. -/
def State.usedQuires (s : State) (n : Nat) : List Nat :=
  s.graphs.flatMap (fun e => if e.2.exist ∧ e.2.slip = n then e.2.quires ++ e.2.partners else [])

/-- Ports that a loaded graph of a slipcase uses; those of contracted graphs. -/
def State.usedPorts (s : State) (n : Nat) (con : Bool) : List Nat :=
  s.graphs.flatMap (fun e => if e.2.exist ∧ e.2.slip = n ∧ (con → e.2.contract ≠ 0) then e.2.ports else [])

/-- Whether a graph with a contract uses a quire. -/
def State.conQuire (s : State) (q : Nat) : Bool :=
  s.graphs.any (fun e => e.2.exist && decide (e.2.contract ≠ 0) && (e.2.quires ++ e.2.partners).contains q)

/-- What a resize does to the quires: the new list and the state, or a refusal. -/
def State.resizeQuires (s : State) (n want : Nat) : Except (Nat × Nat) (List Nat × State) :=
  let p := s.slip n
  let have_ := p.quires.length
  if have_ ≤ want then
    match s.pickQuires n (want - have_) with
    | some qs => .ok (p.quires ++ qs, s.giveQuires n qs)
    | none => .error (stNoResource, 2)
  else
    let idle := p.quires.filter (fun q => !(s.usedQuires n).contains q)
    if idle.length < have_ - want then .error (if p.quires.any s.conQuire then (stNotPermitted, 7) else (stNoResource, 2))
    else
      let go := (idle.reverse).take (have_ - want)
      .ok (p.quires.filter (fun q => !go.contains q), s.freeQuires go)

def State.partResize (s : State) (h : CmdRef) (n want : Nat) (hop reg : BitVec 16) : Res :=
  let p := s.slip n
  let out := bitsSet 16 (p.hoppers.toNat &&& ((~~~ hop).toNat))
  if s.sealed n then .err s stNotPermitted 0xD
  else if p.drain.isSome then .err s stTransition 0xF026
  else if want = 0 ∨ 64 < want then .err s stBadParam 0xF025
  else if out.any (fun x => (s.usedPorts n true).contains x) then .err s stNotPermitted 7
  else if out.any (fun x => (s.usedPorts n false).contains x) ∨ !s.pairsWhole hop ∨ (bitsSet 16 hop.toNat).any (s.portTaken n) then .err s stNoResource 3
  else if (bitsSet 16 hop.toNat).any (fun x => !reg.getLsbD x) then .err s stNoResource 4
  else match s.resizeQuires n want with
  | .error e => .err s e.1 e.2
  | .ok (qs, s) =>
    let s := out.foldl (fun s x => (if s.sharedByOther n x then s else s.scrubRegion x).scrubPort x) s
    let s := s.modSlip n (fun p => { p with quires := qs, hoppers := hop, regions := reg })
    let s := s.newRules n p.rules
    .later (s.modSlip n (fun x => { x with drain := some { ref := h, res := result [(maskOf qs, 9)] } }))

def execPartitionResize (h : CmdRef) (n : BitVec 8) (hoppers regions : BitVec 16) (s : State) : Host.Outcome State Fault Refusal :=
  .next (s.cmd h 0x0102 (.partitionResize h n hoppers regions) (fun s f => s.partResize h f.objId.toNat n.toNat hoppers regions))

/-! ## Handover, destroy and reset (R395, R406–R410) -/

/-- A graph of the slipcase is loaded. -/
def State.hasGraph (s : State) (n : Nat) : Bool := s.graphs.any (fun e => e.2.exist && decide (e.2.slip = n))

/-- A key slot leaves service with its slipcase's rule table (R398). -/
def State.parkKey (s : State) (n : Nat) : State :=
  let p := s.slip n
  s.modKey p.keySlot (fun k => { k with state := 1, slip := 0, rules := p.rules, epoch := p.epoch })

/-- Clear the contents of granules and give them a state. -/
def State.clearGrans (s : State) (gs : List Nat) (g : Granule) : State :=
  gs.foldl (fun s x => State.setGran { s with dram := SMap.clear s.dram (x * granBytes) ((x + 1) * granBytes) } x g) s

/-- PARTITION_HANDOVER (R406, Table 15.6). -/
def State.handover (s : State) (n slot scrubUs : Nat) : Res :=
  let p := s.slip n
  if p.drain.isSome then .err s stTransition 0xF026
  else if s.hasGraph n then .err s stTransition 8
  else if 4096 ≤ slot ∨ (s.key slot).state ≠ 1 then .err s stNoResource 5
  else
    let s := (s.scrubSlip n 4).dropOvf n
    let s := s.clearGrans p.ovfGran (.owned slot)
    let s := s.parkKey n
    let t := s.key slot
    let s := s.modKey slot (fun k => { k with state := 2, slip := n, rules := [], epoch := 0 })
    let s := s.newRules n t.rules
    let s := s.modSlip n (fun p => { p with state := 1, keySlot := slot, cnt := [0, 0, 0, 0, 0, 0, 0, 0] })
    .ok (s.bump (mcB + 0x3020)) (result [(scrubUs, 4)])

def execPartitionHandover (h : CmdRef) (slot : BitVec 16) (scrubUs : BitVec 32) (s : State) : Host.Outcome State Fault Refusal :=
  .next (s.cmd h 0x0103 (.partitionHandover h slot scrubUs) (fun s f => s.handover f.objId.toNat slot.toNat scrubUs.toNat))

/-- A command acts on the objects of a slipcase. -/
def State.stagedOn (s : State) (n : Nat) (x : Staged) : Bool :=
  match s.fetchedOf x.ref with
  | none => false
  | some f =>
    match opInfo f.opc.toNat 0 with
    | none => false
    | some i => s.objSlip i.obj x.obj = some n

/-- PARTITION_DESTROY (R395). -/
def State.destroy (s : State) (n : Nat) : Res :=
  if 3 ≤ (s.slip n).state then .err s stTransition 0xF026
  else if s.hasGraph n then .err s stTransition 8
  else
    let s := s.endStaged (s.stagedOn n) stTransition 0xF027
    let p := s.slip n
    let s := (s.scrubSlip n 5).dropOvf n
    let s := s.clearGrans p.ovfGran .free
    let s := (s.vfsOf n).foldl (fun s f => s.modFn f (fun x => { x with slip := none })) s
    let s := s.freeQuires p.quires
    let s := s.parkKey n
    let s := { s with slips := SMap.put {} s.slips n {} }
    .ok ((s.endCause (fun x => decide (x.slip = n) && !condCause x.cause && decide (x.reaction ≠ 4))).bump (mcB + 0x3030))

def execPartitionDestroy (h : CmdRef) (s : State) : Host.Outcome State Fault Refusal :=
  .next (s.cmd h 0x0104 (.partitionDestroy h) (fun s f => s.destroy f.objId.toNat))

/-- Firmware commands of a slipcase's functions, except one, complete ABORTED_BY_RESET (R408, step 3). -/
def State.abortSlip (s : State) (h : CmdRef) (n : Nat) : State :=
  let s := s.endStaged (fun x => x.ref ≠ h && s.stagedOn n x) stAborted 0xF011
  let cmds := s.qps.flatMap (fun e =>
    if (s.vfsOf n).contains (e.1 / 256) then
      (e.2.fetched.filter Fetched.fw).map (fun f => (({ fn := BitVec.ofNat 12 (e.1 / 256), qp := BitVec.ofNat 8 (e.1 % 256), tag := f.tag } : CmdRef), f.phase))
    else [])
  let cmds := cmds.filter (fun c => c.1 ≠ h)
  let s := { s with staged := s.staged.filter (fun x => !(cmds.any (fun c => c.1 = x.ref))) }
  cmds.foldl (fun s c => s.complete c.1 stAborted (if c.2 = .running then 0xF010 else 0xF011)) s

/-- PARTITION_RESET (R408, R410). -/
def State.partReset (s : State) (h : CmdRef) (n : Nat) : Res :=
  if 3 ≤ (s.slip n).state then .err s stTransition 0xF026
  else
    let gs := (s.graphs.filter (fun e => e.2.exist && decide (e.2.slip = n))).map (·.1)
    let cs := (s.contracts.filter (fun e => e.2.exist && gs.contains e.2.graph)).map (·.1)
    let s := cs.foldl State.releaseContract s
    let s := s.scrubSlip n 3
    let s := s.abortSlip h n
    let s := gs.foldl State.dropGraph s
    let s := s.dropOvf n
    let s := s.modSlip n (fun p => { p with state := 1 })
    .ok ((s.endCause (fun x => decide (x.slip = n) && !condCause x.cause && decide (x.reaction ≠ 4))).bump (mcB + 0x3028))

def execPartitionReset (h : CmdRef) (s : State) : Host.Outcome State Fault Refusal :=
  .next (s.cmd h 0x0105 (.partitionReset h) (fun s f => s.partReset h f.objId.toNat))

/-! ## VF_ASSIGN, RULE_UPDATE, MODE_SET, PARTITION_QUERY -/

/-- VF_ASSIGN (R341, R413). -/
def State.vfAssign (s : State) (n f a : Nat) : Res :=
  if 1 < a then .err s stBadParam 0xF025
  else if f = 0 ∨ 4096 ≤ f ∨ !(s.fn f).exist then .err s stBadParam 9
  else if a = 1 then
    match s.fnSlip f with
    | some m => if m = n then .ok s else .err s stNotPermitted 0xA
    | none => .ok (s.modFn f (fun x => { x with slip := some n }))
  else if s.fnSlip f ≠ some n then .err s stNotPermitted 0xF024
  else if s.sealed n then .err s stNotPermitted 0xD
  else .ok (s.modFn f (fun x => { x with slip := none }))

def execVfAssign (h : CmdRef) (func : BitVec 16) (assign : BitVec 8) (s : State) : Host.Outcome State Fault Refusal :=
  .next (s.cmd h 0x0106 (.vfAssign h func assign) (fun s f => s.vfAssign f.objId.toNat func.toNat assign.toNat))

/-- A range of a window is permitted in a direction by a table. -/
def permits (ws : List Win) (w off len : Nat) (write : Bool) : Bool :=
  ws.any (fun x => decide (x.win = w) && (if write then x.wr else x.rd) && decide (off + len ≤ x.size))

/-- A 64-byte request of a descriptor in flight touches a revoked range (R404): the old table permitted it at its address, the
new one permits that address no more. -/
def revoked (old new : List Win) (w off : Nat) (write : Bool) : Bool :=
  permits old w off 1 write &&
    (match old.find? (fun x => decide (x.win = w)) with
     | none => false
     | some x => !(new.any (fun y => (if write then y.wr else y.rd) && decide (y.base ≤ x.base + off ∧ x.base + off < y.base + y.size))))

/-- Cancel one request (R404): quire, engine, index among the engine's descriptors in flight, offset in the window. -/
def State.cancel1 (s : State) (n : Nat) (old : List Win) (c : Nat × Nat × Nat × Nat) : State × Nat :=
  let a := if c.2.1 = 0 then (s.quire c.1).ae0 else (s.quire c.1).ae1
  match a.flight[c.2.2.1]? with
  | none => (s, 0)
  | some fl =>
    let w0 := (fl.words[0]?).getD 0
    let wr := decide (bitsN w0.toNat 63 60 = 2)
    let w := bitsN ((fl.words[3]?).getD 0).toNat 63 52
    if !(s.slip n).quires.contains c.1 ∨ fl.done ∨ bitsN w0.toNat 47 44 ≠ 0 ∨ fl.poison.contains c.2.2.2 ∨
       !revoked old (s.slip n).rules w c.2.2.2 wr then (s, 0)
    else
      let fl' := { fl with poison := fl.poison ++ [c.2.2.2] }
      let a' := { a with flight := a.flight.set c.2.2.1 fl' }
      let s := s.modQuire c.1 (fun q => if c.2.1 = 0 then { q with ae0 := a' } else { q with ae1 := a' })
      ((s.bump (mcB + 0x3008)).log 0x69 n 1 1 [w, wr.toNat, c.2.2.2], 1)

/-- The windows of a rule table. -/
def RuleTbl.windows (t : RuleTbl) : List Win :=
  t.ents.map (fun e => { win := e.win.toNat, rd := e.rights.getLsbD 0, wr := e.rights.getLsbD 1, base := e.base.toNat, size := e.size.toNat })

/-- RULE_UPDATE's own checks of the table (R401). -/
def State.rulesOk (s : State) (n : Nat) (t : RuleTbl) : Bool :=
  let ws := RuleTbl.windows t
  decide (t.nWin.toNat ≤ 16 ∧ t.nWin.toNat = t.ents.length) && !t.rsvdNZ && t.ents.all (fun e => !e.rsvdNZ && decide (e.rights.toNat < 4)) &&
    ws.all s.winOk && winsApart ws && (ws.flatMap Win.grans).all (s.granOk (s.slip n).keySlot)

/-- RULE_UPDATE (R400–R404): steps 1 and 2; RULE_DRAIN completes it. `cancels` are the old requests the Memory Controller has not
yet issued, as quire, engine, index in flight and offset. -/
def State.ruleUpdate (s : State) (h : CmdRef) (n flags : Nat) (g : Sgl) (t : RuleTbl) (cancels : List (Nat × Nat × Nat × Nat)) : Res :=
  if s.sealed n then .err s stNotPermitted 0xD
  else if 1 < flags then .err s stBadParam 0xF025
  else if (s.slip n).drain.isSome then .err s stTransition 0xF026
  else match sglErr g (16 + 32 * t.nWin.toNat) with
  | some d => .err s stBadParam d
  | none =>
    if !s.rulesOk n t then .err s stBadParam 0xB
    else
      let old := (s.slip n).rules
      let ws := RuleTbl.windows t
      let s := (s.newRules n ws).ownGrans (s.slip n).keySlot ws
      let r := if flags = 1 then cancels.foldl (fun (p : State × Nat) c => let x := p.1.cancel1 n old c; (x.1, p.2 + x.2)) (s, 0) else (s, 0)
      .later (r.1.modSlip n (fun p => { p with drain := some { ref := h, res := result [(p.epoch, 4), (r.2, 4)] } }))

def execRuleUpdate (h : CmdRef) (flags : BitVec 8) (sgl : Sgl) (tbl : RuleTbl) (cancels : List (Nat × Nat × Nat × Nat)) (s : State) :
    Host.Outcome State Fault Refusal :=
  .next (s.cmd h 0x0107 (.ruleUpdate h flags sgl tbl cancels) (fun s f => s.ruleUpdate h f.objId.toNat flags.toNat sgl tbl cancels))

/-- MODE_SET (R140, R337, R413). -/
def State.modeSet (s : State) (n m : Nat) : Res :=
  if s.sealed n then .err s stNotPermitted 0xD
  else if 1 < m then .err s stBadParam 0xF025
  else if m = 1 ∧ s.contracts.any (fun e => e.2.exist && e.2.paired && decide ((s.graph e.2.graph).slip = n)) then .err s stNotPermitted 0xC
  else
    let a := decide (m = 1)
    let s := s.modSlip n (fun p => { p with adaptive := a })
    .ok ((s.slip n).quires.foldl (fun s q => s.modQuire q (fun x => { x with adaptive := a, target := if a then x.target else min x.target 20 })) s)

def execModeSet (h : CmdRef) (mode : BitVec 8) (s : State) : Host.Outcome State Fault Refusal :=
  .next (s.cmd h 0x0108 (.modeSet h mode) (fun s f => s.modeSet f.objId.toNat mode.toNat))

/-- PARTITION_QUERY (R390). -/
def execPartitionQuery (h : CmdRef) (s : State) : Host.Outcome State Fault Refusal :=
  .next (s.cmd h 0x8101 (.partitionQuery h) (fun s f =>
    let p := s.slip f.objId.toNat
    .ok s (result [(p.state, 1), (p.adaptive.toNat, 1), (p.keySlot, 2), (p.quires.length, 1), (0, 3), (p.ovfKib, 4), (p.epoch, 4)])))

/-! ## The background clear (R397) -/

/-- The lowest granule below a limit that is DIRTY: the first that the map does not list. -/
def firstDirty (lim : Nat) : Nat → SMap Granule → Option Nat
  | k, [] => if k < lim then some k else none
  | k, (j, _) :: r => if lim ≤ k then none else if k < j then some k else firstDirty lim (j + 1) r

/-- GRANULE_CLEAR (R397, R399): the lowest DIRTY granule starts its clear; one that is CLEARING becomes FREE. -/
def execGranuleClear (s : State) : Host.Outcome State Fault Refusal :=
  .next (match s.granules.find? (fun e => e.2 = .clearing) with
  | some e => (s.setGran e.1 .free).bump (mcB + 0x3018)
  | none =>
    match firstDirty s.svcGran 0 s.granules with
    | some k => State.setGran { s with dram := SMap.clear s.dram (k * granBytes) ((k + 1) * granBytes) } k .clearing
    | none => s)

end Sys2Proof.Machine
end

