-- ==== Sys2Proof/Machine/Spine.lean ====
section
/-! DEFINITION. The Spine links (R441–R447, R460, Table 17.2), their rows, and the route table. -/
namespace Sys2Proof.Machine

/-! ## Link state -/

def spErr (p : Nat) : Nat := spnB p + 8

/-- A link enters a state; each change is logged (Table 19.5). -/
def State.setLink (s : State) (p v : Nat) : State :=
  let s := s.modPort p (fun t => { t with state := v })
  s.log (0x6B + p) 0xFF 0 7 [p, v, (s.port p).peer]

/-- SPN_CTL.EN. -/
def State.spEn (s : State) (p : Nat) : Bool := s.rfld (spnB p) 0 0 = 1

/-- A contract takes a stream as its SPINE source (Table 12.2). -/
def Contract.hasStream (c : Contract) (n : Nat) : Bool :=
  c.srcs.any (fun x => decide (x.kind = 4 ∧ x.index.toNat + x.link.toNat % 16 * 256 = n))

/-- Note a contract fault SPINE with the contracts of the streams that pass a test (Table 12.4). -/
def State.spineFault (s : State) (p : Nat → Bool) : State :=
  let ns := s.streams.keysWhere (fun n _ => p n)
  { s with contracts := SMap.mapAll {} s.contracts (fun _ c =>
      if c.exist && ns.any c.hasStream then { c with faults := SMap.put 0 c.faults 6 (s.tim.tick + 1) } else c) }

/-- A stream of this device is routed over a port. -/
def State.onPort (s : State) (p n : Nat) : Bool := decide (s.route (s.strm n).peer = some p)

/-! ## Lanes (R444) -/

/-- Lanes 0 to 4 that pass the test and are not retired. -/
def goodLanes (pass retired : Nat) : List Nat := (List.range 5).filter (fun i => pass.testBit i && !retired.testBit i)

/-- The active lanes: four where four pass, else two or one. -/
def activeLanes (good : List Nat) : List Nat :=
  if 4 ≤ good.length then good.take 4 else if 2 ≤ good.length then good.take 2 else good.take 1

/-- Apply a lane test: failed lanes are retired, the spare takes a place, the link narrows. -/
def State.testLanes (s : State) (p pass : Nat) : State :=
  let t := s.port p
  let failed := (List.range 5).filter (fun i => !pass.testBit i && !t.retired.testBit i)
  let act := activeLanes (goodLanes pass t.retired)
  let s := if failed.isEmpty then s else s.orReg (spErr p) 4
  let s := if act.length < t.width then s.modSi (fun x => { x with replan := true }) else s
  s.modPort p (fun t => { t with retired := t.retired ||| maskOf failed, lanes := maskOf act, width := act.length })

/-! ## Poison (R459) -/

/-- An end is POISONED with a cause: the function that opened it is told, the alarm is raised, what waits is discarded, and a
waiting fence ends under LINK_DOWN (R462). -/
def State.poisonEnd (s : State) (n cause first farTick : Nat) (port : Nat) : State :=
  let t := s.strm n
  if t.state ≠ 2 then s
  else
    let s := s.modStrm n (fun t => { t with state := 3, poisonSeq := first, discarded := satN 0xFFFFFFFF (t.discarded + t.out.length), out := [],
                                            spikes := [] })
    let s := s.spineFault (fun m => m = n)
    let s := s.fnEvent t.func 3 cause 0 [t.peer, n, first, farTick]
    let s := s.alarm 0x104 (0x6B + port) (t.slip.getD 0xFF)
    match cause, t.fenceRef with
    | 9, some h => (s.modStrm n (fun t => { t with fenceRef := none })).complete h stRemote 0 (result [(first, 8)])
    | _, _ => s

/-! ## Retraining and going down -/

/-- A retrain begins (R444): it counts, and is a contract fault of cause SPINE for the graphs on the link. -/
def State.retrainStart (s : State) (p : Nat) : State :=
  ((s.setLink p 4).bump (spnB p + 0x128)).spineFault (s.onPort p)

/-- A link goes DOWN (R460): its messages are lost, the streams routed over it are poisoned, the ends of streams that only pass
through are told, and behind a parent link the device is in HOLDOVER. A next bring-up comes after `wait` ns. -/
def State.linkDown (s : State) (p wait : Nat) (transit : List (Nat × Nat × Nat × Nat)) : State :=
  let was := (s.port p).state
  let s := s.setLink p 0
  let s := s.modPort p (fun t => { t with egress := [], replay := [], nak := false, nakTimes := [], failTimes := [], retryAt := s.tim.systime + wait })
  if was ≠ 3 ∧ was ≠ 4 then s
  else
    let s := (s.bump (spnB p + 0x130)).orReg (spErr p) 8
    let s := (s.streams.keysWhere (fun n t => t.state = 2 && s.onPort p n)).foldl
      (fun s n => s.poisonEnd n 9 ((s.strm n).applied + 1) s.tim.tick p) s
    let s := transit.foldl (fun s x =>
      s.sendTo { dst := x.1, src := x.2.1, stream := x.2.2.1, body := .writeError x.2.2.2 9 s.tim.tick }) s
    if s.bind.member ∧ s.bind.parent = some p then s.setTimeState 3 else s

/-- A failed authentication (R445, R446): AUTH_FAIL, counted; DOWN for 1 s, FAILED at the third within 1 s. -/
def State.authFail (s : State) (p : Nat) : State :=
  let s := (s.orReg (spErr p) 1).bump (spnB p + 0x138)
  let ts := ((s.port p).authTimes.filter (fun t => decide (s.tim.systime < t + 1000000000))) ++ [s.tim.systime]
  let s := s.modPort p (fun t => { t with authTimes := ts })
  let s := s.linkDown p 1000000000 []
  if 3 ≤ ts.length then s.setLink p 5 else s

/-! ## Rows -/

/-- A write of SPN_CTL.EN (R443): 0 takes the link DOWN from any state. -/
def State.wrSpnEn (s : State) (n : Nat) (en : Bool) : State :=
  let s := s.setRfld (spnB n) 0 0 en.toNat
  if en ∨ (s.port n).state = 0 then s else (s.linkDown n 0 []).modPort n (fun t => { t with authTimes := [] })

/-- SPN_CTL_EN (R443). -/
def execSpnCtlEn (p : BitVec 2) (en : Bool) (s : State) : Host.Outcome State Fault Refusal :=
  .next ((s.touch 0 (spnB p.toNat)).wrSpnEn p.toNat en)

/-- A write of 1 to SPN_CTL.RETRAIN (R444): it forces a retrain of a link that is UP. -/
def State.wrSpnRetrain (s : State) (n : Nat) : State := if (s.port n).state = 3 then s.retrainStart n else s

/-- SPN_CTL_RETRAIN (R444). -/
def execSpnCtlRetrain (p : BitVec 2) (s : State) : Host.Outcome State Fault Refusal :=
  .next ((s.touch 0 (spnB p.toNat)).wrSpnRetrain p.toNat)

/-- SIGNAL_PRESENT (R443): signal at both ends of an enabled DOWN link starts training. -/
def execSignalPresent (p : BitVec 2) (s : State) : Host.Outcome State Fault Refusal :=
  let n := p.toNat
  .next (if (s.port n).state = 0 ∧ s.spEn n ∧ (s.port n).retryAt ≤ s.tim.systime then s.setLink n 1 else s)

/-- LINK_RETRY (R443): every 10 ms a DOWN link tries again, with signal or without. -/
def execLinkRetry (p : BitVec 2) (signal : Bool) (s : State) : Host.Outcome State Fault Refusal :=
  let n := p.toNat
  .next (if (s.port n).state = 0 ∧ s.spEn n ∧ (s.port n).retryAt ≤ s.tim.systime then
    (if signal then s.setLink n 1 else s.modPort n (fun t => { t with retryAt := s.tim.systime + 10000000 }))
  else s)

/-- TRAINING_DONE (R442, R443): the lanes that passed, the round trip and the one-way cable delay, in ps. No lane, or no lock
within 100 µs, ends training; a cable beyond 400 ns takes the link DOWN with LINK_TOO_LONG. -/
def execTrainingDone (p : BitVec 2) (lanes : BitVec 5) (rtt cable : BitVec 32) (s : State) : Host.Outcome State Fault Refusal :=
  let n := p.toNat
  .next (if (s.port n).state ≠ 1 then s
  else
    let s := s.testLanes n lanes.toNat
    if (s.port n).width = 0 then s.linkDown n 10000000 []
    else
      let s := s.modPort n (fun t => { t with rttPs := rtt.toNat, cablePs := cable.toNat })
      if 400000 < cable.toNat then ((s.orReg (spErr n) 2).bump (spnB n + 0x130)).linkDown n 10000000 [] else s.setLink n 2)

/-- AUTH (R445, refused while the TRNG is FAILED, R418): whether the peer's chain and signature verify, its lifecycle, whether it has debug opened, and its device ID. -/
def execAuth (p : BitVec 2) (verified : Bool) (life : BitVec 3) (debug : Bool) (peer : BitVec 16) (s : State) : Host.Outcome State Fault Refusal :=
  let n := p.toNat
  .next (if (s.port n).state ≠ 2 then s
  else if verified ∧ life.toNat = s.sec.life ∧ life ≠ 4 ∧ !debug ∧ !s.sec.dbgOpen ∧ s.sec.trng ≠ 2 then
    let s := s.modPort n (fun t => { t with peer := peer.toNat, keys := t.keys + 1, keyAt := s.tim.systime, txCtr := 0, rxCtr := 0,
                                            txSeq := 0, rxSeq := 4095, replay := [], nak := false, rekey := false })
    (s.setLink n 3).pump n
  else s.authFail n)

/-- RETRAIN (R444): a lane that lost lock starts one; then the lane test's result. A retrain that fails runs again, and the third
failure within 100 ms takes the link DOWN. `transit` names the streams that pass through (R459). -/
def execRetrain (p : BitVec 2) (lanes : BitVec 5) (transit : List (Nat × Nat × Nat × Nat)) (s : State) : Host.Outcome State Fault Refusal :=
  let n := p.toNat
  let s := if (s.port n).state = 3 then s.retrainStart n else s
  .next (if (s.port n).state ≠ 4 then s
  else
    let s := s.testLanes n lanes.toNat
    if 0 < (s.port n).width then ((s.setLink n 3).modPort n (fun t => { t with nakTimes := [] })).pump n
    else
      let ts := ((s.port n).failTimes.filter (fun t => decide (s.tim.systime < t + 100000000))) ++ [s.tim.systime]
      if 3 ≤ ts.length then s.linkDown n 10000000 transit
      else (s.modPort n (fun t => { t with failTimes := ts })).retrainStart n)

/-- LINK_DOWN (R460): an established link is lost. -/
def execLinkDown (p : BitVec 2) (transit : List (Nat × Nat × Nat × Nat)) (s : State) : Host.Outcome State Fault Refusal :=
  .next (if (s.port p.toNat).state = 3 ∨ (s.port p.toNat).state = 4 then s.linkDown p.toNat 10000000 transit else s)

/-- REKEY (R447): after 2^32 messages of a direction or 1 h; counters of the new keys start at 0 (R446). -/
def execRekey (p : BitVec 2) (s : State) : Host.Outcome State Fault Refusal :=
  let n := p.toNat
  let t := s.port n
  .next (if t.state = 3 ∧ (2 ^ 32 ≤ t.txCtr ∨ 2 ^ 32 ≤ t.rxCtr ∨ t.keyAt + 3600000000000 ≤ s.tim.systime) then
    (s.modPort n (fun t => { t with keys := t.keys + 1, keyAt := s.tim.systime, txCtr := 0, rxCtr := 0, rekey := true })).bump (spnB n + 0x140)
  else s)

/-! ## Flits (R441, R442) -/

/-- A NAK is sent; eight within 100 µs retrain the link (R444). -/
def State.sendNak (s : State) (p : Nat) : State :=
  let ts := ((s.port p).nakTimes.filter (fun t => decide (s.tim.systime < t + 100000))) ++ [s.tim.systime]
  let s := s.modPort p (fun t => { t with nak := true, nakTimes := ts })
  if 8 ≤ ts.length ∧ (s.port p).state = 3 then (s.modPort p (fun t => { t with nakTimes := [] })).retrainStart p else s

/-- Drop the acknowledged flits from a replay buffer. -/
def ackReplay (l : List Nat) (ack : Nat) : List Nat :=
  match l.findIdx? (fun x => x = ack) with
  | some i => l.drop (i + 1)
  | none => l

/-- FLIT_RECEIVE (R442, Table 17.8). -/
def execFlitReceive (p : BitVec 2) (kind : BitVec 3) (seq ack : BitVec 12) (crcOk : Bool) (s : State) : Host.Outcome State Fault Refusal :=
  let n := p.toNat
  .next (if (s.port n).state ≠ 3 then s
  else
    let s := s.bump (spnB n + 0x108)
    if !crcOk then ((s.bump (spnB n + 0x110)).bump (spnB n + 0x118)).sendNak n
    else if 3 ≤ kind.toNat then (s.bump (spnB n + 0x160)).sendNak n
    else
      let s := (s.modPort n (fun t => { t with replay := ackReplay t.replay ack.toNat })).pump n
      if kind ≠ 0 then s
      else if seq.toNat = ((s.port n).rxSeq + 1) % 4096 then s.modPort n (fun t => { t with rxSeq := seq.toNat, nak := false })
      else (s.bump (spnB n + 0x118)).sendNak n)

/-- NAK_REPLAY (R442): every flit after ACK is sent again. -/
def execNakReplay (p : BitVec 2) (ack : BitVec 12) (s : State) : Host.Outcome State Fault Refusal :=
  let n := p.toNat
  .next (if (s.port n).state ≠ 3 then s
  else
    let s := s.modPort n (fun t => { t with replay := ackReplay t.replay ack.toNat })
    if (s.port n).replay.isEmpty then s
    else
      let r := (s.port n).replay
      (((s.bump (spnB n + 0x120)).bump (spnB n + 0x100) r.length).emit .spine [n, 0] r).pump n)

/-! ## Routes and TICK_LEAD_MAX -/

/-- A write of one word of the route table (R452, Table 17.9), which changes nothing where an entry that it would change is used by a
stream's path. -/
def State.wrRoute (s : State) (w : Nat) (v : Word) : State :=
  let used := s.streams.any (fun e => decide (e.2.state ≠ 0) && decide (e.2.peer / 16 = w) &&
    decide (fld v (4 * (e.2.peer % 16) + 3) (4 * (e.2.peer % 16)) ≠ s.routeEntry e.2.peer))
  if used then s else s.setReg (spnB 0 + 0x8000 + 8 * w) v

/-- SPN_ROUTE (R452). -/
def execSpnRoute (w : BitVec 12) (v : BitVec 64) (s : State) : Host.Outcome State Fault Refusal :=
  .next ((s.touch 0 (spnB 0 + 0x8000 + 8 * w.toNat)).wrRoute w.toNat v)

/-- The largest L_dev of the root's binding in whole µs (R454). -/
def Bind.maxUs (b : Bind) : Nat := (b.ids.foldl (fun a x => max a x.2) 0 + 999999) / 1000000

/-- TU_TICK_LEAD (R61, R454): clamped to 1–2,000 µs; on the root of a binding raised to its largest L_dev, and a change takes
effect L_old ticks ahead on every member. -/
def State.wrTickLead (s : State) (v : Nat) : State :=
  let us := min 2000 (max 1 (v % 2048))
  let root := s.bind.member && s.bind.isRoot
  let us := if root then max us s.bind.maxUs else us
  let s1 := s.setRfld (tuB + 0x24) 10 0 us
  if root ∧ us * 1000 ≠ s.bind.leadNs then s1.scheduleMarker (s.tim.tick + s.leadTicks) (.leadMax (us * 1000)) else s1

def execTuTickLead (v : BitVec 32) (s : State) : Host.Outcome State Fault Refusal := .next ((s.touch 0 (tuB + 0x24)).wrTickLead v.toNat)

end Sys2Proof.Machine
end

