-- ==== Sys2Proof/Machine/Streams.lean ====
section
/-! DEFINITION. Spine streams (R457–R463): writes on credits, poison, fences and stream control, and the commands that open, close
and fence a stream. -/
namespace Sys2Proof.Machine

/-! ## Sending -/

/-- A message of a stream to its peer. -/
def State.strmMsg (s : State) (n seq : Nat) (b : SpBody) : State :=
  let t := s.strm n
  s.sendTo { dst := t.peer, src := s.devId, stream := n + t.cls * 4096, seq := seq, body := b }

/-- Credits a write takes: items of its channel, or 64-byte units (R458). -/
def writeCost : SpBody → Nat
  | .writeChan l _ => l.length
  | .writeDram _ d _ => (d.length + 63) / 64
  | _ => 0

/-- Send waiting writes while credits last, numbered SEQ = 1, 2, … (R458). -/
def State.strmPumpN (s : State) (n : Nat) : Nat → State
  | 0 => s
  | fuel + 1 =>
    let t := s.strm n
    match t.out with
    | [] => s
    | b :: rest =>
      if t.state ≠ 2 ∨ t.credits < writeCost b then s
      else
        let s := s.modStrm n (fun t => { t with out := rest, credits := t.credits - writeCost b, txSeq := t.txSeq + 1 })
        (s.strmMsg n (t.txSeq + 1) b).strmPumpN n fuel

def State.strmPump (s : State) (n : Nat) : State := s.strmPumpN n (s.strm n).out.length

/-- Offer a write to a stream: a POISONED or closed end discards it and counts it (R459); a WAITING end holds it without credit. -/
def State.strmWrite (s : State) (n : Nat) (b : SpBody) : State :=
  let t := s.strm n
  if t.state = 1 ∨ t.state = 2 then (s.modStrm n (fun t => { t with out := t.out ++ [b] })).strmPump n
  else s.modStrm n (fun t => { t with discarded := satN 0xFFFFFFFF (t.discarded + 1) })

/-- A spike of a slipcase is lost (Table 9.7): counted, and reported by the next spike record. -/
def State.spkDrop (s : State) (slip k : Nat) (n : Nat := 1) : State :=
  let s := s.bump k n
  if slip < 64 then s.modSlip slip (fun p => { p with spkDrops := p.spkDrops + n }) else s

/-- A spike handed to a stream at a port (R253, R254): dropped where the stream is not UP, its far end cannot be reached or the port's
spike queue of 1,024 is full. -/
def State.strmSpike (s : State) (n p : Nat) (w : BitVec 64) : State :=
  let t := s.strm n
  let lost := s.spkDrop (t.slip.getD 0xFF) (kxbB + 0x5300 + 8 * p)
  match s.route t.peer with
  | some r =>
    let occ := (s.streams.map (fun e => if s.route e.2.peer = some r then e.2.spikes.length else 0)).foldl (· + ·) 0
    if t.state = 2 ∧ t.spike ∧ r < 4 ∧ 3 ≤ (s.port r).state ∧ (s.port r).state ≤ 4 ∧ occ < 1024 then
      s.modStrm n (fun t => { t with spikes := t.spikes ++ [w.toNat] })
    else lost
  | none => lost

/-- SPIKES_SEND (R463): up to 16 spikes of a stream leave in one message. -/
def execSpikesSend (n : BitVec 12) (s : State) : Host.Outcome State Fault Refusal :=
  let k := n.toNat
  let t := s.strm k
  .next (match s.route t.peer with
  | some p =>
    if t.spikes.isEmpty ∨ t.state ≠ 2 ∨ (s.port p).state ≠ 3 then s
    else
      let s := s.modStrm k (fun t => { t with spikes := t.spikes.drop 16 })
      s.strmMsg k 0 (.spikes ((t.spikes.take 16).map (BitVec.ofNat 64)))
  | none => s)

/-! ## The receiving end -/

/-- Credits a receiving end grants at first: 64 channel items (R16), or the landing buffer of 256 KiB in 64-byte units. -/
def Strm.firstGrant (t : Strm) : Nat := if t.group.testBit 15 then 4096 else 64

/-- Grant credits afresh (R458, R461). -/
def State.grantAll (s : State) (n : Nat) : State :=
  let t := s.strm n
  if t.spike then s
  else (s.modStrm n (fun t => { t with granted := t.firstGrant })).strmMsg n 0 (.credit t.firstGrant 0)

/-- A stream's end comes UP with both directions at SEQ 1 (R457, R461). -/
def State.strmUp (s : State) (n : Nat) : State :=
  let s := s.modStrm n (fun t => { t with state := 2, txSeq := 0, applied := 0, credits := 0, rxSeq := 0, firstFail := 0, poisonSeq := 0 })
  s.grantAll n

/-- Refuse a write (R459): counted; the first of a poison sends WRITE_ERROR. -/
def State.refuseRx (s : State) (p : Nat) (m : SpMsg) (cause : Nat) : State :=
  let n := m.stream % 4096
  let t := s.strm n
  let viol := cause = 1 ∨ cause = 6 ∨ cause = 7
  let s := if viol then s.bump (spnB p + 0x160) else s
  let s := s.modStrm n (fun t => { t with refused := satN 0xFFFFFFFF (t.refused + 1), firstFail := if t.firstFail = 0 then m.seq else t.firstFail })
  if t.state = 3 ∧ t.peer = m.src then s
  else
    let s := if t.state = 2 ∧ t.peer = m.src then (s.modStrm n (fun t => { t with state := 3, poisonSeq := m.seq })).spineFault (fun k => k = n) else s
    s.sendTo { dst := m.src, src := s.devId, stream := m.stream, body := .writeError m.seq cause s.tim.tick }

/-- Report what has been applied, with credits that are free again (R458). -/
def State.creditBack (s : State) (n k : Nat) : State :=
  let s := s.modStrm n (fun t => { t with granted := t.granted + k })
  s.strmMsg n 0 (.credit k (s.strm n).rxSeq)

/-- The TICK_COUNT an ETS means (R43). -/
def State.tickOf (s : State) (ets : Nat) : Int := (s.tim.tick : Int) + etsDiff (ets % 2 ^ 32) s.ets

/-- Drop the items of ticks already closed at the consumer (R60), each logged and counted against its origin. -/
def State.lateItems (s : State) (n origin : Nat) : List (BitVec 64) → List (BitVec 64) × State
  | [] => ([], s)
  | w :: r =>
    let (keep, s) := s.lateItems n origin r
    if s.tickOf w.toNat < ((s.strm n).closed : Int) then
      let s := s.modBind (fun b => { b with late := SMap.upd 0 b.late origin (· + 1) })
      (keep, s.log 0x6B ((s.strm n).slip.getD 0xFF) 1 3 [origin, (s.tickOf w.toNat).toNat])
    else (w :: keep, s)

/-- The DRAM address of a write to a stream's window, where its slipcase may write there (R402); PF0's windows lie apart (log entry). -/
def State.landing (s : State) (t : Strm) (off len : Nat) : Option Nat :=
  match t.slip with
  | none => if t.pf then some (2 ^ 60 + t.group % 16 * 2 ^ 44 + off) else none
  | some n => ((s.slip n).rules.find? (fun w => w.win = t.group % 16 && w.wr && decide (off + len ≤ w.size))).map (fun w => w.base + off)

/-- A write reaches its stream's receiving end (R458, R459, Table 17.7): applied in SEQ order, or refused. -/
def State.rxWrite (s : State) (p : Nat) (m : SpMsg) : State :=
  let n := m.stream % 4096
  let t := s.strm n
  let pass := fun (poison : Bool) =>
    if t.state ≠ 2 ∨ t.peer ≠ m.src ∨ t.spike then some 1
    else if t.slip.any (fun k => (s.slip k).state ≠ 1) then some 3
    else if m.seq ≠ t.rxSeq + 1 then some 7
    else if t.granted < writeCost m.body then some 6
    else if poison then some 4 else none
  let took := fun (s : State) => s.modStrm n (fun t => { t with rxSeq := m.seq, granted := t.granted - writeCost m.body })
  match m.body with
  | .writeChan items poison =>
    match (pass poison).orElse (fun _ => if t.group.testBit 15 then some 2 else none) with
    | some c => s.refuseRx p m c
    | none =>
      let (keep, s) := (took s).lateItems n m.src items
      let s := { s with uchans := SMap.upd [] s.uchans (t.group % 4096) (fun l => l ++ keep) }
      s.creditBack n (items.length - keep.length)
  | .writeDram off data poison =>
    match pass poison, (if t.group.testBit 15 then s.landing t off data.length else none) with
    | some c, _ => s.refuseRx p m c
    | none, none => s.refuseRx p m 2
    | none, some a => State.creditBack { took s with dram := SMap.putAll 0 s.dram a data } n (writeCost m.body)
  | _ => s

/-- A unit takes items from its input channel: the stages return as credits of the stream that fills it (R17, R458). -/
def State.takeChan (s : State) (c k : Nat) : State :=
  let s := { s with uchans := SMap.upd [] s.uchans c (fun l => l.drop k) }
  (s.streams.keysWhere (fun _ t => t.state = 2 && !t.spike && t.group = c)).foldl (fun s n => if k = 0 then s else s.creditBack n k) s

/-- WRITE_CHAN and WRITE_DRAM (R458). -/
def execWriteChan (p : BitVec 2) (m : SpMsg) (s : State) : Host.Outcome State Fault Refusal :=
  .next (match m.body with | .writeChan .. => s.rxWrite p.toNat m | _ => s)
def execWriteDram (p : BitVec 2) (m : SpMsg) (s : State) : Host.Outcome State Fault Refusal :=
  .next (match m.body with | .writeDram .. => s.rxWrite p.toNat m | _ => s)

/-- CREDIT (R458): credits granted and APPLIED_SEQ. -/
def State.rxCredit (s : State) (m : SpMsg) : State :=
  let n := m.stream % 4096
  match m.body with
  | .credit c a =>
    if (s.strm n).state = 2 ∧ (s.strm n).peer = m.src then
      (s.modStrm n (fun t => { t with credits := t.credits + c, applied := max t.applied a })).strmPump n
    else s
  | _ => s

def execCredit (_p : BitVec 2) (m : SpMsg) (s : State) : Host.Outcome State Fault Refusal := .next (s.rxCredit m)

/-- WRITE_ERROR (R459): poisons the sending end. -/
def State.rxWriteError (s : State) (p : Nat) (m : SpMsg) : State :=
  let n := m.stream % 4096
  match m.body with
  | .writeError first cause far => if (s.strm n).peer = m.src then s.poisonEnd n cause first far p else s
  | _ => s

def execWriteError (p : BitVec 2) (m : SpMsg) (s : State) : Host.Outcome State Fault Refusal := .next (s.rxWriteError p.toNat m)

/-- FENCE (R462): every earlier write has been applied or refused when it arrives, since messages of a stream keep their order. -/
def State.rxFence (s : State) (m : SpMsg) : State :=
  match m.body with
  | .fence last =>
    s.sendTo { dst := m.src, src := s.devId, stream := m.stream, body := .fenceAck last (s.strm (m.stream % 4096)).firstFail }
  | _ => s

def execFence (_p : BitVec 2) (m : SpMsg) (s : State) : Host.Outcome State Fault Refusal := .next (s.rxFence m)

/-- FENCE_ACK (R462): completes WRITE_FENCE. -/
def State.rxFenceAck (s : State) (m : SpMsg) : State :=
  let n := m.stream % 4096
  match m.body, (s.strm n).fenceRef with
  | .fenceAck _ first, some h =>
    if (s.strm n).peer ≠ m.src then s
    else
      let s := s.modStrm n (fun t => { t with fenceRef := none })
      if first = 0 then s.complete h stOk 0 else s.complete h stRemote 0 (result [(first, 8)])
  | _, _ => s

def execFenceAck (_p : BitVec 2) (m : SpMsg) (s : State) : Host.Outcome State Fault Refusal := .next (s.rxFenceAck m)

/-- TICK_MARK (R46, R458): the stream's channel has delivered its tick-end mark. -/
def State.rxTickMark (s : State) (m : SpMsg) : State :=
  let n := m.stream % 4096
  match m.body with
  | .tickMark ets =>
    if (s.strm n).state = 2 ∧ (s.strm n).peer = m.src then
      s.modStrm n (fun t => { t with closed := max t.closed (s.tickOf ets + 1).toNat })
    else s
  | _ => s

def execTickMark (_p : BitVec 2) (m : SpMsg) (s : State) : Host.Outcome State Fault Refusal := .next (s.rxTickMark m)

/-- SPINE_CHANNEL_CLOSE (R60): every channel fed over Spine is closed for tick n once local ETS reaches n + L + 1. -/
def execSpineChannelClose (s : State) : Host.Outcome State Fault Refusal :=
  .next { s with streams := SMap.mapAll {} s.streams (fun _ x => if x.state = 0 then x else { x with closed := max x.closed (s.tim.tick - s.leadTicks) }) }

/-! ## Stream control (R457, R461) -/

/-- An end is closed. -/
def State.strmDrop (s : State) (n : Nat) : State := { s with streams := SMap.put {} s.streams n {} }

/-- Answer a stream control message. -/
def State.ctlBack (s : State) (m : SpMsg) (op kind lag : Nat) : State :=
  s.sendTo { dst := m.src, src := s.devId, stream := m.stream, body := .streamCtl op kind lag }

/-- STREAM_CTL: 1 OPEN, 2 REOPEN, 3 CLOSE, 4 ACK, 5 REFUSE; LAG is carried as LAG − 1. -/
def State.rxCtl (s : State) (m : SpMsg) : State :=
  let n := m.stream % 4096
  let t := s.strm n
  match m.body with
  | .streamCtl 1 kind lag =>
    if t.state = 1 ∧ t.peer = m.src ∧ t.openRef.isNone ∧ kind = t.spike.toNat ∧ (t.spike → lag = t.lag - 1) then (s.ctlBack m 4 kind lag).strmUp n
    else s.ctlBack m 5 (if t.peer = m.src then t.spike.toNat else 2) (t.lag - 1)
  | .streamCtl 2 kind lag =>
    if 2 ≤ t.state ∧ t.peer = m.src ∧ kind = t.spike.toNat then (s.ctlBack m 4 kind lag).strmUp n else s.ctlBack m 5 2 0
  | .streamCtl 3 kind lag =>
    if t.peer = m.src then
      let s := s.ctlBack m 4 kind lag
      let s := match t.closeRef with | some h => s.complete h stOk 0 | none => s
      s.strmDrop n
    else s
  | .streamCtl 4 _ _ =>
    if t.peer ≠ m.src then s
    else
      match t.openRef, t.closeRef with
      | some h, _ => ((s.modStrm n (fun t => { t with openRef := none })).strmUp n).complete h stOk 0
      | none, some h => (s.strmDrop n).complete h stOk 0
      | none, none => s
  | .streamCtl 5 kind lag =>
    match t.openRef with
    | none => s
    | some h =>
      let s := if t.state = 3 then s.modStrm n (fun t => { t with openRef := none }) else s.strmDrop n
      if kind = t.spike.toNat ∧ t.spike ∧ lag ≠ t.lag - 1 then s.complete h stBadParam 3 else s.complete h stRemote 4
  | _ => s

def execStreamCtl (_p : BitVec 2) (m : SpMsg) (s : State) : Host.Outcome State Fault Refusal := .next (s.rxCtl m)

/-! ## Commands -/

/-- The slipcase a function's stream belongs to: PF0's to none; a VF without a slipcase has none to give. -/
def State.strmOwner (s : State) (f : Nat) : Option (Option Nat) :=
  if f = 0 then some none else (s.fnSlip f).map some

/-- A stream number that this function may name (R375). -/
def State.ownsStrm (s : State) (f n : Nat) : Bool := decide (f = 0) || decide (s.fnSlip f = (s.strm n).slip ∧ (s.strm n).slip.isSome)

/-- LAG of a slipcase (KXB_SCFG_s). -/
def State.slipLag (s : State) (n : Nat) : Nat := s.rfld (kxbB + 0x100 + 4 * n) 7 0 + 1

/-- STREAM_OPEN (R457, R461). `farOpen`: the far device holds an open end of the number. A LAG of 0 in the body is 256. -/
def State.streamOpen (s : State) (h : CmdRef) (n peer kind lag group rate : Nat) (farOpen : Bool) : Res :=
  let t := s.strm n
  let lag := if lag = 0 then 256 else lag
  match s.strmOwner h.fn.toNat with
  | none => .err s stNotPermitted 0xF024
  | some slip =>
    if 4096 ≤ n ∨ 2 ≤ kind then .err s stBadParam 0xF025
    else if slip.any (fun k => (s.slip k).state ≠ 1) then .err s stFenced 0
    else if t.openRef.isSome ∨ t.closeRef.isSome then .err s stTransition 0xF026
    else if t.state ≠ 0 ∧ !s.ownsStrm h.fn.toNat n then .err s stNotPermitted 0xF024
    else if t.state ≠ 0 ∧ t.peer ≠ peer then .err s stNoResource 0
    else if t.state = 1 ∨ t.state = 2 then .err s stTransition 0xF026
    else if kind = 1 ∧ slip.any (fun k => s.slipLag k ≠ lag) then .err s stBadParam 3
    else if t.state = 3 then
      .later ((s.modStrm n (fun t => { t with openRef := some h })).strmMsg n 0 (.streamCtl 2 kind (lag - 1)))
    else
      let t' : Strm := { peer := peer, slip := slip, pf := slip.isNone, spike := decide (kind = 1), lag := lag, group := group, rate := rate, func := h.fn.toNat }
      if farOpen then .later ((s.modStrm n (fun _ => { t' with openRef := some h })).strmMsg n 0 (.streamCtl 1 kind (lag - 1)))
      else .ok (s.modStrm n (fun _ => { t' with state := 1 }))

def execStreamOpen (h : CmdRef) (n peer : BitVec 16) (kind lag : BitVec 8) (group : BitVec 16) (rate : BitVec 64) (farOpen : Bool) (s : State) :
    Host.Outcome State Fault Refusal :=
  .next (s.cmd h 0x0C02 (.streamOpen h n peer kind lag group rate farOpen)
    (fun s _ => s.streamOpen h n.toNat peer.toNat kind.toNat lag.toNat group.toNat rate.toNat farOpen))

/-- STREAM_CLOSE (R461): a WAITING end closes at once; otherwise CLOSE goes to the far end behind every write sent before it. -/
def State.streamClose (s : State) (h : CmdRef) (n : Nat) : Res :=
  let t := s.strm n
  if 4096 ≤ n then .err s stBadParam 0xF025
  else if t.state = 0 then .err s stBadParam 0xF023
  else if !s.ownsStrm h.fn.toNat n then .err s stNotPermitted 0xF024
  else if t.openRef.isSome ∨ t.closeRef.isSome then .err s stTransition 0xF026
  else if t.state = 1 then .ok (s.strmDrop n)
  else .later ((s.modStrm n (fun t => { t with closeRef := some h })).strmMsg n 0 (.streamCtl 3 t.spike.toNat (t.lag - 1)))

def execStreamClose (h : CmdRef) (n : BitVec 16) (s : State) : Host.Outcome State Fault Refusal :=
  .next (s.cmd h 0x0C03 (.streamClose h n) (fun s _ => s.streamClose h n.toNat))

/-- WRITE_FENCE (R462). -/
def State.writeFence (s : State) (h : CmdRef) (peer n : Nat) : Res :=
  let t := s.strm n
  if 4096 ≤ n then .err s stBadParam 0xF025
  else if t.state ≠ 0 ∧ !s.ownsStrm h.fn.toNat n then .err s stNotPermitted 0xF024
  else if t.state = 0 ∨ t.peer ≠ peer then .err s stBadParam 0
  else if t.state = 3 then .err s stRemote 0 (result [(t.poisonSeq, 8)])
  else if t.fenceRef.isSome then .err s stTransition 0xF026
  else .later ((s.modStrm n (fun t => { t with fenceRef := some h })).strmMsg n 0 (.fence t.txSeq))

def execWriteFence (h : CmdRef) (peer n : BitVec 16) (s : State) : Host.Outcome State Fault Refusal :=
  .next (s.cmd h 0x0C04 (.writeFence h peer n) (fun s _ => s.writeFence h peer.toNat n.toNat))

end Sys2Proof.Machine
end

