-- ==== Sys2Proof/Machine/Binding.lean ====
section
/-! DEFINITION. Bindings (R454–R456, R464–R466, R505): joining, time over Spine, barriers, broadcasts, binding snapshots and
binding resets. -/
namespace Sys2Proof.Machine

/-! ## Joining (R455) -/

/-- A slipcase of the device has a loaded graph. -/
def State.anyGraph (s : State) : Bool := s.graphs.any (fun e => e.2.exist)

/-- H + c of a link, in ps (R453, R454). -/
def State.hopPs (s : State) (p : Nat) : Nat := 140000 + (s.port p).cablePs

/-- Where time is set, the ports' tick-end marks go on from the new tick. -/
def State.portsAt (s : State) (k : Nat) : State :=
  { s with hops := SMap.mapAll {} s.hops (fun _ h =>
      { h with nextEnd := k, was := [], hotWas := [], chans := h.chans.map (fun c => { c with endSent := k, lastTick := min c.lastTick k }) }) }

/-- Step 5: the device takes the root's time (R39) and follows SPINE. -/
def State.takeTime (s : State) (sys tick tickQ : Nat) : State :=
  let s := s.portsAt tick
  let s := s.modTim (fun t => { t with systime := sys, tick := tick, tickQ := tickQ, kTick := tick, bK := sys, locked := true, bigRun := 0, smallRun := 0, alignRun := 0,
                                       lastAt := SMap.put 0 t.lastAt 4 sys, runFrom := SMap.put none t.runFrom 4 (some sys) })
  (((s.setRfld tuStat 13 13 0).setQualified 4 true).setRfld tuStat 7 4 4).setTimeState 0

/-- BINDING_JOIN: PARENT 0xFF makes a root; else a JOIN climbs the named port. -/
def State.bindingJoin (s : State) (h : CmdRef) (dev parent : Nat) : Res :=
  if parent ≠ 0xFF ∧ 3 < parent then .err s stBadParam 0xF025
  else if s.bind.member ∨ s.bind.joinRef.isSome ∨ s.anyGraph then .err s stTransition 0xF026
  else if dev = 0 then .err s stBadParam 1
  else if parent = 0xFF then
    let s := s.modBind (fun b => { b with member := true, dev := dev, root := dev, isRoot := true, lDev := 0, depth := 0, ids := [(dev, 0)],
                                          leadNs := s.rfld (tuB + 0x24) 10 0 * 1000, jumpNs := s.jumpLimit })
    .ok (s.setRoute dev 12) (result [(dev, 2)])
  else
    let s := s.modBind (fun b => { b with joinRef := some (h, dev, parent) })
    .later (if (s.port parent).state = 3 then s.sendOn parent { body := .join (.request dev (s.hopPs parent)) } else s)

def execBindingJoin (h : CmdRef) (dev : BitVec 16) (parent : BitVec 8) (s : State) : Host.Outcome State Fault Refusal :=
  .next (s.cmd h 0x0C01 (.bindingJoin h dev parent) (fun s _ => s.bindingJoin h dev.toNat parent.toNat))

/-- A link that leads to a member is a tree link. -/
def Bind.addChild (b : Bind) (p : Nat) : Bind := if b.children.contains p then b else { b with children := b.children ++ [p] }

/-- The root answers a join: a taken ID, a pending barrier and a latency beyond TICK_LEAD_MAX refuse it. -/
def State.rootJoin (s : State) (p id path : Nat) : State :=
  let back := fun (s : State) (j : JoinMsg) => s.sendOn p { src := s.devId, body := .join j }
  if id = 0 ∨ s.bind.ids.any (fun e => e.1 = id) then back (s.bump (spnB p + 0x160)) (.refuse id 0)
  else if !s.bind.barriers.isEmpty then back s (.refuse id 1)
  else if s.bind.leadNs * 1000 < path then back s (.refuse id 2)
  else
    let s := (s.modBind (fun b => ({ b with ids := b.ids ++ [(id, path)] }).addChild p)).setRoute id (8 + p)
    back s (.accept id s.bind.dev (s.tim.bK + (s.tim.tick - s.tim.kTick) * s.tickLen) s.tim.tick s.tim.tickQ s.jumpLimit s.bind.leadNs s.bind.lDev s.bind.depth)

/-- The device joins (steps 3 to 5). -/
def State.joined (s : State) (h : CmdRef) (p dev root sys tick tickQ jumpNs leadNs lDev depth : Nat) : State :=
  let l := lDev + s.hopPs p
  let s := s.modBind (fun b => { b with joinRef := none })
  if leadNs * 1000 < l then s.complete h stBadParam 2
  else
    let s := s.modBind (fun b => { b with member := true, dev := dev, root := root, isRoot := false, parent := some p, depth := depth + 1, lDev := l,
                                          leadNs := leadNs, jumpNs := jumpNs })
    ((s.setRoute dev 12).takeTime sys tick tickQ).complete h stOk 0 (result [(root, 2)])

/-- A JOIN message arrives at a port. -/
def State.rxJoin (s : State) (p : Nat) (m : SpMsg) : State :=
  match m.body with
  | .join (.request id path) =>
    if !s.bind.member then s
    else if s.bind.isRoot then s.rootJoin p id path
    else
      match s.bind.parent with
      | some q => (s.modBind (fun b => { b with joins := b.joins ++ [(id, p)] })).sendOn q { src := s.devId, body := .join (.request id (path + s.hopPs q)) }
      | none => s
  | .join (.accept id root sys tick tickQ jumpNs leadNs lDev depth) =>
    match s.bind.joinRef with
    | some (h, dev, par) => if dev = id ∧ par = p then s.joined h p dev root sys tick tickQ jumpNs leadNs lDev depth else s
    | none =>
      match s.bind.joins.find? (fun e => e.1 = id), decide (s.bind.parent = some p) with
      | some (_, q), true =>
        let s := (s.modBind (fun b => ({ b with joins := b.joins.filter (fun e => decide (e.1 ≠ id)) }).addChild q)).setRoute id (8 + q)
        s.sendOn q { src := s.devId, body := .join (.accept id root sys tick tickQ jumpNs leadNs s.bind.lDev s.bind.depth) }
      | _, _ => s
  | .join (.refuse id why) =>
    match s.bind.joinRef with
    | some (h, dev, par) =>
      if dev = id ∧ par = p then
        let s := s.modBind (fun b => { b with joinRef := none })
        match why with
        | 1 => s.complete h stTransition 0xF026
        | 2 => s.complete h stBadParam 2
        | _ => s.complete h stBadParam 1
      else s
    | none =>
      match s.bind.joins.find? (fun e => e.1 = id), decide (s.bind.parent = some p) with
      | some (_, q), true =>
        (s.modBind (fun b => { b with joins := b.joins.filter (fun e => decide (e.1 ≠ id)) })).sendOn q { src := s.devId, body := m.body }
      | _, _ => s
  | _ => s

def execJoin (p : BitVec 2) (m : SpMsg) (s : State) : Host.Outcome State Fault Refusal := .next (s.rxJoin p.toNat m)

/-! ## Time over Spine (R464) -/

/-- A message that only a parent may send came from another port. -/
def State.notParent (s : State) (p : Nat) : Bool := !s.bind.member || s.bind.isRoot || decide (s.bind.parent ≠ some p)

/-- TIME_SYNC: the exchange of a child with its parent, with the offset and correction as its servo filters them. -/
def execTimeSync (p : BitVec 2) (time off : BitVec 64) (freq res : BitVec 32) (s : State) : Host.Outcome State Fault Refusal :=
  .next (if s.notParent p.toNat then s.bump (spnB p.toNat + 0x160)
    else s.sync 4 time.toNat off.toInt freq.toNat res.toInt)

/-- A class-6 marker from the root: kept for its tick and passed down. -/
def State.rxMarker (s : State) (p : Nat) (m : SpMsg) : State :=
  match m.body with
  | .timeMarker tick op => if s.notParent p then s.bump (spnB p + 0x160) else s.scheduleMarker tick op
  | _ => s

def execTimeMarker (p : BitVec 2) (m : SpMsg) (s : State) : Host.Outcome State Fault Refusal := .next (s.rxMarker p.toNat m)

/-! ## Barriers (R466) -/

/-- Lead that a binding-wide operation needs: L on the root (or outside a binding), 2 · L on another member (R465). -/
def State.bindLead (s : State) : Nat := if s.bind.member ∧ !s.bind.isRoot then 2 * s.leadTicks else s.leadTicks

/-- Change the barrier with an ID, made where it is new. -/
def Bind.modBarrier (b : Bind) (id tick : Nat) (f : Barrier → Barrier) : Bind :=
  if b.barriers.any (fun x => x.id = id) then { b with barriers := b.barriers.map (fun x => if x.id = id then f x else x) }
  else { b with barriers := b.barriers ++ [f { id := id, ref := none, at_ := 0, ports := [], sent := false, release := none, since := tick }] }

def State.barrier (s : State) (id : Nat) : Option Barrier := s.bind.barriers.find? (fun x => x.id = id)

/-- This device and every child subtree have arrived. -/
def State.gathered (s : State) (x : Barrier) : Bool := x.ref.isSome && s.bind.children.all (fun p => x.ports.contains p)

/-- Step 1: a member whose subtree has arrived sends ARRIVE to its parent. -/
def State.arrive (s : State) (id : Nat) : State :=
  match s.barrier id, s.bind.parent with
  | some x, some p =>
    if s.gathered x ∧ !x.sent ∧ !s.bind.isRoot then
      (s.modBind (fun b => b.modBarrier id s.tim.tick (fun x => { x with sent := true }))).sendOn p { src := s.devId, body := .globalOp (.arrive id x.at_) }
    else s
  | _, _ => s

/-- BARRIER. -/
def execBarrier (h : CmdRef) (id : BitVec 32) (s : State) : Host.Outcome State Fault Refusal :=
  .next (s.cmdAt h 0x0C05 (.barrier h id) (fun s _ d =>
    let i := id.toNat
    if d < s.bindLead then .err s stBadParam 6
    else if (s.barrier i).any (fun x => x.ref.isSome) then .err s stTransition 0xF026
    else
      let s := s.modBind (fun b => b.modBarrier i s.tim.tick (fun x => { x with ref := some h, at_ := max x.at_ (s.tim.tick + d) }))
      .later (s.arrive i)))

/-- BARRIER_RELEASE: the root has gathered the whole binding; the release tick is the largest AT_TICK, or L ticks ahead. -/
def execBarrierRelease (s : State) : Host.Outcome State Fault Refusal :=
  .next ((s.bind.barriers.filter (fun x => (s.bind.isRoot || !s.bind.member) && s.gathered x && x.release.isNone)).foldl (fun s x =>
    let r := max x.at_ (s.tim.tick + s.leadTicks)
    (s.modBind (fun b => b.modBarrier x.id s.tim.tick (fun x => { x with release := some r }))).sendDown (.globalOp (.release x.id r))) s)

/-- A barrier ends with TIMEOUT on this device. -/
def State.barrierFail (s : State) (id : Nat) : State :=
  match s.barrier id with
  | some x =>
    let s := s.modBind (fun b => { b with barriers := b.barriers.filter (fun x => decide (x.id ≠ id)) })
    match x.ref with
    | some h => s.complete h stTimeout 0xF029
    | none => s
  | none => s

/-- RELEASE_FAIL: 20 ms + 4 · TICK_LEAD_MAX after the largest AT_TICK seen; the root tells the members. -/
def execReleaseFail (s : State) : Host.Outcome State Fault Refusal :=
  .next ((s.bind.barriers.filter (fun x => x.release.isNone && decide (20000000 + 4 * s.leadNs ≤ (s.tim.tick - x.at_) * s.tickLen))).foldl (fun s x =>
    (if s.bind.isRoot then s.sendDown (.globalOp (.releaseFail x.id)) else s).barrierFail x.id) s)

/-- Barriers whose release tick has come complete, in class 5. -/
def State.barriersAt (s : State) : State :=
  let due := s.bind.barriers.filter (fun x => x.release.any (fun r => decide (r ≤ s.tim.tick)))
  let s := s.modBind (fun b => { b with barriers := b.barriers.filter (fun x => !x.release.any (fun r => decide (r ≤ s.tim.tick))) })
  due.foldl (fun s x => match x.ref with | some h => s.complete h stOk 0 | none => s) s

/-! ## Broadcasts (R465) -/

/-- Send a broadcast down and keep it for its tick here. -/
def State.castDown (s : State) (origin tick : Nat) (l : List Nat) : State :=
  (s.modBind (fun b => { b with bcastDue := b.bcastDue ++ [(origin, tick, l)] })).sendDown (.globalOp (.broadcast origin tick l))

/-- PF0 has not yet read a record of its FN_EVENT queue. -/
def State.eventsUnread (s : State) : Bool :=
  match s.eventQueue 0 with
  | some k => decide (0 < (s.qp k).used)
  | none => false

/-- At its tick a broadcast is placed in the buffer and PF0 is told. -/
def State.castPlace (s : State) (origin tick : Nat) (l : List Nat) : State :=
  let s := if s.bind.bcast.isSome ∧ s.eventsUnread then s.bump (spnB 0 + 0x2108) else s
  let s := (s.modBind (fun b => { b with bcast := some (origin, l) })).bump (spnB 0 + 0x2100)
  s.fnEvent 0 5 0 0 [origin, l.length, tick]

def State.castsAt (s : State) : State :=
  let due := s.bind.bcastDue.filter (fun x => decide (x.2.1 ≤ s.tim.tick))
  let s := s.modBind (fun b => { b with bcastDue := b.bcastDue.filter (fun x => decide (s.tim.tick < x.2.1)) })
  due.foldl (fun s x => s.castPlace x.1 x.2.1 x.2.2) s

/-- BROADCAST: up to 4 KiB to the root, which sends it down the tree. -/
def execBroadcast (h : CmdRef) (sgl : Sgl) (payload : List (BitVec 8)) (s : State) : Host.Outcome State Fault Refusal :=
  .next (s.cmdAt h 0x0C06 (.broadcast h sgl payload) (fun s _ d =>
    if 4096 < payload.length then .err s stBadParam 0xF005
    else
      match sglErr sgl payload.length with
      | some e => .err s stBadParam e
      | none =>
        let l := payload.map (·.toNat)
        let t := s.tim.tick + d
        if d < s.bindLead then .err s stBadParam 6
        else if s.bind.member ∧ !s.bind.isRoot then
          let s := s.modBind (fun b => { b with bcastRefs := b.bcastRefs ++ [(h, t)] })
          .later (s.sendTo { dst := s.bind.root, src := s.devId, body := .globalOp (.broadcast s.devId t l) })
        else .ok (s.castDown s.devId t l)))

/-! ## Binding snapshots (R502, R505) -/

/-- The binding snapshot takes the place of a local one, whose command completes with OBJ_WITHDRAWN. -/
def State.snapBind (s : State) (id tick : Nat) (ref : Option CmdRef) : State :=
  let old := s.obs.snapPend
  let s := s.modObs (fun o => { o with snapPend := some (some id, tick, ref) })
  match old with
  | some (_, _, some h) => s.complete h stTransition 0xF027
  | _ => s

/-- The root schedules a snapshot for the whole binding, unless one is pending. -/
def State.rootSnap (s : State) (origin tick : Nat) (ref : Option CmdRef) : State :=
  let id := 2 ^ 31 + (s.obs.snapBind + 1) % 2 ^ 31
  let s := s.modObs (fun o => { o with snapBind := (o.snapBind + 1) % 2 ^ 31 })
  (s.snapBind id tick ref).sendDown (.globalOp (.snapshot id origin tick))

/-- A binding snapshot is pending. -/
def State.bindSnapPending (s : State) : Bool := s.obs.snapPend.any (fun p => p.1.any (fun i => decide (2 ^ 31 ≤ i)))

/-- CUPPING_SCHEDULE (R502): a local snapshot, or one of the whole binding. It completes at the snapshot. -/
def execCuppingSchedule (h : CmdRef) (flags : BitVec 8) (s : State) : Host.Outcome State Fault Refusal :=
  .next (s.cmdAt h 0x0A01 (.cuppingSchedule h flags) (fun s _ d =>
    let t := s.tim.tick + d
    if 2 ≤ flags.toNat then .err s stBadParam 0xF025
    else if flags.getLsbD 0 ∧ d < s.bindLead then .err s stBadParam 1
    else if s.obs.snapPend.isSome ∨ s.bind.snapRef.isSome then .err s stTransition 2
    else if !flags.getLsbD 0 then
      let id := (s.obs.snapLocal + 1) % 2 ^ 31
      .later (s.modObs (fun o => { o with snapLocal := id, snapPend := some (some id, t, some h) }))
    else if s.bind.member ∧ !s.bind.isRoot then
      let s := s.modBind (fun b => { b with snapRef := some h })
      .later (s.sendTo { dst := s.bind.root, src := s.devId, body := .globalOp (.snapReq s.devId t) })
    else .later (s.rootSnap s.devId t (some h))))

/-! ## Binding reset -/

/-- BINDING_RESET: on the root only; it completes at AT_TICK, when every member starts a device reset. -/
def execBindingReset (h : CmdRef) (s : State) : Host.Outcome State Fault Refusal :=
  .next (s.cmdAt h 0x0C07 (.bindingReset h) (fun s _ d =>
    if !(s.bind.member && s.bind.isRoot) then .err s stNotPermitted 7
    else if d < s.bindLead then .err s stBadParam 6
    else
      let t := s.tim.tick + d
      .later ((s.modBind (fun b => { b with resetAt := some (t, some h) })).sendDown (.globalOp (.bindReset t)))))

/-- At its tick a binding reset starts the device reset; global operations and streams are abandoned without completion. -/
def State.bindResetAt (s : State) : State :=
  match s.bind.resetAt with
  | some (t, ref) =>
    if t ≤ s.tim.tick then
      let s := match ref with | some h => s.complete h stOk 0 | none => s
      { s.modBind (fun b => { b with resetAt := none, barriers := [], bcastDue := [], bcastRefs := [], snapRef := none }) with
        resetDue := true, streams := [] }
    else s
  | none => s

/-! ## Global messages -/

/-- A GLOBAL message arrives (R465). -/
def State.rxGlobal (s : State) (p : Nat) (m : SpMsg) : State :=
  match m.body with
  | .globalOp g =>
    match g with
    | .arrive id at_ =>
      if s.bind.children.contains p then
        (s.modBind (fun b => b.modBarrier id s.tim.tick (fun x => { x with at_ := max x.at_ at_, ports := if x.ports.contains p then x.ports else x.ports ++ [p] }))).arrive id
      else s
    | .release id r =>
      if s.notParent p then s.bump (spnB p + 0x160)
      else (s.modBind (fun b => { b with barriers := b.barriers.map (fun x => if x.id = id then { x with release := some r } else x) })).sendDown m.body
    | .releaseFail id => if s.notParent p then s.bump (spnB p + 0x160) else (s.sendDown m.body).barrierFail id
    | .broadcast origin tick l =>
      if s.bind.isRoot then s.castDown origin tick l
      else if s.notParent p then s.bump (spnB p + 0x160)
      else
        let s := s.castDown origin tick l
        match (if origin = s.bind.dev then s.bind.bcastRefs.find? (fun e => e.2 = tick) else none) with
        | some e => (s.modBind (fun b => { b with bcastRefs := b.bcastRefs.erase e })).complete e.1 stOk 0
        | none => s
    | .snapReq origin tick =>
      if !s.bind.isRoot then s
      else if s.bindSnapPending then s.sendTo { dst := origin, src := s.devId, body := .globalOp .snapRefuse }
      else s.rootSnap origin tick none
    | .snapshot id origin tick =>
      if s.notParent p then s.bump (spnB p + 0x160)
      else
        let ref := if origin = s.bind.dev then s.bind.snapRef else none
        let s := s.modBind (fun b => { b with snapRef := if origin = b.dev then none else b.snapRef })
        (s.snapBind id tick ref).sendDown m.body
    | .snapRefuse =>
      match s.bind.snapRef with
      | some h => (s.modBind (fun b => { b with snapRef := none })).complete h stTransition 2
      | none => s
    | .bindReset tick =>
      if s.notParent p then s.bump (spnB p + 0x160)
      else (s.modBind (fun b => { b with resetAt := some (tick, none) })).sendDown m.body
  | _ => s

def execGlobalOp (p : BitVec 2) (m : SpMsg) (s : State) : Host.Outcome State Fault Refusal := .next (s.rxGlobal p.toNat m)

/-! ## Time markers at their tick -/

/-- Something on the device counts in ticks (R41): an admitted contract, an enabled surface, a loaded graph or an enabled ASCU channel. -/
def State.tickInUse (s : State) : Bool :=
  s.contracts.any (fun e => e.2.exist && decide (e.2.state ≠ 2)) || (List.range 16).any (fun r => s.rfld (sfmP r) 31 31 = 1) || s.anyGraph ||
    s.ascu.chans.any (fun e => e.2.en)

/-- Apply the markers whose tick has come (R55, R464): source change, then EPOCH_CHANGE, then others (Table 2.4). -/
def State.markersAt (s : State) : State :=
  let due := s.bind.markers.filter (fun x => decide (x.tick ≤ s.tim.tick))
  let s := s.modBind (fun b => { b with markers := b.markers.filter (fun x => decide (s.tim.tick < x.tick)) })
  let pick := fun (c : Nat) => due.filter (fun x => match x.what with | .sourceChange .. => c = 0 | .epochChange .. => c = 1 | _ => c = 2)
  (pick 0 ++ pick 1 ++ pick 2).foldl (fun s x =>
    match x.what with
    | .sourceChange a b => s.markStreams 1 [a, b]
    | .epochChange a b => s.markStreams 2 [a, b]
    | .tickLen q => if s.tickInUse then s else s.newTickLen q
    | .leadMax n => s.modBind (fun b => { b with leadNs := n })) s

/-! ## Alarm summaries (R512) -/

/-- Merge one summary entry; beyond 1,024 entries it is counted in one of DEV_ID 0xFFFF and CAUSE 0x100. -/
def Obs.mergeSum (o : Obs) (dev cause count last : Nat) : Obs :=
  if o.sums.any (fun e => e.dev = dev && e.cause = cause) then
    { o with sums := o.sums.map (fun e => if e.dev = dev && e.cause = cause && (e.count != count || e.last != last)
        then { e with count := count, last := last, dirty := true } else e) }
  else if o.sums.length < 1024 then { o with sums := o.sums ++ [{ dev := dev, cause := cause, count := count, last := last, dirty := true }] }
  else { o with sumOvf := o.sumOvf + 1 }

/-- The member's own alarms by cause: counts and latest tick. -/
def Obs.ownSums (o : Obs) : List (Nat × Nat × Nat) :=
  let cs := (o.alarms.map (fun e => e.2.cause)).filter (fun c => decide (c ≠ 0))
  cs.eraseDups.map (fun c =>
    let l := (o.alarms.filter (fun e => e.2.cause = c)).map (·.2)
    (c, min 0xFFFFFFFF ((l.map (·.count)).foldl (· + ·) 0), (l.map (·.last)).foldl max 0))

/-- Entries received from a child are merged. -/
def State.rxSummary (s : State) (p : Nat) (ents : List (Nat × Nat × Nat × Nat)) : State :=
  if s.bind.children.contains p then
    (s.modObs (fun o => ents.foldl (fun o e => o.mergeSum e.1 e.2.1 e.2.2.1 e.2.2.2) o)).bump (obsB + 0x138)
  else s

/-- ALARM_SUMMARY: entries received from a child are merged; without any, the member's changes go to its parent, at most once per ms. -/
def execAlarmSummary (p : BitVec 2) (ents : List (Nat × Nat × Nat × Nat)) (s : State) : Host.Outcome State Fault Refusal :=
  .next (if !ents.isEmpty then s.rxSummary p.toNat ents
  else
    let s := s.modObs (fun o => o.ownSums.foldl (fun o e => o.mergeSum s.devId e.1 e.2.1 e.2.2) o)
    match s.bind.parent with
    | some q =>
      let ch := (s.obs.sums.filter (·.dirty)).take 255
      let ovf : List (Nat × Nat × Nat × Nat) := if s.obs.sumOvf ≠ s.obs.sumOvfSent ∧ ch.length < 255 then [(0xFFFF, 0x100, min 0xFFFFFFFF s.obs.sumOvf, s.tim.tick)] else []
      let l := ch.map (fun e => (e.dev, e.cause, e.count, e.last)) ++ ovf
      if l.isEmpty ∨ s.tim.systime < s.obs.sumSent + 1000000 ∨ (s.port q).state ≠ 3 then s
      else
        let s := s.modObs (fun o => { o with sumSent := s.tim.systime, sumOvfSent := if ovf.isEmpty then o.sumOvfSent else o.sumOvf, sums := o.sums.map (fun e => if ch.contains e then { e with dirty := false } else e) })
        (s.bump (obsB + 0x130)).sendOn q { src := s.devId, body := .summary l }
    | none => s)

end Sys2Proof.Machine
end

