-- ==== Sys2Proof/Machine/Quire.lean ====
section
/-! DEFINITION. Quires (05): Access Engines, segments, replay, kernels, and channels and arbiters (01, R16–R25). -/
namespace Sys2Proof.Machine

/-! ## Memory bytes -/

/-- A byte of SFM region memory: entries of two bytes, in the current generation (R101). -/
def State.sfmByte (s : State) (r a : Nat) : BitVec 8 :=
  let e := (s.sfm r).read (a / 2)
  BitVec.ofNat 8 (if a % 2 = 0 then e.toNat else e.toNat / 256)

/-! ## Channels of a quire (R16, R17, R125) -/

def Quire.chan (q : Quire) (c : Nat) : QChan := SMap.get {} q.chans c
def Quire.modChan (q : Quire) (c : Nat) (f : QChan → QChan) : Quire := { q with chans := SMap.upd {} q.chans c f }

/-- Drop the oldest descriptors that have completed and whose slots are free again (R128). -/
def Ae.retireN (a : Ae) : Nat → Ae
  | 0 => a
  | n + 1 =>
    match a.flight with
    | f :: r => if f.done ∧ f.freed then ({ a with flight := r, retire := (a.retire + 1) % 2 ^ a.log2n }).retireN n else a
    | [] => a
def Ae.settle (a : Ae) : Ae := a.retireN a.flight.length

/-- The channel a descriptor names, none for 0xFF. -/
def AeFlight.chan (f : AeFlight) : Option Nat :=
  let c := bitsN ((f.words[0]?).getD 0).toNat 55 48
  if c = 0xFF then none else some c

/-- The oldest completed descriptor that filled a slot of a channel has its credit back. -/
def freeSlot (c : Nat) : List AeFlight → List AeFlight
  | [] => []
  | f :: r => if f.done ∧ !f.freed ∧ f.chan = some c then { f with freed := true } :: r else f :: freeSlot c r

/-- A descriptor of an engine waits for a credit of a channel. -/
def Ae.awaits (a : Ae) (c : Nat) : Bool := a.flight.any (fun f => f.done && !f.freed && f.chan == some c)

/-- Return n credits of a channel: the descriptor that posted its token retires (R128), of the Access Engine that produces the channel
or else of the one that waits for the credit. -/
def Quire.creditN (q : Quire) (c : Nat) : Nat → Quire
  | 0 => q
  | n + 1 =>
    let q := q.modChan c (fun x => { x with credits := x.credits + 1 })
    let q := if (q.chan c).prod ≠ 8 ∧ q.ae0.awaits c then { q with ae0 := ({ q.ae0 with flight := freeSlot c q.ae0.flight }).settle }
      else { q with ae1 := ({ q.ae1 with flight := freeSlot c q.ae1.flight }).settle }
    q.creditN c n

/-- Consume n tokens of a channel and return the credits; a ribbon's items leave. -/
def Quire.consume (q : Quire) (c n : Nat) : Quire :=
  (q.modChan c (fun x => { x with tokens := x.tokens - n, items := x.items.drop n, rp := x.rp - n })).creditN c n

/-- Post items to a channel: a credit is spent and a token gained for each, and a ribbon takes the item. -/
def Quire.post (q : Quire) (c n : Nat) (items : List (BitVec 64)) : Quire :=
  q.modChan c (fun x => { x with credits := x.credits - n, tokens := x.tokens + n, items := if x.isRibbon then x.items ++ items else x.items,
                                 slot := if x.isRibbon then x.slot else (x.slot + n) % max 1 x.cap })

/-- The operation may start (R17). -/
def Quire.ready (q : Quire) (ins outs : List (Nat × Nat)) : Bool :=
  ins.all (fun p => decide (p.2 ≤ (q.chan p.1).tokens)) && outs.all (fun p => decide (p.2 ≤ (q.chan p.1).credits))

/-! ## Ribbons fed from outside the quire (R17, R113, R278, R458) -/

/-- Entry c of quire q is the one a graph's index and entry name. -/
def State.namesEntry (s : State) (q c g i e : Nat) : Bool := decide (e = c ∧ (s.graph g).quires[i]? = some q)
def State.isFeed (s : State) (q c : Nat) (x : HChan) : Bool := match x.consumer with | .quire g i e => s.namesEntry q c g i e | _ => false
def State.isSink (s : State) (q c : Nat) (k : AuxSink) : Bool := k.quire.any (fun p => s.namesEntry q c k.graph p.1 p.2)

/-- Unit input channels (R457) that end in an entry of a quire. -/
def State.unitFeeds (s : State) (q c : Nat) : List Nat :=
  s.graphs.flatMap (fun e => if e.2.exist && e.2.state = 1 then (e.2.unitIns.filter (fun u => s.namesEntry q c e.1 u.2.1 u.2.2)).map (·.1) else [])

/-- The items that wait outside for an entry and have not been read. -/
def State.feedItems (s : State) (q c : Nat) : List (BitVec 64) :=
  s.sfms.flatMap (fun e => (e.2.crnChans ++ e.2.flwChans).flatMap (fun x => if s.isFeed q c x then x.ribbon.items.drop x.ribbon.rp else [])) ++
  s.ascu.chans.flatMap (fun e => e.2.sinks.flatMap (fun k => if s.isSink q c k then k.items.drop k.rp else [])) ++
  (s.unitFeeds q c).flatMap (fun u => SMap.get [] s.uchans u)

/-- Change what feeds an entry. -/
def State.mapFeeds (s : State) (q c : Nat) (f : Ribbon → Ribbon) (k : AuxSink → AuxSink) : State :=
  let on := fun (x : HChan) => if s.isFeed q c x then { x with ribbon := f x.ribbon } else x
  let sink := fun (x : AuxSink) => if s.isSink q c x then k x else x
  { s with sfms := SMap.mapAll {} s.sfms (fun _ z => { z with crnChans := z.crnChans.map on, flwChans := z.flwChans.map on }),
           ascu := { s.ascu with chans := SMap.mapAll {} s.ascu.chans (fun _ z => { z with sinks := z.sinks.map sink }) } }

/-- Read up to n items into an entry. A ribbon keeps them until they are released (R87). -/
def State.pull (s : State) (q c n : Nat) : State :=
  let l := (s.feedItems q c).take n
  if l.isEmpty then s
  else
    let us := s.unitFeeds q c
    let s := s.mapFeeds q c (fun r => r.reads l.length) (fun k => { k with rp := min k.items.length (k.rp + l.length) })
    let s := us.foldl (fun s u => s.takeChan u (min l.length (SMap.get [] s.uchans u).length)) s
    s.modQuire q (fun x => x.post c l.length l)

/-- Read what an operation's input ribbons lack. -/
def State.pullAll (s : State) (q : Nat) (ins : List (Nat × Nat)) : State :=
  ins.foldl (fun s p =>
    let x := (s.quire q).chan p.1
    if x.isRibbon ∧ x.tokens < p.2 then s.pull q p.1 (p.2 - x.tokens) else s) s

/-- Release outside what the quire has consumed of its entries. -/
def State.settleFeeds (s : State) (q : Nat) : State :=
  ((s.quire q).chans.filter (fun e => e.2.isRibbon)).foldl (fun s e =>
    let m := e.2.items.length
    s.mapFeeds q e.1 (fun r => r.release (r.rp - m)) (fun k => ({ k with items := k.items.drop (k.rp - m), rp := min k.rp m }).drain)) s

/-! ## Descriptors (R126–R132, Tables 5.3 to 5.5) -/

def Quire.ae (q : Quire) (e : Nat) : Ae := if e = 0 then q.ae0 else q.ae1
def Quire.setAe (q : Quire) (e : Nat) (a : Ae) : Quire := if e = 0 then { q with ae0 := a } else { q with ae1 := a }

/-- The fields of a descriptor. -/
structure Desc where
  op : Nat
  cls : Nat
  wait : Bool
  chan : Nat
  space : Nat
  far : Nat
  qaddr : Nat
  rows : Nat
  rowBytes : Nat
  farStride : Int
  qStride : Nat
  qual : Nat

def descOf (w : List (BitVec 64)) : Desc :=
  let g := fun i => ((w[i]?).getD 0).toNat
  { op := bitsN (g 0) 63 60, cls := bitsN (g 0) 59 57, wait := bitsN (g 0) 56 56 = 1, chan := bitsN (g 0) 55 48, space := bitsN (g 0) 47 44,
    far := bitsN (g 0) 39 0, qaddr := bitsN (g 1) 63 44, rows := bitsN (g 1) 43 32 + 1, rowBytes := bitsN (g 1) 31 16,
    farStride := sext 32 (bitsN (g 2) 63 32), qStride := bitsN (g 2) 31 12, qual := bitsN (g 3) 63 52 }

/-- OP permitted by SPACE (Table 5.5). NOP and FENCE name no space. -/
def Desc.opSpace (d : Desc) : Bool :=
  match d.op with
  | 0 | 5 => true
  | 1 => d.space ≤ 2
  | 2 => d.space = 0 || d.space = 2 || d.space = 4
  | 3 => d.space = 3
  | _ => d.space = 0

/-- Moves data. -/
def Desc.moves (d : Desc) : Bool := 1 ≤ d.op && d.op ≤ 4

/-- Far offset of row i. -/
def Desc.farRow (d : Desc) (i : Nat) : Int := (d.far : Int) + d.farStride * i
/-- All rows lie within [0, lim) of the far space. -/
def Desc.farIn (d : Desc) (lim : Nat) : Bool :=
  [d.farRow 0, d.farRow (d.rows - 1)].all (fun o => decide (0 ≤ o ∧ o + d.rowBytes ≤ (lim : Int)))

/-- The slipcase's contracts grant a DRAM class: best effort to every slipcase, contracted reads and writes to one with an admitted
contract (log entry 42). -/
def State.classGrant (s : State) (slip : Nat) (d : Desc) : Bool :=
  d.cls = 0 || ((d.cls = 6 || d.cls = 5) && s.contracts.any (fun e => e.2.exist && decide (e.2.state ≠ 2) && decide ((s.graph e.2.graph).slip = slip)))

/-- The channel that a unit channel number reaches belongs to the slipcase: a stream's egress channel, or a chip-level unit's input. -/
def State.unitStream (s : State) (slip c : Nat) : Option Nat :=
  (s.graphs.find? (fun e => e.2.exist && decide (e.2.slip = slip) && e.2.egress.any (fun p => p.1 = c))).bind
    (fun e => (e.2.egress.find? (fun p => p.1 = c)).map (·.2))
def State.unitOk (s : State) (slip c : Nat) : Bool :=
  s.graphs.any (fun e => e.2.exist && decide (e.2.slip = slip) && (e.2.egress.any (fun p => p.1 = c) || e.2.units.contains c))

/-- A far range within the slipcase's permissions (R402). -/
def State.farOk (s : State) (slip : Nat) (d : Desc) : Bool :=
  match d.space with
  | 0 => (s.slip slip).rules.any (fun w => decide (w.win = d.qual) && (if d.op = 2 then w.wr else w.rd) && d.farIn w.size)
  | 1 => decide (d.qual < 16) && (s.slip slip).regions.getLsbD d.qual && d.farIn 4194304
  | 2 => decide (d.qual < 68) && decide ((s.quire d.qual).slip = some slip) && d.farIn 1048576
  | 3 => d.farIn 1048576
  | _ => s.unitOk slip d.qual

/-- QADDR in use: the channel's next slot where the engine produces the channel (R127). -/
def Quire.descAddr (q : Quire) (e : Nat) (d : Desc) : Nat :=
  let c := q.chan d.chan
  if d.chan < 64 ∧ c.valid ∧ c.prod = 7 + e ∧ !c.isRibbon then c.base + c.slot * c.isize * 32 else d.qaddr

/-- The checks of R127 and R130 in the order of the cause codes (Table 5.8): none where the descriptor is good. -/
def State.descFault (s : State) (q e slip : Nat) (d : Desc) : Option Nat :=
  let c := (s.quire q).chan d.chan
  let a := (s.quire q).descAddr e d
  let last := a + d.qStride * (d.rows - 1) + d.rowBytes
  if 6 ≤ d.op then some 1
  else if !d.opSpace then some 2
  else if 64 ≤ d.chan ∧ d.chan ≠ 0xFF then some 3
  else if d.moves ∧ (a % 32 ≠ 0 ∨ d.qStride % 32 ≠ 0 ∨ d.rowBytes % 32 ≠ 0 ∨ d.rowBytes = 0) then some 4
  else if d.moves ∧ (1048576 < last ∨ (d.chan < 64 ∧ c.valid ∧ c.prod = 7 + e ∧ c.isize * 32 < d.rows * d.rowBytes)) then some 5
  else if d.moves ∧ !s.farOk slip d then some 6
  else if d.moves ∧ d.space = 0 ∧ !s.classGrant slip d then some 7
  else none

/-- A descriptor fault stops the engine (R130). -/
def State.aeFault (s : State) (q e slip cause : Nat) : State :=
  let i := ((s.quire q).ae e).start
  let s := s.modQuire q (fun x => ({ x with aeFault := e * 2 ^ 31 + i * 2 ^ 16 + cause }).setAe e { x.ae e with stopped := true })
  let s := s.orReg (qrB q + 0xC) 0x40
  let s := if cause = 6 then s.bump (mcB + 0x3010) else s
  s.fault q 8 slip

/-- DESCRIPTOR_START (R127, R128, R130): the next descriptor of a ring starts once it may. -/
def execDescriptorStart (q : BitVec 7) (e : Bool) (s : State) : Host.Outcome State Fault Refusal :=
  let n := q.toNat
  let x := s.quire n
  let a := x.ae e.toNat
  .next (match x.slip with
  | none => s
  | some slip =>
    if s.qState n ≠ 1 ∨ a.stopped ∨ a.start = a.tail ∨ 64 ≤ a.flight.length then s
    else
      let ws := (List.range 4).map (fun i => wordAt x.qsp (a.base + 32 * a.start + 8 * i))
      let d := descOf ws
      let c := x.chan d.chan
      let mine := decide (d.chan < 64) && c.valid && decide (c.prod = 7 + e.toNat)
      match s.descFault n e.toNat slip d with
      | some cause => s.aeFault n e.toNat slip cause
      | none =>
        if (d.wait ∧ a.flight.any (fun f => !f.done)) ∨ (mine ∧ c.credits = 0) then s
        else
          let f : AeFlight := { words := ws, epoch := (s.slip slip).epoch, freed := d.chan = 0xFF, qaddr := x.descAddr e.toNat d }
          let x := if mine then x.modChan d.chan (fun c => { c with credits := c.credits - 1, slot := (c.slot + 1) % max 1 c.cap }) else x
          s.modQuire n (fun _ => x.setAe e.toNat { a with start := (a.start + 1) % 2 ^ a.log2n, flight := a.flight ++ [f] }))

/-- The bytes of row i in the far space; a poisoned read's 64-byte beats read as zeros (R131). -/
def State.farRead (s : State) (slip : Nat) (d : Desc) (bad : List Nat) (i : Nat) : List (BitVec 8) :=
  let o := (d.farRow i).toNat
  let base := (((s.slip slip).rules.find? (fun w => w.win = d.qual)).map (·.base)).getD 0
  (List.range d.rowBytes).map (fun j =>
    if bad.any (fun b => decide (b / 64 = (o + j) / 64)) then 0
    else match d.space with
      | 0 => SMap.get 0 s.dram (base + o + j)
      | 1 => s.sfmByte d.qual (o + j)
      | 2 => SMap.get 0 (s.quire d.qual).qsp (o + j)
      | _ => 0)

/-- Move the data of a descriptor. -/
def State.descMove (s : State) (q slip : Nat) (d : Desc) (a : Nat) (bad : List Nat) : State :=
  let rows := List.range d.rows
  match d.op with
  | 1 => rows.foldl (fun s i => let b := s.farRead slip d bad i; s.modQuire q (fun x => { x with qsp := SMap.putAll 0 x.qsp (a + d.qStride * i) b })) s
  | 4 => rows.foldl (fun s i => let b := s.farRead slip d bad i; s.modQuire q (fun x => { x with sys := SMap.putAll 0 x.sys (a + d.qStride * i) b })) s
  | 3 => rows.foldl (fun s i => s.modQuire q (fun x =>
      { x with qsp := SMap.putAll 0 x.qsp (a + d.qStride * i) (bytesAt x.qsp (d.farRow i).toNat d.rowBytes) })) s
  | 2 =>
    rows.foldl (fun s i =>
      let b := bytesAt (s.quire q).qsp (a + d.qStride * i) d.rowBytes
      match d.space with
      | 0 =>
        let base := (((s.slip slip).rules.find? (fun w => w.win = d.qual)).map (·.base)).getD 0
        { s with dram := SMap.putAll 0 s.dram (base + (d.farRow i).toNat) b }
      | 2 => s.modQuire d.qual (fun x => { x with qsp := SMap.putAll 0 x.qsp (d.farRow i).toNat b })
      | _ =>
        let ws := wordsOf (b.length / 8) b
        match s.unitStream slip d.qual with
        | some n => s.strmWrite n (.writeChan ws false)
        | none => { s with uchans := SMap.upd [] s.uchans d.qual (fun l => l ++ ws) }) s
  | _ => s

/-- DRAM bytes are counted against the slipcase (Table 15.7). -/
def Desc.dramBytes (d : Desc) : Nat := if d.moves ∧ d.space = 0 then d.rows * d.rowBytes else 0

/-- DESCRIPTOR_COMPLETE (R128, R131): the oldest descriptor that has not completed does, posts its token and retires when it may.
`bad` are the far offsets that returned poison from ECC, beside those cancelled under URGENT REVOKE. -/
def execDescriptorComplete (q : BitVec 7) (e : Bool) (bad : List Nat) (s : State) : Host.Outcome State Fault Refusal :=
  let n := q.toNat
  let a := (s.quire n).ae e.toNat
  .next (match a.flight.findIdx? (fun f => !f.done), (s.quire n).slip with
  | some i, some slip =>
    match a.flight[i]? with
    | none => s
    | some f =>
      let d := descOf f.words
      let bad := if d.op = 1 ∨ d.op = 4 then f.poison ++ bad else f.poison
      let s := s.descMove n slip d f.qaddr bad
      let s := s.modSlip slip (fun p => p.count 5 d.dramBytes)
      let s := s.modQuire n (fun x =>
        let x := x.setAe e.toNat { x.ae e.toNat with flight := (x.ae e.toNat).flight.set i { f with done := true } }
        let x := if d.chan < 64 then x.modChan d.chan (fun c => { c with tokens := c.tokens + 1 }) else x
        x.setAe e.toNat (x.ae e.toNat).settle)
      let s := s.bump (qrB n + (if e then 0x638 else 0x630))
      if bad.isEmpty then s
      else bad.foldl (fun s _ => (s.bump (qrB n + 0x640)).fault n 0xC slip) (s.orReg (qrB n + 0xC) 0x20)
  | _, _ => s)

/-! ## Operations and segments (R17, R134) -/

/-- Engines that work in segments: DXE, AXE and VU. -/
def segEngine (e : Nat) : Bool := e = 1 || e = 2 || e = 4

/-- Read n items of a ribbon entry from RP, with the micro-batch's mark at its start. -/
def QChan.reads (c : QChan) (n : Nat) : QChan :=
  if c.isRibbon then { c with mark := some c.rp, rp := max c.rp (min c.items.length (c.rp + n)), last := (c.items[min c.items.length (c.rp + n) - 1]?).getD c.last } else c

/-- Ribbon entries from which an operation would read more items than they hold, though their tokens stand (R87). -/
def Quire.shorts (x : Quire) (ins : List (Nat × Nat)) : List Nat :=
  (ins.filter (fun p => (x.chan p.1).isRibbon &&
    decide ((x.chan p.1).items.length < (x.chan p.1).rp + ((ins.filter (fun y => y.1 = p.1)).map (·.2)).sum))).map (·.1)

/-- UNDERRUN (R88): the quire's error bit, that of every port whose derived channel feeds the entry, and the fault. -/
def State.underrun (s : State) (q : Nat) (l : List Nat) : State :=
  if l.isEmpty then s
  else
    let ports := (s.sfms.filter (fun e => (e.2.crnChans ++ e.2.flwChans).any (fun x => l.any (fun c => s.isFeed q c x)))).map (·.1)
    let s := ports.foldl (fun s n => s.orReg (hopB n + 0x48) 2) s
    (s.orReg (qrB q + 0xC) 4).fault q 6 ((s.quire q).slip.getD 0xFF)

/-- CHANNEL_OPERATION_START (R17): an engine of a quire starts an operation whose inputs and outputs are the given channels and
items. What the operation writes and posts is held as its segment until it commits (R134); an operation of another engine ends at
once. A missing token holds it; a missing credit also counts a stall (R20). A ribbon that holds fewer items than its tokens say
underruns (R88). -/
def State.opStart (s : State) (q e : Nat) (ins outs : List (Nat × Nat)) (writes : List (Nat × List (BitVec 8))) (items : List (Nat × BitVec 64)) :
    State :=
  let s := if s.qState q = 1 then s.pullAll q ins else s
  let x := s.quire q
  if s.qState q ≠ 1 ∨ x.segs.any (fun p => p.1 = e) then s
  else if !x.ready ins [] then s
  else
    let dry := ((outs.filter (fun p => decide ((x.chan p.1).credits < p.2))).map (·.1)).eraseDups
    if !dry.isEmpty then dry.foldl (fun s c => s.bump (qrB q + 0x400 + 8 * c)) s
    else
      let seg : Segment := { writes := writes, tokens := outs.flatMap (fun p => List.replicate p.2 p.1), credits := ins.flatMap (fun p => List.replicate p.2 p.1),
                             outs := items, ribbons := ins.filter (fun p => (x.chan p.1).isRibbon) }
      let x := { x with busy := x.busy ||| 2 ^ e }
      -- the micro-batch marks its ribbons and reads past its items
      let l := x.shorts ins
      let x := ins.foldl (fun x p => x.modChan p.1 (fun c => c.reads p.2)) x
      (s.modQuire q (fun _ => { x with segs := x.segs ++ [(e, seg)] })).underrun q l

def execChannelOperationStart (q : BitVec 7) (e : BitVec 4) (ins outs : List (Nat × Nat)) (writes : List (Nat × List (BitVec 8)))
    (items : List (Nat × BitVec 64)) (s : State) : Host.Outcome State Fault Refusal :=
  .next (s.opStart q.toNat e.toNat ins outs writes items)

/-- A segment's held writes, tokens, credits and items take effect. -/
def Quire.commit (q : Quire) (e : Nat) (g : Segment) : Quire :=
  let q := g.writes.foldl (fun (q : Quire) w => { q with qsp := SMap.putAll 0 q.qsp w.1 w.2 }) q
  let q := g.tokens.foldl (fun (q : Quire) c => q.post c 1 []) q
  let q := g.outs.foldl (fun (q : Quire) p => q.modChan p.1 (fun x => if x.isRibbon then { x with items := x.items ++ [p.2] } else x)) q
  let q := g.ribbons.foldl (fun (q : Quire) p => q.modChan p.1 (fun x => { x with mark := none })) q
  let q := g.credits.foldl (fun (q : Quire) c => q.consume c 1) q
  { q with segs := q.segs.filter (fun p => decide (p.1 ≠ e)), busy := q.busy &&& (2 ^ 16 - 1 - 2 ^ e), floorErr := SMap.put 0 q.floorErr e 0 }

/-- SEGMENT_COMMIT (R134): the segment of an engine has passed the detection window. -/
def execSegmentCommit (q : BitVec 7) (e : BitVec 4) (s : State) : Host.Outcome State Fault Refusal :=
  .next (match (s.quire q.toNat).segs.find? (fun p => p.1 = e.toNat) with
  | some (_, g) => (s.modQuire q.toNat (fun x => x.commit e.toNat g)).settleFeeds q.toNat
  | none => s)

/-! ## Replay (R135–R139) -/

/-- Contracts whose graphs use the quire see a contract fault. -/
def State.quireConFault (s : State) (q cause : Nat) : State := s.conFault (fun g => (g.quires ++ g.partners).contains q) cause

/-- The step a quire runs at: the lower of replay's and the limiter's (R525). -/
def State.step (s : State) (q : Nat) : Nat := min (s.quire q).curStep (SMap.get 24 s.pwr.caps q)

/-- The limiter holds a quire down. -/
def State.held (s : State) (q : Nat) : Bool := s.pwr.acts.any (fun a => a.2.any (fun p => decide (p.1 = q)))

/-- CONTRACT_STEP is not reached (R139). -/
def State.below (s : State) (q : Nat) : Bool := decide (s.step q < (s.quire q).contractStep)

/-- One engine's replay: counted, traced, and at step 0 the third in a row of one segment is REPLAY_FLOOR. -/
def State.replay1 (s : State) (q cycles e : Nat) : State :=
  let x := s.quire q
  let s := ((s.bump (qrB q + 0x600)).bump (qrB q + (if e = 1 then 0x608 else if e = 2 then 0x610 else 0x618))).bump (qrB q + 0x620) (min 64 cycles)
  let s := s.modSi (fun y => { y with traces := y.traces ++ [(q, s.tim.tick)] })
  let s := match x.slip with | some n => s.modSlip n (fun p => p.count 6 1) | none => s
  let s := s.trace q (x.slip.getD 0xFF) 5 [q, e, s.step q]
  let fl := if s.step q = 0 then SMap.get 0 x.floorErr e + 1 else 0
  -- the segment is run again from its start: its ribbons are rewound and read again, its content is the same (R136)
  let s := s.modQuire q (fun x => { x with winReplays := x.winReplays + 1, floorErr := SMap.put 0 x.floorErr e fl })
  if fl = 3 then (s.orReg (qrB q + 0xC) 0x10).fault q 4 (x.slip.getD 0xFF) else s

/-- REPLAY: errors detected in the DXE, AXE or VU (mask bits 1, 2, 4), before or while a step-down is in progress; cycles lost in each. -/
def execReplay (q : BitVec 7) (engines : BitVec 8) (stepping : Bool) (cycles : BitVec 8) (s : State) : Host.Outcome State Fault Refusal :=
  let n := q.toNat
  let es := [1, 2, 4].filter (fun e => engines.getLsbD e)
  .next (if s.qState n ≠ 1 ∨ es.isEmpty then s
  else
    let s := es.foldl (fun s e => s.replay1 n cycles.toNat e) s
    let s := if stepping then s else s.modQuire n (fun x => { x with curStep := s.step n - 1 })
    if s.below n then s.quireConFault n 1 else s)

/-- STEP_UP (R138): after 65,536 clean cycles, one step up until TARGET_STEP, where the limiter does not hold it (R525). -/
def execStepUp (q : BitVec 7) (s : State) : Host.Outcome State Fault Refusal :=
  let x := s.quire q.toNat
  .next (if s.qState q.toNat = 1 ∧ x.curStep < x.target ∧ !s.held q.toNat then s.modQuire q.toNat (fun x => { x with curStep := x.curStep + 1 }) else s)

/-- ALLOW and WIN_TICKS of a quire. -/
def State.allow (s : State) (q : Nat) : Nat := s.rfld (qrB q + 8) 31 16
def State.winTicks (s : State) (q : Nat) : Nat := max 1 (s.rfld (qrB q + 8) 15 0)

/-! ## Kernels (R142, R143) -/

/-- KERNEL_INVOCATION: a kernel of n items runs to its end: its writes to QSP, its output items, and, for an SU kernel, the tails of
the descriptor rings it has filled. The code is opaque: what it writes is an operand. -/
def execKernelInvocation (q : BitVec 7) (k n : BitVec 16) (writes : List (Nat × List (BitVec 8))) (items : List (Nat × BitVec 64))
    (tail0 tail1 : Option (BitVec 12)) (s : State) : Host.Outcome State Fault Refusal :=
  .next (match (s.quire q.toNat).kernels[k.toNat]? with
  | none => s
  | some ker =>
    let s := if s.qState q.toNat = 1 then s.pullAll q.toNat ker.ins else s
    let x := s.quire q.toNat
    if s.qState q.toNat ≠ 1 ∨ ker.itemMax < n.toNat ∨ !x.ready ker.ins ker.outs then s
    else
      let x := writes.foldl (fun (x : Quire) w => { x with qsp := SMap.putAll 0 x.qsp w.1 w.2 }) x
      let x := ker.outs.foldl (fun (x : Quire) p => x.post p.1 p.2 ((items.filter (fun y => y.1 = p.1)).map (·.2))) x
      let x := ker.ins.foldl (fun (x : Quire) p => x.consume p.1 p.2) x
      let x := match tail0 with | some t => { x with ae0 := { x.ae0 with tail := t.toNat % 2 ^ x.ae0.log2n } } | none => x
      let x := match tail1 with | some t => { x with ae1 := { x.ae1 with tail := t.toNat % 2 ^ x.ae1.log2n } } | none => x
      ((s.modQuire q.toNat (fun _ => x)).settleFeeds q.toNat).bump (qrB q.toNat + 0x650))

/-- LIMIT(n) (R143). -/
def Kernel.limit (k : Kernel) (n : Nat) : Nat := k.wcetFix + k.wcetPer * n + k.wait * (k.memFix + k.memPer * n)

/-- KERNEL_OVERRUN: an invocation of n items that has run for LIMIT(n) + 1 cycles, replay cycles left out, is stopped: no output, no
input credits. -/
def execKernelOverrun (q : BitVec 7) (k n : BitVec 16) (cycles : BitVec 32) (s : State) : Host.Outcome State Fault Refusal :=
  let x := s.quire q.toNat
  .next (match x.kernels[k.toNat]? with
  | some ker =>
    if s.qState q.toNat = 1 ∧ ker.limit n.toNat < cycles.toNat then
      ((s.bump (qrB q.toNat + 0x658)).orReg (qrB q.toNat + 0xC) 0x80).fault q.toNat 9 (x.slip.getD 0xFF)
    else s
  | none => s)

/-! ## Arbiters (R21–R24) -/

def State.arb (s : State) (k : Nat) : Arb := SMap.get {} s.arbs k

/-- An input is masked: at or above QLEVEL with its quota spent (R22). -/
def Arb.masked (a : Arb) (i : Nat) : Bool := decide (a.qlevel ≤ i) && decide ((a.quotas[i]?).getD 0xFFFF ≤ SMap.get 0 a.grants i)

/-- ARBITER_GRANT (R21): the unmasked requesting input with the highest number is granted. -/
def execArbiterGrant (k : BitVec 28) (reqs : BitVec 64) (s : State) : Host.Outcome State Fault Refusal :=
  let a := s.arb k.toNat
  .next (match ((List.range 64).reverse).find? (fun i => reqs.getLsbD i && !a.masked i) with
  | some i => { s with arbs := SMap.put {} s.arbs k.toNat { a with grants := SMap.upd 0 a.grants i (· + 1), last := some i } }
  | none => s)

/-- ARBITER_WINDOW_START (R22, R24): counts return to 0, masks are lifted, and the settings in the registers apply. -/
def execArbiterWindowStart (k : BitVec 28) (s : State) : Host.Outcome State Fault Refusal :=
  let b := k.toNat
  let qs := (List.range 64).map (fun i => s.rfld (b + 4 + 4 * i) 15 0)
  let a : Arb := { s.arb b with qlevel := s.rfld b 6 0, grants := [], quotas := qs }
  .next { s with arbs := SMap.put {} s.arbs b a }

end Sys2Proof.Machine
end

