-- ==== Sys2Proof/Machine/Delta.lean ====
section
/-! DEFINITION. The delta path (07): inputs, propagation and settlement, rebases, virtual frames and GRIND, and the meanings of its
events and of VFRAME_READ. -/
namespace Sys2Proof.Machine

/-! ## Time and items -/

/-- The TICK_COUNT that an ETS near the present names (R43). -/
def State.fullTick (s : State) (ets : Nat) : Nat := ((s.tim.tick : Int) + etsDiff ets s.ets).toNat

/-- Items that wait in a graph's channel of a port, and what is left after the first is taken. -/
def State.liveItems (s : State) (g r : Nat) : List (BitVec 64) :=
  (((s.hop r).chans.find? (fun c => c.consumer = .graph g)).map (fun c => c.ribbon.items)).getD []
def State.liveDrop (s : State) (g r : Nat) : State :=
  s.modHop r (fun h => { h with chans := h.chans.map (fun c => if c.consumer = .graph g then { c with ribbon := { c.ribbon with items := c.ribbon.items.drop 1 } } else c) })

/-- The bank whose state serves a tick, none during a failed, wake or start rebase (R189–R191, R588). -/
def Delta.bankFor (d : Delta) (t : Nat) : Option Nat :=
  match d.old.filter (fun o => decide (o.2.1 ≤ t ∧ t < o.2.2)) with
  | some o => some o.1
  | none => (d.service.filter (fun b => decide (b.2 ≤ t) && d.deadFrom.all (fun k => decide (t < k)))).map (·.1)

/-- The rebase that builds a bank. -/
def Delta.rebOf (d : Delta) (b : Nat) : Option Rebase := d.reb.filter (fun r => decide (r.bank = b ∧ r.phase ≠ 5))

/-- Ticks below this have passed the INPUT layer of a bank. -/
def Delta.inClosed (d : Delta) (b : Nat) : Nat :=
  match d.rebOf b with
  | some r => if r.phase = 4 then d.live else r.closed
  | none =>
    match d.old.filter (fun o => decide (o.1 = b)) with
    | some o => min d.live o.2.2
    | none => match d.deadFrom with | some k => min d.live k | none => d.live

/-- Banks a live item of a tick goes to: the old bank up to the switch, the bank in service, and the target once it has caught up. -/
def Delta.liveBanks (d : Delta) (k : Nat) : List Nat :=
  ((d.old.filter (fun o => decide (k < o.2.2))).map (·.1)).toList ++
  ((d.service.filter (fun _ => d.deadFrom.all (fun t => decide (k < t)))).map (·.1)).toList ++
  ((d.reb.filter (fun r => decide (r.phase = 4 ∧ r.boundary ≤ k))).map (·.bank)).toList

/-- GRIND of a layer in force at a tick (R183). -/
def Delta.grindAt (d : Delta) (l k : Nat) : Nat :=
  match d.grinds.find? (fun c => decide (c.1 = l ∧ c.2.1 ≤ k)) with
  | some c => c.2.2
  | none => dlGrind (d.layer l)
/-- thr of R179. -/
def thr (g : Nat) : Nat := if g = 0 then 1 else 2 ^ (g - 1)
/-- GRIND_SUM of Table 7.7. -/
def Delta.grindSum (d : Delta) (k : Nat) : Nat := ((List.range d.layers.length).map (fun l => d.grindAt l k)).foldl (· + ·) 0

/-! ## Propagation (R179) -/

/-- Send a delta to every layer that names its source. -/
def State.sendDelta (s : State) (g b : Nat) (i : DItem) : State :=
  s.modDelta g (fun d => d.modBank b (fun k => { k with queue := k.queue ++ (d.users i.src).map (fun m => (m, i)) }))

/-- An event item at the INPUT layer of one bank. -/
def State.inputItem (s : State) (g b : Nat) (w : BitVec 64) (k : Nat) : State :=
  let x := s.graph g
  match x.delta with
  | none => s
  | some d =>
    let e := d.layer 0
    let r := dlRegion e
    let px := fld w 47 36
    let py := fld w 59 48
    let pol := bit w 60
    let age := (d.bank b).anchor - s.surfOfTick r k
    let old := s.getEntry x d b px py
    if old.age = age ∧ old.pol ∧ !pol then s
    else
      let v := inValue e pol age (s.surfTau r)
      let ds := List.zipWith (fun a b => a - b) (inChans e pol v) (inChans e old.pol old.x)
      let s := (List.range ds.length).foldl (fun s c =>
        let df := (ds[c]?).getD 0
        if df = 0 then s else s.sendDelta g b { src := 0, x := px, y := py, c := c, d := df, tick := k }) s
      s.putEntry x d b px py { pol := pol, age := age, x := v }

/-- Mark a record dirty. -/
def DBank.mark (b : DBank) (l y x grp : Nat) : DBank := if b.dirty.contains (l, y, x, grp) then b else { b with dirty := b.dirty ++ [(l, y, x, grp)] }

/-- Add to an accumulator of a layer's record and mark it dirty. -/
def State.accAdd (s : State) (g b l x y o : Nat) (v : Int) : State :=
  let gr := s.graph g
  match gr.delta with
  | none => s
  | some d =>
    let qs := gr.rowQuires d l y
    let loc := dlBank (d.layer l) b
    let off := d.recOff l x y o + 4 * (o % 16)
    let s := s.putI32 gr.slip qs loc off (s.getI32 gr.slip qs loc off + v)
    (s.modDelta g (fun d => d.modBank b (fun k => k.mark l y x (o / 16)))).bump (qrB (qs.headD 0) + 0x668)

/-- A weight by its index, read where the accumulator's record is worked on. -/
def State.dlWeight (s : State) (gr : Graph) (qs : List Nat) (e : Desc64) (i : Nat) : Int :=
  sext (dlWBits e) (s.locElem gr.slip qs (dlWeights e) (dlWBits e) i)

/-- Add to an input copy of a MAXPOOL layer: in the QSP of every quire with a window that reads it, or once in DRAM. -/
def State.copyAdd (s : State) (g b l x y c : Nat) (v : Int) (rows : List Nat) : State :=
  let gr := s.graph g
  match gr.delta with
  | none => s
  | some d =>
    let loc := dlBank (d.layer l) b
    let off := d.inOff l x y c + 4 * (c % 16)
    let qss := (rows.map (fun oy => gr.rowQuires d l oy)).eraseDups
    let qss := if loc.dram then qss.take 1 else qss
    qss.foldl (fun s qs => (s.putI32 gr.slip qs loc off (s.getI32 gr.slip qs loc off + v)).bump (qrB (qs.headD 0) + 0x668)) s

/-- deliver(l, x, y, c, d, k) of R179. -/
def State.deliver (s : State) (g b l : Nat) (i : DItem) : State :=
  let gr := s.graph g
  match gr.delta with
  | none => s
  | some d =>
    let e := d.layer l
    let a := d.layer (dlSrcA e)
    let xs := reachX e i.x
    let ys := reachY e i.y
    match dlOp e with
    | 2 => ys.foldl (fun s py => xs.foldl (fun s px => (List.range (dlC e)).foldl (fun s o =>
        s.accAdd g b l px.1 py.1 o (s.dlWeight gr (gr.rowQuires d l py.1) e (((o * dlKH e + py.2) * dlKW e + px.2) * dlCin e + i.c) * i.d)) s) s) s
    | 3 => ys.foldl (fun s py => xs.foldl (fun s px => ((List.range (dlC e)).filter (fun o => decide (o / dlMultiplier e = i.c))).foldl (fun s o =>
        s.accAdd g b l px.1 py.1 o (s.dlWeight gr (gr.rowQuires d l py.1) e ((o * dlKH e + py.2) * dlKW e + px.2) * i.d)) s) s) s
    | 4 => (List.range (dlC e)).foldl (fun s o =>
        s.accAdd g b l 0 0 o (s.dlWeight gr (gr.rowQuires d l 0) e (o * (dlW a * dlH a * dlC a) + (i.y * dlW a + i.x) * dlC a + i.c) * i.d)) s
    | 6 => ys.foldl (fun s py => xs.foldl (fun s px => s.accAdd g b l px.1 py.1 i.c i.d) s) s
    | 7 => s.accAdd g b l i.x i.y i.c (((if dlSrcA e = i.src then dlWA e else 0) + (if dlSrcB e = i.src then dlWB e else 0)) * i.d)
    | 5 =>
      let s := s.copyAdd g b l i.x i.y i.c i.d (ys.map (·.1))
      s.modDelta g (fun d => d.modBank b (fun k => ys.foldl (fun k py => xs.foldl (fun k px => k.mark l py.1 px.1 (i.c / 16)) k) k))
    | _ => s

/-! ## Settlement (R179, R182) -/

/-- An activation after requantisation (R171): NONE, RELU, or LEAKY with MULT_N for a negative accumulator. -/
def dlRequant (e : Desc64) (a : Int) : Int :=
  if dlAct e = 2 ∧ a < 0 then satFmt (dlOutFmt e) (requantRaw a (dlMultN e) (dlShift e))
  else
    let y := satFmt (dlOutFmt e) (requantRaw a (dlMult e) (dlShift e))
    if dlAct e = 1 then max y 0 else y

/-- The activation of a MAXPOOL maximum, which is not requantised. -/
def dlPoolAct (e : Desc64) (m : Int) : Int :=
  if 0 ≤ m then m
  else match dlAct e with
    | 1 => 0
    | 2 => satFmt (dlOutFmt e) (requantRaw m (dlMultN e) (dlShift e))
    | _ => m

/-- The greatest of the inputs of a window, places outside the input counting as 0. -/
def poolMax (full : Bool) (vs : List Int) : Int := if full then maxI vs 0 else vs.foldl max 0

/-- act(requant(ACC)), or the window's maximum, of one element of a bank (R179, R192). -/
def State.evalEl (s : State) (gr : Graph) (d : Delta) (b l x y o : Nat) : Int :=
  let e := d.layer l
  let a := d.layer (dlSrcA e)
  let qs := gr.rowQuires d l y
  let loc := dlBank e b
  if dlOp e = 5 then
    let xs := window1 (dlKW e) (dlSX e) (dlDX e) (dlPadL e) (dlW a) x
    let ys := window1 (dlKH e) (dlSY e) (dlDY e) (dlPadT e) (dlH a) y
    dlPoolAct e (poolMax (xs.length = dlKW e ∧ ys.length = dlKH e)
      (ys.flatMap (fun py => xs.map (fun px => s.getI32 gr.slip qs loc (d.inOff l px.1 py.1 o + 4 * (o % 16))))))
  else dlRequant e (s.getI32 gr.slip qs loc (d.recOff l x y o + 4 * (o % 16)))

/-- Settle one dirty record at a tick. -/
def State.settleRec (s : State) (g b l k : Nat) (rc : Nat × Nat × Nat) : State :=
  let gr := s.graph g
  match gr.delta with
  | none => s
  | some d =>
    let e := d.layer l
    let y := rc.1
    let x := rc.2.1
    let q := qrB (gr.rowQuire d l y)
    let qs := gr.rowQuires d l y
    let loc := dlBank e b
    let os := (List.range 16).map (fun j => rc.2.2 * 16 + j)
    (os.filter (fun o => decide (o < dlC e))).foldl (fun s o =>
      let yn := s.evalEl gr d b l x y o
      let off := d.recOff l x y o
      let ys := s.getSent gr.slip qs loc e off o
      if thr (d.grindAt l k) ≤ (yn - ys).natAbs then
        let s := s.sendDelta g b { src := l, x := x, y := y, c := o, d := yn - ys, tick := k }
        let s := s.modDelta g (fun d => { d with sent := SMap.upd 0 d.sent l (· + 1) })
        (s.bump (q + 0x678)).putSent gr.slip qs loc e off o yn
      else if yn = ys then s else s.bump (q + 0x680)) (s.bump (q + 0x670))

/-- Order of settlement: ascending y, then x, then group. -/
def recKey (r : Nat × Nat × Nat) : Nat := (r.1 * 2 ^ 12 + r.2.1) * 2 ^ 12 + r.2.2
def insRec (r : Nat × Nat × Nat) : List (Nat × Nat × Nat) → List (Nat × Nat × Nat)
  | [] => [r]
  | q :: l => if recKey r < recKey q then r :: q :: l else q :: insRec r l
def sortRecs (l : List (Nat × Nat × Nat)) : List (Nat × Nat × Nat) := l.foldl (fun a r => insRec r a) []

/-- Settle every dirty record of a layer at a tick. -/
def State.settleTick (s : State) (g b l k : Nat) : State :=
  match (s.graph g).delta with
  | none => s
  | some d =>
    let rs := sortRecs (((d.bank b).dirty.filter (fun r => decide (r.1 = l))).map (·.2))
    let s := s.modDelta g (fun d => d.modBank b (fun n => { n with dirty := n.dirty.filter (fun r => decide (r.1 ≠ l)) }))
    rs.foldl (fun s r => s.settleRec g b l k r) s

/-! ## Copies (R192) -/

/-- Every element of a layer's output in a bank, in [y][x][c] order. -/
def State.layerVals (s : State) (gr : Graph) (d : Delta) (b l : Nat) : List Int :=
  let e := d.layer l
  (List.range (dlH e)).flatMap (fun y => (List.range (dlW e)).flatMap (fun x =>
    if l = 0 then let i := s.getEntry gr d b x y; inChans e i.pol i.x
    else (List.range (dlC e)).map (fun o => s.evalEl gr d b l x y o)))

/-- A layer has settled a tick in the bank that serves it: reads of that tick take their copies. -/
def State.takeCopies (s : State) (g b l t : Nat) : State :=
  let gr := s.graph g
  match gr.delta with
  | none => s
  | some d =>
    let mine := fun (r : VRead) => decide (r.layer = l ∧ r.tick = t) && r.copy.isNone
    let sch := dlReadPeriod (d.layer l) ≠ 0 ∧ SMap.get 0 d.sched l = t
    if d.bankFor t ≠ some b ∨ (!d.reads.any mine ∧ ¬ sch) then s
    else
      let c : DCopy := { layer := l, tick := t, vals := s.layerVals gr d b l, bank := b, anchor := (d.bank b).anchor, grinds := d.grindSum t }
      s.modDelta g (fun d => { d with
        reads := d.reads.map (fun r => if mine r then { r with copy := some c } else r),
        scopies := if sch then d.scopies ++ [c] else d.scopies,
        sched := if sch then SMap.put 0 d.sched l (t + dlReadPeriod (d.layer l)) else d.sched })

/-- The ticks at which a layer must stop to be read, as limits: the earliest read not yet copied; a copy not yet written holds the
settlement of the next tick (R192). -/
def Delta.readLimit (d : Delta) (b l now : Nat) : List Nat :=
  (d.reads.filterMap (fun r => if r.layer = l ∧ r.copy.isNone ∧ now ≤ r.tick ∧ d.bankFor r.tick = some b then some (r.tick + 1) else none)) ++
  (if dlReadPeriod (d.layer l) ≠ 0 ∧ now ≤ SMap.get 0 d.sched l ∧ d.bankFor (SMap.get 0 d.sched l) = some b then [SMap.get 0 d.sched l + 1] else []) ++
  (if d.scopies.any (fun c => decide (c.layer = l ∧ c.bank = b)) || d.reads.any (fun r => r.copy.any (fun c => decide (c.layer = l ∧ c.bank = b))) then [now] else [])

/-- How far a layer may settle in a bank: what its sources have settled, the ticks of items not yet taken, and reads. -/
def Delta.settleLimit (d : Delta) (b l now : Nat) : Nat :=
  let e := d.layer l
  let src := fun m => if m = 0 then d.inClosed b else (d.bank b).settledTo m
  let c := if dlOp e = 7 then min (src (dlSrcA e)) (src (dlSrcB e)) else src (dlSrcA e)
  ((((d.bank b).queue.filter (fun p => decide (p.1 = l))).map (fun p => p.2.tick)) ++ d.readLimit b l now).foldl min c

/-- The old bank is released once every layer has settled its ticks (R189). -/
def Delta.dropOld (d : Delta) : Delta :=
  match d.old with
  | some (b, _, u) => if (List.range d.layers.length).all (fun l => decide (l = 0) || decide (u ≤ (d.bank b).settledTo l)) then { d with old := none } else d
  | none => d

/-- Settle the next tick of a layer in a bank, or pass over ticks in which nothing reached it. -/
def State.settleLayer (s : State) (g b l : Nat) : State :=
  match (s.graph g).delta with
  | none => s
  | some d =>
    let now := (d.bank b).settledTo l
    let lim := d.settleLimit b l now
    if lim ≤ now then s
    else
      let dirty := (d.bank b).dirty.any (fun r => decide (r.1 = l))
      let upTo := if dirty then now + 1 else lim
      let s := if dirty then s.settleTick g b l now else s
      let s := s.modDelta g (fun d => d.modBank b (fun k => { k with settled := SMap.ins k.settled l upTo }))
      (s.takeCopies g b l (upTo - 1)).modDelta g Delta.dropOld

/-! ## DXE_INPUT and DXE_SETTLE -/

/-- A graph's delta part runs: the graph is RUNNING and its quires are powered and active. -/
def State.deltaRuns (s : State) (g : Nat) : Option Delta :=
  let x := s.graph g
  if x.state = 1 ∧ s.quiresOn x ∧ x.quires.all (fun q => decide (s.qState q = 1)) then x.delta else none

/-- The tick at which the rebase under way switches, as far as it is known: no item of that tick or later passes before the switch. -/
def Delta.holdAt (d : Delta) : List Nat := (d.reb.bind (·.switchAt)).toList

/-- Append to the rebase log (R187): a full log fails the rebase. -/
def State.logPut (s : State) (g r : Nat) (e : LogEnt) (cap : Nat) : State :=
  let s := s.modDelta g (fun d => { d with reb := d.reb.map (fun b => if cap ≤ b.log.length then { b with full := true } else { b with log := b.log ++ [e] }) })
  let n := (((s.graph g).delta.bind (·.reb)).map (·.log.length)).getD 0
  s.modSfm r (fun f => { f with logPeak := max f.logPeak n })

/-- The rebase that writes its log now. -/
def Delta.logging (d : Delta) (k : Nat) : Bool := d.reb.any (fun r => decide (1 ≤ r.phase ∧ r.phase ≤ 3 ∧ r.boundary ≤ k) && !r.full)

/-- The next live item at the INPUT layer (R179, R181, R185, R189, R190). -/
def State.inputLive (s : State) (g : Nat) (d : Delta) : State :=
  let e := d.layer 0
  let r := dlRegion e
  let x := s.graph g
  match s.liveItems g r with
  | [] => s
  | w :: _ =>
    let k := s.fullTick (fld w 31 0)
    let q := fun y => qrB (x.rowQuire d 0 y)
    if fld w 63 61 = 1 then
      let pts := (List.range d.layers.length).filter (fun l => dlReadPoint (d.layer l))
      ((s.liveDrop g r).bump (q 0 + 0x690)).modDelta g (fun d => { d with gaps := pts.foldl (fun m l => SMap.upd 0 m l (· + 1)) d.gaps })
    else if k < s.originOf r then (s.liveDrop g r).bump (q 0 + 0x6A0)
    else if k < x.startTick then s.liveDrop g r
    else if d.live < k ∨ d.holdAt.any (fun t => decide (t ≤ k)) then s
    else
      let s := (s.liveDrop g r).bump (q (fld w 59 48) + 0x660)
      let s := (d.liveBanks k).foldl (fun s b => s.inputItem g b w k) s
      if d.logging k then s.logPut g r (.item w k) (dlLogCap e) else s

/-- The next item of the rebase log, applied to the target bank (Table 7.6, REPLAY). -/
def State.inputLog (s : State) (g : Nat) (d : Delta) (rb : Rebase) : State :=
  match rb.log with
  | .item w k :: rest =>
    let s := s.modDelta g (fun d => { d with reb := d.reb.map (fun b => { b with log := rest }) })
    (s.bump (qrB ((s.graph g).rowQuire d 0 (fld w 59 48)) + 0x688)).inputItem g rb.bank w k
  | _ => s

/-- DXE_INPUT (R179): the next item at a layer of a graph's delta part is taken. At the INPUT layer it is the next live item, or, while
the named bank is being replayed, the next item of the log; at another layer, the next delta of the open tick in that bank. -/
def execDxeInput (g : BitVec 32) (layer : BitVec 6) (bank : Bool) (s : State) : Host.Outcome State Fault Refusal :=
  let n := g.toNat
  let b := bank.toNat
  let l := layer.toNat
  .next (match s.deltaRuns n with
  | none => s
  | some d =>
    if l = 0 then
      match (d.rebOf b).filter (fun r => decide (r.phase = 3)) with
      | some rb => s.inputLog n d rb
      | none => s.inputLive n d
    else
      let k := d.bank b
      match k.queue.findIdx? (fun p => decide (p.1 = l ∧ p.2.tick ≤ k.settledTo l)) with
      | none => s
      | some i =>
        match k.queue[i]? with
        | none => s
        | some p => (s.modDelta n (fun d => d.modBank b (fun k => { k with queue := k.queue.eraseIdx i }))).deliver n b l p.2)

/-- The INPUT layer passes tick-end marks: up to the closed ticks of its channel, the ticks of items not yet taken, a switch, and reads
of the layer itself. The log receives the mark (R185). -/
def State.passLive (s : State) (g : Nat) (d : Delta) : State :=
  let e := d.layer 0
  let r := dlRegion e
  let b := (d.bankFor d.live).getD 2
  let upTo := ((((s.liveItems g r).filter (fun w => decide (fld w 63 61 ≠ 1))).map (fun w => s.fullTick (fld w 31 0))) ++ d.holdAt ++ (d.readLimit b 0 d.live)).foldl min (s.graph g).closed
  if upTo ≤ d.live then s
  else
    let s := s.modDelta g (fun d => { d with live := upTo })
    let s := if d.logging (upTo - 1) then s.logPut g r (.mark (upTo - 1)) (dlLogCap e) else s
    (s.takeCopies g b 0 (upTo - 1)).modDelta g Delta.dropOld

/-- DXE_SETTLE (R179): a layer settles its next closed tick in a bank and sends the changes; the INPUT layer passes its tick-end marks. -/
def execDxeSettle (g : BitVec 32) (layer : BitVec 6) (bank : Bool) (s : State) : Host.Outcome State Fault Refusal :=
  let n := g.toNat
  let b := bank.toNat
  let l := layer.toNat
  .next (match s.deltaRuns n with
  | none => s
  | some d =>
    if d.layers.length ≤ l then s
    else if l = 0 then
      match (d.rebOf b).filter (fun r => decide (r.phase = 3)) with
      | some rb =>
        match rb.log with
        | .mark k :: rest => s.modDelta n (fun d => { d with reb := d.reb.map (fun x => { x with log := rest, closed := max x.closed (k + 1) }) })
        | _ => s
      | none => s.passLive n d
    else s.settleLayer n b l)

/-! ## The dense rebuild (R188) -/

/-- A source element's value in a bank: an input channel, or Y_SENT, which the rebuild has made exact. -/
def State.srcVal (s : State) (gr : Graph) (d : Delta) (b l x y c : Nat) : Int :=
  let e := d.layer l
  if l = 0 then let i := s.getEntry gr d b x y; ((inChans e i.pol i.x)[c]?).getD 0
  else s.getSent gr.slip (gr.rowQuires d l y) (dlBank e b) e (d.recOff l x y c) c

/-- The dense accumulator of an output element (Table 7.1). -/
def State.denseAcc (s : State) (gr : Graph) (d : Delta) (b l x y o : Nat) : Int :=
  let e := d.layer l
  let sa := dlSrcA e
  let a := d.layer sa
  let qs := gr.rowQuires d l y
  let xs := window1 (dlKW e) (dlSX e) (dlDX e) (dlPadL e) (dlW a) x
  let ys := window1 (dlKH e) (dlSY e) (dlDY e) (dlPadT e) (dlH a) y
  let sum := fun (l : List Int) => l.foldl (· + ·) 0
  match dlOp e with
  | 2 => sum (ys.flatMap (fun py => xs.flatMap (fun px => (List.range (dlCin e)).map (fun c =>
      s.dlWeight gr qs e (((o * dlKH e + py.2) * dlKW e + px.2) * dlCin e + c) * s.srcVal gr d b sa px.1 py.1 c))))
  | 3 => sum (ys.flatMap (fun py => xs.map (fun px =>
      s.dlWeight gr qs e ((o * dlKH e + py.2) * dlKW e + px.2) * s.srcVal gr d b sa px.1 py.1 (o / dlMultiplier e))))
  | 4 => sum ((List.range (dlH a)).flatMap (fun iy => (List.range (dlW a)).flatMap (fun ix => (List.range (dlC a)).map (fun c =>
      s.dlWeight gr qs e (o * (dlW a * dlH a * dlC a) + (iy * dlW a + ix) * dlC a + c) * s.srcVal gr d b sa ix iy c))))
  | 6 => sum (ys.flatMap (fun py => xs.map (fun px => s.srcVal gr d b sa px.1 py.1 o)))
  | 7 => dlWA e * s.srcVal gr d b sa x y o + dlWB e * s.srcVal gr d b (dlSrcB e) x y o
  | _ => 0

/-- Evaluate one record of a layer densely: ACC, or IN_COPY where the layer pools, and Y_SENT. -/
def State.denseRec (s : State) (gr : Graph) (d : Delta) (b l x y grp : Nat) : State :=
  let e := d.layer l
  let qs := gr.rowQuires d l y
  let loc := dlBank e b
  (List.range 16).foldl (fun s j =>
    let o := grp * 16 + j
    let off := d.recOff l x y o
    if dlC e ≤ o then
      (if dlOp e = 5 then s else s.putI32 gr.slip qs loc (off + 4 * j) 0).putSent gr.slip qs loc e off o 0
    else
      let s := if dlOp e = 5 then s else s.putI32 gr.slip qs loc (off + 4 * j) (s.denseAcc gr d b l x y o)
      s.putSent gr.slip qs loc e off o (s.evalEl gr d b l x y o)) s

/-- IN_COPY of every input position of a MAXPOOL layer, in each quire with a window that reads it. -/
def State.denseCopies (s : State) (gr : Graph) (d : Delta) (b l : Nat) : State :=
  let e := d.layer l
  let a := d.layer (dlSrcA e)
  let loc := dlBank e b
  (List.range (dlH a)).foldl (fun s y => (List.range (dlW a)).foldl (fun s x => (List.range (dlC a)).foldl (fun s c =>
    let qss := ((reachY e y).map (fun p => gr.rowQuires d l p.1)).eraseDups
    qss.foldl (fun s qs => s.putI32 gr.slip qs loc (d.inOff l x y c + 4 * (c % 16)) (s.srcVal gr d b (dlSrcA e) x y c)) s) s) s) s

/-- Evaluate every layer of a bank densely, in ascending order. -/
def State.rebuild (s : State) (g b : Nat) : State :=
  let gr := s.graph g
  match gr.delta with
  | none => s
  | some d =>
    (List.range d.layers.length).foldl (fun s l =>
      if l = 0 then s
      else
        let e := d.layer l
        let s := if dlOp e = 5 then s.denseCopies gr d b l else s
        (List.range (dlH e)).foldl (fun s y => (List.range (dlW e)).foldl (fun s x => (List.range (dlNG e)).foldl (fun s n => s.denseRec gr d b l x y n) s) s) s) s

/-! ## Rebase events -/

/-- REBASE_START (R185, R190): once every item of earlier ticks has been written. -/
def execRebaseStart (g : BitVec 32) (s : State) : Host.Outcome State Fault Refusal :=
  .next (match (s.graph g.toNat).delta with
  | some d => if d.startDue then s else s.rebaseDue g.toNat (min s.tim.tick (s.hop (s.cfgPort (dlRegion (d.layer 0)))).nextEnd)
  | none => s)

/-- START_REBASE (R588). -/
def execStartRebase (g : BitVec 32) (s : State) : Host.Outcome State Fault Refusal :=
  .next (match (s.graph g.toNat).delta with
  | some d => if d.startDue then s.rebaseDue g.toNat s.tim.tick else s
  | none => s)

/-- WAKE_REBASE (R191): the quires are powered again and the present surface tick lies at or beyond the anchor in service. -/
def execWakeRebase (g : BitVec 32) (s : State) : Host.Outcome State Fault Refusal :=
  let n := g.toNat
  .next (match s.deltaRuns n with
  | none => s
  | some d =>
    let r := dlRegion (d.layer 0)
    let k := (((s.liveItems n r).head?).map (fun w => s.fullTick (fld w 31 0))).getD s.tim.tick
    let u := s.surfOfTick r k
    match d.service, d.reb with
    | some (b, _), none =>
      if u < (d.bank b).anchor then s
      else
        let s := s.modDelta n (fun d => { d with deadFrom := some (d.deadFrom.getD (s.tickOfSurf r (d.bank b).anchor)), epoch := epochOf (s.surfL r) u })
        let lead := dlG (d.layer 0)
        s.beginRebase n { kind := .wake, phase := 1, boundary := s.tickOfSurf r u, bank := d.target, anchor := s.anchorOf r lead (s.servingEpoch r lead u) }
    | _, _ => s)

/-- SNAPSHOT_SWEEP (R186, R205): after the generation sweep, the next SNAP beat of a region. -/
def execSnapshotSweep (r : BitVec 4) (s : State) : Host.Outcome State Fault Refusal :=
  let f := s.sfm r.toNat
  .next (if f.snap.any ∧ f.conv.isNone ∧ s.dom (21 + r.toNat / 4) = 2 then s.emitSnap r.toNat f.snap.pos false else s)

/-- Change the rebase of a graph. -/
def State.modReb (s : State) (g : Nat) (f : Rebase → Rebase) : State := s.modDelta g (fun d => { d with reb := d.reb.map f })

/-- REBASE_PHASE_END (R188): COPY ends with the last SNAP bit, REBUILD with the dense evaluation, REPLAY when the log is empty. -/
def execRebasePhaseEnd (g : BitVec 32) (s : State) : Host.Outcome State Fault Refusal :=
  let n := g.toNat
  .next (match s.deltaRuns n with
  | none => s
  | some d =>
    match d.reb with
    | none => s
    | some rb =>
      let r := dlRegion (d.layer 0)
      if rb.full then s
      else if rb.phase = 1 then
        if (s.surfRegions r).any (fun i => (s.sfm i).snap.any) then s else (s.modReb n (fun b => { b with phase := 2 })).tracePhase n r 2
      else if rb.phase = 2 then ((s.rebuild n rb.bank).modReb n (fun b => { b with phase := 3 })).tracePhase n r 3
      else if rb.phase = 3 ∧ rb.log.isEmpty then
        let sw := rb.switchAt.getD (max rb.notBefore (s.nextSurf r s.tim.tick))
        (s.modReb n (fun b => { b with phase := 4, switchAt := some sw })).tracePhase n r 4
      else s)

/-- REBASE_SWITCH (R189, R190, R588): the target becomes the state in service; the bank before it serves the ticks before the switch. -/
def execRebaseSwitch (g : BitVec 32) (s : State) : Host.Outcome State Fault Refusal :=
  let n := g.toNat
  .next (match (s.graph n).delta with
  | none => s
  | some d =>
    match d.reb with
    | none => s
    | some rb =>
      match rb.switchAt with
      | none => s
      | some t =>
        if rb.phase ≠ 4 ∨ s.tim.tick < t then s
        else
          let s := s.modDelta n (fun d => { d with
            old := match d.service, d.deadFrom with | some (b, f), none => some (b, f, t) | _, _ => none,
            service := some (rb.bank, t), deadFrom := none, reb := none })
          s.tracePhase n (dlRegion (d.layer 0)) 0)

/-- REBASE_FAIL (R190): not caught up by S_k, or the log is full. A start rebase begins again without a failure (R588). -/
def execRebaseFail (g : BitVec 32) (s : State) : Host.Outcome State Fault Refusal :=
  let n := g.toNat
  .next (match (s.graph n).delta with
  | none => s
  | some d =>
    match d.reb with
    | none => s
    | some rb =>
      let r := dlRegion (d.layer 0)
      let late := decide (rb.phase < 4) && rb.switchAt.any (fun t => decide (t ≤ s.tim.tick))
      if rb.phase = 5 ∨ (!late ∧ !rb.full) then s
      else
        let s := s.modDelta n (fun d => { d with deadFrom := if rb.kind = .normal then rb.switchAt else d.deadFrom })
        let s := (s.surfRegions r).foldl (fun s i => s.modSfm i (fun f => { f with snap := {} })) s
        let s := s.modReb n (fun b => { b with phase := 5, boundary := s.nextSurf r s.tim.tick, log := [], full := false, switchAt := none })
        let s := s.tracePhase n r 5
        if rb.kind = .start then s
        else ((s.bump (sfmP r + 0x170)).graphConFault n 4).fault (0x54 + r) 0x0E (s.graph n).slip n)

/-! ## Virtual-frame records (R192–R194) -/

/-- d of R174: system ticks from a tick to the anchor. -/
def State.dSys (s : State) (r anchor t : Nat) : Nat := anchor * s.surfD r - (t - s.originOf r)
/-- SCALE(τ) of R174. -/
def State.scaleOf (s : State) (r anchor t : Nat) : Nat :=
  let p := s.surfD r * s.surfTau r
  scaleFp32 ((s.dSys r anchor t * 1024 + p / 2) / p)

/-- A header field of n bytes. -/
def hdr (l : List (Nat × Nat)) : List (BitVec 8) := l.flatMap (fun p => leBytes p.2 p.1)

/-- One element of a payload: raw, FP16 or FP32 scaled, each product rounded once. -/
def vfElem (e : Desc64) (form scale : Nat) (v : Int) : List (BitVec 8) :=
  let p := fp32.val scale
  match form with
  | 0 => leBytes (dlOutBytes e) (unsig 16 v)
  | 1 => leBytes 2 (fp16.enc (v * p.1) p.2)
  | _ => leBytes 4 (fp32.enc (v * p.1) p.2)

/-- Bytes of an element in a form. -/
def vfBytes (e : Desc64) (form : Nat) : Nat := match form with | 0 => dlOutBytes e | 1 => 2 | _ => 4

/-- The header of Table 7.7 with its payload. -/
def State.vfRecord (s : State) (g : Nat) (d : Delta) (c : DCopy) (form extra : Nat) : List (BitVec 8) :=
  let gr := s.graph g
  let e := d.layer c.layer
  let r := dlRegion (d.layer 0)
  let scale := s.scaleOf r c.anchor c.tick
  let gaps := min (SMap.get 0 d.gaps c.layer) 0xFFFF
  let age : Int := (c.tick : Int) - s.originOf r - ((c.anchor : Int) - 15 * s.surfTau r + 1) * s.surfD r
  let pay := c.vals.flatMap (vfElem e form scale)
  hdr [(g, 4), (c.layer, 1), (form, 1), ((s.slip gr.slip).adaptive.toNat + (if 0 < gaps then 4 else 0) + 8 * c.bank + extra, 1), (dlOutFmt e, 1), (c.tick, 8),
    (s.tim.tick, 8), (c.anchor, 8), (s.dSys r c.anchor c.tick, 4), (scale, 4), (unsig 32 age, 4), (c.grinds, 2), (gaps, 2), (dlW e, 2), (dlH e, 2), (dlC e, 2),
    (0, 2), (pay.length, 8)] ++ pay

/-- VFRAME_READ (R193): the read of tick τ = AT_TICK is noted; it is copied when the layer has settled τ. -/
def State.vframeRead (s : State) (h : CmdRef) (g layer form : Nat) (sgl : Sgl) (tau : Nat) : Res :=
  match (s.graph g).delta with
  | none => .err s stBadParam 2
  | some d =>
    let e := d.layer layer
    if s.sealedFor h (s.graph g).slip then .err s stNotPermitted 0xD
    else if 3 ≤ form then .err s stBadParam 0xF025
    else if d.layers.length ≤ layer ∨ !dlReadPoint e then .err s stBadParam 2
    else if (s.graph g).state ≠ 1 then .err s stTransition 6
    else if (d.bankFor tau).any (fun b => decide (tau < (if layer = 0 then d.inClosed b else (d.bank b).settledTo layer))) then .err s stBadParam 1
    else
      match sglBytes sgl with
      | .error x => .err s stBadParam x
      | .ok n =>
        if n < 64 + dlW e * dlH e * dlC e * vfBytes e form then .err s stBadLength 4
        else .later ((s.modDelta g (fun d => { d with reads := d.reads ++ [{ ref := h, layer := layer, form := form, tick := tau }] })).addDue g .vframe layer tau)

def execVframeRead (h : CmdRef) (layer form : BitVec 8) (sgl : Sgl) (s : State) : Host.Outcome State Fault Refusal :=
  .next (s.cmdAt h 0x0206 (.vframeRead h layer form sgl) (fun s f d => s.vframeRead h f.objId.toNat layer.toNat form.toNat sgl (s.tim.tick + d)))

/-- The graph of a VFRAME_READ under way. -/
def State.readOf (s : State) (h : CmdRef) : Option (Nat × VRead) :=
  s.graphs.findSome? (fun e => (e.2.delta.bind (fun d => d.reads.find? (fun r => decide (r.ref = h)))).map (fun r => (e.1, r)))

/-- A read ends: it leaves the list. -/
def State.endRead (s : State) (g : Nat) (h : CmdRef) : State := s.modDelta g (fun d => { d with reads := d.reads.filter (fun r => decide (r.ref ≠ h)) })

/-- VFRAME_COPY (R192–R194): a read whose elements are copied is written, header last, and completes; a read of a tick that no bank
serves completes with REBASE. -/
def execVframeCopy (h : CmdRef) (s : State) : Host.Outcome State Fault Refusal :=
  .next (match s.readOf h with
  | none => s
  | some (g, r) =>
    match (s.graph g).delta with
    | none => s
    | some d =>
      match r.copy with
      | some c =>
        let con := (s.graph g).contract
        let kon := con ≠ 0 ∧ (s.contract con).exist
        let late := kon ∧ (s.contract con).effTick ≤ r.tick ∧ ((s.contract con).deadline < s.tim.tick - r.tick ∨
          s.dues.any (fun (x : Due) => decide (x.graph = g ∧ x.kind = RecKind.vframe ∧ x.layer = r.layer ∧ x.tref = r.tick) && x.missed))
        let b := s.vfRecord g d c r.form (if late then 0x80 else 0)
        let s := (s.endRead g h).modDelta g (fun d => { d with gaps := SMap.put 0 d.gaps r.layer 0 })
        let s := if kon then s.modContract con (fun x => { x with records := x.records + 1 }) else s
        let s := { s with dues := s.dues.filter (fun (x : Due) => decide (¬(x.graph = g ∧ x.kind = RecKind.vframe ∧ x.layer = r.layer ∧ x.tref = r.tick))) }
        (s.sglWrite h (b.map (·.toNat))).complete h stOk 0 (result [(b.length - 64, 8)])
      | none =>
        if s.tim.tick < r.tick ∨ (d.bankFor r.tick).isSome ∨ d.holdAt.any (fun t => decide (t ≤ r.tick)) then s
        else (s.endRead g h).complete h stTransition 3)

/-- The quire whose channel takes the scheduled reads of a layer. -/
def Graph.schedQuire (g : Graph) (d : Delta) (l : Nat) : Nat := g.rowQuire d l 0

/-- Write an item into a QSP-buffer channel's next slot and post its token (R125), or count a stall where no credit is held (R20). -/
def State.chanItem (s : State) (q c : Nat) (b : List (BitVec 8)) : State × Bool :=
  let ch := (s.quire q).chan c
  if !ch.valid then (s, true)
  else if ch.credits = 0 then (s.bump (qrB q + 0x400 + 8 * c), false)
  else (s.modQuire q (fun x => { x with qsp := SMap.putAll 0 x.qsp (ch.base + ch.slot * ch.isize * 32) (b.take (ch.isize * 32)) }.post c 1 []), true)

/-- SCHEDULED_READ (R193): the copy of a layer's scheduled read is written into READ_CHAN; where no bank serves the tick, a record
without data that sets INVALID. -/
def execScheduledRead (g : BitVec 32) (layer : BitVec 6) (s : State) : Host.Outcome State Fault Refusal :=
  let n := g.toNat
  let l := layer.toNat
  .next (match s.deltaRuns n with
  | none => s
  | some d =>
    let e := d.layer l
    let q := (s.graph n).schedQuire d l
    match d.scopies.find? (fun c => decide (c.layer = l)) with
    | some c =>
      let p := s.chanItem q (dlReadChan e) (s.vfRecord n d c 0 0)
      if p.2 then p.1.modDelta n (fun d => { d with scopies := d.scopies.filter (fun x => decide (x ≠ c)), gaps := SMap.put 0 d.gaps l 0 }) else p.1
    | none =>
      let t := SMap.get 0 d.sched l
      if dlReadPeriod e = 0 ∨ d.layers.length ≤ l ∨ s.tim.tick < t ∨ (d.bankFor t).isSome ∨ d.holdAt.any (fun x => decide (x ≤ t)) then s
      else
        -- the fields of a bank that was not read are open
        let f := s.take
        let gaps := min (SMap.get 0 d.gaps l) 0xFFFF
        let b := hdr [(n, 4), (l, 1), (0, 1), ((s.slip (s.graph n).slip).adaptive.toNat + 2 + (if 0 < gaps then 4 else 0), 1), (dlOutFmt e, 1), (t, 8), (s.tim.tick, 8),
          (f.1, 8), (f.1 / 2 ^ 64, 4), (f.1 / 2 ^ 96, 4), (f.1 / 2 ^ 128, 4), (d.grindSum t, 2), (gaps, 2), (dlW e, 2), (dlH e, 2), (dlC e, 2), (0, 2), (0, 8)]
        let p := f.2.chanItem q (dlReadChan e) b
        if p.2 then p.1.modDelta n (fun d => { d with sched := SMap.put 0 d.sched l (t + dlReadPeriod e), gaps := SMap.put 0 d.gaps l 0 }) else p.1)

/-! ## Start and stop -/

/-- The delta part starts at a tick (R588): nothing is in service until the start rebase switches. -/
def Delta.start (d : Delta) (k origin : Nat) : Delta :=
  { layers := d.layers, bands := d.bands, startDue := true, live := k,
    sched := (List.range d.layers.length).foldl (fun m l =>
      let p := dlReadPeriod (d.layer l)
      if p = 0 then m else SMap.put 0 m l (k + (p - (k - origin) % p) % p)) [] }

/-- The delta part stops: the state in service ends, and reads under way complete with NOT_RUNNING (R193, R588). -/
def State.stopDelta (s : State) (g : Nat) : State :=
  match (s.graph g).delta with
  | none => s
  | some d =>
    let s := d.reads.foldl (fun s r => s.complete r.ref stTransition 6) s
    let s := if d.reb.isSome then (s.surfRegions (dlRegion (d.layer 0))).foldl (fun s i => s.modSfm i (fun f => { f with snap := {} })) s else s
    s.modDelta g (fun d => { layers := d.layers, bands := d.bands })

/-! ## GRIND in ADAPTIVE mode (R196) -/

/-- Change GRIND of a layer from a tick on: counted in every quire of the graph, and logged. -/
def State.setGrind (s : State) (g l v k : Nat) : State :=
  let s := s.modDelta g (fun d => { d with grinds := (l, k, v) :: d.grinds })
  let s := (s.graph g).quires.foldl (fun s q => s.bump (qrB q + 0x698)) s
  s.log 0x6F (s.graph g).slip 0 2 [g, l, v]

/-- Raise: the layer with the most deltas sent among those below GRIND_MAX, the lower on a tie. -/
def State.grindRaise (s : State) (g : Nat) : State :=
  match (s.graph g).delta with
  | none => s
  | some d =>
    let k := s.tim.tick + 1
    let c := (List.range d.layers.length).filter (fun l => decide (0 < l ∧ d.grindAt l k < dlGrindMax (d.layer l)))
    let m := (c.map (fun l => SMap.get 0 d.sent l)).foldl max 0
    match c.find? (fun l => SMap.get 0 d.sent l = m) with
    | none => s
    | some l => (s.setGrind g l (d.grindAt l k + 1) k).modDelta g (fun d => { d with raised := l :: d.raised })

/-- Lower: the layer raised most recently. -/
def State.grindLower (s : State) (g : Nat) : State :=
  match (s.graph g).delta with
  | none => s
  | some d =>
    match d.raised with
    | [] => s
    | l :: rest =>
      let k := s.tim.tick + 1
      (s.setGrind g l (d.grindAt l k - 1) k).modDelta g (fun d => { d with raised := rest })

end Sys2Proof.Machine
end

