-- ==== Sys2Proof/Machine/Readout.lean ====
section
/-! DEFINITION. Readout inference (08): inputs, layers on the AXE and EGE, records, and the meanings of its events and of READOUT_AT. -/
namespace Sys2Proof.Machine

/-! ## Layer descriptors (Tables 8.2, 8.3) -/

def rlAct (l : Desc64) : Nat := lf l 0 59 57
def rlEge (l : Desc64) : Bool := lf l 0 56 56 = 1
def rlFuse (l : Desc64) : Bool := lf l 0 55 55 = 1
def rlBias (l : Desc64) : Bool := lf l 0 54 54 = 1
def rlLayer (l : Desc64) : Nat := lf l 0 53 48
def rlSrcA (l : Desc64) : Nat := lf l 0 47 42
def rlSrcB (l : Desc64) : Nat := lf l 0 41 36
def rlAFmt (l : Desc64) : Nat := lf l 0 35 32
def rlWFmt (l : Desc64) : Nat := lf l 0 31 28
def rlOutFmt (l : Desc64) : Nat := lf l 0 27 24
def rlW (l : Desc64) : Nat := lf l 1 63 52 + 1
def rlH (l : Desc64) : Nat := lf l 1 51 40 + 1
def rlC (l : Desc64) : Nat := lf l 1 39 28 + 1
def rlCin (l : Desc64) : Nat := lf l 1 27 16 + 1
def rlKW (l : Desc64) : Nat := lf l 1 15 12 + 1
def rlKH (l : Desc64) : Nat := lf l 1 11 8 + 1
def rlSX (l : Desc64) : Nat := lf l 1 7 6 + 1
def rlSY (l : Desc64) : Nat := lf l 1 5 4 + 1
def rlDX (l : Desc64) : Nat := lf l 1 3 2 + 1
def rlDY (l : Desc64) : Nat := lf l 1 1 0 + 1
def rlMult (l : Desc64) : Nat := lf l 2 63 48
def rlShift (l : Desc64) : Nat := lf l 2 47 42
def rlMultN (l : Desc64) : Nat := lf l 2 41 26
def rlPadL (l : Desc64) : Nat := lf l 2 25 22
def rlPadT (l : Desc64) : Nat := lf l 2 21 18
def rlZp (l : Desc64) : Nat := lf l 2 17 2
def rlGroups (l : Desc64) : Nat := if rlOp l = 4 then lf l 3 63 52 + 1 else 1
def rlClipHi (l : Desc64) : Nat := lf l 7 55 40
def rlClipLo (l : Desc64) : Nat := lf l 7 39 24
def rlLut (l : Desc64) : Nat := lf l 7 19 0
/-- SAMPLE: IN_MODE, XFMT, N_TAU and TAUk. -/
def rlInMode (l : Desc64) : Nat := lf l 3 59 58
def rlXfmt (l : Desc64) : Nat := lf l 3 57 56
def rlNTau (l : Desc64) : Nat := lf l 3 55 54 + 1
def rlTau (l : Desc64) (k : Nat) : Nat := lf l 3 (12 * k + 11) (12 * k)
/-- EY of Table 8.5. -/
def rlEY (l : Desc64) : Nat := rlDY l * (rlKH l - 1) + 1
/-- Groups of 32 channels (R211). -/
def rlG (l : Desc64) : Nat := (rlC l + 31) / 32
/-- The format an input layer delivers (R208, R209). -/
def rlInFmt (l : Desc64) : Nat := if rlOp l = 1 then (match rlXfmt l with | 0 => 3 | 1 => 4 | _ => 8) else rlAFmt l

/-! ## Where tensors lie (R211) -/

/-- Quires, with partners, that hold column x of a layer's output: those of its stripe. -/
def Graph.stripeQuires (g : Graph) (d : Readout) (l x : Nat) : List Nat :=
  match ((d.stripes[l]?).getD []).find? (fun p => decide (p.2.1 ≤ x ∧ x < p.2.1 + p.2.2)) with
  | some p => g.quireOf p.1
  | none => g.quireOf 0

def Readout.out (d : Readout) (l : Nat) : Loc := { dram := d.dramO.contains l, enc := lf (d.layer l) 6 63 0 }
/-- Group index of Table R211. -/
def Readout.group (d : Readout) (l x y n : Nat) : Nat := (y * rlG (d.layer l) + n) * rlW (d.layer l) + x

/-- An element of a layer's output in memory. -/
def State.planar (s : State) (g : Graph) (d : Readout) (l x y c : Nat) : FV :=
  let e := d.layer l
  let f := rlOutFmt e
  let qs := g.stripeQuires d l x
  let n := d.group l x y (c / 32)
  let v := fmtDec f (s.locElem g.slip qs (d.out l) (fmtBits f) (n * 32 + c % 32))
  if fmtMx f then v.mul (e8m0 (leVal (s.locGet g.slip qs { (d.out l) with enc := (d.scaleO[l]?).getD 0 } n 1))) else v

/-- Pack w-bit elements (R151). -/
def packElems (w : Nat) (l : List Nat) : List (BitVec 8) :=
  leBytes (l.length * w / 8) (l.foldr (fun v a => v % 2 ^ w + 2 ^ w * a) 0)

/-! ## Inputs (R208, R209) -/

/-- A sampled pixel's channel (R208). -/
def State.sampleVal (s : State) (g : Graph) (d : Readout) (t x y c : Nat) : FV :=
  let e := d.layer 0
  let r := rlRegion e
  let a := (rlY0 e + y) * s.geomW r + x
  let off := (a / 16 - (s.sampBeats r e).1) * 32 + a % 16 * 2
  let v := leVal (s.locGet g.slip (g.quireOf 0) { dram := d.dramW.contains 0, enc := lf e 4 63 0 } off 2)
  let per := if rlInMode e = 2 then 2 else 1
  let tau := rlTau e (c / per)
  let u := s.surfOfTick r t
  let age : Int := (u : Int) - (epochBase (s.surfL r) (epochOf (s.surfL r) u) + (v % 2 ^ 15 : Nat))
  let pol := v.testBit 15
  if v % 2 ^ 15 = 0x7FFF ∨ age < 0 then .num false 0 1
  else
    let mag : FV := if rlXfmt e = 2 then fmtDec 8 (expoFp16 age.toNat tau) else .ofInt (expoFix (rlXfmt e) age.toNat tau)
    if rlInMode e = 2 then (if (c % 2 = 0) = pol then mag else .num false 0 1)
    else if rlInMode e = 1 ∧ !pol ∧ !mag.isZero then mag.neg else mag

/-- An element of a VFIN layer's output (R209). -/
def vfinVal (d : Readout) (v : VfIn) (x y c : Nat) : FV :=
  let e := d.layer 0
  let raw := (v.vals[(y * rlW e + x) * rlC e + c]?).getD 0
  let p := ((FV.ofInt raw).mul (fmtDec 0xA v.scale)).mul (fmtDec 0xA (lf e 3 31 0))
  fmtDec (rlAFmt e) (fmtEnc (rlAFmt e) p)

/-! ## One layer (R158, R161, R213, R214) -/

/-- A weight by layout index, and its MX scale by block. -/
def State.rlWeight (s : State) (g : Graph) (d : Readout) (qs : List Nat) (l i per row : Nat) : FV :=
  let e := d.layer l
  let f := rlWFmt e
  let loc : Loc := { dram := d.dramW.contains l, enc := lf e 4 63 0 }
  if fmtMx f then
    -- blocks of 32 run along the input channels; the last of a row is short (R159)
    let blocks := (per + 31) / 32
    let k := i - row * per
    let v := fmtDec f (s.locElem g.slip qs loc (fmtBits f) ((row * blocks + k / 32) * 32 + k % 32))
    v.mul (e8m0 (leVal (s.locGet g.slip qs { loc with enc := (d.scaleW[l]?).getD 0 } (row * blocks + k / 32) 1)))
  else fmtDec f (s.locElem g.slip qs loc (fmtBits f) i)

/-- The bias of an output channel. -/
def State.rlBiasOf (s : State) (g : Graph) (d : Readout) (qs : List Nat) (l o : Nat) : Nat :=
  let e := d.layer l
  if rlBias e then leVal (s.locGet g.slip qs { dram := d.dramB.contains l, enc := lf e 5 63 0 } (4 * o) 4) else 0

/-- Wrap to INT32 (R156). -/
def wrap32 (i : Int) : Int := sext 32 (unsig 32 i)

/-- Sum terms into an FP32 accumulator, each group's exact sum with one rounding, in the order the descriptor fixes (R158). -/
def fpAcc (e : Desc64) (terms : List (List FV)) : FV :=
  let idx := (sortByKey ((List.range terms.length).map (fun i => (Config.tapOrder e i, BitVec.ofNat 64 i)))).map (fun p => p.2.toNat)
  idx.foldl (fun (a : FV) i => (a.add (((terms[i]?).getD []).foldl FV.add (.num false 0 1))).r32) (.num false 0 1)

/-- The activation and output conversion of an integer accumulator with an integer output (R213); `lut` is the LUT8 table. -/
def rlIntOut (e : Desc64) (q : Int) (lut : Nat → Nat) : Nat :=
  let f := rlOutFmt e
  let w := fmtBits f
  let sg := fun (v : Nat) => if f = 3 then ((v % 2 ^ w : Nat) : Int) else sext w v
  let zp := sg (rlZp e)
  let y := satFmt f (requantRaw q (if rlAct e = 2 ∧ q < 0 then rlMultN e else rlMult e) (rlShift e) + zp)
  match rlAct e with
  | 1 => unsig w (max y zp)
  | 3 => unsig w (satI (sg (rlClipLo e)) (sg (rlClipHi e)) y)
  | 4 => lut (if f = 3 then y.toNat else (y + 128).toNat)
  | _ => unsig w y

/-- The activation of a floating-point result, before its one rounding to OUT_FMT (R213). -/
def rlFloatAct (e : Desc64) (v : FV) : FV :=
  let clip := fun (x : Nat) => if fmtFloat (rlOutFmt e) then fmtDec 8 x else .ofInt (if rlOutFmt e = 3 then x else sext 16 x)
  match rlAct e with
  | 1 => if v.lt (.num false 0 1) then .num false 0 1 else v
  | 2 => if v.lt (.num false 0 1) then (v.mul (fmtDec 8 (rlMultN e))).r32 else v
  | 3 => match v with | .nan => .nan | _ => FV.max (clip (rlClipLo e)) (FV.min (clip (rlClipHi e)) v)
  | _ => v

/-- 32 channels of one output position of a layer: their bits and, for MX formats, the block's scale. A fused source is evaluated in
its turn (at most four layers, R218). -/
def State.rlGroup (s : State) (g : Graph) (d : Readout) (i : RoInst) : Nat → Nat → Nat → Nat → Nat → List Nat × Nat
  | 0, _, _, _, _ => ([], 0)
  | fuel + 1, l, x, y, n =>
    let e := d.layer l
    let a := d.layer (rlSrcA e)
    let qs := g.stripeQuires d l x
    let inp := fun (m : Nat) (ix iy c : Nat) =>
      if m = 0 then (match i.vfin with | some v => vfinVal d v ix iy c | none => s.sampleVal g d i.tick ix iy c)
      else if rlFuse (d.layer m) then
        let r := s.rlGroup g d i fuel m ix iy (c / 32)
        let v := fmtDec (rlOutFmt (d.layer m)) ((r.1[c % 32]?).getD 0)
        if fmtMx (rlOutFmt (d.layer m)) then v.mul (e8m0 r.2) else v
      else s.planar g d m ix iy c
    let win := fun (k st dl pad size o : Nat) => (List.range k).map (fun t =>
      (if pad ≤ o * st + t * dl ∧ o * st + t * dl - pad < size then some (o * st + t * dl - pad) else none, t))
    let xs := win (rlKW e) (rlSX e) (rlDX e) (rlPadL e) (rlW a) x
    let ys := win (rlKH e) (rlSY e) (rlDY e) (rlPadT e) (rlH a) y
    let at_ := fun (px py : Option Nat) (c : Nat) => match px, py with | some u, some v => inp (rlSrcA e) u v c | _, _ => .num false 0 1
    let flt := fmtFloat (rlAFmt e)
    let f := rlOutFmt e
    -- the products or inputs of one output channel, in groups of one tap and 32 input channels
    let terms := fun (o : Nat) => match rlOp e with
      | 3 | 4 =>
        let gi := rlCin e / rlGroups e
        let c0 := o / (rlC e / rlGroups e) * gi
        ys.flatMap (fun py => xs.flatMap (fun px => (List.range ((gi + 31) / 32)).map (fun ch =>
          ((List.range 32).filter (fun j => decide (ch * 32 + j < gi))).map (fun j =>
            let c := ch * 32 + j
            let row := (o * rlKH e + py.2) * rlKW e + px.2
            (s.rlWeight g d qs l (row * gi + c) gi row).mul (at_ px.1 py.1 (c0 + c))))))
      | 5 =>
        let ff := rlW a * rlH a * rlC a
        (List.range ((ff + 31) / 32)).map (fun ch => ((List.range 32).filter (fun j => decide (ch * 32 + j < ff))).map (fun j =>
          let k := ch * 32 + j
          (s.rlWeight g d qs l (o * ff + k) ff o).mul (inp (rlSrcA e) (k / rlC a % rlW a) (k / rlC a / rlW a) (k % rlC a))))
      | 7 => ys.flatMap (fun py => xs.map (fun px => [at_ px.1 py.1 o]))
      | 8 =>
        let wa : FV := if flt then fmtDec 8 (lf e 3 31 16) else .ofInt (sext 16 (lf e 3 63 48))
        let wb : FV := if flt then fmtDec 8 (lf e 3 15 0) else .ofInt (sext 16 (lf e 3 47 32))
        [[wa.mul (inp (rlSrcA e) x y o), wb.mul (inp (rlSrcB e) x y o)]]
      | _ => []
    let pool := fun (o : Nat) =>
      let vs := ys.flatMap (fun py => xs.filterMap (fun px => match px.1, py.1 with | some u, some v => some (inp (rlSrcA e) u v o) | _, _ => none))
      if vs.contains .nan then FV.nan else vs.foldl FV.max (vs.headD (.num false 0 1))
    let big : Int := 2 ^ 62
    -- the accumulator with its bias
    let acc := fun (o : Nat) =>
      if flt then
        let v := if rlOp e = 6 then pool o else fpAcc e (terms o)
        let v := if rlOp e = 7 then (v.mul (FV.r32 (.num false 1 (rlKW e * rlKH e)))).r32 else v
        if rlBias e then (v.add (fmtDec 0xA (s.rlBiasOf g d qs l o))).r32 else v
      else
        let v := if rlOp e = 6 then FV.toInt (-big) big (pool o) else ((terms o).flatten.map (fun t => t.toInt (-big) big)).foldl (· + ·) 0
        FV.ofInt (wrap32 (v + sext 32 (s.rlBiasOf g d qs l o)))
    let os := (List.range 32).map (fun j => n * 32 + j)
    let lut := fun (k : Nat) => leVal ((List.range 1).map (fun _ => SMap.get 0 (s.quire (qs.headD 0)).qsp (rlLut e + k)))
    if !flt ∧ !fmtFloat f then
      (os.map (fun o => if rlC e ≤ o then 0 else rlIntOut e ((acc o).toInt (-big) big) lut), 0)
    else
      let vs := os.map (fun o => if rlC e ≤ o then FV.num false 0 1 else rlFloatAct e (if flt then acc o else (acc o).r32))
      if fmtMx f then mxBlock f vs else (vs.map (fmtEnc f), 0)

/-- Evaluate one output row of a stripe and write it in planar layout (R219, R221). -/
def State.rlRow (s : State) (g : Graph) (d : Readout) (i : RoInst) (l y x0 w : Nat) : State :=
  let e := d.layer l
  let f := rlOutFmt e
  (List.range w).foldl (fun s j => (List.range (rlG e)).foldl (fun s n =>
    let x := x0 + j
    if rlW e ≤ x then s
    else
      let qs := g.stripeQuires d l x
      let r := s.rlGroup g d i 5 l x y n
      let k := d.group l x y n
      let s := s.locPut g.slip qs (d.out l) (k * 4 * fmtBits f) (packElems (fmtBits f) r.1)
      if fmtMx f then s.locPut g.slip qs { (d.out l) with enc := (d.scaleO[l]?).getD 0 } k [BitVec.ofNat 8 r.2] else s) s) s

/-! ## Progress of an instant -/

/-- Rows of a layer's stripe evaluated so far. -/
def RoInst.rowsOf (i : RoInst) (l st : Nat) : Nat := ((i.rows.find? (fun p => decide (p.1 = l ∧ p.2.1 = st))).map (·.2.2)).getD 0
def RoInst.setRows (i : RoInst) (l st n : Nat) : RoInst :=
  { i with rows := (i.rows.filter (fun p => decide (¬(p.1 = l ∧ p.2.1 = st)))) ++ [(l, st, n)] }

/-- Rows of a layer that every stripe has evaluated; an input layer's are there once the input is complete. -/
def Readout.rowsDone (d : Readout) (i : RoInst) (l : Nat) : Nat :=
  if l = 0 then (if i.ready then rlH (d.layer 0) else 0)
  else ((List.range ((d.stripes[l]?).getD []).length).map (fun st => i.rowsOf l st)).foldl min (rlH (d.layer l))

/-- The rows of unfused sources that the first n output rows of a layer need (R217). -/
def Readout.need (d : Readout) : Nat → Nat → Nat → List (Nat × Nat)
  | 0, _, _ => []
  | fuel + 1, l, n =>
    let e := d.layer l
    let a := d.layer (rlSrcA e)
    let k := if rlOp e = 5 then rlH a else if rlOp e = 8 then n else min (rlH a) ((n - 1) * rlSY e + rlEY e - rlPadT e)
    let one := fun m => if m ≠ 0 ∧ rlFuse (d.layer m) then d.need fuel m k else [(m, k)]
    one (rlSrcA e) ++ (if rlOp e = 8 then one (rlSrcB e) else [])

/-- The first n output rows of a layer may be evaluated. -/
def Readout.mayRows (d : Readout) (i : RoInst) (l n : Nat) : Bool := (d.need 5 l n).all (fun p => decide (p.2 ≤ d.rowsDone i p.1))

/-- A layer's output is complete. -/
def Readout.layerDone (d : Readout) (i : RoInst) (l : Nat) : Bool := decide (rlH (d.layer l) ≤ d.rowsDone i l)

/-! ## Records (R222) -/

/-- AGE_OLDEST and the flags of an instant: from the virtual frame, or from the sampled surface. -/
def State.roAge (s : State) (d : Readout) (i : RoInst) : Nat :=
  match i.vfin with
  | some v => v.age
  | none =>
    let e := d.layer 0
    let r := rlRegion e
    let tau := ((List.range (rlNTau e)).map (rlTau e)).foldl max 0
    let u := s.surfOfTick r i.tick
    unsig 32 (((i.tick - s.originOf r : Nat) : Int) - ((u : Int) - 15 * tau + 1) * s.surfD r)

/-- GAPS of an instant (R222): of the virtual frame, or markers the port inserted after the previous instant and up to this one. -/
def State.roGaps (s : State) (d : Readout) (i : RoInst) : Nat :=
  match i.vfin with
  | some v => v.gaps
  | none => min 0xFFFF ((s.hop (s.cfgPort (rlRegion (d.layer 0)))).gapLog.filter (fun p => decide (i.since < p.1 ∧ p.1 ≤ i.tick))).length

/-- FLAGS of an instant's records: ADAPTIVE, INVALID, GAP. -/
def State.roFlags (s : State) (g : Nat) (d : Readout) (i : RoInst) (invalid : Bool) : Nat :=
  let ad := (s.slip (s.graph g).slip).adaptive || i.vfin.any (·.adaptive)
  ad.toNat + 2 * (invalid || i.vfin.any (·.invalid)).toNat + (if 0 < s.roGaps d i then 4 else 0)

/-- Hand a record over: to the graph's channel, where it has one, and to the host-link egress (R222, Table 8.1). -/
def State.handOver (s : State) (g chan : Nat) (r : Rec) (bytes : List (BitVec 8)) : State :=
  let s := if chan = 0xFF then s else (s.chanItem (s.graph g).quire0 chan bytes).1
  { s with recs := s.recs ++ [r] }

/-- The record of a layer (R222): Table 7.7's header, and the tensor in planar layout unless the instant is invalid. -/
def State.layerRecord (s : State) (g : Nat) (d : Readout) (i : RoInst) (l : Nat) (invalid : Bool) : State :=
  let gr := s.graph g
  let e := d.layer l
  let n := rlH e * rlG e * rlW e
  let w := 4 * fmtBits (rlOutFmt e)
  let pay := if invalid then [] else
    (List.range n).flatMap (fun k => s.locGet gr.slip (gr.stripeQuires d l (k % rlW e)) (d.out l) (k * w) w) ++
    (if fmtMx (rlOutFmt e) then (List.range n).flatMap (fun k => s.locGet gr.slip (gr.stripeQuires d l (k % rlW e)) { (d.out l) with enc := (d.scaleO[l]?).getD 0 } k 1) else [])
  let gaps := s.roGaps d i
  let fl := s.roFlags g d i invalid
  let sk := min d.skipped 0xFFFF
  let bytes := hdr [(g, 4), (l, 1), (0, 1), (fl, 1), (rlOutFmt e, 1), (i.tick, 8), (s.tim.tick, 8), (0, 8), (0, 4), (0x3F800000, 4), (s.roAge d i, 4), (0, 2),
    (gaps, 2), (rlW e, 2), (rlH e, 2), (rlC e, 2), (sk, 2), (pay.length, 8)] ++ pay
  s.handOver g d.outChan {
    kind := .readout, graph := g, tref := i.tick, layer := l, bytes := bytes.length, flags := fl,
    fields := [g, l, 0, rlOutFmt e, i.tick, 0, 0, 0x3F800000, s.roAge d i, 0, gaps, rlW e, rlH e, rlC e, sk, pay.length], payload := pay.map (·.toNat) } bytes

/-- An instant ends when every layer and job is done. -/
def Readout.instDone (d : Readout) (i : RoInst) : Bool :=
  (List.range d.layers.length).all (fun l => decide (l = 0) || rlFuse (d.layer l) || d.layerDone i l) &&
  (List.range d.jobs.length).all (fun j => i.jobs.contains j)

def State.endInstant (s : State) (g : Nat) : State :=
  match (s.graph g).readout with
  | none => s
  | some d =>
    match d.insts with
    | i :: rest => if d.instDone i then s.modReadout g (fun d => { d with insts := rest, skipped := 0 }) else s
    | [] => s

def State.modInst (s : State) (g : Nat) (f : RoInst → RoInst) : State :=
  s.modReadout g (fun d => { d with insts := match d.insts with | i :: r => f i :: r | [] => [] })

/-! ## Events -/

/-- A graph runs: RUNNING, with its quires powered and active. -/
def State.readoutRuns (s : State) (g : Nat) : Option Readout :=
  let x := s.graph g
  if x.state = 1 ∧ s.quiresOn x ∧ x.quires.all (fun q => decide (s.qState q = 1)) then x.readout else none

/-- READOUT_AT (R201): schedules an instant of a COMMAND-scheduled graph at AT_TICK. -/
def State.readoutAt (s : State) (g t : Nat) : Res :=
  match (s.graph g).readout with
  | none => .err s stBadParam 5
  | some d => if d.sched ≠ 2 then .err s stBadParam 5 else .ok (s.modReadout g (fun d => { d with asked := d.asked ++ [t] }))

def execReadoutAt (h : CmdRef) (s : State) : Host.Outcome State Fault Refusal :=
  .next (s.cmdAt h 0x0207 (.readoutAt h) (fun s f d => s.readoutAt f.objId.toNat (s.tim.tick + d)))

/-- READOUT_INSTANT (R201–R203): the next due instant of a periodic or command schedule. -/
def execReadoutInstant (g : BitVec 32) (s : State) : Host.Outcome State Fault Refusal :=
  .next (if (s.readoutRuns g.toNat).isSome then s.takeInstant g.toNat s.tim.tick else s)

/-- SAMPLE_SLOT_SET (R204): the point in a region's item stream after the last item of tick T. -/
def execSampleSlotSet (r : BitVec 4) (s : State) : Host.Outcome State Fault Refusal :=
  .next (s.armSlots r.toNat (s.hop (s.cfgPort r.toNat)).nextEnd)

/-- SAMPLE_SWEEP (R205): after the generation sweep and SNAP, the next beat of the slot with the earliest instant. -/
def execSampleSweep (r : BitVec 4) (s : State) : Host.Outcome State Fault Refusal :=
  let n := r.toNat
  let f := s.sfm n
  .next (if f.conv.isSome ∨ f.snap.any ∨ s.dom (21 + n / 4) ≠ 2 then s
  else match f.slotOrder.find? (fun i => ((f.slots[i]?).getD {}).bits.any) with
  | some i => s.emitSample n i ((f.slots[i]?).getD {}).bits.pos false
  | none => s)

/-- SAMPLE_COMPLETE (R207): every beat of a slot's window, in both regions of a pair, is written; the slot is free. -/
def execSampleComplete (r slot : BitVec 4) (s : State) : Host.Outcome State Fault Refusal :=
  let k := s.cfgPort r.toNat
  let i := slot.toNat
  let x := (((s.sfm k).slots)[i]?).getD {}
  .next (if !x.busy ∨ !(s.surfRegions k).all (fun m => let y := ((s.sfm m).slots[i]?).getD {}; y.armed && !y.bits.any) then s
  else
    let s := (s.surfRegions k).foldl (fun s m => s.modSfm m (fun f => { f with slots := f.slots.set i {} })) s
    s.modReadout x.graph (fun d => { d with insts := d.insts.map (fun j => if j.tick = x.tick then { j with ready := true } else j) }))

/-- The layer of a delta graph whose scheduled reads feed a VFRAME graph, with its channel's quire: the first with a token waiting. -/
def State.vfSource (s : State) (src : Nat) : Option (Nat × Nat × Nat) :=
  match (s.graph src).delta with
  | none => none
  | some d =>
    ((List.range d.layers.length).filterMap (fun l =>
      let e := d.layer l
      let q := (s.graph src).schedQuire d l
      if dlReadPeriod e ≠ 0 ∧ 0 < ((s.quire q).chan (dlReadChan e)).tokens then some (l, q, dlReadChan e) else none)).head?

/-- Raw elements of a FORM 0 payload. -/
def vfRaw (fmt : Nat) (l : List (BitVec 8)) : Nat → List Int
  | 0 => []
  | n + 1 => if fmt = 4 then sext 16 (leVal (l.take 2)) :: vfRaw fmt (l.drop 2) n
    else (if fmt = 3 then ((leVal (l.take 1) : Nat) : Int) else sext 8 (leVal (l.take 1))) :: vfRaw fmt (l.drop 1) n

/-- VFIN_RECORD (R209, R210): the next record in READ_CHAN is taken, which is an instant of the graph (R201). An INVALID record issues
the instant's records at once, without payload. -/
def execVfinRecord (g : BitVec 32) (s : State) : Host.Outcome State Fault Refusal :=
  let n := g.toNat
  .next (match s.readoutRuns n with
  | none => s
  | some d =>
    if d.sched ≠ 3 then s
    else match s.vfSource d.srcGraph with
    | none => s
    | some (_, q, c) =>
      let ch := (s.quire q).chan c
      let cap := max 1 ch.cap
      let a := ch.base + (ch.slot + cap - ch.tokens % cap) % cap * ch.isize * 32
      let b := bytesAt (s.quire q).qsp a (ch.isize * 32)
      let f := fun (o k : Nat) => leVal ((b.drop o).take k)
      let s := s.modQuire q (fun x => x.consume c 1)
      let fl := f 6 1
      let v : VfIn := { scale := f 0x24 4, age := f 0x28 4, gaps := f 0x2E 2, adaptive := fl.testBit 0, invalid := fl.testBit 1,
                        vals := vfRaw (f 7 1) (b.drop 64) (f 0x38 8 / (if f 7 1 = 4 then 2 else 1)) }
      let held := d.insts.length
      let s := s.beginInstant n (f 8 8)
      match (s.graph n).readout with
      | none => s
      | some d' =>
        if d'.insts.length ≤ held then s
        else
          let last := d'.insts.length - 1
          let i : RoInst := { ((d'.insts[last]?).getD { tick := 0 }) with ready := true, vfin := some v }
          if v.invalid then
            let s := (List.range d'.layers.length).foldl (fun s l => if rlOutChan (d'.layer l) = 0xFF then s else s.layerRecord n d' i l true) s
            let s := (List.range d'.jobs.length).foldl (fun s j =>
              let jb := (d'.jobs[j]?).getD { words := [], levels := [] }
              let hb := hdr [(n, 4), (j, 1), (s.roFlags n d' i true, 1), (0, 2), (i.tick, 8), (s.tim.tick, 8), (v.age, 4), (0, 4), (v.gaps, 2), (d'.skipped, 2), (0, 4), (0, 16), (0, 8)]
              s.handOver n (bitsN ((jb.words[1]?).getD 0).toNat 55 48) {
                kind := .detset, graph := n, tref := i.tick, layer := j, bytes := 64, flags := s.roFlags n d' i true,
                fields := [n, j, 0, i.tick, v.age, 0, v.gaps, d'.skipped, 0, 0], payload := [] } hb) s
            s.modReadout n (fun d => { d with insts := d.insts.take last, skipped := 0 })
          else s.modReadout n (fun d => { d with insts := d.insts.set last i }))

/-! ## Stripes and rows (R215–R221) -/

/-- K_in of Table 8.4. -/
def kIn (f : Nat) : Nat := match f with | 1 => 64 | 0xB => 64 | 0 => 128 | 8 => 8 | 9 => 8 | _ => 32

/-- Compute cycles of one output row of w columns of a layer on the AXE (R215). -/
def Readout.rowCycles (d : Readout) (l w : Nat) : Nat :=
  let e := d.layer l
  let a := d.layer (rlSrcA e)
  let up := fun (x y : Nat) => (x + y - 1) / max 1 y
  match rlOp e with
  | 6 | 7 => w * up (rlC e) 32 * rlKH e
  | 8 => w * up (rlC e) 32
  | 5 => up (rlC e) 32 * up (rlW a * rlH a * rlC a) (kIn (rlAFmt e))
  | _ =>
    let gr := rlGroups e
    let gi := rlCin e / gr
    let go := rlC e / gr
    let p := max 1 (min (32 / max 1 go) (kIn (rlAFmt e) / max 1 gi))
    w * up gr p * up go 32 * up gi (kIn (rlAFmt e)) * rlKW e * rlKH e

/-- Layers of the chain that ends in a layer, first to last. -/
def Readout.chain (d : Readout) : Nat → Nat → List Nat
  | 0, l => [l]
  | fuel + 1, l => let m := rlSrcA (d.layer l); if m ≠ 0 ∧ rlFuse (d.layer m) then d.chain fuel m ++ [l] else [l]

/-- Input width of a layer's stripe of w columns (R216). -/
def rlWin (e : Desc64) (w : Nat) : Nat := (w - 1) * rlSX e + rlDX e * (rlKW e - 1) + 1

/-- Widths of the chain's layers, first to last, for a stripe of w columns of the last. -/
def Readout.widths (d : Readout) (ch : List Nat) (w : Nat) : List Nat :=
  (ch.reverse.foldl (fun (p : List Nat × Nat) l => (p.2 :: p.1, rlWin (d.layer l) p.2)) ([], w)).1

/-- T_stripe of R219 and the MACs of the stripe. -/
def Readout.stripeCost (d : Readout) (l w : Nat) : Nat × Nat :=
  let ch := d.chain 4 l
  let ws := d.widths ch w
  let inBytes := fun (m wd : Nat) => rlWin (d.layer m) wd * ((rlCin (d.layer m) + 31) / 32) * 4 * fmtBits (rlAFmt (d.layer m))
  let first := ch.headD l
  let fill := rlEY (d.layer first) * ((inBytes first (ws.headD w) + 63) / 64)
  let pairs := List.zip ch ws
  let cyc := (pairs.map (fun p =>
    let e := d.layer p.1
    rlH e * max (d.rowCycles p.1 p.2) (if p.1 = first then rlSY e * ((inBytes p.1 p.2 + 63) / 64) else 0))).foldl (· + ·) 0
  let macs := fun (m : Nat) =>
    let e := d.layer m
    let a := d.layer (rlSrcA e)
    match rlOp e with
    | 3 | 4 => rlCin e / rlGroups e * rlKW e * rlKH e
    | 5 => rlW a * rlH a * rlC a
    | 8 => 2
    | _ => 0
  let mac := (pairs.map (fun p => rlH (d.layer p.1) * p.2 * rlC (d.layer p.1) * macs p.1)).foldl (· + ·) 0
  (16 + fill + cyc, mac)

/-- Evaluate the next rows of a stripe, at most n: as far as the input rows and the credits of OUT_CHAN go. Each row posts its token;
the last row of the last stripe completes the layer, whose record is handed over (R219, R222). -/
def State.stripeRows (s : State) (g : Nat) (d : Readout) (i : RoInst) (l st x0 w q : Nat) : Nat → State
  | 0 => s
  | n + 1 =>
    match (s.graph g).readout.bind (fun d => d.insts.head?) with
    | none => s
    | some i' =>
      let e := d.layer l
      let y := i'.rowsOf l st
      let c := rlOutChan e
      let ch := (s.quire q).chan c
      let chan := decide (c < 64) && ch.valid
      if rlH e ≤ y ∨ !d.mayRows i' l (y + 1) then s
      else if chan ∧ ch.credits = 0 then s.bump (qrB q + 0x400 + 8 * c)
      else
        let s := s.rlRow (s.graph g) d i' l y x0 w
        let s := if chan then s.modQuire q (fun x => x.post c 1 []) else s
        let s := s.modInst g (fun j => j.setRows l st (y + 1))
        s.stripeRows g d i l st x0 w q n

/-- A layer that has just been completed hands over its record, once. -/
def State.layerEnd (s : State) (g l : Nat) : State :=
  match (s.graph g).readout with
  | none => s
  | some d =>
    match d.insts with
    | i :: _ =>
      let s := if rlOutChan (d.layer l) ≠ 0xFF ∧ d.layerDone i l ∧ !i.recs.contains l then
          (s.layerRecord g d i l false).modInst g (fun j => { j with recs := j.recs ++ [l] })
        else s
      s.endInstant g
    | [] => s

/-- Work of one stripe of a layer on an engine of its quire. -/
def State.stripe (s : State) (g l st rows : Nat) (ege : Bool) : State :=
  match s.readoutRuns g with
  | none => s
  | some d =>
    match ((d.stripes[l]?).getD [])[st]?, d.insts.head? with
    | some (qi, x0, w), some i =>
      let e := d.layer l
      if l = 0 ∨ rlFuse e ∨ rlEge e ≠ ege then s
      else
        let q := ((s.graph g).quireOf qi).headD 0
        let before := i.rowsOf l st
        let s := s.stripeRows g d i l st x0 w q rows
        let after := (((s.graph g).readout.bind (fun d => d.insts.head?)).map (fun i => i.rowsOf l st)).getD 0
        let s :=
          if ege then s.bump (qrB q + 0x6B0) ((after - before) * w * ((rlC e + 7) / 8) *
            ((rlCin e * rlKW e * rlKH e + (if 16 ≤ fmtBits (rlAFmt e) then 1 else 7)) / (if 16 ≤ fmtBits (rlAFmt e) then 2 else 8)))
          else if before < after ∧ after = rlH e then
            let c := d.stripeCost l w
            ((s.bump (qrB q + 0x6A8) c.1).bump (qrB q + 0x6B8) c.2).bump (qrB q + 0x6D0)
          else s
        if after = rlH e then s.layerEnd g l else s
    | _, _ => s

/-- STRIPE_EVALUATION (R219): a stripe of the chain that ends in a layer goes as far as its tokens and credits allow. -/
def execStripeEvaluation (g : BitVec 32) (layer : BitVec 6) (st : BitVec 12) (s : State) : Host.Outcome State Fault Refusal :=
  .next (s.stripe g.toNat layer.toNat st.toNat 4096 false)

/-- EGE_ROW (R221): the next output row of a stripe of an EGE layer. -/
def execEgeRow (g : BitVec 32) (layer : BitVec 6) (st : BitVec 12) (s : State) : Host.Outcome State Fault Refusal :=
  .next (s.stripe g.toNat layer.toNat st.toNat 1 true)

/-- The readout part stops: its instants are abandoned and their slots freed. -/
def State.stopReadout (s : State) (g : Nat) : State :=
  let s := { s with sfms := SMap.mapAll {} s.sfms (fun _ f => { f with slots := f.slots.map (fun (x : SampSlot) => if x.graph = g then {} else x) }) }
  s.modReadout g (fun d => { d with insts := [], asked := [], skipped := 0 })

end Sys2Proof.Machine
end

