-- ==== Sys2Proof/Machine/Spk.lean ====
section
/-! DEFINITION. The spiking fabric (09): settlement, routers, the crossbar, attach ports and the Spiking-class commands. -/
namespace Sys2Proof.Machine

/-! ## Neurons (R236, R237) -/

/-- The reset value of a class (Table 9.3). -/
def classReset : Nat := 0x7FFF <<< 112 + 0x8000 <<< 64 + 1 <<< 20
def clTheta (c : Nat) : Int := sext 16 (bitsN c 127 112)
def clVReset (c : Nat) : Int := sext 16 (bitsN c 111 96)
def clVRest (c : Nat) : Int := sext 16 (bitsN c 95 80)
def clVFloor (c : Nat) : Int := sext 16 (bitsN c 79 64)
def clRefr (c : Nat) : Nat := bitsN c 63 48
def clLin (c : Nat) : Nat := bitsN c 47 32
def clHalf (c : Nat) : Nat := bitsN c 31 20 * 2 ^ bitsN c 19 16
def clMode (c : Nat) : Nat := bitsN c 15 14

/-- The load check of a class. -/
def clBad (c : Nat) : Bool :=
  !(decide (clVFloor c ≤ clVReset c) && decide (clVReset c < clTheta c) && decide (clVFloor c ≤ clVRest c) && decide (clVRest c < clTheta c)) ||
    clMode c = 3 || bitsN c 31 20 = 0

/-- Leak over d ticks (R237). -/
def leak (v : Int) (d c : Nat) : Int :=
  let x := v - clVRest c
  match clMode c with
  | 1 =>
    let m : Nat := x.natAbs - clLin c * d
    clVRest c + (if x < 0 then -(m : Int) else (m : Int))
  | 2 =>
    let h := max 1 (clHalf c)
    let e10 := (d * 1024 + h / 2) / h
    if 15 ≤ e10 / 1024 then clVRest c
    else clVRest c + rneDivI (x * expoTbl (e10 % 1024)) (2 ^ (15 + e10 / 1024))
  | _ => v

/-- What an input to a neuron came to. -/
inductive Applied where
  | disabled
  | refractory
  /-- Updated; T_START where it fired. -/
  | updated (x : Neuron) (fired : Option Nat)
deriving DecidableEq, Repr

/-- Elapsed ticks (R43), never negative. -/
def ticksSince (n t : Nat) : Nat := (etsDiff n t).toNat

/-- apply of R236. -/
def Neuron.apply (x : Neuron) (c : Nat) (p : Int) (n : Nat) : Applied :=
  if !x.en then .disabled
  else
    let d := ticksSince n x.tLast
    if x.fired ∧ d < clRefr c then .refractory
    else
      let d := if x.fired then d - clRefr c else d
      let start := if x.fresh then n % 2 ^ 32 else x.tStart
      let v := satI (clVFloor c) 32767 (leak x.v d c + p)
      if clTheta c ≤ v then .updated { x with v := clVReset c, fired := true, fresh := true, tLast := n % 2 ^ 32, tStart := start } (some start)
      else .updated { x with v := v, fired := false, fresh := false, tLast := n % 2 ^ 32, tStart := start } none

/-- The renewal of R238. -/
def Neuron.renew (x : Neuron) (c n : Nat) : Neuron :=
  let d := ticksSince n x.tLast
  if !x.en ∨ d < 2 ^ 28 then x
  else
    let d' := if x.fired then d - clRefr c else d
    { x with v := leak x.v d' c, fired := false, tLast := n % 2 ^ 32, tStart := if 2 ^ 28 < ticksSince n x.tStart then n % 2 ^ 32 else x.tStart }

/-- The 96 bits of Table 9.2. -/
def Neuron.word (x : Neuron) : Nat :=
  x.tLast % 2 ^ 32 + x.en.toNat * 2 ^ 42 + x.fired.toNat * 2 ^ 43 + x.cls % 16 * 2 ^ 44 + unsig 16 x.v * 2 ^ 48 + x.tStart % 2 ^ 32 * 2 ^ 64

def Tile.neuron (t : Tile) (j : Nat) : Neuron := SMap.get {} t.neurons j
def Tile.cls (t : Tile) (c : Nat) : Nat := SMap.get classReset t.classes c

/-! ## Synapse rows (R240–R242) -/

/-- 64-bit words of SYS. -/
def sysWords : Nat := 131072

/-- The synapses of the row at a word address, as target and contribution; none on a row fault. -/
def rowOf (sys : SMap (BitVec 8)) (a : Nat) : Option (List (Nat × Int)) :=
  let rd := fun (w : Nat) => (wordAt sys (8 * w)).toNat
  if sysWords ≤ a then none
  else
    let h := rd a
    let kind := bitsN h 63 62
    let w := bitsN h 61 59 + 1
    let neg := h.testBit 58
    let sh := bitsN h 57 54
    let base := bitsN h 53 41
    let n := bitsN h 40 27
    let k := if kind = 1 then 64 / w else 64 / (13 + w)
    if (kind ≠ 1 ∧ kind ≠ 2) ∨ 8 < sh ∨ n = 0 ∨ 8192 < n ∨ sysWords < a + 1 + (n + k - 1) / k ∨ (kind = 1 ∧ 8192 < base + n) then none
    else
      let val := fun (x : Nat) => (if w = 1 then (if neg then -(x : Int) else (x : Int)) else sext w x) * ((2 ^ sh : Nat) : Int)
      some ((List.range n).map (fun i =>
        let word := rd (a + 1 + i / k)
        if kind = 1 then (base + i, val (bitsN word (w * (i % k) + w - 1) (w * (i % k))))
        else
          let e := bitsN word ((13 + w) * (i % k) + 12 + w) ((13 + w) * (i % k))
          (e % 8192, val (e / 8192))))

/-- Words of the row at an address, its header included, as far as its header says. -/
def rowSpan (sys : SMap (BitVec 8)) (a : Nat) : Nat :=
  let h := (wordAt sys (8 * a)).toNat
  let w := bitsN h 61 59 + 1
  let k := if bitsN h 63 62 = 1 then 64 / w else 64 / (13 + w)
  1 + (bitsN h 40 27 + k - 1) / k

/-! ## Settlement (R232–R243) -/

/-- The settle lag of a slipcase is slipLag (KXB_SCFG_s); a tile's slipcase. -/
def State.tileSlip (s : State) (q : Nat) : Nat := (s.quire q).slip.getD 0xFF
def spkCtr (q i : Nat) : Nat := qrB q + 0x2500 + 8 * i

/-- Add a delivery's contributions to the sums of a tick. -/
def addRow (m : SMap (Option Int)) (l : List (Nat × Int)) : SMap (Option Int) :=
  l.foldl (fun m p => SMap.put none m p.1 (some ((SMap.get none m p.1).getD 0 + p.2))) m

/-- A row fault (R242): `ecc` where the read returned an uncorrectable error (R123). -/
def State.rowFault (s : State) (q row : Nat) (ecc : Bool) : State :=
  let s := (s.spkDrop (s.tileSlip q) (spkCtr q 6)).orReg (qrB q + 0x2208) 1
  s.fault q (if ecc then 3 else 0xA) (s.tileSlip q) (if ecc then row else 0)

/-- One delivery of a tick: the sums with its row added, or its fault. -/
def State.takeRow (s : State) (q : Nat) (bad : List Nat) (m : SMap (Option Int)) (row : Nat) : State × SMap (Option Int) :=
  let sys := (s.quire q).sys
  if bad.any (fun b => decide (row ≤ b ∧ b < row + rowSpan sys row)) then (s.rowFault q row true, m)
  else match rowOf sys row with
  | none => (s.rowFault q row false, m)
  | some l => (s.bump (spkCtr q 1) l.length, addRow m l)

/-- Apply P_j to one neuron (R236). -/
def State.applyOne (s : State) (q n j : Nat) (p : Int) : State :=
  let t := (s.quire q).spk
  let x := t.neuron j
  match x.apply (t.cls x.cls) (sext 32 (unsig 32 p)) n with
  | .disabled => s.bump (spkCtr q 8)
  | .refractory => s.bump (spkCtr q 7)
  | .updated y f =>
    let s := (s.bump (spkCtr q 2)).modTile q (fun t => { t with neurons := SMap.put {} t.neurons j y })
    match f with
    | none => s
    | some st => (s.bump (spkCtr q 3)).modTile q (fun t => { t with fires := t.fires ++ [{ key := (t.keyBase + j) % 2 ^ 32, tick := n % 2 ^ 32, tStart := st }] })

/-- Bytes of the states that a read names. -/
def Tile.stateBytes (t : Tile) (first count : Nat) : List (BitVec 8) := (List.range count).flatMap (fun i => leBytes 12 (t.neuron (first + i)).word)

/-- Changes that every spike still to be looked up comes after: the settlements below their tick have ended and no spike fired below
it waits (R249). -/
def Tile.mergeRoutes (t : Tile) : Tile :=
  let done := fun (c : RouteChg) =>
    decide (etsDiff c.tick (t.next % 2 ^ 32) ≤ 0) && (t.fires ++ t.tileQ).all (fun f => decide (etsDiff c.tick f.tick ≤ 0))
  { t with table := (t.pend.filter done).foldl (fun m c => SMap.put 0 m c.idx c.ent) t.table, pend := t.pend.filter (fun c => !done c) }

/-- Settle tick n (R236): the writes of its AT_TICK, its deliveries, then the reads of n. -/
def State.spkSettle (s : State) (q n : Nat) (bad : List Nat) : State :=
  let e := n % 2 ^ 32
  let t := (s.quire q).spk
  let s := (t.writes.filter (fun w => decide (w.tick = e))).foldl (fun s w => s.modQuire q (fun x => { x with sys := SMap.putAll 0 x.sys w.addr w.bytes })) s
  let rows := (t.buf.filter (fun d => decide (d.2 = e))).map (·.1)
  let s := s.modTile q (fun t => { t with buf := t.buf.filter (fun d => decide (d.2 ≠ e)), writes := t.writes.filter (fun w => decide (w.tick ≠ e)) })
  let p := rows.foldl (fun (p : State × SMap (Option Int)) row => p.1.takeRow q bad p.2 row) (s, [])
  let s := p.2.foldl (fun s x => s.applyOne q n x.1 (x.2.getD 0)) p.1
  let s := ((s.quire q).spk.reads.filter (fun r => decide (r.tick = e))).foldl (fun s r =>
    (s.sglWrite r.ref (((s.quire q).spk.stateBytes r.first r.count).map (·.toNat))).complete r.ref 0 0) s
  s.modTile q (fun t => Tile.mergeRoutes { t with reads := t.reads.filter (fun r => decide (r.tick ≠ e)), next := n + 1, sweepDue := decide (n % 2 ^ 28 = 0) })

/-- The next tick that has something to settle, at most hi. -/
def Tile.nextDue (t : Tile) (hi : Nat) : Nat :=
  let ts := (t.buf.map (·.2)) ++ t.writes.map (·.tick) ++ t.reads.map (·.tick)
  let c := ts.map (fun e => t.next + ticksSince e (t.next % 2 ^ 32))
  (c ++ [(t.next + 2 ^ 28 - 1) / 2 ^ 28 * 2 ^ 28]).foldl min hi

/-- SETTLEMENT (R232): the tile settles in order the ticks up to its next one that has deliveries, a write, a read or a sweep; the
start of local tick n + LAG has passed. `bad`: words of SYS that read with an uncorrectable error. -/
def execSettlement (q : BitVec 7) (bad : List Nat) (s : State) : Host.Outcome State Fault Refusal :=
  let k := q.toNat
  let t := (s.quire k).spk
  let lag := s.slipLag (s.tileSlip k)
  .next (if !t.en ∨ t.sweepDue ∨ s.tim.tick < t.next + lag then s
  else s.spkSettle k (t.nextDue (s.tim.tick - lag)) bad)

/-- RENEWAL_SWEEP (R238). -/
def execRenewalSweep (q : BitVec 7) (s : State) : Host.Outcome State Fault Refusal :=
  let k := q.toNat
  let t := (s.quire k).spk
  .next (if !t.en ∨ !t.sweepDue then s
  else s.modTile k (fun t => { t with sweepDue := false, neurons := SMap.mapAll {} t.neurons (fun _ x => x.renew (t.cls x.cls) (t.next - 1)) }))

/-- SPIKE_DELIVERY (R234, R256): the oldest delivery reaches the spike buffer, or is dropped LATE or TILE_FULL. -/
def State.deliver1 (s : State) (q : Nat) : State :=
  let t := (s.quire q).spk
  match t.flight with
  | [] => s
  | d :: rest =>
    let s := s.modTile q (fun t => { t with flight := rest })
    if !t.en ∨ etsDiff d.2 (t.next % 2 ^ 32) < 0 then
      ((s.spkDrop (s.tileSlip q) (spkCtr q 5)).orReg (qrB q + 0x2208) 2).conFault (fun g => g.quires.contains q) 5
    else if 16384 ≤ t.buf.length then s.spkDrop (s.tileSlip q) (spkCtr q 4)
    else (s.bump (spkCtr q 0)).modTile q (fun t => { t with buf := t.buf ++ [d] })

def execSpikeDelivery (q : BitVec 7) (s : State) : Host.Outcome State Fault Refusal := .next (s.deliver1 q.toNat)

/-! ## Kettle routing (R245, R246, R255) -/

/-- A spike word (R231). -/
def spkWord (key tick : Nat) : Nat := key % 2 ^ 32 * 2 ^ 32 + tick % 2 ^ 32

/-- Route changes that staged commands hold for a quire, by index in their graph's placement (R249). -/
def State.stagedRoutes (s : State) (q : Nat) : List RouteChg :=
  s.staged.flatMap (fun x =>
    match x.cmd with
    | .spikeRouteSet _ qi ents =>
      if (s.graph x.obj).quires[qi.toNat]? = some q then ents.map (fun e => { idx := e.1.toNat % 4096, tick := x.tick % 2 ^ 32, ent := e.2.toNat }) else []
    | _ => [])

/-- Entry i as it applies to a spike of a tick. -/
def Tile.entry (t : Tile) (chg : List RouteChg) (i tick : Nat) : Nat :=
  chg.foldl (fun e c => if c.idx = i ∧ 0 ≤ etsDiff tick c.tick then c.ent else e) (SMap.get 0 t.table i)

/-- Valid entries of a direction that match a key, in ascending index. -/
def State.matches (s : State) (q key tick : Nat) (egress : Bool) : List Nat :=
  let t := (s.quire q).spk
  let chg := t.pend ++ s.stagedRoutes q
  let idx := (t.table.map (·.1)) ++ (chg.map (·.idx)).filter (fun i => !(t.table.any (fun e => decide (e.1 = i))))
  let idx := ((List.range 4096).filter (fun i => idx.contains i))
  (idx.map (fun i => t.entry chg i tick)).filter (fun e =>
    e.testBit 63 && e.testBit 62 == egress && decide (key &&& bitsN e 95 64 = bitsN e 127 96 &&& bitsN e 95 64))

/-- An ingress lookup: each match is a delivery of one row. -/
def State.ingress (s : State) (q word : Nat) : State :=
  let key := word / 2 ^ 32
  let tick := word % 2 ^ 32
  let m := s.matches q key tick false
  let s := s.bump (spkCtr q 9)
  if m.isEmpty then s.spkDrop (s.tileSlip q) (spkCtr q 11)
  else
    let s := if 16 < m.length then s.spkDrop (s.tileSlip q) (spkCtr q 12) (m.length - 16) else s
    s.modTile q (fun t => { t with flight := t.flight ++ (m.take 16).map (fun e =>
      (bitsN e 40 24 + (key &&& (2 ^ 32 - 1 - bitsN e 95 64)) * bitsN e 23 16, tick)) })

/-- The spike ring of a slipcase: its valid SPIKE queue of the lowest function and number, else the one used last (R369). -/
def State.spikeRing (s : State) (n : Nat) : Option Nat :=
  ((s.qps.find? (fun e => e.2.valid && e.2.kind = 5 && decide (s.fnSlip (e.1 / 256) = some n))).map (·.1)).orElse (fun _ => (s.slip n).spikeQ)

/-- A spike record (R255, Table 9.6). -/
def State.spikeRecord (s : State) (q : Nat) (f : Fire) : State :=
  let n := s.tileSlip q
  match s.spikeRing n with
  | none => s.spkDrop n (spkCtr q 15)
  | some k =>
    let age := min (ticksSince f.tick f.tStart) 0xFFFF
    let r := s.packed k 5 n [f.key, f.tick, s.ets, age + min (s.slip n).spkDrops 0xFFFF * 2 ^ 16]
    if r.2 then r.1.modSlip n (fun p => { p with spkDrops := 0, spikeQ := some k })
    else (r.1.modSlip n (fun p => { p with spikeQ := some k })).spkDrop n (spkCtr q 15)

/-- A spike reaches a source port of the crossbar. -/
def State.xbarIn (s : State) (word group slip : Nat) : State :=
  s.modKxb (fun x => { x with src := x.src ++ [{ word := word, group := group, slip := slip }] })

/-- One egress action (R233, R246). -/
def State.egressAct (s : State) (q : Nat) (f : Fire) (e : Nat) : State :=
  let t := (s.quire q).spk
  let delay := bitsN e 48 41
  let w := spkWord f.key (f.tick + s.slipLag (s.tileSlip q) + 1 + delay * (t.dunitM1 + 1))
  let grp := bitsN e 58 49
  let full := fun (s : State) => s.spkDrop (s.tileSlip q) (spkCtr q 14)
  let s := if !e.testBit 61 then s
    else if delay = 0 then s.xbarIn w grp (s.tileSlip q)
    else if 4096 ≤ t.delayQ.length then full s
    else s.modTile q (fun t => { t with delayQ := t.delayQ ++ [(w, grp)] })
  let s := if !e.testBit 60 then s
    else if delay = 0 then s.ingress q w
    else if 4096 ≤ t.loopQ.length then full s
    else s.modTile q (fun t => { t with loopQ := t.loopQ ++ [w] })
  if e.testBit 59 then s.spikeRecord q f else s

/-- An egress lookup. -/
def State.egress (s : State) (q : Nat) (f : Fire) : State :=
  let m := s.matches q f.key f.tick true
  let s := s.bump (spkCtr q 9)
  if m.isEmpty then s.spkDrop (s.tileSlip q) (spkCtr q 10)
  else
    let s := if 16 < m.length then s.spkDrop (s.tileSlip q) (spkCtr q 12) (m.length - 16) else s
    (m.take 16).foldl (fun s e => s.egressAct q f e) s

/-- A hop between FIFOs that takes place before a lookup or copy: destination FIFO d of the crossbar hands its oldest spike to router d
(below 68) or to the spike queue of Spine port d − 68 (68 to 71), or tile d − 128 hands a fired spike to its router. -/
def State.kMove (s : State) (d : Nat) : State :=
  if 128 ≤ d then
    let q := d - 128
    let t := (s.quire q).spk
    match t.fires with
    | [] => s
    | f :: rest =>
      let s := s.modTile q (fun t => { t with fires := rest })
      if 64 ≤ t.tileQ.length then s.spkDrop (s.tileSlip q) (spkCtr q 13) else s.modTile q (fun t => { t with tileQ := t.tileQ ++ [f] })
  else
    match SMap.get [] s.kxb.dst d with
    | [] => s
    | (w, st) :: rest =>
      let s := s.modKxb (fun x => { x with dst := SMap.put [] x.dst d rest })
      if 68 ≤ d then s.strmSpike st (d - 68) (BitVec.ofNat 64 w)
      else if 64 ≤ (s.quire d).spk.xbarQ.length then s.spkDrop (s.tileSlip d) (spkCtr d 13)
      else s.modTile d (fun t => { t with xbarQ := t.xbarQ ++ [w] })

/-- ROUTER_LOOKUP (R245): after the hops, the oldest spike of one of the router's two inputs is looked up. -/
def execRouterLookup (q : BitVec 7) (fromTile : Bool) (hops : List (BitVec 8)) (s : State) : Host.Outcome State Fault Refusal :=
  let s := hops.foldl (fun s d => s.kMove d.toNat) s
  let k := q.toNat
  .next (if fromTile then
    match (s.quire k).spk.tileQ with
    | [] => s
    | f :: rest => ((s.modTile k (fun t => { t with tileQ := rest })).egress k f).modTile k Tile.mergeRoutes
  else
    match (s.quire k).spk.xbarQ with
    | [] => s
    | w :: rest => (s.modTile k (fun t => { t with xbarQ := rest })).ingress k w)

/-- Index of the earliest spike of a delay queue, the first of those of equal tick (R246). -/
def earliest (base : Nat) : List Nat → Nat → Option (Nat × Nat) → Option Nat
  | [], _, b => b.map (·.1)
  | w :: r, i, b =>
    match b with
    | none => earliest base r (i + 1) (some (i, w % 2 ^ 32))
    | some (j, t) => if etsDiff (w % 2 ^ 32) base < etsDiff t base then earliest base r (i + 1) (some (i, w % 2 ^ 32)) else earliest base r (i + 1) (some (j, t))

/-- DELAY_QUEUE_RELEASE (R246): a queue releases its earliest spike once ETS has reached n_i − 1. -/
def execDelayQueueRelease (q : BitVec 7) (loop : Bool) (s : State) : Host.Outcome State Fault Refusal :=
  let k := q.toNat
  let t := (s.quire k).spk
  let due := fun (w : Nat) => decide (etsDiff (w % 2 ^ 32) s.ets ≤ 1)
  .next (if loop then
    match (earliest s.ets t.loopQ 0 none).bind (fun i => (t.loopQ[i]?).map (fun w => (i, w))) with
    | some (i, w) => if due w then (s.modTile k (fun t => { t with loopQ := t.loopQ.eraseIdx i })).ingress k w else s
    | none => s
  else
    match (earliest s.ets (t.delayQ.map (·.1)) 0 none).bind (fun i => (t.delayQ[i]?).map (fun w => (i, w))) with
    | some (i, w) => if due w.1 then (s.modTile k (fun t => { t with delayQ := t.delayQ.eraseIdx i })).xbarIn w.1 w.2 (s.tileSlip k) else s
    | none => s)

/-! ## The crossbar (R247, R251–R253) -/

/-- A copy reaches a destination FIFO, or is dropped XBAR_FULL. -/
def State.xbarPut (s : State) (slip d word stream : Nat) : State :=
  if 64 ≤ (SMap.get [] s.kxb.dst d).length then s.spkDrop slip (kxbB + 0x5000 + 8 * d)
  else (s.bump (kxbB + 0x5480)).modKxb (fun x => { x with dst := SMap.upd [] x.dst d (fun l => l ++ [(word, stream)]) })

/-- Copy a spike to every destination of its group; GROUP_FAULT where the group is not VALID or is another slipcase's. -/
def State.xbarCopy (s : State) (x : XSpike) : State :=
  let g := SMap.get 0 s.kxb.groups x.group
  if !g.testBit 127 ∨ bitsN g 126 121 ≠ x.slip then
    ((s.spkDrop x.slip (kxbB + 0x5488)).orReg (kxbB + 4) 1).fault 0x64 0xB x.slip
  else
    ((bitsSet 68 (bitsN g 67 0)) ++ (bitsSet 4 (bitsN g 71 68)).map (· + 68)).foldl (fun s d => s.xbarPut x.slip d x.word (bitsN g 120 109)) s

/-- KXB_COPY (R247): after the hops, the spike that has waited longest at a source port is copied. -/
def execKxbCopy (hops : List (BitVec 8)) (s : State) : Host.Outcome State Fault Refusal :=
  let s := hops.foldl (fun s d => s.kMove d.toNat) s
  .next (match s.kxb.src with
  | [] => s
  | x :: rest => (s.modKxb (fun k => { k with src := rest })).xbarCopy x)

/-- The key of an event (R251), none where the polarity makes no spike. -/
def attKey (a w x y : Nat) (pol : Bool) : Option Nat :=
  let sx := bitsN a 28 26
  let wb := (w + 2 ^ sx - 1) / 2 ^ sx
  let idx := (y / 2 ^ bitsN a 25 23) * wb + x / 2 ^ sx
  let base := bitsN a 63 32
  match bitsN a 30 29 with
  | 0 => some ((base + idx) % 2 ^ 32)
  | 1 => some ((base + 2 * idx + pol.toNat) % 2 ^ 32)
  | 2 => if pol then some ((base + idx) % 2 ^ 32) else none
  | _ => if pol then none else some ((base + idx) % 2 ^ 32)

/-- ATTACH_SPIKE (R251, R252): the attach port takes the oldest item of its channel and returns its credit. -/
def State.attach (s : State) (n : Nat) : State :=
  match (s.hop n).chans.find? (fun c => c.consumer = .attach) with
  | none => s
  | some c =>
    match c.ribbon.items with
    | [] => s
    | w :: _ =>
      let take := fun (c : HChan) => if c.consumer = .attach then
        ({ c with ribbon := ((c.ribbon.read).2).release 1 } : HChan).drainSpill else c
      let s := s.modHop n (fun h => { h with chans := h.chans.map take })
      let a := SMap.get 0 s.kxb.att n
      let slip := s.portSlip n
      if bitsN w.toNat 63 61 = 1 then s.bump (kxbB + 0x5400 + 8 * n)
      else if !a.testBit 31 ∨ s.rfld (kxbB + 0x100 + 4 * slip) 8 8 = 0 then s
      else match attKey a (s.geomW n) (bitsN w.toNat 47 36) (bitsN w.toNat 59 48) (w.getLsbD 60) with
      | none => s
      | some key => s.xbarIn (spkWord key (w.toNat % 2 ^ 32)) (bitsN a 19 10) slip

def execAttachSpike (n : BitVec 4) (s : State) : Host.Outcome State Fault Refusal := .next (s.attach (s.cfgPort n.toNat))

/-- SPIKES (R254, R463): spikes of a SPIKE stream that is UP enter the crossbar and go to the stream's group; others are dropped. -/
def State.rxSpikes (s : State) (p : Nat) (m : SpMsg) : State :=
  match m.body with
  | .spikes l =>
    let t := s.strm (m.stream % 4096)
    match t.slip with
    | some n =>
      if t.state = 2 ∧ t.spike ∧ t.peer = m.src then l.foldl (fun s w => s.xbarIn w.toNat (t.group % 1024) n) s
      else s.spkDrop n (spnB p + 0x178) l.length
    | none => s.bump (spnB p + 0x178) l.length
  | _ => s

def execSpikes (p : BitVec 2) (m : SpMsg) (s : State) : Host.Outcome State Fault Refusal := .next (s.rxSpikes p.toNat m)

/-! ## The Spiking class (Table 14.8) -/

/-- The quire at an index of a graph's placement, where the graph has a spiking part. -/
def State.spkQuire (s : State) (g qi : Nat) : Option Nat := if (s.graph g).parts.testBit 2 then (s.graph g).quires[qi]? else none

/-- The slipcase owns a group. -/
def State.ownsGroup (s : State) (slip g : Nat) : Bool :=
  let x := SMap.get 0 s.kxb.groups g
  x.testBit 127 && bitsN x 126 121 = slip

/-- SPIKE_ROUTE_SET (R248, R249). -/
def State.spikeRoute (s : State) (h : CmdRef) (f : Fetched) (qi : Nat) (ents : List (BitVec 16 × BitVec 128)) : Res :=
  let g := f.objId.toNat
  let gr := s.graph g
  if s.sealedFor h gr.slip then .err s stNotPermitted 0xD
  else if ents.isEmpty ∨ 16 < ents.length ∨ ents.any (fun e => decide (4096 ≤ e.1.toNat)) then .err s stBadParam 0xF025
  else match s.spkQuire g qi with
  | none => .err s stBadParam 0xF025
  | some q =>
    if gr.state = 1 ∧ !f.atEn then .err s stTransition 2
    else if ents.any (fun e => e.2.getLsbD 63 && e.2.getLsbD 62 && e.2.getLsbD 61 && !s.ownsGroup gr.slip (bitsN e.2.toNat 58 49)) then .err s stNotPermitted 0xB
    else
      let t := (s.quire q).spk
      if gr.state ≠ 1 then .ok (s.modTile q (fun t => { t with table := ents.foldl (fun m e => SMap.put 0 m e.1.toNat e.2.toNat) t.table }))
      else if 64 < t.pend.length + (s.stagedRoutes q).length + ents.length then .err s stNoResource 1
      else .ok (s.modTile q (fun t => { t with pend := t.pend ++ ents.map (fun e => { idx := e.1.toNat, tick := f.atTick.toNat, ent := e.2.toNat }) }))

def execSpikeRouteSet (h : CmdRef) (qi : BitVec 8) (ents : List (BitVec 16 × BitVec 128)) (s : State) : Host.Outcome State Fault Refusal :=
  .next (s.cmd h 0x0701 (.spikeRouteSet h qi ents) (fun s f => s.spikeRoute h f qi.toNat ents))

/-- SPIKE_WEIGHTS (R243): on a running graph the writes apply at the settlement of AT_TICK. -/
def State.spikeWeights (s : State) (h : CmdRef) (f : Fetched) (qi addr n : Nat) (sgl : Sgl) (data : List (BitVec 8)) : Res :=
  let g := f.objId.toNat
  let gr := s.graph g
  if s.sealedFor h gr.slip then .err s stNotPermitted 0xD
  else match s.spkQuire g qi with
  | none => .err s stBadParam 0xF025
  | some q =>
    if addr % 8 ≠ 0 ∨ n % 8 ≠ 0 ∨ 2 ^ 20 < addr + n then .err s stBadParam 3
    else if gr.state = 1 ∧ !f.atEn then .err s stTransition 2
    else match sglErr sgl n with
    | some d => .err s stBadParam d
    | none =>
      let b := data.take n
      if gr.state = 1 then .ok (s.modTile q (fun t => { t with writes := t.writes ++ [{ tick := f.atTick.toNat, addr := addr, bytes := b }] }))
      else .ok (s.modQuire q (fun x => { x with sys := SMap.putAll 0 x.sys addr b }))

def execSpikeWeights (h : CmdRef) (qi : BitVec 8) (addr bytes : BitVec 32) (sgl : Sgl) (data : List (BitVec 8)) (s : State) : Host.Outcome State Fault Refusal :=
  .next (s.cmd h 0x0702 (.spikeWeights h qi addr bytes sgl data) (fun s f => s.spikeWeights h f qi.toNat addr.toNat bytes.toNat sgl data))

/-- SPIKE_STATE_READ (R239): the read of AT_TICK is noted and answered by that tick's settlement; a tile that does not settle has the
states of its last settlement. -/
def State.spikeRead (s : State) (h : CmdRef) (f : Fetched) (qi first count : Nat) (sgl : Sgl) (tau : Nat) : Res :=
  let g := f.objId.toNat
  if s.sealedFor h (s.graph g).slip then .err s stNotPermitted 0xD
  else match s.spkQuire g qi with
  | none => .err s stBadParam 0xF025
  | some q =>
    if count = 0 ∨ 8192 < first + count then .err s stBadParam 3
    else if tau + 1 < (s.quire q).spk.next then .err s stBadParam 4
    else match sglErr sgl (12 * count) with
    | some d => .err s stBadParam d
    | none =>
      let t := (s.quire q).spk
      if t.en then .later (s.modTile q (fun t => { t with reads := t.reads ++ [{ ref := h, tick := tau % 2 ^ 32, first := first, count := count }] }))
      else .ok (s.sglWrite h ((t.stateBytes first count).map (·.toNat)))

def execSpikeStateRead (h : CmdRef) (qi : BitVec 8) (first count : BitVec 16) (sgl : Sgl) (s : State) : Host.Outcome State Fault Refusal :=
  .next (s.cmdAt h 0x0703 (.spikeStateRead h qi first count sgl) (fun s f d => s.spikeRead h f qi.toNat first.toNat count.toNat sgl (s.tim.tick + d)))

/-! ## Loading and ending a spiking part (R235, R248) -/

/-- A neuron from its package word, loaded in a tick. -/
def neuronOf (w : BitVec 96) (tick : Nat) : Neuron :=
  { v := sext 16 (bitsN w.toNat 63 48), cls := bitsN w.toNat 47 44, fired := w.getLsbD 43, en := w.getLsbD 42, fresh := true,
    tLast := tick % 2 ^ 32, tStart := tick % 2 ^ 32 }

/-- Load a tile (R235). -/
def State.loadTile (s : State) (q : Nat) (i : SpkTileInit) : State :=
  s.modTile q (fun t => { t with
    keyBase := i.keyBase / 8192 * 8192, dunitM1 := i.dunitM1 % 64,
    neurons := i.neurons.foldl (fun m p => SMap.put {} m (p.1 % 8192) (neuronOf p.2 s.tim.tick)) [],
    classes := SMap.putAll classReset [] 0 ((i.classes.take 16).map (·.toNat)),
    table := i.routes.foldl (fun m p => SMap.put 0 m (p.1 % 4096) p.2.toNat) [] })

/-- The word of a group on a placement. -/
def SpkGroup.word (g : SpkGroup) (slip : Nat) (qs : List Nat) : Nat :=
  maskOf (g.quires.filterMap (fun i => qs[i]?) ++ g.others).eraseDups % 2 ^ 68 + g.spine % 16 * 2 ^ 68 + g.stream % 4096 * 2 ^ 109 + slip % 64 * 2 ^ 121 + 2 ^ 127

/-- R248 against a slipcase with its quires and the part's placement. -/
def State.spkForeign (s : State) (slip : Nat) (qs : List Nat) (p : SpkPart) : Bool :=
  p.groups.any (fun g =>
    (let x := SMap.get 0 s.kxb.groups (g.num % 1024); x.testBit 127 && decide (bitsN x 126 121 ≠ slip)) ||
    g.quires.any (fun i => (qs[i]?).isNone) || g.others.any (fun q => !(s.slip slip).quires.contains q) ||
    (decide (g.spine % 16 ≠ 0) && !((s.strm (g.stream % 4096)).spike && decide ((s.strm (g.stream % 4096)).state ≠ 0) && decide ((s.strm (g.stream % 4096)).slip = some slip)))) ||
  p.tiles.any (fun t => t.routes.any (fun e => e.2.getLsbD 63 && e.2.getLsbD 62 && e.2.getLsbD 61 &&
    !(s.ownsGroup slip (bitsN e.2.toNat 58 49) || p.groups.any (fun g => decide (g.num % 1024 = bitsN e.2.toNat 58 49)))))

/-- BAD_PARAM of R235. -/
def SpkPart.classBad (p : SpkPart) : Bool := p.tiles.any (fun t => t.classes.any (fun c => clBad c.toNat))

/-- Load a spiking part: tiles, groups, LAG and attach ports, whose channels open. -/
def State.loadSpk (s : State) (slip : Nat) (qs : List Nat) (p : SpkPart) : State :=
  let s := p.tiles.foldl (fun s t => match qs[t.quire]? with | some q => s.loadTile q t | none => s) s
  let s := s.modKxb (fun x => { x with groups := p.groups.foldl (fun m g => SMap.put 0 m (g.num % 1024) (SpkGroup.word g slip qs)) x.groups })
  let s := s.setRfld (kxbB + 0x100 + 4 * slip) 7 0 (p.lag - 1)
  p.atts.foldl (fun s a =>
    let n := s.cfgPort (a.1 % 16)
    let s := s.modKxb (fun x => { x with att := SMap.put 0 x.att n a.2.toNat })
    if a.2.getLsbD 31 then s.modHop n (fun h => { h with chans := (h.chans.filter (fun c => decide (c.consumer ≠ .attach))) ++ [{ consumer := .attach, endSent := h.nextEnd }] })
    else s) s

/-- The tiles of a graph begin with tick t, and spiking is enabled for its slipcase. -/
def State.startSpk (s : State) (slip : Nat) (qs : List Nat) (t : Nat) : State :=
  qs.foldl (fun s q => s.modTile q (fun x => { x with en := true, next := t, sweepDue := false })) (s.setRfld (kxbB + 0x100 + 4 * slip) 8 8 1)

/-- The tiles of a graph stop: what waits in them and their routers is discarded, and reads that wait are answered with the states as
they stand. Spiking is disabled for the slipcase when no other of its spiking graphs runs. -/
def State.stopSpk (s : State) (slip : Nat) (qs : List Nat) (others : Bool) : State :=
  let s := qs.foldl (fun s q =>
    let s := (s.quire q).spk.reads.foldl (fun s r => (s.sglWrite r.ref (((s.quire q).spk.stateBytes r.first r.count).map (·.toNat))).complete r.ref 0 0) s
    s.modTile q (fun t => { t with
      en := false, buf := [], flight := [], fires := [], tileQ := [], xbarQ := [], loopQ := [], delayQ := [], reads := [],
      writes := [], sweepDue := false, table := t.pend.foldl (fun m c => SMap.put 0 m c.idx c.ent) t.table, pend := [] })) s
  if others then s else s.setRfld (kxbB + 0x100 + 4 * slip) 8 8 0

/-- The router of a retired quire gives place to the spare's in every group (R250). -/
def State.moveRouter (s : State) (old new : Nat) : State :=
  s.modKxb (fun x => { x with groups := SMap.mapAll 0 x.groups (fun _ g => if g.testBit old then (g - 2 ^ old) ||| 2 ^ new else g) })

end Sys2Proof.Machine
end

