-- ==== Sys2Proof/Machine/Recover.lean ====
section
/-! DEFINITION. Recovery of quires: scrub, retirement and takeover (R144–R148, R486), PAIRED protection (R477–R483) and known-answer
tests (R484). -/
namespace Sys2Proof.Machine

/-! ## The fault record of a recovery -/

/-- Microseconds since a tick. -/
def State.usSince (s : State) (tick : Nat) : Nat := (s.tim.tick - tick) * s.tickLen / 1000

/-- A recovery of a source has ended: its latest open record gets RECOVERY_US and flags, and its causes are present no more. -/
def State.recovered (s : State) (source : Nat) (flags : BitVec 8) : State :=
  let i := (List.range 64).find? (fun i =>
    let r := SMap.get ({} : FaultRec) s.si.flog ((s.si.flogHead + 63 - i) % 64)
    decide (r.source = source ∧ r.recoveryUs = 0xFFFFFFFF ∧ r.cause ≠ 0))
  let s := match i with
    | some i => s.modSi (fun x => { x with flog := SMap.upd {} x.flog ((x.flogHead + 63 - i) % 64) (fun r =>
        { r with recoveryUs := s.usSince r.tick, flags := r.flags ||| flags }) })
    | none => s
  s.endCause (fun p => decide (p.source = source) && !condCause p.cause && p.reaction != 4 && !(decide (p.slip < 64) && (s.slip p.slip).state == 2))

/-! ## Spares (R145–R148) -/

/-- A quire's cluster domain is powered. -/
def State.clusterOn (s : State) (q : Nat) : Bool := decide (s.dom (25 + q / 4) ≠ 0)

/-- Step 3 of Table 5.7: the lowest-numbered spare in the same cluster, else in a powered cluster, else any. -/
def State.pickSpare (s : State) (q : Nat) : Option Nat :=
  let sp := (List.range 68).filter (fun i => decide (s.qState i = 0) && (s.quire i).slip.isNone)
  ((sp.find? (fun i => decide (i / 4 = q / 4))).orElse (fun _ => sp.find? (fun i => s.clusterOn i))).orElse (fun _ => sp.head?)

/-- Spares left. -/
def State.spares (s : State) : Nat := ((List.range 68).filter (fun i => decide (s.qState i = 0))).length

/-- Put one quire in the place of another, in its slipcase, the graphs' placements and the pairs. -/
def State.swapQuire (s : State) (q r : Nat) : State :=
  let f := fun (l : List Nat) => l.map (fun x => if x = q then r else x)
  let s := { s with slips := SMap.mapAll {} s.slips (fun _ p => { p with quires := f p.quires }),
                    graphs := SMap.mapAll {} s.graphs (fun _ g => { g with quires := f g.quires, partners := f g.partners }) }
  s.modSi (fun x => { x with pairs := x.pairs.map (fun p =>
    { p with primary := if p.primary = q then r else p.primary, partner := if p.partner = q then r else p.partner }) })

/-- A quire is RETIRED (R147): scrubbed and out of its slipcase; the live map changes. -/
def State.retireQuire (s : State) (q : Nat) : State :=
  let s := s.modQuire q (fun x => { x.scrub with state := some 3, slip := none })
  s.modSi (fun x => { x with liveGen := x.liveGen + 1, recover := x.recover.filter (fun p => decide (p.1 ≠ q)), takeover := x.takeover.filter (fun p => decide (p.1 ≠ q)) })

/-- The spare joins the slipcase and takes the quire's channels, kernels and settings (step 4). -/
def State.loadSpare (s : State) (q r : Nat) : State :=
  let x := s.quire q
  s.modQuire r (fun y => { y.scrub with slip := x.slip, chans := x.chans, kernels := x.kernels, contractStep := x.contractStep, target := x.target,
                                        adaptive := x.adaptive, ae0 := { base := x.ae0.base, log2n := x.ae0.log2n }, ae1 := { base := x.ae1.base, log2n := x.ae1.log2n } })

/-- Drop a retired quire from its slipcase where no spare takes its place (R148). -/
def State.shrinkSlip (s : State) (q : Nat) : State :=
  { s with slips := SMap.mapAll {} s.slips (fun _ p => { p with quires := p.quires.filter (fun x => decide (x ≠ q)) }) }

/-- Retirement of a failed quire (R146): a spare is loaded, or the quire goes without replacement. -/
def State.retire (s : State) (q : Nat) : State :=
  let s := s.quireConFault q 3
  match s.pickSpare q with
  | some r => (s.loadSpare q r).modSi (fun x => { x with takeover := x.takeover ++ [(q, r)] })
  | none => (((s.retireQuire q).shrinkSlip q).recovered q 6).modSi (fun x => { x with replan := true })

/-- QUIRE_RETIREMENT (R146): of a quire the Safety Island has reported as failed. -/
def execQuireRetirement (q : BitVec 7) (s : State) : Host.Outcome State Fault Refusal :=
  let n := q.toNat
  .next (if s.qState n = 2 ∧ s.si.recover.any (fun p => p.1 = n && p.2) ∧ !s.si.takeover.any (fun p => p.1 = n) then s.retire n else s)

/-- QUIRE_SCRUB (R144): a quire that is kept after a fault, or one that serves no slipcase. A kept quire is then ready to take over. -/
def execQuireScrub (q : BitVec 7) (s : State) : Host.Outcome State Fault Refusal :=
  let n := q.toNat
  .next (if s.qState n = 2 ∧ s.si.recover.any (fun p => p.1 = n && !p.2) then
    (s.modQuire n (fun x => { x.scrub with chans := x.chans, kernels := x.kernels })).modSi
      (fun x => { x with takeover := if x.takeover.any (fun p => p.1 = n) then x.takeover else x.takeover ++ [(n, n)] })
  else if s.qState n ≠ 1 ∨ (s.quire n).slip.isNone then s.modQuire n Quire.scrub
  else s)

/-! ## Known-answer tests (R484) -/

/-- A quire serves a graph that is being rebased. -/
def State.rebasing (s : State) (q : Nat) : Bool :=
  s.graphs.any (fun e => e.2.quires.contains q && (e.2.delta.bind (·.reb)).isSome)

/-- Units that run a test: active quires (with their tile and router), or one under recovery, and the chip-level units. -/
def State.katUnit (s : State) (source : Nat) : Bool :=
  if source < 68 then decide (s.qState source = 1) || s.si.recover.any (fun p => p.1 = source) else decide (0x64 ≤ source ∧ source ≤ 0x68)

/-- The slipcase of a unit that is a quire. -/
def State.unitSlip (s : State) (source : Nat) : Nat := if source < 68 then (s.quire source).slip.getD 0xFF else 0xFF

/-- KAT_RUN: the test of a unit, with its result and, where it fails, the failing engine. During a rebase of its quire it is deferred,
once per interval (R491). A test that fails during recovery, or in a slipcase under a scrub, retires the quire (R410, R486). -/
def execKatRun (source : BitVec 8) (pass : Bool) (engine : BitVec 8) (s : State) : Host.Outcome State Fault Refusal :=
  let u := source.toNat
  .next (if !s.katUnit u then s
  else if u < 68 ∧ s.rebasing u ∧ !s.si.katDeferred.contains u then s.modSi (fun x => { x with katDeferred := x.katDeferred ++ [u] })
  else
    let s := s.modSi (fun x => { x with katAt := SMap.put 0 x.katAt u s.tim.systime, katDeferred := x.katDeferred.filter (fun v => decide (v ≠ u)) })
    let s := s.bump (simB + 0x420)
    if pass then s
    else
      let again := s.si.recover.any (fun p => p.1 = u)
      let scr := decide (u < 68) && s.scrubbing (s.unitSlip u)
      let s := (s.bump (simB + 0x428)).modSi (fun x => { x with traces := if u < 68 then x.traces ++ [(u, s.tim.tick)] else x.traces })
      let s := s.faultFull { source := u, cause := 2, slip := s.unitSlip u, info := engine.toNat, partner := 0xFF, recoveryUs := 0xFFFFFFFF,
                             flags := if again ∨ scr then 2 else 0 } 0
      if again then s.modSi (fun x => { x with recover := x.recover.map (fun p => if p.1 = u then (u, true) else p) })
      else if scr then (s.modQuire u Quire.fence).modSi (fun x => { x with recover := x.recover ++ [(u, true)] })
      else s)

/-! ## PAIRED protection (R477–R483) -/

def Si.modPair (x : Si) (primary : Nat) (f : Pair → Pair) : Si :=
  { x with pairs := x.pairs.map (fun p => if p.primary = primary then f p else p) }

/-- A quire shows a self-check trace in local ticks n to n + 2 (R481). -/
def Si.traced (x : Si) (q n : Nat) : Bool := x.traces.any (fun t => decide (t.1 = q ∧ n ≤ t.2 ∧ t.2 ≤ n + 2))

/-- The quire to which a mismatch is attributed (R478, R481): by drop counts, by traces, else by the diagnostic tests. -/
def State.attribute (s : State) (p : Pair) (n dropA dropB : Nat) (passA passB : Bool) : Option (Nat × Bool) :=
  if dropA ≠ dropB then some (if dropB < dropA then (p.primary, false) else (p.partner, false))
  else
    match s.si.traced p.primary n, s.si.traced p.partner n with
    | true, false => some (p.primary, false)
    | false, true => some (p.partner, false)
    | _, _ =>
      match passA, passB with
      | false, true => some (p.primary, true)
      | true, false => some (p.partner, true)
      | _, _ => none

/-- The fault of a mismatch: the pair, not the unit's own recovery, holds the quire. -/
def State.pairFault (s : State) (p : Pair) (source n : Nat) (flags : BitVec 8) : State :=
  let f : FaultRec := { source := source, cause := 1, slip := s.unitSlip source, partner := if source = p.primary then p.partner else p.primary,
                        contract := p.contract, info := n % 2 ^ 32, flags := flags, recoveryUs := 0xFFFFFFFF }
  let s := s.faultFull f 0
  s.modSi (fun x => { x with recover := x.recover.filter (fun y => decide (y.1 ≠ p.primary ∧ y.1 ≠ p.partner)) })

/-- A mismatch of tick n (R481–R483). -/
def State.mismatch (s : State) (p : Pair) (n dropA dropB : Nat) (passA passB : Bool) : State :=
  let s := (s.bump (simB + 0x408)).modSi (fun x => x.modPair p.primary (fun p => { p with recovering := true }))
  match (if p.recovering then none else s.attribute p n dropA dropB passA passB) with
  | some (q, failed) =>
    let times := p.lastMis ++ [(q, s.tim.systime)]
    let recent := times.filter (fun t => decide (t.1 = q ∧ s.tim.systime < t.2 + 1000000000))
    let ret := failed || decide (3 ≤ recent.length)
    let other := if q = p.primary then p.partner else p.primary
    let s := s.pairFault p q n (1 ||| (if failed then 2 else 0) ||| (if ret then 4 else 0))
    let s := s.modQuire q Quire.fence
    s.modSi (fun x => x.modPair p.primary (fun p => { p with attributed := some q, retire := ret, sole := some other, lastMis := recent }))
  | none =>
    let s := (s.bump (simB + 0x410)).pairFault p p.primary n 16
    let s := (s.modQuire p.primary Quire.fence).modQuire p.partner Quire.fence
    s.modSi (fun x => x.modPair p.primary (fun p => { p with attributed := none, retire := false, sole := none }))

/-- PAIR_COMPARE (R478): at the start of local tick n + 2, the signatures and drop counts of tick n, a missing signature as none, and
the results of the diagnostic tests where traces do not decide. -/
def execPairCompare (primary : BitVec 7) (n : BitVec 64) (sigA sigB : Option (BitVec 64)) (dropA dropB : BitVec 32) (passA passB : Bool) (s : State) :
    Host.Outcome State Fault Refusal :=
  .next (match s.si.pairs.find? (fun p => p.primary = primary.toNat) with
  | none => s
  | some p =>
    if s.tim.tick < n.toNat + 2 ∨ p.sole.isSome then s
    else if sigA.isSome ∧ sigA = sigB ∧ dropA = dropB then
      s.modSi (fun x => x.modPair p.primary (fun p => { p with passed := max p.passed (n.toNat + 1) }))
    else s.mismatch p n.toNat dropA.toNat dropB.toNat passA passB)

end Sys2Proof.Machine
end

