-- ==== Sys2Proof/Machine/SafeCmd.lean ====
section
/-! DEFINITION. The Safety class and the events of the Safety Island (18). -/
namespace Sys2Proof.Machine

/-! ## State of the Safety Island (Table 18.8) -/

/-- DEGRADED: fewer than 64 active quires, or a Spine link narrower than four lanes (R36, R38). -/
def State.degraded (s : State) : Bool :=
  decide (((List.range 68).filter (fun i => decide (s.qState i = 1))).length < 64) || s.sps.any (fun e => decide (e.2.width < 4))
/-- SPARES_EXHAUSTED: no spare is left, and a quire or lane has gone without replacement (Table 22.5, R148). -/
def State.exhausted (s : State) : Bool := decide (s.spares = 0) && s.degraded

/-- STATE of SI_STATUS. -/
def State.siState (s : State) : Nat :=
  if s.si.devFault then 3
  else if s.si.safe then 2
  else if !s.si.recover.isEmpty ∨ !s.si.rerun.isEmpty ∨ s.si.cpDown ∨ s.si.pairs.any (·.recovering) then 1 else 0

/-- FLAGS of SAFETY_QUERY. -/
def State.safetyFlags (s : State) : Nat :=
  s.si.pins.toNat + 2 * s.si.pins.toNat + 4 * s.degraded.toNat + 8 * s.exhausted.toNat + 16 * s.si.safeReq.toNat

/-- SAFETY_QUERY: a VF receives FLAGS only. -/
def execSafetyQuery (h : CmdRef) (s : State) : Host.Outcome State Fault Refusal :=
  .next (s.cmd h 0x8B01 (.safetyQuery h) (fun s _ =>
    if h.fn = 0 then .ok s (result [(s.siState, 1), (s.safetyFlags, 1), (s.spares, 1), (0, 1), ((s.reg (simB + 0x20)).toNat, 8)])
    else .ok s (result [(0, 1), (s.safetyFlags, 1)])))

/-- KAT_INTERVAL_SET (R484). -/
def State.katSet (s : State) (ms : Nat) : Res :=
  if ms = 0 ∨ 100 < ms then .err s stBadParam 0xF025 else .ok (s.setReg (simB + 0x14) (BitVec.ofNat 64 ms))

def execKatIntervalSet (h : CmdRef) (ms : BitVec 8) (s : State) : Host.Outcome State Fault Refusal :=
  .next (s.cmd h 0x0B01 (.katIntervalSet h ms) (fun s _ => s.katSet ms.toNat))

/-- SAFE_STATE_CLEAR (R489, R495): no pin-asserting cause is present; after a reset no cause at all, and the self-test has passed. -/
def State.safeClear (s : State) : Res :=
  if s.si.dead ∨ s.si.present.any (fun p => s.assertsPins p.reaction) ∨ (s.si.fresh ∧ (!s.si.testOk ∨ !s.si.present.isEmpty)) then .err s stTransition 1
  else .ok ((s.modSi (fun x => { x with fresh := false, safe := false })).releasePins)

def execSafeStateClear (h : CmdRef) (s : State) : Host.Outcome State Fault Refusal :=
  .next (s.cmd h 0x0B02 (.safeStateClear h) (fun s _ => s.safeClear))

/-- Source numbers of Table 18.3 that name a unit. -/
def sourceOk (n : Nat) : Bool := n ≤ 0x74 || n = 0x80 || n = 0x81 || n = 0xF0 || n = 0xFF

/-- FAULT_INJECT (R387): a fault of the source; its cause is not stated, so a free value chooses it. -/
def State.injectFault (s : State) (source : Nat) : Res :=
  if !(s.sec.life = 1 || s.sec.dbgOpen) then .err s stNotPermitted 2
  else if !sourceOk source then .err s stBadParam 0xF025
  else
    let (v, s) := s.take
    .ok (s.fault source (v % 29 + 1) (s.unitSlip source))

def execFaultInject (h : CmdRef) (source : BitVec 8) (s : State) : Host.Outcome State Fault Refusal :=
  .next (s.cmd h 0x0B04 (.faultInject h source) (fun s _ => s.injectFault source.toNat))

/-! ## Configuration (R475, R498) -/

/-- SI_LOCK. -/
def State.siLocked (s : State) : Bool := s.rfld (simB + 0x18) 0 0 = 1

/-- SI_REACT_c: below the minimum the minimum is stored; a reserved value, or a locked register, changes nothing. -/
def State.wrReact (s : State) (c v : Nat) : State :=
  if c = 0 ∨ 29 < c ∨ s.siLocked ∨ 4 < v % 8 then s else s.setRfld (simB + 0x100 + 4 * c) 2 0 (max (v % 8) (reactOf c).2)

def execSiReact (c : BitVec 5) (v : BitVec 32) (s : State) : Host.Outcome State Fault Refusal := .next ((s.touch 0 (simB + 0x100 + 4 * c.toNat)).wrReact c.toNat v.toNat)

/-- SI_LOCK: W1S. -/
def execSiLock (s : State) : Host.Outcome State Fault Refusal := .next ((s.touch 0 (simB + 0x18)).setRfld (simB + 0x18) 0 0 1)

/-! ## Faults and supervision (R472, R474) -/

/-- The error bit that the unit itself sets on detecting a fault that no command of its own reports: BANK_ECC_UNCORR of a quire
(R123), ECC_UNCORR of the memory controller (R545), and RIBBON_UNDERRUN of a quire or of a port (R88). -/
def State.errBits (s : State) (source cause : Nat) : State :=
  if cause = 3 ∧ source < 68 then s.orReg (qrB source + 0xC) 2
  else if cause = 3 ∧ source = 0x69 then s.orReg (mcB + 4) 2
  else if cause = 6 ∧ source < 68 then s.orReg (qrB source + 0xC) 4
  else if cause = 6 ∧ source < 0x54 then s.orReg (hopB (source - 0x44) + 0x48) 2
  else s

/-- INTERNAL_FAULT: a class-7 item with its source, cause, slipcase (0xFF for none) and INFO. Reserved causes have no reaction. -/
def execInternalFault (source cause slip : BitVec 8) (info : BitVec 32) (s : State) : Host.Outcome State Fault Refusal :=
  .next (if cause = 0 ∨ 0x1D < cause.toNat then s
    else (s.errBits source.toNat cause.toNat).fault source.toNat cause.toNat slip.toNat info.toNat)

/-- LOCKSTEP_UNIT (R487): DPP, FU or TM; a second mismatch on the same rerun is SAFE, and the unit's results are INVALID until device
reset. -/
def execLockstepUnit (source : BitVec 8) (slip : BitVec 8) (s : State) : Host.Outcome State Fault Refusal :=
  let u := source.toNat
  .next (if u < 0x65 ∨ 0x67 < u then s
  else
    let again := s.si.rerun.contains u
    let f : FaultRec := { source := u, cause := 7, slip := slip.toNat, partner := 0xFF, recoveryUs := 0xFFFFFFFF, flags := if again then 2 else 0 }
    let s := s.faultFull f (if again then 3 else 0)
    if again then s.modSi (fun x => { x with rerun := x.rerun.filter (fun v => decide (v ≠ u)), unitBad := if x.unitBad.contains u then x.unitBad else x.unitBad ++ [u] })
    else s)

/-- A rerun of a unit has ended. -/
def State.rerunEnd (s : State) (u : Nat) : State :=
  if s.si.rerun.contains u then (s.modSi (fun x => { x with rerun := x.rerun.filter (fun v => decide (v ≠ u)) })).recovered u 0 else s

/-- CP_WATCHDOG: ten consecutive heartbeats missed. -/
def execCpWatchdog (s : State) : Host.Outcome State Fault Refusal := .next (s.fault 0x6F 0x11 0xFF)

/-- The hardware path of SI_LOCKSTEP and SI_WATCHDOG: the pins, and no further part of the SI until device reset. -/
def State.siDead (s : State) (cause : Nat) : State :=
  (s.modSi (fun x => ({ x with dead := true, devFault := true }).addPresent { cause := cause, source := 0xF0, slip := 0xFF, reaction := 4 })).assertPins

def execSiWatchdog (s : State) : Host.Outcome State Fault Refusal := .next (s.siDead 0x1D)
def execSiLockstep (s : State) : Host.Outcome State Fault Refusal := .next (s.siDead 0x1C)

/-- CLOCK_MON: a PLL more than 2 % off, or a crystal or oscillator check that failed (R521); a stopped time oscillator stops SYSTIME. -/
def execClockMon (oscillator : Bool) (s : State) : Host.Outcome State Fault Refusal :=
  let s := if oscillator then s.modTim (fun t => { t with stopped := true }) else s
  .next (s.fault 0x72 0x15 0xFF)

/-- Operating window and absolute maximum of a rail in mV (R577, Tables 23.4 and 23.7): VDD_AON, VDD_CORE, VDD_SRAM, VDD_PHY, VDDIO,
VDD_FIELD; the lower maximum is −300. The LPDDR5X rails have those of their standard: none here. -/
def rail (r : Nat) : Option (Nat × Nat × Nat) :=
  match r with
  | 0 => some (3135, 3465, 3900) | 1 => some (920, 980, 1050) | 2 => some (820, 880, 950) | 3 => some (730, 770, 850)
  | 4 => some (1710, 1890, 1980) | 5 => some (3135, 3465, 3900) | _ => none

/-- The RAIL_EN that switches a rail (Table 23.4); 0: none does. -/
def railEn (r : Nat) : Nat := match r with | 0 => 0 | 1 => 1 | 2 => 1 | 3 => 2 | 4 => 2 | 5 => 2 | _ => 3

/-- SUPPLY_MON: a rail at a voltage for 1 µs, or a falling PWR_GOOD, while its RAIL_EN is asserted and the Safety Island is powered. A device
beyond the absolute maximum ratings has no stated behaviour (R579). -/
def execSupplyMon (r : BitVec 3) (mv : Int) (goodFell : Bool) (s : State) : Host.Outcome State Fault Refusal :=
  let n := railEn r.toNat
  let excess := (rail r.toNat).any (fun w => decide (mv < -300 ∨ (w.2.2 : Int) < mv))
  let out := (rail r.toNat).any (fun w => decide (mv < (w.1 : Int) ∨ (w.2.1 : Int) < mv))
  let fell := goodFell && decide (0 < n)
  if excess then .fault .overstress
  else
    let s := if fell then s.modPwr (fun p => { p with good := p.good &&& (7 - 2 ^ (n - 1)) }) else s
    .next (if s.dom 1 = 2 ∧ (fell ∨ out) then s.fault 0x72 0x16 0xFF else s)

/-- THERMAL (R585): the hottest junction in 0.1 °C; raised at 115 °C, present until below 105 °C. -/
def execThermal (tempC : Int) (s : State) : Host.Outcome State Fault Refusal :=
  let now := s.tim.systime
  let s := s.modPwr (fun p => { p with tempC := tempC, temps := (now, tempC) :: p.temps.filter (fun x => decide (now < x.1 + 1000000000)) })
  .next (if 1150 ≤ tempC then (if s.si.present.any (fun p => p.cause = 0x17) then s else s.fault 0x72 0x17 0xFF)
  else if tempC < 1050 then s.endCause (fun p => p.cause = 0x17) else s)

/-! ## SAFE_IN (R490) -/

/-- Levels of an input: 0 low, 1 high, others inside the hysteresis band. A sample shows a request. -/
def safeReqSample (a b : Nat) : Bool := !(a = 0 && b = 1)
/-- The two inputs disagree: one shows a request and the other none. -/
def safeDisagree (a b : Nat) : Bool := decide (a = 0) != decide (b = 1)

/-- Every running graph is to stop at the next tick: no record with a later reference tick is issued until PF0 starts it. -/
def State.safeStop (s : State) : State :=
  if s.rfld (simB + 0xC) 31 31 = 1 then
    { s with graphs := SMap.mapAll {} s.graphs (fun _ g => if g.exist && g.state = 1 then { g with stopAfter := some (s.tim.tick + 1) } else g) }
  else s

/-- One sample of the pair, every 250 ns: counts requests in a row and valid non-request levels, and disagreement. -/
def State.safeSample (s : State) (a b : Nat) : State :=
  let now := s.tim.systime
  let rq := safeReqSample a b
  let dis := safeDisagree a b
  let s := if dis then s else s.endCause (fun p => p.cause = 0x19)
  s.modSi (fun x => { x with safeRun := if rq then x.safeRun + 1 else 0, validAt := if rq then none else some (x.validAt.getD now),
                             disagreeAt := if dis then some (x.disagreeAt.getD now) else none })

/-- Start domain 1 where it is OFF (R520). -/
def State.wakeSi (s : State) : State := if s.dom 1 = 2 then s else ((s.bump (pwrB + 0x200)).trace 0x72 0xFF 6 [2]).power [1]

/-- SAFE_IN_REQ: the second sample in a row that shows a request raises it. -/
def execSafeInReq (a b : BitVec 2) (s : State) : Host.Outcome State Fault Refusal :=
  let s := s.safeSample a.toNat b.toNat
  let s := if 2 ≤ s.si.safeRun ∧ !s.si.safeReq then s.wakeSi else s
  .next (if 2 ≤ s.si.safeRun ∧ !s.si.safeReq then
    (((s.modSi (fun x => { x with safeReq := true })).bump (simB + 0x448)).fault 0xFF 0x18 0xFF).safeStop
  else s)

/-- SAFE_IN_DISAGREE: for more than 10 µs. -/
def execSafeInDisagree (a b : BitVec 2) (s : State) : Host.Outcome State Fault Refusal :=
  let s := s.safeSample a.toNat b.toNat
  .next (if s.si.disagreeAt.any (fun t => decide (t + 10000 < s.tim.systime)) ∧ !s.si.present.any (fun p => p.cause = 0x19) then s.fault 0xFF 0x19 0xFF else s)

/-- SAFEIN_RELEASE in ns. -/
def State.safeRelease (s : State) : Nat := max 1 (s.rfld (simB + 0xC) 15 0) * 1000

/-- SAFE_IN_RELEASE: both inputs valid and non-requesting for SAFEIN_RELEASE. -/
def execSafeInRelease (a b : BitVec 2) (s : State) : Host.Outcome State Fault Refusal :=
  let s := s.safeSample a.toNat b.toNat
  .next (if s.si.safeReq ∧ s.si.validAt.any (fun t => decide (t + s.safeRelease ≤ s.tim.systime)) then
    (s.modSi (fun x => { x with safeReq := false })).endCause (fun p => p.cause = 0x18)
  else s)

/-- FAULT_PIN (R489): the readback of FAULT_A and FAULT_B against what is driven: asserted is A low and B high. -/
def execFaultPin (a b : Bool) (s : State) : Host.Outcome State Fault Refusal :=
  let bad := decide (a = s.si.pins) || decide (b ≠ s.si.pins)
  let was := s.si.pinBad
  let s := s.modSi (fun x => { x with pinBad := bad })
  .next (if bad ∧ !was then s.fault 0x74 0x1A 0xFF else if !bad ∧ was then s.endCause (fun p => p.cause = 0x1A) else s)

/-- SI_AUTO_RESET (R493): its time after a DEVICE reaction has come. -/
def execSiAutoReset (s : State) : Host.Outcome State Fault Refusal :=
  .next (if s.si.autoAt.any (fun t => decide (t ≤ s.tim.systime)) ∧ !s.si.dead then { s with resetDue := true } else s)

end Sys2Proof.Machine
end

