-- ==== Sys2Proof/Machine/Dpp.lean ====
section
/-! DEFINITION. The Detection Post-Processor (08, R223–R228): scoring, decoding, selection and suppression in FP32, and DPP_JOB. -/
namespace Sys2Proof.Machine

/-! ## FP32 operations, each rounded once (R224) -/

def f32add (a b : FV) : FV := (a.add b).r32
def f32sub (a b : FV) : FV := (a.add b.neg).r32
def f32mul (a b : FV) : FV := (a.mul b).r32
def f32div (a b : FV) : FV := (a.div b).r32
def f32nat (n : Nat) : FV := (FV.ofInt n).r32
def f32of (x : Nat) : FV := fmtDec 0xA x
def f32bits (v : FV) : Nat := fpEnc 0xA fp32 true v
def fHalf : FV := .num false 1 2
def fTwo : FV := .num false 2 1

/-! ## Descriptors (Tables 8.6, 8.7) -/

/-- Bytes [o, o + n) of a job or level descriptor. -/
def jf (l : List (BitVec 64)) (o n : Nat) : Nat := lf l (o / 8) (o % 8 * 8 + 8 * n - 1) (o % 8 * 8)

/-- A level of a job: its layer's geometry and its fields. -/
structure DppLevel where
  idx    : Nat
  layer  : Nat
  fmt    : Nat
  anch   : Nat
  base   : Nat
  stride : FV
  scale  : FV
  zp     : Int

def dppLevel (i : Nat) (l : List (BitVec 64)) : DppLevel :=
  { idx := i, layer := jf l 0 1, fmt := jf l 1 1, anch := jf l 2 1, base := jf l 3 1, stride := f32of (jf l 4 4), scale := f32of (jf l 8 4), zp := sext 16 (jf l 0xC 2) }

/-- A candidate and what is reported of it. -/
structure Cand where
  idx   : Nat
  cls   : Nat
  score : FV
  lev   : DppLevel
  gx    : Nat
  gy    : Nat
  anc   : Nat
  box   : FV × FV × FV × FV := (.nan, .nan, .nan, .nan)

/-! ## Scores (R224, Table 8.6) -/

/-- A tensor value, dequantised where INT8. -/
def State.dppVal (s : State) (g : Graph) (d : Readout) (v : DppLevel) (x y c : Nat) : FV :=
  let t := s.planar g d v.layer x y c
  if v.fmt = 2 then f32mul ((t.add (.ofInt (- v.zp))).r32) v.scale else t

/-- Objectness is one more channel. -/
def jobObj (w : List (BitVec 64)) : Nat := if 2 ≤ jf w 2 1 then 1 else 0

/-- The score of a class at a position and anchor (SCORE_MODE). -/
def State.dppScore (s : State) (g : Graph) (d : Readout) (w : List (BitVec 64)) (v : DppLevel) (x y a k : Nat) : FV :=
  let o := jobObj w
  let per := 4 + o + jf w 4 1
  let cls := s.dppVal g d v x y (a * per + 4 + o + k)
  let obj := s.dppVal g d v x y (a * per + 4)
  match jf w 2 1 with
  | 0 => cls
  | 1 => sigmoidFp32 cls
  | 2 => f32mul (sigmoidFp32 obj) (sigmoidFp32 cls)
  | _ => f32mul obj cls

/-- Scores of one position and anchor as (class, score): every class, or the best with ties to the lower (CLASS_BEST). -/
def bestOf (best : Bool) (l : List (Nat × FV)) : List (Nat × FV) :=
  if !best then l
  else
    let l' := l.filter (fun p => decide (p.2 ≠ .nan))
    match l' with
    | [] => l.take 1
    | p :: r => [r.foldl (fun b q => if b.2.lt q.2 then q else b) p]

/-- Every scored (position, anchor, class) of a job, in order of index; under `best` those CLASS_BEST leaves. -/
def State.dppScores (s : State) (g : Graph) (d : Readout) (w : List (BitVec 64)) (vs : List DppLevel) (best : Bool) : List Cand :=
  vs.flatMap (fun v =>
    let e := d.layer v.layer
    (List.range (rlH e)).flatMap (fun y => (List.range (rlW e)).flatMap (fun x => (List.range v.anch).flatMap (fun a =>
      (bestOf best ((List.range (jf w 4 1)).map (fun k => (k, s.dppScore g d w v x y a k)))).map (fun p =>
        { idx := ((v.idx * rlH e + y) * rlW e + x) * v.anch + a, cls := p.1, score := p.2, lev := v, gx := x, gy := y, anc := a })))))

/-- Order of R225: score descending, class ascending, index ascending. -/
def Cand.before (a b : Cand) : Bool :=
  b.score.lt a.score || (!a.score.lt b.score && (decide (a.cls < b.cls) || (decide (a.cls = b.cls) && decide (a.idx < b.idx))))
def insCand (c : Cand) : List Cand → List Cand
  | [] => [c]
  | d :: r => if c.before d then c :: d :: r else d :: insCand c r
def sortCands (l : List Cand) : List Cand := l.foldl (fun a c => insCand c a) []

/-! ## Boxes (Table 8.8) -/

/-- Corners from centre and size. -/
def corners (cx cy w h : FV) : FV × FV × FV × FV :=
  (f32sub cx (f32div w fTwo), f32sub cy (f32div h fTwo), f32add cx (f32div w fTwo), f32add cy (f32div h fTwo))

/-- An anchor's width and height. -/
def State.anchorWh (s : State) (g : Graph) (j : DppJob) (i : Nat) : FV × FV :=
  let loc : Loc := { dram := j.anchorDram, enc := lf j.words 4 63 0 }
  let rd := fun (o : Nat) => f32of (leVal (s.locGet g.slip (g.quireOf 0) loc o 4))
  (rd (8 * i), rd (8 * i + 4))

/-- Decode the box of a candidate. -/
def State.dppBox (s : State) (g : Graph) (d : Readout) (j : DppJob) (c : Cand) : FV × FV × FV × FV :=
  let w := j.words
  let per := 4 + jobObj w + jf w 4 1
  let v := fun (i : Nat) => s.dppVal g d c.lev c.gx c.gy (c.anc * per + i)
  let st := c.lev.stride
  let cen := fun (n : Nat) => f32mul (f32add (f32nat n) fHalf) st
  let wh := s.anchorWh g j (c.lev.base + c.anc)
  match jf w 1 1 with
  | 0 => (v 0, v 1, v 2, v 3)
  | 1 =>
    let vxy := f32of (jf w 0x18 4)
    let vwh := f32of (jf w 0x1C 4)
    corners (f32add (cen c.gx) (f32mul (f32mul (v 0) vxy) wh.1)) (f32add (cen c.gy) (f32mul (f32mul (v 1) vxy) wh.2))
      (f32mul wh.1 (expFp32 (f32mul (v 2) vwh))) (f32mul wh.2 (expFp32 (f32mul (v 3) vwh)))
  | 2 => (f32sub (cen c.gx) (f32mul (v 0) st), f32sub (cen c.gy) (f32mul (v 1) st), f32add (cen c.gx) (f32mul (v 2) st), f32add (cen c.gy) (f32mul (v 3) st))
  | _ =>
    let ctr := fun (n : Nat) (x : FV) => f32mul (f32sub (f32add (f32nat n) (f32mul fTwo (sigmoidFp32 x))) fHalf) st
    let sz := fun (a x : FV) => let t := f32mul fTwo (sigmoidFp32 x); f32mul a (f32mul t t)
    corners (ctr c.gx (v 0)) (ctr c.gy (v 1)) (sz wh.1 (v 2)) (sz wh.2 (v 3))

/-- CLIP_BOX. -/
def clipBox (w : List (BitVec 64)) (b : FV × FV × FV × FV) : FV × FV × FV × FV :=
  if (jf w 5 1).testBit 1 then
    let cl := fun (m : Nat) (x : FV) => match x with | .nan => FV.nan | _ => FV.max (.num false 0 1) (FV.min (f32nat m) x)
    (cl (jf w 0xA 2) b.1, cl (jf w 0xC 2) b.2.1, cl (jf w 0xA 2) b.2.2.1, cl (jf w 0xC 2) b.2.2.2)
  else b

def boxNans (b : FV × FV × FV × FV) : Nat := ([b.1, b.2.1, b.2.2.1, b.2.2.2].filter (fun x => decide (x = .nan))).length

/-! ## Suppression (R225) -/

/-- max and min that carry a NaN on (R153). -/
def nmax (a b : FV) : FV := if a = .nan ∨ b = .nan then .nan else FV.max a b
def nmin (a b : FV) : FV := if a = .nan ∨ b = .nan then .nan else FV.min a b

def interOf (b c : FV × FV × FV × FV) : FV :=
  f32mul (nmax (.num false 0 1) (f32sub (nmin b.2.2.1 c.2.2.1) (nmax b.1 c.1))) (nmax (.num false 0 1) (f32sub (nmin b.2.2.2 c.2.2.2) (nmax b.2.1 c.2.1)))
def areaOf (b : FV × FV × FV × FV) : FV := f32mul (f32sub b.2.2.1 b.1) (f32sub b.2.2.2 b.2.1)
def unionOf (b c : FV × FV × FV × FV) : FV := f32sub (f32add (areaOf b) (areaOf c)) (interOf b c)

/-- What a kept detection does to another candidate: nothing, a lower score, or its removal. -/
def suppress (w : List (BitVec 64)) (b c : Cand) : Option Cand :=
  let nms := jf w 3 1
  if nms = 0 ∨ (nms ≠ 2 ∧ c.cls ≠ b.cls) then some c
  else if !(f32mul (f32of (jf w 0x14 4)) (unionOf b.box c.box)).lt (interOf b.box c.box) then some c
  else if nms ≠ 3 then none
  else
    let sc := f32mul c.score (f32sub (.num false 1 1) (f32div (interOf b.box c.box) (unionOf b.box c.box)))
    if sc.lt (f32of (jf w 0x10 4)) then none else some { c with score := sc }

/-- The loop of R225: kept detections, what is left, and how many were suppressed. -/
def nmsLoop (w : List (BitVec 64)) : Nat → List Cand → List Cand → Nat → List Cand × List Cand × Nat
  | 0, kept, cand, n => (kept, cand, n)
  | fuel + 1, kept, cand, n =>
    match cand with
    | [] => (kept, [], n)
    | b :: r =>
      let r' := r.filterMap (suppress w b)
      nmsLoop w fuel (kept ++ [b]) (if jf w 3 1 = 3 then sortCands r' else r') (n + (r.length - r'.length))

/-! ## DPP_JOB (R223–R228) -/

/-- T_dpp of R227. -/
def tDpp (bIn nSc nC k : Nat) : Nat :=
  300 + max ((bIn + 63) / 64) ((nSc + 15) / 16) + (nC + 3) / 4 + (nC * (Nat.log2 (max nC 2) + (if 2 ^ Nat.log2 (max nC 2) = max nC 2 then 0 else 1)) + 7) / 8 +
    (nC * k + 15) / 16 + (k + 1) / 2

/-- The detection of Table 8.10. -/
def detBytes (src w : Nat) (c : Cand) : List (BitVec 8) :=
  hdr [(f32bits c.box.1, 4), (f32bits c.box.2.1, 4), (f32bits c.box.2.2.1, 4), (f32bits c.box.2.2.2, 4), (f32bits c.score, 4), (c.cls, 2), (c.lev.idx, 1), (c.anc, 1),
    (c.gy * w + c.gx, 4), (src, 1), (0, 3)]

/-- Hand a detection set over (R226). -/
def State.detSet (s : State) (g j chan : Nat) (d : Readout) (i : RoInst) (flags cand cycles : Nat) (dets : List (List (BitVec 8))) : State :=
  let pay := dets.flatten
  let age := s.roAge d i
  let gaps := s.roGaps d i
  let sk := min d.skipped 0xFFFF
  let b := hdr [(g, 4), (j, 1), (flags, 1), (dets.length, 2), (i.tick, 8), (s.tim.tick, 8), (age, 4), (cand, 4), (gaps, 2), (sk, 2), (cycles, 4), (0, 16), (pay.length, 8)] ++ pay
  s.handOver g chan {
    kind := .detset, graph := g, tref := i.tick, layer := j, bytes := b.length, flags := flags,
    fields := [g, j, dets.length, i.tick, age, cand, gaps, sk, cycles, pay.length], payload := pay.map (·.toNat) } b

/-- The tensors of a job, and its anchors where boxes use them, that fail the DPP's check (R402). -/
def State.dppDenied (s : State) (g : Graph) (d : Readout) (j : DppJob) (vs : List DppLevel) : Nat :=
  let bad := vs.filter (fun v => let e := d.layer v.layer; !s.locOk g.slip (d.out v.layer) (rlH e * rlW e * rlG e * 4 * fmtBits (rlOutFmt e)) false)
  let top := (vs.map (fun v => v.base + v.anch)).foldl max 0
  let anc := jf j.words 1 1 = 1 ∨ 3 ≤ jf j.words 1 1
  bad.length + (if anc ∧ !s.locOk g.slip { dram := j.anchorDram, enc := lf j.words 4 63 0 } (8 * top) false then 1 else 0)

/-- DPP_JOB (R223–R228): a granted job whose tensors are complete runs. `readOk` false: a tensor could not be read, and the set is issued
with INVALID. The fabric cycles the job took are open below T_dpp. -/
def State.dppJob (s : State) (g j : Nat) (readOk : Bool) : State :=
  match s.readoutRuns g with
  | none => s
  | some d =>
    match d.insts.head?, d.jobs[j]? with
    | some i, some jb =>
      let gr := s.graph g
      let w := jb.words
      let vs := (List.range (jf w 0 1)).map (fun k => dppLevel k ((jb.levels[k]?).getD []))
      if s.dom 42 ≠ 2 ∨ i.jobs.contains j ∨ !vs.all (fun v => d.layerDone i v.layer) then s
      else
        let every := s.dppScores gr d w vs false
        let all := if jf w 5 1 % 2 = 1 then s.dppScores gr d w vs true else every
        let nSc := (vs.map (fun v => let e := d.layer v.layer; rlH e * rlW e * v.anch * jf w 4 1)).foldl (· + ·) 0
        let bIn := (vs.map (fun v => let e := d.layer v.layer; rlH e * rlW e * rlG e * 4 * fmtBits (rlOutFmt e))).foldl (· + ·) 0
        let nanS := (every.filter (fun c => decide (c.score = .nan))).length
        let th := f32of (jf w 0x10 4)
        let hit := sortCands (all.filter (fun c => decide (c.score ≠ .nan) && !c.score.lt th && th != .nan))
        let cmax := jf w 6 2
        let ovf := decide (cmax < hit.length)
        let cand := (hit.take cmax).map (fun c => { c with box := clipBox w (s.dppBox gr d jb c) })
        let nans := nanS + (cand.map (fun c => boxNans c.box)).foldl (· + ·) 0
        let r := nmsLoop w (jf w 8 2) [] cand 0
        let trunc := !r.2.1.isEmpty && decide (r.1.length = jf w 8 2)
        let den := s.dppDenied gr d jb vs
        let readOk := readOk && decide (den = 0)
        let f := s.take
        let cyc := f.1 % (tDpp bIn nSc cand.length r.1.length + 1)
        let s := f.2.trace 0x65 gr.slip 3 [g, 1, i.tick]
        let bad := !readOk || s.si.unitBad.contains 0x65
        let fl := s.roFlags g d i bad + 8 * (ovf && !bad).toNat + 16 * (trunc && !bad).toNat + 32 * (decide (0 < nans) && !bad).toNat
        let chan := jf w 0xE 1
        let s := ((s.bump (dppB + 0x100)).bump (dppB + 0x128) cyc).bump (mcB + 0x3010) den
        let s := if bad then
            s.detSet g j chan d i fl 0 cyc []
          else
            let s := (((s.bump (dppB + 0x108) hit.length).bump (dppB + 0x110) ovf.toNat).bump (dppB + 0x118) trunc.toNat).bump (dppB + 0x120) r.2.2
            let s := s.bump (dppB + 0x130) nans
            let s := if 0 < nans then s.orReg (dppB + 4) 2 else s
            s.detSet g j chan d i fl hit.length cyc (r.1.map (fun c => detBytes (jf w 0xF 1) (rlW (d.layer c.lev.layer)) c))
        let s := if readOk then s else s.orReg (dppB + 4) 1
        let s := s.modInst g (fun x => { x with jobs := x.jobs ++ [j] })
        (s.endInstant g).rerunEnd 0x65
    | _, _ => s

def execDppJob (g : BitVec 32) (j : BitVec 2) (readOk : Bool) (s : State) : Host.Outcome State Fault Refusal := .next (s.dppJob g.toNat j.toNat readOk)

end Sys2Proof.Machine
end

