-- ==== Sys2Proof/Machine/FuseIn.lean ====
section
/-! DEFINITION. Inputs of the Fusion Unit (11): sources, transform banks, samples and their retention, and the commands that bring them. -/
namespace Sys2Proof.Machine

/-! ## Fields (Tables 11.1, 11.2, 11.5) -/

def fjNch (j : FJob) : Nat := jf j.words 1 1
def fjFmt (j : FJob) : Nat := jf j.words 2 1
def fjOut (j : FJob) : Nat := jf j.words 3 1
def fjW (j : FJob) : Nat := jf j.words 4 2
def fjH (j : FJob) : Nat := jf j.words 6 2
def fjPeriod (j : FJob) : Nat := jf j.words 8 4
def fjPhase (j : FJob) : Nat := jf j.words 0xC 4
def fjX0 (j : FJob) : FV := f32of (jf j.words 0x10 4)
def fjY0 (j : FJob) : FV := f32of (jf j.words 0x14 4)
def fjCell (j : FJob) : FV := f32of (jf j.words 0x18 4)
def fjZ (j : FJob) : FV := f32of (jf j.words 0x1C 4)
def fjWait (j : FJob) : Nat := jf j.words 0x20 4
def fjTset (j : FJob) : Nat := jf j.words 0x24 1
def fjGrid (j : FJob) : Loc := { dram := j.dram, enc := jf j.words 0x28 8 }

def fsKind (x : FSrc) : Nat := jf x.words 1 1
def fsLinear (x : FSrc) : Bool := jf x.words 2 1 = 1
def fsInChan (x : FSrc) : Nat := jf x.words 3 1
def fsAuxOut (x : FSrc) : Bool := jf x.words 5 1 = 1
def fsExtrap (x : FSrc) : Nat := jf x.words 8 4
def fsStale (x : FSrc) : Nat := jf x.words 0xC 4
def fsCloseLag (x : FSrc) : Nat := jf x.words 0x10 4
def fsLook (x : FSrc) : Nat := jf x.words 0x14 4
def fsStride (x : FSrc) : FV := f32of (jf x.words 0x18 4)
def fsScale (x : FSrc) : FV := f32of (jf x.words 0x1C 4)
def fsRxx (x : FSrc) : FV := f32of (jf x.words 0x20 4)
def fsRyy (x : FSrc) : FV := f32of (jf x.words 0x24 4)
def fsNear (x : FSrc) : FV := f32of (jf x.words 0x28 4)
def fsFar (x : FSrc) : FV := f32of (jf x.words 0x2C 4)
def fsAgeExtra (x : FSrc) : Nat := jf x.words 0x30 4
def fsExternal (x : FSrc) : Bool := fsInChan x = 0xFF
def fsDet (x : FSrc) : Bool := fsKind x = 3 || fsKind x = 4

/-- The bank that serves a tick (R294). -/
def FSrc.bankFor (x : FSrc) (t : Nat) : XBank := if (x.useB == decide (x.since ≤ t)) then x.bankB else x.bankA
/-- Element k of M. -/
def xbM (b : XBank) (k : Nat) : FV := f32of (jf b.words (8 + 4 * k) 4)
def xbF (b : XBank) (o : Nat) : FV := f32of (jf b.words o 4)
def xbModel (b : XBank) : Nat := jf b.words 4 1
def xbMeshW (b : XBank) : Nat := jf b.words 5 1
def xbMeshH (b : XBank) : Nat := jf b.words 6 1
def xbVersion (b : XBank) : Nat := jf b.words 0 4

def State.fjob (s : State) (j : Nat) : FJob := SMap.get {} s.fu.jobs j
def State.fsrc (s : State) (k : Nat) : FSrc := SMap.get {} s.fu.srcs k
def State.modFjob (s : State) (j : Nat) (g : FJob → FJob) : State := { s with fu := { s.fu with jobs := SMap.upd {} s.fu.jobs j g } }
def State.modFsrc (s : State) (k : Nat) (g : FSrc → FSrc) : State := { s with fu := { s.fu with srcs := SMap.upd {} s.fu.srcs k g } }
def State.tset (s : State) (t : Nat) : TSet := SMap.get {} s.fu.sets t
def State.modTset (s : State) (t : Nat) (g : TSet → TSet) : State := { s with fu := { s.fu with sets := SMap.upd {} s.fu.sets t g } }

/-- E of R296: EXTRAP_MAX in ticks. -/
def State.fsE (s : State) (x : FSrc) : Nat := fsExtrap x * 1000 / s.tickLen
/-- The tick a source needs for an instant (R295). -/
def fsNeed (x : FSrc) (tf : Nat) : Nat := if fsLinear x then tf + fsLook x else tf

/-- Slots of a job's sources, ascending. -/
def State.jobSlots (s : State) (j : Nat) : List Nat := s.fu.srcs.keysWhere (fun _ x => x.en && x.job = j)

/-! ## Retention (R287, R297) -/

/-- Insert by tick. -/
def insSample (n : FSample) : List FSample → List FSample
  | [] => [n]
  | y :: r => if n.tick < y.tick then n :: y :: r else y :: insSample n r

/-- A sample reaches its slot: late or not, it is retained, replaces one of its tick, or is discarded. -/
def State.retain (s : State) (k : Nat) (n : FSample) : State :=
  let x := s.fsrc k
  let j := s.fjob x.job
  let late := (fsExternal x && decide (n.tick + fsCloseLag x ≤ s.tim.tick)) || j.forced.any (fun t => decide (n.tick ≤ fsNeed x t))
  let n := { n with late := late }
  let s := if late then (s.bump (fuB + 0x110)).modFsrc k (fun x => { x with lateCnt := x.lateCnt + 1 }) else s
  let s := if late && fsDet x then s.bump (tmB + 0x250) else s
  let s := s.modFsrc k (fun x => { x with delivered := true })
  let others := x.samples.filter (fun y => decide (y.tick ≠ n.tick))
  if x.samples.any (fun y => decide (n.tick ≤ y.tick)) ∧ n.tick + s.fsE x < j.next then s
  else if others.length < 4 then s.modFsrc k (fun x => { x with samples := insSample n others })
  else (s.bump (fuB + 0x120)).modFsrc k (fun x => { x with samples := insSample n (others.drop 1) })

/-! ## Internal inputs (R285) -/

/-- A detection of 32 bytes. -/
def detOf (b : List (BitVec 8)) : FDet :=
  let f := fun (o n : Nat) => leVal ((b.drop o).take n)
  { x1 := f 0 4, y1 := f 4 4, x2 := f 8 4, y2 := f 0xC 4, score := f 0x10 4, cls := f 0x14 2 }

/-- Cut bytes into runs of n. -/
def chunks (n : Nat) : Nat → List (BitVec 8) → List (List (BitVec 8))
  | 0, _ => []
  | fuel + 1, l => l.take n :: chunks n fuel (l.drop n)

/-- The oldest record of a channel entry. -/
def State.chanHead (s : State) (q c : Nat) : Option (List (BitVec 8)) :=
  let ch := (s.quire q).chan c
  if !ch.valid ∨ ch.tokens = 0 then none
  else
    let cap := max 1 ch.cap
    some (bytesAt (s.quire q).qsp (ch.base + (ch.slot + cap - ch.tokens % cap) % cap * ch.isize * 32) (ch.isize * 32))

/-- The channel entry behind an internal source. -/
def State.srcQuire (s : State) (x : FSrc) : Nat := (s.graph x.fromG).quire0

/-- A record as a sample; none where INVALID is set (R287). -/
def recSample (kind : Nat) (b : List (BitVec 8)) : Option FSample :=
  let f := fun (o n : Nat) => leVal ((b.drop o).take n)
  if kind = 1 then
    if (f 6 1).testBit 1 then none
    else some { tick := f 8 8, age := f 0x28 4, gap := (f 6 1).testBit 2 || decide (0 < f 0x2E 2), late := false,
                data := .grid (f 7 1) (f 0x30 2) (f 0x32 2) (f 0x34 2) ((b.drop 64).take (f 0x38 8)) }
  else
    if (f 5 1).testBit 1 then none
    else some { tick := f 8 8, age := f 0x18 4, gap := (f 5 1).testBit 2 || decide (0 < f 0x20 2), late := false,
                data := .dets ((chunks 32 (f 6 2) (b.drop 64)).map detOf) }

/-- VALID_TICK of a record. -/
def recTick (b : List (BitVec 8)) : Nat := leVal ((b.drop 8).take 8)

/-- FUSION_INPUT (R285): the next record or item of an internal source is taken. -/
def State.fuseInput (s : State) (k : Nat) : State :=
  let x := s.fsrc k
  if !x.en ∨ fsExternal x then s
  else if fsKind x = 5 then
    match (s.aux x.chan).sinks.find? (fun z => z.quire.isNone && z.slot = k && z.rist == fsAuxOut x) with
    | none => s
    | some z =>
      match z.items with
      | w0 :: w1 :: _ =>
        let s := s.modAux x.chan (fun c => { c with sinks := c.sinks.map (fun y => if y = z then ({ y with items := y.items.drop 2 } : AuxSink).drain else y) })
        let t := (s.tim.tick : Int) + etsDiff (w0.toNat % 2 ^ 32) s.ets
        s.retain k { tick := t.toNat, age := fsAgeExtra x, gap := w0.getLsbD 58, late := false, data := .aux (w1.toNat % 2 ^ 32) }
      | _ => s
  else
    let q := s.srcQuire x
    match s.chanHead q (fsInChan x) with
    | none => s
    | some b =>
      let s := s.modQuire q (fun y => y.consume (fsInChan x) 1)
      match recSample (fsKind x) b with
      | none => s
      | some n => s.retain k n

def execFusionInput (slot : BitVec 6) (s : State) : Host.Outcome State Fault Refusal := .next (s.fuseInput slot.toNat)

/-- The readout part of a graph has issued or skipped every instant up to tick n (R285). -/
def State.roClosed (s : State) (g n : Nat) : Bool :=
  match (s.graph g).readout with
  | none => false
  | some d =>
    (s.graph g).state = 1 && decide (n < s.tim.tick) && d.insts.all (fun i => decide (n < i.tick)) &&
      (if d.sched = 3 then decide (n ≤ d.last) || (match (s.graph d.srcGraph).delta with
          | some e => e.sched.all (fun p => decide (n < p.2)) && e.scopies.all (fun c => decide (n < c.tick))
          | none => true)
       else if d.sched = 1 then (s.instantDue g n).isNone
       else d.asked.all (fun t => decide (n < t)))

/-- A source is closed for a tick (R295). -/
def State.srcClosed (s : State) (x : FSrc) (n : Nat) : Bool :=
  if fsExternal x then decide (n + fsCloseLag x ≤ s.tim.tick)
  else if fsKind x = 5 then
    let c := s.aux x.chan
    let o := if fsAuxOut x then c.rist else c.lungo
    c.en && decide (n < o.closed) && (c.sinks.all (fun z => !(z.quire.isNone && decide (s.fsrc z.slot = x)) || z.items.isEmpty))
  else
    s.roClosed x.fromG n && (match s.chanHead (s.srcQuire x) (fsInChan x) with
      | some b => decide (n < recTick b)
      | none => true)

/-! ## External samples (R286, R335) -/

/-- Bytes of a planar tensor (R211). -/
def planarBytes (fmt w h c : Nat) : Nat := h * ((c + 31) / 32) * w * 4 * fmtBits fmt

/-- The shape and byte count of a sample are consistent. -/
def sampleShapeOk (x : FSrc) (d : SampleHdr) (n : Nat) : Bool :=
  let kind := fsKind x
  let dims := fun (v : BitVec 16) => decide (1 ≤ v.toNat ∧ v.toNat ≤ 4096)
  !d.rsvdNZ && d.bytes.toNat = n &&
  (if kind = 1 then (d.fmt = 2 || d.fmt = 8 || d.fmt = 0xA) && dims d.w && dims d.h && dims d.c && d.count = 0 &&
      n = planarBytes d.fmt.toNat d.w.toNat d.h.toNat d.c.toNat
   else if kind = 2 then d.fmt = 0xA && n = 16 * d.count.toNat
   else d.fmt = 0xA && n = 32 * d.count.toNat)

/-- What an external sample holds. -/
def sampleData (kind : Nat) (d : SampleHdr) (b : List (BitVec 8)) : FData :=
  if kind = 1 then .grid d.fmt.toNat d.w.toNat d.h.toNat d.c.toNat b
  else if kind = 2 then
    .points ((chunks 16 d.count.toNat b).map (fun p => let f := fun (o : Nat) => leVal ((p.drop o).take 4); (f 0, f 4, f 8, f 0xC)))
  else .dets ((chunks 32 d.count.toNat b).map detOf)

/-- Refused as not matching (R286). -/
def State.sampleFault (s : State) : State := (s.bump (fuB + 0x148)).orReg (fuB + 4) 2

/-- The bucket of an EXTERNAL source of an admitted contract takes a sample (R335): one refill at RATE, at most BURST; none where the
sample is beyond RATE, BURST or SIZE_MAX. Levels are in samples · 10^9. -/
def Contract.bucket (c : Contract) (slot now n : Nat) : Option (Option Contract) :=
  match c.srcs.find? (fun e => e.kind = 3 && e.index.toNat = slot) with
  | none => none
  | some e =>
    let full := e.burst.toNat * 10 ^ 9
    let b := (c.buckets.find? (fun p => decide (p.1 = slot))).getD (slot, full, now)
    let lvl := min full (b.2.1 + (now - b.2.2) * e.rate.toNat)
    if lvl < 10 ^ 9 ∨ (0 < n ∧ e.sizeMax.toNat < n) then some none
    else some (some { c with buckets := (c.buckets.filter (fun p => decide (p.1 ≠ slot))) ++ [(slot, lvl - 10 ^ 9, now)] })

/-- The contract that counts a slot's samples. -/
def State.slotContract (s : State) (k : Nat) : Option Nat :=
  let c := (s.graph (s.fsrc k).graph).contract
  if c ≠ 0 ∧ (s.contract c).exist ∧ (s.contract c).state ≠ 2 then some c else none

/-- What became of an external sample. -/
inductive PutRes where
  | taken (s : State)
  | faulty (s : State)
  | excess (s : State)

/-- An external sample from a slipcase, with its arrival instant (R286, R335). -/
def State.samplePut (s : State) (slip slot : Nat) (d : SampleHdr) (b : List (BitVec 8)) (arrival : Nat) : PutRes :=
  let x := s.fsrc slot
  if 64 ≤ slot ∨ !x.en ∨ !fsExternal x ∨ (s.graph x.graph).slip ≠ slip ∨ d.slot.toNat ≠ slot ∨ d.kind.toNat ≠ fsKind x ∨ arrival < d.validNs.toNat ∨
     x.seq.any (fun q => decide (d.seq.toNat ≤ q)) ∨ !sampleShapeOk x d b.length then .faulty s.sampleFault
  else
    let n := if fsKind x = 1 then 0 else d.count.toNat
    let took := fun (s : State) =>
      let s := s.modFsrc slot (fun x => { x with seq := some d.seq.toNat })
      s.retain slot { tick := s.tickOfNs d.validNs.toNat, age := (d.ageNs.toNat + s.tickLen - 1) / s.tickLen, gap := d.flags.getLsbD 0, late := false,
                      data := sampleData (fsKind x) d b }
    match s.slotContract slot with
    | none => .taken (took s)
    | some c =>
      match (s.contract c).bucket slot arrival n with
      | none => .taken (took s)
      | some none => .excess (s.modContract c (fun y => { y with extDrop := y.extDrop + 1 }))
      | some (some y) => .taken (took (s.modContract c (fun _ => y)))

/-- FUSION_SAMPLE_PUT (R286): the sample's header and payload, read through the list, and its arrival instant. -/
def State.fuseSamplePut (s : State) (h : CmdRef) (f : Fetched) (slot : Nat) (sgl : Sgl) (d : SampleHdr) (b : List (BitVec 8)) (arrival : Nat) : Res :=
  let g := s.graph f.objId.toNat
  if s.sealedFor h g.slip then .err s stNotPermitted 0xD
  else if 64 ≤ slot then .err s stBadParam 0xF025
  else match sglErr sgl (64 + b.length) with
  | some e => .err s stBadParam e
  | none =>
    match s.samplePut g.slip slot d b arrival with
    | .taken s => .ok s (result [(d.seq.toNat, 8)])
    | .faulty s => .errKeep s stBadParam 1
    | .excess s => .errKeep s stNoResource 0x10

def execFusionSamplePut (h : CmdRef) (slot : BitVec 8) (sgl : Sgl) (d : SampleHdr) (b : List (BitVec 8)) (arrival : BitVec 64) (s : State) :
    Host.Outcome State Fault Refusal :=
  .next (s.cmd h 0x0601 (.fusionSamplePut h slot sgl d b arrival) (fun s f => s.fuseSamplePut h f slot.toNat sgl d b arrival.toNat))

/-! ## Transform banks (R290, R294) -/

/-- A table that R294 refuses. -/
def xformBad (b : XBank) : Bool :=
  let w := xbMeshW b
  let h := xbMeshH b
  decide (1 < xbModel b) || (xbModel b = 0 && decide (w ≠ 0)) || w = 1 || decide (33 < w) || (decide (w ≠ 0) && decide (h < 2 ∨ 33 < h)) || (w = 0 && decide (h ≠ 0)) ||
    (xbF b 0x38).isZero || (xbF b 0x3C).isZero || decide (jf b.words 7 1 ≠ 0) || decide (jf b.words 0x58 8 ≠ 0)

/-- A FUSION_XFORM_SET for a slot is staged. -/
def State.xformStaged (s : State) (k : Nat) : Bool :=
  s.staged.any (fun x => match x.cmd with | .fusionXformSet _ slot _ _ _ _ => slot.toNat = k | _ => false)

/-- FUSION_XFORM_SET (R294): `meshes` are the bytes of the FWD and INV meshes; MESH_ADDR lies in DRAM or in the QSP of the graph's first
quire. -/
def State.xformSet (s : State) (h : CmdRef) (f : Fetched) (k : Nat) (words : List (BitVec 64)) (dram : Bool) (sgl : Sgl) (meshes : List (BitVec 8)) : Res :=
  let gr := s.graph f.objId.toNat
  let x := s.fsrc k
  let b : XBank := { words := words, dram := dram }
  let n := 2 * 4 * xbMeshW b * xbMeshH b
  if s.sealedFor h gr.slip then .err s stNotPermitted 0xD
  else if 64 ≤ k ∨ !x.en ∨ x.graph ≠ f.objId.toNat then .err s stBadParam 0xF025
  else if xformBad b then .errKeep (s.orReg (fuB + 4) 4) stBadParam 2
  else if x.pend ∨ s.xformStaged k then .err s stTransition 4
  else if !f.atEn ∧ (s.fjob x.job).runs then .err s stTransition 3
  else match (if n = 0 then none else sglErr sgl n) with
  | some e => .err s stBadParam e
  | none =>
    let s := s.locPut gr.slip gr.quires { dram := dram, enc := jf words 0x50 8 } 0 (meshes.take n)
    let s := s.modFsrc k (fun x =>
      let y := if x.useB then { x with bankA := b } else { x with bankB := b }
      { y with useB := !x.useB, since := if f.atEn then s.tim.tick else 0, pend := f.atEn && (s.fjob x.job).runs })
    .ok s (result [((!x.useB).toNat, 1)])

def execFusionXformSet (h : CmdRef) (slot : BitVec 8) (words : List (BitVec 64)) (dram : Bool) (sgl : Sgl) (meshes : List (BitVec 8)) (s : State) :
    Host.Outcome State Fault Refusal :=
  .next (s.cmd h 0x0602 (.fusionXformSet h slot words dram sgl meshes) (fun s f => s.xformSet h f slot.toNat words dram sgl meshes))

end Sys2Proof.Machine
end

