-- ==== Sys2Proof/Machine/Fusion.lean ====
section
/-! DEFINITION. The Fusion Unit (11): projection, selection, combination, the fused record, and FUSION_START. -/
namespace Sys2Proof.Machine

/-! ## Geometry (R288, R290–R293) -/

/-- r0·x + r1·y + r2·z, left to right. -/
def f32dot (a b c x y z : FV) : FV := f32add (f32add (f32mul a x) (f32mul b y)) (f32mul c z)

/-- ⌊v⌋ of a finite value. -/
def FV.floor : FV → Option Int
  | .num s n d => some (sgnNum s n / (d : Int))
  | _ => none

/-- The centre of a cell. -/
def cellCentre (j : FJob) (gx gy : Nat) : FV × FV × FV :=
  (f32add (fjX0 j) (f32mul (f32add (f32nat gx) fHalf) (fjCell j)), f32add (fjY0 j) (f32mul (f32add (f32nat gy) fHalf) (fjCell j)), fjZ j)

/-- The cell of a vehicle-frame point, where it exists: its index gy · W + gx. -/
def cellOf (j : FJob) (x y : FV) : Option Nat :=
  match (f32div (f32sub x (fjX0 j)) (fjCell j)).floor, (f32div (f32sub y (fjY0 j)) (fjCell j)).floor with
  | some gx, some gy => if 0 ≤ gx ∧ gx < fjW j ∧ 0 ≤ gy ∧ gy < fjH j then some (gy.toNat * fjW j + gx.toNat) else none
  | _, _ => none

/-- Clamp into [0, m], with its whole part and fraction. -/
def clampSplit (v : FV) (m : Nat) : Nat × FV :=
  match v with
  | .num s n d =>
    if s then (0, .num false 0 1)
    else if m * d ≤ n then (m, .num false 0 1)
    else (n / d, f32sub v (f32nat (n / d)))
  | .inf s => (if s then 0 else m, .num false 0 1)
  | .nan => (0, .nan)

/-- A mesh value at (u, v): bilinear between four nodes; `inv` selects the INV mesh (R290). -/
def State.mesh (s : State) (g : Graph) (b : XBank) (inv : Bool) (u v : FV) : FV × FV :=
  let mw := xbMeshW b
  let mh := xbMeshH b
  let p := clampSplit (f32div u (xbF b 0x48)) (mw - 1)
  let q := clampSplit (f32div v (xbF b 0x4C)) (mh - 1)
  let node := fun (m n o : Nat) =>
    let k := min n (mh - 1) * mw + min m (mw - 1) + (if inv then mw * mh else 0)
    fmtDec 8 (leVal (s.locGet g.slip g.quires { dram := b.dram, enc := jf b.words 0x50 8 } (4 * k + o) 2))
  let val := fun (o : Nat) =>
    let top := f32add (node p.1 q.1 o) (f32mul p.2 (f32sub (node (p.1 + 1) q.1 o) (node p.1 q.1 o)))
    let bot := f32add (node p.1 (q.1 + 1) o) (f32mul p.2 (f32sub (node (p.1 + 1) (q.1 + 1) o) (node p.1 (q.1 + 1) o)))
    f32add top (f32mul q.2 (f32sub bot top))
  (val 0, val 2)

/-- A bank's meshes pass the FU's check (R402). -/
def State.meshOk (s : State) (g : Graph) (b : XBank) : Bool :=
  xbMeshW b = 0 || s.locOk g.slip { dram := b.dram, enc := jf b.words 0x50 8 } (8 * xbMeshW b * xbMeshH b) false

/-- The raw pixel of a cell in a GRID_IMG source, before the stride (R291). -/
def State.projectUV (s : State) (g : Graph) (b : XBank) (near : FV) (p : FV × FV × FV) : Option (FV × FV) :=
  let row := fun (r : Nat) => f32add (f32dot (xbM b (4 * r)) (xbM b (4 * r + 1)) (xbM b (4 * r + 2)) p.1 p.2.1 p.2.2) (xbM b (4 * r + 3))
  let qx := row 0
  let qy := row 1
  let qz := row 2
  let uv := if xbModel b = 1 then
      (if qz.le near then none
       else some (f32add (f32div (f32mul (xbF b 0x38) qx) qz) (xbF b 0x40), f32add (f32div (f32mul (xbF b 0x3C) qy) qz) (xbF b 0x44)))
    else some (qx, qy)
  uv.map (fun w => if 0 < xbMeshW b then (let d := s.mesh g b false w.1 w.2; (f32add w.1 d.1, f32add w.2 d.2)) else w)

/-- A point of the sensor frame in the vehicle frame (R292). -/
def toVehicle (b : XBank) (x y z : FV) : FV × FV × FV :=
  let dx := f32sub x (xbM b 3)
  let dy := f32sub y (xbM b 7)
  let dz := f32sub z (xbM b 11)
  let row := fun (r : Nat) => f32dot (xbM b r) (xbM b (r + 4)) (xbM b (r + 8)) dx dy dz
  (row 0, row 1, row 2)

/-- What becomes of a detection (R293). -/
inductive DetRes where
  | meas (x y w l : FV)
  | noGround
  | range
  | nan
deriving DecidableEq, Repr

/-- A detection as a vehicle-frame measurement (R293). -/
def State.detMeas (s : State) (g : Graph) (j : FJob) (x : FSrc) (b : XBank) (d : FDet) : DetRes :=
  let x1 := f32of d.x1
  let y1 := f32of d.y1
  let x2 := f32of d.x2
  let y2 := f32of d.y2
  if [x1, y1, x2, y2].any (fun v => decide (v = .nan)) then .nan
  else if fsKind x = 4 then .meas (f32div (f32add x1 x2) fTwo) (f32div (f32add y1 y2) fTwo) (f32sub x2 x1) (f32sub y2 y1)
  else
    let uc := f32div (f32add x1 x2) fTwo
    let vc := y2
    let w := if 0 < xbMeshW b then (let m := s.mesh g b true uc vc; (f32add uc m.1, f32add vc m.2)) else (uc, vc)
    let dx := f32div (f32sub w.1 (xbF b 0x40)) (xbF b 0x38)
    let dy := f32div (f32sub w.2 (xbF b 0x44)) (xbF b 0x3C)
    let one := FV.num false 1 1
    let c := fun (r : Nat) => (f32dot (xbM b r) (xbM b (r + 4)) (xbM b (r + 8)) (xbM b 3) (xbM b 7) (xbM b 11)).neg
    let ray := fun (r : Nat) => f32dot (xbM b r) (xbM b (r + 4)) (xbM b (r + 8)) dx dy one
    if !(ray 2).lt (.num false 0 1) then .noGround
    else
      let lam := f32div (f32sub (fjZ j) (c 2)) (ray 2)
      if lam.le (.num false 0 1) ∨ (fsFar x).lt lam then .range
      else
        let sz := f32mul (f32div (f32sub x2 x1) (xbF b 0x38)) lam
        let px := f32add (c 0) (f32mul lam (ray 0))
        let py := f32add (c 1) (f32mul lam (ray 1))
        if px = .nan ∨ py = .nan then .nan else .meas px py sz sz

/-! ## Selection (R296) -/

/-- What an instant takes of a source: STATE, the sample a, its partner, the ratio, and SHAPE_CHANGE. -/
structure Sel where
  state : Nat
  a     : Option FSample
  b     : Option FSample
  w     : FV
  shape : Bool

/-- Shapes differ. -/
def shapesDiffer : FData → FData → Bool
  | .grid _ w h c _, .grid _ w' h' c' _ => !(w = w' && h = h' && c = c')
  | _, _ => false

/-- A ratio of tick differences in FP32. -/
def ratio32 (n d : Nat) : FV := (FV.num false n d).r32

/-- The greatest tick among samples that pass a test. -/
def latest (l : List FSample) (p : FSample → Bool) : Option FSample := ((l.filter p).getLast?)

/-- Select for an instant (R296); `e`: E. Samples lie in ascending tick. -/
def FSrc.select (x : FSrc) (tf e : Nat) : Sel :=
  let a := latest x.samples (fun n => decide (n.tick ≤ tf))
  let b := if fsLinear x then x.samples.find? (fun n => decide (tf < n.tick ∧ n.tick ≤ tf + fsLook x)) else none
  let zero := FV.num false 0 1
  match a with
  | some n =>
    if n.tick = tf then { state := 1, a := a, b := none, w := zero, shape := false }
    else if tf - n.tick ≤ e then
      match b with
      | some m =>
        if shapesDiffer n.data m.data then { state := 3, a := a, b := none, w := zero, shape := true }
        else { state := 2, a := a, b := b, w := ratio32 (tf - n.tick) (m.tick - n.tick), shape := false }
      | none =>
        match (if fsKind x = 5 && fsLinear x then latest x.samples (fun y => decide (y.tick < n.tick)) else none) with
        | some p => { state := 4, a := a, b := some p, w := ratio32 (tf - n.tick) (n.tick - p.tick), shape := false }
        | none => { state := 3, a := a, b := none, w := zero, shape := false }
    else { state := 5, a := none, b := none, w := zero, shape := false }
  | none => { state := if b.isSome then 5 else 0, a := none, b := none, w := zero, shape := false }

def Sel.contrib (z : Sel) : Bool := decide (1 ≤ z.state ∧ z.state ≤ 4)
/-- The samples an instant uses. -/
def Sel.used (z : Sel) : List FSample := z.a.toList ++ z.b.toList

/-- An FP32 value of an AUX sample. -/
def FSample.auxVal (n : FSample) : FV := match n.data with | .aux v => f32of v | _ => .num false 0 1

/-- The AUX value of a selection. -/
def Sel.auxVal (z : Sel) : FV :=
  match z.a, z.b with
  | some a, some b =>
    if z.state = 2 then f32add a.auxVal (f32mul (f32sub b.auxVal a.auxVal) z.w) else f32add a.auxVal (f32mul (f32sub a.auxVal b.auxVal) z.w)
  | some a, none => a.auxVal
  | _, _ => .num false 0 1

/-- Element (c, y, x) of a tensor sample, dequantised where INT8. -/
def gridElem (scale : FV) (d : FData) (x y c : Nat) : FV :=
  match d with
  | .grid f w h ch data =>
    let k := (y * ((ch + 31) / 32) + c / 32) * w + x
    let eb := fmtBits f
    let raw := if 8 ≤ eb then leVal ((data.drop (k * 4 * eb + c % 32 * (eb / 8))).take (eb / 8))
      else bitsN (leVal ((data.drop (k * 4 * eb + c % 32 * eb / 8)).take 1)) (eb * (c % 32) % 8 + eb - 1) (eb * (c % 32) % 8)
    let v := fmtDec f raw
    let v := if fmtMx f then v.mul (e8m0 (leVal ((data.drop (h * ((ch + 31) / 32) * w * 4 * eb + k)).take 1))) else v
    if f = 2 then f32mul v scale else v.r32
  | _ => .num false 0 1

/-- Its value after alignment. -/
def Sel.gridVal (z : Sel) (scale : FV) (x y c : Nat) : FV :=
  match z.a, z.b with
  | some a, some b =>
    let va := gridElem scale a.data x y c
    f32add va (f32mul (f32sub (gridElem scale b.data x y c) va) z.w)
  | some a, none => gridElem scale a.data x y c
  | _, _ => .num false 0 1

/-! ## The grid (R289) -/

/-- Accumulators by channel · cells + cell: the value and how many contributions it had. -/
abbrev GridAcc := SMap (FV × Nat)

/-- One contribution through one map entry. -/
def contrib (j : FJob) (acc : GridAcc) (ch cell : Nat) (v : FV) : GridAcc :=
  let k := ch * (fjW j * fjH j) + cell
  let o := SMap.get (.num false 0 1, 0) acc k
  let mode := bitsN ((j.chans[ch]?).getD 0).toNat 63 62
  let nv := if o.2 = 0 then (if mode = 1 then v else f32add o.1 v) else if mode = 1 then o.1.max v else f32add o.1 v
  SMap.put (.num false 0 1, 0) acc k (nv, o.2 + 1)

/-- The contributions of one source value at a cell, map entries in order. -/
def contribAll (j : FJob) (x : FSrc) (acc : GridAcc) (cell : Nat) (val : Nat → Option FV) : GridAcc :=
  x.maps.foldl (fun acc m =>
    match val (bitsN m.toNat 31 24) with
    | some v => contrib j acc (bitsN m.toNat 23 16) cell (f32mul v (fmtDec 8 (bitsN m.toNat 15 0)))
    | none => acc) acc

/-- The contributions of a GRID_IMG source (R291). -/
def State.gridImg (s : State) (g : Graph) (j : FJob) (x : FSrc) (b : XBank) (z : Sel) (acc : GridAcc) : GridAcc :=
  match (z.a.map FSample.data : Option FData) with
  | some (.grid _ ws hs cs _) =>
    (List.range (fjW j * fjH j)).foldl (fun acc cell =>
      match s.projectUV g b (fsNear x) (cellCentre j (cell % fjW j) (cell / fjW j)) with
      | none => acc
      | some uv =>
        let fu := f32sub (f32div (f32add uv.1 fHalf) (fsStride x)) fHalf
        let fv := f32sub (f32div (f32add uv.2 fHalf) (fsStride x)) fHalf
        if fu.lt (.num false 0 1) ∨ fv.lt (.num false 0 1) ∨ (f32nat (ws - 1)).lt fu ∨ (f32nat (hs - 1)).lt fv then acc
        else
          match fu.floor, fv.floor with
          | some i, some jj =>
            let i := i.toNat
            let jj := jj.toNat
            let wx := f32sub fu (f32nat i)
            let wy := f32sub fv (f32nat jj)
            let f := fun (c a b : Nat) => z.gridVal (fsScale x) (min a (ws - 1)) (min b (hs - 1)) c
            contribAll j x acc cell (fun c =>
              if cs ≤ c then none
              else
                let top := f32add (f c i jj) (f32mul wx (f32sub (f c (i + 1) jj) (f c i jj)))
                let bot := f32add (f c i (jj + 1)) (f32mul wx (f32sub (f c (i + 1) (jj + 1)) (f c i (jj + 1))))
                some (f32add top (f32mul wy (f32sub bot top))))
          | _, _ => acc) acc
  | _ => acc

/-- The contributions of a POINTS source (R292). -/
def gridPoints (j : FJob) (x : FSrc) (b : XBank) (l : List (Nat × Nat × Nat × Nat)) (acc : GridAcc) : GridAcc :=
  l.foldl (fun acc p =>
    let v := toVehicle b (f32of p.1) (f32of p.2.1) (f32of p.2.2.1)
    if !(fsNear x).le v.2.2 ∨ !v.2.2.le (fsFar x) then acc
    else match cellOf j v.1 v.2.1 with
    | none => acc
    | some cell => contribAll j x acc cell (fun c => match c with | 0 => some (.num false 1 1) | 1 => some v.2.2 | 2 => some (f32of p.2.2.2) | _ => none)) acc

/-- The contributions of a detection source (R293). -/
def State.gridDets (s : State) (g : Graph) (j : FJob) (x : FSrc) (b : XBank) (l : List FDet) (acc : GridAcc) : GridAcc :=
  l.foldl (fun acc d =>
    match s.detMeas g j x b d with
    | .meas px py _ _ =>
      (match cellOf j px py with
      | none => acc
      | some cell => contribAll j x acc cell (fun c => if c = d.cls then some (f32of d.score) else none))
    | _ => acc) acc

/-- The contributions of one source at an instant. -/
def State.gridSource (s : State) (g : Graph) (j : FJob) (x : FSrc) (tf : Nat) (z : Sel) (acc : GridAcc) : GridAcc :=
  if !z.contrib then acc
  else match z.a with
  | none => acc
  | some n =>
    match n.data with
    | .grid .. => s.gridImg g j x (x.bankFor tf) z acc
    | .points l => gridPoints j x (x.bankFor tf) l acc
    | .dets l => s.gridDets g j x (x.bankFor n.tick) l acc
    | .aux _ => acc

/-- The grid's bytes in planar layout. -/
def gridBytes (j : FJob) (acc : GridAcc) : List (BitVec 8) :=
  let w := fjW j
  let cells := w * fjH j
  let out := fun (ch cell : Nat) =>
    let o := SMap.get (.num false 0 1, 0) acc (ch * cells + cell)
    let e := ((j.chans[ch]?).getD 0).toNat
    let v := if bitsN e 63 62 = 2 ∧ 0 < o.2 then f32div o.1 (f32nat o.2) else o.1
    fmtEnc (fjFmt j) (f32mul v (f32of (bitsN e 31 0)))
  (List.range (fjH j)).flatMap (fun y => (List.range ((fjNch j + 31) / 32)).flatMap (fun n => (List.range w).flatMap (fun x =>
    packElems (fmtBits (fjFmt j)) ((List.range 32).map (fun k => if n * 32 + k < fjNch j then out (n * 32 + k) (y * w + x) else 0)))))

/-! ## The instant (R295–R304) -/

/-- AGE of a source at an instant (R302). -/
def selAge (x : FSrc) (tf : Nat) (z : Sel) : Nat :=
  if z.contrib then
    let old := z.used.foldl (fun (m : Option FSample) n => match m with | none => some n | some k => if n.tick < k.tick then some n else some k) none
    match old with
    | some n => unsig 32 ((tf : Int) - n.tick + n.age)
    | none => 0
  else if z.state = 5 then unsig 32 ((tf : Int) - ((x.samples.getLast?.map (·.tick)).getD 0 : Nat))
  else 0xFFFFFFFF

/-- T_USED (Table 11.7). -/
def selUsed (x : FSrc) (z : Sel) : Nat :=
  if z.contrib then ((z.used.map (·.tick)).foldl max 0) % 2 ^ 32
  else if z.state = 5 then ((x.samples.getLast?.map (·.tick)).getD 0) % 2 ^ 32 else 0

/-- A source is stale (R300). -/
def State.isStale (s : State) (j : FJob) (x : FSrc) (tf : Nat) (z : Sel) : Bool :=
  let lim := fsStale x * 1000
  decide (0 < fsStale x) && (if !x.delivered then decide (lim < (tf - j.start) * s.tickLen) else decide (lim < selAge x tf z * s.tickLen))

/-- The batch of a sample (R307) and what converting its detections counts; none of them where the mesh may not be read. -/
def State.batchOf (s : State) (g : Graph) (j : FJob) (x : FSrc) (slot : Nat) (n : FSample) : Batch × Nat × Nat × Nat :=
  match n.data with
  | .dets l =>
    let l := if fsKind x = 3 && !s.meshOk g (x.bankFor n.tick) then [] else l
    let r := l.map (fun d => (d, s.detMeas g j x (x.bankFor n.tick) d))
    let ms := r.filterMap (fun p => match p.2 with
      | .meas px py w h => some ({ idx := 0, x := f32bits px, y := f32bits py, w := f32bits w, l := f32bits h, cls := p.1.cls, score := p.1.score } : Meas)
      | _ => none)
    let num := ((List.range ms.length).map (fun i => (ms[i]?).map (fun m => { m with idx := i }))).filterMap id
    ({ tick := n.tick, slot := slot, late := n.late, meas := num }, (r.filter (fun p => p.2 = .noGround)).length,
      (r.filter (fun p => p.2 = .range)).length, (r.filter (fun p => p.2 = .nan)).length)
  | _ => ({ tick := n.tick, slot := slot, late := n.late, meas := [] }, 0, 0, 0)

/-- Insert a batch by tick, then descending slot. -/
def insBatch (n : Batch) : List Batch → List Batch
  | [] => [n]
  | y :: r => if n.tick < y.tick ∨ (n.tick = y.tick ∧ y.slot < n.slot) then n :: y :: r else y :: insBatch n r

/-- T_fuse of R304 for what an instant used. -/
def State.tFuse (_s : State) (j : FJob) (sels : List (Nat × FSrc × Sel)) (payload : Nat) : Nat :=
  let cells := fjW j * fjH j
  2000 + (sels.map (fun p =>
    match (p.2.2.a.map FSample.data : Option FData) with
    | some (.dets l) => (l.length + 1) / 2
    | some (.points l) => 2 * ((l.length + 7) / 8)
    | some (.grid ..) => (cells + 3) / 4 + (if p.2.2.state = 2 then 2 else 1) * ((cells * p.2.1.maps.length + 15) / 16)
    | _ => 0)).foldl (· + ·) 0 + (64 + payload + 63) / 64

/-- Every source of a job is closed for what an instant needs. -/
def State.jobClosed (s : State) (j tf : Nat) : Bool := (s.jobSlots j).all (fun k => s.srcClosed (s.fsrc k) (fsNeed (s.fsrc k) tf))

/-- The detection batches of an instant reach the job's track set (R307). -/
def State.feedTm (s : State) (n tf : Nat) (forced : Bool) (lateCnt : Nat) : State :=
  let j := s.fjob n
  let g := s.graph j.graph
  let ds := (s.jobSlots n).filter (fun k => fsDet (s.fsrc k))
  let all := ds.flatMap (fun k => ((s.fsrc k).samples.filter (fun m => !m.tm && decide (m.tick ≤ tf))).map (fun m => (k, m)))
  let old := all.filter (fun p => decide (s.fsE (s.fsrc p.1) < tf - p.2.tick))
  let now := all.filter (fun p => decide (tf - p.2.tick ≤ s.fsE (s.fsrc p.1)))
  let bs := (now.map (fun p => (s.batchOf g j (s.fsrc p.1) p.1 p.2).1)).foldl (fun l b => insBatch b l) []
  let s := ds.foldl (fun s k => s.modFsrc k (fun x => { x with samples := x.samples.map (fun m => if m.tick ≤ tf then { m with tm := true } else m) })) s
  s.modTset (fjTset j) (fun t => { t with cycles := t.cycles ++ [{ tf := tf, forced := forced, lateCnt := lateCnt, lateDisc := old.length, batches := bs }] })

/-- Count what converting the detections of an instant drops, once per sample (R293). -/
def State.convCounts (s : State) (n tf : Nat) (sels : List (Nat × FSrc × Sel)) : State :=
  let j := s.fjob n
  let g := s.graph j.graph
  sels.foldl (fun s p =>
    if !fsDet p.2.1 then s
    else
      let ms := p.2.1.samples.filter (fun m => !m.conv && decide (m.tick ≤ tf))
      let s := ms.foldl (fun s m =>
        let r := s.batchOf g j p.2.1 p.1 m
        let s := ((s.bump (fuB + 0x130) r.2.1).bump (fuB + 0x138) r.2.2.1).bump (tmB + 0x260) r.2.2.2
        if 0 < r.2.2.2 then s.orReg (tmB + 4) 1 else s) s
      s.modFsrc p.1 (fun x => { x with samples := x.samples.map (fun m => if m.tick ≤ tf then { m with conv := true } else m) })) s

/-- A stale source reports once until it has been not stale (R300). -/
def State.staleNow (s : State) (n tf k : Nat) (stale : Bool) : State :=
  let was := (s.fsrc k).stale
  let s := s.modFsrc k (fun x => { x with stale := stale })
  if stale ∧ !was then
    ((s.orReg (fuB + 4) 8).bump (fuB + 0x140)).fault 0x81 0x10 (s.graph (s.fjob n).graph).slip (tf % 2 ^ 32)
  else s

/-- After an instant: late samples it did not use are discarded, transform changes it was the first to use are complete (R294, R297). -/
def State.fuseAfter (s : State) (n tf : Nat) (sels : List (Nat × FSrc × Sel)) : State :=
  sels.foldl (fun s p =>
    let used := p.2.2.used.map (·.tick)
    let gone := (s.fsrc p.1).samples.filter (fun m => m.late && !m.tried && !used.contains m.tick)
    let s := (s.bump (fuB + 0x118) gone.length).modFjob n (fun j => { j with lateDisc := j.lateDisc + gone.length })
    s.modFsrc p.1 (fun x => { x with
      samples := (x.samples.filter (fun m => !(m.late && !m.tried && !used.contains m.tick))).map (fun m => { m with tried := true }),
      pend := x.pend && decide (tf < x.since), state := p.2.2.state, age := selAge p.2.1 tf p.2.2, lateCnt := 0 })) s

/-- Table 11.7. -/
def State.fuseEntry (s : State) (tf k : Nat) (x : FSrc) (z : Sel) (stale : Bool) : List (BitVec 8) :=
  let _ := s
  let flags := stale.toNat + 2 * (z.contrib && z.used.any (·.late)).toNat + 4 * (z.contrib && z.used.any (·.gap)).toNat + 8 * z.shape.toNat
  let bank := match z.a with | some n => if fsDet x then x.bankFor n.tick else x.bankFor tf | none => x.bankFor tf
  hdr [(k, 1), (z.state, 1), (flags, 1), (0, 1), (min x.lateCnt 0xFFFF, 2), (xbVersion bank % 2 ^ 16, 2), (selAge x tf z, 4), (selUsed x z, 4)]

/-- The meshes an instant uses that the FU may not read, and its grid where it may not write it (R402). -/
def State.fuDenied (s : State) (g : Graph) (j : FJob) (tf : Nat) (sels : List (Nat × FSrc × Sel)) : Nat :=
  let mesh := sels.filter (fun p => p.2.2.contrib && (fsKind p.2.1 = 1 || fsKind p.2.1 = 3) &&
    !s.meshOk g (p.2.1.bankFor (match p.2.2.a with | some n => if fsDet p.2.1 then n.tick else tf | none => tf)))
  mesh.length + (if s.locOk g.slip (fjGrid j) (fjH j * ((fjNch j + 31) / 32) * fjW j * 4 * fmtBits (fjFmt j)) true then 0 else 1)

/-- FUSION_START (R295): the next instant of a job, once its sources are closed or WAIT_MAX has passed. -/
def State.fuse (s : State) (n : Nat) : State :=
  let j := s.fjob n
  let tf := j.next
  let closed := s.jobClosed n tf
  if !j.en ∨ !j.runs ∨ s.dom 42 ≠ 2 ∨ s.tim.tick < tf ∨ (!closed ∧ s.tim.tick < tf + fjWait j) then s
  else
    let g := s.graph j.graph
    let forced := !closed
    let sels := (s.jobSlots n).map (fun k => let x := s.fsrc k; (k, x, x.select tf (s.fsE x)))
    let den := s.fuDenied g j tf sels
    let bad := s.si.unitBad.contains 0x66 || decide (0 < den)
    let stales := sels.map (fun p => (p.1, s.isStale j p.2.1 tf p.2.2))
    let con := sels.filter (fun p => p.2.2.contrib)
    let invalid := bad || con.isEmpty
    let acc := if invalid then [] else sels.reverse.foldl (fun acc p => s.gridSource g j p.2.1 tf p.2.2 acc) []
    let grid := gridBytes j acc
    let aux := sels.filter (fun p => fsKind p.2.1 = 5)
    let ents := sels.flatMap (fun p => s.fuseEntry tf p.1 p.2.1 p.2.2 ((stales.find? (fun q => decide (q.1 = p.1))).any (·.2)))
    let auxs := aux.flatMap (fun p => hdr [(if p.2.2.contrib then f32bits p.2.2.auxVal else 0, 4), (p.1, 1), (p.2.2.state, 1), (0, 2)])
    let pre := ents ++ auxs
    let pay := pre ++ List.replicate ((64 - pre.length % 64) % 64) 0 ++ grid
    let age := (con.map (fun p => selAge p.2.1 tf p.2.2)).foldl max 0
    let gap := con.any (fun p => p.2.2.used.any (·.gap))
    let lateUsed := con.any (fun p => p.2.2.used.any (·.late))
    let lateCnt := (sels.map (fun p => p.2.1.lateCnt)).foldl (· + ·) 0
    let detLate := ((sels.filter (fun p => fsDet p.2.1)).map (fun p => p.2.1.lateCnt)).foldl (· + ·) 0
    let flags := (s.slip g.slip).adaptive.toNat + 2 * invalid.toNat + 4 * gap.toNat + 8 * (stales.any (·.2)).toNat + 16 * forced.toNat + 32 * lateUsed.toNat
    let m := fun (p : Sel → Bool) => maskOf ((sels.filter (fun q => p q.2.2)).map (·.1))
    let fr := s.take
    let cyc := fr.1 % (s.tFuse j sels pay.length + 1)
    let s := fr.2.trace 0x66 g.slip 3 [j.graph, 2, tf]
    let s := ((s.bump (fuB + 0x100)).bump (fuB + 0x150) cyc).bump (fuB + 0x128) (sels.filter (fun p => p.2.2.shape)).length
    let s := s.bump (mcB + 0x3010) den
    let s := if forced then (s.bump (fuB + 0x108)).orReg (fuB + 4) 1 else s
    let s := stales.foldl (fun s p => s.staleNow n tf p.1 p.2) s
    let s := s.convCounts n tf sels
    let s := if fjTset j = 0xFF then s else s.feedTm n tf forced detLate
    let s := s.fuseAfter n tf sels
    let ld := (s.fjob n).lateDisc
    let s := if s.locOk g.slip (fjGrid j) grid.length true then s.locPut g.slip g.quires (fjGrid j) 0 grid else s
    let b := hdr [(j.graph, 4), (n, 1), (flags, 1), (aux.length, 1), (sels.length, 1), (tf, 8), (s.tim.tick, 8), (age, 4), (min lateCnt 0xFFFF, 2), (min ld 0xFFFF, 2),
      (m Sel.contrib, 8), (m (fun z => decide (z.state = 3 ∨ z.state = 4)), 8), (m (fun z => decide (z.state = 5)), 8), (pay.length, 8)] ++ pay
    let s := s.handOver j.graph (fjOut j) {
      kind := .fused, graph := j.graph, tref := tf, layer := n, bytes := b.length, flags := flags,
      fields := [j.graph, n, aux.length, sels.length, tf, age, min lateCnt 0xFFFF, min ld 0xFFFF, m Sel.contrib,
        m (fun z => decide (z.state = 3 ∨ z.state = 4)), m (fun z => decide (z.state = 5)), pay.length],
      payload := pay.map (·.toNat) } b
    let s := s.modFjob n (fun j => { j with
      next := tf + fjPeriod j, lateDisc := 0,
      forced := if forced then some tf else j.forced })
    s.rerunEnd 0x66

def execFusionStart (j : BitVec 3) (s : State) : Host.Outcome State Fault Refusal := .next (s.fuse j.toNat)

end Sys2Proof.Machine
end

