-- ==== Sys2Proof/Machine/Track.lean ====
section
/-! DEFINITION. The Track Manager (11, R305–R315): prediction, gating, association, update, births, states and the track record. -/
namespace Sys2Proof.Machine

/-! ## Fields (Table 11.8) -/

def ttSlots (t : TSet) : Nat := jf t.words 0 2
def ttCA (t : TSet) : Bool := jf t.words 2 1 = 1
def ttConfM (t : TSet) : Nat := jf t.words 3 1
def ttConfN (t : TSet) : Nat := jf t.words 4 1
def ttDelMiss (t : TSet) : Nat := jf t.words 5 1
def ttReport (t : TSet) : Nat := jf t.words 6 1
def ttFlags (t : TSet) : Nat := jf t.words 7 1
def ttF (t : TSet) (o : Nat) : FV := f32of (jf t.words o 4)
def ttPairMax (t : TSet) : Nat := jf t.words 0x28 2
def ttOut (t : TSet) : Nat := jf t.words 0x2A 1
/-- State variables: 4 under CV, 6 under CA. -/
def ttN (t : TSet) : Nat := if ttCA t then 6 else 4

/-! ## Matrices in FP32: products sum in ascending index (R306) -/

abbrev Mat := List (List FV)

def fZero : FV := .num false 0 1
def fOne : FV := .num false 1 1

/-- Σ, left to right from the first term. -/
def f32sum : List FV → FV
  | [] => fZero
  | v :: r => r.foldl f32add v

def Mat.at_ (m : Mat) (i j : Nat) : FV := (((m[i]?).getD [])[j]?).getD fZero
def mkMat (r c : Nat) (f : Nat → Nat → FV) : Mat := (List.range r).map (fun i => (List.range c).map (fun j => f i j))
def Mat.mul (a b : Mat) (r k c : Nat) : Mat := mkMat r c (fun i j => f32sum ((List.range k).map (fun l => f32mul (a.at_ i l) (b.at_ l j))))
def Mat.tr (a : Mat) (r c : Nat) : Mat := mkMat c r (fun i j => a.at_ j i)
def Mat.add (a b : Mat) (r c : Nat) : Mat := mkMat r c (fun i j => f32add (a.at_ i j) (b.at_ i j))

def Track.xv (k : Track) : List FV := k.x.map f32of
def Track.pm (k : Track) : Mat := k.p.map (fun r => r.map f32of)

/-! ## Prediction (R306) -/

/-- dt in seconds, from an exact tick difference. -/
def State.dtOf (s : State) (d : Int) : FV := (FV.num (decide (d < 0)) (d.natAbs * s.tickLen) (10 ^ 9)).r32

/-- F: the derivative of state variable i + 2 feeds variable i of the same axis. -/
def matF (n : Nat) (dt : FV) : Mat :=
  mkMat n n (fun i j => if i = j then fOne else if j = i + 2 then dt else if j = i + 4 then f32div (f32mul dt dt) fTwo else fZero)

/-- Q of one axis at orders a, b (0 position, 1 velocity, 2 acceleration), left to right. -/
def axisQ (ca : Bool) (q h : FV) (a b : Nat) : FV :=
  let pw := fun (k : Nat) => f32sum [(List.range (k - 1)).foldl (fun v _ => f32mul v h) h]
  let e := fun (k d : Nat) => f32mul q (if d = 1 then pw k else f32div (pw k) (f32nat d))
  if ca then
    match a + b, (a = b : Bool) with
    | 0, _ => e 5 20
    | 1, _ => e 4 8
    | 2, true => e 3 3
    | 2, false => e 3 6
    | 3, _ => e 2 2
    | _, _ => e 1 1
  else match a + b with
    | 0 => e 3 3
    | 1 => e 2 2
    | _ => e 1 1

def matQ (n : Nat) (ca : Bool) (q h : FV) : Mat := mkMat n n (fun i j => if i % 2 = j % 2 then axisQ ca q h (i / 2) (j / 2) else fZero)

/-- Predict a track to a tick. -/
def State.predict (s : State) (t : TSet) (k : Track) (upTo : Nat) : Track :=
  let n := ttN t
  let d : Int := (upTo : Int) - k.at_
  let dt := s.dtOf d
  let f := matF n dt
  let x := f.mul (k.xv.map (fun v => [v])) n n 1
  let p := ((f.mul k.pm n n n).mul (f.tr n n) n n n).add (matQ n (ttCA t) (ttF t 0xC) (s.dtOf d.natAbs)) n n
  if d = 0 then k else { k with x := x.map (fun r => f32bits (r.headD fZero)), p := p.map (fun r => r.map f32bits), at_ := upTo }

/-! ## Gating and association (R308, R309) -/

/-- S⁻¹ of the 2 × 2 matrix S, each entry rounded once. -/
def inv2 (a b c d : FV) : FV × FV × FV × FV :=
  let det := (a.mul d).add (b.mul c).neg
  (((d.div det).r32), (((b.neg).div det).r32), (((c.neg).div det).r32), ((a.div det).r32))

/-- S = H·P·Hᵀ + R. -/
def matS (p : Mat) (rx ry : FV) : FV × FV × FV × FV := (f32add (p.at_ 0 0) rx, p.at_ 0 1, p.at_ 1 0, f32add (p.at_ 1 1) ry)

/-- d² of a track and a measurement. -/
def gateD2 (k : Track) (rx ry : FV) (m : Meas) : FV :=
  let p := k.pm
  let y0 := f32sub (f32of m.x) ((k.xv[0]?).getD fZero)
  let y1 := f32sub (f32of m.y) ((k.xv[1]?).getD fZero)
  let sm := matS p rx ry
  let i := inv2 sm.1 sm.2.1 sm.2.2.1 sm.2.2.2
  let v0 := f32add (f32mul y0 i.1) (f32mul y1 i.2.2.1)
  let v1 := f32add (f32mul y0 i.2.1) (f32mul y1 i.2.2.2)
  f32add (f32mul v0 y0) (f32mul v1 y1)

/-- A gated pair: d², track ID, track slot, measurement index. -/
structure GPair where
  d2   : FV
  id   : Nat
  slot : Nat
  m    : Nat

def GPair.before (a b : GPair) : Bool :=
  a.d2.lt b.d2 || (!b.d2.lt a.d2 && (decide (a.id < b.id) || (decide (a.id = b.id) && decide (a.m < b.m))))

def insGPair (n : GPair) : List GPair → List GPair
  | [] => [n]
  | y :: r => if n.before y then n :: y :: r else y :: insGPair n r

/-- The gated pairs of a batch in order. -/
def gatedPairs (t : TSet) (rx ry : FV) (b : Batch) : List GPair :=
  let anyCls := (ttFlags t).testBit 0
  (t.tracks.flatMap (fun e => match e.2 with
    | some k => if k.state = 4 then [] else b.meas.filterMap (fun m =>
        let d := gateD2 k rx ry m
        if d.le (ttF t 8) && (anyCls || k.cls = m.cls) then some ({ d2 := d, id := k.id, slot := e.1, m := m.idx } : GPair) else none)
    | none => [])).foldl (fun l p => insGPair p l) []

/-- Take pairs in order while neither side is associated: (slot, measurement). -/
def associate : List GPair → List (Nat × Nat) → List (Nat × Nat)
  | [], done => done
  | p :: r, done => if done.any (fun q => q.1 = p.slot || q.2 = p.m) then associate r done else associate r (done ++ [(p.slot, p.m)])

/-! ## Update and birth (R310, R311) -/

/-- Update a track with its measurement. -/
def updTrack (t : TSet) (rx ry : FV) (slot tick : Nat) (k : Track) (m : Meas) : Track :=
  let n := ttN t
  let p := k.pm
  let sm := matS p rx ry
  let i := inv2 sm.1 sm.2.1 sm.2.2.1 sm.2.2.2
  let g := mkMat n 2 (fun a c => if c = 0 then f32add (f32mul (p.at_ a 0) i.1) (f32mul (p.at_ a 1) i.2.2.1)
                                 else f32add (f32mul (p.at_ a 0) i.2.1) (f32mul (p.at_ a 1) i.2.2.2))
  let y0 := f32sub (f32of m.x) ((k.xv[0]?).getD fZero)
  let y1 := f32sub (f32of m.y) ((k.xv[1]?).getD fZero)
  let x := (List.range n).map (fun a => f32add ((k.xv[a]?).getD fZero) (f32add (f32mul (g.at_ a 0) y0) (f32mul (g.at_ a 1) y1)))
  let ikh := mkMat n n (fun a c => f32sub (if a = c then fOne else fZero) (if c < 2 then g.at_ a c else fZero))
  let r : Mat := [[rx, fZero], [fZero, ry]]
  let p' := ((ikh.mul p n n n).mul (ikh.tr n n) n n n).add ((g.mul r n 2 2).mul (g.tr n 2) n 2 n) n n
  let al := ttF t 0x24
  let sm := fun (o v : Nat) => f32bits (f32add (f32of o) (f32mul al (f32sub (f32of v) (f32of o))))
  { k with
    x := x.map f32bits, p := p'.map (fun r => r.map f32bits), w := sm k.w m.w, l := sm k.l m.l, score := m.score, lastHit := tick,
    cls := if (ttFlags t).testBit 0 then m.cls else k.cls, hitNow := true, src := slot }

/-- The next value of the ID counter (R313): 1 after the last, values of live tracks skipped. -/
def idAfter (live : List Nat) : Nat → Nat → Nat
  | 0, n => n
  | fuel + 1, n => if n = 0 ∨ 2 ^ 32 ≤ n then idAfter live fuel 1 else if live.contains n then idAfter live fuel (n + 1) else n

/-- IDs in use. -/
def TSet.ids (t : TSet) : List Nat := t.tracks.filterMap (fun e => e.2.map (·.id))

/-- A birth in the lowest free slot; none when no slot is free. -/
def birth (t : TSet) (slot tick : Nat) (m : Meas) : Option TSet :=
  match (List.range (ttSlots t)).find? (fun i => (SMap.get none t.tracks i).isNone) with
  | none => none
  | some i =>
    let n := ttN t
    let live := t.ids
    let id := idAfter live (live.length + 2) t.idNext
    let d := fun (a : Nat) => if a < 2 then ttF t 0x10 else if a < 4 then ttF t 0x14 else ttF t 0x18
    let k : Track := {
      id := id, state := 1, miss := 0, cls := m.cls, x := [m.x, m.y] ++ List.replicate (n - 2) 0,
      p := (mkMat n n (fun a c => if a = c then d a else fZero)).map (fun r => r.map f32bits), w := m.w, l := m.l, score := m.score,
      at_ := tick, lastHit := tick, hits := 0, hitNow := true, src := slot, age := 0 }
    some { t with tracks := SMap.put none t.tracks i (some k), idNext := idAfter [] 1 (id + 1) }

/-! ## The cycle (R307, R312) -/

/-- Running counts of a cycle. -/
structure CycCnt where
  gated : Nat := 0
  assoc : Nat := 0
  births : Nat := 0
  noSlot : Nat := 0
  ovf    : Nat := 0
  kept   : Nat := 0

/-- One batch. -/
def State.tmBatch (s : State) (p : TSet × CycCnt) (b : Batch) : TSet × CycCnt :=
  let t := p.1
  let x := s.fsrc b.slot
  let rx := fsRxx x
  let ry := fsRyy x
  let t := { t with tracks := t.tracks.map (fun e => (e.1, e.2.map (fun k => s.predict t k b.tick))) }
  let all := gatedPairs t rx ry b
  let kept := all.take (ttPairMax t)
  let as := associate kept []
  let t := { t with tracks := t.tracks.map (fun e => (e.1, e.2.map (fun k =>
    match (as.find? (fun a => decide (a.1 = e.1))).bind (fun a => b.meas[a.2]?) with
    | some m => updTrack t rx ry b.slot b.tick k m
    | none => k))) }
  let free := b.meas.filter (fun m => !(as.any (fun a => decide (a.2 = m.idx))) && !(f32of m.score).lt (ttF t 0x1C) && decide (f32of m.score ≠ .nan) &&
    !((ttFlags t).testBit 1 && all.any (fun q => decide (q.m = m.idx))))
  let r := free.foldl (fun (q : TSet × Nat × Nat) m =>
    match birth q.1 b.slot b.tick m with
    | some t => (t, q.2.1 + 1, q.2.2)
    | none => (q.1, q.2.1, q.2.2 + 1)) (t, 0, 0)
  (r.1, { gated := p.2.gated + all.length, assoc := p.2.assoc + as.length, births := p.2.births + r.2.1, noSlot := p.2.noSlot + r.2.2,
          ovf := p.2.ovf + (if kept.length < all.length then 1 else 0), kept := p.2.kept + kept.length })

/-- Ones in a history's low n bits. -/
def ones (n h : Nat) : Nat := ((List.range n).filter (fun i => h.testBit i)).length

/-- The state rules at the end of a cycle (Table 11.9); `inside`: the position lies in the grid. -/
def Track.rules (k : Track) (t : TSet) (inside : Bool) : Track :=
  let h := (2 * k.hits + k.hitNow.toNat) % 2 ^ 16
  let k := { k with hits := h, age := k.age + 1 }
  let miss := if k.hitNow then 0 else min 255 (k.miss + 1)
  let k := match k.state with
    | 1 => { k with miss := miss, state := if ttConfM t ≤ ones (ttConfN t) h then 2 else if ttConfN t ≤ k.age then 4 else 1 }
    | 2 => { k with miss := if k.hitNow then 0 else 1, state := if k.hitNow then 2 else 3 }
    | 3 => { k with miss := miss, state := if k.hitNow then 2 else if ttDelMiss t ≤ k.miss + 1 then 4 else 3 }
    | _ => k
  let pv := f32add (f32of (((k.p[0]?).getD [])[0]?.getD 0)) (f32of (((k.p[1]?).getD [])[1]?.getD 0))
  let k := if k.state ≠ 4 ∧ ((ttF t 0x20).lt pv ∨ !inside) then { k with state := 4 } else k
  { k with hitNow := false }

/-- Table 11.11. -/
def Track.entry (k : Track) : List (BitVec 8) :=
  let x := fun (i : Nat) => (k.x[i]?).getD 0
  let p := fun (i j : Nat) => (((k.p[i]?).getD [])[j]?).getD 0
  hdr [(k.id, 4), (k.state, 1), (k.miss, 1), (k.cls, 2), (x 0, 4), (x 1, 4), (x 2, 4), (x 3, 4), (x 4, 4), (x 5, 4), (k.w, 4), (k.l, 4),
    (p 0 0, 4), (p 0 1, 4), (p 1 1, 4), (k.score, 4), (k.lastHit % 2 ^ 32, 4), (k.hits, 2), (k.src, 1), (0, 1)]

/-- Insert a track by ID. -/
def insTrack (n : Track) : List Track → List Track
  | [] => [n]
  | y :: r => if n.id < y.id then n :: y :: r else y :: insTrack n r

/-- ⌈log2 v⌉. -/
def clog2 (v : Nat) : Nat := Nat.log2 v + (if 2 ^ Nat.log2 v = v then 0 else 1)

/-- The job that feeds a set. -/
def State.feeder (s : State) (n : Nat) : FJob := ((s.fu.jobs.find? (fun e => e.2.en && fjTset e.2 = n)).map (·.2)).getD {}

/-- TRACK_CYCLE (R307–R315): the oldest cycle that a set owes. -/
def State.track (s : State) (n : Nat) : State :=
  let t := s.tset n
  match t.cycles with
  | [] => s
  | c :: rest =>
    if !t.en ∨ s.dom 42 ≠ 2 then s
    else
      let g := s.graph t.graph
      let j := s.feeder n
      let bad := s.si.unitBad.contains 0x67
      -- DELETED tracks are FREE from this cycle on; a TRACK_CLEAR may empty the set
      let keep := t.tracks.filter (fun e => e.2.any (fun k => decide (k.state ≠ 4)))
      let clear := t.clearAt.any (fun a => decide (a ≤ c.tf))
      let t := { t with cycles := rest, tracks := if clear then [] else keep, clearAt := if clear then none else t.clearAt }
      let r := c.batches.foldl s.tmBatch (t, {})
      let cnt := r.2
      let before := (r.1.tracks.filter (fun e => e.2.any (fun k => k.state = 2))).map (·.1)
      let t := { r.1 with tracks := r.1.tracks.map (fun e => (e.1, e.2.map (fun k =>
        let k := s.predict r.1 k c.tf
        k.rules r.1 (cellOf j (f32of ((k.x[0]?).getD 0)) (f32of ((k.x[1]?).getD 0))).isSome))) }
      let was1 := (r.1.tracks.filter (fun e => e.2.any (fun k => k.state = 1))).map (·.1)
      let conf := (t.tracks.filter (fun e => was1.contains e.1 && !before.contains e.1 && e.2.any (fun k => k.state = 2))).length
      let dels := (t.tracks.filter (fun e => e.2.any (fun k => k.state = 4))).length
      let live := t.tracks.filterMap (·.2)
      let listed := if bad then [] else (live.filter (fun k => (ttReport t).testBit (k.state - 1))).foldl (fun l k => insTrack k l) []
      let hits := (listed.filter (fun k => k.state = 2 || k.state = 3)).map (·.lastHit)
      let age := match hits with | [] => 0 | h :: r => c.tf - r.foldl min h
      let meas := (c.batches.map (fun b => b.meas.length)).foldl (· + ·) 0
      let active := live.length
      let flags := (s.slip g.slip).adaptive.toNat + 2 * (bad || (c.batches.isEmpty && live.isEmpty)).toNat + 4 * c.forced.toNat + 8 * (decide (0 < cnt.noSlot)).toNat +
        16 * (decide (0 < cnt.ovf)).toNat + 32 * (c.batches.any (·.late)).toNat
      let pay := listed.flatMap Track.entry
      let nt := active
      let bound := 500 + (c.batches.map (fun b => let nm := b.meas.length; (nt + 3) / 4 + (nt * nm + 15) / 16 + (cnt.kept * clog2 (max cnt.kept 2) + 7) / 8 + (nm + 1) / 2 + nm)).foldl (· + ·) 0 +
        (nt + 3) / 4 + (nt + 7) / 8 + (64 + pay.length + 63) / 64
      let fr := s.take
      let s := (fr.2.modTset n (fun _ => t)).trace 0x67 g.slip 3 [t.graph, 3, c.tf]
      let k := tmB + 0x200
      let s := ((s.bump k).bump (k + 8) c.batches.length).bump (k + 0x10) meas
      let s := ((s.bump (k + 0x18) cnt.gated).bump (k + 0x20) cnt.assoc).bump (k + 0x28) cnt.births
      let s := ((s.bump (k + 0x30) conf).bump (k + 0x38) dels).bump (k + 0x40) cnt.noSlot
      let s := ((s.bump (k + 0x48) cnt.ovf).bump (k + 0x58) c.lateDisc).bump (k + 0x68) (fr.1 % (bound + 1))
      let s := if 0 < cnt.noSlot then s.orReg (tmB + 4) 4 else s
      let s := if 0 < cnt.ovf then s.orReg (tmB + 4) 2 else s
      let sat := min 0xFFFF
      let fields := [sat c.lateCnt, sat c.lateDisc, sat c.batches.length, sat cnt.births, sat dels, sat cnt.noSlot, meas, active]
      let b := hdr ([(t.graph, 4), (n, 1), (flags, 1), (listed.length, 2), (c.tf, 8), (s.tim.tick, 8), (age, 4), (sat c.lateCnt, 2), (sat c.lateDisc, 2),
        (sat c.batches.length, 2), (sat cnt.births, 2), (sat dels, 2), (sat cnt.noSlot, 2), (meas, 4), (active, 2), (0, 10), (pay.length, 8)]) ++ pay
      let s := s.handOver t.graph (ttOut t) {
        kind := .track, graph := t.graph, tref := c.tf, layer := n, bytes := b.length, flags := flags,
        fields := [t.graph, n, listed.length, c.tf, age] ++ fields ++ [pay.length], payload := pay.map (·.toNat) } b
      s.rerunEnd 0x67

def execTrackCycle (t : BitVec 3) (s : State) : Host.Outcome State Fault Refusal := .next (s.track t.toNat)

/-- TRACK_CLEAR: the set is emptied at its first cycle whose T_f is AT_TICK or later. -/
def State.trackClear (s : State) (f : Fetched) (set : Nat) : Res :=
  let t := s.tset set
  if 8 ≤ set ∨ !t.en ∨ t.graph ≠ f.objId.toNat then .err s stBadParam 5
  else .ok (s.modTset set (fun t => { t with clearAt := some (if f.atEn then s.tim.tick else 0) }))

def execTrackClear (h : CmdRef) (set : BitVec 8) (s : State) : Host.Outcome State Fault Refusal :=
  .next (s.cmd h 0x0603 (.trackClear h set) (fun s f => s.trackClear f set.toNat))

/-! ## Loading, starting and ending a fusion part (R282–R284, R305) -/

/-- Words with no field outside its range (Table 11.1). -/
def jobBad (i : FuJobInit) : Bool :=
  let j : FJob := { words := i.words, chans := i.chans }
  let n := jf i.words 0 1
  decide (n = 0 ∨ 64 < n) || decide (fjNch j = 0 ∨ 64 < fjNch j) || !(fjFmt j = 2 || fjFmt j = 8 || fjFmt j = 0xA) || decide (fjW j = 0 ∨ 1024 < fjW j) ||
    decide (fjH j = 0 ∨ 1024 < fjH j) || decide (fjPeriod j = 0 ∨ 2 ^ 30 < fjPeriod j) || decide (fjPeriod j ≤ fjPhase j) || decide (fjWait j = 0 ∨ 2 ^ 20 < fjWait j) ||
    !(fZero.lt (fjCell j)) || (decide (8 ≤ fjTset j) && decide (fjTset j ≠ 0xFF)) || decide (i.chans.length ≠ fjNch j) || i.chans.any (fun e => bitsN e.toNat 63 62 = 3) ||
    decide (8 ≤ i.num) || decide (jf i.words 0x25 3 ≠ 0) || decide ((i.words[6]?).getD 0 ≠ 0) || decide ((i.words[7]?).getD 0 ≠ 0)

/-- R284 and the ranges of Table 11.2, for a job with nCh channels. -/
def srcBad (i : FuSrcInit) (nCh : Nat) : Bool :=
  let x : FSrc := { words := i.words, maps := i.maps }
  let k := fsKind x
  decide (k = 0 ∨ 5 < k) || decide (1 < jf i.words 2 1) || (fsLinear x && !(k = 1 || k = 5)) || (k = 5 && !i.maps.isEmpty) || (k = 5 && fsExternal x) ||
    (!fsExternal x && (k = 2 || k = 4)) || decide (16 < i.maps.length) || decide (jf i.words 4 1 ≠ i.maps.length) || i.maps.any (fun m => decide (nCh ≤ bitsN m.toNat 23 16)) ||
    decide (64 ≤ jf i.words 0 1) || decide (fsExtrap x = 0 ∨ 1000000 < fsExtrap x) || (fsExternal x && decide (fsCloseLag x = 0 ∨ 2 ^ 20 < fsCloseLag x)) ||
    (fsLinear x && decide (fsLook x = 0 ∨ 2 ^ 20 < fsLook x)) || (k ≠ 5 && decide (jf i.words 5 1 ≠ 0)) || decide (jf i.words 6 2 ≠ 0) || decide (jf i.words 0x34 4 ≠ 0)

/-- The ranges of Table 11.8. -/
def setBad (i : Nat × List (BitVec 64)) : Bool :=
  let t : TSet := { words := i.2 }
  decide (8 ≤ i.1) || decide (ttSlots t = 0 ∨ 4096 < ttSlots t) || decide (1 < jf i.2 2 1) || decide (ttConfM t = 0 ∨ ttConfN t < ttConfM t) || decide (16 < ttConfN t) ||
    decide (ttDelMiss t = 0) || decide (ttPairMax t = 0 ∨ 16384 < ttPairMax t) || decide (16 ≤ ttReport t) || decide (4 ≤ ttFlags t)

/-- Track slots taken: (first, count). -/
def State.trackRuns (s : State) : List (Nat × Nat) := s.fu.sets.filterMap (fun e => if e.2.en then some (e.2.base, ttSlots e.2) else none)

/-- The lowest place for n track slots. -/
def placeRun (runs : List (Nat × Nat)) (n : Nat) : Option Nat :=
  ((0 :: runs.map (fun r => r.1 + r.2)).filter (fun b => decide (b + n ≤ 4096) && runs.all (fun r => decide (b + n ≤ r.1 ∨ r.1 + r.2 ≤ b)))).foldl
    (fun (m : Option Nat) b => match m with | none => some b | some a => some (min a b)) none

/-- The load checks of the fusion section (R282): a status and DETAIL. -/
def State.fuPartErr (s : State) (slip : Nat) (p : FuPart) : Option (Nat × Nat) :=
  let nch := fun (j : Nat) => ((p.jobs.find? (fun i => decide (i.num = j))).map (fun i => jf i.words 1 1)).getD 0
  if p.jobs.any jobBad ∨ p.srcs.any (fun i => srcBad i (nch i.job)) ∨ p.sets.any setBad ∨
     p.jobs.any (fun i => decide (jf i.words 0 1 ≠ (p.srcs.filter (fun x => decide (x.job = i.num))).length) ||
       decide (32 < (p.srcs.filter (fun x => decide (x.job = i.num) && jf x.words 1 1 = 5)).length)) ∨
     p.srcs.any (fun i => !(p.jobs.any (fun j => decide (j.num = i.job)))) then some (stBadParam, 3)
  else if p.srcs.any (fun i => decide (i.fromG ≠ 0) && !((s.graph i.fromG).exist && decide ((s.graph i.fromG).slip = slip))) ∨
     p.srcs.any (fun i => jf i.words 1 1 = 5 && decide (s.auxSlip i.chan ≠ slip)) then some (stNotPermitted, 0xB)
  else if p.jobs.any (fun i => (s.fjob i.num).en) ∨ p.srcs.any (fun i => (s.fsrc (jf i.words 0 1)).en) ∨ p.sets.any (fun i => (s.tset i.1).en) ∨
     4096 < ((s.trackRuns.map (·.2)) ++ p.sets.map (fun i => jf i.2 0 2)).foldl (· + ·) 0 then some (stNoResource, 0xA)
  else none

/-- Load the fusion section for a graph. -/
def State.loadFu (s : State) (g : Nat) (p : FuPart) : State :=
  let s := p.jobs.foldl (fun s i => s.modFjob i.num (fun _ => { en := true, graph := g, words := i.words, chans := i.chans, dram := i.dram })) s
  let s := p.srcs.foldl (fun s i =>
    let k := jf i.words 0 1
    let x : FSrc := { en := true, job := i.job, graph := g, words := i.words, maps := i.maps, fromG := if i.fromG = 0 then g else i.fromG, chan := i.chan,
                      bankA := { words := i.bank, dram := i.dram } }
    s.modFsrc k (fun _ => x)) s
  p.sets.foldl (fun s i => s.modTset i.1 (fun _ => { en := true, graph := g, words := i.2, base := (placeRun s.trackRuns (jf i.2 0 2)).getD 0 })) s

/-- The jobs of a graph begin: the first instant is at or after tick t. -/
def State.startFu (s : State) (g t : Nat) : State :=
  { s with fu := { s.fu with
      jobs := SMap.mapAll {} s.fu.jobs (fun _ j => if j.en && j.graph = g then
        { j with runs := true, start := t, next := t + (fjPhase j + fjPeriod j - t % max 1 (fjPeriod j)) % max 1 (fjPeriod j), lateDisc := 0, forced := none } else j),
      srcs := SMap.mapAll {} s.fu.srcs (fun _ x => if x.en && x.graph = g then { x with delivered := false, stale := false, lateCnt := 0 } else x) } }

/-- The jobs of a graph stop; cycles owed are dropped. -/
def State.stopFu (s : State) (g : Nat) : State :=
  { s with fu := { s.fu with
      jobs := SMap.mapAll {} s.fu.jobs (fun _ j => if j.en && j.graph = g then { j with runs := false } else j),
      srcs := SMap.mapAll {} s.fu.srcs (fun _ x => if x.en && x.graph = g then { x with pend := false } else x),
      sets := SMap.mapAll {} s.fu.sets (fun _ t => if t.en && t.graph = g then { t with cycles := [] } else t) } }

/-- Reference ticks of the fused and track records of a tick (R321, R324). -/
def State.fusionDues (s : State) (t : Nat) : State :=
  s.fu.jobs.foldl (fun s e =>
    let j := e.2
    if j.en && j.runs && decide (j.start ≤ t) && decide (t % max 1 (fjPeriod j) = fjPhase j) then
      let s := s.addDue j.graph .fused e.1 t
      if fjTset j = 0xFF then s else s.addDue j.graph .track (fjTset j) t
    else s) s

end Sys2Proof.Machine
end

