-- ==== Sys2Proof/Machine/Load.lean ====
section
/-! DEFINITION. Loading graphs: the checks of a package (R116, R124, R141, R150, R170–R176, R200, R208, R212, R218, R221–R224, R433, R434),
its placement on quires, and GRAPH_LOAD (R382). -/
namespace Sys2Proof.Machine

/-! ## Surfaces (R116, R170) -/

/-- The package states the D, τ₂ and EPOCH_MULT that the region holds. -/
def State.surfSame (s : State) (r d tau mult : Nat) : Bool := decide (s.surfD r = d ∧ s.surfTau r = tau ∧ s.surfMult r = mult)

/-! ## Delta descriptors (R171, R173, R176) -/

/-- Output size of a window operation (R176). -/
def outSize (size k s d pad : Nat) : Option Nat := if size + 2 * pad < d * (k - 1) + 1 then none else some ((size + 2 * pad - d * (k - 1) - 1) / s + 1)

/-- No kernel, strides, dilations or padding. -/
def dlPlain (l : Desc64) : Bool := decide (dlKW l = 1 ∧ dlKH l = 1 ∧ dlSX l = 1 ∧ dlSY l = 1 ∧ dlDX l = 1 ∧ dlDY l = 1 ∧ dlPadL l = 0 ∧ dlPadT l = 0)

/-- Geometry of a layer other than INPUT over its sources (R176). -/
def dlGeomOk (l a b : Desc64) : Bool :=
  match dlOp l with
  | 4 => decide (dlW l = 1 ∧ dlH l = 1) && dlPlain l
  | 7 => decide (dlW l = dlW a ∧ dlH l = dlH a ∧ dlC l = dlC a ∧ dlW l = dlW b ∧ dlH l = dlH b ∧ dlC l = dlC b) && dlPlain l
  | op =>
    decide (outSize (dlW a) (dlKW l) (dlSX l) (dlDX l) (dlPadL l) = some (dlW l)) && decide (outSize (dlH a) (dlKH l) (dlSY l) (dlDY l) (dlPadT l) = some (dlH l)) &&
      (op = 2 || (op = 3 && decide (dlC l = dlCin l * dlMultiplier l)) || decide (dlC l = dlC a))

/-- Reserved bits of a delta layer descriptor are 0 (Table 7.2). -/
def dlRsvOk (l : Desc64) : Bool :=
  decide (lf l 0 16 0 = 0 ∧ lf l 1 1 0 = 0 ∧ lf l 2 7 0 = 0 ∧ lf l 7 23 0 = 0) &&
  (match dlOp l with
   | 1 => decide (lf l 3 34 0 = 0)
   | 3 => decide (lf l 3 55 0 = 0)
   | 7 => decide (lf l 3 31 0 = 0)
   | _ => decide (lf l 3 63 0 = 0)) && (dlOp l = 7 || decide (dlSrcB l = 0))

/-- A layer other than INPUT is well formed over the layers before it (R171, R176, R166). -/
def dlLayerOk (ls : List Desc64) (i : Nat) (l : Desc64) : Bool :=
  let a := (ls[dlSrcA l]?).getD []
  let b := (ls[dlSrcB l]?).getD []
  decide (2 ≤ dlOp l ∧ dlOp l ≤ 7 ∧ dlAct l ≠ 3 ∧ dlGrind l ≤ dlGrindMax l ∧ dlSrcA l < i ∧ dlSrcB l < i) &&
  decide (2 ≤ dlAFmt l ∧ dlAFmt l ≤ 4 ∧ dlWFmt l ≤ 2 ∧ 2 ≤ dlOutFmt l ∧ dlOutFmt l ≤ 4) &&
  decide (dlAFmt l = dlOutFmt a ∧ dlCin l = dlC a) && (dlOp l ≠ 7 || decide (dlAFmt l = dlOutFmt b)) &&
  decide (dlShift l ≤ 47) && (dlOp l = 5 || decide (1 ≤ dlMult l)) && (dlAct l ≠ 2 || decide (1 ≤ dlMultN l)) && dlGeomOk l a b &&
  (dlOp l ≠ 3 || decide (1 ≤ dlMultiplier l)) && (decide (dlReadChan l < 64) || dlReadChan l = 0xFF)

/-- The INPUT layer on a sensor of w × h (R173, R176). -/
def dlInputOk (l : Desc64) (w h : Nat) : Bool :=
  decide (dlOp l = 1 ∧ dlInMode l ≤ 2 ∧ dlXfmt l ≤ 1 ∧ dlW l = w ∧ dlH l = h ∧ dlC l = (if dlInMode l = 2 then 2 else 1) ∧
          dlOutFmt l = (if dlXfmt l = 0 then 3 else 4) ∧ dlCin l = 1 ∧ dlGrind l ≤ dlGrindMax l ∧ 10 ≤ lf l 3 39 35 ∧ lf l 3 39 35 ≤ 26 ∧ dlSrcA l = 0) &&
  !(dlInMode l = 1 && dlXfmt l = 0) && dlPlain l

/-- Every layer of a delta part, and its bands. -/
def State.deltaBad (s : State) (p : DeltaPart) (nq : Nat) : Bool :=
  let ls := p.layers
  let inp := ls.headD []
  decide (ls.length = 0 ∨ 64 < ls.length) || ls.any (fun l => decide (l.length ≠ 8) || !dlRsvOk l) ||
  !dlInputOk inp (s.geomW (dlRegion inp)) (s.geomH (dlRegion inp)) || (s.paired (dlRegion inp) && decide (dlRegion inp % 2 = 1)) ||
  (List.range ls.length).any (fun i => let l := (ls[i]?).getD []
    decide (dlLayer l ≠ i) || (decide (0 < i) && !dlLayerOk ls i l) ||
    (let b := (p.bands[i]?).getD []
     decide (b.length ≠ (dlH l + dlBand l - 1) / dlBand l) || b.any (fun q => decide (nq ≤ q))))

/-- R170 on the surface of a delta part; one whose first layer is not INPUT names none, and fails as a descriptor. -/
def State.deltaSurfBad (s : State) (p : DeltaPart) : Bool :=
  let inp := p.layers.headD []
  let r := dlRegion inp
  decide (dlOp inp = 1) && (!s.surfEn r || !s.surfSame r p.surfD p.tau2 p.mult || s.horizonShort r || decide (dlG inp = 0 ∨ s.surfL r ≤ dlG inp) ||
    decide (15 * s.surfTau r - 1 < s.surfL r + dlG inp))

/-! ## Readout headers and descriptors (R200, R208, R212, R213, R218, R221) -/

/-- The header of Table 8.1. -/
def ReadoutPart.hdrBad (p : ReadoutPart) : Bool :=
  decide (p.sched = 0 ∨ 3 < p.sched) || decide (p.nLayers = 0 ∨ 64 < p.nLayers ∨ p.nLayers ≠ p.layers.length) || decide (4 < p.nJobs ∨ p.nJobs ≠ p.jobs.length) ||
  !(decide (p.outChan < 64) || p.outChan = 0xFF) || (p.sched = 1 && decide (p.period = 0 ∨ 2 ^ 30 < p.period ∨ p.period ≤ p.phase)) || p.rsvdNZ

/-- Format classes of Table 6.4 on the AXE and EGE: integers and floating point. -/
def fmtInt (f : Nat) : Bool := f ≤ 5
def rlFmtOk (l : Desc64) : Bool :=
  let a := rlAFmt l
  let w := rlWFmt l
  let weighted := rlOp l = 3 || rlOp l = 4 || rlOp l = 5
  decide (rlOutFmt l ≤ 0xC) &&
  (if rlEge l then
     [2, 3, 4, 8, 9].contains a && (!weighted || ([2, 3, 8, 9].contains w && fmtInt a = fmtInt w && (a ≠ 4 || w = 2)))
   else [0, 1, 2, 3, 6, 7, 8, 9, 0xB, 0xC].contains a && (!weighted || ([0, 1, 2, 3, 6, 7, 8, 9, 0xB, 0xC].contains w && fmtInt a = fmtInt w)))

/-- A floating-point layer: its operands are floating point. -/
def rlFloat (l : Desc64) : Bool := !fmtInt (rlAFmt l)

/-- Reserved bits of a readout layer descriptor are 0 (Tables 8.2, 8.3). -/
def rlRsvOk (l : Desc64) : Bool :=
  decide (lf l 0 23 0 = 0 ∧ lf l 2 1 0 = 0 ∧ lf l 7 23 20 = 0) && (rlOp l = 8 || decide (rlSrcB l = 0)) &&
  (match rlOp l with
   | 1 => decide (lf l 3 53 48 = 0)
   | 2 => decide (lf l 3 63 32 = 0)
   | 4 => decide (lf l 3 51 0 = 0)
   | 8 => rlFloat l || decide (lf l 3 31 0 = 0)
   | _ => decide (lf l 3 63 0 = 0))

def rlPlain (l : Desc64) : Bool := decide (rlKW l = 1 ∧ rlKH l = 1 ∧ rlSX l = 1 ∧ rlSY l = 1 ∧ rlDX l = 1 ∧ rlDY l = 1 ∧ rlPadL l = 0 ∧ rlPadT l = 0)

/-- Geometry of a layer over its sources (R212). -/
def rlGeomOk (l a b : Desc64) : Bool :=
  match rlOp l with
  | 5 => decide (rlW l = 1 ∧ rlH l = 1) && rlPlain l
  | 8 => decide (rlW l = rlW a ∧ rlH l = rlH a ∧ rlC l = rlC a ∧ rlW l = rlW b ∧ rlH l = rlH b ∧ rlC l = rlC b) && rlPlain l
  | op =>
    decide (outSize (rlW a) (rlKW l) (rlSX l) (rlDX l) (rlPadL l) = some (rlW l)) && decide (outSize (rlH a) (rlKH l) (rlSY l) (rlDY l) (rlPadT l) = some (rlH l)) &&
      (op = 3 || (op = 4 && decide (rlCin l % rlGroups l = 0 ∧ rlC l % rlGroups l = 0)) || decide (rlC l = rlC a))

/-- A layer other than the input layer (R212, R213, Table 8.5). -/
def rlLayerOk (ls : List Desc64) (i : Nat) (l : Desc64) : Bool :=
  let a := (ls[rlSrcA l]?).getD []
  let b := (ls[rlSrcB l]?).getD []
  let int := !rlFloat l
  decide (3 ≤ rlOp l ∧ rlOp l ≤ 8 ∧ rlAct l ≤ 4 ∧ rlSrcA l < i ∧ rlSrcB l < i ∧ rlShift l ≤ 47 ∧ rlKW l ≤ 11 ∧ rlKH l ≤ 11) && rlFmtOk l &&
  decide (rlCin l = rlC a) && rlGeomOk l a b && (if rlEge l then decide (rlEY l ≤ 11) else decide (rlEY l + rlSY l ≤ 16)) &&
  (!int || rlOp l = 6 || decide (1 ≤ rlMult l)) && (!(int && rlAct l = 2) || decide (1 ≤ rlMultN l)) &&
  (rlAct l ≠ 4 || (int && (rlOutFmt l = 2 || rlOutFmt l = 3) && decide (rlLut l % 32 = 0))) && (decide (rlOutChan l < 64) || rlOutChan l = 0xFF) &&
  (!rlEge l || ((rlOp l = 3 || rlOp l = 5) && decide (rlCin l ≤ 4 ∨ rlC l ≤ 8) && !rlFuse l))

/-- The SAMPLE layer on a surface (R208). -/
def State.sampleOk (s : State) (l : Desc64) : Bool :=
  let r := rlRegion l
  let per := if rlInMode l = 2 then 2 else 1
  decide (rlInMode l ≤ 2 ∧ rlXfmt l ≤ 2) && !(rlInMode l = 1 && rlXfmt l = 0) && decide (rlY0 l ≤ rlY1 l ∧ rlY1 l < s.geomH r) &&
  decide (rlW l = s.geomW r ∧ rlH l = rlY1 l + 1 - rlY0 l ∧ rlC l = rlNTau l * per) &&
  (List.range (rlNTau l)).all (fun k => decide (1 ≤ rlTau l k ∧ rlTau l k ≤ s.surfTau r)) && !(s.paired r && decide (r % 2 = 1))

/-- Line buffers of a chain at its stripe width (R217, R218). -/
def Readout.chainOk (d : Readout) (l w : Nat) : Bool :=
  let ch := d.chain 4 l
  let rows := (List.zip ch (d.widths ch w)).map (fun p =>
    let e := d.layer p.1
    (rlEY e + rlSY e) * ((rlWin e p.2 * ((rlCin e + 31) / 32) * 4 * fmtBits (rlAFmt e) + 4095) / 4096))
  decide (ch.length ≤ 4) && ch.all (fun m => !rlEge (d.layer m)) && decide (rows.foldl (fun (a b : Nat) => a + b) 0 ≤ 16) &&
    (List.zip ch (d.widths ch w)).all (fun p => decide (rlDX (d.layer p.1) * (rlKW (d.layer p.1) - 1) + 1 ≤ rlWin (d.layer p.1) p.2))

/-- The state of a readout part as loaded. -/
def readoutOf (p : ReadoutPart) : Readout :=
  { sched := p.sched, outChan := p.outChan, period := p.period, phase := p.phase, srcGraph := p.srcGraph, layers := p.layers, stripes := p.stripes,
    dramW := p.dramW, dramB := p.dramB, dramO := p.dramO, scaleW := p.scaleW, scaleO := p.scaleO,
    jobs := p.jobs.map (fun j => { words := j.words, levels := j.levels, anchorDram := j.anchorDram }) }

/-- A job's descriptor and levels (R223, R224). -/
def jobBad8 (d : Readout) (j : DppInit) : Bool :=
  let b := fun (o n : Nat) => jf j.words o n
  let f01 := fun (v : Nat) => (fmtDec 0xA v).le (fmtDec 0xA 0x3F800000) && !(fmtDec 0xA v).lt (fmtDec 0xA 0)
  let obj := if b 2 1 = 2 ∨ b 2 1 = 3 then 1 else 0
  decide (b 0 1 = 0 ∨ 4 < b 0 1 ∨ b 0 1 ≠ j.levels.length) || decide (3 < b 1 1 ∨ 3 < b 2 1 ∨ 3 < b 3 1 ∨ b 4 1 = 0 ∨ 4 ≤ b 5 1) ||
  decide (b 6 2 = 0 ∨ 16384 < b 6 2 ∨ b 8 2 = 0 ∨ 1024 < b 8 2) || !(decide (b 0xE 1 < 64) || b 0xE 1 = 0xFF) || decide (15 < b 0xF 1) || !f01 (b 0x14 4) ||
  decide (b 0x28 8 ≠ 0 ∨ b 0x30 8 ≠ 0 ∨ b 0x38 8 ≠ 0) ||
  j.levels.any (fun v =>
    let e := d.layer (jf v 0 1)
    decide (d.layers.length ≤ jf v 0 1) || rlFuse e || decide (rlOp e < 3) || decide (rlOutFmt e ≠ jf v 1 1) || !([2, 8, 0xA].contains (jf v 1 1)) ||
    decide (jf v 2 1 = 0 ∨ 16 < jf v 2 1) || (!(b 1 1 = 1 || b 1 1 = 3) && decide (jf v 2 1 ≠ 1)) || decide (rlC e ≠ jf v 2 1 * (4 + obj + b 4 1)) ||
    decide (jf v 0xE 2 ≠ 0 ∨ jf v 0x10 8 ≠ 0 ∨ jf v 0x18 8 ≠ 0))

/-- Every layer and job of a readout part. -/
def State.readoutBad (s : State) (p : ReadoutPart) (nq : Nat) : Bool :=
  let ls := p.layers
  let inp := ls.headD []
  let d := readoutOf p
  ls.any (fun l => decide (l.length ≠ 8) || !rlRsvOk l) ||
  !(if p.sched = 3 then decide (rlOp inp = 2) else decide (rlOp inp = 1) && s.sampleOk inp) ||
  (List.range ls.length).any (fun i => let l := (ls[i]?).getD []
    decide (rlLayer l ≠ i) || (decide (0 < i) && !rlLayerOk ls i l) ||
    (rlFuse l && (decide (ls.length ≤ i + 1) || decide (i = 0) || decide (rlSrcA ((ls[i + 1]?).getD []) ≠ i) || rlEge ((ls[i + 1]?).getD []))) ||
    (decide (0 < i) && !rlFuse l &&
      ((p.stripes[i]?).getD []).any (fun t => decide (nq ≤ t.1 ∨ t.2.2 = 0 ∨ rlW l < t.2.1 + t.2.2) || (!rlEge l && !d.chainOk i t.2.2)))) ||
  p.jobs.any (jobBad8 d)

/-! ## Channels and kernels (R124, R141) -/

/-- A channel entry that does not fit (R124). -/
def ChanInit.bad (c : ChanInit) : Bool := !c.isRibbon && decide (2 ^ 20 < c.base + c.isize * 32 * c.cap)

/-- Bytes of a quire's QSP that channel buffers take. -/
def Package.bufBytes (p : Package) (q : Nat) : Nat :=
  ((p.chans.filter (fun c => decide (c.quire = q) && !c.isRibbon)).map (fun c => c.isize * 32 * c.cap)).foldl (· + ·) 0

/-- A kernel object is refused (R141). -/
def Package.kernelBad (p : Package) (k : KernelInit) : Bool :=
  let b := fun (o n : Nat) => leVal ((k.hdr.drop o).take n)
  let vu := decide (b 6 1 = 1)
  let fits := (p.kernels.filter (fun x => decide (x.quire = k.quire))).map (fun x => let c := fun (o : Nat) => leVal ((x.hdr.drop o).take 4); c 0xC + c 0x10 + c 0x14)
  decide (k.hdr.length ≠ 96 ∨ b 0 4 ≠ 0x4B514F4B ∨ b 4 2 ≠ 1 ∨ b 6 1 = 0 ∨ 2 < b 6 1 ∨ 4 ≤ b 7 1) || (vu && (b 7 1).testBit 1) || (!vu && (b 7 1).testBit 0) ||
  decide (b 0xC 4 % 32 ≠ 0 ∨ 2 ^ 18 < b 0xC 4 ∨ b 0xC 4 ≠ k.code.length ∨ b 8 4 ≥ b 0xC 4 ∨ b 0x10 4 % 32 ≠ 0) || (vu && decide (b 0x14 4 ≠ 0)) ||
  decide (8 < b 0x18 1 ∨ 8 < b 0x19 1 ∨ 16 < b 0x1A 1 ∨ b 0x1B 1 ≠ 0 ∨ b 0x2C 4 = 0) || decide (b 0x30 48 ≠ Config.sha384 (k.code.map (·.toNat))) ||
  decide (k.decls.length ≠ b 0x18 1 + b 0x19 1 ∨ k.chans.length ≠ k.decls.length) || (if vu then decide (k.engine ≠ 4) else decide (k.engine ≠ 5 ∧ k.engine ≠ 6)) ||
  (List.zip k.decls k.chans).any (fun e => match p.chans.find? (fun c => decide (c.quire = k.quire ∧ c.chan = e.2)) with
    | none => true
    | some c => decide (c.isize ≠ e.1.toNat % 2 ^ 16) || decide (e.1.toNat / 2 ^ 16 = 0 ∨ (!c.isRibbon ∧ c.cap < e.1.toNat / 2 ^ 16))) ||
  decide (2 ^ 20 < Package.bufBytes p k.quire + fits.foldl (· + ·) 0)

/-- The kernel slot of a kernel object. -/
def kernelOf (k : KernelInit) : Kernel :=
  let b := fun (o n : Nat) => leVal ((k.hdr.drop o).take n)
  let io := (List.zip k.chans k.decls).map (fun e => (e.1, e.2.toNat / 2 ^ 16))
  { engine := k.engine, wcetFix := b 0x1C 4, wcetPer := b 0x20 4, memFix := b 0x24 4, memPer := b 0x28 4, itemMax := b 0x2C 4,
    ins := io.take (b 0x18 1), outs := io.drop (b 0x18 1), wait := k.wait }

/-- The channel entry of a package's channel: empty, with its producer's credits (R16). -/
def chanOf (c : ChanInit) : QChan :=
  { valid := true, prod := c.prod, cons := c.cons, isRibbon := c.isRibbon, base := c.base, isize := c.isize, cap := if c.isRibbon then 64 else c.cap,
    credits := if c.isRibbon then 64 else c.cap }

/-! ## Signature and binding (R433, R434) -/

/-- The signer is accepted. -/
def State.signerOk (s : State) (p : Package) : Bool :=
  p.sigOk && ((match s.sec.vault with
    | some v => decide (v.owner ≠ 0 ∧ p.signer = v.owner) || v.pubs.contains (Config.sha384 [p.signer])
    | none => false) || (p.vendor && decide (s.sec.life ≤ 1)))

/-- Strictly ascending. -/
def ascending : List Nat → Bool
  | a :: b :: r => decide (a < b) && ascending (b :: r)
  | _ => true

/-- The DETAIL of a package that this device may not load. -/
def State.pkgSecErr (s : State) (p : Package) : Option Nat :=
  if !s.signerOk p then some 1
  else match p.bind with
    | none => none
    | some b =>
      if !b.fmtOk ∨ b.uids.isEmpty ∨ 1024 < b.uids.length then some 3
      else if !b.uids.contains Config.deviceUid.toNat ∨ !ascending b.uids ∨ s.sec.life = 4 ∨ s.sec.dbgOpen then some 2
      else if !b.keyOk then some 1 else none

/-! ## Placement -/

/-- Quires of a slipcase that serve and hold no graph, in its order. -/
def State.freeQs (s : State) (n : Nat) : List Nat :=
  (s.slip n).quires.filter (fun q => decide (s.qState q = 1) && !s.graphs.any (fun e => e.2.exist && (e.2.quires ++ e.2.partners).contains q))

/-- Ports a package takes items from: the delta part's surface, and the attach ports. -/
def Package.ports (p : Package) : List Nat :=
  ((match p.delta with | some d => [dlRegion (d.layers.headD [])] | none => []) ++
   (match p.spk with | some k => (k.atts.filter (fun a => a.2.getLsbD 31)).map (fun a => a.1 % 16) | none => []) ++ p.derived.map (·.1)).eraseDups

/-- Ports of a readout part's sampled surface. -/
def Package.sampled (p : Package) : Option Nat :=
  p.readout.bind (fun r => if r.sched = 3 then none else some (rlRegion (r.layers.headD [])))

/-- A part names something of another slipcase (R170, R248, R282, R393). -/
def State.pkgForeign (s : State) (n : Nat) (qs : List Nat) (p : Package) : Bool :=
  let own := fun (r : Nat) => (s.slip n).hoppers.getLsbD r
  (Package.ports p).any (fun r => !own r) || (Package.sampled p).any (fun r => !(s.slip n).regions.getLsbD r) ||
  p.readout.any (fun r => decide (r.sched = 3) && (s.graph r.srcGraph).exist && decide ((s.graph r.srcGraph).slip ≠ n)) ||
  p.streams.any (fun k => decide ((s.strm (k % 4096)).state ≠ 0) && decide ((s.strm (k % 4096)).slip ≠ some n)) ||
  p.egress.any (fun e => decide ((s.strm (e.2 % 4096)).state ≠ 0) && decide ((s.strm (e.2 % 4096)).slip ≠ some n)) ||
  p.auxs.any (fun a => decide (s.auxSlip a.1 ≠ n)) || p.spk.any (fun k => s.spkForeign n qs k)

/-- The first check a package fails, in the order of Table 14.5, as STATUS and DETAIL. -/
def State.pkgErr (s : State) (n : Nat) (p : Package) : Option (Nat × Nat) :=
  let qs := (s.freeQs n).take p.nQuires
  let fu := p.fu.bind (s.fuPartErr n)
  let bad := fun (d : Nat) => some (stBadParam, d)
  match s.pkgSecErr p with
  | some d => bad d
  | none =>
    if !p.parses ∨ p.readout.any ReadoutPart.hdrBad ∨ p.spk.any SpkPart.classBad ∨ p.spk.any (fun k => decide (k.lag = 0 ∨ 256 < k.lag)) ∨
       (p.delta.isNone ∧ p.readout.isNone ∧ p.spk.isNone ∧ p.fu.isNone) ∨ fu.any (fun e => e.1 = stBadParam) ∨
       p.readout.any (fun r => decide (r.sched = 3) && !(s.graph r.srcGraph).exist) then bad 3
    else if p.delta.any s.deltaSurfBad ∨ p.readout.any (fun r => decide (r.sched ≠ 3) && !s.surfSame (rlRegion (r.layers.headD [])) r.surfD r.tau2 r.mult) then bad 4
    else if p.delta.any (fun d => s.deltaBad d p.nQuires) ∨ p.readout.any (fun r => s.readoutBad r p.nQuires) then bad 5
    else if p.kernels.any (Package.kernelBad p) then bad 6
    else if s.pkgForeign n qs p ∨ fu.any (fun e => e.1 = stNotPermitted) then some (stNotPermitted, 0xB)
    else if (s.freeQs n).length < p.nQuires then some (stNoResource, 7)
    else if p.chans.any (fun c => ChanInit.bad c || decide (64 ≤ c.chan)) then some (stNoResource, 8)
    else if p.delta.any (fun d => s.graphs.any (fun e => e.2.exist && e.2.delta.any (fun x => decide (dlRegion (x.layer 0) = dlRegion (d.layers.headD []))))) then
      some (stNoResource, 9)
    else if fu.isSome then some (stNoResource, 0xA) else none

/-! ## Loading -/

/-- Load one quire of a placement: channels, kernels, rings and images (Table 5.7, step 4). -/
def State.loadQuire (s : State) (p : Package) (i q : Nat) : State :=
  let s := s.modQuire q (fun x => { x with
    chans := (p.chans.filter (fun c => decide (c.quire = i))).foldl (fun m c => SMap.put {} m c.chan (chanOf c)) [],
    kernels := (p.kernels.filter (fun k => decide (k.quire = i))).map kernelOf })
  let s := p.rings.foldl (fun s r => if r.1 = i then s.modQuire q (fun x =>
    if r.2.1 then { x with ae1 := { base := r.2.2.1, log2n := r.2.2.2 } } else { x with ae0 := { base := r.2.2.1, log2n := r.2.2.2 } }) else s) s
  p.images.foldl (fun s m => if m.1 = i then s.modQuire q (fun x =>
    if m.2.1 then { x with sys := SMap.putAll 0 x.sys m.2.2.1 m.2.2.2 } else { x with qsp := SMap.putAll 0 x.qsp m.2.2.1 m.2.2.2 }) else s) s

/-- Load the quires of a placement by index. -/
def State.loadQuires (s : State) (p : Package) : Nat → List Nat → State
  | _, [] => s
  | i, q :: r => (s.loadQuire p i q).loadQuires p (i + 1) r

/-- PARTS of a package. -/
def Package.parts (p : Package) : Nat := p.delta.isSome.toNat + 2 * p.readout.isSome.toNat + 4 * p.spk.isSome.toNat + 8 * p.fu.isSome.toNat

/-- Load an accepted package: the graph's number and the state after. -/
def State.loadGraph (s : State) (n : Nat) (p : Package) : Nat × State :=
  let g := s.nextGraph
  let qs := (s.freeQs n).take p.nQuires
  let gr : Graph := { exist := true, slip := n, quires := qs, parts := Package.parts p, pkgBytes := p.bytes, progDigest := p.progDigest, wDigest := p.wDigest,
                      ports := Package.ports p, maxRec := p.maxRec, closed := s.tim.tick, egress := p.egress, units := p.units, unitIns := p.unitIns, wake := p.wake, streams := p.streams,
                      pkg := some p, delta := p.delta.map (fun d => { layers := d.layers, bands := d.bands }), readout := p.readout.map readoutOf }
  let s := { s with nextGraph := g + 1, graphs := SMap.put {} s.graphs g gr }
  let s := s.loadQuires p 0 qs
  let s := p.dramImgs.foldl (fun s m => match s.winAddr n m.1 m.2.1 with | some a => { s with dram := SMap.putAll 0 s.dram a m.2.2 } | none => s) s
  let s := match p.spk with | some k => s.loadSpk n qs k | none => s
  let s := match p.fu with | some f => s.loadFu g f | none => s
  let s := if p.bind.isSome then s.bump (semB + 0x130) else s
  (g, s)

/-- GRAPH_LOAD (R382): the slipcase is in the body. A VF names its own; PF0 may not load into a sealed one. -/
def State.graphLoad (s : State) (h : CmdRef) (n : Nat) (g : Sgl) (p : Package) : Res :=
  if h.fn ≠ 0 ∧ s.fnSlip h.fn.toNat ≠ some n then .err s stNotPermitted 0xF024
  else if 64 ≤ n ∨ (s.slip n).state = 0 then .err s stBadParam 0xF023
  else if (s.slip n).state ≠ 1 then .err s stFenced 0
  else if s.sealedFor h n then .err s stNotPermitted 0xD
  else match sglErr g p.bytes with
    | some d => .err s stBadParam d
    | none =>
      match s.pkgErr n p with
      | some (st, d) => .err s st d
      | none =>
        let r := s.loadGraph n p
        .ok r.2 (result [(r.1, 4), (p.nQuires, 1), (Package.parts p, 1), (0, 2), (p.bytes, 8)])

def execGraphLoad (h : CmdRef) (slip : BitVec 8) (sgl : Sgl) (p : Package) (s : State) : Host.Outcome State Fault Refusal :=
  .next (s.cmd h 0x0201 (.graphLoad h slip sgl p) (fun s _ => s.graphLoad h slip.toNat sgl p))

end Sys2Proof.Machine
end

