-- ==== Sys2Proof/Machine/Graphs.lean ====
section
/-! DEFINITION. Graph commands (R382): start, stop, bind, query and unload; and the reloading of a quire that takes over (Table 5.7,
R250, R482, R483, R486). -/
namespace Sys2Proof.Machine

/-! ## Start and stop -/

/-- Open the channels a graph takes items from: its delta part's at the port, derived channels at the units, and its ASCU channels. A graph
that does not run holds none (log entry). -/
def State.openChans (s : State) (g : Nat) (p : Package) : State :=
  let s := match p.delta with
    | none => s
    | some d => s.modHop (s.cfgPort (dlRegion (d.layers.headD []))) (fun h => { h with chans := h.chans ++ [{ consumer := .graph g, endSent := h.nextEnd }] })
  let s := p.derived.foldl (fun s e =>
    let r := s.cfgPort (e.1 % 16)
    let c : HChan := { consumer := .quire g e.2.2.1 e.2.2.2, endSent := (s.hop r).nextEnd }
    s.modSfm r (fun f => if e.2.1 then { f with crnChans := f.crnChans ++ [c] } else { f with flwChans := f.flwChans ++ [c] })) s
  let s := p.auxs.foldl (fun s e => s.modAux e.1 (fun c => { c with sinks := c.sinks ++ [{ graph := g, rist := e.2.1, quire := some e.2.2 }] })) s
  ((p.fu.map (·.srcs)).getD []).foldl (fun s i =>
    let x : FSrc := { words := i.words }
    if fsKind x = 5 then s.modAux i.chan (fun c => { c with sinks := c.sinks ++ [{ graph := g, rist := fsAuxOut x, slot := jf i.words 0 1 }] }) else s) s

/-- Quires of a graph's tiles. -/
def State.tileQuires (s : State) (g : Nat) : List Nat :=
  let x := s.graph g
  (((x.pkg.bind (·.spk)).map (·.tiles)).getD []).filterMap (fun t => x.quires[t.quire]?)

/-- A graph starts at the present tick (R588, R235, R588). STOP's hold on its records ends where PF0 starts it with no request (R490). -/
def State.startGraph (s : State) (g : Nat) (pf : Bool) : State :=
  let t := s.tim.tick
  let free := pf && !s.si.safeReq
  let s := s.modGraph g (fun x => { x with
    state := 1, startTick := t, closed := t, stopAfter := if free then none else x.stopAfter,
    delta := x.delta.map (fun d => d.start t (s.originOf (dlRegion (d.layer 0)))),
    readout := x.readout.map (fun d => { d with insts := [], asked := [], skipped := 0, last := t, next := t }) })
  let x := s.graph g
  let s := if x.parts.testBit 2 then s.startSpk x.slip (s.tileQuires g) t else s
  let s := s.startFu g t
  match x.pkg with
  | some p => s.openChans g p
  | none => s

/-- Another spiking graph of the slipcase runs. -/
def State.otherSpk (s : State) (g : Nat) : Bool :=
  s.graphs.any (fun e => decide (e.1 ≠ g) && e.2.exist && decide (e.2.slip = (s.graph g).slip ∧ e.2.state = 1) && e.2.parts.testBit 2)

/-- A running graph stops at the present tick. -/
def State.stopGraph (s : State) (g : Nat) : State :=
  if (s.graph g).state ≠ 1 then s
  else
    let s := (s.stopDelta g).stopReadout g
    let s := if (s.graph g).parts.testBit 2 then s.stopSpk (s.graph g).slip (s.tileQuires g) (s.otherSpk g) else s
    ((s.stopFu g).closeChans g).modGraph g (fun x => { x with state := 2 })

/-- GRAPH_START (R382, R588): it completes at START_TICK. -/
def State.graphStart (s : State) (h : CmdRef) (g : Nat) : Res :=
  if (s.graph g).state ≠ 0 ∧ (s.graph g).state ≠ 2 then .err s stTransition 2
  else .ok (s.startGraph g (decide (h.fn = 0))) (result [(s.tim.tick, 8)])

def execGraphStart (h : CmdRef) (s : State) : Host.Outcome State Fault Refusal :=
  .next (s.cmd h 0x0203 (.graphStart h) (fun s f => s.graphStart h f.objId.toNat))

/-- GRAPH_STOP (R382): a graph that does not run is left as it is. -/
def State.graphStop (s : State) (g : Nat) : Res :=
  if (s.graph g).contract ≠ 0 then .err s stNotPermitted 1 else .ok (s.stopGraph g) (result [(s.tim.tick, 8)])

def execGraphStop (h : CmdRef) (s : State) : Host.Outcome State Fault Refusal :=
  .next (s.cmd h 0x0204 (.graphStop h) (fun s f => s.graphStop f.objId.toNat))

/-! ## Unload, bind and query -/

/-- A staged command is on a graph. -/
def State.stagedGraph (s : State) (g : Nat) (x : Staged) : Bool :=
  match s.fetchedOf x.ref with
  | none => false
  | some f => (opInfo f.opc.toNat 0).any (fun i => decide (i.obj = .graph ∧ x.obj = g))

/-- GRAPH_UNLOAD (R379, R382): staged commands on the graph end as withdrawn; a graph that runs stops first. -/
def State.graphUnload (s : State) (g : Nat) : Res :=
  if (s.graph g).contract ≠ 0 then .err s stNotPermitted 1
  else
    let s := s.endStaged (s.stagedGraph g) stTransition 0xF027
    .ok (((s.endReads g stTransition 0xF027).stopGraph g).dropGraph g)

def execGraphUnload (h : CmdRef) (s : State) : Host.Outcome State Fault Refusal :=
  .next (s.cmd h 0x0202 (.graphUnload h) (fun s f => s.graphUnload f.objId.toNat))

/-- GRAPH_BIND (R362). -/
def State.graphBind (s : State) (g func q : Nat) : Res :=
  let x := s.graph g
  let k := func * 256 + q
  if func = 0 ∨ 4096 ≤ func ∨ s.fnSlip func ≠ some x.slip then .err s stNotPermitted 0xF024
  else if (s.qp k).valid ∧ (s.qp k).kind = 2 ∧ !(s.qp k).fits x.maxRec then .err s stBadParam 3
  else .ok (s.modGraph g (fun x => { x with bind := some (func, q) }))

def execGraphBind (h : CmdRef) (func : BitVec 16) (q : BitVec 8) (s : State) : Host.Outcome State Fault Refusal :=
  .next (s.cmd h 0x0205 (.graphBind h func q) (fun s f => s.graphBind f.objId.toNat func.toNat q.toNat))

/-- PHASE of Table 7.9 and the tick of the next switch, 0 where there is none (R189, R588). -/
def State.rebasePhase (s : State) (g : Nat) : Nat := ((((s.graph g).delta.bind (·.reb))).map (·.phase)).getD 0
def State.switchTick (s : State) (g : Nat) : Nat :=
  match (s.graph g).delta with
  | none => 0
  | some d =>
    match d.reb with
    | some rb => rb.switchAt.getD 0
    | none => if d.service.isNone then 0 else s.tickOfSurf (dlRegion (d.layer 0)) (s.anchorOf (dlRegion (d.layer 0)) (dlG (d.layer 0)) d.epoch)

/-- GRAPH_QUERY (R382). -/
def execGraphQuery (h : CmdRef) (s : State) : Host.Outcome State Fault Refusal :=
  .next (s.cmd h 0x8201 (.graphQuery h) (fun s f =>
    let g := f.objId.toNat
    let x := s.graph g
    .ok s (result [(x.state, 1), (s.rebasePhase g, 1), (0, 2), (x.contract, 4), (s.switchTick g, 8)])))

/-! ## Taking over (Table 5.7, steps 4 and 5) -/

/-- The INPUT entries of the rows a quire holds, from the surface, in the bank in service (R486). -/
def State.inputFromSfm (s : State) (g q b : Nat) : State :=
  let x := s.graph g
  match x.delta with
  | none => s
  | some d =>
    let e := d.layer 0
    let r := dlRegion e
    let w := s.geomW r
    let anchor := (d.bank b).anchor
    (List.range (s.geomH r)).foldl (fun s y =>
      if !(x.rowQuires d 0 y).contains q then s
      else
        (List.range w).foldl (fun s px =>
          let a := y * w + px
          let k := if 2097152 ≤ a then r + 1 else r
          let ent : InEntry := match (s.sfm k).time (s.surfL k) ((s.sfm k).read (a % 2097152)) with
            | none => { pol := false, age := 0x7FFF, x := 0 }
            | some (t, p) => let age := ((anchor : Int) - t).toNat; { pol := p, age := age, x := inValue e p age (s.surfTau r) }
          s.putEntry x d b px y ent) s) s

/-- Rebuild what a quire held of a delta part: the bank in service is evaluated anew, deltas under way are part of it; a rebase under way
fails, and the old bank ends (log entry). -/
def State.rebuildDelta (s : State) (g q : Nat) : State :=
  match (s.graph g).delta.bind (·.service) with
  | none => s.modDelta g (fun d => { d with reb := d.reb.map (fun r => { r with full := true }) })
  | some (b, _) =>
    let s := (s.inputFromSfm g q b).rebuild g b
    s.modDelta g (fun d => { (d.modBank b (fun k => { k with queue := [], dirty := [] })) with old := none, reb := d.reb.map (fun r => { r with full := true }) })

/-- Reload a quire from the packages of the graphs it serves, and rebuild its state (step 4): its tile takes the initial states of the
package, which raises SPK_STATE_RESET (R250). -/
def State.reload (s : State) (q : Nat) : State :=
  (s.graphs.filter (fun e => e.2.exist && (e.2.quires ++ e.2.partners).contains q)).foldl (fun s e =>
    let g := e.1
    let x := e.2
    match x.pkg with
    | none => s
    | some p =>
      let i := if x.quires.contains q then x.quires.idxOf q else x.partners.idxOf q
      let s := s.loadQuire p i q
      let s := match ((p.spk.map (·.tiles)).getD []).find? (fun t => decide (t.quire = i)) with
        | some t => ((s.loadTile q t).modTile q (fun z => { z with en := decide (x.state = 1), next := s.tim.tick })).alarm 0x103 q x.slip
        | none => s
      s.rebuildDelta g q) s

/-- QUIRE_TAKEOVER (R146 step 5, R250, R486): at a tick boundary the ready quire serves, and the live map is updated. -/
def execQuireTakeover (q : BitVec 7) (s : State) : Host.Outcome State Fault Refusal :=
  let n := q.toNat
  .next (match s.si.takeover.find? (fun p => p.1 = n) with
  | none => s
  | some (_, r) =>
    let s := s.quireConFault n 3
    let s := s.modQuire r (fun x => { x with state := some 1 })
    if r = n then
      ((s.modSi (fun x => { x with recover := x.recover.filter (fun p => decide (p.1 ≠ n)), takeover := x.takeover.filter (fun p => decide (p.1 ≠ n)) })).reload n).recovered n 0
    else ((((s.swapQuire n r).retireQuire n).moveRouter n r).reload r).recovered n 6)

/-- A quire receives its partner's state (R482): channels, kernels, memories, rings and tile. -/
def State.copyQuire (s : State) (src dst : Nat) : State :=
  let x := s.quire src
  s.modQuire dst (fun y => { x with state := y.state, slip := y.slip, curStep := y.curStep, target := y.target, winStart := y.winStart,
                                    winReplays := y.winReplays, winOver := y.winOver })

/-- PAIR_RESYNC (R482 step 6, R483): the kept quire, or a spare, receives the partner's state at a tick boundary and the compare
resumes; with no spare left the partner runs on alone. An unresolved pair is rebuilt whole. -/
def execPairResync (primary : BitVec 7) (s : State) : Host.Outcome State Fault Refusal :=
  .next (match s.si.pairs.find? (fun p => p.primary = primary.toNat) with
  | none => s
  | some p =>
    if !p.recovering then s
    else
      let clear := fun (s : State) (sole : Option Nat) (pr : Nat) => s.modSi (fun x => x.modPair pr (fun p =>
        { p with recovering := false, attributed := none, retire := false, sole := sole, passed := s.tim.tick }))
      let back := fun (s : State) (q : Nat) => s.modQuire q (fun x => { x.scrub with state := some 1 })
      let other := fun (q : Nat) => if q = p.primary then p.partner else p.primary
      let s := s.quireConFault p.primary 3
      match p.attributed, p.retire with
      | some q, false => (((clear ((back s q).copyQuire (other q) q) none p.primary).bump (simB + 0x418)).recovered q 0)
      | some q, true =>
        match s.pickSpare q with
        | some r =>
          let s := (s.loadSpare q r).modQuire r (fun x => { x with state := some 1 })
          let s := ((((s.swapQuire q r).retireQuire q).moveRouter q r).copyQuire (other q) r).bump (simB + 0x418)
          (clear s none (if p.primary = q then r else p.primary)).recovered q 4
        | none => ((clear ((s.retireQuire q).shrinkSlip q) p.sole p.primary).recovered q 4).modSi (fun x => { x with replan := true })
      | none, _ => (((clear ((((back (back s p.primary) p.partner).reload p.primary).copyQuire p.primary p.partner)) none p.primary).bump (simB + 0x418)).recovered p.primary 0))

end Sys2Proof.Machine
end

