-- ==== Sys2Proof/Machine/Contracts.lean ====
section
/-! DEFINITION. Contracts (12): admission on one device and over a binding, release, query, policy, the deadline monitor, re-planning and
revocation. -/
namespace Sys2Proof.Machine

/-! ## Checks (R317–R319) -/

/-- Sources a graph names: KIND, INDEX and LINK of Table 12.2. -/
def State.graphSources (s : State) (g : Nat) : List (Nat × Nat × Nat) :=
  let x := s.graph g
  let is := ((x.pkg.bind (fun (p : Package) => p.fu)).map (fun (f : FuPart) => f.srcs)).getD []
  let srcs : List (FuSrcInit × FSrc) := is.map (fun i => (i, { words := i.words }))
  let auxs : List (Nat × Bool × Nat × Nat) := (x.pkg.map (fun (p : Package) => p.auxs)).getD []
  (x.ports.flatMap (fun p => let c := s.cfgPort p; if s.paired p then [(1, c, 0), (1, c, 1)] else [(1, c, 0)]) ++
   auxs.map (fun (a : Nat × Bool × Nat × Nat) => (2, a.1, 0)) ++ (srcs.filter (fun (i : FuSrcInit × FSrc) => fsKind i.2 = 5)).map (fun (i : FuSrcInit × FSrc) => (2, i.1.chan, 0)) ++
   (srcs.filter (fun (i : FuSrcInit × FSrc) => fsExternal i.2)).map (fun (i : FuSrcInit × FSrc) => (3, jf i.2.words 0 1, 0)) ++ x.streams.map (fun n => (4, n % 256, n / 256 % 16))).eraseDups

/-- A source entry as KIND, INDEX and LINK, and whether its fields are in range. -/
def conSrcKey (e : ConSrc) : Nat × Nat × Nat := (e.kind.toNat, e.index.toNat, e.link.toNat)
def conSrcBad (e : ConSrc) : Bool :=
  decide (e.rsvd ≠ 0) ||
  (match e.kind.toNat with
   | 1 => decide (16 ≤ e.index.toNat ∨ 1 < e.link.toNat ∨ e.sizeMax ≠ 0)
   | 2 => decide (32 ≤ e.index.toNat ∨ e.link ≠ 0 ∨ e.sizeMax ≠ 0)
   | 3 => decide (64 ≤ e.index.toNat ∨ e.link ≠ 0)
   | 4 => decide (16 ≤ e.link.toNat)
   | _ => true)

/-- The descriptor's fields (Table 12.1). -/
def conDescBad (d : ConDesc) (srcs : List ConSrc) : Bool :=
  decide (15 < d.priority.toNat ∨ 1 < d.protection.toNat ∨ d.nSrc = 0 ∨ 64 < d.nSrc.toNat ∨ d.nSrc.toNat ≠ srcs.length ∨ 4 ≤ d.flags.toNat ∨
          d.deadline = 0 ∨ 2 ^ 20 < d.deadline.toNat) || srcs.any conSrcBad

/-- A source lies outside a slipcase. -/
def State.srcForeign (s : State) (n : Nat) (e : ConSrc) : Bool :=
  match e.kind.toNat with
  | 1 => !(s.slip n).hoppers.getLsbD (e.index.toNat + e.link.toNat)
  | 2 => decide (s.auxSlip e.index.toNat ≠ n)
  | 3 => false
  | _ => decide ((s.strm (e.index.toNat + 256 * (e.link.toNat % 16))).slip ≠ some n)

/-- A contract holds its guarantee: admitted or noticed. -/
def Contract.live (c : Contract) : Bool := c.exist && decide (c.state ≠ 2)

/-- The cases of R318 before the computation: STATUS and DETAIL. -/
def State.conRefuse (s : State) (f : Nat) (d : ConDesc) (srcs : List ConSrc) : Option (Nat × Nat) :=
  let g := d.graph.toNat
  let x := s.graph g
  if conDescBad d srcs then some (stBadParam, 0xF025)
  else if !x.exist then some (stBadParam, 0xF023)
  else if !s.mayName f x.slip then some (stNotPermitted, 0xF024)
  else if srcs.any (fun e => !(s.graphSources g).contains (conSrcKey e)) ∨ (s.graphSources g).any (fun k => !(srcs.map conSrcKey).contains k) ∨
          (srcs.map conSrcKey).eraseDups.length ≠ srcs.length then some (stBadParam, 0xF025)
  else if srcs.any (s.srcForeign x.slip) then some (stNotPermitted, 0xF024)
  else if 1024 ≤ (s.contracts.filter (fun e => e.2.live)).length ∨ x.contract ≠ 0 then some (stNoResource, 0)
  else if (s.slip x.slip).state ≠ 1 then some (stFenced, 0)
  else if !s.conAdmits.isEmpty ∨ s.contracts.any (fun e => e.2.exist && e.2.state = 1) then some (stTransition, 0xF026)
  else none

/-- RATE_reg of a Hopper source (R319). -/
def State.rateReg (s : State) (e : ConSrc) : Nat := (e.rate.toNat * s.tickLen * 256 + 10 ^ 9 - 1) / 10 ^ 9
def State.ratePort (s : State) (e : ConSrc) : Bool :=
  e.kind = 1 && decide (2 ^ 24 ≤ s.rateReg e ∨ 2 ^ 24 ≤ e.burst.toNat ∨ 750000000 < e.rate.toNat)

/-- Another live contract states other values for one of the links. -/
def State.srcMismatch (s : State) (e : ConSrc) : Bool :=
  e.kind = 1 && s.contracts.any (fun c => c.2.live && c.2.srcs.any (fun o =>
    o.kind = 1 && decide (o.index.toNat + o.link.toNat = e.index.toNat + e.link.toNat ∧ ¬ (o.rate = e.rate ∧ o.burst = e.burst))))

/-- The Brew cost in ns (R330): 12 µs and the drain of each Hopper source's backlog. -/
def State.brewCost (s : State) (srcs : List ConSrc) : Nat :=
  12000 + ((srcs.filter (fun e => e.kind = 1)).map (fun e =>
    let full := 256 * s.tickLen
    (e.burst.toNat * full + (full - s.rateReg e) - 1) / (full - s.rateReg e))).foldl (fun (a b : Nat) => a + b) 0

/-- The wake set is kept warm (R330). -/
def State.conWarm (s : State) (d : ConDesc) (srcs : List ConSrc) (p : AdmitPlan) : Bool :=
  d.flags.getLsbD 0 || (s.graph d.graph.toNat).delta.isSome || decide (d.deadline.toNat * s.tickLen < s.brewCost srcs + p.restNs)

/-- WC_TICKS: the longest path, with the Brew cost where the wake set is not kept warm. -/
def State.conWc (s : State) (d : ConDesc) (srcs : List ConSrc) (p : AdmitPlan) : Nat :=
  p.wcTicks + (if s.conWarm d srcs p then 0 else (s.brewCost srcs + s.tickLen - 1) / s.tickLen)

/-- Partners of a PAIRED contract (R337): one per quire, of the slipcase, in another cluster, and not in use. -/
def State.partnersOk (s : State) (g : Nat) (ps : List Nat) : Bool :=
  let x := s.graph g
  decide (ps.length = x.quires.length ∧ ps.eraseDups.length = ps.length) && ps.all (fun q => (s.slip x.slip).quires.contains q && s.qState q = 1) &&
    !ps.any (fun q => s.graphs.any (fun e => e.2.exist && (e.2.quires ++ e.2.partners).contains q)) &&
    (List.zip x.quires ps).all (fun p => decide (p.1 / 4 ≠ p.2 / 4))

/-- The computation refuses (R332, R333): DETAIL, WC_TICKS, FAIL_TERM and OTHER. -/
def State.conFails (s : State) (d : ConDesc) (srcs : List ConSrc) (p : AdmitPlan) : Option (Nat × Nat × Nat × Nat) :=
  let g := d.graph.toNat
  let wc := s.conWc d srcs p
  if srcs.any s.ratePort then some (1, 0, 0, 0)
  else if srcs.any s.srcMismatch then some (2, 0, 0, 0)
  else if d.protection = 1 ∧ (s.slip (s.graph g).slip).adaptive then some (0xD, 0, 0, 0)
  else if d.protection = 1 ∧ !s.partnersOk g p.partners then some (3, 0, 0, 0)
  else match p.fail with
    | some (det, term, other) => some (det, p.wcTicks, term, if det = 4 ∨ det = 0xE then other else 0)
    | none => if d.deadline.toNat < wc then some (4, wc, 9, 0) else none

/-- A refusal by the computation as STATUS, DETAIL and the result of Table 12.6. -/
def conInfeasible (e : Nat × Nat × Nat × Nat) : Nat × Nat × BitVec 128 :=
  (if e.1 = 0xF then stDegraded else stInfeasible, e.1, result [(0, 4), (e.2.1, 4), (0, 4), (0, 1), (e.2.2.1, 1), (e.2.2.2, 2)])

/-! ## Settings (R319, R327, R328, R330, R451) -/

/-- Write arbiter settings, registers of Tables 1.3 and 1.4 only. -/
def State.wrArbs (s : State) (l : List (Nat × Nat)) : State :=
  l.foldl (fun s p =>
    match locate 0 (p.1 % 2 ^ 28) with
    | some (k, r, _) => if r.kind = .arbCfg ∨ r.kind = .quota then s.setReg k (BitVec.ofNat 64 (p.2 % 2 ^ 32)) else s
    | none => s) s

/-- Write the limiter of a link (R81, R319): a full level where it begins. -/
def State.setLimiter (s : State) (e : ConSrc) : State :=
  let n := e.index.toNat + e.link.toNat
  let on := (s.reg (hopB n)).getLsbD 5
  let s := ((s.setReg (hopB n + 0x28) (BitVec.ofNat 64 (s.rateReg e))).setReg (hopB n + 0x2C) (BitVec.ofNat 64 e.burst.toNat)).setRfld (hopB n) 5 5 1
  if on then s else s.modHop n (fun h => { h with level := e.burst.toNat * 256, levelTick := s.tim.tick })

/-- Pairs of a PAIRED contract (R477): each partner starts from its primary's state. -/
def State.makePairs (s : State) (c : Nat) (qs ps : List Nat) : State :=
  (List.zip qs ps).foldl (fun s p => (s.copyQuire p.1 p.2).modSi (fun x => { x with pairs := x.pairs ++
    [{ primary := p.1, partner := p.2, contract := c, sole := none, lastMis := [], recovering := false, attributed := none, retire := false,
       passed := s.tim.tick }] })) s

/-- Admit a contract at the present tick under an identifier: its settings apply and its guarantee begins with EFF_TICK (R334). -/
def State.conCommit (s : State) (c func : Nat) (home : Option (Nat × Nat)) (d : ConDesc) (srcs : List ConSrc) (p : AdmitPlan) : State :=
  let g := d.graph.toNat
  let x := s.graph g
  let paired := decide (d.protection = 1)
  let warm := s.conWarm d srcs p
  let con : Contract := {
    exist := true, graph := g, slip := x.slip, priority := d.priority.toNat, paired := paired, keepWarm := d.flags.getLsbD 0,
    binding := d.flags.getLsbD 1, deadline := d.deadline.toNat, lead := d.revokeLead.toNat, srcs := srcs, func := func, wcTicks := s.conWc d srcs p,
    effTick := s.tim.tick + 2 * ((p.winNs + s.tickLen - 1) / s.tickLen), warm := warm, noRecovery := decide (s.spares = 0) && !paired, order := c,
    parts := if d.flags.getLsbD 1 then p.parts.map (·.dev.toNat) else [], home := home }
  let s := { s with contracts := SMap.put {} s.contracts c con, nextContract := max s.nextContract (c + 1) }
  let s := s.modGraph g (fun x => { x with contract := c, partners := if paired then p.partners else [] })
  let s := (srcs.filter (fun e => e.kind = 1)).foldl State.setLimiter s
  let s := s.wrArbs p.arbs
  let s := (x.quires ++ (if paired then p.partners else [])).foldl (fun s q =>
    (s.modQuire q (fun y => { y with contractStep := (s.policy[3]?).getD 18 })).setReg (qrB q + 8)
      (BitVec.ofNat 64 ((s.policy[4]?).getD 500 * 2 ^ 16 + (s.policy[5]?).getD 10000))) s
  let s := (srcs.filter (fun e => e.kind = 4)).foldl (fun s e =>
    s.modStrm (e.index.toNat + 256 * (e.link.toNat % 16)) (fun t => { t with contracted := true, cls := d.priority.toNat / 4 })) s
  let s := if warm then (s.modPwr (fun w => { w with warm := w.warm ++ x.wake.map (fun d => (c, d)) })).brew x.wake else s
  let s := if paired then s.makePairs c x.quires p.partners else s
  (s.markContracted.recordWake).log 0x6F 0xFF 0 5 [c, 0]

/-- The result of an admission (Table 12.6). -/
def State.conResult (s : State) (c : Nat) : BitVec 128 :=
  let x := s.contract c
  result [(c, 4), (x.wcTicks, 4), (x.effTick, 4), (x.warm.toNat, 1), (0, 1), (0, 2)]

/-! ## CONTRACT_ADMIT -/

/-- A source entry as one number, and back (for CONTRACT messages, whose layout the manual leaves open). -/
def packSrc (e : ConSrc) : Nat :=
  packLE [(e.kind.toNat, 1), (e.index.toNat, 1), (e.link.toNat, 1), (e.rsvd.toNat, 1), (e.rate.toNat, 4), (e.burst.toNat, 4), (e.sizeMax.toNat, 4)]
def unpackSrc (v : Nat) : ConSrc :=
  { kind := BitVec.ofNat 8 v, index := BitVec.ofNat 8 (v >>> 8), link := BitVec.ofNat 8 (v >>> 16), rsvd := BitVec.ofNat 8 (v >>> 24),
    rate := BitVec.ofNat 32 (v >>> 32), burst := BitVec.ofNat 32 (v >>> 64), sizeMax := BitVec.ofNat 32 (v >>> 96) }

/-- Send a CONTRACT message (R340). -/
def State.conSend (s : State) (dev : Nat) (l : List Nat) : State := s.sendTo { dst := dev, src := s.devId, body := .contract l }

/-- Submit an admission (R318, R332, R340): admitted at once, or, with parts on other devices, after their replies. `at_`: its AT_TICK where
the admission waits for it over a binding. -/
def State.conAdmit (s : State) (h : CmdRef) (d : ConDesc) (srcs : List ConSrc) (p : AdmitPlan) (at_ : Option Nat) : Res :=
  match s.conRefuse h.fn.toNat d srcs with
  | some (st, det) => .err s st det
  | none =>
    match s.conFails d srcs p with
    | some e => let r := conInfeasible e; .err s r.1 r.2.1 r.2.2
    | none =>
      let c := s.nextContract
      if d.flags.getLsbD 1 ∧ !p.parts.isEmpty then
        let x := s.graph d.graph.toNat
        let s := { s with
          nextContract := c + 1,
          conAdmits := s.conAdmits ++ [{ ref := some h, home := none, id := c, func := h.fn.toNat, desc := d, srcs := srcs, plan := p, atTick := at_,
                                         wait := p.parts.map (·.dev.toNat) }] }
        .later (p.parts.foldl (fun s z => s.conSend z.dev.toNat
          ([0, c, x.progDigest % 2 ^ 64, x.wDigest % 2 ^ 64, z.deadline.toNat, d.priority.toNat, d.protection.toNat, d.flags.toNat, d.revokeLead.toNat] ++
            z.srcs.map packSrc)) s)
      else
        let s := s.conCommit c h.fn.toNat none d srcs p
        .ok s (s.conResult c)

/-- CONTRACT_ADMIT (R317, R340): an admission over a binding starts when it executes and is committed at its AT_TICK. -/
def execContractAdmit (h : CmdRef) (d : ConDesc) (srcs : List ConSrc) (plan : AdmitPlan) (s : State) : Host.Outcome State Fault Refusal :=
  .next (if d.flags.getLsbD 1 && !plan.parts.isEmpty && (s.startable h 0x0301).any (fun f => f.atEn) then
    s.cmdAt h 0x0301 (.contractAdmit h d srcs plan) (fun s _ n => s.conAdmit h d srcs plan (some (s.tim.tick + n)))
  else s.cmd h 0x0301 (.contractAdmit h d srcs plan) (fun s _ => s.conAdmit h d srcs plan none))

/-! ## Parts on other devices (R340) -/

/-- An admission ends without a contract: the parts are told. -/
def State.conAbort (s : State) (a : ConAdmit) (st det : Nat) (r : BitVec 128) : State :=
  let s := { s with conAdmits := s.conAdmits.filter (fun b => decide (b ≠ a)) }
  let s := a.plan.parts.foldl (fun s z => s.conSend z.dev.toNat [5, a.id]) s
  match a.ref with
  | some h => s.complete h st det r
  | none => s

/-- A request for a part: the graph whose blocks carry the digests, and its descriptor and sources. -/
def State.conPartOf (s : State) (l : List Nat) : Option (ConDesc × List ConSrc) :=
  let b := fun (i : Nat) => (l[i]?).getD 0
  (s.graphs.find? (fun e => e.2.exist && decide (e.2.progDigest % 2 ^ 64 = b 2 ∧ e.2.wDigest % 2 ^ 64 = b 3))).map (fun e =>
    let srcs := (l.drop 9).map unpackSrc
    ({ graph := BitVec.ofNat 32 e.1, priority := BitVec.ofNat 8 (b 5), protection := BitVec.ofNat 8 (b 6), nSrc := BitVec.ofNat 8 srcs.length,
       flags := BitVec.ofNat 8 (b 7 % 2), deadline := BitVec.ofNat 32 (b 4), revokeLead := BitVec.ofNat 16 (b 8) }, srcs))

/-- A notice of revocation (R338, steps 3 and 4). -/
def State.conNotice (s : State) (c tick : Nat) : State :=
  let x := s.contract c
  if !x.exist ∨ x.state ≠ 0 then s
  else
    let s := s.modContract c (fun x => { x with state := 1, unguaranteed := true, revokeAt := tick })
    (s.fnEvent x.func 2 0 0xFFFF [c, 0, tick]).log 0x6F 0xFF 0 5 [c, 2]

/-- A CONTRACT message (R340): 0 REQUEST, 1 ACCEPT, 2 REFUSE, 3 COMMIT, 4 WITHDRAW by the home device, 5 ABORT, 6 WITHDRAW by a part. -/
def State.rxContract (s : State) (m : SpMsg) (plan : AdmitPlan) : State :=
  let l := match m.body with | .contract l => l | _ => []
  let id := (l[1]?).getD 0
  let mine := s.conAdmits.find? (fun a => a.id = id && a.home.isNone)
  let part := s.conAdmits.find? (fun a => a.home = some (m.src, id))
  match l[0]? with
  | some 0 =>
    match s.conPartOf l with
    | none => s.conSend m.src [2, id]
    | some (d, srcs) =>
      if (s.conRefuse 0 d srcs).isSome ∨ (s.conFails d srcs plan).isSome then s.conSend m.src [2, id]
      else
        let a : ConAdmit := { ref := none, home := some (m.src, id), id := s.nextContract, func := 0, desc := d, srcs := srcs, plan := plan, atTick := none, wait := [] }
        let s := { s with nextContract := s.nextContract + 1, conAdmits := s.conAdmits ++ [a] }
        s.conSend m.src [1, id, s.conWc d srcs plan]
  | some 1 =>
    match mine with
    | none => s
    | some a =>
      let w := a.wait.filter (fun x => decide (x ≠ m.src))
      let due := max (a.atTick.getD 0) (s.tim.tick + s.bindLead)
      let a' : ConAdmit := { a with wait := w, commitAt := if w.isEmpty then some (a.commitAt.getD due) else a.commitAt }
      let s := { s with conAdmits := s.conAdmits.map (fun b => if b = a then a' else b) }
      if w.isEmpty ∧ a.commitAt.isNone then a.plan.parts.foldl (fun s z => s.conSend z.dev.toNat [3, id, due]) s else s
  | some 2 =>
    match mine with
    | some a => s.conAbort a stInfeasible 0xE (conInfeasible (0xE, 0, 0, m.src)).2.2
    | none => s
  | some 3 => { s with conAdmits := s.conAdmits.map (fun a => if some a = part then ({ a with commitAt := l[2]? } : ConAdmit) else a) }
  | some 4 =>
    let hit := s.contracts.keysWhere (fun _ x => x.exist && x.home = some (m.src, id))
    hit.foldl (fun s c => if (l[2]?).getD 0 = 0 then s.dropContract c else s.conNotice c ((l[3]?).getD 0)) s
  | some 5 => { s with conAdmits := s.conAdmits.filter (fun a => decide (some a ≠ part)) }
  | some 6 =>
    if (s.contract id).exist ∧ (s.contract id).parts.contains m.src then
      let kind := (l[2]?).getD 0
      let s := s.withdrawParts id kind ((l[3]?).getD 0)
      if kind = 0 then s.dropContract id else s.conNotice id ((l[3]?).getD 0)
    else s
  | _ => s

/-- CONTRACT_PART (R340). -/
def execContractPart (_p : BitVec 2) (m : SpMsg) (plan : AdmitPlan) (s : State) : Host.Outcome State Fault Refusal := .next (s.rxContract m plan)

/-- Admissions whose commit tick is the present one take effect. A part that is no longer possible ends its contract. -/
def State.commitAdmits (s : State) : State :=
  (s.conAdmits.filter (fun a => a.commitAt.any (fun t => decide (t ≤ s.tim.tick)))).foldl (fun s a =>
    let s := { s with conAdmits := s.conAdmits.filter (fun b => decide (b ≠ a)) }
    match s.conRefuse 0 a.desc a.srcs, s.conFails a.desc a.srcs a.plan with
    | none, none =>
      let s := s.conCommit a.id a.func a.home a.desc a.srcs a.plan
      match a.ref with
      | some h => s.complete h stOk 0 (s.conResult a.id)
      | none => s
    | _, _ =>
      match a.home with
      | some (d, n) => s.conSend d [6, n, 0, s.tim.tick]
      | none => s.conAbort a stTransition 0xF026 0) s

/-! ## Release, query and policy -/

/-- A staged command is on a contract. -/
def State.stagedContract (s : State) (c : Nat) (x : Staged) : Bool :=
  match s.fetchedOf x.ref with
  | none => false
  | some f => (opInfo f.opc.toNat 0).any (fun i => decide (i.obj = .contract ∧ x.obj = c))

/-- CONTRACT_RELEASE (R334), with the arbiter settings of the contracts that remain. -/
def State.conRelease (s : State) (h : CmdRef) (c : Nat) (arbs : List (Nat × Nat)) : Res :=
  let s := s.endStaged (fun x => x.ref ≠ h && s.stagedContract c x) stTransition 0xF027
  .ok ((s.releaseContract c).wrArbs arbs)

def execContractRelease (h : CmdRef) (arbs : List (Nat × Nat)) (s : State) : Host.Outcome State Fault Refusal :=
  .next (s.cmd h 0x0302 (.contractRelease h arbs) (fun s f => s.conRelease h f.objId.toNat arbs))

/-- FLAGS of CONTRACT_QUERY. -/
def Contract.flags (c : Contract) : Nat := c.warm.toNat + 2 * c.noRecovery.toNat + 4 * c.unguaranteed.toNat

/-- The 128-byte report (R383). -/
def Contract.report (c : Contract) (id : Nat) : List Nat :=
  let l := [(id, 4), (c.state, 1), (c.flags, 1), (0, 2), (c.wcTicks, 4), (c.effTick, 4), (c.records % 2 ^ 48, 8)] ++
    [1, 2, 3, 4, 5, 6, 7, 0xF].map (fun k => (SMap.get 0 c.misses k % 2 ^ 48, 8)) ++ [(c.heldMiss % 2 ^ 48, 8), (c.extDrop % 2 ^ 48, 8), (0, 24)]
  (List.range 128).map (fun i => packLE l / 256 ^ i % 256)

/-- CONTRACT_QUERY (R335, R383). -/
def State.conQuery (s : State) (h : CmdRef) (c : Nat) (g : Sgl) : Res :=
  let x := s.contract c
  match sglErr g 128 with
  | some d => .err s stBadParam d
  | none => .ok (s.sglWrite h (x.report c)) (result [(x.state, 1), (x.flags, 1), (0, 2), (x.wcTicks, 4), (x.effTick, 4)])

def execContractQuery (h : CmdRef) (sgl : Sgl) (s : State) : Host.Outcome State Fault Refusal :=
  .next (s.cmd h 0x0303 (.contractQuery h sgl) (fun s f => s.conQuery h f.objId.toNat sgl))

/-- CONTRACT_POLICY (R328). -/
def State.conPolicy (s : State) (l : List Nat) : Res :=
  let v := fun (i : Nat) => (l[i]?).getD 0
  if v 0 < 10 ∨ 90 < v 0 ∨ v 1 < 10 ∨ 95 < v 1 ∨ v 2 < 10 ∨ 90 < v 2 ∨ 20 < v 3 ∨ v 4 = 0 ∨ v 5 = 0 ∨ 64 < v 6 then .err s stBadParam 0xF025
  else if s.contracts.any (fun e => e.2.live) ∨ !s.conAdmits.isEmpty then .err s stTransition 1
  else .ok { s with policy := l }

def execContractPolicy (h : CmdRef) (dram spine host step : BitVec 8) (allow win : BitVec 16) (reserve : BitVec 8) (s : State) : Host.Outcome State Fault Refusal :=
  .next (s.cmd h 0x0304 (.contractPolicy h dram spine host step allow win reserve)
    (fun s _ => s.conPolicy [dram.toNat, spine.toNat, host.toNat, step.toNat, allow.toNat, win.toNat, reserve.toNat]))

/-! ## The deadline monitor (R323, R324) -/

/-- The record of a reference tick waits in the overflow buffer. -/
def State.dueHeld (s : State) (d : Due) : Bool :=
  (s.slip (s.graph d.graph).slip).ovf.any (fun h => h.rec_.any (fun r => decide (r.graph = d.graph ∧ r.kind = d.kind ∧ r.layer = d.layer ∧ r.tref = d.tref)))

/-- The cause of a miss (Table 12.4): the lowest code seen from the reference tick on. -/
def Contract.missCause (c : Contract) (tref : Nat) : Nat := ([1, 2, 3, 4, 5, 6, 7].find? (fun k => decide (tref < SMap.get 0 c.faults k))).getD 0xF

/-- The deadline of a reference tick has passed, and the miss has not been reported. -/
def State.overdue (s : State) (d : Due) : Bool :=
  !d.missed && decide (d.tref + (s.contract d.con).deadline < s.tim.tick) && !s.dueHeld d

/-- Every reference tick that has passed its deadline with no record issued, at most n of them. -/
def State.deadlineMisses (s : State) : Nat → State
  | 0 => s
  | n + 1 =>
    match s.dues.findIdx? s.overdue, s.dues.find? s.overdue with
    | some i, some d =>
      let c := s.contract d.con
      let cause := c.missCause d.tref
      let s := { s with dues := s.dues.set i { d with missed := true } }
      let s := s.modContract d.con (fun c => { c with misses := SMap.upd 0 c.misses cause (· + 1) })
      let s := s.modSlip c.slip (fun p => p.count 3 1)
      let s := if c.unguaranteed then s
        else s.faultFull { source := 0x80, cause := 0x0F, slip := c.slip, contract := d.con, info := cause, partner := 0xFF, recoveryUs := 0xFFFFFFFF } 0
      s.deadlineMisses n
    | _, _ => s

/-- DEADLINE_MISS (R324). -/
def execDeadlineMiss (s : State) : Host.Outcome State Fault Refusal := .next (s.deadlineMisses s.dues.length)

/-! ## Re-planning and revocation (R338) -/

/-- The contract that is revoked first: SINGLE before PAIRED, the lowest PRIORITY, the latest admitted. -/
def State.nextRevoked (s : State) : Option Nat :=
  let key := fun (e : Nat × Contract) => (e.2.paired.toNat * 16 + e.2.priority) * 2 ^ 32 + (2 ^ 32 - 1 - e.2.order % 2 ^ 32)
  let l := s.contracts.filter (fun e => e.2.exist && e.2.state = 0)
  match l with
  | [] => none
  | e :: r => some (r.foldl (fun (a b : Nat × Contract) => if key b < key a then b else a) e).1

/-- Revoke n contracts: notice on every device, and the revocation tick. -/
def State.revokeN (s : State) : Nat → State
  | 0 => s
  | n + 1 =>
    match s.nextRevoked with
    | none => s
    | some c =>
      let t := s.tim.tick + (s.contract c).lead
      ((s.withdrawParts c 1 t).conNotice c t).revokeN n

/-- CONTRACT_REPLAN (R338): after a retirement with no spare left, n contracts no longer fit. -/
def execContractReplan (n : Nat) (s : State) : Host.Outcome State Fault Refusal :=
  .next (if s.si.replan then (s.modSi (fun x => { x with replan := false })).revokeN n else s)

/-- CONTRACT_REVOKED (R338, step 5): at the revocation tick the settings are withdrawn and the graph stops. -/
def execContractRevoked (c : BitVec 32) (arbs : List (Nat × Nat)) (s : State) : Host.Outcome State Fault Refusal :=
  let n := c.toNat
  let x := s.contract n
  .next (if x.exist ∧ x.state = 1 ∧ x.revokeAt ≤ s.tim.tick then
    let s := ((s.modContract n (fun x => { x with state := 2 })).endContract n).wrArbs arbs
    (s.stopGraph x.graph).log 0x6F 0xFF 0 5 [n, 3]
  else s)

end Sys2Proof.Machine
end

