-- ==== Sys2Proof/Machine/Obs.lean ====
section
/-! DEFINITION. Observability (19): snapshots, alarm and log commands, and the egress of records. -/
namespace Sys2Proof.Machine

/-! ## Snapshots (R502–R505) -/

/-- SNAPSHOT_TICK (R503): at the snapshot tick every counter is copied into its shadow and the waiting command completes. -/
def State.snapTake (s : State) : State :=
  match s.obs.snapPend with
  | some (some id, tick, ref) =>
    if s.tim.tick < tick then s
    else
      let s := { s with shadow := s.ctrs, slips := SMap.mapAll {} s.slips (fun _ p => { p with shadow := p.cnt }) }
      let s := s.modObs (fun o => { o with snapPend := none, snapId := BitVec.ofNat 32 id, snapTick := tick, unaligned := s.rfld tuStat 14 14 = 1 })
      let s := s.bump (obsB + 0x140)
      match ref with
      | some h => s.complete h stOk 0 (result [(id, 4)])
      | none => s
  | _ => s

def execSnapshotTick (s : State) : Host.Outcome State Fault Refusal := .next s.snapTake

/-- A counter register of PF0's BAR0 (R504). -/
def isCounter (o : Nat) : Bool := match locate 0 o with | some (_, d, _) => decide (d.kind = .ctr) | none => false

/-- Where a SNAP_ID stands against the latest snapshot: held, replaced by a newer one, or not yet taken (R504). Local and binding
snapshots count apart, by bit 31. -/
def Obs.snapOlder (o : Obs) (id : Nat) : Bool :=
  if o.snapPend.any (fun p => p.1 = some id) then false
  else if id / 2 ^ 31 = 0 then decide (id ≤ o.snapLocal)
  else decide (o.snapId.toNat / 2 ^ 31 = 1 ∧ id ≤ o.snapId.toNat) || decide (id % 2 ^ 31 ≤ o.snapBind)

/-- SNAPSHOT_READ (R412, R504). -/
def State.snapRead (s : State) (f id c : Nat) : Res :=
  let done := fun v => Res.ok s (result [(v, 8), (s.obs.snapTick % 2 ^ 32, 4)])
  if id ≠ s.obs.snapId.toNat ∨ id = 0 then
    if id ≠ 0 ∧ s.obs.snapOlder id then .err s stBadParam 3 else .err s stPending 0
  else if f = 0 then
    if isCounter c then done (SMap.get 0 s.shadow c).toNat else .err s stBadParam 4
  else if 8 ≤ c then .err s stBadParam 4
  else
    match s.fnSlip f with
    | none => .err s stBadParam 4
    | some n =>
      let v := ((s.slip n).shadow[c]?).getD 0 % 2 ^ 48
      let g := if c = 4 then 100 else 1024
      done (v / g * g)

def execSnapshotRead (h : CmdRef) (snapId counter : BitVec 32) (s : State) : Host.Outcome State Fault Refusal :=
  .next (s.cmd h 0x8A01 (.snapshotRead h snapId counter) (fun s _ => s.snapRead h.fn.toNat snapId.toNat counter.toNat))

/-! ## Alarms (R506–R508) -/

/-- FLAGS of an entry (Table 19.2). -/
def Alarm.flags (a : Alarm) : Nat := (decide (1 ≤ a.cause ∧ a.cause ≤ 0x1D)).toNat + 2 * a.present.toNat + 4 * a.acked.toNat

/-- An entry's 32 bytes as four words. -/
def Alarm.words (a : Alarm) : List Nat :=
  [packLE [(a.cause, 2), (a.source, 1), (a.slip, 1), (a.flags, 1)], a.count % 2 ^ 48, a.first, a.last]

/-- The overflow entry that a VF receives of its own slipcase (R508). -/
def Slip.lostEntry (p : Slip) (n : Nat) : List Nat :=
  if p.lost = 0 then [] else [packLE [(0x100, 2), (p.lostSrc, 1), (n, 1)], p.lost % 2 ^ 48, p.lostFirst, p.lostLast]

/-- A summary entry's 16 bytes as two words (R512). -/
def SumEnt.words (e : SumEnt) : List Nat := [packLE [(e.dev, 2), (e.cause, 2), (e.count, 4)], e.last]

/-- ALARM_READ: the words written and the number of entries. -/
def State.alarmList (s : State) (f : Nat) : List Nat × Nat :=
  let all := (s.obs.alarms.map (·.2)).filter (fun a => decide (a.cause ≠ 0))
  if f = 0 then
    let sums := if s.bind.member ∧ s.bind.isRoot then s.obs.sums else []
    (all.flatMap Alarm.words ++ sums.flatMap SumEnt.words, all.length + sums.length)
  else
    match s.fnSlip f with
    | none => ([], 0)
    | some n =>
      let own := all.filter (fun a => decide (a.slip = n))
      let l := (s.slip n).lostEntry n
      (own.flatMap Alarm.words ++ l, own.length + (if l.isEmpty then 0 else 1))

def execAlarmRead (h : CmdRef) (sgl : Sgl) (s : State) : Host.Outcome State Fault Refusal :=
  .next (s.cmd h 0x0A02 (.alarmRead h sgl) (fun s _ =>
    let l := s.alarmList h.fn.toNat
    match sglErr sgl (8 * l.1.length) with
    | some e => .err s stBadParam e
    | none => .ok (s.sglWrite h l.1) (result [(l.2, 2)])))

/-- ALARM_ACK: entries of a cause that are not present are freed, the others acknowledged; 0x0100 clears entry 255 and every LOST. -/
def State.alarmAck (s : State) (cause : Nat) : Res :=
  let lost := cause = 0x100 ∧ s.slips.any (fun e => decide (e.2.lost ≠ 0))
  if cause = 0 ∨ (!(s.obs.alarms.any (fun e => e.2.cause = cause)) ∧ !lost) then .err s stBadParam 5
  else
    let s := s.modObs (fun o => { o with alarms := SMap.mapAll {} o.alarms (fun _ a =>
      if a.cause = cause then (if a.present then { a with acked := true } else {}) else a) })
    .ok (if cause = 0x100 then { s with slips := SMap.mapAll {} s.slips (fun _ p => { p with lost := 0, lostSrc := 0, lostFirst := 0, lostLast := 0 }) } else s)

def execAlarmAck (h : CmdRef) (cause : BitVec 16) (s : State) : Host.Outcome State Fault Refusal :=
  .next (s.cmd h 0x0A03 (.alarmAck h cause) (fun s _ => s.alarmAck cause.toNat))

/-! ## Logs and traces (R509–R511) -/

/-- LOG_CONFIG. -/
def State.logConfig (s : State) (f q logCap traceCap : Nat) (mask : BitVec 64) : Res :=
  let k := f * 256 + q
  if mask.toNat ≥ 256 then .err s stBadParam 0xF025
  else if !((s.qp k).valid && (s.qp k).kind = 7) then .err s stBadParam 6
  else .ok (s.modObs (fun o => { o with logQ := some (f, q), logCap := logCap, traceCap := traceCap, traceMask := mask }))

def execLogConfig (h : CmdRef) (func : BitVec 16) (q : BitVec 8) (logCap traceCap : BitVec 16) (mask : BitVec 64) (s : State) :
    Host.Outcome State Fault Refusal :=
  .next (s.cmd h 0x0A04 (.logConfig h func q logCap traceCap mask)
    (fun s _ => s.logConfig func.toNat q.toNat logCap.toNat traceCap.toNat mask))

/-- The LOG queue where it has a place. -/
def State.logPlace (s : State) : Option Nat :=
  match s.obs.logQ with
  | some (f, q) => if (s.qp (f * 256 + q)).valid ∧ 0 < (s.qp (f * 256 + q)).places then some (f * 256 + q) else none
  | none => none

/-- The time in ps, and a class's next time after a record of 32 bytes leaves under a cap in MB/s. -/
def State.ps (s : State) : Nat := s.tim.systime * 1000
def State.capFree (s : State) (c cap : Nat) : Bool := decide (0 < cap) && decide ((s.obs.egressAt[c]?).getD 0 ≤ s.ps)
def State.capUse (s : State) (c cap : Nat) : State :=
  s.modObs (fun o => { o with egressAt := o.egressAt.set c (max s.ps ((o.egressAt[c]?).getD 0) + 32000000 / cap) })

/-- An alarm entry has a record to send: at its creation, then at most once per ms while its COUNT rises (R510). -/
def State.alarmDue (s : State) (a : Alarm) : Bool :=
  decide (a.cause ≠ 0) && a.due && (match a.sentAt with | none => true | some t => decide (t + 1000000 ≤ s.tim.systime))

/-- A record's words (Table 19.4). -/
def ObsRec.words (r : ObsRec) : List Nat :=
  [packLE [(r.kind, 1), (r.source, 1), (r.slip, 1), (r.arg, 1), (r.code, 2), (r.seq, 2)], r.tick] ++ r.data

/-- ALARM_RECORD_EGRESS: the record of an alarm entry leaves under the cap of 64 MB/s. -/
def execAlarmRecordEgress (i : BitVec 8) (s : State) : Host.Outcome State Fault Refusal :=
  let a := SMap.get ({} : Alarm) s.obs.alarms i.toNat
  .next (match s.logPlace, s.alarmDue a && s.capFree 0 64 with
  | some k, true =>
    let (q, o) := s.obs.nextSeq 1
    let rec_ : ObsRec := { kind := 1, source := a.source, slip := a.slip, arg := a.flags, code := a.cause, seq := q, tick := a.last, data := [a.count % 2 ^ 48, a.first] }
    let s := ({ s with obs := o }).capUse 0 64
    let s := s.modObs (fun o => { o with alarms := SMap.upd {} o.alarms i.toNat (fun a => { a with due := false, sentAt := some s.tim.systime }) })
    s.placeRec k rec_.words
  | _, _ => s)

/-- A record of the log class: a log, or the marker of dropped logs. -/
def ObsRec.isLog (r : ObsRec) : Bool := r.kind = 2 || (r.kind = 4 && r.arg = 2)

/-- After a departure: markers of ended runs take the free place (R510), and an empty ring ends the run of LOG_DROP. -/
def State.ringSettle (s : State) : State :=
  s.modObs (fun o =>
    let o := if o.ring.isEmpty then { o with dropped := false } else o
    let o := if 0 < o.runLog.count ∧ o.ring.length < 2048 then { o.marker 2 o.runLog with runLog := {} } else o
    if 0 < o.runTrace.count ∧ o.ring.length < 1536 then { o.marker 3 o.runTrace with runTrace := {} } else o)

/-- Take the oldest record of one class out of the ring and place it. -/
def State.ringOut (s : State) (k : Nat) (log : Bool) : State :=
  match s.obs.ring.findIdx? (fun r => r.isLog = log) with
  | none => s
  | some i =>
    match s.obs.ring[i]? with
    | none => s
    | some r =>
      let s := s.modObs (fun o => { o with ring := o.ring.eraseIdx i })
      ((s.capUse (if log then 1 else 2) (if log then s.obs.logCap else s.obs.traceCap)).ringSettle).placeRec k r.words

/-- LOG_EGRESS (R511): behind alarm records that may leave; logs first, a trace only while no log waits. -/
def execLogEgress (s : State) : Host.Outcome State Fault Refusal :=
  .next (match s.logPlace with
  | none => s
  | some k =>
    if s.capFree 0 64 && s.obs.alarms.any (fun e => s.alarmDue e.2) then s
    else if s.obs.ring.any ObsRec.isLog then (if s.capFree 1 s.obs.logCap then s.ringOut k true else s)
    else if s.capFree 2 s.obs.traceCap then s.ringOut k false else s)

end Sys2Proof.Machine
end

