-- ==== Sys2Proof/Machine/Security.lean ====
section
/-! DEFINITION. The Security Engine (16): Colophon, SPDM sessions, key slots, firmware, debug access, lifecycle and random numbers. -/
namespace Sys2Proof.Machine

def State.modSec (s : State) (g : Sec → Sec) : State := { s with sec := g s.sec }

def seErr : Nat := semB + 4

/-- Committed vault generation. -/
def Sec.gen (c : Sec) : Nat := match c.vault with | some v => v.gen | none => 0

/-! ## The Colophon (R430–R432) -/

/-- A slipcase is between step 1 and step 5 of R408. -/
def State.resettingSlip (s : State) (n : Nat) : Bool := decide ((s.slip n).state = 3)

/-- STATE of a report over the slipcases that pass a test (R431). -/
def State.colState (s : State) (p : Nat → Bool) : Nat :=
  if s.slips.any (fun e => p e.1 && s.resettingSlip e.1) then 2 else if s.sec.staged.isSome then 1 else 0

/-- A measurement block (Table 16.6): INDEX, KIND, FLAGS, SLIPCASE, OBJ_ID, SVN, DIGEST. -/
def colBlock (index kind flags slip obj svn digest : Nat) : List Nat := [index, kind, flags, slip, obj, svn, digest]

/-- The digest of the LIFECYCLE block: lifecycle, DEBUG_OPENED and the committed vault body. -/
def Sec.lifeDigest (c : Sec) : Nat :=
  Config.sha384 ([c.life, c.dbgOpen.toNat] ++ (match c.vault with | some v => [v.owner] ++ v.pubs ++ [v.fwDigest, v.cert] | none => []))

/-- The device blocks of indices 1 to 4. -/
def State.devBlocks (s : State) : List (List Nat) :=
  [colBlock 1 1 0 0xFF 0 0 Config.romDigest, colBlock 2 2 0 0xFF 0 s.sec.active.svn.toNat s.sec.active.digest] ++
    (match s.sec.staged with | some i => [colBlock 3 3 0 0xFF 0 i.svn.toNat i.digest] | none => []) ++
    [colBlock 4 4 0 0xFF 0 0 s.sec.lifeDigest]

/-- The blocks of loaded graphs: two to each, from index 16 on. -/
def State.graphBlocks (s : State) (p : Nat → Bool) : List (List Nat) :=
  let gs := s.graphs.filter (fun e => e.2.exist && p e.2.slip)
  (List.range gs.length).flatMap (fun i =>
    match gs[i]? with
    | none => []
    | some e =>
      let w := (s.resettingSlip e.2.slip).toNat
      [colBlock (16 + 2 * i) 5 w e.2.slip e.1 0 e.2.progDigest, colBlock (17 + 2 * i) 6 w e.2.slip e.1 0 e.2.wDigest])

/-- FLAGS of the header (Table 16.5). -/
def State.colFlags (s : State) (vf : Bool) (p : Nat → Bool) (degraded : Bool) : Nat :=
  s.sec.dbgOpen.toNat + 2 * s.sec.staged.isSome.toNat + 4 * (s.slips.any (fun e => p e.1 && s.resettingSlip e.1)).toNat + 8 * vf.toNat +
    16 * (decide (s.sec.trng = 2)).toNat + 32 * degraded.toNat + 64 * s.sec.vault.isNone.toNat

/-- DEGRADED: fewer than 64 active quires, or a Spine link narrower than four lanes (R36, R38). -/
def State.isDegraded (s : State) : Bool :=
  decide (((List.range 68).filter (fun i => decide (s.qState i = 1))).length < 64) || s.sps.any (fun e => decide (e.2.width < 4))

/-- COLOPHON_GET: header, blocks and a signature, which is a free value. -/
def State.colophon (s : State) (h : CmdRef) (nonce : Nat) (g : Sgl) : Res :=
  let vf := decide (h.fn ≠ 0)
  let own := s.fnSlip h.fn.toNat
  let p := fun n => !vf || decide (own = some n)
  let bl := s.devBlocks ++ s.graphBlocks p
  let bytes := 192 + 64 * bl.length
  match sglErr g bytes with
  | some d => .err s stBadParam d
  | none =>
    let st := s.colState p
    let hdr := [0x48434F43, 1, st, s.colFlags vf p s.isDegraded, s.sec.life, if vf then own.getD 0xFF else 0xFF, bl.length, s.sec.gen,
                Config.deviceUid.toNat, nonce, s.tim.tick, s.sec.floor, s.sec.active.svn.toNat]
    let (sig, s) := s.take
    .ok ((s.sglWrite h (hdr ++ bl.flatten ++ [sig])).bump (semB + 0x100)) (result [(bytes, 4), (st, 1)])

/-- COLOPHON_GET (R430): the SE runs it itself. -/
def execColophonGet (h : CmdRef) (nonce : BitVec 256) (sgl : Sgl) (s : State) : Host.Outcome State Fault Refusal :=
  .next (s.cmd h 0x0901 (.colophonGet h nonce sgl) (fun s _ => s.colophon h nonce.toNat sgl))

/-! ## SPDM sessions (R427–R429, R539) -/

/-- An IDE stream's interfaces move to ERROR (R414, R539). -/
def State.streamError (s : State) (i : IdeStream) : State := i.fns.foldl State.tdispError s

/-- A session ends (R429): its IDE streams stop and the interfaces it secured move to ERROR. -/
def State.endSession (s : State) (n : Nat) : State :=
  let gone := s.sec.streams.filter (fun i => decide (i.session = n))
  let s := s.modSec (fun c => { c with sessions := c.sessions.filter (fun x => decide (x.id ≠ n)), streams := c.streams.filter (fun i => decide (i.session ≠ n)) })
  gone.foldl State.streamError s

def State.endSessions (s : State) : State := (s.sec.sessions.map (·.id)).foldl State.endSession s

/-- A message of a session keeps it alive. -/
def State.seen (s : State) (n : Nat) : State :=
  s.modSec (fun c => { c with sessions := c.sessions.map (fun x => if x.id = n then { x with seen := s.tim.systime } else x) })

def State.hasSession (s : State) (n : Nat) : Bool := s.sec.sessions.any (fun x => x.id = n && x.up)

def Sec.modStream (c : Sec) (n : Nat) (f : IdeStream → IdeStream) : Sec :=
  { c with streams := c.streams.map (fun i => if i.id = n then f i else i) }

/-- The functions of a stream belong to VFs of one slipcase (R539). -/
def State.streamFns (s : State) (fns : List Nat) : Bool :=
  match fns with
  | [] => false
  | f :: r => decide (f ≠ 0) && (s.fnSlip f).isSome && r.all (fun x => decide (x ≠ 0) && decide (s.fnSlip x = s.fnSlip f))

/-- One IDE_KM message: key programming opens a stream or refreshes a key set, at most 64 streams. -/
def State.ideProg (s : State) (n st ks : Nat) (fns : List Nat) : State :=
  if (s.sec.streams.any (fun i => i.id = st && i.session = n)) then
    s.modSec (fun c => c.modStream st (fun i => { i with sets := if i.sets.contains ks then i.sets else i.sets ++ [ks] }))
  else if s.sec.streams.any (fun i => i.id = st) ∨ 64 ≤ s.sec.streams.length ∨ 2 ≤ ks ∨ !s.streamFns fns then s
  else s.modSec (fun c => { c with streams := c.streams ++ [{ id := st, session := n, fns := fns, sets := [ks], active := none, insecure := false }] })

/-- What the responder does with a request: the state after and the SPDM error of its response, 0 for none (Busy is 3). -/
def State.spdm (s : State) (r : SpdmReq) : State × Nat :=
  match r with
  | .keyExchange hb =>
    if 4 ≤ s.sec.sessions.length then (s, 3)
    else
      let n := s.sec.nextSession
      let s := s.modSec (fun c => { c with sessions := c.sessions ++ [{ id := n, up := false, period := hb.toNat, seen := s.tim.systime }], nextSession := n + 1 })
      (s.bump (semB + 0x108), 0)
  | .finish n ok =>
    if s.sec.sessions.any (fun x => x.id = n && !x.up) then
      (if ok then ((s.seen n).modSec (fun c => { c with sessions := c.sessions.map (fun x => if x.id = n then { x with up := true } else x) }), 0)
       else (s.endSession n, 6))
    else (s, 1)
  | .heartbeat n => if s.hasSession n then (s.seen n, 0) else (s, 2)
  | .keyUpdate n => if s.hasSession n then (s.seen n, 0) else (s, 2)
  | .endSession n => if s.hasSession n then (s.endSession n, 0) else (s, 2)
  | .ideProg n st ks fns => if s.hasSession n then ((s.seen n).ideProg n st ks fns, 0) else (s, 2)
  | .ideGo n st ks =>
    if s.hasSession n then ((s.seen n).modSec (fun c => c.modStream st (fun i => if i.session = n ∧ i.sets.contains ks then { i with active := some ks } else i)), 0)
    else (s, 2)
  | .ideStop n st =>
    if s.hasSession n then
      let gone := s.sec.streams.filter (fun i => i.id = st && i.session = n)
      (gone.foldl State.streamError ((s.seen n).modSec (fun c => { c with streams := c.streams.filter (fun i => !(i.id = st && i.session = n)) })), 0)
    else (s, 2)
  | .tdispStart n f =>
    if s.hasSession n ∧ (s.fn f).tdisp = .locked then ((s.seen n).modFn f (fun x => { x with tdisp := .run }), 0) else (s, 2)
  | .unsupported => (s, 7)
  | .getVersion | .getCapabilities | .negotiateAlgorithms | .getDigests | .getCertificate | .challenge | .getMeasurements
  | .chunkSend | .chunkGet => (s, 0)

/-- SPDM_MESSAGE: the length and the bytes of a response are free values. -/
def State.spdmMessage (s : State) (h : CmdRef) (req rsp : Sgl) (reqBytes : Nat) (r : SpdmReq) : Res :=
  let key := match r with | .keyExchange _ => true | _ => false
  match sglErr req reqBytes with
  | some d => .err s stBadParam d
  | none =>
    if key && s.sec.trng = 2 then .err s stNoResource 0xF0
    else
      let (n, s1) := s.take
      let n := n % 2 ^ 32
      match sglErr rsp n with
      | some d => .err s1 stBadParam d
      | none =>
        let (s2, e) := s1.spdm r
        let (b, s3) := s2.take
        .ok (s3.sglWrite h [e, b]) (result [(n, 4)])

def execSpdmMessage (h : CmdRef) (req rsp : Sgl) (reqBytes : BitVec 32) (r : SpdmReq) (s : State) : Host.Outcome State Fault Refusal :=
  .next (s.cmd h 0x0902 (.spdmMessage h req rsp reqBytes r) (fun s _ => s.spdmMessage h req rsp reqBytes.toNat r))

/-- HEARTBEAT_MISSED (R429): three periods without a heartbeat end a session. -/
def execHeartbeatMissed (s : State) : Host.Outcome State Fault Refusal :=
  .next ((s.sec.sessions.filter (fun x => decide (0 < x.period ∧ x.seen + 3 * x.period * 1000000000 ≤ s.tim.systime))).foldl (fun s x => s.endSession x.id) s)

/-! ## Key slots (R396) -/

/-- Destroy a slot's key: its granules become DIRTY and the slot EMPTY. -/
def State.eraseKey (s : State) (k : Nat) : State :=
  { s with keys := SMap.put {} s.keys k {}, granules := s.granules.filter (fun e => e.2 ≠ .owned k) }

/-- KEY_SLOT_GEN: the new key is a free value. -/
def State.keyGen (s : State) (k : Nat) : Res :=
  if 4096 ≤ k then .err s stBadParam 0xF025
  else if (s.key k).state = 2 then .err s stTransition 1
  else if s.sec.trng = 2 then .err s stNoResource 0xF0
  else
    let (v, s) := (s.eraseKey k).take
    .ok (s.modKey k (fun _ => { state := 1, key := v }))

def execKeySlotGen (h : CmdRef) (slot : BitVec 16) (s : State) : Host.Outcome State Fault Refusal :=
  .next (s.cmd h 0x0903 (.keySlotGen h slot) (fun s _ => s.keyGen slot.toNat))

/-- A staged command names a key slot. -/
def Staged.onKey (x : Staged) (k : Nat) : Bool :=
  match x.cmd with
  | .keySlotErase _ sl => decide (sl.toNat = k)
  | .partitionHandover _ sl _ => decide (sl.toNat = k)
  | _ => false

/-- KEY_SLOT_ERASE: it withdraws the slot's key, so staged commands on the slot complete OBJ_WITHDRAWN (R379). -/
def State.keyErase (s : State) (h : CmdRef) (k : Nat) : Res :=
  if 4096 ≤ k then .err s stBadParam 0xF025
  else if (s.key k).state = 2 then .err s stTransition 1
  else .ok ((s.eraseKey k).endStaged (fun x => decide (x.ref ≠ h) && x.onKey k) stTransition 0xF027)

def execKeySlotErase (h : CmdRef) (slot : BitVec 16) (s : State) : Host.Outcome State Fault Refusal :=
  .next (s.cmd h 0x0904 (.keySlotErase h slot) (fun s _ => s.keyErase h slot.toNat))

/-! ## The vault (R421, R424) -/

/-- The slot that the newest complete commit copy names: false A, true B. -/
def Sec.newestSlot (c : Sec) : Option CommitCopy :=
  match c.copy0, c.copy1 with
  | some a, some b => if a.gen < b.gen then some b else some a
  | some a, none => some a
  | none, b => b

/-- A vault update: the contents go to the other slot, the older commit copy names it, and the floor follows VAULT_SVN. -/
def Sec.vaultUpdate (c : Sec) (v : Vault) : Sec :=
  let toB := match c.newestSlot with | some x => !x.slot | none => false
  let cc : CommitCopy := { gen := v.gen, slot := toB, svn := v.svn }
  let first := match c.copy0, c.copy1 with | some a, some b => decide (a.gen < b.gen) | none, _ => true | some _, none => false
  { c with vault := some v, slotA := if toB then c.slotA else some v, slotB := if toB then some v else c.slotB,
           copy0 := if first then some cc else c.copy0, copy1 := if first then c.copy1 else some cc, floor := max c.floor v.svn }

/-- Commit new vault contents, counted. -/
def State.commitVault (s : State) (v : Vault) : State := (s.modSec (fun c => c.vaultUpdate v)).bump (semB + 0x118)

/-! ## Firmware (R425, R426, R589) -/

/-- FW_STAGE. -/
def State.fwStage (s : State) (g : Sgl) (i : FwImage) : Res :=
  let low := match s.sec.vault with | some v => v.fwSvn | none => 0
  let full := match s.sec.vault with | some v => decide (v.fwSvn < i.svn.toNat ∧ 255 ≤ v.svn) | none => false
  if s.sec.staged.isSome then .err s stTransition 4
  else match sglErr g i.bytes with
  | some d => .err s stBadParam d
  | none =>
    if !i.sigOk then .err s stBadParam 2
    else if decide (i.svn.toNat < low) || full then .err s stBadParam 3
    else .ok (s.modSec (fun c => { c with staged := some i })) (result [(i.bytes, 8)])

def execFwStage (h : CmdRef) (sgl : Sgl) (img : FwImage) (s : State) : Host.Outcome State Fault Refusal :=
  .next (s.cmd h 0x0905 (.fwStage h sgl img) (fun s _ => s.fwStage sgl img))

/-- The device boots from SPI NOR (R530): BOOT 0b00 or 0b10. -/
def State.bootsNor (s : State) : Bool := s.pwr.straps % 4 = 0 || s.pwr.straps % 4 = 2

/-- The CP restarts on an image: FW_VER and the Alias key follow it. -/
def State.runImage (s : State) (i : FwImage) : State := s.modSec (fun c => { c with active := i, staged := none })

/-- FW_COMMIT: image bank, vault, sessions, CP restart. -/
def State.fwCommit (s : State) : Res :=
  match s.sec.staged with
  | none => .err s stBadParam 5
  | some i =>
    let s := if s.bootsNor then
        s.modSec (fun c => if c.bankB then { c with bank0 := some i, bankB := false } else { c with bank1 := some i, bankB := true })
      else s
    let v := s.sec.vault.getD {}
    let up := decide (v.fwSvn < i.svn.toNat)
    let s := s.commitVault { v with gen := v.gen + 1, fwDigest := i.digest, fwSvn := max v.fwSvn i.svn.toNat, svn := if up then v.svn + 1 else v.svn, life := s.sec.life }
    let s := (s.endSessions).runImage i
    .ok s (result [(s.sec.gen, 4)])

def execFwCommit (h : CmdRef) (s : State) : Host.Outcome State Fault Refusal :=
  .next (s.cmd h 0x0906 (.fwCommit h) (fun s _ => s.fwCommit))

/-- CP_RESTART (R492): back in service; firmware commands that have not passed their commit point (they wait, or are staged) complete
ABORTED_BY_RESET, RESET_NOT_APPLIED, and those past it run on. COLOPHON_GET is the SE's. -/
def execCpRestart (s : State) : Host.Outcome State Fault Refusal :=
  .next (if !s.si.cpDown then s
  else
    let out := s.qps.flatMap (fun e => (e.2.fetched.filter (fun f => f.fw && decide (f.phase ≠ .running) && decide (f.opc ≠ 0x0901))).map
      (fun f => ({ fn := BitVec.ofNat 12 (e.1 / 256), qp := BitVec.ofNat 8 (e.1 % 256), tag := f.tag } : CmdRef)))
    let s := { s with staged := [] }
    let s := out.foldl (fun s h => s.complete h stAborted 0xF011) s
    let s := s.modSi (fun x => { x with cpDown := false })
    (s.bump (simB + 0x438)).endCause (fun x => decide (x.cause = 0x11 ∨ x.cause = 0x12) && decide (x.reaction ≠ 4)))

/-! ## Debug access (R437, R438) -/

/-- DEBUG_CHALLENGE: the nonce is a free value. -/
def State.debugChallenge (s : State) (h : CmdRef) (g : Sgl) : Res :=
  if !(s.sec.life = 2 ∨ s.sec.life = 3) ∨ s.sec.dbgOpen ∨ s.sec.vault.isNone then .err s stNotPermitted 6
  else if s.sec.trng = 2 then .err s stNoResource 0xF0
  else match sglErr g 32 with
  | some d => .err s stBadParam d
  | none =>
    let (v, s) := s.take
    let v := v % 2 ^ 256
    .ok ((s.modSec (fun c => { c with nonce := some (v, s.tim.systime) })).sglWrite h [v])

def execDebugChallenge (h : CmdRef) (sgl : Sgl) (s : State) : Host.Outcome State Fault Refusal :=
  .next (s.cmd h 0x0907 (.debugChallenge h sgl) (fun s _ => s.debugChallenge h sgl))

/-- Every slipcase runs the partition reset (R436, R438). -/
def State.resetSlips (s : State) (h : CmdRef) : State :=
  (s.slips.keysWhere (fun _ p => decide (p.state ≠ 0))).foldl (fun s n => (s.partReset h n).s) s

/-- Every key slot, IN_SERVICE and PARKED alike, is erased. -/
def State.eraseKeys (s : State) : State := (s.keys.map (·.1)).foldl State.eraseKey s

/-- Opening debug (R438). -/
def State.openDebug (s : State) (h : CmdRef) : State :=
  let s := ((s.resetSlips h).endSessions).eraseKeys
  s.modSec (fun c => { c with dbgOpen := true })

/-- DEBUG_RESPONSE; `sigOk`: the signature verifies over the live nonce, DEVICE_UID and VAULT_GEN under the key the lifecycle names.
A bad signature uses up the nonce. -/
def State.debugResponse (s : State) (h : CmdRef) (g : Sgl) (sigOk : Bool) : Res :=
  match sglErr g 96 with
  | some d => .err s stBadParam d
  | none =>
    if s.sec.nonce.isNone then .err s stBadParam 8
    else
      let s := s.modSec (fun c => { c with nonce := none })
      if sigOk then .ok (s.openDebug h) else .errKeep ((s.orReg seErr 2).bump (semB + 0x110)) stNotPermitted 7

def execDebugResponse (h : CmdRef) (sgl : Sgl) (sigOk : Bool) (s : State) : Host.Outcome State Fault Refusal :=
  .next (s.cmd h 0x0908 (.debugResponse h sgl sigOk) (fun s _ => s.debugResponse h sgl sigOk))

/-- NONCE_EXPIRY (R419): 10 s after issue. -/
def execNonceExpiry (s : State) : Host.Outcome State Fault Refusal :=
  .next (match s.sec.nonce with
  | none => s
  | some (_, t) => if t + 10000000000 ≤ s.tim.systime then s.modSec (fun c => { c with nonce := none }) else s)

/-! ## Lifecycle (R435, R436) -/

/-- The transitions of Table 16.8, with R423 under VAULT_NONE. -/
def Sec.mayMove (c : Sec) (target : Nat) : Bool :=
  if c.vault.isNone ∧ (c.life = 2 ∨ c.life = 3) then decide (target = 4)
  else decide ((c.life = 0 ∧ target = 1) ∨ (c.life = 1 ∧ target = 2) ∨ (c.life = 2 ∧ target = 3) ∨ (c.life = 3 ∧ (target = 3 ∨ target = 4)))

/-- The signer that a transition needs. -/
def Sec.signerOk (c : Sec) (a : LifeAuth) (target : Nat) : Bool :=
  if c.vault.isNone ∧ (c.life = 2 ∨ c.life = 3) then a.vendor
  else if target ≤ 2 then a.vendor
  else if c.life = 2 then a.flags.getLsbD 0 && decide (a.signer = a.newOwner)
  else match c.vault with | some v => decide (v.owner ≠ 0 ∧ a.signer = v.owner) | none => false

/-- The authorisation's own form and its binding to this device and generation. -/
def Sec.authOk (c : Sec) (a : LifeAuth) (target : Nat) : Bool :=
  decide (a.magic = 0x4C584155 ∧ a.target.toNat = target ∧ a.flags.toNat < 4 ∧ a.nPub.toNat ≤ 8) && !a.rsvdNZ &&
    decide (a.uid = Config.deviceUid) && decide (a.vaultGen.toNat = c.gen) && a.sigOk && c.signerOk a target

/-- The vault contents after a transition; VAULT_SVN rises where OWNER_PUB or PUB_HASH changes (R424). -/
def Sec.nextVault (c : Sec) (a : LifeAuth) (target : Nat) : Vault :=
  let v := c.vault.getD {}
  let owner := if a.flags.getLsbD 0 then a.newOwner else v.owner
  let pubs := if a.flags.getLsbD 1 then a.pubs.take a.nPub.toNat else v.pubs
  { v with gen := v.gen + 1, life := target, owner := owner, pubs := pubs, svn := if owner ≠ v.owner ∨ pubs ≠ v.pubs then v.svn + 1 else v.svn }

/-- Entry into RMA (R436). -/
def State.enterRma (s : State) (h : CmdRef) : State :=
  ((s.resetSlips h).eraseKeys).modSec (fun c => { c with vault := none, slotA := none, slotB := none, copy0 := none, copy1 := none })

/-- LIFECYCLE_ADVANCE: a refused authorisation is counted. -/
def State.lifeAdvance (s : State) (h : CmdRef) (target : Nat) (g : Sgl) (a : LifeAuth) : Res :=
  match sglErr g 720 with
  | some d => .err s stBadParam d
  | none =>
    let v := s.sec.nextVault a target
    if !s.sec.mayMove target then .err s stNotPermitted 9
    else if !s.sec.authOk a target then .errKeep ((s.orReg seErr 2).bump (semB + 0x110)) stNotPermitted 9
    else if 255 < v.svn then .err s stNotPermitted 9
    else
      let s := s.commitVault v
      let s := (s.modSec (fun c => { c with life := target })).endSessions
      .ok (if target = 4 then s.enterRma h else s)

def execLifecycleAdvance (h : CmdRef) (target : BitVec 8) (sgl : Sgl) (auth : LifeAuth) (s : State) : Host.Outcome State Fault Refusal :=
  .next (s.cmd h 0x0909 (.lifecycleAdvance h target sgl auth) (fun s _ => s.lifeAdvance h target.toNat sgl auth))

/-! ## Random numbers (R417, R418) -/

/-- DRBG_RESEED (R417). -/
def execDrbgReseed (s : State) : Host.Outcome State Fault Refusal :=
  .next (if s.sec.trng = 1 then (s.modSec (fun c => { c with reseedAt := s.tim.systime })).bump (semB + 0x120) else s)

/-- TRNG_FAIL (R418): FAILED, the alarm and the internal fault. -/
def execTrngFail (s : State) : Host.Outcome State Fault Refusal :=
  let s := s.modSec (fun c => { c with trng := 2, trngAt := s.tim.systime })
  .next (((s.orReg seErr 4).bump (semB + 0x128)).fault 0x70 0x13 0xFF)

/-- TRNG_RESTART (R418): 100 ms after the failure, with the result of the start-up test; a failed one waits 100 ms more. -/
def execTrngRestart (pass : Bool) (s : State) : Host.Outcome State Fault Refusal :=
  .next (if s.sec.trng = 2 ∧ s.sec.trngAt + 100000000 ≤ s.tim.systime then
    s.modSec (fun c => if pass then { c with trng := 1 } else { c with trngAt := s.tim.systime })
  else s)

end Sys2Proof.Machine
end

