-- ==== Sys2Proof/Machine/HostIf.lean ====
section
/-! DEFINITION. Host link, field outputs and DRAM upkeep (21): resets from the link, DOE, IDE and TDISP, triggers, contention. -/
namespace Sys2Proof.Machine

def State.modXio (s : State) (f : Xio → Xio) : State := { s with xio := f s.xio }

/-! ## Resets and violations (R536, R543) -/

/-- HOT_RESET: hot reset, or the link going down from L0, starts a device reset (R493). -/
def execHotReset (s : State) : Host.Outcome State Fault Refusal := .next { s with resetDue := true }

/-- POISONED_TLP: dropped, counted and reported. -/
def execPoisonedTlp (fn : BitVec 12) (off : BitVec 64) (s : State) : Host.Outcome State Fault Refusal :=
  .next ((s.bump (xioB + 0x410)).emit .aer [fn.toNat, 2] [0, off.toNat])

/-- UNEXPECTED_COMPLETION: dropped and reported. -/
def execUnexpectedCompletion (s : State) : Host.Outcome State Fault Refusal := .next (s.emit .aer [0, 3] [])

/-! ## DOE, IDE and TDISP (R538–R540) -/

/-- DOE_REQUEST: an object of a protocol (0 discovery, 1 CMA/SPDM, 2 secured CMA/SPDM) and a length in bytes. An unsupported protocol or
an object beyond 4 KiB sets DOE Error and is discarded. The response's bytes are a free value. -/
def execDoeRequest (proto : BitVec 8) (len : BitVec 32) (r : SpdmReq) (s : State) : Host.Outcome State Fault Refusal :=
  let key := match r with | .keyExchange _ => true | _ => false
  .next (if s.sec.doeErr then s
  else if 2 < proto.toNat ∨ 4096 < len.toNat then s.modSec (fun c => { c with doeErr := true, doeReady := false })
  else if proto = 0 then (s.modSec (fun c => { c with doeReady := true })).emit .link [2, 0] [0, 1, 2]
  else
    let p := if key && s.sec.trng = 2 then (s, 5) else s.spdm r
    let (b, s) := p.1.take
    (s.modSec (fun c => { c with doeReady := true })).emit .link [2, proto.toNat] [p.2, b])

/-- DOE_ABORT: the mailbox and its Error bit are cleared. -/
def execDoeAbort (s : State) : Host.Outcome State Fault Refusal :=
  .next (s.modSec (fun c => { c with doeErr := false, doeReady := false }))

/-- IDE_CHECK_FAILED: the TLP is discarded, the stream goes Insecure and its interfaces to ERROR. -/
def execIdeCheckFailed (n : BitVec 8) (s : State) : Host.Outcome State Fault Refusal :=
  .next (match s.sec.streams.find? (fun i => decide (i.id = n.toNat)) with
  | none => s
  | some i =>
    let s := s.modSec (fun c => c.modStream i.id (fun i => { i with insecure := true, active := none }))
    (s.streamError i).emit .aer [0, 4] [i.id])

/-- LOCK_INTERFACE: a VF that belongs to an ACTIVE slipcase. -/
def execLockInterface (fn : BitVec 12) (s : State) : Host.Outcome State Fault Refusal :=
  let f := fn.toNat
  let ok := decide (f ≠ 0) && (s.fn f).exist && decide ((s.fn f).tdisp = .unlocked) &&
    (match s.fnSlip f with | some n => decide ((s.slip n).state = 1) | none => false)
  .next (if ok then (s.modFn f (fun x => { x with tdisp := .locked })).emit .link [3, f] [1] else s.emit .link [3, f] [0])

/-- STOP_INTERFACE: the VF is reset and unlocked. -/
def execStopInterface (fn : BitVec 12) (s : State) : Host.Outcome State Fault Refusal :=
  let f := fn.toNat
  .next (if f = 0 ∨ !(s.fn f).exist then s else (s.resetVf f false).modFn f (fun x => { x with tdisp := .unlocked }))

/-! ## Ethernet and I3C events (R548, R552, R553) -/

/-- ETH_LINK_LOSS: LINK_DOWN; its PTP source delivers nothing and SOURCE_LOST follows after LOSS_TIME. -/
def execEthLinkLoss (e : BitVec 1) (s : State) : Host.Outcome State Fault Refusal :=
  .next ((s.orReg (xioB + 4) 4).modTim (fun t => { t with delayReq := t.delayReq &&& ~~~ (1#2 <<< e.toNat) }))

/-- DELAY_REQUEST: an enabled port whose PTP source is a candidate sends its delay request. -/
def execDelayRequest (e : BitVec 1) (s : State) : Host.Outcome State Fault Refusal :=
  .next (if s.candidates.contains (1 + e.toNat) ∧ s.rfld (xioB + 0x10 + 8 * e.toNat) 63 63 = 1 then
    (s.modTim (fun t => { t with delayReq := t.delayReq ||| (1#2 <<< e.toNat) })).emit .ethernet [e.toNat] [0x88F7, s.rfld (xioB + 0x20 + 8 * e.toNat) 63 63]
  else s)

/-- HOT_JOIN: accepted while HJ_EN = 1, else NACKed and counted. -/
def execHotJoin (i : BitVec 1) (s : State) : Host.Outcome State Fault Refusal :=
  .next (if s.rfld (xioB + 0x390 + 4 * i.toNat) 31 30 = 3 then s.emit .bus [i.toNat] [2, 1] else (s.bump (xioB + 0x468)).emit .bus [i.toNat] [2, 0])

/-! ## DRAM upkeep (R544) -/

/-- DRAM_ECS_READ: the error count of each channel; a rising count sets DRAM_ECS. -/
def execDramEcsRead (counts : List Nat) (s : State) : Host.Outcome State Fault Refusal :=
  let l := (List.range 8).map (fun c => (counts[c]?).getD (SMap.get 0 s.xio.ecs c))
  let rise := (List.range 8).any (fun c => decide (SMap.get 0 s.xio.ecs c < (l[c]?).getD 0))
  let s := s.modXio (fun x => { x with ecs := SMap.putAll 0 [] 0 l })
  .next (if rise then s.orReg (mcB + 4) 4 else s)

/-- WCK2DQ_RETRAINING of a channel. -/
def execWck2dqRetraining (c : BitVec 3) (s : State) : Host.Outcome State Fault Refusal :=
  .next (s.modXio (fun x => { x with wckAt := SMap.put 0 x.wckAt c.toNat s.tim.systime }))

/-! ## Field outputs (R557, R558) -/

def State.outPin (s : State) (i : Nat) : OutPin := SMap.get {} s.xio.outs i
def State.modOut (s : State) (i : Nat) (f : OutPin → OutPin) : State := s.modXio (fun x => { x with outs := SMap.upd {} x.outs i f })

/-- POL of TRIG_OUT n or SYNC_OUT: active high. -/
def State.outPol (s : State) (i : Nat) : Bool := if i < 8 then s.rfld (xioB + 0x300 + 16 * i) 62 62 = 1 else s.rfld (xioB + 0x380) 29 29 = 1

/-- The level an output drives: 0, 1, or 2 for high-Z. In the safe state TRIG_OUT and SYNC_OUT take their safe level (R488); the FAULT
pins follow the Safety Island. -/
def State.outLevel (s : State) (i : Nat) : Nat :=
  let p := s.outPin i
  if i = 9 then (if s.si.pins then 0 else 2)
  else if i = 10 then s.si.pins.toNat
  else if s.dom 47 ≠ 2 then 2
  else if s.si.safe then
    let c := s.reg (simB + 8)
    (if c.getLsbD (16 + i) then 2 else (c.getLsbD i).toNat)
  else if p.active = s.outPol i then 1 else 0

/-- Drive an output at its level, unless contention holds it high-Z. -/
def State.driveOut (s : State) (i : Nat) : State :=
  let p := s.outPin i
  s.emit .pin [if i < 9 then 10 + i else i - 8] [if (p.contention || p.latched) && !(i < 9 && s.si.safe) then 2 else s.outLevel i]

/-- An edge of TRIG_OUT or SYNC_OUT. One that falls while the field I/O domain is OFF is not driven. -/
def State.edge (s : State) (i : Nat) (on : Bool) (t : Nat) : State :=
  let s := s.modOut i (fun p => { p with active := on })
  if s.dom 47 ≠ 2 then (if i < 8 then s.bump (xioB + 0x448) else s)
  else if s.si.safe ∨ (s.outPin i).contention ∨ (s.outPin i).latched then s
  else s.emit .edge [i] [s.outLevel i, t]

/-- An instant falls in the present tick. -/
def State.now (s : State) (t : Nat) : Bool := decide (s.tim.systime ≤ t ∧ t < s.tim.systime + s.tickLen)

/-- TRIG_OUT: the edge at grid instant k, or the edge WIDTH_US later. -/
def execTrigOut (n : BitVec 3) (k : BitVec 64) (fall : Bool) (s : State) : Host.Outcome State Fault Refusal :=
  let c := xioB + 0x300 + 16 * n.toNat
  let t := (s.reg (c + 8)).toNat + k.toNat * s.rfld c 47 16 + (if fall then max 1 (s.rfld c 61 48) * 1000 else 0)
  .next (if s.rfld c 63 63 = 1 ∧ s.now t then s.edge n.toNat (!fall) t else s)

/-- Source time of an instant (R52): SYSTIME plus the registered epoch. -/
def State.sourceTime (s : State) (t : Nat) : Nat := (t + (s.reg (tuB + 0x30)).toNat) % 2 ^ 64

/-- SYNC_OUT: in mode PPS a pulse of 100 µs at each whole second of source time while EPOCH_VALID, in mode TICKS of one tick at every
tick whose TICK_COUNT is a multiple of N. -/
def execSyncOut (fall : Bool) (s : State) : Host.Outcome State Fault Refusal :=
  let mode := s.rfld (xioB + 0x380) 31 30
  let n := max 1 (s.rfld (xioB + 0x380) 23 0)
  let a := s.sourceTime s.tim.systime
  let w := if fall then 100000 else 0
  let sec := (a + 1000000000 - w + s.tickLen - 1) / 1000000000 * 1000000000
  let pps := mode = 1 && s.rfld tuStat 15 15 = 1 && decide (a + 1000000000 - w ≤ sec)
  let tick := mode = 2 && (if fall then decide (0 < s.tim.tick ∧ (s.tim.tick - 1) % n = 0) else decide (s.tim.tick % n = 0))
  .next (if pps || tick then s.edge 8 (!fall) s.tim.systime else s)

/-- An output is driven and read back: the FAULT pins only while the Safety Island does not hold them asserted. -/
def State.outWatched (s : State) (i : Nat) : Bool :=
  decide (i < 11) && !(s.outPin i).contention && !(s.outPin i).latched && (if 9 ≤ i then !s.si.pins else decide (s.outLevel i ≠ 2))

/-- OUTPUT_CONTENTION: step 1, or step 4 after the 8th retry. -/
def execOutputContention (i : BitVec 4) (s : State) : Host.Outcome State Fault Refusal :=
  let n := i.toNat
  .next (if !s.outWatched n then s
  else
    let s := s.modOut n (fun p => if 8 ≤ p.retries then { p with contention := true, latched := true }
      else { p with contention := true, retryAt := s.tim.systime + 10000000 })
    ((s.driveOut n).orReg (xioB + 4) 1).fault 0x74 0x1B 0xFF)

/-- CONTENTION_RETRY: step 2. -/
def State.retryOut (s : State) (n : Nat) : State :=
  let p := s.outPin n
  if p.contention ∧ !p.latched ∧ p.retryAt ≤ s.tim.systime then
    ((s.modOut n (fun p => { p with contention := false, retries := p.retries + 1 })).bump (xioB + 0x450)).driveOut n
  else s

def execContentionRetry (s : State) : Host.Outcome State Fault Refusal := .next ((List.range 11).foldl State.retryOut s)

/-- OUTPUT_RELEASE: named outputs that are LATCHED drive again with no retry counted; others are left alone. -/
def State.outRelease (s : State) (m : Nat) : Res :=
  if 0x7FF < m then .err s stBadParam 0xF025
  else
    let l := (bitsSet 11 m).filter (fun i => (s.outPin i).latched)
    let s := l.foldl (fun s i => (s.modOut i (fun p => { p with contention := false, latched := false, retries := 0 })).driveOut i) s
    .ok s (result [(maskOf l, 2)])

def execOutputRelease (h : CmdRef) (mask : BitVec 16) (s : State) : Host.Outcome State Fault Refusal :=
  .next (s.cmd h 0x0B03 (.outputRelease h mask) (fun s _ => s.outRelease mask.toNat))

/-- EXTEST (R555): boundary scan drives the pins as instructed, FAULT_A and FAULT_B included: pin and level. -/
def execExtest (pins : List (Nat × Nat)) (s : State) : Host.Outcome State Fault Refusal :=
  .next (pins.foldl (fun s p => s.emit .pin [p.1] [p.2]) (s.modXio (fun x => { x with extest := true })))

end Sys2Proof.Machine
end

