-- ==== Sys2Proof/Machine/Reset.lean ====
section
/-! DEFINITION. Device reset and power-on (R493–R496, R422, R528–R532): what each keeps, the self-test, and boot. -/
namespace Sys2Proof.Machine

/-! ## The vault at power-up (R422) -/

/-- The commit copies that are complete, newest first. -/
def Sec.copies (c : Sec) : List CommitCopy :=
  match c.copy0, c.copy1 with
  | some a, some b => if a.gen < b.gen then [b, a] else [a, b]
  | some a, none => [a]
  | none, some b => [b]
  | none, none => []

/-- The vault that a commit copy names, where its slot is complete, of that generation and not below the floor. -/
def Sec.named (c : Sec) (x : CommitCopy) : Option Vault :=
  match (if x.slot then c.slotB else c.slotA) with
  | some v => if v.gen = x.gen ∧ c.floor ≤ v.svn then some v else none
  | none => none

/-- A slot holds a generation that no commit copy names. -/
def Sec.uncommitted (c : Sec) (b : Bool) : Bool :=
  match (if b then c.slotB else c.slotA) with
  | some v => !c.copies.any (fun x => x.slot == b && decide (x.gen = v.gen))
  | none => false

/-- An incomplete sector, a torn copy or an uncommitted slot (VAULT_REPAIRED). -/
def Sec.torn (c : Sec) : Bool :=
  c.slotA.isNone || c.slotB.isNone || c.copy0.isNone || c.copy1.isNone || c.uncommitted false || c.uncommitted true

/-- The choice of the vault: none is VAULT_NONE; the floor follows the vault used. -/
def State.chooseVault (s : State) : State :=
  let c := s.sec
  let v := (c.copies.filterMap (fun x => c.named x)).head?
  let s := if c.torn then s.orReg seErr 8 else s
  let s := s.modSec (fun c => { c with vault := v, floor := match v with | some w => max c.floor w.svn | none => c.floor })
  match v with
  | some _ => s
  | none =>
    let s := s.orReg seErr 16
    if c.life = 2 ∨ c.life = 3 then s.alarm 0x105 0x70 0xFF else s

/-! ## What a reset leaves (R494, Table 18.7a) -/

/-- Every domain but the Warmer's is OFF. -/
def allOff : SMap Nat := SMap.putAll 2 [] 1 (List.replicate 47 0)

/-- The state under reset: everything is at its reset value but SYSTIME and TICK_COUNT, the straps and what else the Warmer keeps, OTP,
the key vault and SPI NOR; the counters are 0. The FAULT pins are asserted; no domain is up yet and PF0 is not ready. -/
def State.base (s : State) : State :=
  { State.reset with
    fns := [(0, { exist := true })]
    tim := { systime := s.tim.systime, tick := s.tim.tick, kTick := if s.tim.tickQ = 4 then s.tim.kTick else s.tim.tick,
             bK := if s.tim.tickQ = 4 then s.tim.bK else s.tim.systime, stopped := s.tim.stopped }
    sec := { life := s.sec.life, vault := s.sec.vault, slotA := s.sec.slotA, slotB := s.sec.slotB, copy0 := s.sec.copy0, copy1 := s.sec.copy1,
             floor := s.sec.floor, active := s.sec.active, bank0 := s.sec.bank0, bank1 := s.sec.bank1, bankB := s.sec.bankB }
    pwr := { doms := allOff, straps := s.pwr.straps, ambig := s.pwr.ambig, xtalOk := s.pwr.xtalOk, tempC := s.pwr.tempC, rails := s.pwr.rails,
             good := s.pwr.good, railTries := s.pwr.railTries }
    out := s.out
    free := s.free
    pending := s.pending }

/-! ## Boot (R425, R530) -/

/-- The boot ROM starts an image: the vendor signature verifies, and the digest is the committed one or the device is BLANK or in
VENDOR_TEST. -/
def Sec.boots (c : Sec) (i : FwImage) : Bool :=
  i.sigOk && (c.vault.any (fun v => decide (i.digest = v.fwDigest)) || decide (c.life ≤ 1))

/-- The image that SPI NOR gives: the one with the committed digest, from the active bank first; in BLANK and VENDOR_TEST otherwise the
first that it may start. -/
def Sec.norImage (c : Sec) : Option FwImage :=
  let bs := if c.bankB then [c.bank1, c.bank0] else [c.bank0, c.bank1]
  let l := bs.filterMap (fun (x : Option FwImage) => x)
  match l.find? (fun i => i.sigOk && c.vault.any (fun v => decide (i.digest = v.fwDigest))) with
  | some i => some i
  | none => l.find? (fun i => c.boots i)

/-- Step 8: PF0 is ready. -/
def State.ready (s : State) : State :=
  (s.modPwr (fun p => { p with bootWait := false })).modFn 0 (fun x => { x with rdy := true })

/-- Step 7: from SPI NOR where BOOT says so, else, or where no image there may start, the boot ROM waits for the host. -/
def State.boot (s : State) : State :=
  let wait := s.modPwr (fun p => { p with bootWait := true })
  if s.bootsNor then
    match s.sec.norImage with
    | some i => (s.runImage i).ready
    | none => wait.orReg (pwrB + 4) 16
  else wait

/-! ## The self-test (R147, R493 step 3) -/

/-- The live map that the self-test decides, as STATE of a quire: retired, active (the first 64), or spare. -/
def testState (active retired : BitVec 68) (q : Nat) : Nat :=
  if retired.getLsbD q then 3
  else if active.getLsbD q ∧ ((List.range q).filter (fun i => active.getLsbD i && !retired.getLsbD i)).length < 64 then 1
  else 0

/-- The self-test: quires in service and retired, and whether every known-answer test has passed. -/
def State.selfTest (s : State) (active retired : BitVec 68) (pass : Bool) : State :=
  let s := (List.range 68).foldl (fun s q =>
    let v := testState active retired q
    s.modQuire q (fun x => { x with state := if v = (if q < 64 then 1 else 0) then none else some v })) s
  s.modSi (fun x => { x with testOk := pass })

/-- Steps 5 to 8 of Table 20.6, and 3 to 5 of R493: domains ON, self-test, boot. -/
def State.start (s : State) (active retired : BitVec 68) (pass : Bool) : State :=
  ((s.modPwr (fun p => { p with doms := [], up := false, down := false, bootWait := false })).selfTest active retired pass).boot

/-! ## Device reset -/

/-- Step 1: FAULT pins asserted and field outputs at their safe levels; then all returns to reset, and the reset is counted. INLINE_ECC
takes effect (R545). -/
def State.resetAll (s : State) : State :=
  (State.bump ((s.assertPins).safeOutputs).base (simB + 0x440)).setRfld mcB 30 30 (s.rfld mcB 31 31)

/-- DEVICE_RESET_SEQUENCE (R493): it runs where a reset has been started. Firmware boots afresh. -/
def execDeviceResetSequence (active retired : BitVec 68) (pass : Bool) (s : State) : Host.Outcome State Fault Refusal :=
  .next (if s.resetDue ∧ !s.pwr.down then (s.resetAll).start active retired pass else s)

/-! ## The rails (R528, R578) -/

/-- RAIL_EN r driven. -/
def State.railPin (s : State) (r : Nat) (on : Bool) : State := s.emit .pin [20 + r] [on.toNat]

/-- Every RAIL_EN deasserted, 3 first. -/
def State.railsOff (s : State) : State :=
  (((s.railPin 3 false).railPin 2 false).railPin 1 false).modPwr (fun p => { p with rails := 0, good := 0 })

/-- Step 4 begins: RAIL_EN1. -/
def State.railsUp (s : State) : State :=
  (s.railPin 1 true).modPwr (fun p => { p with down := true, up := true, rails := 1, good := 0, railAt := s.tim.systime, retryAt := none })

/-- The time for another try of step 4 has come. -/
def State.railRetry (s : State) : State :=
  if s.pwr.retryAt.any (fun t => decide (t ≤ s.tim.systime)) ∧ !s.pwr.dead then s.railsUp else s

/-- RAIL_TIMEOUT (R528): no PWR_GOOD within 10 ms of its RAIL_EN; after 8 retries the device stays in WARMER_ONLY until power-on. -/
def execRailTimeout (s : State) : Host.Outcome State Fault Refusal :=
  let p := s.pwr
  .next (if p.up ∧ p.good % 2 ^ p.rails ≠ 2 ^ p.rails - 1 ∧ p.railAt + 10000000 ≤ s.tim.systime then
    let s := ((s.orReg (pwrB + 4) 2).bump (pwrB + 0x238)).railsOff
    s.modPwr (fun q => if 8 ≤ p.railTries then { q with up := false, dead := true, railTries := p.railTries + 1 }
      else { q with up := false, railTries := p.railTries + 1, retryAt := some (s.tim.systime + 100000000) })
  else s)

/-- A PWR_GOOD rises: while steps 4 to 8 run, the next rail follows, or the rest of start-up; in a device that is up, the supply fault
ends, and start-up goes on from step 4 where it was lost before PF0 was ready (R532). -/
def State.railGood (s : State) (r : Nat) (active retired : BitVec 68) (pass : Bool) : State :=
  let s := s.modPwr (fun p => { p with good := p.good ||| 2 ^ (r - 1) })
  let all := decide (s.pwr.good % 2 ^ s.pwr.rails = 2 ^ s.pwr.rails - 1)
  if !all then s
  else if s.pwr.up then
    if s.pwr.rails < 3 then (s.railPin (s.pwr.rails + 1) true).modPwr (fun p => { p with rails := p.rails + 1, railAt := s.tim.systime })
    else s.start active retired pass
  else
    let s := s.endCause (fun p => p.cause = 0x16)
    if s.pwr.bootWait then s.start active retired pass else s

/-- PWR_GOOD (R528, R578): PWR_GOOD1 to 3, with what the self-test finds if it runs; ignored and counted while its RAIL_EN is deasserted. -/
def execPwrGood (r : BitVec 2) (active retired : BitVec 68) (pass : Bool) (s : State) : Host.Outcome State Fault Refusal :=
  .next (if r = 0 then s
  else if s.pwr.rails < r.toNat then s.bump (pwrB + 0x238)
  else s.railGood r.toNat active retired pass)

/-! ## Power-on and loss (R528–R531) -/

/-- The levels of the straps (0 LOW, 1 HIGH, others ambiguous) in the order BOOT0, BOOT1, SPI_QUAD, XTAL_BYP, TEST_EN: values taken and
AMBIG bits (R529, Tables 20.7 and 20.8). An ambiguous BOOT pin defaults the field to 0b01; BOOT = 0b11 is treated so too. -/
def strapsOf (l : List (BitVec 2)) : Nat × Nat :=
  let lv := fun i => ((l[i]?).getD 0).toNat
  let amb := (List.range 5).filter (fun i => decide (2 ≤ lv i))
  let other := (List.range 5).filter (fun i => decide (2 ≤ i ∧ lv i = 1))
  let boot := lv 0 + 2 * lv 1
  (maskOf other + (if 2 ≤ lv 0 ∨ 2 ≤ lv 1 ∨ boot = 3 then 1 else boot), maskOf amb)

/-- STRAP_AMBIG: an ambiguous strap, or the reserved BOOT value. -/
def strapErr (l : List (BitVec 2)) : Bool :=
  l.any (fun x => decide (2 ≤ x.toNat)) || decide ((l[0]?).getD 0 = 1 ∧ (l[1]?).getD 0 = 1)

/-- POWER_UP (R528, R529): VDD_AON enters its window. Steps 1 to 3: power-on reset with SYSTIME 0, FAULT pins asserted, straps sampled;
the vault is chosen (R422); step 4 begins. -/
def execPowerUp (straps : List (BitVec 2)) (s : State) : Host.Outcome State Fault Refusal :=
  let p := strapsOf straps
  let s := ((s.modSi (fun x => { x with pins := false })).assertPins).base
  let s := { s with tim := {} }
  let s := s.modPwr (fun w => { w with straps := p.1, ambig := p.2, xtalOk := false, railTries := 0, tempC := 250 })
  let s := if strapErr straps then s.orReg (pwrB + 4) 1 else s
  .next (s.chooseVault).railsUp

/-- What a vault update under way leaves in SPI NOR where it is cut (R421, R424): 1 during step 1, 2 between steps 2 and 3, 3 during step 3. -/
def Sec.cut (c : Sec) (n : Nat) : Sec :=
  let toB := match c.newestSlot with | some x => !x.slot | none => false
  let v : Option Vault := if n = 1 then none else some { c.vault.getD {} with gen := c.gen + 1 }
  let c : Sec := if n = 0 then c else if toB then { c with slotB := v } else { c with slotA := v }
  let first := match c.copy0, c.copy1 with | some a, some b => decide (a.gen < b.gen) | none, _ => true | some _, none => false
  if n ≠ 3 then c else if first then { c with copy0 := none } else { c with copy1 := none }

/-- VDD_AON_LOSS (R531): the whole device goes down at once, the FAULT pins take the released pattern, and only OTP and SPI NOR keep
their contents. A vault update under way is cut at the step named. -/
def execVddAonLoss (cut : BitVec 2) (s : State) : Host.Outcome State Fault Refusal :=
  let s := s.modSec (fun c => c.cut cut.toNat)
  let s := ((s.base).emit .pin [1] [2]).emit .pin [2] [0]
  let s := s.modTim (fun t => { t with stopped := true })
  .next ((s.modSi (fun x => { x with pins := false })).modPwr (fun p => { p with down := true, dead := true, rails := 0, good := 0 }))

/-- HOST_BOOT_IMAGE (R530): the boot ROM, waiting, verifies what the host delivers. -/
def execHostBootImage (img : FwImage) (s : State) : Host.Outcome State Fault Refusal :=
  .next (if s.pwr.bootWait ∧ s.sec.boots img then (s.runImage img).ready else s)

end Sys2Proof.Machine
end

