-- ==== Sys2Proof/Machine/Power.lean ====
section
/-! DEFINITION. Power (20): domains and Brews, Warmer-only, the limiter and the governor, and the Power class (R388). -/
namespace Sys2Proof.Machine

/-! ## Domains (R514–R518) -/

/-- A region of an SFM quarter holds an enabled surface. -/
def State.quarterHolds (s : State) (k : Nat) : Bool := (List.range 4).any (fun i => s.rfld (sfmP (4 * k + i)) 31 31 = 1)

/-- A quire of a cluster holds a loaded graph. -/
def State.clusterHolds (s : State) (c : Nat) : Bool := s.graphs.any (fun e => e.2.exist && (e.2.quires ++ e.2.partners).any (fun q => decide (q / 4 = c)))

/-- A port of a Spine pair is UP. -/
def State.pairUp (s : State) (k : Nat) : Bool := decide ((s.port (2 * k)).state = 3 ∨ (s.port (2 * k + 1)).state = 3)

/-- The armed-idle state of a domain (Table 20.1). -/
def State.idleDom (s : State) (d : Nat) : Nat :=
  if d ≤ 1 then 2
  else if d ≤ 20 then 1
  else if d ≤ 24 then (s.quarterHolds (d - 21)).toNat
  else if d ≤ 41 then (s.clusterHolds (d - 25)).toNat
  else if d = 43 then (if s.ascu.chans.any (fun e => e.2.en) then 2 else 0)
  else if d = 45 ∨ d = 46 then (if s.pairUp (d - 45) then 2 else 0)
  else if d = 47 then (if s.dom 43 = 2 then 2 else 0)
  else 1

/-- Every domain is in its armed-idle state. -/
def State.armedIdle (s : State) : Bool := (List.range 48).all (fun d => decide (s.dom d = s.idleDom d))

/-- MODE (Table 20.3). -/
def State.powerMode (s : State) : Nat := if s.pwr.down then 2 else if s.armedIdle then 1 else 0

/-- What a domain that enters OFF loses: its units' contents and registers; its counters are kept (R500). -/
def State.domLost (s : State) (d : Nat) : State :=
  if 21 ≤ d ∧ d ≤ 24 then
    (List.range 4).foldl (fun s i =>
      let r := 4 * (d - 21) + i
      (s.modSfm r (fun f => { crnChans := f.crnChans, flwChans := f.flwChans })).clearRegs (sfmP r) (sfmP r + 0x1000)) s
  else if 25 ≤ d ∧ d ≤ 41 then
    (List.range 4).foldl (fun s i =>
      let q := 4 * (d - 25) + i
      (s.modQuire q Quire.scrub).clearRegs (qrB q) (qrB q + 0x4000)) s
  else if d = 43 then ({ s with ascu := {} } : State).clearRegs ascuB (ascuB + 0x10000)
  else if d = 45 ∨ d = 46 then
    (List.range 2).foldl (fun s i =>
      let p := 2 * (d - 45) + i
      (s.modPort p (fun x => { retired := x.retired, lanes := x.lanes, width := x.width })).clearRegs (spnB p) (spnB p + 0x10000)) s
  else if d = 47 then (List.range 9).foldl (fun s i => s.emit .pin [10 + i] [2]) s
  else s

/-- DOM_IDLE_US and DEEP_IDLE_MS. -/
def State.domIdleUs (s : State) : Nat := max 1 (s.rfld (pwrB + 0x28) 15 0)
def State.deepIdleNs (s : State) : Nat := max 1 (s.rfld (pwrB + 0x28) 31 16) * 1000000

/-- A domain may leave ON (R516, R517). -/
def State.maySleep (s : State) (d idleUs wakeUs : Nat) : Bool :=
  decide (s.dom d = 2 ∧ s.idleDom d ≠ 2 ∧ s.domIdleUs ≤ idleUs ∧ 20 < wakeUs ∧ 1 ≤ s.pwr.idle) && !s.pwr.warm.any (fun w => decide (w.2 = d)) &&
    !s.pwr.req.contains d && !s.pwr.down

/-- DOMAIN_IDLE (R516): a domain without work for idleUs, whose next scheduled wake lies wakeUs ahead, enters its armed-idle state. -/
def execDomainIdle (d : BitVec 6) (idleUs wakeUs : BitVec 32) (s : State) : Host.Outcome State Fault Refusal :=
  let n := d.toNat
  .next (if s.maySleep n idleUs.toNat wakeUs.toNat then
    let t := s.idleDom n
    let was := s.armedIdle
    let s := if t = 0 then s.domLost n else s
    let s := s.modPwr (fun p => { p with doms := SMap.put 2 p.doms n t })
    if !was ∧ s.armedIdle then s.bump (pwrB + 0x210) else s
  else s)

/-! ## Brews (R31–R35, R520) -/

/-- HOPPER_WAKE (R31, R66): the lanes leave ULPS; on a port in RETAIN that is enabled this raises the wake request (R91). -/
def execHopperWake (n : BitVec 4) (s : State) : Host.Outcome State Fault Refusal :=
  let s := s.modHop n.toNat (fun h => { h with link := 0 })
  .next (if s.portEn n.toNat ∧ s.dom (5 + n.toNat) = 1 then s.wakeReq ((5 + n.toNat) :: (s.hop n.toNat).wake) else s)

/-- TIMER_WAKE (R520): 15 µs before a scheduled tick that needs sleeping domains. -/
def execTimerWake (tick : BitVec 64) (doms : BitVec 48) (s : State) : Host.Outcome State Fault Refusal :=
  let ds := bitsSet 48 doms.toNat
  let at_ := s.tim.bK + (tick.toNat - s.tim.kTick) * s.tickLen
  .next (if s.tim.tick < tick.toNat ∧ at_ ≤ s.tim.systime + 15000 ∧ !(s.asleep ds).isEmpty ∧ !s.pwr.down then (s.bump (pwrB + 0x208)).wakeReq ds else s)

/-- L1_2_EXIT (R520): an exit from L1.2 that the host requests, or an arriving posted write. -/
def execL12Exit (s : State) : Host.Outcome State Fault Refusal := .next (s.wakeReq linkDoms)

/-- BREW (R33, R34): the Brew of every domain asked for ends, ns after the packet's arrival or the wake. -/
def execBrew (ns : BitVec 32) (s : State) : Host.Outcome State Fault Refusal :=
  .next (if s.pwr.req.isEmpty then s
  else
    let s := (s.brew s.pwr.req).modPwr (fun p => { p with req := [] })
    s.setReg (pwrB + 0x38) (BitVec.ofNat 64 (max (s.reg (pwrB + 0x38)).toNat ns.toNat)))

/-! ## Warmer-only (R523, R524) -/

/-- The conditions of R523. -/
def State.deepOk (s : State) : Bool :=
  decide (s.pwr.idle = 2) && !s.contracts.any (fun e => e.2.exist && decide (e.2.state ≠ 2)) && !s.graphs.any (fun e => e.2.exist) &&
    s.qps.all (fun e => e.2.fetched.all (fun f => !f.fw)) && !s.bind.member && !s.pwr.down

/-- Since when they hold. -/
def State.deepUpdate (s : State) : State :=
  s.modPwr (fun p => { p with deepAt := if s.deepOk then some (p.deepAt.getD s.tim.systime) else none })

/-- WARMER_ONLY_ENTRY (R523): FAULT pins asserted, every domain but the Warmer's OFF with its contents and every key slot, the rails
switched off. -/
def execWarmerOnlyEntry (s : State) : Host.Outcome State Fault Refusal :=
  .next (if s.deepOk ∧ s.pwr.deepAt.any (fun t => decide (t + s.deepIdleNs ≤ s.tim.systime)) then
    let c := s.ctrs
    let s := (s.assertPins).base
    State.bump (({ s with ctrs := c } : State).railsOff.modPwr (fun p => { p with down := true, idle := 2 })) (pwrB + 0x218)
  else s)

/-- Leave WARMER_ONLY (R524): a device reset in every other respect, from step 4 on. -/
def State.leaveDeep (s : State) : State :=
  if s.pwr.down ∧ !s.pwr.up ∧ !s.pwr.dead ∧ s.pwr.retryAt.isNone then (State.bump s.base (simB + 0x440)).railsUp else s

/-- WAKE_IN (R524): an edge. -/
def execWakeIn (s : State) : Host.Outcome State Fault Refusal := .next s.leaveDeep

/-- PERST (R536): assertion starts a device reset, deassertion ends WARMER_ONLY. -/
def execPerst (assert : Bool) (s : State) : Host.Outcome State Fault Refusal :=
  .next (if !assert then s.leaveDeep else if s.pwr.down then s else { s with resetDue := true })

/-! ## The limiter (R525) -/

/-- PWR_LIMIT in mW. -/
def State.powerLimit (s : State) : Nat := min 65000 (max 10000 (s.rfld (pwrB + 0x2C) 16 0))

/-- Quires that carry a contracted graph. -/
def State.conQuires (s : State) : List Nat :=
  (s.graphs.flatMap (fun e => if e.2.exist ∧ e.2.contract ≠ 0 then e.2.quires ++ e.2.partners else [])).eraseDups

/-- Active quires. -/
def State.activeQuires (s : State) : List Nat := (List.range 68).filter (fun q => decide (s.qState q = 1))

/-- Lower TARGET_STEP of a quire by 1, the present step with it. -/
def Quire.lowerTarget (x : Quire) : Quire := { x with target := x.target - 1, curStep := min x.curStep (x.target - 1) }

/-- Graphs of slipcases that pass a test raise GRIND (R196). -/
def State.raiseGrinds (s : State) (p : Nat → Bool) : State :=
  (s.graphs.filter (fun e => e.2.exist && decide (e.2.state = 1) && p e.2.slip)).foldl (fun s e => s.grindRaise e.1) s

/-- An action of the limiter with its quires; action 1 lowers targets and raises GRIND, the others limit the step. -/
def State.limitAct (s : State) (n : Nat) (qs : List Nat) : State :=
  let l := qs.map (fun q => (q, SMap.get 24 s.pwr.caps q))
  let s := if n = 1 then
      (qs.foldl (fun s q => s.modQuire q Quire.lowerTarget) s).raiseGrinds (fun m => (s.slip m).adaptive)
    else
      let low := fun (q : Nat) => if n = 3 then min (s.step q) (s.quire q).contractStep - 1 else s.step q - 1
      s.modPwr (fun p => { p with caps := qs.foldl (fun m q => SMap.put 24 m q (low q)) p.caps })
  let s := s.modPwr (fun p => { p with acts := (n, l) :: p.acts, actAt := if p.acts.isEmpty then s.tim.systime else p.actAt })
  let s := s.bump (pwrB + 0x220)
  if n = 3 then
    let s := qs.foldl (fun s q => s.quireConFault q 1) s
    (s.orReg (pwrB + 4) 8).alarm 0x17 0x72 0xFF
  else s

/-- The action of a window above the limit: the first of 1 and 2 that has quires to lower, and 3 from 1 ms after the first action on. -/
def State.limiterActs (s : State) : State :=
  let con := s.conQuires
  let one := s.activeQuires.filter (fun q => (s.quire q).adaptive && decide ((s.quire q).contractStep < (s.quire q).target))
  let two := s.activeQuires.filter (fun q => !con.contains q && decide (0 < s.step q))
  let three := s.activeQuires.filter (fun q => con.contains q && decide (0 < s.step q ∧ 0 < (s.quire q).contractStep))
  if !s.pwr.acts.isEmpty ∧ s.pwr.actAt + 1000000 ≤ s.tim.systime ∧ !three.isEmpty then s.limitAct 3 three
  else if !one.isEmpty then s.limitAct 1 one
  else if !two.isEmpty then s.limitAct 2 two
  else s

/-- Lift the latest action. -/
def State.limiterLifts (s : State) : State :=
  match s.pwr.acts with
  | [] => s
  | (n, l) :: rest =>
    let s := if n = 1 then l.foldl (fun s p => s.modQuire p.1 (fun x => { x with target := min 24 (x.target + 1) })) s
      else s.modPwr (fun p => { p with caps := l.foldl (fun m x => SMap.put 24 m x.1 x.2) p.caps })
    s.modPwr (fun p => { p with acts := rest })

/-- Quires of a slipcase in a cluster, and the slipcase's power: that of its clusters, shared by quire count (R527). -/
def State.slipPower (s : State) (n : Nat) : Nat :=
  ((List.range 17).map (fun c =>
    let all := (List.range 4).filter (fun i => (s.quire (4 * c + i)).slip.isSome)
    let own := all.filter (fun i => decide ((s.quire (4 * c + i)).slip = some n))
    if all.isEmpty then 0 else SMap.get 0 s.pwr.meas c * own.length / all.length)).foldl (· + ·) 0

/-- LIMITER_WINDOW (R525): the sum of the domains' power and the power of each cluster, in mW. -/
def execLimiterWindow (total : BitVec 32) (clusters : List (BitVec 32)) (s : State) : Host.Outcome State Fault Refusal :=
  let t := total.toNat
  let now := s.tim.systime
  let s := s.setReg (pwrB + 0x30) (BitVec.ofNat 64 t)
  let s := s.modPwr (fun p => { p with meas := SMap.putAll 0 [] 0 ((clusters.take 17).map (·.toNat)) })
  let s := s.modPwr (fun p => { p with
    shares := (s.slips.keysWhere (fun _ x => decide (x.state ≠ 0))).foldl (fun m n => SMap.upd [] m n (fun l => (s.slipPower n :: l).take 100)) p.shares })
  let above := decide (s.powerLimit < t)
  let below := decide (100 * t < 95 * s.powerLimit)
  let s := s.modPwr (fun p => { p with excess := if above then p.excess + 1 else 0, under := if below then some (p.under.getD now) else none })
  .next (if 2 ≤ s.pwr.excess then s.limiterActs
  else if s.pwr.under.any (fun u => decide (u + 1000000 ≤ now)) then s.limiterLifts else s)

/-! ## The governor (R526, R527) -/

/-- The highest step of a cluster's active quires, and of those in EXACT mode. -/
def State.highStep (s : State) (c : Nat) : Nat :=
  (((List.range 4).filter (fun i => decide (s.qState (4 * c + i) = 1))).map (fun i => s.step (4 * c + i))).foldl max 0
def State.exactQuires (s : State) (c : Nat) : List Nat :=
  ((List.range 4).map (fun i => 4 * c + i)).filter (fun q => decide (s.qState q = 1) && !(s.quire q).adaptive && (s.quire q).slip.isSome)

/-- V(s) in mV. -/
def stepMv (k : Nat) : Nat := 600 + 10 * k

/-- The regulator's setting: the governor's, but never below the EXACT voltage of an EXACT quire; else that of the highest step. -/
def State.clusterMv (s : State) (c : Nat) : Nat :=
  let e := ((s.exactQuires c).map (fun q => stepMv (s.step q))).foldl max 0
  match SMap.get none s.pwr.mv c with
  | some v => max v e
  | none => stepMv (s.highStep c)

/-- EXACT and ADAPTIVE quires in one cluster. -/
def State.clusterShared (s : State) (c : Nat) : Bool :=
  !(s.exactQuires c).isEmpty && (List.range 4).any (fun i => s.qState (4 * c + i) = 1 && (s.quire (4 * c + i)).adaptive)

/-- Move the voltage of the clusters that hold quires of a slipcase and none in EXACT mode, within 600 to 900 mV. -/
def State.moveMv (s : State) (qs : List Nat) (f : Nat → Nat) : State :=
  (((qs.map (· / 4)).eraseDups).filter (fun c => (s.exactQuires c).isEmpty)).foldl (fun s c =>
    let v := min 900 (max 600 (f (s.clusterMv c)))
    s.modPwr (fun p => { p with mv := SMap.put none p.mv c (some v) })) s

/-- Replays above ALLOW in the latest window of a quire of the slipcase, and at most a quarter of ALLOW in all of them. -/
def State.replaysOver (s : State) (qs : List Nat) : Bool := qs.any (fun q => (s.quire q).winOver)
def State.replaysLow (s : State) (qs : List Nat) : Bool := qs.all (fun q => decide (4 * (s.quire q).winReplays ≤ s.allow q))

/-- The slipcase's power share is exceeded. -/
def State.shareOver (s : State) (n : Nat) : Bool := decide ((s.slip n).powerMw ≠ 0 ∧ (s.slip n).powerMw < s.slipPower n)

/-- The first row of R527 that holds; GRIND for replays above ALLOW is raised at the end of their window (R196). -/
def State.govern (s : State) (n : Nat) : State :=
  let p := s.slip n
  let qs := p.quires
  let mw := s.slipPower n
  if p.powerMw = 0 then
    let s := qs.foldl (fun s q => if s.held q then s else s.modQuire q (fun x => { x with target := 20, curStep := min x.curStep 20 })) s
    s.modPwr (fun w => { w with mv := (qs.map (· / 4)).foldl (fun m c => SMap.put none m c none) w.mv })
  else if p.powerMw < mw then
    let s := qs.foldl (fun s q => if (s.quire q).contractStep < (s.quire q).target then s.modQuire q Quire.lowerTarget else s) s
    (s.raiseGrinds (fun m => m = n)).bump (pwrB + 0x230)
  else if 10 * mw < 9 * p.powerMw ∧ s.replaysLow qs ∧ !s.replaysOver qs then
    let s := qs.foldl (fun s q => if s.held q then s else s.modQuire q (fun x => { x with target := min 24 (x.target + 1) })) s
    (s.moveMv qs (· - 5)).bump (pwrB + 0x228)
  else if s.replaysOver qs then
    (s.moveMv qs (· + 10)) |> fun s => qs.foldl (fun s q => s.modQuire q (fun x => { x with winOver := false })) s
  else s

/-- GOVERNOR_WINDOW (R527): once per 100 µs for an ADAPTIVE slipcase. -/
def execGovernorWindow (slip : BitVec 6) (s : State) : Host.Outcome State Fault Refusal :=
  .next (if (s.slip slip.toNat).state ≠ 0 ∧ (s.slip slip.toNat).adaptive then s.govern slip.toNat else s)

/-- Graphs of a quire. -/
def State.graphsOf (s : State) (q : Nat) : List Nat :=
  (s.graphs.filter (fun e => e.2.exist && decide (e.2.state = 1) && e.2.quires.contains q)).map (·.1)

/-- GRIND of an ADAPTIVE quire's graphs at the end of a replay window (R196); the counts of deltas sent begin again. -/
def State.windowGrind (s : State) (q : Nat) (excess low : Bool) : State :=
  let gs := s.graphsOf q
  let s := if excess then gs.foldl State.grindRaise s else if low then gs.foldl State.grindLower s else s
  gs.foldl (fun s g => if (s.graph g).quires.head? = some q then s.modDelta g (fun d => { d with sent := [] }) else s) s

/-- REPLAY_WINDOW_END (R139): a window above ALLOW reports BUDGET_EXCEEDED in EXACT mode, and the power governor in ADAPTIVE mode. -/
def execReplayWindowEnd (q : BitVec 7) (s : State) : Host.Outcome State Fault Refusal :=
  let n := q.toNat
  let x := s.quire n
  .next (if s.tim.tick < x.winStart + s.winTicks n then s
  else
    let excess := decide (s.allow n < x.winReplays)
    let low := decide (4 * x.winReplays ≤ s.allow n) && !(match x.slip with | some m => s.shareOver m | none => false)
    let s := s.modQuire n (fun x => { x with winStart := s.tim.tick, winReplays := 0, winOver := excess && x.adaptive })
    let s := if excess then s.quireConFault n 2 else s
    if x.adaptive then s.windowGrind n excess low
    else if excess then (s.orReg (qrB n + 0xC) 8).fault n 5 (x.slip.getD 0xFF) else s)

/-! ## The crystal (R521) -/

/-- CRYSTAL_CHECK: how far the crystal is off, in ppm, whether it runs, and whether the time oscillator does. A crystal that has been dropped
stays dropped until power-on; with XTAL_BYP there is none to check. -/
def execCrystalCheck (ppm : BitVec 32) (running timeOk : Bool) (s : State) : Host.Outcome State Fault Refusal :=
  let byp := s.pwr.straps.testBit 3
  let good := running && decide (ppm.toNat ≤ 1000)
  let dropped := s.rfld (pwrB + 4) 2 2 = 1
  .next (if !timeOk then (if s.tim.stopped then s else (s.modTim (fun t => { t with stopped := true })).fault 0x72 0x15 0xFF)
  else if byp then s
  else if s.pwr.xtalOk ∧ !good then ((s.modPwr (fun p => { p with xtalOk := false })).orReg (pwrB + 4) 4).fault 0x72 0x15 0xFF
  else if !s.pwr.xtalOk ∧ good ∧ !dropped then s.modPwr (fun p => { p with xtalOk := true })
  else s)

/-! ## The Power class (Table 14.11) -/

/-- POWER_POLICY: IDLE = 0 brews every sleeping domain whose armed-idle state is RETAIN (R532). -/
def State.powerPolicy (s : State) (idle : Nat) : Res :=
  if 2 < idle then .err s stBadParam 0xF025
  else if idle = 2 ∧ s.contracts.any (fun e => e.2.exist && decide (e.2.state ≠ 2)) then .err s stNotPermitted 1
  else
    let s := s.modPwr (fun p => { p with idle := idle })
    .ok (if idle = 0 then s.brew ((List.range 48).filter (fun d => decide (s.idleDom d = 1))) else s)

def execPowerPolicy (h : CmdRef) (idle : BitVec 8) (s : State) : Host.Outcome State Fault Refusal :=
  .next (s.cmd h 0x0D01 (.powerPolicy h idle) (fun s _ => s.powerPolicy idle.toNat))

/-- GOVERNOR_SET. -/
def State.governorSet (s : State) (n mw : Nat) : Res := .ok (s.modSlip n (fun p => { p with powerMw := mw }))

def execGovernorSet (h : CmdRef) (mw : BitVec 32) (s : State) : Host.Outcome State Fault Refusal :=
  .next (s.cmd h 0x0D02 (.governorSet h mw) (fun s f => s.governorSet f.objId.toNat mw.toNat))

/-- The mean of a list, rounded towards −∞. -/
def meanInt (l : List Int) : Int := if l.isEmpty then 0 else l.foldl (· + ·) 0 / (l.length : Int)

/-- What POWER_QUERY answers: PF0 the device's power and temperature; a VF its slipcase's share over 10 ms in steps of 250 mW, and the
temperature over 1 s to the nearest 5 °C (R411). -/
def State.powerQuery (s : State) (f : Nat) : Nat × Int :=
  match f, s.fnSlip f with
  | 0, _ => ((s.reg (pwrB + 0x30)).toNat, (s.pwr.tempC + 5) / 10)
  | _, sl =>
    let l := match sl with | some n => SMap.get [] s.pwr.shares n | none => []
    let mw := if l.isEmpty then 0 else l.foldl (· + ·) 0 / l.length
    let t := if s.pwr.temps.isEmpty then s.pwr.tempC else meanInt (s.pwr.temps.map (·.2))
    (mw / 250 * 250, (t + 25) / 50 * 5)

def execPowerQuery (h : CmdRef) (s : State) : Host.Outcome State Fault Refusal :=
  .next (s.cmd h 0x8D01 (.powerQuery h) (fun s _ =>
    let r := s.powerQuery h.fn.toNat
    .ok s (result [(r.1, 4), (unsig 16 r.2, 2)])))

end Sys2Proof.Machine
end

