-- ==== Sys2Proof/Machine/TimeCmd.lean ====
section
/-! DEFINITION. The Time class (R41, R55, R56, R384), IDENTIFY, the Port class, and the closing of ticks (R46). -/
namespace Sys2Proof.Machine

/-! ## IDENTIFY (R380) -/

/-- IDENTIFY: SLIPCASE 0xFF and ASSIGNED 0 for a function without one. -/
def execIdentify (h : CmdRef) (s : State) : Host.Outcome State Fault Refusal :=
  .next (s.cmd h 1 (.identify h) (fun s _ =>
    let sl := s.fnSlip h.fn.toNat
    .ok s (result [(h.fn.toNat, 2), (sl.getD 0xFF, 1), (sl.isSome.toNat, 1), (s.sec.active.version.toNat, 4), (s.devId, 2), (s.sec.life, 1)])))

/-! ## Time -/

/-- A member of a binding that is not its time root. -/
def State.follower (s : State) : Bool := s.bind.member && !s.bind.isRoot

/-- TIME_SET_TICK. `farInUse`: the condition holds on another device of the binding. -/
def State.setTick (s : State) (q : Nat) (farInUse : Bool) : Res :=
  if q = 0 ∨ 64 < q then .err s stBadParam 0xF025
  else if s.follower then .err s stNotPermitted 2
  else if s.tickInUse || (farInUse && s.bind.member) then .err s stNotPermitted 1
  else .ok (s.newTickLen q)

/-- What staging a time command on the root of a binding sends down the tree, for the same tick on every member (R41, R55, R464). -/
def State.stagedDown (s t : State) (tick : Nat) (op : MarkerOp) : State :=
  if s.staged.length < t.staged.length ∧ s.bind.member ∧ s.bind.isRoot then t.sendDown (.timeMarker tick op) else t

/-- The full tick of a packet's AT_TICK. -/
def State.atTickOf (s : State) (h : CmdRef) : Nat :=
  match s.fetchedOf h with
  | some f => s.tim.tick + (s.lead f.atTick).getD 0
  | none => s.tim.tick

def execTimeSetTick (h : CmdRef) (q : BitVec 8) (farInUse : Bool) (s : State) : Host.Outcome State Fault Refusal :=
  .next (s.stagedDown (s.cmd h 0x0501 (.timeSetTick h q farInUse) (fun s _ => s.setTick q.toNat farInUse)) (s.atTickOf h) (.tickLen q.toNat))

/-- TIME_ACCEPT_JUMP: on the root the refused jump moves TU_EPOCH_SRC (R55); elsewhere SYSTIME and TICK_COUNT step to the root's (R56).
`rootSys` and `rootTick` are the root's values at AT_TICK. -/
def State.acceptJump (s : State) (rootSys rootTick : Nat) : Res :=
  let p := s.reg (tuB + 0x38)
  let root := s.rfld tuStat 13 13 = 1
  if s.rfld tuStat 12 12 = 0 then .err s stBadParam 3
  else if root then
    let old := s.reg (tuB + 0x30)
    let s := ((s.setReg (tuB + 0x30) (old + p)).setRfld tuStat 12 12 0).markStreams 2 [old.toNat, (old + p).toNat]
    .ok (s.setTimeState 1) (result [(p.toNat, 8)])
  else if s.graphs.any (fun e => e.2.exist && decide (e.2.state = 1)) then .err s stNotPermitted 4
  else
    let step := (rootSys : Int) - (s.tim.systime : Int)
    let s := (s.portsAt rootTick).modTim (fun t => { t with systime := rootSys, tick := rootTick, kTick := rootTick, bK := rootSys, bigRun := 0, smallRun := 0 })
    .ok ((s.setRfld tuStat 12 12 0).setTimeState 1) (result [(unsig 64 step, 8)])

def execTimeAcceptJump (h : CmdRef) (rootSys rootTick : BitVec 64) (s : State) : Host.Outcome State Fault Refusal :=
  let e := s.reg (tuB + 0x30)
  .next (s.stagedDown (s.cmd h 0x0502 (.timeAcceptJump h rootSys rootTick) (fun s _ => s.acceptJump rootSys.toNat rootTick.toNat)) (s.atTickOf h)
    (.epochChange e.toNat (e + s.reg (tuB + 0x38)).toNat))

/-- TIME_QUERY. -/
def execTimeQuery (h : CmdRef) (s : State) : Host.Outcome State Fault Refusal :=
  .next (s.cmd h 0x8501 (.timeQuery h) (fun s _ =>
    .ok s (result [(s.tim.systime, 8), (s.ets, 4), (s.timeState, 1), (s.rfld tuStat 15 12, 1)])))

/-! ## The Port class (R77, R384) -/

/-- Before a change of a port's mask at the present tick (R77): packets of earlier ticks keep the mask that stands. -/
def State.keepHot (s : State) (n : Nat) : State :=
  ([n, n + 1].filter (fun p => decide (p < 16))).foldl (fun s p => s.modHop p (fun h => { h with hotWas := h.hotWas.filter (fun e => decide (h.nextEnd < e.1)) ++ [(s.tim.tick, h.hot)] })) s

/-- A change of a port's mask at its tick: where it succeeds, what stood is kept for the ticks before. -/
def State.hotStaged (s : State) (n : Nat) (run : State → Res) : Res :=
  if ((run s).fin.map (·.1)) = some stOk then run (s.keepHot n) else run s

/-- PORT_HOTMASK_LOAD: `mask` lists the addresses whose bits are set in the 262,144 bytes. -/
def State.hotLoad (s : State) (n : Nat) (g : Sgl) (mask : List Nat) : Res :=
  if 16 ≤ n ∨ !s.portEn n then .err s stBadParam 1
  else match sglErr g 262144 with
  | some d => .err s stBadParam d
  | none => .ok (s.modHop n (fun h => { h with hot := (mask.filter (fun a => decide (a < 2097152))).foldl (fun m a => SMap.put false m a true) [] }))

def execPortHotmaskLoad (h : CmdRef) (port : BitVec 8) (sgl : Sgl) (mask : List Nat) (s : State) : Host.Outcome State Fault Refusal :=
  .next (s.cmd h 0x0401 (.portHotmaskLoad h port sgl mask) (fun s _ => s.hotLoad port.toNat sgl mask))

/-- Pixels of a port's backing: that of both regions under the first port of a pair (R75, R93). -/
def State.backing (s : State) (n : Nat) : Nat := if s.paired n ∧ n % 2 = 0 then 4194304 else 2097152

/-- One edit: the mask value in bit 31, the linear address in bits [21:0]. -/
def State.hotEdit1 (s : State) (n : Nat) (e : BitVec 32) : State :=
  let a := e.toNat % 2 ^ 22
  let p := if a < 2097152 then (n, a) else (n + 1, a - 2097152)
  s.modHop p.1 (fun h => { h with hot := SMap.put false h.hot p.2 (e.getLsbD 31) })

/-- PORT_HOTMASK_EDIT. -/
def State.hotEdit (s : State) (n : Nat) (l : List (BitVec 32)) : Res :=
  if l.isEmpty ∨ 64 < l.length ∨ l.any (fun e => decide (bitsN e.toNat 30 22 ≠ 0)) then .err s stBadParam 0xF025
  else if 16 ≤ n ∨ !s.portEn n then .err s stBadParam 1
  else if l.any (fun e => decide (s.backing n ≤ e.toNat % 2 ^ 22)) then .err s stBadParam 2
  else .ok (l.foldl (fun s e => s.hotEdit1 n e) s)

def execPortHotmaskEdit (h : CmdRef) (port : BitVec 8) (entries : List (BitVec 32)) (s : State) : Host.Outcome State Fault Refusal :=
  .next (s.cmd h 0x0402 (.portHotmaskEdit h port entries) (fun s _ => s.hotEdit port.toNat entries))

/-- PORT_EVRING_BIND: an EVENT queue of PF0 or of a VF of the port's slipcase. -/
def State.evringBind (s : State) (n f q : Nat) : Res :=
  if 16 ≤ n ∨ !s.portEn n then .err s stBadParam 1
  else if f ≠ 0 ∧ (s.fnSlip f).isSome ∧ s.fnSlip f ≠ some (s.portSlip n) then .err s stNotPermitted 0xF024
  else if 4096 ≤ f ∨ !(s.qp (f * 256 + q)).valid ∨ (s.qp (f * 256 + q)).kind ≠ 3 then .err s stBadParam 3
  else .ok (s.modHop n (fun h => { h with
    evq := some (f, q), chans := h.chans.filter (fun c => decide (c.consumer ≠ .evring)) ++ [{ consumer := .evring, endSent := h.nextEnd }] }))

def execPortEvringBind (h : CmdRef) (port : BitVec 8) (func : BitVec 16) (q : BitVec 8) (s : State) : Host.Outcome State Fault Refusal :=
  .next (s.cmd h 0x0403 (.portEvringBind h port func q) (fun s _ => s.evringBind port.toNat func.toNat q.toNat))

/-! ## Closed ticks (R46) -/

/-- The ticks below which each channel that feeds a graph has delivered its tick-end marks. -/
def State.feedMarks (s : State) (g : Nat) : List Nat :=
  let cs := s.hops.flatMap (fun e => e.2.chans) ++ s.sfms.flatMap (fun e => e.2.crnChans ++ e.2.flwChans)
  (cs.filter (fun c => c.ofGraph g)).map (·.endSent) ++ (s.graph g).streams.map (fun n => (s.strm n).closed) ++
    s.ascu.chans.flatMap (fun e => (e.2.sinks.filter (fun z => decide (z.graph = g) && z.quire.isSome)).map (fun z => (if z.rist then e.2.rist else e.2.lungo).closed))

/-- TICK_CLOSED: a running graph finds every tick closed whose marks all its channels have delivered; without channels, every past one. -/
def execTickClosed (g : BitVec 32) (s : State) : Host.Outcome State Fault Refusal :=
  let n := g.toNat
  .next (if (s.graph n).exist ∧ (s.graph n).state = 1 then
    s.modGraph n (fun x => { x with closed := max x.closed ((s.feedMarks n).foldl min s.tim.tick) })
  else s)

end Sys2Proof.Machine
end

