-- ==== Sys2Proof/Machine/Effect.lean ====
section
/-! DEFINITION. Staged commands taking effect (R48, R355, R374), and the tick boundary (R40, R46, R80). -/
namespace Sys2Proof.Machine

/-! ## Staged commands -/

/-- x comes before y in class 5 (Table 2.4): PF0 first, then VFs in rising number; the higher queue number first. -/
def stagedFirst (x y : Staged) : Bool :=
  decide (x.ref.fn < y.ref.fn) || (decide (x.ref.fn = y.ref.fn) && decide (y.ref.qp < x.ref.qp))

/-- The staged command that takes effect next: the first, by tick and then by class 5, whose tick has begun; within a queue they stand
in the order of submission. -/
def State.nextStaged (s : State) : Option Staged :=
  (s.staged.filter (fun x => decide (x.tick ≤ s.tim.tick))).foldl (fun b x =>
    match b with
    | none => some x
    | some y => if x.tick < y.tick || (decide (x.tick = y.tick) && stagedFirst x y) then some x else some y) none

/-- A command's execution, for the commands that may be staged. `farBad`: where the outcome depends on another device of the binding,
that device stands against it (log entry 3). -/
def runStaged (c : Instr) (farBad : Bool) : Option (Nat × (State → Fetched → Res)) :=
  match c with
  | .deviceReset _ confirm => some (5, fun s _ => s.deviceResetCmd confirm)
  | .partitionResize h n hoppers regions => some (0x0102, fun s f => s.partResize h f.objId.toNat n.toNat hoppers regions)
  | .partitionHandover _ slot scrubUs => some (0x0103, fun s f => s.handover f.objId.toNat slot.toNat scrubUs.toNat)
  | .partitionReset h => some (0x0105, fun s f => s.partReset h f.objId.toNat)
  | .modeSet _ mode => some (0x0108, fun s f => s.modeSet f.objId.toNat mode.toNat)
  | .graphStart h => some (0x0203, fun s f => s.graphStart h f.objId.toNat)
  | .graphStop _ => some (0x0204, fun s f => s.graphStop f.objId.toNat)
  | .contractAdmit h d srcs plan => some (0x0301, fun s _ => s.conAdmit h d srcs plan none)
  | .contractRelease h arbs => some (0x0302, fun s f => s.conRelease h f.objId.toNat arbs)
  | .portHotmaskLoad _ port sgl mask => some (0x0401, fun s _ => s.hotStaged port.toNat (fun s => s.hotLoad port.toNat sgl mask))
  | .portHotmaskEdit _ port entries => some (0x0402, fun s _ => s.hotStaged port.toNat (fun s => s.hotEdit port.toNat entries))
  | .timeSetTick _ q _ => some (0x0501, fun s _ => s.setTick q.toNat farBad)
  | .timeAcceptJump _ rootSys rootTick => some (0x0502, fun s _ => s.acceptJump rootSys.toNat rootTick.toNat)
  | .fusionXformSet h slot words dram sgl meshes => some (0x0602, fun s f => s.xformSet h f slot.toNat words dram sgl meshes)
  | .trackClear _ set => some (0x0603, fun s f => s.trackClear f set.toNat)
  | .spikeRouteSet h qi ents => some (0x0701, fun s f => s.spikeRoute h f qi.toNat ents)
  | .spikeWeights h qi addr bytes sgl data => some (0x0702, fun s f => s.spikeWeights h f qi.toNat addr.toNat bytes.toNat sgl data)
  | .auxChanEnable h c en => some (0x0803, fun s _ => s.auxEnable h c.toNat en.toNat)
  | .keySlotErase h slot => some (0x0904, fun s _ => s.keyErase h slot.toNat)
  | .fwCommit _ => some (0x0906, fun s _ => s.fwCommit)
  | .katIntervalSet _ ms => some (0x0B01, fun s _ => s.katSet ms.toNat)
  | .faultInject _ source => some (0x0B04, fun s _ => s.injectFault source.toNat)
  | .streamClose h n => some (0x0C03, fun s _ => s.streamClose h n.toNat)
  | .powerPolicy _ idle => some (0x0D01, fun s _ => s.powerPolicy idle.toNat)
  | .governorSet _ mw => some (0x0D02, fun s f => s.governorSet f.objId.toNat mw.toNat)
  | _ => none

/-- A staged command leaves the queue of staged commands and takes effect. -/
def State.effect (s : State) (x : Staged) (farBad : Bool) : State :=
  let s := { s with staged := s.staged.erase x }
  match runStaged x.cmd farBad with
  | some (opc, run) => s.staged1 x.ref opc run
  | none => s

/-- STAGED_COMMAND_EFFECT (R48, R355): the next staged command whose tick has begun. -/
def execStagedCommandEffect (farBad : Bool) (s : State) : Host.Outcome State Fault Refusal :=
  .next (match s.nextStaged with
  | some x => s.effect x farBad
  | none => s)

/-- What of the present tick is still to be done when it ends: its staged commands and its snapshot. -/
def State.leftovers (s : State) : Nat → State
  | 0 => s
  | fuel + 1 =>
    match s.nextStaged with
    | some x => (s.effect x false).leftovers fuel
    | none => s.snapTake

/-! ## The tick boundary -/

/-- The tick-end marks of a region's derived channels: the Corner and Flow Units have done every item before. -/
def State.derivedMarks (s : State) (r : Nat) : State :=
  let f := s.sfm r
  let e := (s.hop (s.cfgPort r)).nextEnd
  if f.crnChans.isEmpty ∧ f.flwChans.isEmpty then s
  else
    let tc := (f.crnItems.map (·.tick)).foldl min e
    let tf := (f.flwItems.map (·.tick)).foldl min e
    s.modSfm r (fun f => { f with crnChans := f.crnChans.map (fun c => s.markTo (c.placeGaps tc) tc),
                                  flwChans := f.flwChans.map (fun c => s.markTo (c.placeGaps tf) tf) })

/-- HOP_REFR and HOP_BA of every port come into force (R80); items of earlier ticks still see those before. -/
def State.loadFilters (s : State) : State :=
  (List.range 16).foldl (fun s n =>
    let a := s.reg (hopB n + 0x20)
    let b := s.reg (hopB n + 0x24)
    s.modHop n (fun h => { h with
      refr := a, ba := b,
      was := h.was.filter (fun e => decide (h.nextEnd < e.1 ∧ e.1 < s.tim.tick)) ++ (if h.refr = a ∧ h.ba = b then [] else [(s.tim.tick, h.refr, h.ba)]) })) s

/-- Every slewed offset that is gone ends the slewing (R53, Table 2.10). -/
def State.slewDone (s : State) : State :=
  if s.timeState = 2 ∧ s.tim.slewEnd ≤ s.tim.systime then s.setTimeState 1 else s

/-- Cycles of the tick that ended, in quires below CONTRACT_STEP (R139). -/
def State.belowCycles (s : State) : State :=
  (s.quires.filter (fun e => decide (s.qState e.1 = 1) && s.dom (25 + e.1 / 4) = 2 && s.below e.1)).foldl (fun s e =>
    (s.bump (qrB e.1 + 0x628) ((400 + 50 * s.step e.1) * s.tickLen / 1000)).quireConFault e.1 1) s

/-- Contracts that have ended and have no record left to check. -/
def State.dropEnded (s : State) : State :=
  { s with contracts := s.contracts.keep (fun c x => x.exist || s.dues.any (fun d => decide (d.con = c))) }

/-- TICK_COUNT and SYSTIME at the next boundary (R40). -/
def State.advance (s : State) : State :=
  let t := s.tim.tick + 1
  s.modTim (fun m => { m with tick := t, systime := m.bK + (t - m.kTick) * (250 * m.tickQ) })

/-- Graphs that STOP of a SAFE_IN request ends at this tick (R490). -/
def State.safeStops (s : State) : State :=
  (s.graphs.keysWhere (fun _ g => g.exist && decide (g.state = 1) && decide (g.stopAfter = some s.tim.tick))).foldl State.stopGraph s

/-- What begins with a tick: a safe stop (class 7), markers (class 6), then releases, broadcasts and a binding reset, filters, tick-end marks, admissions and the
reference ticks of fusion jobs. -/
def State.tickBegins (s : State) : State :=
  let s := ((s.slewDone).safeStops).markersAt
  let s := s.loadFilters
  let s := (List.range 16).foldl State.portMarks s
  let s := (List.range 16).foldl State.derivedMarks s
  let s := ((s.barriersAt).castsAt).commitAdmits
  (s.bindResetAt).fusionDues s.tim.tick

/-- TICK_BOUNDARY (R40). The time oscillator stopped, there is none (R521); in WARMER_ONLY only time goes on (R522). -/
def State.tickBoundary (s : State) : State :=
  if s.tim.stopped then s
  else if s.pwr.down then (s.advance).railRetry
  else
    let s := s.leftovers (s.staged.length + 1)
    let s := (s.belowCycles).advance
    ((s.tickBegins).dropEnded).deepUpdate

def execTickBoundary (s : State) : Host.Outcome State Fault Refusal := .next s.tickBoundary

end Sys2Proof.Machine
end

