-- ==== Sys2Proof/Machine/Ethernet.lean ====
section
/-! DEFINITION. Ethernet (R547–R552): frames, point-cloud reassembly and egress. -/
namespace Sys2Proof.Machine

/-- XIO_ETH_CFGe. -/
def ethCfg (e : Nat) : Nat := xioB + 0x10 + 8 * e

/-- ETH_DROP_e. -/
def State.ethDrop (s : State) (e : Nat) : State := s.bump (xioB + 0x480 + 8 * e)

/-- A frame's VLAN is wrong: with VLAN_EN, another tag than VLAN_ID, or none. -/
def State.vlanBad (s : State) (e : Nat) (tag : Option (BitVec 12)) : Bool :=
  s.rfld (ethCfg e) 59 59 = 1 && decide (tag.map (·.toNat) ≠ some (s.rfld (ethCfg e) 58 47))

/-- ETH_FRAME (R547, R552): a frame of an enabled port with its length, FCS state and tag. FCS errors, runts, over-long frames, wrong VLANs
and PTP from outside the domain are dropped and counted; address resolution for the port is answered; IP fragments, ICMP and pause are
dropped without a word; PTP and UDP pass on to SYNC_RECEIVED and POINT_CLOUD_DATAGRAM. -/
def execEthFrame (e : BitVec 1) (fcsBad : Bool) (len : BitVec 16) (tag : Option (BitVec 12)) (b : EthBody) (s : State) : Host.Outcome State Fault Refusal :=
  let n := e.toNat
  .next (if s.rfld (ethCfg n) 63 63 ≠ 1 then s
  else if fcsBad then s.bump (xioB + 0x478)
  else if len.toNat < 64 ∨ 9216 < len.toNat ∨ s.vlanBad n tag then s.ethDrop n
  else match b with
  | .resolve own => if own then s.emit .ethernet [n] [0x0806, s.rfld (ethCfg n) 31 0] else s
  | .ptp d => if d.toNat = s.rfld (xioB + 0x20 + 8 * n) 55 48 then s else s.ethDrop n
  | .ipFragment | .icmp | .pause | .udp | .other => s)

/-! ## Point-cloud ingress (R550) -/

/-- XIO_PCL_k takes datagrams of a port, a UDP port and a source. -/
def State.pclTakes (s : State) (k e port src : Nat) : Bool :=
  let c := xioB + 0x100 + 8 * k
  decide (k < 16) && s.rfld c 63 63 = 1 && s.rfld c 62 62 = e && s.rfld c 47 32 = port && (s.rfld c 31 0 = 0 || s.rfld c 31 0 = src)

/-- The sample header of Table 11.4. -/
def sampleHdrOf (b : List (BitVec 8)) : SampleHdr :=
  let f := fun (o n : Nat) => leVal ((b.drop o).take n)
  { slot := BitVec.ofNat 8 (f 0 1), kind := BitVec.ofNat 8 (f 1 1), fmt := BitVec.ofNat 8 (f 2 1), flags := BitVec.ofNat 8 (f 3 1),
    count := BitVec.ofNat 32 (f 4 4), validNs := BitVec.ofNat 64 (f 8 8), ageNs := BitVec.ofNat 64 (f 0x10 8),
    w := BitVec.ofNat 16 (f 0x18 2), h := BitVec.ofNat 16 (f 0x1A 2), c := BitVec.ofNat 16 (f 0x1C 2),
    rsvdNZ := decide (f 0x1E 2 ≠ 0 ∨ f 0x28 16 ≠ 0 ∨ f 3 1 / 2 ≠ 0), seq := BitVec.ofNat 64 (f 0x20 8), bytes := BitVec.ofNat 64 (f 0x38 8) }

/-- Fragments put at their offsets, from the offset given on; none where they leave a hole. -/
def joinFrags : Nat → Nat → List (Nat × Nat × List (BitVec 8)) → Option (List (BitVec 8))
  | 0, _, l => if l.isEmpty then some [] else none
  | n + 1, o, l =>
    if l.isEmpty then some []
    else match l.find? (fun f => decide (f.2.1 = o) && !f.2.2.isEmpty) with
    | some f => (joinFrags n (o + f.2.2.length) (l.filter (fun g => decide (g.1 ≠ f.1)))).map (f.2.2 ++ ·)
    | none => none

/-- A complete sample goes to the FU as a FUSION_SAMPLE_PUT of the entry's slipcase. -/
def State.pclDeliver (s : State) (k : Nat) (r : Reasm) (arrival : Nat) : State :=
  let c := xioB + 0x100 + 8 * k
  let s := s.brew [42]
  match joinFrags r.frags.length 0 r.frags with
  | none => s.sampleFault
  | some b =>
    let h := sampleHdrOf b
    if b.length < 64 ∨ h.slot.toNat ≠ s.rfld c 53 48 then s.sampleFault
    else match s.samplePut (s.rfld c 61 56) h.slot.toNat h (b.drop 64) arrival with
    | .taken s => s.bump (xioB + 0x420)
    | .faulty s => s
    | .excess s => s

/-- Drop a sample under reassembly. -/
def State.dropReasm (s : State) (k seq : Nat) : State :=
  (s.modXio (fun x => { x with reasm := x.reasm.filter (fun r => !(r.entry = k && r.seq = seq)) })).bump (xioB + 0x428)

/-- Two fragments overlap. -/
def fragOver (a b : Nat × Nat × List (BitVec 8)) : Bool :=
  decide (a.1 = b.1) || decide (a.2.1 < b.2.1 + b.2.2.length ∧ b.2.1 < a.2.1 + a.2.2.length)

/-- One fragment of an entry's sample. -/
def State.pclFrag (s : State) (k : Nat) (d : Datagram) (arrival : Nat) : State :=
  let seq := d.seq.toNat
  let fr := (d.frag.toNat, d.offset.toNat, d.data)
  match s.xio.reasm.find? (fun r => r.entry = k && r.seq = seq) with
  | some r =>
    if d.nfrag.toNat ≠ r.nfrag ∨ r.nfrag ≤ d.frag.toNat ∨ r.frags.any (fragOver fr) then s.dropReasm k seq
    else
      let r := { r with frags := r.frags ++ [fr] }
      if r.frags.length = r.nfrag then
        (s.modXio (fun x => { x with reasm := x.reasm.filter (fun y => !(y.entry = k && y.seq = seq)) })).pclDeliver k r arrival
      else s.modXio (fun x => { x with reasm := x.reasm.map (fun y => if y.entry = k ∧ y.seq = seq then r else y) })
  | none =>
    if d.nfrag.toNat ≤ d.frag.toNat ∨ 4 ≤ (s.xio.reasm.filter (fun r => decide (r.entry = k))).length then s.bump (xioB + 0x428)
    else
      let r : Reasm := { entry := k, seq := seq, nfrag := d.nfrag.toNat, since := s.tim.systime, frags := [fr] }
      if r.nfrag = 1 then s.pclDeliver k r arrival else s.modXio (fun x => { x with reasm := x.reasm ++ [r] })

/-- POINT_CLOUD_DATAGRAM (R549, R550): a datagram at a port, with the instant of its last byte. A bad MAGIC or a reserved KIND is dropped
and counted; one that no entry takes is ignored. -/
def execPointCloudDatagram (e : BitVec 1) (d : Datagram) (arrival : BitVec 64) (s : State) : Host.Outcome State Fault Refusal :=
  let k := d.entry.toNat
  .next (if s.rfld (ethCfg e.toNat) 63 63 ≠ 1 then s
  else if d.magic ≠ 0x4E45 ∨ (d.kind ≠ 1 ∧ d.kind ≠ 2) then s.ethDrop e.toNat
  else if d.kind = 1 ∧ s.pclTakes k e.toNat d.udpPort.toNat d.srcIp.toNat then s.pclFrag k d arrival.toNat
  else s)

/-- PCL_REASM_DROP (R550): 2 ms after its first fragment. -/
def execPclReasmDrop (s : State) : Host.Outcome State Fault Refusal :=
  .next ((s.xio.reasm.filter (fun r => decide (r.since + 2000000 ≤ s.tim.systime))).foldl (fun s r => s.dropReasm r.entry r.seq) s)

/-! ## Egress (R551) -/

/-- The records of an egress entry behind its first. -/
def dropFirst (k : Nat) : List (Nat × Nat × List Nat) → List (Nat × Nat × List Nat)
  | [] => []
  | x :: r => if x.1 = k then r else x :: dropFirst k r

/-- EGRESS_DATAGRAM: the first record that waits at an entry leaves in KIND RECORD datagrams, given as one emission with the header of
Table 21.6; how many fragments carry it is a free value. One of a slipcase sealed meanwhile is withheld. -/
def execEgressDatagram (k : BitVec 4) (s : State) : Host.Outcome State Fault Refusal :=
  let n := k.toNat
  let c := xioB + 0x200 + 16 * n
  let e := s.rfld c 62 62
  .next (match s.xio.egWait.find? (fun x => decide (x.1 = n)) with
  | none => s
  | some r =>
    let s := s.modXio (fun x => { x with egWait := dropFirst n x.egWait, egBytes := SMap.upd 0 x.egBytes e (· - r.2.1) })
    if s.rfld c 63 63 ≠ 1 then s
    else if s.sealed (s.rfld c 61 56) then s.bump (xioB + 0x440)
    else
      let seq := SMap.get 0 s.xio.egSeq n
      let (f, s) := s.take
      let s := s.emit .ethernet [e] ([s.rfld (c + 8) 31 0, s.rfld c 31 16, s.rfld c 47 32, 0x4E45, 2, n, seq % 2 ^ 32, f % 65535 + 1, r.2.1] ++ r.2.2)
      (s.modXio (fun x => { x with egSeq := SMap.put 0 x.egSeq n (seq + 1) })).bump (xioB + 0x430))

end Sys2Proof.Machine
end

