-- ==== Sys2Proof/Machine/Forward.lean ====
section
/-! DEFINITION. Messages at a Spine port (R446, R448, R452, Table 17.8): verification, forwarding and delivery, and the remote parts that
do not answer (R377). -/
namespace Sys2Proof.Machine

/-- A message for this device acts as the row of its type does. A request for a contract part needs the plan that its row carries. -/
def State.deliverMsg (s : State) (p : Nat) (m : SpMsg) : State :=
  match m.body with
  | .writeChan .. | .writeDram .. => s.rxWrite p m
  | .spikes _ => s.rxSpikes p m
  | .credit .. => s.rxCredit m
  | .writeError .. => s.rxWriteError p m
  | .fence _ => s.rxFence m
  | .fenceAck .. => s.rxFenceAck m
  | .streamCtl .. => s.rxCtl m
  | .tickMark _ => s.rxTickMark m
  | .timeMarker .. => s.rxMarker p m
  | .globalOp _ => s.rxGlobal p m
  | .summary l => s.rxSummary p l
  | .contract l => if l.head? = some 0 then s else s.rxContract m { wcTicks := 0, restNs := 0, fail := none, partners := [], arbs := [], winNs := 0, parts := [] }
  | .join _ => s.rxJoin p m

/-- A message that is verified and well formed: delivered, or sent on by the route table. -/
def State.forward (s : State) (p : Nat) (m : SpMsg) : State :=
  let r := if m.dst = 0xFFFF then some 4 else s.route m.dst
  match r with
  | none =>
    let s := s.bump (spnB p + 0x168)
    (match m.body with
    | .writeChan .. | .writeDram .. =>
      s.sendTo { dst := m.src, src := s.devId, stream := m.stream, body := .writeError m.seq 8 s.tim.tick }
    | _ => s)
  | some q =>
    if 4 ≤ q then ((s.bump (spnB p + 0x150)).wakeReq linkDoms).deliverMsg p m
    else if m.hops ≤ 1 then (s.bump (spnB p + 0x170)).orReg (spErr p) 32
    else (s.bump (spnB p + 0x158)).sendOn q { m with hops := m.hops - 1 }

/-- MESSAGE_FORWARD: a message at a port that is UP, with whether its tag and counter verify and its TYPE and reserved fields are
well formed. -/
def execMessageForward (p : BitVec 2) (m : SpMsg) (tagOk fieldsOk : Bool) (s : State) : Host.Outcome State Fault Refusal :=
  let n := p.toNat
  .next (if (s.port n).state ≠ 3 then s
  else if !tagOk then s.authFail n
  else
    let s := s.modPort n (fun t => { t with rxCtr := t.rxCtr + 1 })
    if !fieldsOk || !spLenOk m.body then (s.bump (spnB n + 0x160)).orReg (spErr n) 16
    else s.forward n m)

/-! ## Remote silence (R377) -/

/-- How long a part on another device may take, in ns: 20 ms and four times the worst one-way latency, which TICK_LEAD_MAX bounds. -/
def State.silentNs (s : State) : Nat := 20000000 + 4 * s.leadNs

/-- Undo what a command has begun for its remote part. -/
def State.undoRemote (s : State) (h : CmdRef) : State :=
  let s := s.modBind (fun b => { b with
    joinRef := if b.joinRef.any (fun j => decide (j.1 = h)) then none else b.joinRef, bcastRefs := b.bcastRefs.filter (fun e => decide (e.1 ≠ h)),
    snapRef := if b.snapRef = some h then none else b.snapRef })
  let s := { s with streams := SMap.mapAll {} s.streams (fun _ t =>
    if t.openRef = some h then (if t.state = 3 then { t with openRef := none } else {})
    else { t with closeRef := if t.closeRef = some h then none else t.closeRef, fenceRef := if t.fenceRef = some h then none else t.fenceRef }) }
  s.dropAdmits (fun a => decide (a.ref = some h))

/-- The command waits for another device. -/
def State.awaitsFar (s : State) (h : CmdRef) : Bool :=
  s.bind.joinRef.any (fun j => decide (j.1 = h)) || s.bind.bcastRefs.any (fun e => decide (e.1 = h)) || decide (s.bind.snapRef = some h) ||
    s.streams.any (fun e => decide (e.2.openRef = some h) || decide (e.2.closeRef = some h) || decide (e.2.fenceRef = some h)) ||
    s.conAdmits.any (fun a => decide (a.ref = some h) && a.commitAt.isNone)

/-- REMOTE_SILENT: the far replies have not arrived in time. -/
def execRemoteSilent (h : CmdRef) (s : State) : Host.Outcome State Fault Refusal :=
  .next (match s.fetchedOf h with
  | none => s
  | some f => if s.awaitsFar h ∧ f.since + s.silentNs ≤ s.tim.systime then (s.undoRemote h).complete h stTimeout 0xF029 else s)

end Sys2Proof.Machine
end

