-- ==== Sys2Proof/Machine/RegView.lean ====
section
/-! DEFINITION. What the registers read that are computed from the state (the register tables of every chapter). -/
namespace Sys2Proof.Machine

/-- A word of fields (value, lowest bit). -/
def fields (l : List (Nat × Nat)) : Nat := (l.map (fun p => p.1 * 2 ^ p.2)).foldl (· + ·) 0

/-- The n-th 8 bytes of a list. -/
def word64 (l : List (BitVec 8)) (i : Nat) : Nat := leVal ((l.drop (8 * i)).take 8)

/-! ## Functions, slipcases and key slots (Tables 13.10, 15.8, 15.9) -/

/-- FN_ID, FN_STATUS and FN_OVF. -/
def State.viewFn (s : State) (f : Nat) : RKind → Nat
  | .fnId => fields [(f, 16), ((s.fnSlip f).isSome.toNat, 6), ((s.fnSlip f).getD 0, 0)]
  | .fnStatus =>
    let x := s.fn f
    fields [((s.fnFenced f).toNat, 3), (x.resetting.toNat, 2), (x.admqErr.toNat, 1), (x.rdy.toNat, 0)]
  | .fnOvf => match s.fnSlip f with | some n => ((s.slip n).ovfUsed + 1023) / 1024 | none => 0
  | _ => 0

/-- A word of a function's PBA (R364). -/
def State.viewPba (s : State) (f w : Nat) : Nat := maskOf ((List.range 64).filter (fun i => (s.vec (f * 2048 + 64 * w + i)).pba))

/-- STATE of a granule (Table 15.4), with its owner. -/
def Granule.bits : Granule → Nat × Nat
  | .free => (0, 0)
  | .owned k => (1, k)
  | .dirty => (2, 0)
  | .clearing => (3, 0)

/-- MC_SLC_s, MC_KS_DATA, MC_GR_DATA, MC_SVC_BASE and MC_CLEAR_STATUS. -/
def State.viewMc (s : State) (i : Nat) : RKind → Nat
  | .mcSlc =>
    let x := s.slip i
    fields [((decide (x.state ≠ 0)).toNat, 63), (x.state, 60), (x.adaptive.toNat, 59), ((s.sealed i).toNat, 58), (x.keySlot, 44), (x.quires.length, 32),
      (x.epoch % 2 ^ 32, 0)]
  | .mcKsData =>
    let n := s.rfld (mcB + 0x2000) 11 0
    let x := s.key n
    fields [(x.state, 62), (if x.state = 2 then x.slip else 0, 56), ((s.granules.filter (fun e => decide (e.2 = .owned n))).length, 32), (x.epoch % 2 ^ 32, 0)]
  | .mcGrData =>
    let g := (s.gran (s.rfld (mcB + 0x2010) 14 0)).bits
    fields [(g.1, 14), (g.2, 0)]
  | .mcSvc => s.svcGran * granBytes
  | .mcClear =>
    let clean := (s.granules.filter (fun e => decide (e.1 < s.svcGran) && decide (e.2.bits.1 < 2))).length
    fields [(s.svcGran - clean, 48), (((s.granules.find? (fun e => decide (e.2 = .clearing))).map (·.1)).getD 0, 0)]
  | _ => 0

/-! ## Safety and observability (Tables 18.7, 18.8, 19.2, 19.7, 19.8) -/

/-- The 32 bytes of a fault record as four words. -/
def FaultRec.words (f : FaultRec) : List Nat :=
  [f.tick, packLE [(f.source, 1), (f.cause, 1), (f.reaction, 1), (f.flags.toNat, 1), (f.slip, 1), (f.partner, 1)], packLE [(f.contract, 4), (f.info, 4)],
   packLE [(f.recoveryUs, 4)]]

def State.viewSafe (s : State) (i w : Nat) : RKind → Nat
  | .siStatus => fields [(s.spares, 24), (s.si.safeReq.toNat, 10), (s.si.pins.toNat, 9), (s.si.pins.toNat, 8), (s.exhausted.toNat, 5), (s.degraded.toNat, 4), (s.siState, 0)]
  | .flogHead => s.si.flogHead
  | .flog => ((SMap.get ({} : FaultRec) s.si.flog i).words[w]?).getD 0
  | _ => 0

def State.viewObs (s : State) (i w : Nat) : RKind → Nat
  | .obsStatus => fields [((s.obs.alarms.filter (fun e => decide (e.2.cause ≠ 0))).length, 16), (s.obs.snapPend.isSome.toNat, 15), (s.obs.unaligned.toNat, 14),
      (s.obs.logQ.isSome.toNat, 13), (s.obs.ring.length, 0)]
  | .obsSnapId => s.obs.snapId.toNat
  | .obsSnapTick => s.obs.snapTick
  | .obsSnapPend => match s.obs.snapPend with | some p => fields [(1, 63), (p.2.1 % 2 ^ 63, 0)] | none => 0
  | .obsCaps => fields [(s.obs.logCap, 16), (s.obs.traceCap, 0)]
  | .obsTrace => s.obs.traceMask.toNat
  | .obsLost => (s.slip i).lost
  | .obsAlarm => ((SMap.get ({} : Alarm) s.obs.alarms i).words[w]?).getD 0
  | .obsBsum => match s.obs.sums[i]? with | some e => (e.words[w]?).getD 0 | none => 0
  | _ => 0

/-! ## Ports and regions (Tables 3.15, 3.17, 4.8, 7.9, 8.12) -/

def State.viewHop (s : State) (n : Nat) : RKind → Nat
  | .hopStatus =>
    let h := s.hop n
    let pair := s.paired n && s.hopEn (s.cfgPort n)
    fields [(h.occ, 16), (pair.toNat, 7), (h.hold.toNat, 6), (h.runStart.isSome.toNat, 5), (h.timeValid.toNat, 4), (h.addrValid.toNat, 3), (h.resyncWait.toNat, 2),
      (h.link, 0)]
  | .hopStime => (s.hop n).stimeMax.getD 0
  | _ => 0

/-- Some SNAP bit of the surface is set. -/
def State.snapActive (s : State) (r : Nat) : Bool := (s.surfRegions r).any (fun i => (s.sfm i).snap.any)

def State.viewSfm (s : State) (r i : Nat) : RKind → Nat
  | .sfmQ => fields ((List.range 4).map (fun q => (s.dom (21 + q), 2 * q)))
  | .sfmStatus =>
    let f := s.sfm r
    fields [((s.horizonShort r).toNat, 3), (f.conv.isSome.toNat, 2), (f.gen.toNat, 1), ((s.surfEn r && f.origin.any (fun o => decide (o ≤ s.tim.tick))).toNat, 0)]
  | .sfmOrigin => (s.sfm r).origin.getD 0
  | .sfmEnd => s.epochEnd r (s.sfm r).epoch
  | .snapStatus => fields [((s.snapActive r).toNat, 3), (match s.deltaOn r with | some g => s.rebasePhase g | none => 0, 0)]
  | .drebAnchor =>
    match (s.deltaOn r).bind (fun g => (s.graph g).delta) with
    | some d => (match d.service with | some (0, _) => d.bankA.anchor | some _ => d.bankB.anchor | none => 0)
    | none => 0
  | .drebSwitch => match s.deltaOn r with | some g => s.switchTick g | none => 0
  | .drebLog => fields [((((s.deltaOn r).bind (fun g => (s.graph g).delta.bind (·.reb))).map (·.log.length)).getD 0, 32), ((s.sfm r).logPeak, 0)]
  | .slotStatus =>
    let l := (s.sfm r).slots
    fields [(maskOf ((List.range 4).filter (fun i => ((l[i]?).getD {}).bits.any)), 4), (maskOf ((List.range 4).filter (fun i => ((l[i]?).getD {}).busy)), 0)]
  | .slotT => (((s.sfm r).slots[i]?).getD {}).tick
  | _ => 0

/-! ## The CAP block (Tables 22.4, 22.5) -/

/-- A quire is active in the live map; one that is fenced for recovery still is. -/
def State.inLive (s : State) (q : Nat) : Bool := s.qState q = 1 || s.qState q = 2

def State.viewCap (s : State) (k : RKind) : Nat :=
  match k with
  | .capForm => match Config.form with | .cardC => 0 | .moduleM => 1 | .dieD => 2
  | .capLinks => match Config.form with | .dieD => 0x40411 | _ => 0x40410
  | .capFw => s.sec.active.version.toNat
  | _ =>
    if !(s.fn 0).rdy then 0
    else match k with
    | .lvActive => maskOf ((List.range 64).filter s.inLive)
    | .lvActiveHi => maskOf ((List.range 4).filter (fun i => s.inLive (64 + i)))
    | .lvRetired => maskOf ((List.range 64).filter (fun q => s.qState q = 3))
    | .lvRetiredHi => maskOf ((List.range 4).filter (fun i => s.qState (64 + i) = 3))
    | .lvStatus => fields [(s.exhausted.toNat, 31), (s.degraded.toNat, 30), (((List.range 68).filter s.inLive).length, 16), (s.spares, 0)]
    | .lvLanes => fields ((List.range 4).map (fun p => ((s.port p).lanes, 5 * p)))
    | .lvGen => s.si.liveGen
    | _ => 0

/-! ## Quires (Tables 5.8 to 5.11, 7.8, 9.10) -/

/-- GRIND of a quire's delta graph. -/
def State.quireGrind (s : State) (q l : Nat) : Nat :=
  match s.graphs.find? (fun e => e.2.exist && e.2.delta.isSome && e.2.quires.contains q) with
  | some e => match e.2.delta with | some d => d.grindAt l s.tim.tick | none => 0
  | none => 0

/-- QR_AEe_RING and QR_AEe_PTR. -/
def Ae.ring (a : Ae) : Nat := fields [(a.base, 44), (a.log2n, 0)]
def Ae.ptr (a : Ae) : Nat := fields [(a.retire % 2 ^ 12, 32), (a.start % 2 ^ 12, 16), (a.tail % 2 ^ 12, 0)]

def State.viewQr (s : State) (q i : Nat) (k : RKind) : Nat :=
  let x := s.quire q
  match k with
  | .qrStatus =>
    let on := s.dom (25 + q / 4) = 2 && s.inLive q
    fields [((s.below q).toNat, 28), (s.qState q, 26), (x.slip.getD 0, 20), (x.slip.isSome.toNat, 19), (x.busy / 256 % 4, 8),
      ((decide (x.ae1.retire ≠ x.ae1.tail)).toNat, 7), ((decide (x.ae0.retire ≠ x.ae0.tail)).toNat, 6), ((!x.spk.neurons.isEmpty).toNat, 5), (x.busy / 2 % 16, 1),
      (on.toNat, 0)]
  | .qrFreq => fields [(s.step q, 24), (x.target, 16), (x.contractStep, 8), (x.adaptive.toNat, 0)]
  | .qrRing0 => x.ae0.ring
  | .qrRing1 => x.ae1.ring
  | .qrPtr0 => x.ae0.ptr
  | .qrPtr1 => x.ae1.ptr
  | .qrAeFault => x.aeFault
  | .qrChan =>
    let c := x.chan i
    if c.valid then fields [(1, 63), (c.prod, 59), (c.cons, 55), (c.isRibbon.toNat, 54), (c.base, 32), (c.isize - 1, 20), (c.cap, 8)] else 0
  | .qrChanCnt =>
    let c := x.chan i
    fields [(c.tokens + (s.feedItems q i).length, 16), (c.credits, 0)]
  | .qrGrind => fields ((List.range 8).map (fun j => (s.quireGrind q (8 * i + j), 4 * j)))
  | .spkCfg => fields [(x.spk.keyBase / 8192, 13), (x.spk.en.toNat, 0)]
  | .spkStatus => fields [((decide (s.dom (25 + q / 4) = 1)).toNat, 30), (min x.spk.buf.length 0x7FFF, 0)]
  | .krCfg => x.spk.dunitM1
  | .neurData => (x.spk.neuron (s.rfld (qrB q + 0x2210) 12 0)).word % 2 ^ 64
  | .neurStart => (x.spk.neuron (s.rfld (qrB q + 0x2210) 12 0)).tStart % 2 ^ 32
  | .krTblLo => SMap.get 0 x.spk.table (s.rfld (qrB q + 0x2228) 11 0) % 2 ^ 64
  | .krTblHi => SMap.get 0 x.spk.table (s.rfld (qrB q + 0x2228) 11 0) / 2 ^ 64
  | .krPending => x.spk.pend.length + (s.stagedRoutes q).length
  | .spkClass => x.spk.cls i % 2 ^ 64
  | .spkClassHi => x.spk.cls i / 2 ^ 64
  | _ => 0

/-! ## Chip-level units (Tables 8.13, 9.11, 9.12, 10.7, 11.12, 11.13) -/

/-- DPP jobs whose tensors are complete and which have not run (QUEUED). -/
def State.dppQueued (s : State) : Nat :=
  (s.graphs.map (fun e => match s.readoutRuns e.1 with
    | none => 0
    | some d => match d.insts.head? with
      | none => 0
      | some i => ((List.range d.jobs.length).filter (fun j => !i.jobs.contains j &&
          (match d.jobs[j]? with
           | some b => (List.range (jf b.words 0 1)).all (fun k => d.layerDone i (dppLevel k ((b.levels[k]?).getD [])).layer)
           | none => false))).length)).foldl (· + ·) 0

/-- The 64 bytes of a track slot; zero where it is FREE. -/
def State.trackSlot (s : State) (n : Nat) : List (BitVec 8) :=
  match s.fu.sets.find? (fun e => e.2.en && decide (e.2.base ≤ n ∧ n < e.2.base + ttSlots e.2)) with
  | some e => match SMap.get none e.2.tracks (n - e.2.base) with | some t => t.entry | none => []
  | none => []

/-- The 824 bytes of a channel's coefficient banks, by the n-th 8 bytes. -/
def AuxChan.coefWord (x : AuxChan) (n : Nat) : Nat :=
  let p : FirBank × Nat := if n < 0x12 then (x.f1.a, n) else if n < 0x24 then (x.f1.b, n - 0x12) else if n < 0x46 then (x.f2.a, n - 0x24) else (x.f2.b, n - 0x46)
  if p.2 = 0 then fields [(p.1.taps, 8), (p.1.shift, 0)]
  else fields ((List.range 4).map (fun i => (unsig 16 ((p.1.coef[4 * (p.2 - 1) + i]?).getD 0), 16 * i)))

def State.viewAscu (s : State) (i w : Nat) (k : RKind) : Nat :=
  let x := s.aux i
  match k with
  | .ascuStatus => maskOf ((List.range 32).filter (fun c => (s.aux c).en))
  | .ascuFetch => s.fetchEnt i % 2 ^ 64
  | .ascuFetchHi => s.fetchEnt i / 2 ^ 64
  | .ascuSrc => x.src % 2 ^ 63 + x.en.toNat * 2 ^ 63
  | .ascuChain =>
    let c := BitVec.ofNat 64 x.chain
    (setFld (setFld (setFld (setFld c 36 30 x.f1.bank.taps) 26 21 x.f1.bank.shift) 20 13 x.f2.bank.taps) 9 4 x.f2.bank.shift).toNat
  | .ascuOut =>
    let c := BitVec.ofNat 64 x.out
    (setFld (setFld (setFld (setFld c 55 55 x.f1.useB.toNat) 54 54 x.f2.useB.toNat) 53 53 x.f1.bank.sym.toNat) 52 52 x.f2.bank.sym.toNat).toNat
  | .ascuTime => x.time
  | .ascuP => fields [((x.ring[256]?).isSome.toNat, 63), (x.p % 2 ^ 40, 0)]
  | .ascuHold => fields [(x.lungo.hold % 2 ^ 32, 32), (x.rist.hold % 2 ^ 32, 0)]
  | .ascuCoef => x.coefWord w
  | _ => 0

def State.viewUnits (s : State) (i : Nat) : RKind → Nat
  | .kxbStatus => (s.kxb.groups.filter (fun e => e.2.testBit 127)).length
  | .kxbAtt => SMap.get 0 s.kxb.att i
  | .kxbGroup => SMap.get 0 s.kxb.groups i % 2 ^ 64
  | .kxbGroupHi => SMap.get 0 s.kxb.groups i / 2 ^ 64
  | .dppStatus => fields [(min s.dppQueued 127, 8)]
  | .fuStatus => maskOf ((List.range 8).filter (fun j => (s.fjob j).en))
  | .fuNext => (s.fjob i).next
  | .fuSrc =>
    let x := s.fsrc i
    if !x.en then 0
    else fields [(1, 63), (x.job, 60), (fsKind x, 57), ((fsLinear x).toNat, 56), (x.state, 53), (x.stale.toNat, 52), (x.useB.toNat, 51),
      ((x.pend || s.xformStaged i).toNat, 50), (xbVersion (if x.useB then x.bankB else x.bankA) % 2 ^ 16, 32), (x.samples.length, 29)]
  | .fuAge => let x := s.fsrc i; fields [(x.age % 2 ^ 32, 32), ((x.samples.map (·.tick)).foldl max 0 % 2 ^ 32, 0)]
  | .tmStatus => (s.fu.sets.map (fun e => if e.2.en then (e.2.tracks.filter (fun t => t.2.isSome)).length else 0)).foldl (· + ·) 0
  | .tmSet =>
    let t := s.tset i
    if !t.en then 0
    else fields [(1, 63), ((s.graph t.graph).slip, 57), (t.base, 44), (ttSlots t, 31), ((t.tracks.filter (fun e => e.2.isSome)).length, 18)]
  | .tmId => (s.tset i).idNext
  | .tmTrk => word64 (s.trackSlot (s.rfld (tmB + 0x2000) 11 0)) i
  | _ => 0

/-! ## The Spine (Tables 17.9 to 17.11) -/

def State.viewSpn (s : State) (p i : Nat) (k : RKind) : Nat :=
  let x := s.port p
  let b := s.bind
  let t := s.strm (s.rfld (spnB 0 + 0x2010) 11 0)
  match k with
  | .spnStatus =>
    let parent := b.member && b.parent = some p
    fields [(if b.member then x.peer else 0, 16), (parent.toNat, 15), ((parent || (b.member && b.children.contains p)).toNat, 14), (x.lanes / 16 % 2, 13), (x.lanes, 8),
      (x.width, 4), (x.state, 0)]
  | .spnRtt => fields [(x.cablePs, 32), (x.rttPs, 0)]
  | .spnBind => if b.member then fields [(b.dev, 48), (b.root, 32), (1, 31), (b.isRoot.toNat, 30), (b.parent.getD 7, 27), (b.depth, 16)] else fields [(7, 27)]
  | .spnBindLat => fields [(((b.lDev + 999) / 1000) % 2 ^ 32, 32), (s.leadNs % 2 ^ 32, 0)]
  | .spnStream => fields [(t.txSeq % 2 ^ 32, 32), (t.applied % 2 ^ 32, 0)]
  | .spnStreamHi => fields [(t.peer, 48), (t.slip.getD 0, 42), (t.pf.toNat, 41), (t.spike.toNat, 40), (t.state, 37), (t.cls, 35), (if t.spike then t.lag - 1 else 0, 24), (t.group, 8)]
  | .spnStreamCnt => fields [(t.refused, 32), (t.discarded, 0)]
  | .spnBcast => match b.bcast with | some c => packLE (((c.2.drop (8 * i)).take 8).map (fun v => (v, 1))) | none => 0
  | _ => 0

/-! ## Security, power and field interfaces (Tables 16.10, 16.11, 20.8, 20.9, 21.7) -/

def State.viewSys (s : State) (i : Nat) : RKind → Nat
  | .seStatus =>
    let c := s.sec
    fields [(c.dbgOpen.toNat, 31), (c.life, 28), (c.trng, 26), (c.staged.isSome.toNat, 25), (c.floor, 16), (c.active.svn.toNat, 8), (s.colState (fun _ => true), 0)]
  | .seGen => s.sec.gen
  | .seUid => Config.deviceUid.toNat % 2 ^ 64
  | .seUidHi => Config.deviceUid.toNat / 2 ^ 64
  | .pwrStatus => fields [(s.pwr.idle, 12), (s.pwr.straps / 8 % 2, 11), (s.pwr.xtalOk.toNat, 10), ((!s.pwr.req.isEmpty).toNat, 9), ((!s.pwr.acts.isEmpty).toNat, 8), (s.powerMode, 0)]
  | .pwrStrap => fields [(s.pwr.ambig, 16), (s.pwr.straps, 0)]
  | .pwrTemp => unsig 16 s.pwr.tempC
  | .domLo => fields ((List.range 32).map (fun d => (s.dom d, 2 * d)))
  | .domHi => fields ((List.range 16).map (fun d => (s.dom (32 + d), 2 * d)))
  | .domWarm => maskOf ((List.range 48).filter (fun d => s.pwr.warm.any (fun w => decide (w.2 = d))))
  | .pwrCl => fields [(s.clusterMv i, 52), (s.highStep i, 40), ((s.clusterShared i).toNat, 33), (((List.range 4).any (fun j => s.held (4 * i + j))).toNat, 32), (SMap.get 0 s.pwr.meas i, 0)]
  | .xioStatus => fields [(maskOf ((List.range 11).filter (fun o => (s.outPin o).latched)), 11), (maskOf ((List.range 11).filter (fun o => (s.outPin o).contention)), 0)]
  | _ => 0

/-! ## Any register -/

/-- An arbiter's quota register: QUOTA as stored and GRANTS of the window (Table 1.4). The CFG register of the arbiter lies before the quotas. -/
def State.viewQuota (s : State) (k n : Nat) : Nat := (s.reg k).toNat % 2 ^ 16 + SMap.get 0 (s.arb (k - 4 * (n + 1))).grants n % 2 ^ 16 * 2 ^ 16

/-- What a register reads; the value of an input pin of XIO_GPIO_IN comes from outside (`ins`). -/
def State.readReg (s : State) (k : Nat) (d : RegDef) (ix : List Nat) (ins : Nat) : Word :=
  let o := k % 2 ^ 32
  let i := ix.headD 0
  let w := (ix[1]?).getD 0
  match d.kind with
  | .store | .arbCfg => s.reg k
  | .ctr => (s.ctr k).setWidth 64
  | .doorbell => 0
  | .queue => BitVec.ofNat 64 (s.queueEntry i)
  | .quota => BitVec.ofNat 64 (s.viewQuota k (ix.getLastD 0))
  | .sysTime => BitVec.ofNat 64 s.tim.systime
  | .tickCount => BitVec.ofNat 64 s.tim.tick
  | .ets => BitVec.ofNat 64 s.ets
  | .tickCfg => BitVec.ofNat 64 (s.tim.tickQ % 64)
  | .gpioIn => (List.range 64).foldl (fun v p => setBit v p ((s.gpioLevel p).getD (ins.testBit p))) 0
  | .fnId | .fnStatus | .fnOvf => BitVec.ofNat 64 (s.viewFn (k / 2 ^ 32) d.kind)
  | .pba => BitVec.ofNat 64 (s.viewPba (k / 2 ^ 32) i)
  | .mcSlc | .mcKsData | .mcGrData | .mcSvc | .mcClear => BitVec.ofNat 64 (s.viewMc i d.kind)
  | .siStatus | .flogHead | .flog => BitVec.ofNat 64 (s.viewSafe i w d.kind)
  | .obsStatus | .obsSnapId | .obsSnapTick | .obsSnapPend | .obsCaps | .obsTrace | .obsLost | .obsAlarm | .obsBsum => BitVec.ofNat 64 (s.viewObs i w d.kind)
  | .hopStatus | .hopStime => BitVec.ofNat 64 (s.viewHop ((o - 0x100000) / 0x10000) d.kind)
  | .sfmQ | .sfmStatus | .sfmOrigin | .sfmEnd | .snapStatus | .drebAnchor | .drebSwitch | .drebLog | .slotStatus | .slotT =>
    BitVec.ofNat 64 (s.viewSfm ((o - 0x201000) / 0x1000) i d.kind)
  | .capForm | .capLinks | .capFw | .lvActive | .lvActiveHi | .lvRetired | .lvRetiredHi | .lvStatus | .lvLanes | .lvGen => BitVec.ofNat 64 (s.viewCap d.kind)
  | .qrStatus | .qrFreq | .qrRing0 | .qrRing1 | .qrPtr0 | .qrPtr1 | .qrAeFault | .qrChan | .qrChanCnt | .qrGrind | .spkStatus | .spkCfg | .neurData | .neurStart
  | .krTblLo | .krTblHi | .krPending | .krCfg | .spkClass | .spkClassHi => BitVec.ofNat 64 (s.viewQr ((o - 0x300000) / 0x4000) i d.kind)
  | .kxbStatus | .kxbAtt | .kxbGroup | .kxbGroupHi | .dppStatus | .fuStatus | .fuNext | .fuSrc | .fuAge | .tmStatus | .tmSet | .tmId | .tmTrk =>
    BitVec.ofNat 64 (s.viewUnits i d.kind)
  | .ascuStatus | .ascuFetch | .ascuFetchHi | .ascuSrc | .ascuChain | .ascuOut | .ascuTime | .ascuP | .ascuHold | .ascuCoef => BitVec.ofNat 64 (s.viewAscu i w d.kind)
  | .spnStatus | .spnRtt | .spnBind | .spnBindLat | .spnStream | .spnStreamHi | .spnStreamCnt | .spnBcast =>
    BitVec.ofNat 64 (s.viewSpn ((o - 0x800000) / 0x10000) i d.kind)
  | .seStatus | .seGen | .seUid | .seUidHi | .pwrStatus | .pwrStrap | .pwrTemp | .domLo | .domHi | .domWarm | .pwrCl | .xioStatus => BitVec.ofNat 64 (s.viewSys i d.kind)

end Sys2Proof.Machine
end

