-- ==== Sys2Proof/Machine/Reg.lean ====
section
/-! DEFINITION. Host reads and writes of registers and data windows (22): units, widths, staging, the read latch, what a write changes, and
refused accesses. -/
namespace Sys2Proof.Machine

/-! ## Which writes a register takes -/

/-- An XIO entry or interface is enabled: bit 63 of a 64-bit register, MODE of XIO_SYNC, bit 31 of the others. -/
def State.xioOn (s : State) (k : Nat) (wide : Bool) : Bool :=
  if wide then (s.reg k).getLsbD 63 else if k = xioB + 0x380 then decide (s.rfld k 31 30 ≠ 0) else (s.reg k).getLsbD 31

/-- The condition under which a register's fields are writable holds. -/
def State.condOk (s : State) (f k : Nat) (d : RegDef) : Bool :=
  let n := (k - 0x100000) / 0x10000
  let r := (k - 0x201000) / 0x1000
  match d.cond with
  | .always => true
  | .admqOff => !(s.reg (fnB f + 4)).getLsbD 0
  | .portOff => !s.hopEn n
  | .portCustom => !s.hopEn n && decide (s.rfld (hopB n + 0x10) 1 0 = 3)
  | .crnOff => !(s.reg (sfmP r + 0x20)).getLsbD 31
  | .flowOff => !(s.reg (sfmP r + 0x28)).getLsbD 31
  | .xioSelf => !s.xioOn k d.wide
  | .xioBack b => !s.xioOn (k - b) true

/-- CFG_WHILE_EN of the register's block, for a write that the condition turns away. -/
def State.condErr (s : State) (k : Nat) (d : RegDef) : State :=
  match d.cond with
  | .portOff | .portCustom => s.orReg (hopB ((k - 0x100000) / 0x10000) + 0x48) 1
  | .crnOff | .flowOff => s.orReg (sfmP ((k - 0x201000) / 0x1000) + 0x30) 2
  | .xioSelf | .xioBack _ => s.orReg (xioB + 4) 8
  | _ => s

/-- A register's contents after a write (Table 0.4): RW fields take it, W1C bits are cleared by ones, RWL fields take it while unlocked. -/
def RegDef.next (d : RegDef) (locked : Bool) (old v : Word) : Word :=
  let m := d.rw ||| (if locked then 0 else d.rwl)
  ((old &&& ~~~ m) ||| (v &&& m)) &&& ~~~ (v &&& d.w1c)

/-- Store what a write changes, under the register's condition. -/
def State.storeReg (s : State) (f k : Nat) (d : RegDef) (v : Word) : State :=
  if s.condOk f k d then s.setReg k (d.next s.siLocked (s.reg k) v) else s.condErr k d

/-- A written TU_SRC_CTL on the root (R49): a source that is no candidate any more is no longer followed. -/
def State.wrSrcCtl (s : State) : State :=
  if !s.isRoot then s
  else
    let gone := [1, 2, 3].filter (fun c => !s.candidates.contains c)
    let s := gone.foldl (fun s c => (s.modTim (fun t => { t with runFrom := SMap.put none t.runFrom c none })).setQualified c false) s
    s.selectSource

/-- A written HOP_BUF: what the hold signal drives (R83, R556). -/
def State.wrHopBuf (s : State) (n : Nat) : State :=
  let c := s.reg (hopB n + 0x30)
  let s := s.gpioUpdate (2 + n)
  if !c.getLsbD 15 then s.modHop n (fun h => { h with hold := false })
  else s.holdPin n

/-- The effect of a write of a value on a register (R563): its own action, or its fields. -/
def State.wrReg (s : State) (f k : Nat) (d : RegDef) (ix : List Nat) (v : Word) : State :=
  let i := ix.headD 0
  let n := (k - 0x100000) / 0x10000
  let r := (k - 0x201000) / 0x1000
  let p := (k - 0x800000) / 0x10000
  match d.act with
  | .none | .hopRefr | .hopBa => s.storeReg f k d v
  | .hopCtl => s.wrHopCtl n v
  | .hopDec => s.wrHopDec n v
  | .surfCfg => s.wrSurfCfg r v
  | .crnCfg => s.wrCrnCfg r v
  | .flowCfg => s.wrFlowCfg r v
  | .spnCtl =>
    let s := if v.getLsbD 0 = s.spEn p then s else s.wrSpnEn p (v.getLsbD 0)
    if v.getLsbD 1 then s.wrSpnRetrain p else s
  | .route => s.wrRoute i v
  | .tickLead => s.wrTickLead (v.toNat % 2 ^ 11)
  | .jumpLimit => s.setRfld k 19 0 (min 1000000 (max 100 (fld v 19 0)))
  | .srcCtl => (s.storeReg f k d v).wrSrcCtl
  | .siReact => s.wrReact ((k - simB - 0x100) / 4) v.toNat
  | .siLock => if v.getLsbD 0 then s.setRfld k 0 0 1 else s
  | .outSafe =>
    let s := s.storeReg f k d v
    if s.si.safe then s.safeOutputs else s
  | .fnCtl => if v.getLsbD 1 then s.fnReset f false else s.wrFnEn f (v.getLsbD 0)
  | .pwrLimit => s.setRfld k 16 0 (min 65000 (max 10000 (fld v 16 0)))
  | .msixCtl => if v.getLsbD 0 then s.setRfld k 0 0 1 else s.unmask f i
  | .hopBuf => (s.storeReg f k d v).wrHopBuf n
  | .gpioDir =>
    let s1 := (s.storeReg f k d v).gpioUpdate 1
    (bitsSet 64 ((s.reg k) ||| v).toNat).foldl State.gpioDrive s1
  | .gpioOut =>
    let s := s.storeReg f k d v
    ((List.range 64).filter (fun j => s.gpioServes 1 j)).foldl State.gpioDrive s
  | .egr =>
    let off := !(s.reg k).getLsbD 63
    let s := s.storeReg f k d v
    if off ∧ v.getLsbD 63 then s.modXio (fun x => { x with egSeq := SMap.put 0 x.egSeq i 0 }) else s
  | .outCfg =>
    let ok := s.condOk f k d
    let s := s.storeReg f k d v
    if ok then s.driveOut (if k = xioB + 0x380 then 8 else i) else s
  | .sqTail => s.sqTail f i v.toNat
  | .head => s.hostHead f i v.toNat

/-- A write that reaches a register: Brew (R518), staged data of another register discarded (R564), effect. A doorbell does so itself where
its value is accepted. -/
def State.applyReg (s : State) (f o k : Nat) (d : RegDef) (ix : List Nat) (v : Word) : State :=
  if d.kind = .doorbell then s.wrReg f k d ix v else (s.touch f o).wrReg f k d ix v

/-! ## Widths (R560–R565) -/

/-- The 64-bit register that fills the unit at an offset, and the 32-bit register at an offset. -/
def wideAt (f u : Nat) : Option (Nat × RegDef × List Nat) := (locate f u).filter (fun p => p.2.1.wide)
def halfAt (f o : Nat) : Option (Nat × RegDef × List Nat) := (locate f o).filter (fun p => !p.2.1.wide)

/-- Bytes of BAR0. -/
def barBytes (f : Nat) : Nat := if f = 0 then 0x10000000 else 0x10000

/-- What an access names: nothing, bytes that are refused, or an aligned run of n bytes (R562). -/
inductive Access where
  | none | bad | run (o n lo : Nat)
deriving DecidableEq, Repr

/-- The run of bytes that an access of a width enables. -/
def accessOf (off width be : Nat) : Access :=
  let l := (List.range width).filter (fun i => be.testBit i)
  match l with
  | [] => .none
  | lo :: _ =>
    let n := l.length
    if 8 < width ∨ l ≠ (List.range n).map (· + lo) ∨ !([1, 2, 4, 8].contains n) ∨ (off + lo) % n ≠ 0 then .bad else .run (off + lo) n lo

/-- A byte of the run lies in a register. -/
def reaches (f o n : Nat) : Bool :=
  let u := o / 8 * 8
  (wideAt f u).isSome || (decide (o < u + 4) && (halfAt f u).isSome) || (decide (u + 4 < o + n) && (halfAt f (u + 4)).isSome)

/-- Table 22.1: a write of n aligned bytes at an offset; `be` are its byte enables. -/
def State.writeRun (s : State) (f o n v be : Nat) : State :=
  let u := o / 8 * 8
  let w := fun (x : Nat) => BitVec.ofNat 64 x
  if !reaches f o n then s.refuseWrite f 6 o (dbQueue f o) v be
  else if n < 4 then s.refuseWrite f 7 o (dbQueue f o) v be
  else match wideAt f u with
  | some (k, d, ix) =>
    if n = 8 then s.applyReg f u k d ix (w v)
    else if o = u then
      let s := s.access f u
      { s with stageBuf := SMap.put none s.stageBuf f (some (k, w v)) }
    else
      let low := match SMap.get none s.stageBuf f with
        | some p => if p.1 = k then p.2.toNat else (s.readReg k d ix 0).toNat % 2 ^ 32
        | none => (s.readReg k d ix 0).toNat % 2 ^ 32
      s.applyReg f u k d ix (w (v * 2 ^ 32 + low))
  | none =>
    let s := match (if o = u then halfAt f u else none) with
      | some (k, d, ix) => s.applyReg f u k d ix (w (v % 2 ^ 32))
      | none => s
    match (if o + n = u + 8 then halfAt f (u + 4) else none) with
    | some (k, d, ix) => s.applyReg f (u + 4) k d ix (w (if n = 8 then v / 2 ^ 32 else v % 2 ^ 32))
    | none => s

/-- A host write (R562, R563): at an offset of a function's BAR0, `width` bytes with byte enables and data. -/
def State.hostWrite (s : State) (f off width be v : Nat) : State :=
  if (f ≠ 0 ∧ !(s.fn f).exist) ∨ barBytes f < off + width then s.unsupported f off
  else match accessOf off width be with
  | .none => s
  | .bad => if (s.fn f).resetting then s.refuseWrite f 5 off (dbQueue f off) v be else s.refuseWrite f 8 off (dbQueue f off) v be
  | .run o n lo =>
    if (s.fn f).resetting then s.refuseWrite f 5 o (dbQueue f o) v be
    else s.writeRun f o n (v / 256 ^ lo % 256 ^ n) be

/-- REGISTER_WRITE (R560–R564). -/
def execRegisterWrite (fn : BitVec 12) (off : BitVec 28) (width : Nat) (be : BitVec 8) (v : BitVec 64) (s : State) :
    Host.Outcome State Fault Refusal :=
  .next (s.hostWrite fn.toNat off.toNat width be.toNat v.toNat)

/-! ## Data windows (R569) -/

/-- A region that a sealed slipcase holds and no slipcase read-shares (R393, R413). -/
def State.regionSealed (s : State) (r : Nat) : Bool :=
  s.slips.any (fun e => decide (e.2.state ≠ 0) && e.2.regions.getLsbD r && s.sealed e.1) &&
    !(s.slips.any (fun e => decide (e.2.state ≠ 0) && e.2.regions.getLsbD r && !e.2.hoppers.getLsbD r))

/-- A byte of a data window. -/
inductive WinByte where
  | sfm (r a : Nat) | qsp (q a : Nat) | sys (q a : Nat)
deriving DecidableEq, Repr

/-- What an offset of PF0's BAR0 names within the data windows. -/
def winAt (o : Nat) : Option WinByte :=
  if o < 0x2000000 then none
  else if o < 0x6000000 then some (.sfm ((o - 0x2000000) / 0x400000) (o % 0x400000))
  else if o < 0xA400000 then some (.qsp ((o - 0x6000000) / 0x100000) (o % 0x100000))
  else if o < 0xE800000 then some (.sys ((o - 0xA400000) / 0x100000) (o % 0x100000))
  else none

/-- The window's owner is sealed. -/
def State.winSealed (s : State) : WinByte → Bool
  | .sfm r _ => s.regionSealed r
  | .qsp q _ | .sys q _ => match (s.quire q).slip with | some n => s.sealed n | none => false

/-- The window's memory can be read: its domain is ON, and its quire is not RETIRED. -/
def State.winOn (s : State) : WinByte → Bool
  | .sfm r _ => s.dom (21 + r / 4) = 2
  | .qsp q _ | .sys q _ => s.dom (25 + q / 4) = 2 && decide (s.qState q ≠ 3)

/-- n bytes of a window. -/
def State.winVal (s : State) (w : WinByte) (n : Nat) : Nat :=
  leVal ((List.range n).map (fun i => match w with
    | .sfm r a => s.sfmByte r (a + i)
    | .qsp q a => SMap.get 0 (s.quire q).qsp (a + i)
    | .sys q a => SMap.get 0 (s.quire q).sys (a + i)))

/-- A refused read: Completer Abort, reported through AER and counted (R562, Table 21.3). -/
def State.abortRead (s : State) (f off : Nat) : State := ((s.emit .completerAbort [f] [off]).emit .aer [f, 1] [off]).bump (xioB + 0x400)

/-- A read of n aligned bytes of a window; whether input 0 was granted within 100 µs, and whether the read met an uncorrectable ECC error. -/
def State.readWin (s : State) (o n : Nat) (w : WinByte) (granted eccBad : Bool) : State :=
  if s.winSealed w then s.abortRead 0 o
  else if !s.winOn w then s.emit .readData [0, o] [0]
  else if !granted then s.abortRead 0 o
  else if eccBad then (s.emit .poisoned [0] [o]).bump (xioB + 0x410)
  else s.emit .readData [0, o] [s.winVal w n]

/-! ## Reads (R561, R562, R565) -/

/-- A register's value at a read; input pins take theirs from outside, as a free value (log entry 2). -/
def State.sample (s : State) (k : Nat) (d : RegDef) (ix : List Nat) : Word × State :=
  if d.kind = .gpioIn then
    let p := s.take
    (p.2.readReg k d ix p.1, p.2)
  else (s.readReg k d ix 0, s)

/-- A read of n aligned bytes at an offset. -/
def State.readRun (s : State) (f o n : Nat) : State :=
  let u := o / 8 * 8
  let s := s.access f o
  match wideAt f u with
  | some (k, d, ix) =>
    let p := s.sample k d ix
    let s := p.2
    if n = 4 ∧ o = u then
      ({ s with latch := SMap.put none s.latch f (some (k, p.1)) } : State).emit .readData [f, o] [p.1.toNat % 2 ^ 32]
    else if n = 4 then
      let v := match SMap.get none s.latch f with
        | some l => if l.1 = k then l.2 else p.1
        | none => p.1
      s.emit .readData [f, o] [v.toNat / 2 ^ 32]
    else s.emit .readData [f, o] [p.1.toNat / 256 ^ (o - u) % 256 ^ n]
  | none =>
    let part := fun (x : Nat) => match halfAt f x with | some (k, d, ix) => (s.readReg k d ix 0).toNat % 2 ^ 32 | none => 0
    let v := part u + part (u + 4) * 2 ^ 32
    s.emit .readData [f, o] [v / 256 ^ (o - u) % 256 ^ n]

/-- A host read. -/
def State.hostRead (s : State) (f off width be : Nat) (granted eccBad : Bool) : State :=
  if (f ≠ 0 ∧ !(s.fn f).exist) ∨ barBytes f < off + width then (s.emit .unsupported [f] [off]).unsupported f off
  else match accessOf off width be with
  | .none => s.emit .readData [f, off] [0]
  | .bad => s.abortRead f off
  | .run o n _ =>
    match (if f = 0 then winAt o else none) with
    | some w => s.readWin o n w granted eccBad
    | none => s.readRun f o n

/-- REGISTER_READ (R561, R562, R565). -/
def execRegisterRead (fn : BitVec 12) (off : BitVec 28) (width : Nat) (be : BitVec 8) (s : State) : Host.Outcome State Fault Refusal :=
  .next (s.hostRead fn.toNat off.toNat width be.toNat true false)

/-- LOW_HALF_READ (R565, R62): a 4-byte read of the low half of a 64-bit register. -/
def execLowHalfRead (fn : BitVec 12) (off : BitVec 28) (s : State) : Host.Outcome State Fault Refusal :=
  .next (s.hostRead fn.toNat off.toNat 4 0xF true false)

/-- DATA_WINDOW_READ (R569). -/
def execDataWindowRead (off : BitVec 28) (width : Nat) (granted eccBad : Bool) (s : State) : Host.Outcome State Fault Refusal :=
  .next (s.hostRead 0 off.toNat width (2 ^ width - 1) granted eccBad)

/-- UNSUPPORTED_REQUEST (R568, Table 21.3): a request to a VF that is not enabled, or outside every BAR. A write has no completion. -/
def execUnsupportedRequest (fn : BitVec 12) (off : BitVec 64) (isWrite : Bool) (s : State) : Host.Outcome State Fault Refusal :=
  let f := fn.toNat
  .next (if (f ≠ 0 ∧ !(s.fn f).exist) ∨ barBytes f ≤ off.toNat then
    (if isWrite then s else s.emit .unsupported [f] [off.toNat]).unsupported f off.toNat
  else s)

end Sys2Proof.Machine
end

