-- ==== Sys2Proof/Machine/Dispatch.lean ====
section
/-! DEFINITION. The dispatch: one arm per command, each a direct call of its meaning. -/
namespace Sys2Proof.Machine

/-- The effect of a command on everything but the queue of waiting commands. -/
def exec (i : Instr) (s : State) : Host.Outcome State Fault Refusal :=
  match i with
  | .nop h => Sys2Proof.Machine.execNop h s
  | .queueQuery h q => Sys2Proof.Machine.execQueueQuery h q s
  | .identify h => Sys2Proof.Machine.execIdentify h s
  | .qpCreate h d => Sys2Proof.Machine.execQpCreate h d s
  | .qpDelete h q => Sys2Proof.Machine.execQpDelete h q s
  | .functionReset h func => Sys2Proof.Machine.execFunctionReset h func s
  | .deviceReset h confirm => Sys2Proof.Machine.execDeviceReset h confirm s
  | .partitionCreate h b => Sys2Proof.Machine.execPartitionCreate h b s
  | .partitionResize h n hoppers regions => Sys2Proof.Machine.execPartitionResize h n hoppers regions s
  | .partitionHandover h slot scrubUs => Sys2Proof.Machine.execPartitionHandover h slot scrubUs s
  | .partitionDestroy h => Sys2Proof.Machine.execPartitionDestroy h s
  | .partitionReset h => Sys2Proof.Machine.execPartitionReset h s
  | .vfAssign h func assign => Sys2Proof.Machine.execVfAssign h func assign s
  | .ruleUpdate h flags sgl tbl cancels => Sys2Proof.Machine.execRuleUpdate h flags sgl tbl cancels s
  | .modeSet h mode => Sys2Proof.Machine.execModeSet h mode s
  | .partitionQuery h => Sys2Proof.Machine.execPartitionQuery h s
  | .graphLoad h slip sgl p => Sys2Proof.Machine.execGraphLoad h slip sgl p s
  | .graphUnload h => Sys2Proof.Machine.execGraphUnload h s
  | .graphStart h => Sys2Proof.Machine.execGraphStart h s
  | .graphStop h => Sys2Proof.Machine.execGraphStop h s
  | .graphBind h func q => Sys2Proof.Machine.execGraphBind h func q s
  | .vframeRead h layer form sgl => Sys2Proof.Machine.execVframeRead h layer form sgl s
  | .readoutAt h => Sys2Proof.Machine.execReadoutAt h s
  | .graphQuery h => Sys2Proof.Machine.execGraphQuery h s
  | .contractAdmit h d srcs plan => Sys2Proof.Machine.execContractAdmit h d srcs plan s
  | .contractRelease h arbs => Sys2Proof.Machine.execContractRelease h arbs s
  | .contractQuery h sgl => Sys2Proof.Machine.execContractQuery h sgl s
  | .contractPolicy h dram spine host step allow win reserve => Sys2Proof.Machine.execContractPolicy h dram spine host step allow win reserve s
  | .portHotmaskLoad h port sgl mask => Sys2Proof.Machine.execPortHotmaskLoad h port sgl mask s
  | .portHotmaskEdit h port entries => Sys2Proof.Machine.execPortHotmaskEdit h port entries s
  | .portEvringBind h port func q => Sys2Proof.Machine.execPortEvringBind h port func q s
  | .timeSetTick h q farInUse => Sys2Proof.Machine.execTimeSetTick h q farInUse s
  | .timeAcceptJump h rootSys rootTick => Sys2Proof.Machine.execTimeAcceptJump h rootSys rootTick s
  | .timeQuery h => Sys2Proof.Machine.execTimeQuery h s
  | .fusionSamplePut h slot sgl d b arrival => Sys2Proof.Machine.execFusionSamplePut h slot sgl d b arrival s
  | .fusionXformSet h slot words dram sgl meshes => Sys2Proof.Machine.execFusionXformSet h slot words dram sgl meshes s
  | .trackClear h set => Sys2Proof.Machine.execTrackClear h set s
  | .spikeRouteSet h qi ents => Sys2Proof.Machine.execSpikeRouteSet h qi ents s
  | .spikeWeights h qi addr bytes sgl data => Sys2Proof.Machine.execSpikeWeights h qi addr bytes sgl data s
  | .spikeStateRead h qi first count sgl => Sys2Proof.Machine.execSpikeStateRead h qi first count sgl s
  | .auxFetchSet h f e => Sys2Proof.Machine.execAuxFetchSet h f e s
  | .auxChanSet h c src chain out time => Sys2Proof.Machine.execAuxChanSet h c src chain out time s
  | .auxChanEnable h c en => Sys2Proof.Machine.execAuxChanEnable h c en s
  | .auxCoefLoad h c stage taps shift coef => Sys2Proof.Machine.execAuxCoefLoad h c stage taps shift coef s
  | .auxCoefSwap h c stages => Sys2Proof.Machine.execAuxCoefSwap h c stages s
  | .colophonGet h nonce sgl => Sys2Proof.Machine.execColophonGet h nonce sgl s
  | .spdmMessage h req rsp reqBytes r => Sys2Proof.Machine.execSpdmMessage h req rsp reqBytes r s
  | .keySlotGen h slot => Sys2Proof.Machine.execKeySlotGen h slot s
  | .keySlotErase h slot => Sys2Proof.Machine.execKeySlotErase h slot s
  | .fwStage h sgl img => Sys2Proof.Machine.execFwStage h sgl img s
  | .fwCommit h => Sys2Proof.Machine.execFwCommit h s
  | .debugChallenge h sgl => Sys2Proof.Machine.execDebugChallenge h sgl s
  | .debugResponse h sgl sigOk => Sys2Proof.Machine.execDebugResponse h sgl sigOk s
  | .lifecycleAdvance h target sgl auth => Sys2Proof.Machine.execLifecycleAdvance h target sgl auth s
  | .cuppingSchedule h flags => Sys2Proof.Machine.execCuppingSchedule h flags s
  | .snapshotRead h snapId counter => Sys2Proof.Machine.execSnapshotRead h snapId counter s
  | .alarmRead h sgl => Sys2Proof.Machine.execAlarmRead h sgl s
  | .alarmAck h cause => Sys2Proof.Machine.execAlarmAck h cause s
  | .logConfig h func q logCap traceCap mask => Sys2Proof.Machine.execLogConfig h func q logCap traceCap mask s
  | .safetyQuery h => Sys2Proof.Machine.execSafetyQuery h s
  | .katIntervalSet h ms => Sys2Proof.Machine.execKatIntervalSet h ms s
  | .safeStateClear h => Sys2Proof.Machine.execSafeStateClear h s
  | .outputRelease h mask => Sys2Proof.Machine.execOutputRelease h mask s
  | .faultInject h source => Sys2Proof.Machine.execFaultInject h source s
  | .bindingJoin h dev parent => Sys2Proof.Machine.execBindingJoin h dev parent s
  | .streamOpen h n peer kind lag group rate farOpen => Sys2Proof.Machine.execStreamOpen h n peer kind lag group rate farOpen s
  | .streamClose h n => Sys2Proof.Machine.execStreamClose h n s
  | .writeFence h peer n => Sys2Proof.Machine.execWriteFence h peer n s
  | .barrier h id => Sys2Proof.Machine.execBarrier h id s
  | .broadcast h sgl payload => Sys2Proof.Machine.execBroadcast h sgl payload s
  | .bindingReset h => Sys2Proof.Machine.execBindingReset h s
  | .powerPolicy h idle => Sys2Proof.Machine.execPowerPolicy h idle s
  | .governorSet h mw => Sys2Proof.Machine.execGovernorSet h mw s
  | .powerQuery h => Sys2Proof.Machine.execPowerQuery h s
  | .stagedCommandEffect farBad => Sys2Proof.Machine.execStagedCommandEffect farBad s
  | .sqTail fn q v => Sys2Proof.Machine.execSqTail fn q v s
  | .head fn q v => Sys2Proof.Machine.execHead fn q v s
  | .fnCtlEn fn en => Sys2Proof.Machine.execFnCtlEn fn en s
  | .fnCtlReset fn => Sys2Proof.Machine.execFnCtlReset fn s
  | .registerWrite fn off width be v => Sys2Proof.Machine.execRegisterWrite fn off width be v s
  | .lowHalfRead fn off => Sys2Proof.Machine.execLowHalfRead fn off s
  | .dataWindowRead off width granted eccBad => Sys2Proof.Machine.execDataWindowRead off width granted eccBad s
  | .unsupportedRequest fn off isWrite => Sys2Proof.Machine.execUnsupportedRequest fn off isWrite s
  | .hopCtlEn n v => Sys2Proof.Machine.execHopCtlEn n v s
  | .hopDecCfg n v => Sys2Proof.Machine.execHopDecCfg n v s
  | .sfmSurfCfgEn r v => Sys2Proof.Machine.execSfmSurfCfgEn r v s
  | .crnCfgEn r v => Sys2Proof.Machine.execCrnCfgEn r v s
  | .flowCfgEn r v => Sys2Proof.Machine.execFlowCfgEn r v s
  | .spnCtlEn p en => Sys2Proof.Machine.execSpnCtlEn p en s
  | .spnCtlRetrain p => Sys2Proof.Machine.execSpnCtlRetrain p s
  | .spnRoute w v => Sys2Proof.Machine.execSpnRoute w v s
  | .tuTickLead v => Sys2Proof.Machine.execTuTickLead v s
  | .siReact c v => Sys2Proof.Machine.execSiReact c v s
  | .tickClosed g => Sys2Proof.Machine.execTickClosed g s
  | .channelOperationStart q e ins outs writes items => Sys2Proof.Machine.execChannelOperationStart q e ins outs writes items s
  | .arbiterGrant k reqs => Sys2Proof.Machine.execArbiterGrant k reqs s
  | .arbiterWindowStart k => Sys2Proof.Machine.execArbiterWindowStart k s
  | .syncReceived src time off freq res => Sys2Proof.Machine.execSyncReceived src time off freq res s
  | .sourceQualified src => Sys2Proof.Machine.execSourceQualified src s
  | .sourceLost src => Sys2Proof.Machine.execSourceLost src s
  | .hopperWake n => Sys2Proof.Machine.execHopperWake n s
  | .packetReceive n p => Sys2Proof.Machine.execPacketReceive n p s
  | .shortPacket n dt vc hdr => Sys2Proof.Machine.execShortPacket n dt vc hdr s
  | .linkErr n dt vc wordCount => Sys2Proof.Machine.execLinkErr n dt vc wordCount s
  | .escErr n => Sys2Proof.Machine.execEscErr n s
  | .frontEndDecode n => Sys2Proof.Machine.execFrontEndDecode n s
  | .itemPipeline n => Sys2Proof.Machine.execItemPipeline n s
  | .spillQueueDrain n => Sys2Proof.Machine.execSpillQueueDrain n s
  | .cellMapSweep n => Sys2Proof.Machine.execCellMapSweep n s
  | .regionClear r => Sys2Proof.Machine.execRegionClear r s
  | .epochChange r => Sys2Proof.Machine.execEpochChange r s
  | .generationSweep r => Sys2Proof.Machine.execGenerationSweep r s
  | .cornerTest n => Sys2Proof.Machine.execCornerTest n s
  | .flowFit n => Sys2Proof.Machine.execFlowFit n s
  | .derivedSpillDrain n corner => Sys2Proof.Machine.execDerivedSpillDrain n corner s
  | .rebaseStart g => Sys2Proof.Machine.execRebaseStart g s
  | .snapshotSweep r => Sys2Proof.Machine.execSnapshotSweep r s
  | .rebasePhaseEnd g => Sys2Proof.Machine.execRebasePhaseEnd g s
  | .rebaseSwitch g => Sys2Proof.Machine.execRebaseSwitch g s
  | .rebaseFail g => Sys2Proof.Machine.execRebaseFail g s
  | .wakeRebase g => Sys2Proof.Machine.execWakeRebase g s
  | .startRebase g => Sys2Proof.Machine.execStartRebase g s
  | .dxeInput g layer bank => Sys2Proof.Machine.execDxeInput g layer bank s
  | .dxeSettle g layer bank => Sys2Proof.Machine.execDxeSettle g layer bank s
  | .scheduledRead g layer => Sys2Proof.Machine.execScheduledRead g layer s
  | .vframeCopy h => Sys2Proof.Machine.execVframeCopy h s
  | .descriptorStart q e => Sys2Proof.Machine.execDescriptorStart q e s
  | .descriptorComplete q e bad => Sys2Proof.Machine.execDescriptorComplete q e bad s
  | .segmentCommit q e => Sys2Proof.Machine.execSegmentCommit q e s
  | .replay q engines stepping cycles => Sys2Proof.Machine.execReplay q engines stepping cycles s
  | .stepUp q => Sys2Proof.Machine.execStepUp q s
  | .replayWindowEnd q => Sys2Proof.Machine.execReplayWindowEnd q s
  | .kernelInvocation q k n writes items tail0 tail1 => Sys2Proof.Machine.execKernelInvocation q k n writes items tail0 tail1 s
  | .kernelOverrun q k n cycles => Sys2Proof.Machine.execKernelOverrun q k n cycles s
  | .quireScrub q => Sys2Proof.Machine.execQuireScrub q s
  | .quireRetirement q => Sys2Proof.Machine.execQuireRetirement q s
  | .quireTakeover q => Sys2Proof.Machine.execQuireTakeover q s
  | .readoutInstant g => Sys2Proof.Machine.execReadoutInstant g s
  | .sampleSlotSet r => Sys2Proof.Machine.execSampleSlotSet r s
  | .sampleSweep r => Sys2Proof.Machine.execSampleSweep r s
  | .sampleComplete r slot => Sys2Proof.Machine.execSampleComplete r slot s
  | .vfinRecord g => Sys2Proof.Machine.execVfinRecord g s
  | .stripeEvaluation g layer st => Sys2Proof.Machine.execStripeEvaluation g layer st s
  | .egeRow g layer st => Sys2Proof.Machine.execEgeRow g layer st s
  | .dppJob g j readOk => Sys2Proof.Machine.execDppJob g j readOk s
  | .settlement q bad => Sys2Proof.Machine.execSettlement q bad s
  | .spikeDelivery q => Sys2Proof.Machine.execSpikeDelivery q s
  | .routerLookup q fromTile hops => Sys2Proof.Machine.execRouterLookup q fromTile hops s
  | .delayQueueRelease q loop => Sys2Proof.Machine.execDelayQueueRelease q loop s
  | .kxbCopy hops => Sys2Proof.Machine.execKxbCopy hops s
  | .attachSpike n => Sys2Proof.Machine.execAttachSpike n s
  | .renewalSweep q => Sys2Proof.Machine.execRenewalSweep q s
  | .fetchTrigger f t => Sys2Proof.Machine.execFetchTrigger f t s
  | .fetchComplete bus ok data => Sys2Proof.Machine.execFetchComplete bus ok data s
  | .channelSlot c => Sys2Proof.Machine.execChannelSlot c s
  | .fusionInput slot => Sys2Proof.Machine.execFusionInput slot s
  | .fusionStart j => Sys2Proof.Machine.execFusionStart j s
  | .trackCycle t => Sys2Proof.Machine.execTrackCycle t s
  | .pointCloudDatagram e d arrival => Sys2Proof.Machine.execPointCloudDatagram e d arrival s
  | .ethFrame e fcsBad len tag b => Sys2Proof.Machine.execEthFrame e fcsBad len tag b s
  | .egressDatagram k => Sys2Proof.Machine.execEgressDatagram k s
  | .contractReplan n => Sys2Proof.Machine.execContractReplan n s
  | .contractRevoked c arbs => Sys2Proof.Machine.execContractRevoked c arbs s
  | .packetFetch fn q p readOk => Sys2Proof.Machine.execPacketFetch fn q p readOk s
  | .completionWrite fn q => Sys2Proof.Machine.execCompletionWrite fn q s
  | .recordIssue r => Sys2Proof.Machine.execRecordIssue r s
  | .overflowDrain slip => Sys2Proof.Machine.execOverflowDrain slip s
  | .msixMessage fn v => Sys2Proof.Machine.execMsixMessage fn v s
  | .submissionReadRetry fn q ok => Sys2Proof.Machine.execSubmissionReadRetry fn q ok s
  | .pcieFlr fn => Sys2Proof.Machine.execPcieFlr fn s
  | .perst assert => Sys2Proof.Machine.execPerst assert s
  | .poisonedTlp fn off => Sys2Proof.Machine.execPoisonedTlp fn off s
  | .doeRequest proto len r => Sys2Proof.Machine.execDoeRequest proto len r s
  | .ideCheckFailed n => Sys2Proof.Machine.execIdeCheckFailed n s
  | .lockInterface fn => Sys2Proof.Machine.execLockInterface fn s
  | .stopInterface fn => Sys2Proof.Machine.execStopInterface fn s
  | .ruleDrain slip => Sys2Proof.Machine.execRuleDrain slip s
  | .trngRestart pass => Sys2Proof.Machine.execTrngRestart pass s
  | .signalPresent p => Sys2Proof.Machine.execSignalPresent p s
  | .trainingDone p lanes rtt cable => Sys2Proof.Machine.execTrainingDone p lanes rtt cable s
  | .auth p verified life debug peer => Sys2Proof.Machine.execAuth p verified life debug peer s
  | .linkRetry p signal => Sys2Proof.Machine.execLinkRetry p signal s
  | .retrain p lanes transit => Sys2Proof.Machine.execRetrain p lanes transit s
  | .linkDown p transit => Sys2Proof.Machine.execLinkDown p transit s
  | .rekey p => Sys2Proof.Machine.execRekey p s
  | .flitReceive p kind seq ack crcOk => Sys2Proof.Machine.execFlitReceive p kind seq ack crcOk s
  | .nakReplay p ack => Sys2Proof.Machine.execNakReplay p ack s
  | .messageForward p m tagOk fieldsOk => Sys2Proof.Machine.execMessageForward p m tagOk fieldsOk s
  | .writeChan p m => Sys2Proof.Machine.execWriteChan p m s
  | .writeDram p m => Sys2Proof.Machine.execWriteDram p m s
  | .spikes p m => Sys2Proof.Machine.execSpikes p m s
  | .spikesSend n => Sys2Proof.Machine.execSpikesSend n s
  | .credit p m => Sys2Proof.Machine.execCredit p m s
  | .writeError p m => Sys2Proof.Machine.execWriteError p m s
  | .fence p m => Sys2Proof.Machine.execFence p m s
  | .fenceAck p m => Sys2Proof.Machine.execFenceAck p m s
  | .streamCtl p m => Sys2Proof.Machine.execStreamCtl p m s
  | .tickMark p m => Sys2Proof.Machine.execTickMark p m s
  | .timeSync p time off freq res => Sys2Proof.Machine.execTimeSync p time off freq res s
  | .timeMarker p m => Sys2Proof.Machine.execTimeMarker p m s
  | .join p m => Sys2Proof.Machine.execJoin p m s
  | .globalOp p m => Sys2Proof.Machine.execGlobalOp p m s
  | .contractPart p m plan => Sys2Proof.Machine.execContractPart p m plan s
  | .alarmSummary p ents => Sys2Proof.Machine.execAlarmSummary p ents s
  | .remoteSilent h => Sys2Proof.Machine.execRemoteSilent h s
  | .internalFault source cause slip info => Sys2Proof.Machine.execInternalFault source cause slip info s
  | .pairCompare primary n sigA sigB dropA dropB passA passB => Sys2Proof.Machine.execPairCompare primary n sigA sigB dropA dropB passA passB s
  | .pairResync primary => Sys2Proof.Machine.execPairResync primary s
  | .katRun source pass engine => Sys2Proof.Machine.execKatRun source pass engine s
  | .lockstepUnit source slip => Sys2Proof.Machine.execLockstepUnit source slip s
  | .clockMon oscillator => Sys2Proof.Machine.execClockMon oscillator s
  | .supplyMon r mv goodFell => Sys2Proof.Machine.execSupplyMon r mv goodFell s
  | .thermal tempC => Sys2Proof.Machine.execThermal tempC s
  | .safeInReq a b => Sys2Proof.Machine.execSafeInReq a b s
  | .safeInDisagree a b => Sys2Proof.Machine.execSafeInDisagree a b s
  | .safeInRelease a b => Sys2Proof.Machine.execSafeInRelease a b s
  | .faultPin a b => Sys2Proof.Machine.execFaultPin a b s
  | .outputContention n => Sys2Proof.Machine.execOutputContention n s
  | .deviceResetSequence active retired pass => Sys2Proof.Machine.execDeviceResetSequence active retired pass s
  | .domainIdle d idleUs wakeUs => Sys2Proof.Machine.execDomainIdle d idleUs wakeUs s
  | .brew ns => Sys2Proof.Machine.execBrew ns s
  | .timerWake tick doms => Sys2Proof.Machine.execTimerWake tick doms s
  | .limiterWindow total clusters => Sys2Proof.Machine.execLimiterWindow total clusters s
  | .governorWindow slip => Sys2Proof.Machine.execGovernorWindow slip s
  | .crystalCheck ppm running timeOk => Sys2Proof.Machine.execCrystalCheck ppm running timeOk s
  | .powerUp straps => Sys2Proof.Machine.execPowerUp straps s
  | .vddAonLoss cut => Sys2Proof.Machine.execVddAonLoss cut s
  | .hostBootImage img => Sys2Proof.Machine.execHostBootImage img s
  | .alarmRecordEgress ix => Sys2Proof.Machine.execAlarmRecordEgress ix s
  | .trigOut n k fall => Sys2Proof.Machine.execTrigOut n k fall s
  | .syncOut fall => Sys2Proof.Machine.execSyncOut fall s
  | .ibi ix addr t => Sys2Proof.Machine.execIbi ix addr t s
  | .hotJoin ix => Sys2Proof.Machine.execHotJoin ix s
  | .i3cStuck ix => Sys2Proof.Machine.execI3cStuck ix s
  | .dramEcsRead counts => Sys2Proof.Machine.execDramEcsRead counts s
  | .wck2dqRetraining c => Sys2Proof.Machine.execWck2dqRetraining c s
  | .pwrGood r active retired pass => Sys2Proof.Machine.execPwrGood r active retired pass s
  | .ulpsEntry n => Sys2Proof.Machine.execUlpsEntry n s
  | .vfEnable en num => Sys2Proof.Machine.execVfEnable en num s
  | .vectorUnmask fn v => Sys2Proof.Machine.execVectorUnmask fn v s
  | .ethLinkLoss e => Sys2Proof.Machine.execEthLinkLoss e s
  | .delayRequest e => Sys2Proof.Machine.execDelayRequest e s
  | .extest pins => Sys2Proof.Machine.execExtest pins s
  | .registerRead fn off width be => Sys2Proof.Machine.execRegisterRead fn off width be s
  | .siLock => Sys2Proof.Machine.execSiLock s
  | .tickBoundary => Sys2Proof.Machine.execTickBoundary s
  | .spineChannelClose => Sys2Proof.Machine.execSpineChannelClose s
  | .ptmRequest => Sys2Proof.Machine.execPtmRequest s
  | .auxTickEnd => Sys2Proof.Machine.execAuxTickEnd s
  | .pclReasmDrop => Sys2Proof.Machine.execPclReasmDrop s
  | .deadlineMiss => Sys2Proof.Machine.execDeadlineMiss s
  | .packedEntryClose => Sys2Proof.Machine.execPackedEntryClose s
  | .hotReset => Sys2Proof.Machine.execHotReset s
  | .d3hotEntry => Sys2Proof.Machine.execD3hotEntry s
  | .unexpectedCompletion => Sys2Proof.Machine.execUnexpectedCompletion s
  | .doeAbort => Sys2Proof.Machine.execDoeAbort s
  | .granuleClear => Sys2Proof.Machine.execGranuleClear s
  | .drbgReseed => Sys2Proof.Machine.execDrbgReseed s
  | .trngFail => Sys2Proof.Machine.execTrngFail s
  | .nonceExpiry => Sys2Proof.Machine.execNonceExpiry s
  | .heartbeatMissed => Sys2Proof.Machine.execHeartbeatMissed s
  | .barrierRelease => Sys2Proof.Machine.execBarrierRelease s
  | .releaseFail => Sys2Proof.Machine.execReleaseFail s
  | .cpWatchdog => Sys2Proof.Machine.execCpWatchdog s
  | .cpRestart => Sys2Proof.Machine.execCpRestart s
  | .siWatchdog => Sys2Proof.Machine.execSiWatchdog s
  | .contentionRetry => Sys2Proof.Machine.execContentionRetry s
  | .siAutoReset => Sys2Proof.Machine.execSiAutoReset s
  | .warmerOnlyEntry => Sys2Proof.Machine.execWarmerOnlyEntry s
  | .wakeIn => Sys2Proof.Machine.execWakeIn s
  | .railTimeout => Sys2Proof.Machine.execRailTimeout s
  | .l12Exit => Sys2Proof.Machine.execL12Exit s
  | .snapshotTick => Sys2Proof.Machine.execSnapshotTick s
  | .logEgress => Sys2Proof.Machine.execLogEgress s
  | .siLockstep => Sys2Proof.Machine.execSiLockstep s
  | .timeOscillatorReturn => Sys2Proof.Machine.execTimeOscillatorReturn s

end Sys2Proof.Machine
end

