-- ==== Sys2Proof/Laws/PerInstr.lean ====
section
/-! SUPPORT. No family of statements is made per instruction here (LAWS.json lists none). -/
end

