-- ==== Sys2Proof/Safety.lean ====
section
/-! DEFINITION. The terms in which claims are stated: safe runs, the canonical form of the state's maps, the law of time, and what a
command that starts, and one that is answered, leave. -/
namespace Sys2Proof.Machine

/-! ## Runs -/

/-- A step from here stops neither with a fault nor with a refusal. -/
def State.goesOn (s : State) : Prop := ∃ t, Sys2Proof.Machine.step s = .next t

/-- n steps from here never stop. -/
def State.safeFor : Nat → State → Prop
  | 0, _ => True
  | n + 1, s => ∃ t, Sys2Proof.Machine.step s = .next t ∧ State.safeFor n t

/-! ## Invariants -/

/-- Every map of the state is in its canonical form: keys strictly rising, no entry equal to what an unlisted key reads as. -/
def State.canonical (s : State) : Bool :=
  SMap.wf none s.regs && SMap.wf 0 s.ctrs && SMap.wf 0 s.shadow && SMap.wf none s.stageBuf && SMap.wf none s.latch &&
  SMap.wf {} s.fns && SMap.wf {} s.qps && SMap.wf {} s.vecs && SMap.wf {} s.slips && SMap.wf {} s.keys && SMap.wf .dirty s.granules &&
  SMap.wf {} s.hops && SMap.wf {} s.sfms && SMap.wf {} s.quires && SMap.wf {} s.arbs && SMap.wf {} s.graphs && SMap.wf {} s.contracts &&
  SMap.wf {} s.sps && SMap.wf {} s.streams && SMap.wf [] s.uchans && SMap.wf 0 s.dram

/-- SYSTIME is that of its tick: B_K + (TICK_COUNT − K) · TICK_LEN (R40). -/
def Tim.law (m : Tim) : Prop := m.kTick ≤ m.tick ∧ m.systime = m.bK + (m.tick - m.kTick) * (250 * m.tickQ)

/-! ## Commands that start and commands that are answered -/

/-- The command's packet may start now (R355), without AT_TICK, and names an object it may act on; `f` is the packet and `b` the state
after the Brew it starts (R518). -/
def State.Starts (s : State) (h : CmdRef) (opc : Nat) (c : Instr) (f : Fetched) (b : State) : Prop :=
  s.startable h opc = some f ∧ f.atEn = false ∧ b = s.brewFor f c ∧ b.objErr opc h.fn.toNat f.objId.toNat = none

/-- The completion entry of a command (Table 13.4). -/
def State.cpl (s : State) (f : Fetched) (status detail : Nat) (r : BitVec 128) : Cpl :=
  { tag := f.tag, status := status, detail := detail, tick := BitVec.ofNat 32 s.tim.tick, sqHead := f.sqHead, fast := f.opc.getLsbD 15,
    irqNow := f.irqNow, result := r }

/-- t is s but for what the CMD_COMPLETE trace point writes (R509, R510): the ring and its dropped run, the trace counters, and the
DROPPED bit of OBS_ERR. -/
def State.Traced (s t : State) : Prop :=
  t = { s with regs := t.regs, ctrs := t.ctrs, obs := { s.obs with ring := t.obs.ring, runTrace := t.obs.runTrace, seqs := t.obs.seqs } } ∧
  (∀ k, k ≠ obsB + 4 → t.reg k = s.reg k) ∧ (∀ k, k ≠ obsB + 0x120 → k ≠ obsB + 0x128 → t.ctr k = s.ctr k)

/-- t is u with the command h answered: its packet has left the fetched commands of its queue, a completion with this status, detail and
result waits to be written behind the others (R352), nothing else but the trace has changed. -/
def State.Answered (u t : State) (h : CmdRef) (status detail : Nat) (r : BitVec 128) : Prop :=
  ∃ f, u.fetchedOf h = some f ∧
    State.Traced (u.modQp h.key (fun q => { q with fetched := dropTag h.tag q.fetched, done := q.done ++ [u.cpl f status detail r] })) t

/-! ## Command rows -/

/-- The packet and the opcode of a command row (Tables 14.3 to 14.11); the other rows are events of the block. -/
def packetOf : Instr → Option (CmdRef × Nat)
  | .nop h => some (h, 0x8000)
  | .queueQuery h _ => some (h, 0x8001)
  | .identify h => some (h, 1)
  | .qpCreate h _ => some (h, 2)
  | .qpDelete h _ => some (h, 3)
  | .functionReset h _ => some (h, 4)
  | .deviceReset h _ => some (h, 5)
  | .partitionCreate h _ => some (h, 0x0101)
  | .partitionResize h _ _ _ => some (h, 0x0102)
  | .partitionHandover h _ _ => some (h, 0x0103)
  | .partitionDestroy h => some (h, 0x0104)
  | .partitionReset h => some (h, 0x0105)
  | .vfAssign h _ _ => some (h, 0x0106)
  | .ruleUpdate h _ _ _ _ => some (h, 0x0107)
  | .modeSet h _ => some (h, 0x0108)
  | .partitionQuery h => some (h, 0x8101)
  | .graphLoad h _ _ _ => some (h, 0x0201)
  | .graphUnload h => some (h, 0x0202)
  | .graphStart h => some (h, 0x0203)
  | .graphStop h => some (h, 0x0204)
  | .graphBind h _ _ => some (h, 0x0205)
  | .vframeRead h _ _ _ => some (h, 0x0206)
  | .readoutAt h => some (h, 0x0207)
  | .graphQuery h => some (h, 0x8201)
  | .contractAdmit h _ _ _ => some (h, 0x0301)
  | .contractRelease h _ => some (h, 0x0302)
  | .contractQuery h _ => some (h, 0x0303)
  | .contractPolicy h _ _ _ _ _ _ _ => some (h, 0x0304)
  | .portHotmaskLoad h _ _ _ => some (h, 0x0401)
  | .portHotmaskEdit h _ _ => some (h, 0x0402)
  | .portEvringBind h _ _ _ => some (h, 0x0403)
  | .timeSetTick h _ _ => some (h, 0x0501)
  | .timeAcceptJump h _ _ => some (h, 0x0502)
  | .timeQuery h => some (h, 0x8501)
  | .fusionSamplePut h _ _ _ _ _ => some (h, 0x0601)
  | .fusionXformSet h _ _ _ _ _ => some (h, 0x0602)
  | .trackClear h _ => some (h, 0x0603)
  | .spikeRouteSet h _ _ => some (h, 0x0701)
  | .spikeWeights h _ _ _ _ _ => some (h, 0x0702)
  | .spikeStateRead h _ _ _ _ => some (h, 0x0703)
  | .auxFetchSet h _ _ => some (h, 0x0801)
  | .auxChanSet h _ _ _ _ _ => some (h, 0x0802)
  | .auxChanEnable h _ _ => some (h, 0x0803)
  | .auxCoefLoad h _ _ _ _ _ => some (h, 0x0804)
  | .auxCoefSwap h _ _ => some (h, 0x0805)
  | .colophonGet h _ _ => some (h, 0x0901)
  | .spdmMessage h _ _ _ _ => some (h, 0x0902)
  | .keySlotGen h _ => some (h, 0x0903)
  | .keySlotErase h _ => some (h, 0x0904)
  | .fwStage h _ _ => some (h, 0x0905)
  | .fwCommit h => some (h, 0x0906)
  | .debugChallenge h _ => some (h, 0x0907)
  | .debugResponse h _ _ => some (h, 0x0908)
  | .lifecycleAdvance h _ _ _ => some (h, 0x0909)
  | .cuppingSchedule h _ => some (h, 0x0A01)
  | .snapshotRead h _ _ => some (h, 0x8A01)
  | .alarmRead h _ => some (h, 0x0A02)
  | .alarmAck h _ => some (h, 0x0A03)
  | .logConfig h _ _ _ _ _ => some (h, 0x0A04)
  | .safetyQuery h => some (h, 0x8B01)
  | .katIntervalSet h _ => some (h, 0x0B01)
  | .safeStateClear h => some (h, 0x0B02)
  | .outputRelease h _ => some (h, 0x0B03)
  | .faultInject h _ => some (h, 0x0B04)
  | .bindingJoin h _ _ => some (h, 0x0C01)
  | .streamOpen h _ _ _ _ _ _ _ => some (h, 0x0C02)
  | .streamClose h _ => some (h, 0x0C03)
  | .writeFence h _ _ => some (h, 0x0C04)
  | .barrier h _ => some (h, 0x0C05)
  | .broadcast h _ _ => some (h, 0x0C06)
  | .bindingReset h => some (h, 0x0C07)
  | .powerPolicy h _ => some (h, 0x0D01)
  | .governorSet h _ => some (h, 0x0D02)
  | .powerQuery h => some (h, 0x8D01)
  | _ => none

/-- The rows whose AT_TICK is the tick of an operation that starts at once (R465, R502, R192, R201, R239). -/
def opensAtTick : Instr → Bool
  | .vframeRead ..  | .readoutAt ..  | .contractAdmit ..  | .spikeStateRead ..  | .auxCoefSwap ..  | .cuppingSchedule ..  | .barrier ..  | .broadcast ..  | .bindingReset .. => true
  | _ => false

/-- A fusion source after a sample newer than those it retains (R287, R297): the four latest samples stay. -/
def FSrc.retained (x : FSrc) (n : FSample) (late : Bool) : FSrc :=
  { x with
    delivered := true, lateCnt := x.lateCnt + late.toNat,
    samples := (if x.samples.length < 4 then x.samples else x.samples.drop 1) ++ [{ n with late := late }] }

end Sys2Proof.Machine
end

