-- ==== Sys2Proof/Certificates/Slice0/Obligations.lean ====
section
/-! DEFINITION. The statements for the provers, from the rules of the spec; helper predicates are in Safety.lean. -/
open Sys2Proof Sys2Proof.Machine

/-- A step executes the command at the front of the queue (Design: log entry 4). For every state and every command at the front of the queue, a step answers what exec answers for that command on the state with the rest of the queue; with an empty queue it answers the same state (the model's own choice, log entry 4). -/
def Obligations.StepRunsFrontCommand : Prop :=
  (∀ (c : Instr) (rest : List Instr) (s : State),
    step { s with pending := c :: rest } = exec c { s with pending := rest }) ∧
  (∀ s : State, s.pending = [] → step s = .next s)

/-- A step takes exactly one command from the queue and adds none (Design: log entry 4). Whatever the command at the front does, if the step answers a next state, the queue of that state is exactly the rest of the queue: no meaning of any of the 276 rows drops, adds or reorders waiting commands. -/
def Obligations.StepConsumesOneCommand : Prop :=
  ∀ (c : Instr) (rest : List Instr) (s t : State), s.pending = c :: rest → step s = .next t → t.pending = rest

/-- Every step keeps registers, counters, units and memory in canonical form (R499, R397, R562). From every state whose maps (registers, counters and shadows, functions, queue pairs, vectors, slipcases, key slots, granules, ports, regions, quires, arbiters, graphs, contracts, Spine ports and streams, unit channels and DRAM) list strictly rising keys and no entry equal to what an unlisted key reads as, a step that answers a next state leaves them so: what a write leaves is what a read finds. -/
def Obligations.StepsKeepCanonicalMaps : Prop :=
  ∀ s t : State, s.canonical = true → step s = .next t → t.canonical = true

/-- Every step keeps SYSTIME the start of its tick (R40, R41, R56). From every state in which SYSTIME = B_K + (TICK_COUNT - K) · TICK_LEN with K not after the present tick, every step that answers a next state leaves SYSTIME so: no command, reset, change of TICK_LEN, accepted jump or join breaks the law of R40. SYSTIME moving only at tick boundaries is the model's choice (log entry 6). -/
def Obligations.StepsKeepTimeLaw : Prop :=
  ∀ s t : State, s.tim.law → step s = .next t → t.tim.law

/-- The state after reset meets both invariants (R40, R493, R528). At reset every map is in canonical form, the law of time holds, nothing waits in the queue, and SYSTIME and TICK_COUNT are 0 with TICK_Q 4; the point of power-up that reset stands for is the model's choice (log entry 1). -/
def Obligations.ResetMeetsInvariants : Prop :=
  State.reset.canonical = true ∧ State.reset.tim.law ∧ State.reset.pending = [] ∧
  State.reset.tim.systime = 0 ∧ State.reset.tim.tick = 0 ∧ State.reset.tim.tickQ = 4

/-- A command row whose packet may not start changes nothing (R354, R355, R492, R430). For each of the 74 command rows and every state: where the packet the row names has not been fetched with the row's opcode, does not wait, stands behind an earlier command with FENCE set on it, or is a firmware command behind an earlier unfinished one or while the CP is down, exec answers the same state. -/
def Obligations.CommandsWaitUntilTheyMayStart : Prop :=
  ∀ (c : Instr) (h : CmdRef) (opc : Nat) (s : State), packetOf c = some (h, opc) → s.startable h opc = none → exec c s = .next s

/-- A command on an unknown, foreign or fenced object completes with its status and has no effect (R375, R371, R352). For each command row that starts and whose OBJ_ID fails the object checks of R375 (a non-zero OBJ_ID where the row takes none, an object that does not exist or is of another slipcase for a VF, an object of a slipcase that is not ACTIVE but for PARTITION_QUERY, PARTITION_RESET and PARTITION_DESTROY), exec answers a next state in which the command is answered with that status and detail and nothing else has changed but the trace and the Brew. -/
def Obligations.CommandsOnWrongObjectsAreAnswered : Prop :=
  ∀ (c : Instr) (h : CmdRef) (opc : Nat) (f : Fetched) (i : OpInfo) (s : State) (st det : Nat), packetOf c = some (h, opc) →
    s.startable h opc = some f → opInfo opc 0 = some i →
    ((i.obj = .none ∧ f.objId ≠ 0 ∧ st = 0x102 ∧ det = 0xF025) ∨
     (i.obj ≠ .none ∧ s.objSlip i.obj f.objId.toNat = none ∧ st = 0x102 ∧ det = 0xF023) ∨
     (i.obj ≠ .none ∧ (∃ n, s.objSlip i.obj f.objId.toNat = some n ∧ h.fn ≠ 0 ∧ (s.fn h.fn.toNat).slip ≠ some n) ∧ st = 0x102 ∧ det = 0xF023) ∨
     (i.obj ≠ .none ∧ (∃ n, s.objSlip i.obj f.objId.toNat = some n ∧ (h.fn = 0 ∨ (s.fn h.fn.toNat).slip = some n) ∧ (s.slip n).state ≠ 1) ∧
       opc ≠ 0x8101 ∧ opc ≠ 0x0105 ∧ opc ≠ 0x0104 ∧ st = 0x301 ∧ det = 0)) →
    ∃ t, exec c s = .next t ∧ State.Answered (s.brewFor f c) t h st det 0

/-- An AT_TICK that is not 1 to 2^30 ticks ahead completes with BAD_PARAM and has no effect (R59, R43, R374). For each command row that starts with AT_TICK on a right object: where the signed 32-bit difference AT_TICK - ETS is 0, negative or above 2^30, the command is answered with BAD_PARAM, DETAIL 0xF022, and nothing else has changed but the trace and the Brew. -/
def Obligations.AtTickOutOfRangeIsRefused : Prop :=
  ∀ (c : Instr) (h : CmdRef) (opc : Nat) (f : Fetched) (s : State), packetOf c = some (h, opc) → s.startable h opc = some f →
    f.atEn = true → (s.brewFor f c).objErr opc h.fn.toNat f.objId.toNat = none →
    (etsDiff f.atTick.toNat s.ets ≤ 0 ∨ 2 ^ 30 < etsDiff f.atTick.toNat s.ets) →
    ∃ t, exec c s = .next t ∧ State.Answered (s.brewFor f c) t h 0x102 0xF022 0

/-- A command with AT_TICK that passes its checks is staged for that tick, and takes effect there (R355, R374, R48, R59). For each row that may be staged (TIME_SET_TICK and a binding root's TIME_ACCEPT_JUMP, which also tell the tree, apart), on a state where it starts with an AT_TICK d ticks ahead and its own checks pass: exec answers a next state in which its packet is staged, the command stands behind the other staged ones with the tick d ahead, and nothing else has changed but the Brew. The staged command of the earliest tick that has begun, in class-5 order, is the one STAGED_COMMAND_EFFECT takes: it leaves the staged ones and is answered with what its run gives on that state; where none has begun, nothing changes. -/
def Obligations.StagedCommandsWaitForTheirTick : Prop :=
  (∀ (c : Instr) (h : CmdRef) (opc d : Nat) (f : Fetched) (s b : State) (run : State → Fetched → Res),
    packetOf c = some (h, opc) → (∀ farBad, runStaged c farBad = some (opc, run)) → opensAtTick c = false →
    opc ≠ 0x0501 → (opc = 0x0502 → (s.bind.member && s.bind.isRoot) = false) →
    s.startable h opc = some f → b = s.brewFor f c → b.objErr opc h.fn.toNat f.objId.toNat = none → f.atEn = true →
    b.lead f.atTick = some d → (∀ st det r, (run b f).fin = some (st, det, r) → st = 0) →
    exec c s = .next (({ b with staged := b.staged ++ [{ ref := h, tick := b.tim.tick + d, obj := f.objId.toNat, cmd := c }] } : State).modQp h.key
      (fun q => { q with fetched := setPhase h.tag .staged b.tim.systime q.fetched }))) ∧
  (∀ (farBad : Bool) (s u : State) (x : Staged) (f : Fetched) (opc : Nat) (run : State → Fetched → Res) (r : BitVec 128),
    s.nextStaged = some x → runStaged x.cmd farBad = some (opc, run) → s.fetchedOf x.ref = some f →
    ({ s with staged := s.staged.erase x } : State).objErr opc x.ref.fn.toNat f.objId.toNat = none →
    run { s with staged := s.staged.erase x } f = .ok u r → u.fetchedOf x.ref = some f →
    ∃ t, exec (.stagedCommandEffect farBad) s = .next t ∧ State.Answered u t x.ref 0 0 r) ∧
  (∀ (farBad : Bool) (s : State), (∀ x ∈ s.staged, s.tim.tick < x.tick) → exec (.stagedCommandEffect farBad) s = .next s)

/-- The queue and device commands, and the partition commands that only query or set, complete with their results (R380, R346, R344, R381, R390, R341, R337, R140). On every state where the packet starts: NOP completes OK and changes nothing; QUEUE_QUERY of an existing queue returns its queue table entry; IDENTIFY returns function, slipcase (0xFF and ASSIGNED 0 without one), firmware version, device ID and lifecycle; QP_CREATE of a free queue whose fields keep Table 13.2 makes the queue pair of the descriptor with both indices 0 and PHASE 1, returns QP, and changes no other queue; QP_DELETE of an existing idle queue other than queue 0 and its own removes it (and the LOG queue's name where it was that); DEVICE_RESET with CONFIRM starts a device reset. Nothing else changes but the answer, the trace and the Brew. On every state where the packet starts: PARTITION_QUERY returns STATE, MODE, KEY_SLOT, N_QUIRES, OVF_KIB and RULE_EPOCH of its slipcase; VF_ASSIGN 1 of an existing VF without a slipcase gives it this one, VF_ASSIGN 0 of a VF of this unsealed slipcase takes it away; MODE_SET, with no PAIRED contract where it asks for ADAPTIVE, is staged for its AT_TICK and then sets the mode of the slipcase and of its quires. Nothing else changes but the answer, the trace and the Brew. -/
def Obligations.AdminAndPartitionSettingsComplete : Prop :=
  (∀ (h : CmdRef) (f : Fetched) (s b : State), s.Starts h 0x8000 (.nop h) f b →
    ∃ t, exec (.nop h) s = .next t ∧ State.Answered b t h 0 0 0) ∧
  (∀ (h : CmdRef) (q : BitVec 8) (f : Fetched) (s b : State), s.Starts h 0x8001 (.queueQuery h q) f b →
    (b.qp (h.fn.toNat * 256 + q.toNat)).valid = true →
    ∃ t, exec (.queueQuery h q) s = .next t ∧ State.Answered b t h 0 0 (BitVec.ofNat 128 (b.queueEntry (h.fn.toNat * 256 + q.toNat) % 2 ^ 64))) ∧
  (∀ (h : CmdRef) (f : Fetched) (s b : State), s.Starts h 1 (.identify h) f b →
    ∃ t, exec (.identify h) s = .next t ∧ State.Answered b t h 0 0 (result [(h.fn.toNat, 2), ((b.fnSlip h.fn.toNat).getD 0xFF, 1),
      (if (b.fnSlip h.fn.toNat).isSome then 1 else 0, 1), (b.sec.active.version.toNat, 4), (b.devId, 2), (b.sec.life, 1)])) ∧
  (∀ (h : CmdRef) (d : QpDesc) (f : Fetched) (s b : State), s.Starts h 2 (.qpCreate h d) f b → (b.qp h.key).valid = true →
    qpFieldsOk h.fn.toNat d = true → (d.kind = 7 → h.fn = 0) → (b.qp (h.fn.toNat * 256 + d.qp.toNat)).valid = false →
    (d.kind = 6 → b.eventQueue h.fn.toNat = none) →
    (d.kind = 2 → ∀ e ∈ b.graphs, e.2.bind = some (h.fn.toNat, d.qp.toNat) → (qpOf d).fits e.2.maxRec = true) →
    ∃ t, exec (.qpCreate h d) s = .next t ∧
      State.Answered (b.modQp (h.fn.toNat * 256 + d.qp.toNat) (fun _ =>
        { valid := true, kind := d.kind.toNat, vector := d.vector.toNat, sqLog2 := d.sqLog2.toNat, ringLog2 := d.ringLog2.toNat,
          entLog2 := d.entLog2.toNat, bufLog2 := d.bufLog2.toNat, sqBase := d.sqBase.toNat, ringBase := d.ringBase.toNat,
          bufBase := d.bufBase.toNat, bufCount := d.bufCount.toNat })) t h 0 0 (BitVec.ofNat 128 d.qp.toNat)) ∧
  (∀ (h : CmdRef) (q : BitVec 8) (f : Fetched) (s b : State), s.Starts h 3 (.qpDelete h q) f b →
    q ≠ 0 → q ≠ h.qp → (b.qp (h.fn.toNat * 256 + q.toNat)).valid = true → (b.qp (h.fn.toNat * 256 + q.toNat)).fetched = [] →
    (b.qp (h.fn.toNat * 256 + q.toNat)).done = [] →
    ∃ t, exec (.qpDelete h q) s = .next t ∧
      State.Answered {
        b with
        qps := SMap.put {} b.qps (h.fn.toNat * 256 + q.toNat) {}
        obs := { b.obs with logQ := if b.obs.logQ = some (h.fn.toNat, q.toNat) then none else b.obs.logQ } } t h 0 0 0) ∧
  (∀ (h : CmdRef) (f : Fetched) (s b : State), s.Starts h 5 (.deviceReset h 0x4C583952) f b →
    ∃ t, exec (.deviceReset h 0x4C583952) s = .next t ∧ State.Answered { b with resetDue := true } t h 0 0 0) ∧
  (∀ (h : CmdRef) (f : Fetched) (s b : State), s.Starts h 0x8101 (.partitionQuery h) f b →
    ∃ t, exec (.partitionQuery h) s = .next t ∧ State.Answered b t h 0 0 (result [((b.slip f.objId.toNat).state, 1),
      (if (b.slip f.objId.toNat).adaptive then 1 else 0, 1), ((b.slip f.objId.toNat).keySlot, 2), ((b.slip f.objId.toNat).quires.length, 1), (0, 3),
      ((b.slip f.objId.toNat).ovfKib, 4), ((b.slip f.objId.toNat).epoch, 4)])) ∧
  (∀ (h : CmdRef) (func : BitVec 16) (f : Fetched) (s b : State), s.Starts h 0x0106 (.vfAssign h func 1) f b →
    func ≠ 0 → func.toNat < 4096 → (b.fn func.toNat).exist = true → (b.fn func.toNat).slip = none →
    ∃ t, exec (.vfAssign h func 1) s = .next t ∧
      State.Answered (b.modFn func.toNat (fun x => { x with slip := some f.objId.toNat })) t h 0 0 0) ∧
  (∀ (h : CmdRef) (func : BitVec 16) (f : Fetched) (s b : State), s.Starts h 0x0106 (.vfAssign h func 0) f b →
    func ≠ 0 → func.toNat < 4096 → (b.fn func.toNat).exist = true → (b.fn func.toNat).slip = some f.objId.toNat → b.sealed f.objId.toNat = false →
    ∃ t, exec (.vfAssign h func 0) s = .next t ∧ State.Answered (b.modFn func.toNat (fun x => { x with slip := none })) t h 0 0 0) ∧
  (∀ (h : CmdRef) (mode : BitVec 8) (f : Fetched) (d : Nat) (s b : State), s.startable h 0x0108 = some f → b = s.brewFor f (.modeSet h mode) →
    b.objErr 0x0108 h.fn.toNat f.objId.toNat = none → f.atEn = true → b.lead f.atTick = some d → mode.toNat ≤ 1 → b.sealed f.objId.toNat = false →
    (mode = 1 → ∀ e ∈ b.contracts, e.2.exist = true → e.2.paired = true → (b.graph e.2.graph).slip ≠ f.objId.toNat) →
    ∃ t, exec (.modeSet h mode) s = .next t ∧ t = { b with staged := b.staged ++ [{ ref := h, tick := b.tim.tick + d, obj := f.objId.toNat, cmd := .modeSet h mode }], qps := t.qps }) ∧
  (∀ (h : CmdRef) (mode : BitVec 8) (bad : Bool) (x : Staged) (f : Fetched) (n : Nat) (s b : State), s.canonical = true → s.nextStaged = some x → x.cmd = .modeSet h mode →
    s.fetchedOf x.ref = some f → n = f.objId.toNat → b = { s with staged := s.staged.erase x } → b.objErr 0x0108 x.ref.fn.toNat n = none → mode.toNat ≤ 1 → b.sealed n = false →
    (mode = 1 → ∀ e ∈ b.contracts, e.2.exist = true → e.2.paired = true → (b.graph e.2.graph).slip ≠ n) →
    ∃ (u t : State), exec (.stagedCommandEffect bad) s = .next t ∧ State.Answered u t x.ref 0 0 0 ∧ u = { b with slips := u.slips, quires := u.quires } ∧
      u.slip n = { b.slip n with adaptive := decide (mode = 1) } ∧ (∀ k, k ≠ n → u.slip k = b.slip k) ∧
      (∀ q, q ∈ (b.slip n).quires → (u.quire q).adaptive = decide (mode = 1)) ∧ (∀ q, q ∉ (b.slip n).quires → u.quire q = b.quire q))

/-- PARTITION_CREATE makes an ACTIVE slipcase of the resources asked for (R391, R392, R381, Table 14.4). On every state in canonical form where the packet starts, the body keeps the ranges of Table 14.4, the slipcase number is free, the windows are well formed, apart and over granules that are free or the key slot's, the quires are there, the ports are whole pairs held by no other slipcase and lie in the regions mask, the key slot is not in service, and enough free granules are left for the overflow buffer: the command is answered OK with the map of the quires given, and the slipcase is ACTIVE with this mode, key slot, ports, regions, sizes and windows and RULE_EPOCH 1; its quires belong to it, its key slot is in service for it; and only the units named change. -/
def Obligations.PartitionCreateGivesResources : Prop :=
  ∀ (h : CmdRef) (x : PartBody) (f : Fetched) (s b : State) (qs : List Nat), s.canonical = true → s.Starts h 0x0101 (.partitionCreate h x) f b →
    x.slipcase.toNat < 64 → x.mode.toNat < 2 → x.keySlot.toNat < 4096 → 1 ≤ x.nQuires.toNat → x.nQuires.toNat ≤ 64 → 1 ≤ x.wins.length →
    x.wins.length ≤ 16 → x.ovfKib.toNat % 2048 = 0 → 2048 ≤ x.ovfKib.toNat → x.ovfKib.toNat ≤ 1048576 →
    (b.slip x.slipcase.toNat).state = 0 → (∀ w ∈ PartBody.windows x, b.winOk w = true) → winsApart (PartBody.windows x) = true →
    (∀ g ∈ (PartBody.windows x).flatMap Win.grans, b.gran g = .free ∨ b.gran g = .owned x.keySlot.toNat) →
    b.pickQuires x.slipcase.toNat x.nQuires.toNat = some qs → b.pairsWhole x.hoppers = true →
    (∀ p, p < 16 → x.hoppers.getLsbD p = true → b.portTaken x.slipcase.toNat p = false ∧ x.regions.getLsbD p = true) →
    (b.key x.keySlot.toNat).state ≠ 2 →
    x.ovfKib.toNat / 2048 ≤ (b.freeGrans.filter (fun g => !((PartBody.windows x).flatMap Win.grans).contains g)).length →
    ∃ u t, exec (.partitionCreate h x) s = .next t ∧ State.Answered u t h 0 0 (BitVec.ofNat 128 (maskOf qs % 2 ^ 72)) ∧
      u = { b with granules := u.granules, keys := u.keys, slips := u.slips, quires := u.quires, regs := u.regs } ∧
      (∃ ovg, ovg.length = x.ovfKib.toNat / 2048 ∧ u.slip x.slipcase.toNat =
        { state := 1, adaptive := decide (x.mode = 1), keySlot := x.keySlot.toNat, quires := qs, hoppers := x.hoppers, regions := x.regions,
          ovfKib := x.ovfKib.toNat, powerMw := x.powerMw.toNat, epoch := 1, rules := PartBody.windows x, ovfGran := ovg } ∧
        ∀ g ∈ ovg, u.gran g = .owned x.keySlot.toNat) ∧
      (∀ n, n ≠ x.slipcase.toNat → u.slip n = b.slip n) ∧
      u.key x.keySlot.toNat = { b.key x.keySlot.toNat with state := 2, slip := x.slipcase.toNat } ∧
      (∀ g ∈ (PartBody.windows x).flatMap Win.grans, u.gran g = .owned x.keySlot.toNat) ∧
      (∀ q ∈ qs, (u.quire q).slip = some x.slipcase.toNat) ∧ (∀ q, q ∉ qs → u.quire q = b.quire q)

/-- RULE_UPDATE and PARTITION_RESIZE put the new table and epoch in force and wait; RULE_DRAIN completes them (R394, R400, R403, R404). On every state in canonical form where the packet starts and nothing drains: RULE_UPDATE with a good table on an unsealed slipcase puts its windows in force with the next RULE_EPOCH, counts the update, and stands running with the epoch in the result it will give (without URGENT_REVOKE nothing is cancelled); PARTITION_RESIZE to 1 to 64 quires, where quires can be found or freed and ports and regions fit, gives the slipcase its new quires, ports and regions and the next RULE_EPOCH and waits in the same way. RULE_DRAIN changes nothing while an older request is in flight, and once none is, the waiting command is answered OK with that result and the drain is over. -/
def Obligations.RuleChangesDrainThenComplete : Prop :=
  (∀ (h : CmdRef) (flags : BitVec 8) (sgl : Sgl) (tbl : RuleTbl) (cs : List (Nat × Nat × Nat × Nat)) (f : Fetched) (s b : State),
    s.canonical = true → s.Starts h 0x0107 (.ruleUpdate h flags sgl tbl cs) f b → flags = 0 → b.sealed f.objId.toNat = false →
    (b.slip f.objId.toNat).drain = none → sglErr sgl (16 + 32 * tbl.nWin.toNat) = none → b.rulesOk f.objId.toNat tbl = true →
    ∃ t, exec (.ruleUpdate h flags sgl tbl cs) s = .next t ∧
      t = { b with slips := t.slips, granules := t.granules, qps := t.qps, ctrs := t.ctrs } ∧
      t.slip f.objId.toNat = {
        b.slip f.objId.toNat with
        rules := RuleTbl.windows tbl
        epoch := ((b.slip f.objId.toNat).epoch + 1) % 2 ^ 32
        drain := some { ref := h, res := result [(((b.slip f.objId.toNat).epoch + 1) % 2 ^ 32, 4), (0, 4)] } } ∧
      (∀ n, n ≠ f.objId.toNat → t.slip n = b.slip n) ∧ t.ctr (mcB + 0x3000) = b.ctr (mcB + 0x3000) + 1 ∧
      (∀ k, k ≠ mcB + 0x3000 → t.ctr k = b.ctr k) ∧ (∀ k, k ≠ h.key → t.qp k = b.qp k) ∧
      (∀ g ∈ (RuleTbl.windows tbl).flatMap Win.grans, t.gran g = .owned (b.slip f.objId.toNat).keySlot) ∧
      (∀ g, g ∉ (RuleTbl.windows tbl).flatMap Win.grans → t.gran g = b.gran g)) ∧
  (∀ (h : CmdRef) (n : BitVec 8) (hoppers regions : BitVec 16) (f : Fetched) (s b v : State) (qs : List Nat),
    s.canonical = true → s.Starts h 0x0102 (.partitionResize h n hoppers regions) f b → b.sealed f.objId.toNat = false →
    (b.slip f.objId.toNat).drain = none → 1 ≤ n.toNat → n.toNat ≤ 64 →
    (∀ p, p < 16 → (b.slip f.objId.toNat).hoppers.getLsbD p = true → hoppers.getLsbD p = false →
      p ∉ b.usedPorts f.objId.toNat true ∧ p ∉ b.usedPorts f.objId.toNat false) →
    b.pairsWhole hoppers = true →
    (∀ p, p < 16 → hoppers.getLsbD p = true → b.portTaken f.objId.toNat p = false ∧ regions.getLsbD p = true) →
    b.resizeQuires f.objId.toNat n.toNat = .ok (qs, v) →
    ∃ t, exec (.partitionResize h n hoppers regions) s = .next t ∧
      (t.slip f.objId.toNat).quires = qs ∧ (t.slip f.objId.toNat).hoppers = hoppers ∧ (t.slip f.objId.toNat).regions = regions ∧
      (t.slip f.objId.toNat).state = (b.slip f.objId.toNat).state ∧
      (t.slip f.objId.toNat).epoch = ((b.slip f.objId.toNat).epoch + 1) % 2 ^ 32 ∧
      (t.slip f.objId.toNat).drain = some { ref := h, res := BitVec.ofNat 128 (maskOf qs % 2 ^ 72) } ∧
      t.graphs = b.graphs ∧ t.contracts = b.contracts ∧ t.granules = b.granules ∧ t.dram = b.dram ∧ t.keys = b.keys ∧ t.tim = b.tim ∧
      (∀ k, k ≠ h.key → t.qp k = b.qp k)) ∧
  (∀ (slip : BitVec 6) (s : State) (d : Drain) (f : Fetched), (s.slip slip.toNat).drain = some d → s.oldFlights slip.toNat = 0 →
    s.fetchedOf d.ref = some f →
    ∃ t, exec (.ruleDrain slip) s = .next t ∧ State.Answered (s.modSlip slip.toNat (fun p => { p with drain := none })) t d.ref 0 0 d.res) ∧
  (∀ (slip : BitVec 6) (s : State), ((s.slip slip.toNat).drain = none ∨ s.oldFlights slip.toNat ≠ 0) → exec (.ruleDrain slip) s = .next s)

/-- PARTITION_HANDOVER, PARTITION_DESTROY and PARTITION_RESET scrub the slipcase and leave it ACTIVE under its new key slot, gone, or ACTIVE again (R395, R398, R406, R407, R408). On every state in canonical form where the packet starts: with no graph of the slipcase loaded and a parked key slot, PARTITION_HANDOVER leaves the slipcase ACTIVE on that slot, the slot in service for it with its rules, and the slot it leaves parked with the slipcase's rules; PARTITION_DESTROY leaves the slipcase free, its VFs without one, its quires unassigned and its key slot parked; PARTITION_RESET leaves it ACTIVE with no record held and no graph of it. Each counts once, and time and the other slipcases' states stay. -/
def Obligations.SlipcasesEndAndChangeHands : Prop :=
  (∀ (h : CmdRef) (slot : BitVec 16) (us : BitVec 32) (f : Fetched) (s b : State),
    s.canonical = true → s.Starts h 0x0103 (.partitionHandover h slot us) f b → (b.slip f.objId.toNat).drain = none →
    b.hasGraph f.objId.toNat = false → slot.toNat < 4096 → (b.key slot.toNat).state = 1 → (b.slip f.objId.toNat).keySlot ≠ slot.toNat →
    ∃ t, exec (.partitionHandover h slot us) s = .next t ∧ (t.slip f.objId.toNat).state = 1 ∧ (t.slip f.objId.toNat).keySlot = slot.toNat ∧
      (t.slip f.objId.toNat).rules = (b.key slot.toNat).rules ∧ (t.slip f.objId.toNat).quires = (b.slip f.objId.toNat).quires ∧
      (t.key slot.toNat).state = 2 ∧ (t.key slot.toNat).slip = f.objId.toNat ∧
      (t.key (b.slip f.objId.toNat).keySlot).state = 1 ∧ (t.key (b.slip f.objId.toNat).keySlot).rules = (b.slip f.objId.toNat).rules ∧
      (∀ n, n ≠ f.objId.toNat → (t.slip n).state = (b.slip n).state) ∧ t.tim = b.tim) ∧
  (∀ (h : CmdRef) (f : Fetched) (s b : State),
    s.canonical = true → s.Starts h 0x0104 (.partitionDestroy h) f b → (b.slip f.objId.toNat).state < 3 → b.hasGraph f.objId.toNat = false →
    ∃ t, exec (.partitionDestroy h) s = .next t ∧ t.slip f.objId.toNat = {} ∧ (t.key (b.slip f.objId.toNat).keySlot).state = 1 ∧
      (∀ q ∈ (b.slip f.objId.toNat).quires, (t.quire q).slip = none) ∧ (∀ v, (t.fn v).slip ≠ some f.objId.toNat) ∧
      (∀ n, n ≠ f.objId.toNat → (t.slip n).state = (b.slip n).state) ∧ t.tim = b.tim) ∧
  (∀ (h : CmdRef) (f : Fetched) (s b : State),
    s.canonical = true → s.Starts h 0x0105 (.partitionReset h) f b → (b.slip f.objId.toNat).state < 3 →
    ∃ t, exec (.partitionReset h) s = .next t ∧ (t.slip f.objId.toNat).state = 1 ∧ (t.slip f.objId.toNat).ovf = [] ∧
      (t.slip f.objId.toNat).quires = (b.slip f.objId.toNat).quires ∧ (t.slip f.objId.toNat).keySlot = (b.slip f.objId.toNat).keySlot ∧
      t.hasGraph f.objId.toNat = false ∧ t.tim = b.tim)

/-- The background clear makes a dirty granule CLEARING with its bytes gone, then FREE (R397, R399). In every state in canonical form: where a granule is CLEARING, GRANULE_CLEAR makes the first such one FREE and counts it, changing nothing else; where none is and one below the service area is DIRTY, the lowest becomes CLEARING, every byte of it reads as cleared, every other byte of DRAM and every other granule stays, and nothing else changes; where neither, nothing changes. -/
def Obligations.GranulesAreClearedBeforeUse : Prop :=
  (∀ (s : State) (e : Nat × Granule), s.canonical = true → s.granules.find? (fun e => decide (e.2 = .clearing)) = some e →
    ∃ t, exec .granuleClear s = .next t ∧ t = { s with granules := t.granules, ctrs := t.ctrs } ∧ t.gran e.1 = .free ∧
      (∀ g, g ≠ e.1 → t.gran g = s.gran g) ∧ t.ctr (mcB + 0x3018) = s.ctr (mcB + 0x3018) + 1) ∧
  (∀ (s : State) (k : Nat), s.canonical = true → (∀ g, s.gran g ≠ .clearing) → k < s.svcGran → s.gran k = .dirty → (∀ j, j < k → s.gran j ≠ .dirty) →
    ∃ t, exec .granuleClear s = .next t ∧ t = { s with granules := t.granules, dram := t.dram } ∧ t.gran k = .clearing ∧
      (∀ g, g ≠ k → t.gran g = s.gran g) ∧
      (∀ a, SMap.get 0 t.dram a = if a / granBytes = k then 0 else SMap.get 0 s.dram a)) ∧
  (∀ s : State, s.canonical = true → (∀ g, s.gran g ≠ .clearing) → (∀ j, j < s.svcGran → s.gran j ≠ .dirty) → exec .granuleClear s = .next s)

/-- SQ_TAIL and HEAD move an index within what their ring allows, and are refused with their cause otherwise (R348, R349, R361, R365). On every state in canonical form, for a function that exists, is not resetting and whose slipcase is ACTIVE, and an existing queue: an SQ_TAIL of a CMD queue within the ring that passes no more slots than are free becomes its tail; a HEAD within the ring that passes no entry not yet written becomes the host's index and frees the entries passed. Nothing else changes but the Brew and staged data. A value outside the ring (DB_RANGE, 2), one that overruns it (DB_OVERRUN, 3), a queue that does not exist (NO_QUEUE, 1), a fenced slipcase (FENCED, 4) and a resetting function (RESETTING, 5) leave every queue's indices as they were, count in PW_REFUSED and store the cause. -/
def Obligations.DoorbellsMoveTheirIndices : Prop :=
  (∀ (fn : BitVec 12) (q : BitVec 8) (v : BitVec 32) (s : State), s.canonical = true → (fn ≠ 0 → (s.fn fn.toNat).exist = true) →
    (s.fn fn.toNat).resetting = false → s.fnFenced fn.toNat = false → (s.qp (fn.toNat * 256 + q.toNat)).valid = true →
    (s.qp (fn.toNat * 256 + q.toNat)).kind = 1 → v.toNat % 2 ^ 16 < 2 ^ (s.qp (fn.toNat * 256 + q.toNat)).sqLog2 →
    (v.toNat % 2 ^ 16 + 2 ^ (s.qp (fn.toNat * 256 + q.toNat)).sqLog2 - (s.qp (fn.toNat * 256 + q.toNat)).tail) % 2 ^ (s.qp (fn.toNat * 256 + q.toNat)).sqLog2 ≤
      ((s.qp (fn.toNat * 256 + q.toNat)).head + 2 ^ (s.qp (fn.toNat * 256 + q.toNat)).sqLog2 - (s.qp (fn.toNat * 256 + q.toNat)).tail - 1) %
        2 ^ (s.qp (fn.toNat * 256 + q.toNat)).sqLog2 →
    ∃ t, exec (.sqTail fn q v) s = .next t ∧
      t = { s with qps := t.qps, pwr := t.pwr, quires := t.quires, regs := t.regs, ctrs := t.ctrs, obs := t.obs, stageBuf := t.stageBuf } ∧
      t.qp (fn.toNat * 256 + q.toNat) = { s.qp (fn.toNat * 256 + q.toNat) with tail := v.toNat % 2 ^ 16 } ∧
      (∀ k, k ≠ fn.toNat * 256 + q.toNat → t.qp k = s.qp k)) ∧
  (∀ (fn : BitVec 12) (q : BitVec 8) (v : BitVec 32) (s : State), s.canonical = true → (fn ≠ 0 → (s.fn fn.toNat).exist = true) →
    (s.fn fn.toNat).resetting = false → s.fnFenced fn.toNat = false → (s.qp (fn.toNat * 256 + q.toNat)).valid = true →
    v.toNat % 2 ^ 16 < (s.qp (fn.toNat * 256 + q.toNat)).size →
    (v.toNat % 2 ^ 16 + (s.qp (fn.toNat * 256 + q.toNat)).size - (s.qp (fn.toNat * 256 + q.toNat)).hhead) % (s.qp (fn.toNat * 256 + q.toNat)).size ≤
      (s.qp (fn.toNat * 256 + q.toNat)).used →
    ∃ t, exec (.head fn q v) s = .next t ∧
      t = { s with qps := t.qps, pwr := t.pwr, quires := t.quires, regs := t.regs, ctrs := t.ctrs, obs := t.obs, stageBuf := t.stageBuf } ∧
      t.qp (fn.toNat * 256 + q.toNat) = {
        s.qp (fn.toNat * 256 + q.toNat) with
        hhead := v.toNat % 2 ^ 16
        entBufs := (s.qp (fn.toNat * 256 + q.toNat)).entBufs.drop ((v.toNat % 2 ^ 16 + (s.qp (fn.toNat * 256 + q.toNat)).size -
          (s.qp (fn.toNat * 256 + q.toNat)).hhead) % (s.qp (fn.toNat * 256 + q.toNat)).size) } ∧
      (∀ k, k ≠ fn.toNat * 256 + q.toNat → t.qp k = s.qp k)) ∧
  (∀ (fn : BitVec 12) (q : BitVec 8) (v : BitVec 32) (s : State) (cause : Nat), s.canonical = true → (fn ≠ 0 → (s.fn fn.toNat).exist = true) →
    (((s.fn fn.toNat).resetting = true ∧ cause = 5) ∨
     ((s.fn fn.toNat).resetting = false ∧ s.fnFenced fn.toNat = true ∧ cause = 4) ∨
     ((s.fn fn.toNat).resetting = false ∧ s.fnFenced fn.toNat = false ∧ (s.qp (fn.toNat * 256 + q.toNat)).valid = false ∧ cause = 1) ∨
     ((s.fn fn.toNat).resetting = false ∧ s.fnFenced fn.toNat = false ∧ (s.qp (fn.toNat * 256 + q.toNat)).valid = true ∧
       (s.qp (fn.toNat * 256 + q.toNat)).kind = 1 ∧ 2 ^ (s.qp (fn.toNat * 256 + q.toNat)).sqLog2 ≤ v.toNat % 2 ^ 16 ∧ cause = 2)) →
    ∃ t, exec (.sqTail fn q v) s = .next t ∧ t.ctr (fnB fn.toNat + 0x210) = s.ctr (fnB fn.toNat + 0x210) + 1 ∧
      ((t.reg (fnB fn.toNat + 0x28)).toNat >>> 40) % 256 = cause ∧
      (∀ k, (t.qp k).tail = (s.qp k).tail ∧ (t.qp k).head = (s.qp k).head ∧ (t.qp k).hhead = (s.qp k).hhead))

/-- The queue whose turn it is has its head packet fetched, checked and left waiting (R350, R353, R354, R355, R373). For the queue whose turn fetch is, with a readable packet of 1 to 64 slots covered by the tail that need not wait: the head moves past its slots modulo the ring, the turn is recorded, the command counts (FAST or CMDS); a packet that passes the header checks joins the fetched commands of its queue as waiting, with its fields, and one that fails them is completed with its status; no other queue changes. A packet longer than the tail covers waits without moving the head; LEN 0 or above 64 completes with BAD_LENGTH and moves the head to the tail. Where it is not the queue's turn, or a retry is not due, nothing changes. A retry that succeeds ends the run of failures. -/
def Obligations.PacketsAreFetchedInTurn : Prop :=
  (∀ (fn : BitVec 12) (q : BitVec 8) (p : Packet) (s : State), s.canonical = true → s.fetchTurn = some (fn.toNat * 256 + q.toNat) →
    1 ≤ p.len.toNat → p.len.toNat ≤ 64 →
    p.len.toNat ≤ ((s.qp (fn.toNat * 256 + q.toNat)).tail + 2 ^ (s.qp (fn.toNat * 256 + q.toNat)).sqLog2 - (s.qp (fn.toNat * 256 + q.toNat)).head) %
      2 ^ (s.qp (fn.toNat * 256 + q.toNat)).sqLog2 →
    (p.opc = 0x0901 → s.colFull = false) → (p.opc.getLsbD 15 = false → p.opc ≠ 0x0901 → s.fwWaits = false) →
    ∃ t, exec (.packetFetch fn q p true) s = .next t ∧
      t = { s with qps := t.qps, fns := t.fns, fetchPf := t.fetchPf, fetchFn := t.fetchFn, ctrs := t.ctrs, regs := t.regs, obs := t.obs } ∧
      (t.qp (fn.toNat * 256 + q.toNat)).head = ((s.qp (fn.toNat * 256 + q.toNat)).head + p.len.toNat) % 2 ^ (s.qp (fn.toNat * 256 + q.toNat)).sqLog2 ∧
      t.fetchPf = decide (fn = 0) ∧ (t.fn fn.toNat).lastQp = q.toNat ∧
      t.ctr (fnB fn.toNat + (if p.opc.getLsbD 15 then 0x208 else 0x200)) = s.ctr (fnB fn.toNat + (if p.opc.getLsbD 15 then 0x208 else 0x200)) + 1 ∧
      (match s.packetErr fn.toNat p with
       | none => (t.qp (fn.toNat * 256 + q.toNat)).done = (s.qp (fn.toNat * 256 + q.toNat)).done ∧
          (t.qp (fn.toNat * 256 + q.toNat)).fetched = (s.qp (fn.toNat * 256 + q.toNat)).fetched ++
            [{ opc := p.opc, fence := p.flags.getLsbD 1, irqNow := p.flags.getLsbD 2, atEn := p.flags.getLsbD 0, tag := p.tag, objId := p.objId,
               atTick := p.atTick, sqHead := (t.qp (fn.toNat * 256 + q.toNat)).head, phase := .waiting }]
       | some (st, det) => (t.qp (fn.toNat * 256 + q.toNat)).fetched = (s.qp (fn.toNat * 256 + q.toNat)).fetched ∧
          ∃ c, (t.qp (fn.toNat * 256 + q.toNat)).done = (s.qp (fn.toNat * 256 + q.toNat)).done ++ [c] ∧ c.tag = p.tag ∧ c.status = st ∧ c.detail = det) ∧
      (∀ k, k ≠ fn.toNat * 256 + q.toNat → t.qp k = s.qp k)) ∧
  (∀ (fn : BitVec 12) (q : BitVec 8) (p : Packet) (ok : Bool) (s : State), s.fetchTurn ≠ some (fn.toNat * 256 + q.toNat) →
    exec (.packetFetch fn q p ok) s = .next s) ∧
  (∀ (fn : BitVec 12) (q : BitVec 8) (s : State), (s.qp (fn.toNat * 256 + q.toNat)).slotFails ≠ 0 → (s.qp (fn.toNat * 256 + q.toNat)).stopped = false →
    exec (.submissionReadRetry fn q true) s = .next (s.modQp (fn.toNat * 256 + q.toNat) (fun x => { x with slotFails := 0 })))

/-- COMPLETION_WRITE writes the oldest completion with PHASE, PACKED_ENTRY_CLOSE closes due entries, and messages follow moderation and mask (R352, R353, R359, R360, R364). In every state in canonical form: a queue with a completion waiting and a free entry has it written at its device index with the present PHASE, the index advances, inverting PHASE on a wrap, the vector counts one entry, and no other queue changes. After PACKED_ENTRY_CLOSE no queue that was listed keeps open a packed entry whose first record's tick has ended. A due vector of a function that is not resetting sends its message and its count clears where it is not masked, and sets its PBA bit where it is; unmasking a vector of the table sends the message its PBA bit holds. -/
def Obligations.CompletionsAndEntriesReachTheirRings : Prop :=
  (∀ (fn : BitVec 12) (q : BitVec 8) (s : State) (c : Cpl) (rest : List Cpl), s.canonical = true →
    (s.qp (fn.toNat * 256 + q.toNat)).done = c :: rest → 0 < (s.qp (fn.toNat * 256 + q.toNat)).room →
    ∃ t, exec (.completionWrite fn q) s = .next t ∧ t = { s with qps := t.qps, vecs := t.vecs, out := t.out } ∧
      t.out = { kind := .completion, dst := [fn.toNat, q.toNat, (s.qp (fn.toNat * 256 + q.toNat)).dtail],
                data := [c.tag.toNat, c.status, c.detail, c.tick.toNat, c.sqHead, (s.qp (fn.toNat * 256 + q.toNat)).phase.toNat + 2 * c.fast.toNat,
                  c.result.toNat] } :: s.out ∧
      (t.qp (fn.toNat * 256 + q.toNat)).done = rest ∧
      (t.qp (fn.toNat * 256 + q.toNat)).dtail = (if (s.qp (fn.toNat * 256 + q.toNat)).dtail + 1 = (s.qp (fn.toNat * 256 + q.toNat)).size then 0
        else (s.qp (fn.toNat * 256 + q.toNat)).dtail + 1) ∧
      (t.qp (fn.toNat * 256 + q.toNat)).phase = ((s.qp (fn.toNat * 256 + q.toNat)).phase ^^
        decide ((s.qp (fn.toNat * 256 + q.toNat)).dtail + 1 = (s.qp (fn.toNat * 256 + q.toNat)).size)) ∧
      (∀ k, k ≠ fn.toNat * 256 + q.toNat → t.qp k = s.qp k) ∧
      (t.vec (fn.toNat * 2048 + (s.qp (fn.toNat * 256 + q.toNat)).vector)).count =
        (s.vec (fn.toNat * 2048 + (s.qp (fn.toNat * 256 + q.toNat)).vector)).count + 1) ∧
  (∀ s : State, s.canonical = true → ∃ t, exec .packedEntryClose s = .next t ∧ t = { s with qps := t.qps, vecs := t.vecs, out := t.out } ∧
    (∀ k, (s.qp k).openTick < s.tim.tick → (t.qp k).openRecs = []) ∧
    (∀ k, s.tim.tick ≤ (s.qp k).openTick → (s.qp k).openRecs.length < (s.qp k).perEntry → t.qp k = s.qp k)) ∧
  (∀ (fn : BitVec 12) (v : BitVec 11) (s : State), s.canonical = true → s.vecDue fn.toNat v.toNat = true → (s.fn fn.toNat).resetting = false →
    ∃ t, exec (.msixMessage fn v) s = .next t ∧ t = { s with vecs := t.vecs, out := t.out } ∧
      ((s.reg (vecCtl fn.toNat v.toNat)).getLsbD 0 = false → t.out = { kind := .msix, dst := [fn.toNat, v.toNat], data := [] } :: s.out ∧
        t.vec (fn.toNat * 2048 + v.toNat) = {}) ∧
      ((s.reg (vecCtl fn.toNat v.toNat)).getLsbD 0 = true → t.out = s.out ∧
        t.vec (fn.toNat * 2048 + v.toNat) = { s.vec (fn.toNat * 2048 + v.toNat) with pba := true })) ∧
  (∀ (fn : BitVec 12) (v : BitVec 11) (s : State), s.canonical = true → v.toNat < (if fn = 0 then 2048 else 8) →
    ∃ t, exec (.vectorUnmask fn v) s = .next t ∧
      t = { s with regs := t.regs, vecs := t.vecs, out := t.out, pwr := t.pwr, quires := t.quires, ctrs := t.ctrs, obs := t.obs, stageBuf := t.stageBuf } ∧
      (t.reg (vecCtl fn.toNat v.toNat)).getLsbD 0 = false ∧
      ((s.vec (fn.toNat * 2048 + v.toNat)).pba = true → t.vec (fn.toNat * 2048 + v.toNat) = {} ∧
        t.out = { kind := .msix, dst := [fn.toNat, v.toNat], data := [] } :: s.out) ∧
      ((s.vec (fn.toNat * 2048 + v.toNat)).pba = false → t.vecs = s.vecs ∧ t.out = s.out))

/-- RECORD_ISSUE sends a graph's oldest record into its ring or its overflow buffer, and OVERFLOW_DRAIN empties the buffer in order (R320, R361, R362, R363, R480). For a record that waits with none of its graph before it, whose compares have passed and that no stop withholds, of a bound graph: RECORD_ISSUE takes it from the waiting records; where its ring takes it and none of the ring is held, it is written there; else, where the overflow buffer has room, it is held behind the others, marked held. A record of an unbound graph, or behind another of its graph, waits. OVERFLOW_DRAIN takes the first held record that is the oldest of its ring and whose ring has room out of the buffer, and does nothing where there is none. -/
def Obligations.RecordsLeaveInOrder : Prop :=
  (∀ (i f q : Nat) (r : Rec) (s : State), s.canonical = true → s.recs[i]? = some r → (s.graph r.graph).bind = some (f, q) →
    (∀ x ∈ s.recs.take i, x.graph ≠ r.graph) → s.compared r.graph r.tref = true → (s.graph r.graph).stopAfter = none →
    ∃ t, exec (.recordIssue i) s = .next t ∧ t.recs = s.recs.eraseIdx i ∧ t.graphs = s.graphs ∧ t.tim = s.tim ∧
      ((s.qp (f * 256 + q)).takes r.bytes = true → (∀ x ∈ (s.slip (s.graph r.graph).slip).ovf, x.queue ≠ f * 256 + q) →
        ∃ e ∈ t.out, e.kind = .ringEntry ∧ e.dst = [(f * 256 + q) / 256, (f * 256 + q) % 256, (s.qp (f * 256 + q)).dtail]) ∧
      (((s.qp (f * 256 + q)).takes r.bytes = false ∨ ∃ x ∈ (s.slip (s.graph r.graph).slip).ovf, x.queue = f * 256 + q) →
        (s.graph r.graph).slip < 64 →
        (s.slip (s.graph r.graph).slip).ovfUsed + r.bytes ≤ (s.slip (s.graph r.graph).slip).ovfKib * 1024 →
        t = { s with recs := t.recs, slips := t.slips } ∧
        (t.slip (s.graph r.graph).slip).ovf = (s.slip (s.graph r.graph).slip).ovf ++
          [{ queue := f * 256 + q, bytes := r.bytes, words := [], rec_ := some { r with held := true } }])) ∧
  (∀ (i : Nat) (s : State), (s.recs[i]? = none ∨ (∃ r, s.recs[i]? = some r ∧ ((s.graph r.graph).bind = none ∨ ∃ x ∈ s.recs.take i, x.graph = r.graph))) →
    exec (.recordIssue i) s = .next s) ∧
  (∀ (slip : BitVec 6) (i : Nat) (s : State), s.canonical = true → s.drainIdx (s.slip slip.toNat).ovf = some i →
    ∃ t, exec (.overflowDrain slip) s = .next t ∧ (t.slip slip.toNat).ovf = (s.slip slip.toNat).ovf.eraseIdx i ∧ t.graphs = s.graphs ∧ t.tim = s.tim) ∧
  (∀ (slip : BitVec 6) (s : State), s.drainIdx (s.slip slip.toNat).ovf = none → exec (.overflowDrain slip) s = .next s)

/-- FN_CTL.RESET, FLR, FUNCTION_RESET, D3hot and VF Enable leave functions reset, existing or gone (R367, R368, R341, R535, R536). In every state in canonical form: a write of FN_CTL.RESET, an FLR and FUNCTION_RESET of an existing VF leave it with no queue pair and FN_CTL 0, ready, and count the reset, while the queues of every other VF stay; D3hot leaves no VF with a queue pair; VF Enable with NumVFs brings VFs 1 to NumVFs into existence and ready, and cleared leaves only PF0. -/
def Obligations.FunctionResetsClearTheFunction : Prop :=
  (∀ (c : Instr) (fn : BitVec 12) (s : State), s.canonical = true → (c = .fnCtlReset fn ∨ c = .pcieFlr fn) → fn ≠ 0 → (s.fn fn.toNat).exist = true →
    ∃ t, exec c s = .next t ∧ (∀ q, q < 256 → t.qp (fn.toNat * 256 + q) = {}) ∧ (t.fn fn.toNat).rdy = true ∧ (t.fn fn.toNat).exist = true ∧
      (t.fn fn.toNat).slip = (s.fn fn.toNat).slip ∧
      t.reg (fnB fn.toNat + 4) = 0 ∧ (∀ k, k / 256 ≠ fn.toNat → k / 256 ≠ 0 → t.qp k = s.qp k) ∧
      t.slips = s.slips ∧ t.graphs = s.graphs ∧ t.tim = s.tim) ∧
  (∀ (h : CmdRef) (func : BitVec 16) (f : Fetched) (s b : State), s.canonical = true → s.Starts h 4 (.functionReset h func) f b →
    func ≠ 0 → func.toNat < 4096 → (b.fn func.toNat).exist = true → (b.fn func.toNat).resetting = false →
    ∃ t, exec (.functionReset h func) s = .next t ∧ (∀ q, q < 256 → t.qp (func.toNat * 256 + q) = {}) ∧ (t.fn func.toNat).rdy = true ∧
      t.reg (fnB func.toNat + 4) = 0 ∧ t.slips = b.slips ∧ t.graphs = b.graphs ∧ t.tim = b.tim) ∧
  (∀ s : State, s.canonical = true → ∃ t, exec .d3hotEntry s = .next t ∧
    (∀ k, 256 ≤ k → (s.fn (k / 256)).exist = true → t.qp k = {}) ∧ t.slips = s.slips ∧ t.graphs = s.graphs ∧ t.tim = s.tim) ∧
  (∀ (num : BitVec 16) (s : State), s.canonical = true → ∃ t, exec (.vfEnable true num) s = .next t ∧ t = { s with fns := t.fns } ∧
    (∀ f, 1 ≤ f → f ≤ num.toNat → f ≤ 4095 → (t.fn f).exist = true) ∧
    (∀ f, (s.fn f).exist = true ∨ f = 0 ∨ num.toNat < f ∨ 4095 < f → t.fn f = s.fn f)) ∧
  (∀ (num : BitVec 16) (s : State), s.canonical = true → ∃ t, exec (.vfEnable false num) s = .next t ∧ (∀ f, f ≠ 0 → t.fn f = {}) ∧
    (∀ k, 256 ≤ k → (s.fn (k / 256)).exist = true → t.qp k = {}))

/-- FN_CTL.EN starts queue 0 from FN_ADMQ, reports bad settings, and deletes it (R344, Table 13.10). In every state in canonical form and for a function that exists: writing EN = 1 while it is 0 with FN_ADMQ settings in range makes queue pair 0 a CMD queue of those settings, bases and vector, with EN set; with settings out of range it sets ADMQ_ERR and EN stays 0; writing EN = 0 while it is 1 deletes queue pair 0; writing the value it holds changes only what the access brews and unstages. -/
def Obligations.AdminQueueIsEnabledAndDeleted : Prop :=
  ∀ (fn : BitVec 12) (en : Bool) (s : State), s.canonical = true → (fn ≠ 0 → (s.fn fn.toNat).exist = true) →
    ∃ t, exec (.fnCtlEn fn en) s = .next t ∧
      t = { s with regs := t.regs, fns := t.fns, qps := t.qps, pwr := t.pwr, quires := t.quires, ctrs := t.ctrs, obs := t.obs, stageBuf := t.stageBuf } ∧
      (∀ k, k ≠ fn.toNat * 256 → t.qp k = s.qp k) ∧
      (en = (s.reg (fnB fn.toNat + 4)).getLsbD 0 → t.qps = s.qps ∧ t.fns = s.fns) ∧
      (en = true → (s.reg (fnB fn.toNat + 4)).getLsbD 0 = false → s.admqOk fn.toNat = true →
        t.qp (fn.toNat * 256) = {
          valid := true
          kind := 1
          vector := fld (s.reg (fnB fn.toNat + 0x20)) 10 0
          sqLog2 := fld (s.reg (fnB fn.toNat + 0x20)) 28 24
          ringLog2 := fld (s.reg (fnB fn.toNat + 0x20)) 20 16
          entLog2 := 5
          sqBase := (s.reg (fnB fn.toNat + 0x10)).toNat
          ringBase := (s.reg (fnB fn.toNat + 0x18)).toNat } ∧
        t.reg (fnB fn.toNat + 4) = 1 ∧ (t.fn fn.toNat).admqErr = false) ∧
      (en = true → (s.reg (fnB fn.toNat + 4)).getLsbD 0 = false → s.admqOk fn.toNat = false →
        t.qps = s.qps ∧ (t.fn fn.toNat).admqErr = true ∧ (t.reg (fnB fn.toNat + 4)).getLsbD 0 = false) ∧
      (en = false → (s.reg (fnB fn.toNat + 4)).getLsbD 0 = true → t.qp (fn.toNat * 256) = {} ∧ t.reg (fnB fn.toNat + 4) = 0)

/-- A device reset runs where one is due and leaves everything at reset but time, OTP, vault, straps and flash (R493, R494, R495, R500). PERST asserted outside WARMER_ONLY, a hot reset, and SI_AUTO_RESET when its time after a DEVICE reaction has come (the SI alive) make a device reset due and change nothing else. DEVICE_RESET_SEQUENCE, where one is due and the device is not in WARMER_ONLY, leaves SYSTIME, TICK_COUNT, lifecycle, vault copies, straps and the waiting queue as they were, no graph, contract, slipcase, queue pair, key in service, DRAM byte or staged command, FAULT pins asserted and the safe state held until cleared, the self-test's result, quires in service and retired as the test says, and every counter 0 but the count of device resets, 1. Where none is due it changes nothing. -/
def Obligations.DeviceResetKeepsOnlyWhatSurvives : Prop :=
  (∀ s : State, s.pwr.down = false → exec (.perst true) s = .next { s with resetDue := true }) ∧
  (∀ s : State, exec .hotReset s = .next { s with resetDue := true }) ∧
  (∀ (s : State) (t : Nat), s.si.autoAt = some t → t ≤ s.tim.systime → s.si.dead = false → exec .siAutoReset s = .next { s with resetDue := true }) ∧
  (∀ s : State, (∀ t, s.si.autoAt = some t → s.tim.systime < t) → exec .siAutoReset s = .next s) ∧
  (∀ (active retired : BitVec 68) (pass : Bool) (s : State), s.resetDue = true → s.pwr.down = false →
    ∃ t, exec (.deviceResetSequence active retired pass) s = .next t ∧
      t.tim.systime = s.tim.systime ∧ t.tim.tick = s.tim.tick ∧ t.tim.tickQ = 4 ∧ t.pending = s.pending ∧
      t.graphs = [] ∧ t.contracts = [] ∧ t.slips = [] ∧ t.qps = [] ∧ t.keys = [] ∧ t.dram = [] ∧ t.staged = [] ∧ t.recs = [] ∧ t.hops = [] ∧
      t.sec.life = s.sec.life ∧ t.sec.slotA = s.sec.slotA ∧ t.sec.slotB = s.sec.slotB ∧ t.sec.copy0 = s.sec.copy0 ∧ t.sec.copy1 = s.sec.copy1 ∧
      t.pwr.straps = s.pwr.straps ∧ t.resetDue = false ∧
      t.si.pins = true ∧ t.si.safe = true ∧ t.si.fresh = true ∧ t.si.present = [] ∧ t.si.testOk = pass ∧
      (∀ q, q < 68 → t.qState q = testState active retired q) ∧
      (∀ k, t.ctr k = if k = simB + 0x440 then 1 else 0)) ∧
  (∀ (active retired : BitVec 68) (pass : Bool) (s : State), s.resetDue = false ∨ s.pwr.down = true →
    exec (.deviceResetSequence active retired pass) s = .next s)

/-- Power-up starts time and the rails, each good rail brings the next, and loss of VDD_AON takes all but OTP and flash (R528, R529, R530, R531, R578). POWER_UP leaves SYSTIME and TICK_COUNT 0, the straps sampled, FAULT pins asserted, only RAIL_EN1 driven, OTP lifecycle kept. While start-up runs and every rail asked for is good, the next PWR_GOOD asserts the next RAIL_EN, and the third starts the self-test and boot; PWR_GOOD of a rail whose RAIL_EN is deasserted is counted in PWR_RAIL_FAILS and ignored. A rail not good after 10 ms turns the rails off, is counted, and is tried again after 100 ms up to eight times. HOST_BOOT_IMAGE makes PF0 ready on an image that the boot ROM, waiting, may start, and else changes nothing. VDD_AON_LOSS stops time, drives the FAULT pins to the released pattern, and keeps of the maps nothing. -/
def Obligations.PowerUpAndItsLoss : Prop :=
  (∀ (straps : List (BitVec 2)) (s : State), ∃ t, exec (.powerUp straps) s = .next t ∧ t.tim = {} ∧ t.pwr.straps = (strapsOf straps).1 ∧
    t.pwr.ambig = (strapsOf straps).2 ∧ t.si.pins = true ∧ t.pwr.up = true ∧ t.pwr.rails = 1 ∧ t.pwr.good = 0 ∧ t.sec.life = s.sec.life ∧
    t.pending = s.pending ∧ t.graphs = [] ∧ t.qps = [] ∧ t.dram = []) ∧
  (∀ (r : BitVec 2) (active retired : BitVec 68) (pass : Bool) (s : State), r ≠ 0 → s.pwr.rails < r.toNat →
    exec (.pwrGood r active retired pass) s = .next (s.bump (pwrB + 0x238))) ∧
  (∀ (r : BitVec 2) (active retired : BitVec 68) (pass : Bool) (s : State), r ≠ 0 → s.pwr.rails = r.toNat → r.toNat < 3 → s.pwr.up = true →
    s.pwr.good = 2 ^ (r.toNat - 1) - 1 →
    ∃ t, exec (.pwrGood r active retired pass) s = .next t ∧ t = { s with pwr := t.pwr, out := t.out } ∧
      t.pwr = { s.pwr with good := 2 ^ r.toNat - 1, rails := s.pwr.rails + 1, railAt := s.tim.systime } ∧
      t.out = { kind := .pin, dst := [20 + (s.pwr.rails + 1)], data := [1] } :: s.out) ∧
  (∀ (active retired : BitVec 68) (pass : Bool) (s : State), s.canonical = true → s.pwr.rails = 3 → s.pwr.up = true → s.pwr.good = 3 →
    ∃ t, exec (.pwrGood 3 active retired pass) s = .next t ∧ t.pwr.up = false ∧ t.pwr.down = false ∧ (∀ d, t.dom d = 2) ∧ t.si.testOk = pass ∧
      (∀ q, q < 68 → t.qState q = testState active retired q) ∧ t.tim = s.tim) ∧
  (∀ s : State, s.canonical = true → s.pwr.up = true → s.pwr.good % 2 ^ s.pwr.rails ≠ 2 ^ s.pwr.rails - 1 → s.pwr.railAt + 10000000 ≤ s.tim.systime →
    ∃ t, exec .railTimeout s = .next t ∧ t.pwr.up = false ∧ t.pwr.rails = 0 ∧ t.pwr.railTries = s.pwr.railTries + 1 ∧
      (8 ≤ s.pwr.railTries → t.pwr.dead = true) ∧ (s.pwr.railTries < 8 → t.pwr.retryAt = some (s.tim.systime + 100000000)) ∧
      t.ctr (pwrB + 0x238) = s.ctr (pwrB + 0x238) + 1 ∧
      t = { s with pwr := t.pwr, out := t.out, ctrs := t.ctrs, regs := t.regs }) ∧
  (∀ (img : FwImage) (s : State), s.pwr.bootWait = true → s.sec.boots img = true →
    exec (.hostBootImage img) s = .next (((s.modSec (fun c => { c with active := img, staged := none })).modPwr (fun p => { p with bootWait := false })).modFn 0
      (fun x => { x with rdy := true }))) ∧
  (∀ (img : FwImage) (s : State), s.pwr.bootWait = false ∨ s.sec.boots img = false → exec (.hostBootImage img) s = .next s) ∧
  (∀ (cut : BitVec 2) (s : State), ∃ t, exec (.vddAonLoss cut) s = .next t ∧ t.tim.stopped = true ∧ t.pwr.down = true ∧ t.pwr.dead = true ∧
    t.si.pins = false ∧ t.out = { kind := .pin, dst := [2], data := [0] } :: { kind := .pin, dst := [1], data := [2] } :: s.out ∧
    t.sec.life = s.sec.life ∧ t.graphs = [] ∧ t.slips = [] ∧ t.qps = [] ∧ t.dram = [] ∧ t.ctrs = [] ∧ t.pending = s.pending)

/-- After DEEP_IDLE_MS of the conditions the device enters WARMER_ONLY with its counters, and WAKE_IN or PERST deasserted ends it (R522, R523, R524). Where IDLE is 2, nothing is loaded, admitted, joined or waiting for firmware, and this has held for DEEP_IDLE_MS, WARMER_ONLY_ENTRY asserts the FAULT pins, switches every rail off, keeps time, counters (its own counts one more), lifecycle and flash, and loses everything else; where not, it changes nothing. In WARMER_ONLY with no start-up running, WAKE_IN and the deassertion of PERST start the rails with time kept; in a device that is up they change nothing. The stopped time oscillator returning changes only that SYSTIME may advance. -/
def Obligations.WarmerOnlyIsEnteredAndLeft : Prop :=
  (∀ (s : State) (d : Nat), s.deepOk = true → s.pwr.deepAt = some d → d + s.deepIdleNs ≤ s.tim.systime →
    ∃ t, exec .warmerOnlyEntry s = .next t ∧ t.pwr.down = true ∧ t.pwr.rails = 0 ∧ t.si.pins = true ∧ t.tim.systime = s.tim.systime ∧
      t.tim.tick = s.tim.tick ∧ t.ctrs = SMap.put 0 s.ctrs (pwrB + 0x218) (s.ctr (pwrB + 0x218) + 1) ∧ t.sec.life = s.sec.life ∧
      t.sec.slotA = s.sec.slotA ∧ t.sec.slotB = s.sec.slotB ∧ t.slips = [] ∧ t.qps = [] ∧ t.dram = [] ∧ t.keys = [] ∧ t.pending = s.pending) ∧
  (∀ s : State, (s.deepOk = false ∨ ∀ d, s.pwr.deepAt = some d → s.tim.systime < d + s.deepIdleNs) → exec .warmerOnlyEntry s = .next s) ∧
  (∀ (c : Instr) (s : State), c = .wakeIn ∨ c = .perst false → s.pwr.down = true → s.pwr.up = false → s.pwr.dead = false → s.pwr.retryAt = none →
    ∃ t, exec c s = .next t ∧ t.pwr.up = true ∧ t.pwr.rails = 1 ∧ t.pwr.good = 0 ∧ t.tim.systime = s.tim.systime ∧ t.tim.tick = s.tim.tick ∧
      t.sec.life = s.sec.life ∧ t.pending = s.pending ∧ t.out = { kind := .pin, dst := [21], data := [1] } :: s.out) ∧
  (∀ (c : Instr) (s : State), c = .wakeIn ∨ c = .perst false → s.pwr.down = false → exec c s = .next s) ∧
  (∀ s : State, exec .timeOscillatorReturn s = .next (s.modTim (fun m => { m with stopped := false })))

/-- A domain sleeps when it may, wake requests gather, and a Brew switches every domain asked for ON (R31, R33, R34, R516, R517, R518, R520). DOMAIN_IDLE of a domain that may sleep (ON, idle long enough, no scheduled wake within 20 µs, not warm, not asked for) leaves it in its armed-idle state of Table 20.1 and no other domain changed; of one that may not, changes nothing. A Hopper in RETAIN whose port is enabled asks for its domain and wake set at start of transmission; L1.2 exit asks for domains 2 to 4 and TIMER_WAKE, within 15 µs of a scheduled tick, for those it needs; each is counted or recorded only where one of them sleeps. BREW leaves every domain asked for (1 to 47) ON, none asked for, the longest Brew recorded, and every other domain as it was; with none asked for it changes nothing. -/
def Obligations.DomainsSleepAndWake : Prop :=
  (∀ (d : BitVec 6) (iu wu : BitVec 32) (s : State), s.canonical = true → SMap.wf 2 s.pwr.doms = true → d.toNat < 48 →
    s.maySleep d.toNat iu.toNat wu.toNat = true →
    ∃ t, exec (.domainIdle d iu wu) s = .next t ∧ t.dom d.toNat = s.idleDom d.toNat ∧ (∀ e, e ≠ d.toNat → t.dom e = s.dom e) ∧
      t.tim = s.tim ∧ t.graphs = s.graphs ∧ t.slips = s.slips ∧ t.qps = s.qps ∧ t.dram = s.dram) ∧
  (∀ (d : BitVec 6) (iu wu : BitVec 32) (s : State), s.maySleep d.toNat iu.toNat wu.toNat = false → exec (.domainIdle d iu wu) s = .next s) ∧
  (∀ (n : BitVec 4) (s : State), s.canonical = true → s.portEn n.toNat = true → s.dom (5 + n.toNat) = 1 → s.pwr.down = false →
    ∃ t, exec (.hopperWake n) s = .next t ∧ t = { s with hops := t.hops, pwr := { s.pwr with req := t.pwr.req } } ∧
      t.hop n.toNat = { s.hop n.toNat with link := 0 } ∧
      5 + n.toNat ∈ t.pwr.req ∧ (∀ d ∈ (s.hop n.toNat).wake, d ∈ t.pwr.req) ∧ (∀ d ∈ s.pwr.req, d ∈ t.pwr.req)) ∧
  (∀ s : State, s.pwr.down = false → (∃ d ∈ [2, 3, 4], s.dom d ≠ 2) →
    ∃ t, exec .l12Exit s = .next t ∧ t = { s with pwr := { s.pwr with req := t.pwr.req } } ∧ (∀ d ∈ [2, 3, 4], d ∈ t.pwr.req)) ∧
  (∀ (tick : BitVec 64) (doms : BitVec 48) (s : State), s.pwr.down = false → s.tim.tick < tick.toNat →
    s.tim.bK + (tick.toNat - s.tim.kTick) * s.tickLen ≤ s.tim.systime + 15000 → (∃ d, 1 ≤ d ∧ d < 48 ∧ doms.getLsbD d = true ∧ s.dom d ≠ 2) →
    ∃ t, exec (.timerWake tick doms) s = .next t ∧ t = { s with ctrs := t.ctrs, pwr := { s.pwr with req := t.pwr.req } } ∧
      t.ctrs = SMap.put 0 s.ctrs (pwrB + 0x208) (s.ctr (pwrB + 0x208) + 1) ∧ (∀ d, d < 48 → doms.getLsbD d = true → d ∈ t.pwr.req)) ∧
  (∀ (ns : BitVec 32) (s : State), s.canonical = true → SMap.wf 2 s.pwr.doms = true → s.pwr.req ≠ [] → s.pwr.down = false →
    ∃ t, exec (.brew ns) s = .next t ∧ t.pwr.req = [] ∧ (∀ d ∈ s.pwr.req, 1 ≤ d → d < 48 → t.dom d = 2) ∧
      (∀ d, d ∉ s.pwr.req → t.dom d = s.dom d) ∧ t.reg (pwrB + 0x38) = BitVec.ofNat 64 (max (s.reg (pwrB + 0x38)).toNat ns.toNat) ∧
      t = { s with pwr := t.pwr, quires := t.quires, regs := t.regs, ctrs := t.ctrs, obs := t.obs }) ∧
  (∀ (ns : BitVec 32) (s : State), s.pwr.req = [] → exec (.brew ns) s = .next s)

/-- The limiter acts after two windows above PWR_LIMIT and lifts after 1 ms below, the governor only moves ADAPTIVE slipcases, and the Power commands complete (R388, R411, R525, R526, R527, R532). LIMITER_WINDOW records the sum in PWR_MEAS and each cluster's power, counts the windows in a row above PWR_LIMIT, and with fewer than two of them and less than 1 ms below 0.95 of it changes no quire, graph or cap. GOVERNOR_WINDOW of a slipcase that does not exist or is EXACT changes nothing; of an ADAPTIVE one without a share it brings its quires not held to step 20 and takes their clusters' voltages from the governor; of one above its share it lowers, by one, the targets above the contract step and counts. POWER_POLICY 1 or 2 (2 with no admitted contract) stores IDLE; GOVERNOR_SET stores the share; POWER_QUERY returns power and temperature, for PF0 those measured. -/
def Obligations.PowerIsMeasuredAndLimited : Prop :=
  (∀ (total : BitVec 32) (cl : List (BitVec 32)) (s : State), s.canonical = true →
    (s.powerLimit < total.toNat → s.pwr.excess = 0) → (∀ u, s.pwr.under = some u → s.tim.systime < u + 1000000) →
    ∃ t, exec (.limiterWindow total cl) s = .next t ∧ t = { s with regs := t.regs, pwr := t.pwr } ∧
      t.reg (pwrB + 0x30) = BitVec.ofNat 64 total.toNat ∧ t.pwr.excess = (if s.powerLimit < total.toNat then 1 else 0) ∧
      t.pwr.caps = s.pwr.caps ∧ t.pwr.acts = s.pwr.acts ∧
      t.pwr.under = (if 100 * total.toNat < 95 * s.powerLimit then some (s.pwr.under.getD s.tim.systime) else none)) ∧
  (∀ (slip : BitVec 6) (s : State), ((s.slip slip.toNat).state = 0 ∨ (s.slip slip.toNat).adaptive = false) → exec (.governorWindow slip) s = .next s) ∧
  (∀ (slip : BitVec 6) (s : State), s.canonical = true → SMap.wf none s.pwr.mv = true → (s.slip slip.toNat).state ≠ 0 → (s.slip slip.toNat).adaptive = true →
    (s.slip slip.toNat).powerMw = 0 →
    ∃ t, exec (.governorWindow slip) s = .next t ∧ t = { s with quires := t.quires, pwr := { s.pwr with mv := t.pwr.mv } } ∧
      (∀ q ∈ (s.slip slip.toNat).quires, SMap.get none t.pwr.mv (q / 4) = none ∧ (s.held q = false → (t.quire q).target = 20 ∧ (t.quire q).curStep ≤ 20)) ∧
      (∀ q, q ∉ (s.slip slip.toNat).quires → t.quire q = s.quire q)) ∧
  (∀ (h : CmdRef) (idle : BitVec 8) (f : Fetched) (s b : State), s.Starts h 0x0D01 (.powerPolicy h idle) f b → idle = 1 ∨ idle = 2 →
    (idle = 2 → ∀ e ∈ b.contracts, e.2.exist = true → e.2.state = 2) →
    ∃ t, exec (.powerPolicy h idle) s = .next t ∧ State.Answered (b.modPwr (fun p => { p with idle := idle.toNat })) t h 0 0 0) ∧
  (∀ (h : CmdRef) (mw : BitVec 32) (f : Fetched) (s b : State), s.Starts h 0x0D02 (.governorSet h mw) f b →
    ∃ t, exec (.governorSet h mw) s = .next t ∧ State.Answered (b.modSlip f.objId.toNat (fun p => { p with powerMw := mw.toNat })) t h 0 0 0) ∧
  (∀ (h : CmdRef) (f : Fetched) (s b : State), s.Starts h 0x8D01 (.powerQuery h) f b →
    ∃ t, exec (.powerQuery h) s = .next t ∧
      State.Answered b t h 0 0 (result [((b.powerQuery h.fn.toNat).1, 4), (unsig 16 (b.powerQuery h.fn.toNat).2, 2)]) ∧
      (h.fn = 0 → b.powerQuery 0 = ((b.reg (pwrB + 0x30)).toNat, (b.pwr.tempC + 5) / 10)))

/-- Clock, crystal, supply and temperature events end in their faults while the Safety Island lives, and in nothing else (R472, R476, R521, R577, R579, R585). CLOCK_MON raises CLOCK (cause 0x15) of the Warmer, stopping SYSTIME for a stopped oscillator; CRYSTAL_CHECK raises it where the time oscillator has stopped or a good crystal goes bad, and changes nothing where nothing is wrong and nothing new; SUPPLY_MON outside the operating window and inside the absolute maximum, with domain 1 ON, raises SUPPLY (0x16), and inside the window without a falling PWR_GOOD changes nothing; THERMAL at 115.0 °C or above, the cause not present, raises THERMAL (0x17). Each fault is the shared fault operation with source 0x72. Beyond the absolute maximum SUPPLY_MON stops with overstress, since no rule holds there. -/
def Obligations.ClocksSuppliesAndHeatAreReported : Prop :=
  (∀ s : State, exec (.clockMon false) s = .next (s.fault 0x72 0x15 0xFF)) ∧
  (∀ s : State, exec (.clockMon true) s = .next ((s.modTim (fun m => { m with stopped := true })).fault 0x72 0x15 0xFF)) ∧
  (∀ (ppm : BitVec 32) (running : Bool) (s : State), s.tim.stopped = false →
    exec (.crystalCheck ppm running false) s = .next ((s.modTim (fun m => { m with stopped := true })).fault 0x72 0x15 0xFF)) ∧
  (∀ (ppm : BitVec 32) (running : Bool) (s : State), s.pwr.straps.testBit 3 = false → s.pwr.xtalOk = true → (running = false ∨ 1000 < ppm.toNat) →
    ∃ u : State, exec (.crystalCheck ppm running true) s = .next (u.fault 0x72 0x15 0xFF) ∧ u.pwr = { s.pwr with xtalOk := false } ∧
      u = { s with pwr := u.pwr, regs := u.regs } ∧ (∀ k, k ≠ pwrB + 4 → u.reg k = s.reg k)) ∧
  (∀ (ppm : BitVec 32) (s : State), s.pwr.straps.testBit 3 = false → s.pwr.xtalOk = true → ppm.toNat ≤ 1000 → exec (.crystalCheck ppm true true) s = .next s) ∧
  (∀ (r : BitVec 3) (mv : Int) (w : Nat × Nat × Nat) (s : State), rail r.toNat = some w → -300 ≤ mv → mv ≤ (w.2.2 : Int) →
    (mv < (w.1 : Int) ∨ (w.2.1 : Int) < mv) → s.dom 1 = 2 → exec (.supplyMon r mv false) s = .next (s.fault 0x72 0x16 0xFF)) ∧
  (∀ (r : BitVec 3) (mv : Int) (w : Nat × Nat × Nat) (s : State), rail r.toNat = some w → (w.1 : Int) ≤ mv → mv ≤ (w.2.1 : Int) →
    exec (.supplyMon r mv false) s = .next s) ∧
  (∀ (r : BitVec 3) (mv : Int) (fell : Bool) (w : Nat × Nat × Nat) (s : State), rail r.toNat = some w → mv < -300 ∨ (w.2.2 : Int) < mv →
    exec (.supplyMon r mv fell) s = .fault .overstress) ∧
  (∀ (tempC : Int) (s : State), 1150 ≤ tempC → (∀ p ∈ s.si.present, p.cause ≠ 0x17) →
    ∃ u : State, exec (.thermal tempC) s = .next (u.fault 0x72 0x17 0xFF) ∧ u = { s with pwr := u.pwr } ∧ u.pwr = { s.pwr with tempC := tempC, temps := u.pwr.temps })

/-- A fault writes a record and counts, and its reaction fences, recovers, makes safe or shuts down as configured (R471, R473, R474, R475, R488, R499). INTERNAL_FAULT of causes 1 to 0x1D, and CP_WATCHDOG for the CP, while the SI is alive: the count of faults rises by one, SI_FAULT_TICK holds TICK_COUNT and the log head moves by one modulo 64; with reaction LOG (0) no slipcase is fenced and no pin asserted; with SAFE (3) or DEVICE (4) the FAULT pins are asserted and the safe state holds; with DEVICE no slipcase is ACTIVE; with FENCE (1) and a slipcase named, an ACTIVE one is FENCED. Reserved causes change nothing, nor does a fault of a cause other than 3 and 6 while the SI is dead; cause 3 of a quire then only sets BANK_ECC_UNCORR in its QR_ERR. The hardware paths of SI_LOCKSTEP and SI_WATCHDOG assert the pins and take the SI out of service. -/
def Obligations.FaultsAreRecordedAndReactedTo : Prop :=
  (∀ (c : Instr) (source cause slip : BitVec 8) (info : BitVec 32) (s : State), s.canonical = true → s.si.dead = false →
    (c = .internalFault source cause slip info ∨ (c = .cpWatchdog ∧ source = 0x6F ∧ cause = 0x11 ∧ slip = 0xFF)) → cause ≠ 0 → cause.toNat ≤ 0x1D →
    ∃ t, exec c s = .next t ∧ t.ctr (simB + 0x400) = s.ctr (simB + 0x400) + 1 ∧ t.reg (simB + 0x20) = BitVec.ofNat 64 s.tim.tick ∧
      t.si.flogHead = (s.si.flogHead + 1) % 64 ∧ t.tim = s.tim ∧ t.dram = s.dram ∧ t.pending = s.pending ∧
      (s.reaction cause.toNat = 0 → cause ≠ 0x11 → cause ≠ 0x12 → t.si.pins = s.si.pins ∧ ∀ n, (t.slip n).state = (s.slip n).state) ∧
      (3 ≤ s.reaction cause.toNat → t.si.pins = true ∧ t.si.safe = true) ∧
      (s.reaction cause.toNat = 4 → t.si.devFault = true ∧ ∀ n, n < 64 → (t.slip n).state ≠ 1) ∧
      (s.reaction cause.toNat = 1 → slip.toNat < 64 → (t.slip slip.toNat).state ≠ 1)) ∧
  (∀ (source cause slip : BitVec 8) (info : BitVec 32) (s : State), cause = 0 ∨ 0x1D < cause.toNat ∨ (s.si.dead = true ∧ cause ≠ 3 ∧ cause ≠ 6) →
    exec (.internalFault source cause slip info) s = .next s) ∧
  (∀ (source slip : BitVec 8) (info : BitVec 32) (s : State), source.toNat < 68 → s.si.dead = true →
    exec (.internalFault source 3 slip info) s = .next (s.orReg (qrB source.toNat + 0xC) 2)) ∧
  (∀ (c : Instr) (s : State), c = .siWatchdog ∨ c = .siLockstep → ∃ t, exec c s = .next t ∧ t = { s with si := t.si, out := t.out } ∧
    t.si.dead = true ∧ t.si.devFault = true ∧ t.si.pins = true ∧
    (s.si.pins = false → t.out = { kind := .pin, dst := [2], data := [1] } :: { kind := .pin, dst := [1], data := [0] } :: s.out))

/-- The Safety commands complete with their results, and the safety configuration is bounded and locked (R387, R484, R489, R495, R558, R475, R498). On every state where the packet starts: SAFETY_QUERY from PF0 returns STATE, FLAGS, spares and the tick of the latest fault, from a VF FLAGS only; KAT_INTERVAL_SET of 1 to 100 ms stores it; SAFE_STATE_CLEAR with the SI alive, no pin-asserting cause present and, after a reset, no cause at all and the self-test passed, ends the safe state and releases the pins; OUTPUT_RELEASE of outputs among 0 to 10 answers the mask of those that were LATCHED and leaves no named output latched; FAULT_INJECT of a source of Table 18.3 in VENDOR_TEST or with debug open raises a fault of that source whose cause is a free value from 1 to 29. In every state in canonical form: a write of SI_REACT for causes 1 to 29 with a defined reaction, the configuration not locked, stores the larger of it and the cause's minimum and changes no other SIM register; with the configuration locked, a reserved reaction or cause 0 it stores nothing. SI_LOCK sets the lock. -/
def Obligations.SafetyCommandsAndConfiguration : Prop :=
  (∀ (h : CmdRef) (f : Fetched) (s b : State), s.Starts h 0x8B01 (.safetyQuery h) f b →
    ∃ t, exec (.safetyQuery h) s = .next t ∧ State.Answered b t h 0 0 (if h.fn = 0 then
      result [(b.siState, 1), (b.safetyFlags, 1), (b.spares, 1), (0, 1), ((b.reg (simB + 0x20)).toNat, 8)] else result [(0, 1), (b.safetyFlags, 1)])) ∧
  (∀ (h : CmdRef) (ms : BitVec 8) (f : Fetched) (s b : State), s.Starts h 0x0B01 (.katIntervalSet h ms) f b → 1 ≤ ms.toNat → ms.toNat ≤ 100 →
    ∃ t, exec (.katIntervalSet h ms) s = .next t ∧ State.Answered (b.setReg (simB + 0x14) (BitVec.ofNat 64 ms.toNat)) t h 0 0 0) ∧
  (∀ (h : CmdRef) (f : Fetched) (s b : State), s.Starts h 0x0B02 (.safeStateClear h) f b → b.si.dead = false →
    (∀ p ∈ b.si.present, b.assertsPins p.reaction = false) → (b.si.fresh = true → b.si.testOk = true ∧ b.si.present = []) →
    ∃ u t, exec (.safeStateClear h) s = .next t ∧ State.Answered u t h 0 0 0 ∧ u = { b with si := u.si, out := u.out } ∧
      u.si = { b.si with fresh := false, safe := false, pins := false } ∧
      u.out = (if b.si.pins then { kind := .pin, dst := [2], data := [0] } :: { kind := .pin, dst := [1], data := [2] } :: b.out else b.out)) ∧
  (∀ (h : CmdRef) (mask : BitVec 16) (f : Fetched) (s b : State), SMap.wf {} b.xio.outs = true → s.Starts h 0x0B03 (.outputRelease h mask) f b →
    mask.toNat ≤ 0x7FF →
    ∃ u t, exec (.outputRelease h mask) s = .next t ∧
      State.Answered u t h 0 0 (BitVec.ofNat 128 (maskOf ((bitsSet 11 mask.toNat).filter (fun i => (b.outPin i).latched)) % 2 ^ 16)) ∧
      u = { b with xio := { b.xio with outs := u.xio.outs }, out := u.out } ∧
      (∀ i, i < 11 → mask.getLsbD i = true → (u.outPin i).latched = false) ∧
      (∀ i, (b.outPin i).latched = false → u.outPin i = b.outPin i)) ∧
  (∀ (h : CmdRef) (source : BitVec 8) (f : Fetched) (s b : State), s.Starts h 0x0B04 (.faultInject h source) f b →
    (b.sec.life = 1 ∨ b.sec.dbgOpen = true) → sourceOk source.toNat = true →
    ∃ cause, 1 ≤ cause ∧ cause ≤ 29 ∧
      exec (.faultInject h source) s = .next (State.complete (State.fault { b with free := b.free + 1 } source.toNat cause (b.unitSlip source.toNat)) h 0 0 0)) ∧
  (∀ (c : BitVec 5) (v : BitVec 32) (s : State), s.canonical = true → 1 ≤ c.toNat → c.toNat ≤ 29 → s.siLocked = false → v.toNat % 8 ≤ 4 →
    ∃ t, exec (.siReact c v) s = .next t ∧ t.reaction c.toNat = max (v.toNat % 8) (reactOf c.toNat).2 ∧
      (∀ k, k ≠ simB + 0x100 + 4 * c.toNat → k ≠ obsB + 4 → t.reg k = s.reg k) ∧
      t = { s with regs := t.regs, pwr := t.pwr, quires := t.quires, ctrs := t.ctrs, obs := t.obs, stageBuf := t.stageBuf }) ∧
  (∀ (c : BitVec 5) (v : BitVec 32) (s : State), (c.toNat = 0 ∨ 29 < c.toNat ∨ s.siLocked = true ∨ 4 < v.toNat % 8) →
    ∃ t, exec (.siReact c v) s = .next t ∧ (∀ k, k ≠ obsB + 4 → t.reg k = s.reg k)) ∧
  (∀ s : State, s.canonical = true → ∃ t, exec .siLock s = .next t ∧ t.siLocked = true ∧ (∀ k, k ≠ simB + 0x18 → k ≠ obsB + 4 → t.reg k = s.reg k) ∧
    t = { s with regs := t.regs, pwr := t.pwr, quires := t.quires, ctrs := t.ctrs, obs := t.obs, stageBuf := t.stageBuf })

/-- Two requesting samples of SAFE_IN raise a request, a long disagreement a fault, and valid levels for SAFEIN_RELEASE end it (R490). In every state with the SI alive: the second requesting sample in a row (anything but A low with B high) with no request present raises the request, counts it, and reports SAFE_IN (0x18) of source 0xFF; a single one only counts in the run. A disagreement that has lasted more than 10 µs with no such cause present raises SAFE_IN_DISAGREE (0x19); a sample that agrees leaves the disagreement over. With a request present and no requesting sample for SAFEIN_RELEASE, the release sample ends the request; earlier it does not. -/
def Obligations.SafeInputIsSampledAndHeld : Prop :=
  (∀ (a b : BitVec 2) (s : State), s.canonical = true → s.si.dead = false → ¬ (a = 0 ∧ b = 1) → 1 ≤ s.si.safeRun → s.si.safeReq = false →
    ∃ t, exec (.safeInReq a b) s = .next t ∧ t.si.safeReq = true ∧ t.si.safeRun = s.si.safeRun + 1 ∧ t.ctr (simB + 0x448) = s.ctr (simB + 0x448) + 1 ∧
      t.ctr (simB + 0x400) = s.ctr (simB + 0x400) + 1 ∧ t.tim = s.tim) ∧
  (∀ (a b : BitVec 2) (s : State), ¬ (a = 0 ∧ b = 1) → s.si.safeRun = 0 →
    ∃ t, exec (.safeInReq a b) s = .next t ∧ t.si.safeRun = 1 ∧ t.si.safeReq = s.si.safeReq ∧ t.ctrs = s.ctrs ∧ t.graphs = s.graphs) ∧
  (∀ (a b : BitVec 2) (d : Nat) (s : State), s.canonical = true → s.si.dead = false → (a = 0) ≠ (b = 1) → s.si.disagreeAt = some d →
    d + 10000 < s.tim.systime → (∀ p ∈ s.si.present, p.cause ≠ 0x19) →
    ∃ t, exec (.safeInDisagree a b) s = .next t ∧ t.ctr (simB + 0x400) = s.ctr (simB + 0x400) + 1 ∧ t.si.disagreeAt = some d) ∧
  (∀ (s : State), ∃ t, exec (.safeInDisagree 0 1) s = .next t ∧ t.si.disagreeAt = none ∧ (∀ p ∈ t.si.present, p.cause ≠ 0x19) ∧ t.ctrs = s.ctrs) ∧
  (∀ (v : Nat) (s : State), s.si.safeReq = true → s.si.validAt = some v → v + s.safeRelease ≤ s.tim.systime →
    ∃ t, exec (.safeInRelease 0 1) s = .next t ∧ t.si.safeReq = false ∧ (∀ p ∈ t.si.present, p.cause ≠ 0x18) ∧ t.graphs = s.graphs) ∧
  (∀ (a b : BitVec 2) (s : State), (s.si.validAt = none ∨ ¬ (a = 0 ∧ b = 1)) → s.si.safeReq = true →
    ∃ t, exec (.safeInRelease a b) s = .next t ∧ t.si.safeReq = true)

/-- A contended output goes high-Z and retries after 10 ms, latches after the 8th, and edges are driven only where the output may drive (R557, R558, R489). In every state whose output table is in canonical form: contention of a watched output (driven, not already contended or latched) with fewer than 8 retries sets contention with a retry 10 ms ahead, with 8 it latches; of one not watched it changes nothing. CONTENTION_RETRY ends contention of every due output not latched, counting each retry, and leaves the others. A TRIG_OUT or SYNC_OUT edge of an enabled output in its tick, with field I/O powered, no safe state and no contention, makes the output active or inactive and drives one edge. A mismatch newly seen on the FAULT pins is reported as FAULT_PIN (0x1A) of source 0x74, and readback as driven reports nothing. -/
def Obligations.FieldOutputsRetryAndLatch : Prop :=
  (∀ (i : BitVec 4) (s : State), s.canonical = true → SMap.wf {} s.xio.outs = true → s.outWatched i.toNat = true →
    ∃ t, exec (.outputContention i) s = .next t ∧
      t.outPin i.toNat = (if 8 ≤ (s.outPin i.toNat).retries then { s.outPin i.toNat with contention := true, latched := true }
        else { s.outPin i.toNat with contention := true, retryAt := s.tim.systime + 10000000 }) ∧
      (∀ j, j ≠ i.toNat → t.outPin j = s.outPin j) ∧ t.tim = s.tim) ∧
  (∀ (i : BitVec 4) (s : State), s.outWatched i.toNat = false → exec (.outputContention i) s = .next s) ∧
  (∀ s : State, SMap.wf {} s.xio.outs = true →
    ∃ t, exec .contentionRetry s = .next t ∧ t = { s with xio := { s.xio with outs := t.xio.outs }, ctrs := t.ctrs, out := t.out } ∧
      (∀ i, i < 11 → t.outPin i = (if (s.outPin i).contention ∧ ¬ (s.outPin i).latched ∧ (s.outPin i).retryAt ≤ s.tim.systime then
        { s.outPin i with contention := false, retries := (s.outPin i).retries + 1 } else s.outPin i))) ∧
  (∀ (n : BitVec 3) (k : BitVec 64) (fall : Bool) (s : State), SMap.wf {} s.xio.outs = true → s.rfld (xioB + 0x300 + 16 * n.toNat) 63 63 = 1 →
    s.now ((s.reg (xioB + 0x300 + 16 * n.toNat + 8)).toNat + k.toNat * s.rfld (xioB + 0x300 + 16 * n.toNat) 47 16 +
      (if fall then max 1 (s.rfld (xioB + 0x300 + 16 * n.toNat) 61 48) * 1000 else 0)) = true →
    s.dom 47 = 2 → s.si.safe = false → (s.outPin n.toNat).contention = false → (s.outPin n.toNat).latched = false →
    ∃ t e, exec (.trigOut n k fall) s = .next t ∧ t = { s with xio := { s.xio with outs := t.xio.outs }, out := t.out } ∧
      t.outPin n.toNat = { s.outPin n.toNat with active := !fall } ∧ t.out = e :: s.out ∧ e.kind = .edge ∧ e.dst = [n.toNat]) ∧
  (∀ (fall : Bool) (s : State), SMap.wf {} s.xio.outs = true → s.rfld (xioB + 0x380) 31 30 = 2 → s.dom 47 = 2 → s.si.safe = false →
    (s.outPin 8).contention = false → (s.outPin 8).latched = false →
    (fall = true → 0 < s.tim.tick ∧ (s.tim.tick - 1) % max 1 (s.rfld (xioB + 0x380) 23 0) = 0) →
    (fall = false → s.tim.tick % max 1 (s.rfld (xioB + 0x380) 23 0) = 0) →
    ∃ t e, exec (.syncOut fall) s = .next t ∧ t = { s with xio := { s.xio with outs := t.xio.outs }, out := t.out } ∧
      t.outPin 8 = { s.outPin 8 with active := !fall } ∧ t.out = e :: s.out ∧ e.kind = .edge ∧ e.dst = [8]) ∧
  (∀ (a b : Bool) (s : State), s.si.pinBad = false → (a = s.si.pins ∨ b ≠ s.si.pins) →
    exec (.faultPin a b) s = .next ((s.modSi (fun x => { x with pinBad := true })).fault 0x74 0x1A 0xFF)) ∧
  (∀ s : State, s.si.pinBad = false → exec (.faultPin (!s.si.pins) s.si.pins) s = .next s)

/-- Equal signatures pass a PAIRED tick, a passed test only counts, and a failed compare or test is recorded (R478, R480, R482, R484, R487). PAIR_COMPARE of a pair at tick n + 2 or later, both quires in service: with both signatures present and equal and the drop counts equal, the pair has passed tick n and nothing else changes; before tick n + 2, for a pair that runs on one quire, or for no pair, nothing changes; a mismatch counts once and puts the pair under recovery. PAIR_RESYNC ends the recovery of an attributed pair whose quire is kept, with both quires in service and the compare passed up to the present tick. KAT_RUN of a unit not deferred counts a test, and a passed one changes nothing but its time; LOCKSTEP_UNIT of the DPP, FU or TM, the SI alive, counts a fault, and a second mismatch on the same rerun makes the unit's results INVALID. -/
def Obligations.PairsAndUnitsAreCompared : Prop :=
  (∀ (primary : BitVec 7) (n g : BitVec 64) (d : BitVec 32) (pa pb : Bool) (p : Pair) (s : State), s.si.pairs.find? (fun p => p.primary = primary.toNat) = some p →
    n.toNat + 2 ≤ s.tim.tick → p.sole = none →
    exec (.pairCompare primary n (some g) (some g) d d pa pb) s =
      .next (s.modSi (fun x => { x with pairs := x.pairs.map (fun q => if q.primary = p.primary then { q with passed := max q.passed (n.toNat + 1) } else q) }))) ∧
  (∀ (primary : BitVec 7) (n : BitVec 64) (a b : Option (BitVec 64)) (da db : BitVec 32) (pa pb : Bool) (s : State),
    (∀ p, s.si.pairs.find? (fun p => p.primary = primary.toNat) = some p → s.tim.tick < n.toNat + 2 ∨ p.sole.isSome = true) →
    exec (.pairCompare primary n a b da db pa pb) s = .next s) ∧
  (∀ (primary : BitVec 7) (n : BitVec 64) (a b : Option (BitVec 64)) (da db : BitVec 32) (pa pb : Bool) (p : Pair) (s : State), s.canonical = true →
    s.si.pairs.find? (fun p => p.primary = primary.toNat) = some p → n.toNat + 2 ≤ s.tim.tick → p.sole = none → (a = none ∨ a ≠ b ∨ da ≠ db) →
    ∃ t, exec (.pairCompare primary n a b da db pa pb) s = .next t ∧ t.ctr (simB + 0x408) = s.ctr (simB + 0x408) + 1 ∧
      (∀ q ∈ t.si.pairs, q.primary = primary.toNat → q.recovering = true) ∧ t.tim = s.tim) ∧
  (∀ (primary : BitVec 7) (p : Pair) (q : Nat) (s : State), s.canonical = true → s.si.pairs.find? (fun p => p.primary = primary.toNat) = some p →
    p.recovering = true → p.attributed = some q → p.retire = false → q = p.primary ∨ q = p.partner →
    ∃ t, exec (.pairResync primary) s = .next t ∧ t.qState q = 1 ∧ t.ctr (simB + 0x418) = s.ctr (simB + 0x418) + 1 ∧
      (∀ x ∈ t.si.pairs, x.primary = p.primary → x.recovering = false ∧ x.sole = none ∧ x.passed = s.tim.tick)) ∧
  (∀ (source engine : BitVec 8) (pass : Bool) (s : State), s.canonical = true → s.katUnit source.toNat = true →
    (source.toNat < 68 → s.rebasing source.toNat = true → source.toNat ∈ s.si.katDeferred) →
    ∃ t, exec (.katRun source pass engine) s = .next t ∧ t.ctr (simB + 0x420) = s.ctr (simB + 0x420) + 1 ∧
      (pass = true → t = { s with si := t.si, ctrs := t.ctrs } ∧
        t.si = { s.si with katAt := t.si.katAt, katDeferred := s.si.katDeferred.filter (fun v => decide (v ≠ source.toNat)) }) ∧
      (pass = false → t.ctr (simB + 0x428) = s.ctr (simB + 0x428) + 1)) ∧
  (∀ (source slip : BitVec 8) (s : State), s.canonical = true → s.si.dead = false → 0x65 ≤ source.toNat → source.toNat ≤ 0x67 →
    ∃ t, exec (.lockstepUnit source slip) s = .next t ∧ t.ctr (simB + 0x400) = s.ctr (simB + 0x400) + 1 ∧
      (source.toNat ∈ s.si.rerun → source.toNat ∈ t.si.unitBad ∧ source.toNat ∉ t.si.rerun))

/-- A failed quire is scrubbed and ready or replaced, takes over at a tick boundary, and the CP comes back without its uncommitted commands (R144, R146, R147, R148, R486, R492). QUIRE_SCRUB of a fenced quire to be kept clears it but for channels and kernels and makes it ready to take over; of a quire in service it changes nothing. QUIRE_RETIREMENT of a quire to be retired loads the spare chosen (same cluster, else powered, else any) or, with none, retires the quire and takes it from its slipcase; QUIRE_TAKEOVER puts the ready quire in service, and where it replaces another, that one is RETIRED; without one ready it changes nothing. CP_RESTART with the CP down brings it back, counts once, and leaves nothing staged; with the CP up it changes nothing. -/
def Obligations.QuiresAreScrubbedReplacedAndTheCpRestarts : Prop :=
  (∀ (q : BitVec 7) (s : State), s.canonical = true → s.qState q.toNat = 2 → (q.toNat, false) ∈ s.si.recover →
    ∃ t, exec (.quireScrub q) s = .next t ∧ t = { s with quires := t.quires, si := { s.si with takeover := t.si.takeover } } ∧
      t.quire q.toNat = { Quire.scrub (s.quire q.toNat) with chans := (s.quire q.toNat).chans, kernels := (s.quire q.toNat).kernels } ∧
      (∃ r, (q.toNat, r) ∈ t.si.takeover) ∧ (∀ k, k ≠ q.toNat → t.quire k = s.quire k)) ∧
  (∀ (q : BitVec 7) (s : State), s.qState q.toNat = 1 → (s.quire q.toNat).slip ≠ none → exec (.quireScrub q) s = .next s) ∧
  (∀ (q : BitVec 7) (r : Nat) (s : State), s.canonical = true → s.qState q.toNat = 2 → (q.toNat, true) ∈ s.si.recover →
    (∀ p ∈ s.si.takeover, p.1 ≠ q.toNat) → s.pickSpare q.toNat = some r →
    ∃ t, exec (.quireRetirement q) s = .next t ∧ (q.toNat, r) ∈ t.si.takeover ∧ (t.quire r).slip = (s.quire q.toNat).slip ∧
      (t.quire r).kernels = (s.quire q.toNat).kernels ∧ t.slips = s.slips ∧ t.graphs = s.graphs) ∧
  (∀ (q : BitVec 7) (s : State), s.canonical = true → s.qState q.toNat = 2 → (q.toNat, true) ∈ s.si.recover →
    (∀ p ∈ s.si.takeover, p.1 ≠ q.toNat) → s.pickSpare q.toNat = none →
    ∃ t, exec (.quireRetirement q) s = .next t ∧ t.qState q.toNat = 3 ∧ (t.quire q.toNat).slip = none ∧ t.si.replan = true ∧
      (∀ n, q.toNat ∉ (t.slip n).quires) ∧ t.graphs = s.graphs) ∧
  (∀ (q : BitVec 7) (r : Nat) (s : State), s.canonical = true → s.si.takeover.find? (fun p => p.1 = q.toNat) = some (q.toNat, r) → r < 68 → r ≠ q.toNat →
    ∃ t, exec (.quireTakeover q) s = .next t ∧ t.qState r = 1 ∧ t.qState q.toNat = 3 ∧ t.tim = s.tim) ∧
  (∀ (q : BitVec 7) (s : State), (∀ p ∈ s.si.takeover, p.1 ≠ q.toNat) → exec (.quireTakeover q) s = .next s) ∧
  (∀ s : State, s.si.cpDown = true → ∃ t, exec .cpRestart s = .next t ∧ t.si.cpDown = false ∧ t.staged = [] ∧ t.tim = s.tim ∧ t.graphs = s.graphs ∧
    (s.canonical = true → t.ctr (simB + 0x438) = s.ctr (simB + 0x438) + 1)) ∧
  (∀ s : State, s.si.cpDown = false → exec .cpRestart s = .next s)

/-- The Security Engine's commands complete with their effects on keys, images, sessions, debug access and lifecycle (R396, R425, R426, R430, R431, R435, R436, R437, R438). On every state where the packet starts: COLOPHON_GET with room for its report writes header, blocks and a signature and returns its length and STATE; SPDM_MESSAGE answers a response of a free length and runs the request; KEY_SLOT_GEN with the TRNG OK makes a fresh slot and its old granules DIRTY, KEY_SLOT_ERASE an empty one, neither on an IN_SERVICE slot; FW_STAGE of a signed image that is not too old stages it; FW_COMMIT runs the staged image under a new vault generation and ends every session; DEBUG_CHALLENGE issues a nonce and DEBUG_RESPONSE with a good signature opens debug with keys and sessions gone, with a bad one uses up the nonce and is counted; LIFECYCLE_ADVANCE with a good authorisation moves the lifecycle, and into RMA erases the vault and the keys. Random values are free values (log entry 2). -/
def Obligations.SecurityCommandsComplete : Prop :=
  (∀ (h : CmdRef) (nonce : BitVec 256) (g : Sgl) (f : Fetched) (p : Nat → Bool) (bl : List (List Nat)) (s b : State),
    s.Starts h 0x0901 (.colophonGet h nonce g) f b → p = (fun n => h.fn = 0 || decide (b.fnSlip h.fn.toNat = some n)) →
    bl = b.devBlocks ++ b.graphBlocks p → sglErr g (192 + 64 * bl.length) = none →
    ∃ u t w e, exec (.colophonGet h nonce g) s = .next t ∧ State.Answered u t h 0 0 (result [(192 + 64 * bl.length, 4), (b.colState p, 1)]) ∧
      u = { b with free := b.free + 1, ctrs := u.ctrs, out := e :: b.out } ∧ e.kind = .sglWrite ∧ e.dst = [h.fn.toNat, h.qp.toNat, h.tag.toNat] ∧
      e.data = [0x48434F43, 1] ++ w ++ bl.flatten ++ [Config.freeValue b.free] ∧ w.length = 11 ∧ w[7]? = some nonce.toNat ∧
      (b.canonical = true → u.ctr (semB + 0x100) = b.ctr (semB + 0x100) + 1)) ∧
  (∀ (h : CmdRef) (req rsp : Sgl) (n : BitVec 32) (r : SpdmReq) (f : Fetched) (s b : State), s.Starts h 0x0902 (.spdmMessage h req rsp n r) f b →
    sglErr req n.toNat = none → b.sec.trng ≠ 2 → sglErr rsp (Config.freeValue b.free % 2 ^ 32) = none →
    ∃ u, exec (.spdmMessage h req rsp n r) s = .next (State.complete u h 0 0 (result [(Config.freeValue b.free % 2 ^ 32, 4)])) ∧
      (∀ hb, r = .keyExchange hb → u.sec.sessions = (if 4 ≤ b.sec.sessions.length then b.sec.sessions else
        b.sec.sessions ++ [{ id := b.sec.nextSession, up := false, period := hb.toNat, seen := b.tim.systime }])) ∧
      (∀ i, r = .finish i true → ∀ x ∈ u.sec.sessions, x.id = i → x.up = true ∨ ∀ y ∈ b.sec.sessions, y.id = i → y.up = true) ∧
      (∀ i, r = .endSession i → b.hasSession i = true → ∀ x ∈ u.sec.sessions, x.id ≠ i) ∧
      (r = .getVersion ∨ r = .getMeasurements ∨ r = .unsupported → u.sec = b.sec)) ∧
  (∀ (h : CmdRef) (slot : BitVec 16) (f : Fetched) (s b : State), s.Starts h 0x0903 (.keySlotGen h slot) f b → b.canonical = true →
    slot.toNat < 4096 → (b.key slot.toNat).state ≠ 2 → b.sec.trng ≠ 2 →
    ∃ u t, exec (.keySlotGen h slot) s = .next t ∧ State.Answered u t h 0 0 0 ∧ u = { b with keys := u.keys, granules := u.granules, free := b.free + 1 } ∧
      u.key slot.toNat = { state := 1, key := Config.freeValue b.free } ∧ (∀ k, k ≠ slot.toNat → u.key k = b.key k) ∧
      (∀ g, u.gran g = if b.gran g = .owned slot.toNat then .dirty else b.gran g)) ∧
  (∀ (h : CmdRef) (slot : BitVec 16) (f : Fetched) (s b : State), s.Starts h 0x0904 (.keySlotErase h slot) f b → b.canonical = true →
    slot.toNat < 4096 → (b.key slot.toNat).state ≠ 2 →
    ∃ u t, exec (.keySlotErase h slot) s = .next t ∧ State.Answered u t h 0 0 0 ∧ u.key slot.toNat = {} ∧ (∀ k, k ≠ slot.toNat → u.key k = b.key k) ∧
      (∀ g, u.gran g = if b.gran g = .owned slot.toNat then .dirty else b.gran g) ∧ (∀ x ∈ u.staged, x.ref = h ∨ x.onKey slot.toNat = false)) ∧
  (∀ (h : CmdRef) (g : Sgl) (i : FwImage) (v : Vault) (f : Fetched) (s b : State), s.Starts h 0x0905 (.fwStage h g i) f b →
    b.sec.staged = none → sglErr g i.bytes = none → i.sigOk = true → b.sec.vault = some v → v.fwSvn ≤ i.svn.toNat → (v.fwSvn = i.svn.toNat ∨ v.svn < 255) →
    ∃ t, exec (.fwStage h g i) s = .next t ∧
      State.Answered { b with sec := { b.sec with staged := some i } } t h 0 0 (result [(i.bytes, 8)])) ∧
  (∀ (h : CmdRef) (i : FwImage) (v : Vault) (f : Fetched) (s b : State), s.Starts h 0x0906 (.fwCommit h) f b → b.sec.staged = some i → b.sec.vault = some v →
    ∃ u w, exec (.fwCommit h) s = .next (State.complete u h 0 0 (result [(v.gen + 1, 4)])) ∧ u.sec.active = i ∧ u.sec.staged = none ∧ u.sec.sessions = [] ∧
      u.sec.vault = some w ∧ w.gen = v.gen + 1 ∧ w.fwSvn = max v.fwSvn i.svn.toNat ∧ w.fwDigest = i.digest ∧ w.owner = v.owner ∧ w.pubs = v.pubs ∧
      u.sec.floor = max b.sec.floor w.svn ∧ u.sec.life = b.sec.life ∧ u.tim = b.tim ∧ u.graphs = b.graphs) ∧
  (∀ (h : CmdRef) (g : Sgl) (f : Fetched) (s b : State), s.Starts h 0x0907 (.debugChallenge h g) f b → b.sec.life = 2 ∨ b.sec.life = 3 → b.sec.dbgOpen = false →
    b.sec.vault ≠ none → b.sec.trng ≠ 2 → sglErr g 32 = none →
    ∃ t, exec (.debugChallenge h g) s = .next t ∧
      State.Answered (State.sglWrite { b with free := b.free + 1, sec := { b.sec with nonce := some (Config.freeValue b.free % 2 ^ 256, b.tim.systime) } } h
        [Config.freeValue b.free % 2 ^ 256]) t h 0 0 0) ∧
  (∀ (h : CmdRef) (g : Sgl) (ok : Bool) (f : Fetched) (s b : State), s.Starts h 0x0908 (.debugResponse h g ok) f b → sglErr g 96 = none → b.sec.nonce.isSome = true →
    (ok = true → ∃ u, exec (.debugResponse h g ok) s = .next (State.complete u h 0 0 0) ∧ u.sec.dbgOpen = true ∧ u.sec.nonce = none ∧ u.sec.sessions = [] ∧
      u.keys = [] ∧ u.tim = b.tim) ∧
    (ok = false → ∃ u t, exec (.debugResponse h g ok) s = .next t ∧ State.Answered u t h 0x300 7 0 ∧
      u = { b with regs := u.regs, ctrs := u.ctrs, sec := { b.sec with nonce := none } } ∧
      (b.canonical = true → u.ctr (semB + 0x110) = b.ctr (semB + 0x110) + 1 ∧ u.reg seErr = b.reg seErr ||| 2))) ∧
  (∀ (h : CmdRef) (target : BitVec 8) (g : Sgl) (a : LifeAuth) (f : Fetched) (s b : State), s.Starts h 0x0909 (.lifecycleAdvance h target g a) f b →
    sglErr g 720 = none → b.sec.mayMove target.toNat = true → b.sec.authOk a target.toNat = true → (b.sec.nextVault a target.toNat).svn ≤ 255 →
    ∃ u, exec (.lifecycleAdvance h target g a) s = .next (State.complete u h 0 0 0) ∧ u.sec.life = target.toNat ∧ u.sec.sessions = [] ∧ u.tim = b.tim ∧
      (target ≠ 4 → u.sec.vault = some (b.sec.nextVault a target.toNat) ∧ u.keys = b.keys) ∧
      (target = 4 → u.sec.vault = none ∧ u.sec.slotA = none ∧ u.sec.slotB = none ∧ u.sec.copy0 = none ∧ u.sec.copy1 = none ∧ u.keys = []))

/-- Random-number, session, DOE, IDE, interface and link-error events have their effect when due and none otherwise (R417, R418, R419, R429, R538, R539, R540, R543, R555, R561). In every state: DRBG_RESEED acts while the TRNG is OK; TRNG_FAIL makes it FAILED and reports the fault; TRNG_RESTART acts 100 ms after the failure; NONCE_EXPIRY removes a nonce 10 s old; HEARTBEAT_MISSED ends exactly the sessions silent for three periods; DOE_REQUEST sets DOE Error for an unsupported protocol or an object beyond 4 KiB, else leaves a response waiting, and does nothing under DOE Error; DOE_ABORT clears the mailbox; IDE_CHECK_FAILED makes the stream Insecure and its locked interfaces ERROR; LOCK_INTERFACE locks an unlocked VF of an ACTIVE slipcase only, STOP_INTERFACE unlocks it; poisoned TLPs, accesses beyond a BAR and unexpected completions are dropped, counted and reported; PTM_REQUEST asks while PTM is a candidate source; EXTEST drives the pins as told. -/
def Obligations.SecurityEventsAct : Prop :=
  (∀ s : State, exec .drbgReseed s = .next (if s.sec.trng = 1 then ({ s with sec := { s.sec with reseedAt := s.tim.systime } } : State).bump (semB + 0x120) else s)) ∧
  (∀ s : State, s.canonical = true → ∃ t, exec .trngFail s = .next t ∧ t.sec = { s.sec with trng := 2, trngAt := s.tim.systime } ∧
    t.ctr (semB + 0x128) = s.ctr (semB + 0x128) + 1 ∧ (s.si.dead = false → t.ctr (simB + 0x400) = s.ctr (simB + 0x400) + 1)) ∧
  (∀ (pass : Bool) (s : State), exec (.trngRestart pass) s = .next (if s.sec.trng = 2 ∧ s.sec.trngAt + 100000000 ≤ s.tim.systime then
      (if pass then { s with sec := { s.sec with trng := 1 } } else { s with sec := { s.sec with trngAt := s.tim.systime } }) else s)) ∧
  (∀ (v n : Nat) (s : State), s.sec.nonce = some (v, n) →
    exec .nonceExpiry s = .next (if n + 10000000000 ≤ s.tim.systime then { s with sec := { s.sec with nonce := none } } else s)) ∧
  (∀ s : State, s.sec.nonce = none → exec .nonceExpiry s = .next s) ∧
  (∀ s : State, ∃ t, exec .heartbeatMissed s = .next t ∧ t.tim = s.tim ∧ t.graphs = s.graphs ∧
    (∀ x, x ∈ t.sec.sessions ↔ x ∈ s.sec.sessions ∧
      ∀ y ∈ s.sec.sessions, y.id = x.id → ¬ (0 < y.period ∧ y.seen + 3 * y.period * 1000000000 ≤ s.tim.systime)) ∧
    ((∀ y ∈ s.sec.sessions, ¬ (0 < y.period ∧ y.seen + 3 * y.period * 1000000000 ≤ s.tim.systime)) → t = s)) ∧
  (∀ (proto : BitVec 8) (len : BitVec 32) (r : SpdmReq) (s : State), s.sec.doeErr = false → ∃ t, exec (.doeRequest proto len r) s = .next t ∧
    (2 < proto.toNat ∨ 4096 < len.toNat → t = { s with sec := { s.sec with doeErr := true, doeReady := false } }) ∧
    (proto.toNat ≤ 2 → len.toNat ≤ 4096 → t.sec.doeReady = true ∧ t.sec.doeErr = false ∧ ∃ e, t.out = e :: (t.out.drop 1) ∧ e.kind = .link)) ∧
  (∀ (proto : BitVec 8) (len : BitVec 32) (r : SpdmReq) (s : State), s.sec.doeErr = true → exec (.doeRequest proto len r) s = .next s) ∧
  (∀ s : State, exec .doeAbort s = .next { s with sec := { s.sec with doeErr := false, doeReady := false } }) ∧
  (∀ (n : BitVec 8) (i : IdeStream) (s : State), s.canonical = true → s.sec.streams.find? (fun i => decide (i.id = n.toNat)) = some i →
    ∃ t, exec (.ideCheckFailed n) s = .next t ∧ (∀ j ∈ t.sec.streams, j.id = n.toNat → j.insecure = true ∧ j.active = none) ∧
      (∀ f ∈ i.fns, (s.fn f).tdisp = .locked ∨ (s.fn f).tdisp = .run → (t.fn f).tdisp = .error) ∧ t.tim = s.tim) ∧
  (∀ (n : BitVec 8) (s : State), (∀ i ∈ s.sec.streams, i.id ≠ n.toNat) → exec (.ideCheckFailed n) s = .next s) ∧
  (∀ (fn : BitVec 12) (s : State), ∃ t, exec (.lockInterface fn) s = .next t ∧ t = { s with fns := t.fns, out := t.out } ∧
    ((fn ≠ 0 ∧ (s.fn fn.toNat).exist = true ∧ (s.fn fn.toNat).tdisp = .unlocked ∧ ∃ n, s.fnSlip fn.toNat = some n ∧ (s.slip n).state = 1) →
      t.fn fn.toNat = { s.fn fn.toNat with tdisp := .locked } ∧ ∀ f, f ≠ fn.toNat → t.fn f = s.fn f) ∧
    (fn = 0 ∨ (s.fn fn.toNat).exist = false ∨ (s.fn fn.toNat).tdisp ≠ .unlocked ∨ s.fnSlip fn.toNat = none → t.fns = s.fns)) ∧
  (∀ (fn : BitVec 12) (s : State), s.canonical = true → fn ≠ 0 → (s.fn fn.toNat).exist = true → ∃ t, exec (.stopInterface fn) s = .next t ∧
    (t.fn fn.toNat).tdisp = .unlocked ∧ (∀ f, f ≠ fn.toNat → t.fn f = s.fn f) ∧ (∀ q, q < 256 → t.qp (fn.toNat * 256 + q) = {}) ∧ t.tim = s.tim) ∧
  (∀ (fn : BitVec 12) (s : State), fn = 0 ∨ (s.fn fn.toNat).exist = false → exec (.stopInterface fn) s = .next s) ∧
  (∀ (fn : BitVec 12) (off : BitVec 64) (s : State), exec (.poisonedTlp fn off) s =
    .next (({ s with out := { kind := .aer, dst := [fn.toNat, 2], data := [0, off.toNat] } :: s.out } : State).bump (xioB + 0x410))) ∧
  (∀ s : State, exec .unexpectedCompletion s = .next { s with out := { kind := .aer, dst := [0, 3], data := [] } :: s.out }) ∧
  (∀ (fn : BitVec 12) (off : BitVec 64) (w : Bool) (s : State), fn = 0 → 0x10000000 ≤ off.toNat → ∃ t, exec (.unsupportedRequest fn off w) s = .next t ∧
    t = { s with ctrs := t.ctrs, out := t.out } ∧ (s.canonical = true → t.ctr (xioB + 0x408) = s.ctr (xioB + 0x408) + 1) ∧
    t.out = (if w then [{ kind := .aer, dst := [0, 2], data := [off.toNat] }] else
      [{ kind := .aer, dst := [0, 2], data := [off.toNat] }, { kind := .unsupported, dst := [0], data := [off.toNat] }]) ++ s.out) ∧
  (∀ (fn : BitVec 12) (off : BitVec 64) (w : Bool) (s : State), off.toNat < 0x10000 → (fn = 0 ∨ (s.fn fn.toNat).exist = true) →
    exec (.unsupportedRequest fn off w) s = .next s) ∧
  (∀ s : State, exec .ptmRequest s = .next (if s.candidates.contains 3 then
    { s with out := { kind := .link, dst := [1], data := [] } :: s.out, tim := { s.tim with ptmReq := true } } else s)) ∧
  (∀ (pins : List (Nat × Nat)) (s : State), exec (.extest pins) s =
    .next { s with xio := { s.xio with extest := true }, out := pins.reverse.map (fun p => { kind := .pin, dst := [p.1], data := [p.2] }) ++ s.out })

/-- Snapshots are taken at their tick and read back; alarms and logs are listed, acknowledged, configured and sent (R502, R503, R504, R506, R507, R508, R509, R510, R511, R512). CUPPING_SCHEDULE of a local snapshot, AT_TICK in range and none pending, leaves the snapshot pending for that tick; SNAPSHOT_TICK from then on copies every counter into its shadow and answers the command with the identifier, and before changes nothing; SNAPSHOT_READ of the held snapshot returns the shadow of the counter named and its tick. ALARM_READ writes every entry and returns their number; ALARM_ACK frees the entries of a cause that are no longer present and acknowledges the others; LOG_CONFIG of a LOG queue sets queue, caps and mask. ALARM_RECORD_EGRESS sends an entry that is due where the queue has a place and the cap is free, once; LOG_EGRESS sends logs before traces; without a place neither changes anything. ALARM_SUMMARY merges entries from a child only, and sends the member's own no sooner than 1 ms after the last. -/
def Obligations.ObservationsComplete : Prop :=
  (∀ (h : CmdRef) (f : Fetched) (d : Nat) (s b : State), s.startable h 0x0A01 = some f → b = s.brewFor f (.cuppingSchedule h 0) →
    b.objErr 0x0A01 h.fn.toNat f.objId.toNat = none → b.lead f.atTick = some d → b.obs.snapPend = none → b.bind.snapRef = none →
    exec (.cuppingSchedule h 0) s = .next (State.setCmdPhase { b with obs :=
      { b.obs with snapLocal := (b.obs.snapLocal + 1) % 2 ^ 31, snapPend := some (some ((b.obs.snapLocal + 1) % 2 ^ 31), b.tim.tick + d, some h) } } h .staged)) ∧
  (∀ (h : CmdRef) (f : Fetched) (d : Nat) (s b : State), s.startable h 0x0A01 = some f → b = s.brewFor f (.cuppingSchedule h 1) →
    b.objErr 0x0A01 h.fn.toNat f.objId.toNat = none → b.lead f.atTick = some d → b.obs.snapPend = none → b.bind.snapRef = none → b.bindLead ≤ d →
    ∃ u, exec (.cuppingSchedule h 1) s = .next (State.setCmdPhase u h .staged) ∧
      ((b.bind.member && !b.bind.isRoot) = true → u.bind.snapRef = some h ∧ u.obs = b.obs) ∧
      ((b.bind.member && !b.bind.isRoot) = false →
        u.obs = { b.obs with snapBind := (b.obs.snapBind + 1) % 2 ^ 31, snapPend := some (some (2 ^ 31 + (b.obs.snapBind + 1) % 2 ^ 31), b.tim.tick + d, some h) })) ∧
  (∀ (id tick : Nat) (h : CmdRef) (f : Fetched) (s : State), s.canonical = true → s.obs.snapPend = some (some id, tick, some h) → tick ≤ s.tim.tick →
    s.fetchedOf h = some f →
    ∃ u t, exec .snapshotTick s = .next t ∧ State.Answered u t h 0 0 (result [(id, 4)]) ∧ u.shadow = s.ctrs ∧ u.obs.snapPend = none ∧
      u.obs.snapId = BitVec.ofNat 32 id ∧ u.obs.snapTick = tick ∧ (∀ n, (u.slip n).shadow = (s.slip n).cnt ∨ u.slip n = {}) ∧ u.regs = s.regs) ∧
  (∀ s : State, (∀ id tick ref, s.obs.snapPend = some (id, tick, ref) → s.tim.tick < tick) → exec .snapshotTick s = .next s) ∧
  (∀ (h : CmdRef) (id c : BitVec 32) (f : Fetched) (s b : State), s.Starts h 0x8A01 (.snapshotRead h id c) f b → h.fn = 0 → id = b.obs.snapId → id ≠ 0 →
    isCounter c.toNat = true → ∃ t, exec (.snapshotRead h id c) s = .next t ∧
      State.Answered b t h 0 0 (result [((SMap.get 0 b.shadow c.toNat).toNat, 8), (b.obs.snapTick % 2 ^ 32, 4)])) ∧
  (∀ (h : CmdRef) (g : Sgl) (f : Fetched) (s b : State), s.Starts h 0x0A02 (.alarmRead h g) f b →
    sglErr g (8 * (b.alarmList h.fn.toNat).1.length) = none → ∃ t, exec (.alarmRead h g) s = .next t ∧
      State.Answered { b with out := { kind := .sglWrite, dst := [h.fn.toNat, h.qp.toNat, h.tag.toNat], data := (b.alarmList h.fn.toNat).1 } :: b.out } t h 0 0
        (result [((b.alarmList h.fn.toNat).2, 2)]) ∧
      (h.fn = 0 → b.bind.member = false → (b.alarmList 0).2 = (b.obs.alarms.filter (fun e => decide (e.2.cause ≠ 0))).length)) ∧
  (∀ (h : CmdRef) (cause : BitVec 16) (f : Fetched) (s b : State), s.Starts h 0x0A03 (.alarmAck h cause) f b → b.canonical = true → cause ≠ 0 →
    SMap.wf {} b.obs.alarms = true → (∃ e ∈ b.obs.alarms, e.2.cause = cause.toNat) →
    ∃ u t, exec (.alarmAck h cause) s = .next t ∧ State.Answered u t h 0 0 0 ∧ u = { b with obs := { b.obs with alarms := u.obs.alarms }, slips := u.slips } ∧
      (cause ≠ 0x100 → u.slips = b.slips) ∧ (cause = 0x100 → ∀ n, (u.slip n).lost = 0) ∧
      ∀ i, SMap.get {} u.obs.alarms i = (let a := SMap.get ({} : Alarm) b.obs.alarms i
        if a.cause = cause.toNat then (if a.present then { a with acked := true } else {}) else a)) ∧
  (∀ (h : CmdRef) (func lc tc : BitVec 16) (q : BitVec 8) (m : BitVec 64) (f : Fetched) (s b : State), s.Starts h 0x0A04 (.logConfig h func q lc tc m) f b →
    m.toNat < 256 → (b.qp (func.toNat * 256 + q.toNat)).valid = true → (b.qp (func.toNat * 256 + q.toNat)).kind = 7 →
    ∃ t, exec (.logConfig h func q lc tc m) s = .next t ∧ State.Answered
      { b with obs := { b.obs with logQ := some (func.toNat, q.toNat), logCap := lc.toNat, traceCap := tc.toNat, traceMask := m } } t h 0 0 0) ∧
  (∀ (i : BitVec 8) (k : Nat) (a : Alarm) (s : State), SMap.wf {} s.obs.alarms = true → s.logPlace = some k → a = SMap.get {} s.obs.alarms i.toNat →
    s.alarmDue a = true → s.capFree 0 64 = true →
    ∃ t, exec (.alarmRecordEgress i) s = .next t ∧ SMap.get {} t.obs.alarms i.toNat = { a with due := false, sentAt := some s.tim.systime } ∧
      (∀ j, j ≠ i.toNat → SMap.get ({} : Alarm) t.obs.alarms j = SMap.get {} s.obs.alarms j) ∧ t.obs.ring = s.obs.ring ∧ t.tim = s.tim ∧ t.regs = s.regs) ∧
  (∀ (i : BitVec 8) (s : State), (s.logPlace = none ∨ s.alarmDue (SMap.get {} s.obs.alarms i.toNat) = false ∨ s.capFree 0 64 = false) →
    exec (.alarmRecordEgress i) s = .next s) ∧
  (∀ (k : Nat) (s : State), s.logPlace = some k → (∀ e ∈ s.obs.alarms, s.alarmDue e.2 = false) → s.obs.ring ≠ [] →
    (s.obs.ring.any ObsRec.isLog = true → s.capFree 1 s.obs.logCap = true) → (s.obs.ring.any ObsRec.isLog = false → s.capFree 2 s.obs.traceCap = true) →
    ∃ t i r, exec .logEgress s = .next t ∧ s.obs.ring[i]? = some r ∧ r.isLog = s.obs.ring.any ObsRec.isLog ∧ (∀ j x, j < i → s.obs.ring[j]? = some x → x.isLog ≠ r.isLog) ∧
      (s.obs.runLog.count = 0 → s.obs.runTrace.count = 0 → t.obs.ring = s.obs.ring.eraseIdx i) ∧ t.obs.alarms = s.obs.alarms ∧ t.tim = s.tim ∧ t.regs = s.regs) ∧
  (∀ s : State, s.logPlace = none → exec .logEgress s = .next s) ∧
  (∀ (p : BitVec 2) (e : Nat × Nat × Nat × Nat) (s : State), p.toNat ∈ s.bind.children → (∀ x ∈ s.obs.sums, x.dev ≠ e.1 ∨ x.cause ≠ e.2.1) →
    s.obs.sums.length < 1024 →
    exec (.alarmSummary p [e]) s = .next (State.bump { s with obs := { s.obs with sums := s.obs.sums ++
      [{ dev := e.1, cause := e.2.1, count := e.2.2.1, last := e.2.2.2, dirty := true }] } } (obsB + 0x138))) ∧
  (∀ (p : BitVec 2) (e : Nat × Nat × Nat × Nat) (l : List (Nat × Nat × Nat × Nat)) (s : State), p.toNat ∉ s.bind.children →
    exec (.alarmSummary p (e :: l)) s = .next s) ∧
  (∀ (p : BitVec 2) (q : Nat) (s : State), s.bind.parent = some q → s.tim.systime < s.obs.sumSent + 1000000 →
    ∃ t, exec (.alarmSummary p []) s = .next t ∧ t = { s with obs := { s.obs with sums := t.obs.sums, sumOvf := t.obs.sumOvf } })

/-- Graph commands load, start, stop, bind, query and unload a graph, and leave the other graphs as they were (R362, R379, R382, R385, R588). On every state where the packet starts: GRAPH_LOAD of a package that passes every check answers the next graph's number, its quires, parts and bytes; the new graph is LOADED in its slipcase on the first free quires. GRAPH_START of a LOADED or STOPPED graph leaves it RUNNING from the present tick, and is a TRANSITION error otherwise. GRAPH_STOP and GRAPH_UNLOAD are refused under a contract; else STOP leaves a running graph STOPPED and any other as it is, UNLOAD leaves no such graph. GRAPH_BIND to a fitting queue of the slipcase's function stores it. GRAPH_QUERY reports state, rebase phase, contract and switch tick. No command changes another graph. -/
def Obligations.GraphCommandsComplete : Prop :=
  (∀ (h : CmdRef) (slip : BitVec 8) (g : Sgl) (p : Package) (f : Fetched) (s b : State), s.Starts h 0x0201 (.graphLoad h slip g p) f b →
    (h.fn = 0 ∨ b.fnSlip h.fn.toNat = some slip.toNat) → slip.toNat < 64 → (b.slip slip.toNat).state = 1 → b.sealedFor h slip.toNat = false →
    sglErr g p.bytes = none → b.pkgErr slip.toNat p = none →
    ∃ u t, exec (.graphLoad h slip g p) s = .next t ∧
      State.Answered u t h 0 0 (result [(b.nextGraph, 4), (p.nQuires, 1), (Package.parts p, 1), (0, 2), (p.bytes, 8)]) ∧
      u.nextGraph = b.nextGraph + 1 ∧ (u.graph b.nextGraph).exist = true ∧ (u.graph b.nextGraph).slip = slip.toNat ∧ (u.graph b.nextGraph).state = 0 ∧
      (u.graph b.nextGraph).quires = (b.freeQs slip.toNat).take p.nQuires ∧ (u.graph b.nextGraph).parts = Package.parts p ∧ (u.graph b.nextGraph).contract = 0 ∧
      (∀ k, k ≠ b.nextGraph → u.graph k = b.graph k) ∧ u.tim = b.tim ∧ u.slips = b.slips ∧ u.contracts = b.contracts) ∧
  (∀ (h : CmdRef) (f : Fetched) (g : Nat) (s b : State), s.Starts h 0x0203 (.graphStart h) f b → g = f.objId.toNat → (b.graph g).state = 0 ∨ (b.graph g).state = 2 →
    ∃ u t, exec (.graphStart h) s = .next t ∧ State.Answered u t h 0 0 (result [(b.tim.tick, 8)]) ∧ (u.graph g).state = 1 ∧ (u.graph g).startTick = b.tim.tick ∧
      (u.graph g).closed = b.tim.tick ∧ (u.graph g).quires = (b.graph g).quires ∧ (u.graph g).contract = (b.graph g).contract ∧
      (∀ k, k ≠ g → u.graph k = b.graph k) ∧
      u = { b with graphs := u.graphs, hops := u.hops, sfms := u.sfms, ascu := u.ascu, fu := u.fu, quires := u.quires, regs := u.regs }) ∧
  (∀ (h : CmdRef) (f : Fetched) (s b : State), s.Starts h 0x0203 (.graphStart h) f b → (b.graph f.objId.toNat).state = 1 →
    ∃ t, exec (.graphStart h) s = .next t ∧ State.Answered b t h 0x700 2 0) ∧
  (∀ (h : CmdRef) (f : Fetched) (g : Nat) (s b : State), s.Starts h 0x0204 (.graphStop h) f b → g = f.objId.toNat → (b.graph g).contract = 0 →
    ∃ u, exec (.graphStop h) s = .next (State.complete u h 0 0 (result [(b.tim.tick, 8)])) ∧ ((b.graph g).state ≠ 1 → u = b) ∧
      ((b.graph g).state = 1 → (u.graph g).state = 2) ∧ (∀ k, k ≠ g → u.graph k = b.graph k) ∧ u.tim = b.tim ∧ u.slips = b.slips ∧ u.contracts = b.contracts) ∧
  (∀ (h : CmdRef) (f : Fetched) (s b : State), s.Starts h 0x0204 (.graphStop h) f b → (b.graph f.objId.toNat).contract ≠ 0 →
    ∃ t, exec (.graphStop h) s = .next t ∧ State.Answered b t h 0x300 1 0) ∧
  (∀ (h : CmdRef) (f : Fetched) (g : Nat) (s b : State), s.Starts h 0x0202 (.graphUnload h) f b → b.canonical = true → g = f.objId.toNat → (b.graph g).contract = 0 →
    ∃ u, exec (.graphUnload h) s = .next (State.complete u h 0 0 0) ∧ u.graph g = {} ∧ (∀ k, k ≠ g → u.graph k = b.graph k) ∧ (∀ r ∈ u.recs, r.graph ≠ g) ∧
      (∀ x ∈ u.staged, x ∈ b.staged) ∧ u.tim = b.tim ∧ u.nextGraph = b.nextGraph ∧ u.contracts = b.contracts) ∧
  (∀ (h : CmdRef) (f : Fetched) (s b : State), s.Starts h 0x0202 (.graphUnload h) f b → (b.graph f.objId.toNat).contract ≠ 0 →
    ∃ t, exec (.graphUnload h) s = .next t ∧ State.Answered b t h 0x300 1 0) ∧
  (∀ (h : CmdRef) (func : BitVec 16) (q : BitVec 8) (f : Fetched) (g : Nat) (s b : State), s.Starts h 0x0205 (.graphBind h func q) f b → g = f.objId.toNat →
    func ≠ 0 → func.toNat < 4096 → b.fnSlip func.toNat = some (b.graph g).slip →
    ((b.qp (func.toNat * 256 + q.toNat)).valid = true → (b.qp (func.toNat * 256 + q.toNat)).kind = 2 →
      (b.qp (func.toNat * 256 + q.toNat)).fits (b.graph g).maxRec = true) →
    ∃ t, exec (.graphBind h func q) s = .next t ∧
      State.Answered (b.modGraph g (fun x => { x with bind := some (func.toNat, q.toNat) })) t h 0 0 0) ∧
  (∀ (h : CmdRef) (f : Fetched) (g : Nat) (s b : State), s.Starts h 0x8201 (.graphQuery h) f b → g = f.objId.toNat →
    ∃ t, exec (.graphQuery h) s = .next t ∧ State.Answered b t h 0 0
      (result [((b.graph g).state, 1), (b.rebasePhase g, 1), (0, 2), ((b.graph g).contract, 4), (b.switchTick g, 8)]))

/-- Contracts are admitted, refused, released, queried and their policy set (R317, R318, R328, R332, R333, R334, R335, R383). On every state where the packet starts: CONTRACT_ADMIT of a contract of this device that passes the checks and the computation is answered with the next identifier, its latency, effective tick and warmth, the contract stands ADMITTED for its graph, and no other contract changes; one that fails a check or the computation is answered with that status, detail and result and has no effect. CONTRACT_RELEASE leaves no contract of that identifier and the graph without one. CONTRACT_QUERY writes the 128-byte report. CONTRACT_POLICY in range, with no live contract and no admission under way, stores the seven values. -/
def Obligations.ContractCommandsComplete : Prop :=
  (∀ (h : CmdRef) (d : ConDesc) (l : List ConSrc) (p : AdmitPlan) (f : Fetched) (c : Nat) (s b : State), s.Starts h 0x0301 (.contractAdmit h d l p) f b →
    b.conRefuse h.fn.toNat d l = none → b.conFails d l p = none → (d.flags.getLsbD 1 = false ∨ p.parts = []) → c = b.nextContract →
    ∃ u t, exec (.contractAdmit h d l p) s = .next t ∧
      State.Answered u t h 0 0 (result [(c, 4), (b.conWc d l p, 4), (b.tim.tick + 2 * ((p.winNs + b.tickLen - 1) / b.tickLen), 4), ((b.conWarm d l p).toNat, 1), (0, 1), (0, 2)]) ∧
      (u.contract c).exist = true ∧ (u.contract c).state = 0 ∧ (u.contract c).graph = d.graph.toNat ∧ (u.contract c).deadline = d.deadline.toNat ∧
      (u.contract c).lead = d.revokeLead.toNat ∧ (u.contract c).srcs = l ∧ (u.graph d.graph.toNat).contract = c ∧ u.nextContract = c + 1 ∧
      (∀ k, k ≠ c → u.contract k = b.contract k) ∧ (∀ k, k ≠ d.graph.toNat → u.graph k = b.graph k) ∧ u.tim = b.tim ∧ u.slips = b.slips) ∧
  (∀ (h : CmdRef) (d : ConDesc) (l : List ConSrc) (p : AdmitPlan) (f : Fetched) (st det : Nat) (r : BitVec 128) (s b : State),
    s.Starts h 0x0301 (.contractAdmit h d l p) f b → det ≠ 0xF007 →
    ((b.conRefuse h.fn.toNat d l = some (st, det) ∧ r = 0) ∨ (b.conRefuse h.fn.toNat d l = none ∧ ∃ e, b.conFails d l p = some e ∧ conInfeasible e = (st, det, r))) →
    ∃ t, exec (.contractAdmit h d l p) s = .next t ∧ State.Answered b t h st det r) ∧
  (∀ (h : CmdRef) (arbs : List (Nat × Nat)) (f : Fetched) (c : Nat) (s b : State), s.Starts h 0x0302 (.contractRelease h arbs) f b → b.canonical = true → c = f.objId.toNat →
    ∃ u t, exec (.contractRelease h arbs) s = .next t ∧ State.Answered u t h 0 0 0 ∧ (u.contract c).exist = false ∧ (u.graph (b.contract c).graph).contract = 0 ∧
      (∀ k, k ≠ c → u.contract k = b.contract k) ∧ (∀ k, k ≠ (b.contract c).graph → u.graph k = b.graph k) ∧ (∀ x ∈ u.si.pairs, x.contract ≠ c) ∧
      (∀ d ∈ u.dues, d.con = c → d.tref < b.tim.tick) ∧ u.tim = b.tim ∧ u.slips = b.slips) ∧
  (∀ (h : CmdRef) (g : Sgl) (f : Fetched) (x : Contract) (s b : State), s.Starts h 0x0303 (.contractQuery h g) f b → sglErr g 128 = none → x = b.contract f.objId.toNat →
    ∃ t, exec (.contractQuery h g) s = .next t ∧ (x.report f.objId.toNat).length = 128 ∧
      State.Answered (b.sglWrite h (x.report f.objId.toNat)) t h 0 0
        (result [(x.state, 1), (x.warm.toNat + 2 * x.noRecovery.toNat + 4 * x.unguaranteed.toNat, 1), (0, 2), (x.wcTicks, 4), (x.effTick, 4)])) ∧
  (∀ (h : CmdRef) (dram spine host step reserve : BitVec 8) (allow win : BitVec 16) (f : Fetched) (s b : State),
    s.Starts h 0x0304 (.contractPolicy h dram spine host step allow win reserve) f b →
    10 ≤ dram.toNat → dram.toNat ≤ 90 → 10 ≤ spine.toNat → spine.toNat ≤ 95 → 10 ≤ host.toNat → host.toNat ≤ 90 → step.toNat ≤ 20 → 1 ≤ allow.toNat → 1 ≤ win.toNat →
    reserve.toNat ≤ 64 → (∀ e ∈ b.contracts, e.2.exist = true → e.2.state = 2) → b.conAdmits = [] →
    ∃ t, exec (.contractPolicy h dram spine host step allow win reserve) s = .next t ∧ State.Answered
      { b with policy := [dram.toNat, spine.toNat, host.toNat, step.toNat, allow.toNat, win.toNat, reserve.toNat] } t h 0 0 0)

/-- Missed deadlines are counted, contracts beyond capacity are noticed and revoked at their tick, and parts answer their home (R323, R324, R338, R340). In every state: DEADLINE_MISS with no overdue reference tick changes nothing; where the contracts concerned are unguaranteed it marks exactly the overdue ticks and raises no fault; the one tick overdue of a guaranteed contract is marked, counted by cause and in its slipcase, and reported (0x0F). CONTRACT_REPLAN acts only after a retirement without a spare: with n = 0 it only clears that, else the contract first in revocation order is NOTICED, no longer guaranteed, to be revoked REVOKE_LEAD ticks later. CONTRACT_REVOKED from that tick on leaves it REVOKED and its graph not running; before it changes nothing. A CONTRACT message that requests a part no loaded graph has is refused; a refusal ends the admission; COMMIT sets its tick; ABORT drops the part. -/
def Obligations.ContractsAreMonitoredAndRevoked : Prop :=
  (∀ s : State, (∀ d ∈ s.dues, s.overdue d = false) → exec .deadlineMiss s = .next s) ∧
  (∀ s : State, s.canonical = true → (∀ d ∈ s.dues, (s.contract d.con).unguaranteed = true) →
    ∃ t, exec .deadlineMiss s = .next t ∧ t = { s with dues := t.dues, contracts := t.contracts, slips := t.slips } ∧
      t.dues = s.dues.map (fun d => if s.overdue d then { d with missed := true } else d)) ∧
  (∀ (d : Due) (s : State), s.canonical = true → s.si.dead = false → s.dues = [d] → s.overdue d = true → (s.contract d.con).unguaranteed = false →
    ∃ t, exec .deadlineMiss s = .next t ∧ t.ctr (simB + 0x400) = s.ctr (simB + 0x400) + 1 ∧ t.tim = s.tim ∧
      SMap.get 0 (t.contract d.con).misses ((s.contract d.con).missCause d.tref) = SMap.get 0 (s.contract d.con).misses ((s.contract d.con).missCause d.tref) + 1 ∧
      (∀ x ∈ t.dues, x.missed = true)) ∧
  (∀ (n : Nat) (s : State), s.si.replan = false → exec (.contractReplan n) s = .next s) ∧
  (∀ s : State, s.si.replan = true → exec (.contractReplan 0) s = .next { s with si := { s.si with replan := false } }) ∧
  (∀ (n c : Nat) (s : State), s.canonical = true → s.si.replan = true → s.nextRevoked = some c →
    ∃ t, exec (.contractReplan (n + 1)) s = .next t ∧ t.si.replan = false ∧ (t.contract c).state = 1 ∧ (t.contract c).unguaranteed = true ∧
      (t.contract c).revokeAt = s.tim.tick + (s.contract c).lead ∧ (∀ k, (s.contract k).state ≠ 0 → t.contract k = s.contract k) ∧ t.graphs = s.graphs ∧ t.tim = s.tim) ∧
  (∀ (c : BitVec 32) (arbs : List (Nat × Nat)) (s : State), s.canonical = true → (s.contract c.toNat).exist = true → (s.contract c.toNat).state = 1 →
    (s.contract c.toNat).revokeAt ≤ s.tim.tick →
    ∃ t, exec (.contractRevoked c arbs) s = .next t ∧ t.contract c.toNat = { s.contract c.toNat with state := 2 } ∧
      (∀ k, k ≠ c.toNat → t.contract k = s.contract k) ∧ (t.graph (s.contract c.toNat).graph).state ≠ 1 ∧ (t.graph (s.contract c.toNat).graph).contract = 0 ∧
      (∀ k, k ≠ (s.contract c.toNat).graph → t.graph k = s.graph k) ∧ t.tim = s.tim ∧ t.slips = s.slips) ∧
  (∀ (c : BitVec 32) (arbs : List (Nat × Nat)) (s : State),
    (s.contract c.toNat).exist = false ∨ (s.contract c.toNat).state ≠ 1 ∨ s.tim.tick < (s.contract c.toNat).revokeAt → exec (.contractRevoked c arbs) s = .next s) ∧
  (∀ (p : BitVec 2) (m : SpMsg) (plan : AdmitPlan) (id : Nat) (l : List Nat) (s : State), m.body = .contract (0 :: id :: l) → s.conPartOf (0 :: id :: l) = none →
    exec (.contractPart p m plan) s = .next (s.sendTo { dst := m.src, src := s.devId, body := .contract [2, id] })) ∧
  (∀ (p : BitVec 2) (m : SpMsg) (plan : AdmitPlan) (id : Nat) (a : ConAdmit) (s : State), m.body = .contract [2, id] →
    s.conAdmits.find? (fun a => a.id = id && a.home.isNone) = some a →
    ∃ t, exec (.contractPart p m plan) s = .next t ∧ t.conAdmits = s.conAdmits.filter (fun b => decide (b ≠ a)) ∧ t.contracts = s.contracts ∧ t.graphs = s.graphs ∧ t.tim = s.tim) ∧
  (∀ (p : BitVec 2) (m : SpMsg) (plan : AdmitPlan) (id tick : Nat) (a : ConAdmit) (s : State), m.body = .contract [3, id, tick] →
    s.conAdmits.find? (fun a => a.home = some (m.src, id)) = some a →
    exec (.contractPart p m plan) s = .next { s with conAdmits := s.conAdmits.map (fun b => if b = a then { a with commitAt := some tick } else b) }) ∧
  (∀ (p : BitVec 2) (m : SpMsg) (plan : AdmitPlan) (id : Nat) (a : ConAdmit) (s : State), m.body = .contract [5, id] →
    s.conAdmits.find? (fun a => a.home = some (m.src, id)) = some a →
    exec (.contractPart p m plan) s = .next { s with conAdmits := s.conAdmits.filter (fun b => decide (b ≠ a)) })

/-- Port and time commands load masks, bind queues, set the tick and accept a jump (R40, R41, R55, R56, R75, R77, R93, R384, R464). On every state where the packet starts: PORT_HOTMASK_LOAD of an enabled port makes the mask hold exactly the listed addresses of its backing; PORT_HOTMASK_EDIT sets the mask bit of each address to the value of its last entry and no other; PORT_EVRING_BIND to a valid EVENT queue stores it; TIME_QUERY reports SYSTIME, ETS, state and flags. TIME_SET_TICK with an allowed length and nothing in use is staged for its AT_TICK; when it takes effect the tick length is the new one from that tick on. TIME_ACCEPT_JUMP with a jump pending is staged for its AT_TICK; on the root, when it takes effect, it moves TU_EPOCH_SRC by the refused jump; elsewhere it steps SYSTIME and TICK_COUNT to the root's; both leave LOCKED and no jump pending. -/
def Obligations.PortAndTimeCommandsComplete : Prop :=
  (∀ (h : CmdRef) (port : BitVec 8) (g : Sgl) (l : List Nat) (f : Fetched) (n : Nat) (s b : State), s.Starts h 0x0401 (.portHotmaskLoad h port g l) f b → b.canonical = true →
    n = port.toNat → n < 16 → b.portEn n = true → sglErr g 262144 = none →
    ∃ u t, exec (.portHotmaskLoad h port g l) s = .next t ∧ State.Answered u t h 0 0 0 ∧ u = { b with hops := u.hops } ∧
      u.hop n = { b.hop n with hot := (u.hop n).hot } ∧ (∀ a, SMap.get false (u.hop n).hot a = decide (a ∈ l ∧ a < 2097152)) ∧ (∀ k, k ≠ n → u.hop k = b.hop k)) ∧
  (∀ (h : CmdRef) (port : BitVec 8) (l : List (BitVec 32)) (f : Fetched) (n : Nat) (s b : State), s.Starts h 0x0402 (.portHotmaskEdit h port l) f b →
    b.canonical = true → (∀ k, SMap.wf false (b.hop k).hot = true) → n = port.toNat → n < 16 → b.portEn n = true → l ≠ [] → l.length ≤ 64 →
    (∀ e ∈ l, bitsN e.toNat 30 22 = 0 ∧ e.toNat % 2 ^ 22 < b.backing n) →
    ∃ u t, exec (.portHotmaskEdit h port l) s = .next t ∧ State.Answered u t h 0 0 0 ∧ u = { b with hops := u.hops } ∧
      (∀ k a, SMap.get false (u.hop k).hot a =
        match l.reverse.find? (fun e => decide ((if e.toNat % 2 ^ 22 < 2097152 then (n, e.toNat % 2 ^ 22) else (n + 1, e.toNat % 2 ^ 22 - 2097152)) = (k, a))) with
        | some e => e.getLsbD 31
        | none => SMap.get false (b.hop k).hot a)) ∧
  (∀ (h : CmdRef) (port q : BitVec 8) (func : BitVec 16) (f : Fetched) (n k : Nat) (s b : State), s.Starts h 0x0403 (.portEvringBind h port func q) f b →
    n = port.toNat → k = func.toNat * 256 + q.toNat → n < 16 → b.portEn n = true → func.toNat < 4096 → (b.qp k).valid = true → (b.qp k).kind = 3 →
    (func = 0 ∨ b.fnSlip func.toNat = some (b.portSlip n)) →
    ∃ t, exec (.portEvringBind h port func q) s = .next t ∧ State.Answered (b.modHop n (fun x =>
      { x with evq := some (func.toNat, q.toNat), chans := x.chans.filter (fun c => decide (c.consumer ≠ .evring)) ++ [{ consumer := .evring, endSent := x.nextEnd }] })) t h 0 0 0) ∧
  (∀ (h : CmdRef) (f : Fetched) (s b : State), s.Starts h 0x8501 (.timeQuery h) f b →
    ∃ t, exec (.timeQuery h) s = .next t ∧ State.Answered b t h 0 0 (result [(b.tim.systime, 8), (b.ets, 4), (b.timeState, 1), (b.rfld tuStat 15 12, 1)])) ∧
  (∀ (h : CmdRef) (q : BitVec 8) (far : Bool) (f : Fetched) (d : Nat) (s b : State), s.startable h 0x0501 = some f → b = s.brewFor f (.timeSetTick h q far) →
    b.objErr 0x0501 h.fn.toNat f.objId.toNat = none → f.atEn = true → b.lead f.atTick = some d → 1 ≤ q.toNat → q.toNat ≤ 64 → b.follower = false → b.tickInUse = false →
    (far && b.bind.member) = false →
    ∃ t, exec (.timeSetTick h q far) s = .next t ∧ t.tim = s.tim ∧ t.regs = b.regs ∧
      t.staged = s.staged ++ [{ ref := h, tick := s.tim.tick + d, obj := f.objId.toNat, cmd := .timeSetTick h q far }] ∧
      ((b.bind.member && b.bind.isRoot) = false → t.sps = s.sps)) ∧
  (∀ (h : CmdRef) (q : BitVec 8) (far bad : Bool) (x : Staged) (f : Fetched) (s u : State), s.nextStaged = some x → x.cmd = .timeSetTick h q far →
    s.fetchedOf x.ref = some f → u = { s with staged := s.staged.erase x } → u.objErr 0x0501 x.ref.fn.toNat f.objId.toNat = none → 1 ≤ q.toNat → q.toNat ≤ 64 →
    s.follower = false → s.tickInUse = false → (bad && s.bind.member) = false →
    ∃ t, exec (.stagedCommandEffect bad) s = .next t ∧
      State.Answered { u with tim := { u.tim with tickQ := q.toNat, kTick := u.tim.tick, bK := u.tim.systime } } t x.ref 0 0 0) ∧
  (∀ (h : CmdRef) (rs rt : BitVec 64) (f : Fetched) (d : Nat) (s b : State), s.startable h 0x0502 = some f → b = s.brewFor f (.timeAcceptJump h rs rt) →
    b.objErr 0x0502 h.fn.toNat f.objId.toNat = none → f.atEn = true → b.lead f.atTick = some d → b.rfld tuStat 12 12 = 1 →
    (b.rfld tuStat 13 13 = 1 ∨ ∀ g ∈ b.graphs, g.2.exist = true → g.2.state ≠ 1) →
    ∃ t, exec (.timeAcceptJump h rs rt) s = .next t ∧ t.tim = s.tim ∧ t.regs = b.regs ∧
      t.staged = s.staged ++ [{ ref := h, tick := s.tim.tick + d, obj := f.objId.toNat, cmd := .timeAcceptJump h rs rt }] ∧
      ((b.bind.member && b.bind.isRoot) = false → t.sps = s.sps)) ∧
  (∀ (h : CmdRef) (rs rt : BitVec 64) (bad : Bool) (x : Staged) (f : Fetched) (p e : Word) (s : State), s.canonical = true → s.nextStaged = some x →
    x.cmd = .timeAcceptJump h rs rt → s.fetchedOf x.ref = some f → State.objErr { s with staged := s.staged.erase x } 0x0502 x.ref.fn.toNat f.objId.toNat = none →
    s.rfld tuStat 12 12 = 1 → s.isRoot = true → s.tim.alignRun < 16 → p = s.reg (tuB + 0x38) → e = s.reg (tuB + 0x30) →
    ∃ u t, exec (.stagedCommandEffect bad) s = .next t ∧ State.Answered u t x.ref 0 0 (result [(p.toNat, 8)]) ∧ u.reg (tuB + 0x30) = e + p ∧ u.rfld tuStat 12 12 = 0 ∧
      u.timeState = 1 ∧ u.tim = s.tim ∧ (∀ k, k ≠ tuB + 0x30 → k ≠ tuStat → u.reg k = s.reg k)) ∧
  (∀ (h : CmdRef) (rs rt : BitVec 64) (bad : Bool) (x : Staged) (f : Fetched) (s : State), s.canonical = true → s.nextStaged = some x →
    x.cmd = .timeAcceptJump h rs rt → s.fetchedOf x.ref = some f → State.objErr { s with staged := s.staged.erase x } 0x0502 x.ref.fn.toNat f.objId.toNat = none →
    s.rfld tuStat 12 12 = 1 → s.isRoot = false → s.tim.alignRun < 16 → (∀ g ∈ s.graphs, g.2.exist = true → g.2.state ≠ 1) →
    ∃ u t, exec (.stagedCommandEffect bad) s = .next t ∧ State.Answered u t x.ref 0 0 (result [(unsig 64 ((rs.toNat : Int) - (s.tim.systime : Int)), 8)]) ∧
      u.tim = { s.tim with systime := rs.toNat, tick := rt.toNat, kTick := rt.toNat, bK := rs.toNat, bigRun := 0, smallRun := 0 } ∧ u.rfld tuStat 12 12 = 0 ∧ u.timeState = 1)

/-- Sources qualify and are lost after their times, offsets are slewed or refused, and a tick boundary moves time by one tick (R40, R46, R49, R51, R52, R53, R54, R80, R521). In every state in canonical form: SYNC_RECEIVED of no defined source changes nothing; of a source not followed it only marks the run; the first of the followed source on a root registers the epoch and locks; a later offset within JUMP_LIMIT is slewed at 100 ppm (LOCKED where it is 0), the second in a row beyond it is refused with the jump pending and SYSTIME unmoved. SOURCE_QUALIFIED after QUAL_TIME makes a candidate qualified and SOURCE_LOST after LOSS_TIME takes it away; the root then follows the first qualified candidate, or is in HOLDOVER where it had locked. TICK_BOUNDARY with nothing staged and no marker due moves TICK_COUNT by one and SYSTIME to B_K + (n - K) * TICK_LEN (moved only here: log entry 6) and brings the port filters into force; with the oscillator stopped it changes nothing. TICK_CLOSED closes the ticks whose marks all channels of a running graph have delivered. -/
def Obligations.TimeFollowsItsSource : Prop :=
  (∀ (src : BitVec 4) (time off : BitVec 64) (freq res : BitVec 32) (s : State), src = 0 ∨ 4 < src.toNat → exec (.syncReceived src time off freq res) s = .next s) ∧
  (∀ (src : BitVec 4) (time off : BitVec 64) (freq res : BitVec 32) (s : State), src ≠ 0 → src.toNat ≤ 4 → src.toNat ≠ s.curSrc →
    exec (.syncReceived src time off freq res) s = .next (s.modTim (fun m =>
      { m with lastAt := SMap.put 0 m.lastAt src.toNat m.systime, runFrom := SMap.upd none m.runFrom src.toNat (fun r => some (r.getD m.systime)) }))) ∧
  (∀ (src : BitVec 4) (time off : BitVec 64) (freq res : BitVec 32) (s : State), s.canonical = true → src ≠ 0 → src.toNat ≤ 4 → src.toNat = s.curSrc →
    s.isRoot = true → s.rfld tuStat 15 15 = 0 → s.tim.alignRun < 16 →
    ∃ t, exec (.syncReceived src time off freq res) s = .next t ∧ t = { s with tim := t.tim, regs := t.regs } ∧ t.tim.locked = true ∧ t.tim.systime = s.tim.systime ∧
      t.reg (tuB + 0x30) = BitVec.ofNat 64 (time.toNat + 2 ^ 64 - s.tim.systime % 2 ^ 64) ∧ t.rfld tuStat 15 15 = 1 ∧ t.timeState = 1 ∧
      (∀ k, k ≠ tuB + 0x30 → k ≠ tuB + 0x40 → k ≠ tuStat → t.reg k = s.reg k)) ∧
  (∀ (src : BitVec 4) (time off : BitVec 64) (freq res : BitVec 32) (s : State), s.canonical = true → src ≠ 0 → src.toNat ≤ 4 → src.toNat = s.curSrc →
    s.isRoot = true → s.rfld tuStat 15 15 = 1 → s.tim.alignRun < 16 → s.timeState ≠ 4 → off.toInt.natAbs ≤ s.rfld (tuB + 0x20) 19 0 →
    ∃ t, exec (.syncReceived src time off freq res) s = .next t ∧ t.reg (tuB + 0x28) = off ∧ t.timeState = (if off = 0 then 1 else 2) ∧ t.tim.systime = s.tim.systime ∧
      (off ≠ 0 → t.tim.slewEnd = s.tim.systime + off.toInt.natAbs * 10000) ∧ t.ctrs = s.ctrs ∧ t.graphs = s.graphs) ∧
  (∀ (src : BitVec 4) (time off : BitVec 64) (freq res : BitVec 32) (s : State), s.canonical = true → src ≠ 0 → src.toNat ≤ 4 → src.toNat = s.curSrc →
    s.isRoot = true → s.rfld tuStat 15 15 = 1 → s.tim.alignRun < 16 → s.timeState ≠ 4 → s.rfld (tuB + 0x20) 19 0 < off.toInt.natAbs → 1 ≤ s.tim.bigRun →
    ∃ t, exec (.syncReceived src time off freq res) s = .next t ∧ t.reg (tuB + 0x38) = off ∧ t.rfld tuStat 12 12 = 1 ∧ t.timeState = 4 ∧ t.tim.systime = s.tim.systime ∧
      t.reg (tuB + 0x30) = s.reg (tuB + 0x30) ∧ t.graphs = s.graphs) ∧
  (∀ (src : BitVec 4) (r : Nat) (s : State), s.canonical = true → (s.isRoot = true ∧ s.tim.alignRun < 16 ∨ s.rfld tuStat 14 14 = 1) →
    SMap.get none s.tim.runFrom src.toNat = some r → s.candidates.contains src.toNat = true → r + s.qualTime ≤ s.tim.systime →
    ∃ t, exec (.sourceQualified src) s = .next t ∧ t.qualified src.toNat = true ∧ t.candidates = s.candidates ∧ t.curSrc ∈ s.candidates ∧
      s.candidates.find? (fun c => t.qualified c) = some t.curSrc ∧ t.tim.systime = s.tim.systime) ∧
  (∀ (src : BitVec 4) (s : State), (SMap.get none s.tim.runFrom src.toNat = none ∨ s.candidates.contains src.toNat = false ∨
      ∃ r, SMap.get none s.tim.runFrom src.toNat = some r ∧ s.tim.systime < r + s.qualTime) → exec (.sourceQualified src) s = .next s) ∧
  (∀ (src : BitVec 4) (s : State), s.canonical = true → (s.isRoot = true ∧ s.tim.alignRun < 16 ∨ s.rfld tuStat 14 14 = 1) → 1 ≤ src.toNat → src.toNat ≤ 4 →
    SMap.get 0 s.tim.lastAt src.toNat + s.lossTime ≤ s.tim.systime → (SMap.get none s.tim.runFrom src.toNat).isSome = true →
    ∃ t, exec (.sourceLost src) s = .next t ∧ t.qualified src.toNat = false ∧
      (∀ c, s.candidates.find? (fun c => c ≠ src.toNat && s.qualified c) = some c → t.curSrc = c) ∧
      (s.candidates.find? (fun c => c ≠ src.toNat && s.qualified c) = none → s.curSrc = src.toNat → s.tim.locked = true → t.timeState = 3 ∧ t.curSrc = s.curSrc) ∧
      t.tim.systime = s.tim.systime) ∧
  (∀ (src : BitVec 4) (s : State), s.tim.systime < SMap.get 0 s.tim.lastAt src.toNat + s.lossTime ∨ SMap.get none s.tim.runFrom src.toNat = none →
    exec (.sourceLost src) s = .next s) ∧
  (∀ s : State, s.canonical = true → s.tim.stopped = false → s.pwr.down = false → s.staged = [] → s.bind.markers = [] → s.conAdmits = [] →
    ∃ t, exec .tickBoundary s = .next t ∧ t.tim.tick = s.tim.tick + 1 ∧ t.tim.systime = s.tim.bK + (s.tim.tick + 1 - s.tim.kTick) * (250 * s.tim.tickQ) ∧
      t.tim.tickQ = s.tim.tickQ ∧ ∀ n, n < 16 → (t.hop n).refr = s.reg (hopB n + 0x20) ∧ (t.hop n).ba = s.reg (hopB n + 0x24)) ∧
  (∀ s : State, s.tim.stopped = true → exec .tickBoundary s = .next s) ∧
  (∀ (g : BitVec 32) (s : State), (s.graph g.toNat).exist = true → (s.graph g.toNat).state = 1 →
    ∃ t, exec (.tickClosed g) s = .next t ∧ t = { s with graphs := t.graphs } ∧ (∀ k, k ≠ g.toNat → t.graph k = s.graph k) ∧
      t.graph g.toNat = { s.graph g.toNat with closed := max (s.graph g.toNat).closed ((s.feedMarks g.toNat).foldl min s.tim.tick) }) ∧
  (∀ (g : BitVec 32) (s : State), (s.graph g.toNat).exist = false ∨ (s.graph g.toNat).state ≠ 1 → exec (.tickClosed g) s = .next s)

/-- Registers take whole writes, stage low halves, latch low halves of reads, and refuse what names no register; windows are read (R560, R561, R562, R563, R564, R565, R566, R567, R568, R569). In every state, for a function that exists and an access within its BAR0: a write that reaches no register, is narrower than 4 bytes, or is not an aligned run of 1, 2, 4 or 8 bytes is refused with cause 6, 7 or 8, and while the function resets with cause 5; a full-width write of a register whose write does nothing but store and whose condition (a disabled port, unit or entry) holds leaves it at what its writable, W1C and lockable fields take and changes no other register (but the trace's OBS_ERR); a write of the low half of a 64-bit register is only staged, and that of the high half joins it; a 4-byte low-half read latches the register, and the high half is then read from the latch; an 8-byte read returns the register. Accesses beyond the BAR are answered Unsupported Request. A data-window read is aborted where its owner is sealed or no grant came, 0 where the memory is off, poisoned at an ECC error, and its bytes otherwise. -/
def Obligations.RegistersAreReadAndWritten : Prop :=
  (∀ (fn : BitVec 12) (off : BitVec 28) (width : Nat) (be : BitVec 8) (v : BitVec 64) (s : State),
    (fn ≠ 0 ∧ (s.fn fn.toNat).exist = false) ∨ barBytes fn.toNat < off.toNat + width →
    exec (.registerWrite fn off width be v) s = .next (s.unsupported fn.toNat off.toNat) ∧
    exec (.registerRead fn off width be) s = .next ((s.emit .unsupported [fn.toNat] [off.toNat]).unsupported fn.toNat off.toNat)) ∧
  (∀ (fn : BitVec 12) (off : BitVec 28) (width o n lo : Nat) (be : BitVec 8) (v : BitVec 64) (s : State), (fn = 0 ∨ (s.fn fn.toNat).exist = true) →
    off.toNat + width ≤ barBytes fn.toNat → accessOf off.toNat width be.toNat = .run o n lo →
    ((s.fn fn.toNat).resetting = true → exec (.registerWrite fn off width be v) s =
      .next (s.refuseWrite fn.toNat 5 o (dbQueue fn.toNat o) v.toNat be.toNat)) ∧
    ((s.fn fn.toNat).resetting = false → reaches fn.toNat o n = false → exec (.registerWrite fn off width be v) s =
      .next (s.refuseWrite fn.toNat 6 o (dbQueue fn.toNat o) (v.toNat / 256 ^ lo % 256 ^ n) be.toNat)) ∧
    ((s.fn fn.toNat).resetting = false → reaches fn.toNat o n = true → n < 4 → exec (.registerWrite fn off width be v) s =
      .next (s.refuseWrite fn.toNat 7 o (dbQueue fn.toNat o) (v.toNat / 256 ^ lo % 256 ^ n) be.toNat))) ∧
  (∀ (fn : BitVec 12) (off : BitVec 28) (width : Nat) (be : BitVec 8) (v : BitVec 64) (s : State), (fn = 0 ∨ (s.fn fn.toNat).exist = true) →
    off.toNat + width ≤ barBytes fn.toNat → accessOf off.toNat width be.toNat = .bad → (s.fn fn.toNat).resetting = false →
    exec (.registerWrite fn off width be v) s = .next (s.refuseWrite fn.toNat 8 off.toNat (dbQueue fn.toNat off.toNat) v.toNat be.toNat) ∧
    exec (.registerRead fn off width be) s = .next (s.abortRead fn.toNat off.toNat)) ∧
  (∀ (fn : BitVec 12) (off : BitVec 28) (k : Nat) (d : RegDef) (ix : List Nat) (v : BitVec 64) (s : State), s.canonical = true →
    (fn = 0 ∨ (s.fn fn.toNat).exist = true) → (s.fn fn.toNat).resetting = false → locate fn.toNat off.toNat = some (k, d, ix) → d.act = .none → s.condOk fn.toNat k d = true →
    d.kind ≠ .doorbell → k ≠ obsB + 4 → off.toNat + 8 ≤ barBytes fn.toNat →
    (d.wide = true → off.toNat % 8 = 0 → ∃ t, exec (.registerWrite fn off 8 0xFF v) s = .next t ∧ t.reg k = d.next s.siLocked (s.reg k) v ∧
      (∀ j, j ≠ k → j ≠ obsB + 4 → t.reg j = s.reg j) ∧ t.tim = s.tim ∧ t.graphs = s.graphs ∧ t.qps = s.qps) ∧
    (d.wide = false → off.toNat % 4 = 0 → wideAt fn.toNat (off.toNat / 8 * 8) = none → ∃ t, exec (.registerWrite fn off 4 0xF v) s = .next t ∧
      t.reg k = d.next s.siLocked (s.reg k) (BitVec.ofNat 64 (v.toNat % 2 ^ 32)) ∧
      (∀ j, j ≠ k → j ≠ obsB + 4 → t.reg j = s.reg j) ∧ t.tim = s.tim ∧ t.graphs = s.graphs ∧ t.qps = s.qps) ∧
    (d.wide = true → off.toNat % 8 = 0 → ∃ t, exec (.registerWrite fn off 4 0xF v) s = .next t ∧
      SMap.get none t.stageBuf fn.toNat = some (k, BitVec.ofNat 64 (v.toNat % 2 ^ 32)) ∧ (∀ j, j ≠ obsB + 4 → t.reg j = s.reg j) ∧ t.tim = s.tim) ∧
    (∀ (l : Word) (v' : BitVec 64), d.wide = true → off.toNat % 8 = 0 → SMap.get none s.stageBuf fn.toNat = some (k, l) →
      ∃ t, exec (.registerWrite fn (off + 4) 4 0xF v') s = .next t ∧
        t.reg k = d.next s.siLocked (s.reg k) (BitVec.ofNat 64 (v'.toNat % 2 ^ 32 * 2 ^ 32 + l.toNat)) ∧ (∀ j, j ≠ k → j ≠ obsB + 4 → t.reg j = s.reg j))) ∧
  (∀ (fn : BitVec 12) (off : BitVec 28) (k : Nat) (d : RegDef) (ix : List Nat) (s : State), s.canonical = true → (fn = 0 ∨ (s.fn fn.toNat).exist = true) →
    locate fn.toNat off.toNat = some (k, d, ix) → d.wide = true → off.toNat % 8 = 0 → d.kind = .store → k ≠ obsB + 4 → off.toNat + 8 ≤ barBytes fn.toNat →
    (fn = 0 → winAt off.toNat = none ∧ winAt (off.toNat + 4) = none) →
    (∃ t, exec (.registerRead fn off 8 0xFF) s = .next t ∧ t.out = { kind := .readData, dst := [fn.toNat, off.toNat], data := [(s.reg k).toNat] } :: s.out ∧
      (∀ j, j ≠ obsB + 4 → t.reg j = s.reg j)) ∧
    (∃ t, exec (.lowHalfRead fn off) s = .next t ∧ t.out = { kind := .readData, dst := [fn.toNat, off.toNat], data := [(s.reg k).toNat % 2 ^ 32] } :: s.out ∧
      SMap.get none t.latch fn.toNat = some (k, s.reg k) ∧ (∀ j, j ≠ obsB + 4 → t.reg j = s.reg j)) ∧
    (∀ l, SMap.get none s.latch fn.toNat = some (k, l) → ∃ t, exec (.registerRead fn (off + 4) 4 0xF) s = .next t ∧
      t.out = { kind := .readData, dst := [fn.toNat, off.toNat + 4], data := [l.toNat / 2 ^ 32] } :: s.out ∧ (∀ j, j ≠ obsB + 4 → t.reg j = s.reg j))) ∧
  (∀ (off : BitVec 28) (n lo : Nat) (granted ecc : Bool) (w : WinByte) (s : State), off.toNat + n ≤ 0x10000000 →
    accessOf off.toNat n (2 ^ n - 1) = .run off.toNat n lo → winAt off.toNat = some w →
    exec (.dataWindowRead off n granted ecc) s = .next (
      if s.winSealed w then s.abortRead 0 off.toNat
      else if s.winOn w = false then s.emit .readData [0, off.toNat] [0]
      else if granted = false then s.abortRead 0 off.toNat
      else if ecc then (s.emit .poisoned [0] [off.toNat]).bump (xioB + 0x410)
      else s.emit .readData [0, off.toNat] [s.winVal w n]))

/-- Enables of ports, surfaces, corner and flow units, links, routes and the tick lead act on legal settings and flag others (R61, R71, R91, R97, R107, R111, R115, R443, R444, R452, R454). For every state b after the Brew of the access: HOP_CTL with EN rising on a legal geometry enables and starts the port, on an illegal one flags HOP_ERR and leaves it disabled, and with EN falling disables it; HOP_DEC_CFG is refused on an enabled port and else stores a custom decoder or the whole preset. SFM_SURF_CFG with EN rising on legal settings enables the surface and starts its clear, else flags CFG_RANGE (on the upper port of a pair only registers change); a second EN is flagged; EN falling also disables the region's corner and flow units. CRN_CFG and FLOW_CFG act alike. SPN_CTL.EN = 0 takes a link DOWN, = 1 only enables; RETRAIN acts on a link that is UP; a route word is stored unless it changes an entry that a stream uses; TICK_LEAD_MAX is clamped to 1 to 2,000. -/
def Obligations.EnablesCheckTheirConfiguration : Prop :=
  (∀ (n : BitVec 4) (v : BitVec 32) (k : Nat) (s b : State), s.canonical = true → k = hopB n.toNat → b = s.touch 0 k →
    ((b.reg k).getLsbD 0 = false → v.getLsbD 0 = true → b.geomOk n.toNat (decide (n.toNat % 2 = 0) && v.getLsbD 1 || decide (n.toNat % 2 = 1) && (b.reg k).getLsbD 1) = true →
      ∃ t, exec (.hopCtlEn n v) s = .next t ∧ (t.reg k).getLsbD 0 = true ∧ (t.hop n.toNat).buf = [] ∧ (t.hop n.toNat).items = [] ∧ (t.hop n.toNat).timeValid = false ∧
        (∀ j, j ≠ k → t.reg j = b.reg j) ∧ t.tim = b.tim ∧ t.ctrs = b.ctrs) ∧
    ((b.reg k).getLsbD 0 = false → v.getLsbD 0 = true → b.geomOk n.toNat (decide (n.toNat % 2 = 0) && v.getLsbD 1 || decide (n.toNat % 2 = 1) && (b.reg k).getLsbD 1) = false →
      ∃ t, exec (.hopCtlEn n v) s = .next t ∧ (t.reg k).getLsbD 0 = false ∧ t.reg (k + 0x48) = b.reg (k + 0x48) ||| 0x10 ∧ t = { b with regs := t.regs }) ∧
    (v.getLsbD 0 = false → ∃ t, exec (.hopCtlEn n v) s = .next t ∧ (t.reg k).getLsbD 0 = false ∧ t = { b with regs := t.regs } ∧
      (∀ j, j ≠ k → j ≠ k + 0x48 → t.reg j = b.reg j))) ∧
  (∀ (n : BitVec 4) (v : BitVec 32) (s b : State), s.canonical = true → b = s.touch 0 (hopB n.toNat + 0x10) →
    (b.hopEn n.toNat = true → exec (.hopDecCfg n v) s = .next (b.orReg (hopB n.toNat + 0x48) 1)) ∧
    (b.hopEn n.toNat = false → v.toNat % 4 = 3 → exec (.hopDecCfg n v) s = .next (b.setReg (hopB n.toNat + 0x10) (v.setWidth 64 &&& 0xFFF383))) ∧
    (b.hopEn n.toNat = false → v.toNat % 4 ≠ 3 → ∃ t, exec (.hopDecCfg n v) s = .next t ∧ t = { b with regs := t.regs } ∧
      t.reg (hopB n.toNat + 0x10) = presetCfg (v.toNat % 4) ||| (v.setWidth 64 &&& 0x83) ∧
      (∀ i, i < 32 → t.reg (hopB n.toNat + 0x100 + 8 * i) = BitVec.ofNat 64 (((presetRules (v.toNat % 4))[i]?).getD 0)))) ∧
  (∀ (r : BitVec 4) (v : BitVec 32) (k : Nat) (w : Word) (s b : State), s.canonical = true → k = sfmP r.toNat → b = s.touch 0 k →
    w = setBit ((b.reg k &&& ~~~ 0xFFFFFF00) ||| (v.setWidth 64 &&& 0xFFFFFF00)) 31 false →
    ((b.reg k).getLsbD 31 = true → v.getLsbD 31 = true → exec (.sfmSurfCfgEn r v) s = .next (b.sfmErr r.toNat 1)) ∧
    ((b.reg k).getLsbD 31 = true → v.getLsbD 31 = false → ∃ t, exec (.sfmSurfCfgEn r v) s = .next t ∧ (t.reg k).getLsbD 31 = false ∧
      (t.reg (k + 0x20)).getLsbD 31 = false ∧ (t.reg (k + 0x28)).getLsbD 31 = false ∧ (if b.cfgPort r.toNat = r.toNat then (t.sfm r.toNat).origin = none ∧ (t.sfm r.toNat).clearing = false else t.sfms = b.sfms) ∧
      t = { b with regs := t.regs, sfms := t.sfms }) ∧
    ((b.reg k).getLsbD 31 = false → v.getLsbD 31 = false → exec (.sfmSurfCfgEn r v) s = .next (b.setReg k w)) ∧
    ((b.reg k).getLsbD 31 = false → v.getLsbD 31 = true → (b.setReg k w).surfOk r.toNat = true → ∃ t, exec (.sfmSurfCfgEn r v) s = .next t ∧
      t.reg k = setBit w 31 true ∧ (if b.cfgPort r.toNat = r.toNat then (t.sfm r.toNat).clearing = true ∧ (t.sfm r.toNat).epoch = 0 ∧ (t.sfm r.toNat).origin = none ∧
        (t.sfm r.toNat).entries = [] else t.sfms = b.sfms) ∧
      (∀ j, j ≠ k → t.reg j = b.reg j) ∧ t = { b with regs := t.regs, sfms := t.sfms }) ∧
    ((b.reg k).getLsbD 31 = false → v.getLsbD 31 = true → (b.setReg k w).surfOk r.toNat = false → exec (.sfmSurfCfgEn r v) s = .next ((b.setReg k w).sfmErr r.toNat 0))) ∧
  (∀ (c : Instr) (r : BitVec 4) (v : BitVec 32) (k off : Nat) (m w : Word) (s b : State), s.canonical = true →
    ((c = .crnCfgEn r v ∧ off = 0x20 ∧ m = 0xEFFFF000) ∨ (c = .flowCfgEn r v ∧ off = 0x28 ∧ m = 0xFFFFE000)) → k = sfmP r.toNat + off → b = s.touch 0 k →
    w = setBit ((b.reg k &&& ~~~ m) ||| (v.setWidth 64 &&& m)) 31 false →
    ((b.reg k).getLsbD 31 = true → v.getLsbD 31 = true → exec c s = .next (b.sfmErr r.toNat 1)) ∧
    ((b.reg k).getLsbD 31 = true → v.getLsbD 31 = false → exec c s = .next (b.setReg k (setBit (b.reg k) 31 false))) ∧
    ((b.reg k).getLsbD 31 = false → v.getLsbD 31 = false → exec c s = .next (b.setReg k w)) ∧
    ((b.reg k).getLsbD 31 = false → v.getLsbD 31 = true →
      (if off = 0x20 then (b.setReg k w).crnOk r.toNat else (b.setReg k w).flwOk r.toNat) = false → exec c s = .next ((b.setReg k w).sfmErr r.toNat 0)) ∧
    ((b.reg k).getLsbD 31 = false → v.getLsbD 31 = true →
      (if off = 0x20 then (b.setReg k w).crnOk r.toNat else (b.setReg k w).flwOk r.toNat) = true → exec c s = .next ((b.setReg k w).setReg k (setBit w 31 true)))) ∧
  (∀ (p : BitVec 2) (s b : State), s.canonical = true → b = s.touch 0 (spnB p.toNat) →
    (∃ t, exec (.spnCtlEn p true) s = .next t ∧ t.spEn p.toNat = true ∧ t = { b with regs := t.regs } ∧ ∀ j, j ≠ spnB p.toNat → t.reg j = b.reg j) ∧
    (∃ t, exec (.spnCtlEn p false) s = .next t ∧ t.spEn p.toNat = false ∧ (t.port p.toNat).state = 0 ∧ t.tim.systime = b.tim.systime ∧
      ((b.port p.toNat).state = 0 → t = { b with regs := t.regs })) ∧
    ((b.port p.toNat).state = 3 → ∃ t, exec (.spnCtlRetrain p) s = .next t ∧ (t.port p.toNat).state = 4 ∧
      t.ctr (spnB p.toNat + 0x128) = b.ctr (spnB p.toNat + 0x128) + 1 ∧ t.streams = b.streams) ∧
    ((b.port p.toNat).state ≠ 3 → exec (.spnCtlRetrain p) s = .next b)) ∧
  (∀ (w : BitVec 12) (v : BitVec 64) (k : Nat) (s b : State), k = spnB 0 + 0x8000 + 8 * w.toNat → b = s.touch 0 k →
    ((∀ e ∈ b.streams, e.2.state ≠ 0 → e.2.peer / 16 = w.toNat → fld v (4 * (e.2.peer % 16) + 3) (4 * (e.2.peer % 16)) = b.routeEntry e.2.peer) →
      exec (.spnRoute w v) s = .next (b.setReg k v)) ∧
    ((∃ e ∈ b.streams, e.2.state ≠ 0 ∧ e.2.peer / 16 = w.toNat ∧ fld v (4 * (e.2.peer % 16) + 3) (4 * (e.2.peer % 16)) ≠ b.routeEntry e.2.peer) →
      exec (.spnRoute w v) s = .next b)) ∧
  (∀ (v : BitVec 32) (s b : State), s.canonical = true → b = s.touch 0 (tuB + 0x24) →
    ∃ t us, exec (.tuTickLead v) s = .next t ∧ t.rfld (tuB + 0x24) 10 0 = us % 2048 ∧ 1 ≤ us ∧
      ((b.bind.member && b.bind.isRoot) = false → us = min 2000 (max 1 (v.toNat % 2048)) ∧ t = { b with regs := t.regs }) ∧
      ((b.bind.member && b.bind.isRoot) = true → us = max (min 2000 (max 1 (v.toNat % 2048))) b.bind.maxUs ∧
        (us * 1000 ≠ b.bind.leadNs → t.bind.markers = b.bind.markers ++ [{ tick := b.tim.tick + b.leadTicks, what := .leadMax (us * 1000) }]) ∧
        (us * 1000 = b.bind.leadNs → t.bind = b.bind)) ∧
      (∀ j, j ≠ tuB + 0x24 → t.reg j = b.reg j) ∧ t.tim = b.tim)

/-- A Spine link trains, authenticates, retrains, rekeys and goes down as its state allows, and flits are taken in order (R441, R442, R443, R444, R445, R446, R447, R459, R460). In every state in canonical form: signal at an enabled DOWN link whose wait is over starts training, as does its retry with signal, else the retry waits 10 ms more; TRAINING_DONE with a lane and a cable of at most 400 ns goes to AUTH, with no lane or a longer cable DOWN; AUTH of a verified peer of the same lifecycle, not RMA, no debug and a TRNG not failed, brings the link UP under new keys, otherwise it is counted as a failure; RETRAIN with a lane left is UP again; LINK_DOWN of an established link is DOWN with its messages lost and its streams POISONED; REKEY after an hour makes new keys; a flit with a good CRC and the next SEQ is accepted, one with a bad CRC counts and asks for replay, NAK_REPLAY drops what is acknowledged and sends the rest again. In any other state of the link each changes nothing. -/
def Obligations.SpineLinksComeUpAndGoDown : Prop :=
  (∀ (p : BitVec 2) (signal : Bool) (n : Nat) (s : State), s.canonical = true → n = p.toNat → (s.port n).state = 0 → s.spEn n = true → (s.port n).retryAt ≤ s.tim.systime →
    (∃ t, exec (.signalPresent p) s = .next t ∧ (t.port n).state = 1 ∧ (∀ k, k ≠ n → t.port k = s.port k) ∧ t.tim = s.tim ∧ t.streams = s.streams) ∧
    (signal = true → exec (.linkRetry p signal) s = exec (.signalPresent p) s) ∧
    (signal = false → exec (.linkRetry p signal) s = .next (s.modPort n (fun t => { t with retryAt := s.tim.systime + 10000000 })))) ∧
  (∀ (p : BitVec 2) (signal : Bool) (s : State), (s.port p.toNat).state ≠ 0 ∨ s.spEn p.toNat = false ∨ s.tim.systime < (s.port p.toNat).retryAt →
    exec (.signalPresent p) s = .next s ∧ exec (.linkRetry p signal) s = .next s) ∧
  (∀ (p : BitVec 2) (lanes : BitVec 5) (rtt cable : BitVec 32) (n : Nat) (s : State), s.canonical = true → n = p.toNat → (s.port n).state = 1 →
    ∃ t, exec (.trainingDone p lanes rtt cable) s = .next t ∧ t.tim.systime = s.tim.systime ∧ (∀ k, k ≠ n → t.port k = s.port k) ∧
      (goodLanes lanes.toNat (s.port n).retired ≠ [] → cable.toNat ≤ 400000 → (t.port n).state = 2 ∧ (t.port n).cablePs = cable.toNat ∧ (t.port n).rttPs = rtt.toNat ∧
        (t.port n).width = (activeLanes (goodLanes lanes.toNat (s.port n).retired)).length) ∧
      (goodLanes lanes.toNat (s.port n).retired = [] ∨ 400000 < cable.toNat → (t.port n).state = 0 ∧ (t.port n).retryAt = s.tim.systime + 10000000)) ∧
  (∀ (p : BitVec 2) (lanes : BitVec 5) (rtt cable : BitVec 32) (s : State), (s.port p.toNat).state ≠ 1 → exec (.trainingDone p lanes rtt cable) s = .next s) ∧
  (∀ (p : BitVec 2) (ok dbg : Bool) (life : BitVec 3) (peer : BitVec 16) (n : Nat) (s : State), s.canonical = true → n = p.toNat → (s.port n).state = 2 →
    ((ok = true ∧ life.toNat = s.sec.life ∧ life ≠ 4 ∧ dbg = false ∧ s.sec.dbgOpen = false ∧ s.sec.trng ≠ 2) →
      ∃ t, exec (.auth p ok life dbg peer) s = .next t ∧ (t.port n).state = 3 ∧ (t.port n).peer = peer.toNat ∧ (t.port n).keys = (s.port n).keys + 1 ∧
        (t.port n).keyAt = s.tim.systime ∧ (t.port n).rxCtr = 0 ∧ (t.port n).rxSeq = 4095 ∧ t.tim = s.tim ∧ t.streams = s.streams) ∧
    (¬ (ok = true ∧ life.toNat = s.sec.life ∧ life ≠ 4 ∧ dbg = false ∧ s.sec.dbgOpen = false ∧ s.sec.trng ≠ 2) →
      ∃ t, exec (.auth p ok life dbg peer) s = .next t ∧ ((t.port n).state = 0 ∨ (t.port n).state = 5) ∧ (t.port n).retryAt = s.tim.systime + 1000000000 ∧
        t.ctr (spnB n + 0x138) = s.ctr (spnB n + 0x138) + 1 ∧
        ((t.port n).state = 5 ↔ 2 ≤ ((s.port n).authTimes.filter (fun a => decide (s.tim.systime < a + 1000000000))).length))) ∧
  (∀ (p : BitVec 2) (ok dbg : Bool) (life : BitVec 3) (peer : BitVec 16) (s : State), (s.port p.toNat).state ≠ 2 → exec (.auth p ok life dbg peer) s = .next s) ∧
  (∀ (p : BitVec 2) (lanes : BitVec 5) (tr : List (Nat × Nat × Nat × Nat)) (n : Nat) (s : State), s.canonical = true → n = p.toNat →
    (s.port n).state = 3 ∨ (s.port n).state = 4 → goodLanes lanes.toNat (s.port n).retired ≠ [] →
    ∃ t, exec (.retrain p lanes tr) s = .next t ∧ (t.port n).state = 3 ∧ (t.port n).width = (activeLanes (goodLanes lanes.toNat (s.port n).retired)).length ∧
      t.ctr (spnB n + 0x128) = s.ctr (spnB n + 0x128) + (if (s.port n).state = 3 then 1 else 0) ∧ t.tim = s.tim ∧ t.streams = s.streams) ∧
  (∀ (p : BitVec 2) (lanes : BitVec 5) (tr : List (Nat × Nat × Nat × Nat)) (s : State), (s.port p.toNat).state ≠ 3 → (s.port p.toNat).state ≠ 4 →
    exec (.retrain p lanes tr) s = .next s ∧ exec (.linkDown p tr) s = .next s) ∧
  (∀ (p : BitVec 2) (n : Nat) (s : State), s.canonical = true → n = p.toNat → (s.port n).state = 3 ∨ (s.port n).state = 4 →
    ∃ t, exec (.linkDown p []) s = .next t ∧ (t.port n).state = 0 ∧ (t.port n).egress = [] ∧ (t.port n).replay = [] ∧ (t.port n).retryAt = s.tim.systime + 10000000 ∧
      t.ctr (spnB n + 0x130) = s.ctr (spnB n + 0x130) + 1 ∧ (∀ m, (s.strm m).state = 2 → s.onPort n m = true → (t.strm m).state = 3 ∧ (t.strm m).out = []) ∧
      (∀ m, (s.strm m).state ≠ 2 → t.strm m = s.strm m) ∧ t.tim.systime = s.tim.systime) ∧
  (∀ (p : BitVec 2) (n : Nat) (s : State), n = p.toNat → (s.port n).state = 3 → 2 ^ 32 ≤ (s.port n).txCtr ∨ 2 ^ 32 ≤ (s.port n).rxCtr ∨ (s.port n).keyAt + 3600000000000 ≤ s.tim.systime →
    exec (.rekey p) s = .next ((s.modPort n (fun t => { t with keys := t.keys + 1, keyAt := s.tim.systime, txCtr := 0, rxCtr := 0, rekey := true })).bump (spnB n + 0x140))) ∧
  (∀ (p : BitVec 2) (s : State), (s.port p.toNat).state ≠ 3 ∨
    ((s.port p.toNat).txCtr < 2 ^ 32 ∧ (s.port p.toNat).rxCtr < 2 ^ 32 ∧ s.tim.systime < (s.port p.toNat).keyAt + 3600000000000) → exec (.rekey p) s = .next s) ∧
  (∀ (p : BitVec 2) (kind : BitVec 3) (seq ack : BitVec 12) (ok : Bool) (n : Nat) (s : State), s.canonical = true → n = p.toNat → (s.port n).state = 3 →
    ∃ t, exec (.flitReceive p kind seq ack ok) s = .next t ∧ t.ctr (spnB n + 0x108) = s.ctr (spnB n + 0x108) + 1 ∧ t.tim = s.tim ∧ t.streams = s.streams ∧
      (ok = false → t.ctr (spnB n + 0x110) = s.ctr (spnB n + 0x110) + 1 ∧ (t.port n).nak = true ∧ (t.port n).rxSeq = (s.port n).rxSeq) ∧
      (ok = true → kind = 0 → seq.toNat = ((s.port n).rxSeq + 1) % 4096 → (t.port n).rxSeq = seq.toNat ∧ (t.port n).nak = false) ∧
      (ok = true → kind = 0 → seq.toNat ≠ ((s.port n).rxSeq + 1) % 4096 → (t.port n).rxSeq = (s.port n).rxSeq ∧ (t.port n).nak = true) ∧
      (ok = true → kind = 1 ∨ kind = 2 → (t.port n).rxSeq = (s.port n).rxSeq ∧ (t.port n).nak = (s.port n).nak)) ∧
  (∀ (p : BitVec 2) (kind : BitVec 3) (seq ack : BitVec 12) (ok : Bool) (s : State), (s.port p.toNat).state ≠ 3 →
    exec (.flitReceive p kind seq ack ok) s = .next s ∧ exec (.nakReplay p ack) s = .next s) ∧
  (∀ (p : BitVec 2) (ack : BitVec 12) (n : Nat) (s : State), s.canonical = true → n = p.toNat → (s.port n).state = 3 → (s.port n).egress = [] →
    ∃ t, exec (.nakReplay p ack) s = .next t ∧ (t.port n).replay = ackReplay (s.port n).replay ack.toNat ∧ t.tim = s.tim ∧ t.streams = s.streams ∧
      (ackReplay (s.port n).replay ack.toNat ≠ [] → t.ctr (spnB n + 0x120) = s.ctr (spnB n + 0x120) + 1))

/-- A stream applies writes in order on credits, is poisoned by a failed one, and is opened, fenced and closed (R46, R60, R457, R458, R459, R461, R462, R463). In every state in canonical form: WRITE_CHAN and WRITE_DRAM with the next SEQ, credits, a live slipcase and whole data at an end that is UP are applied (the items behind those in the channel, the bytes at the landing address) and change no other channel, byte or stream; one with another SEQ is refused, applied to nothing, and poisons the end. CREDIT adds credits; WRITE_ERROR poisons; FENCE is acknowledged with the first failed SEQ and FENCE_ACK ends the waiting fence with OK or REMOTE_FAULT; TICK_MARK and SPINE_CHANNEL_CLOSE close ticks; SPIKES of a stream that is not UP are counted as dropped; SPIKES_SEND takes up to 16 spikes. STREAM_OPEN leaves a WAITING end or sends OPEN; an OPEN that matches a WAITING end brings it UP; STREAM_CLOSE drops a WAITING end at once, else waits for the far end; WRITE_FENCE waits, or reports the poison. -/
def Obligations.StreamsCarryWritesInOrder : Prop :=
  (∀ (p : BitVec 2) (m : SpMsg) (l : List (BitVec 64)) (n : Nat) (s : State), s.canonical = true → m.body = .writeChan l false → n = m.stream % 4096 → (s.strm n).state = 2 →
    (s.strm n).peer = m.src → (s.strm n).spike = false → (∀ k, (s.strm n).slip = some k → (s.slip k).state = 1) → m.seq = (s.strm n).rxSeq + 1 →
    l.length ≤ (s.strm n).granted → (s.strm n).group.testBit 15 = false → (∀ w ∈ l, ((s.strm n).closed : Int) ≤ s.tickOf w.toNat) →
    ∃ t, exec (.writeChan p m) s = .next t ∧ SMap.get [] t.uchans ((s.strm n).group % 4096) = SMap.get [] s.uchans ((s.strm n).group % 4096) ++ l ∧
      (∀ c, c ≠ (s.strm n).group % 4096 → SMap.get [] t.uchans c = SMap.get [] s.uchans c) ∧
      t.strm n = { s.strm n with rxSeq := m.seq, granted := (s.strm n).granted - l.length } ∧ (∀ k, k ≠ n → t.strm k = s.strm k) ∧ t.dram = s.dram ∧ t.tim = s.tim) ∧
  (∀ (p : BitVec 2) (m : SpMsg) (l : List (BitVec 8)) (off a n : Nat) (s : State), s.canonical = true → m.body = .writeDram off l false → n = m.stream % 4096 → (s.strm n).state = 2 →
    (s.strm n).peer = m.src → (s.strm n).spike = false → (∀ k, (s.strm n).slip = some k → (s.slip k).state = 1) → m.seq = (s.strm n).rxSeq + 1 →
    (l.length + 63) / 64 ≤ (s.strm n).granted → (s.strm n).group.testBit 15 = true → s.landing (s.strm n) off l.length = some a →
    ∃ t, exec (.writeDram p m) s = .next t ∧ (∀ i x, l[i]? = some x → SMap.get 0 t.dram (a + i) = x) ∧
      (∀ j, j < a ∨ a + l.length ≤ j → SMap.get 0 t.dram j = SMap.get 0 s.dram j) ∧ t.strm n = { s.strm n with rxSeq := m.seq } ∧
      (∀ k, k ≠ n → t.strm k = s.strm k) ∧ t.uchans = s.uchans ∧ t.tim = s.tim) ∧
  (∀ (c : Instr) (p : BitVec 2) (m : SpMsg) (n : Nat) (s : State), s.canonical = true →
    ((c = .writeChan p m ∧ ∃ l, m.body = .writeChan l false) ∨ (c = .writeDram p m ∧ ∃ off l, m.body = .writeDram off l false)) → n = m.stream % 4096 →
    (s.strm n).state = 2 → (s.strm n).peer = m.src → (s.strm n).spike = false → (∀ k, (s.strm n).slip = some k → (s.slip k).state = 1) → m.seq ≠ (s.strm n).rxSeq + 1 →
    ∃ t, exec c s = .next t ∧ (t.strm n).state = 3 ∧ (t.strm n).poisonSeq = m.seq ∧ (t.strm n).rxSeq = (s.strm n).rxSeq ∧
      t.ctr (spnB p.toNat + 0x160) = s.ctr (spnB p.toNat + 0x160) + 1 ∧ t.dram = s.dram ∧ t.uchans = s.uchans ∧ (∀ k, k ≠ n → t.strm k = s.strm k)) ∧
  (∀ (p : BitVec 2) (m : SpMsg) (c a n : Nat) (s : State), m.body = .credit c a → n = m.stream % 4096 → (s.strm n).out = [] →
    exec (.credit p m) s = .next (if (s.strm n).state = 2 ∧ (s.strm n).peer = m.src then
      s.modStrm n (fun t => { t with credits := t.credits + c, applied := max t.applied a }) else s)) ∧
  (∀ (p : BitVec 2) (m : SpMsg) (first cause far n : Nat) (s : State), s.canonical = true → m.body = .writeError first cause far → n = m.stream % 4096 →
    ((s.strm n).state = 2 → (s.strm n).peer = m.src → ∃ t, exec (.writeError p m) s = .next t ∧ (t.strm n).state = 3 ∧ (t.strm n).poisonSeq = first ∧ (t.strm n).out = [] ∧
      (∀ k, k ≠ n → t.strm k = s.strm k) ∧ t.tim = s.tim) ∧
    ((s.strm n).state ≠ 2 ∨ (s.strm n).peer ≠ m.src → exec (.writeError p m) s = .next s)) ∧
  (∀ (p : BitVec 2) (m : SpMsg) (last : Nat) (s : State), m.body = .fence last → exec (.fence p m) s =
    .next (s.sendTo { dst := m.src, src := s.devId, stream := m.stream, body := .fenceAck last (s.strm (m.stream % 4096)).firstFail })) ∧
  (∀ (p : BitVec 2) (m : SpMsg) (last first n : Nat) (h : CmdRef) (f : Fetched) (s : State), m.body = .fenceAck last first → n = m.stream % 4096 →
    (s.strm n).fenceRef = some h → (s.strm n).peer = m.src → s.fetchedOf h = some f →
    ∃ t, exec (.fenceAck p m) s = .next t ∧ State.Answered (s.modStrm n (fun t => { t with fenceRef := none })) t h (if first = 0 then 0 else 0x500) 0
      (if first = 0 then 0 else result [(first, 8)])) ∧
  (∀ (p : BitVec 2) (m : SpMsg) (ets n : Nat) (s : State), m.body = .tickMark ets → n = m.stream % 4096 → exec (.tickMark p m) s =
    .next (if (s.strm n).state = 2 ∧ (s.strm n).peer = m.src then s.modStrm n (fun t => { t with closed := max t.closed (s.tickOf ets + 1).toNat }) else s)) ∧
  (∀ s : State, s.canonical = true → ∃ t, exec .spineChannelClose s = .next t ∧ t = { s with streams := t.streams } ∧
    ∀ n, t.strm n = if (s.strm n).state = 0 then s.strm n else { s.strm n with closed := max (s.strm n).closed (s.tim.tick - s.leadTicks) }) ∧
  (∀ (p : BitVec 2) (m : SpMsg) (l : List (BitVec 64)) (n : Nat) (s : State), s.canonical = true → m.body = .spikes l → n = m.stream % 4096 →
    (s.strm n).state ≠ 2 ∨ (s.strm n).spike = false ∨ (s.strm n).peer ≠ m.src →
    ∃ t, exec (.spikes p m) s = .next t ∧ t.ctr (spnB p.toNat + 0x178) = s.ctr (spnB p.toNat + 0x178) + BitVec.ofNat 48 l.length ∧ t = { s with ctrs := t.ctrs, slips := t.slips }) ∧
  (∀ (n : BitVec 12) (p : Nat) (s : State), s.canonical = true → s.route (s.strm n.toNat).peer = some p → (s.strm n.toNat).spikes ≠ [] → (s.strm n.toNat).state = 2 → (s.port p).state = 3 →
    ∃ t, exec (.spikesSend n) s = .next t ∧ t.strm n.toNat = { s.strm n.toNat with spikes := (s.strm n.toNat).spikes.drop 16 } ∧ (∀ k, k ≠ n.toNat → t.strm k = s.strm k) ∧
      t.tim = s.tim) ∧
  (∀ (n : BitVec 12) (s : State), (s.strm n.toNat).spikes = [] ∨ (s.strm n.toNat).state ≠ 2 → exec (.spikesSend n) s = .next s) ∧
  (∀ (p : BitVec 2) (m : SpMsg) (kind lag n : Nat) (s : State), s.canonical = true → m.body = .streamCtl 1 kind lag → n = m.stream % 4096 → (s.strm n).state = 1 → (s.strm n).peer = m.src →
    (s.strm n).openRef = none → kind = (s.strm n).spike.toNat → ((s.strm n).spike = true → lag = (s.strm n).lag - 1) →
    ∃ t, exec (.streamCtl p m) s = .next t ∧ (t.strm n).state = 2 ∧ (t.strm n).txSeq = 0 ∧ (t.strm n).rxSeq = 0 ∧
      ((s.strm n).spike = false → (t.strm n).granted = (s.strm n).firstGrant) ∧ (∀ k, k ≠ n → t.strm k = s.strm k) ∧ t.tim = s.tim) ∧
  (∀ (p : BitVec 2) (m : SpMsg) (kind lag n : Nat) (s : State), s.canonical = true → m.body = .streamCtl 3 kind lag → n = m.stream % 4096 → (s.strm n).peer = m.src →
    ∃ t, exec (.streamCtl p m) s = .next t ∧ t.strm n = {} ∧ (∀ k, k ≠ n → t.strm k = s.strm k) ∧ t.tim = s.tim) ∧
  (∀ (h : CmdRef) (n peer group : BitVec 16) (kind lag : BitVec 8) (rate : BitVec 64) (far : Bool) (f : Fetched) (k lg : Nat) (slip : Option Nat) (s b : State),
    s.Starts h 0x0C02 (.streamOpen h n peer kind lag group rate far) f b → b.canonical = true → k = n.toNat → lg = (if lag = 0 then 256 else lag.toNat) →
    b.strmOwner h.fn.toNat = some slip → k < 4096 → kind.toNat < 2 → (∀ j, slip = some j → (b.slip j).state = 1 ∧ (kind = 1 → b.slipLag j = lg)) →
    (b.strm k).state = 0 → (b.strm k).openRef = none → (b.strm k).closeRef = none →
    (far = false → ∃ u t, exec (.streamOpen h n peer kind lag group rate far) s = .next t ∧ State.Answered u t h 0 0 0 ∧ u = { b with streams := u.streams } ∧
      u.strm k = { state := 1, peer := peer.toNat, slip := slip, pf := slip.isNone, spike := decide (kind = 1), lag := lg, group := group.toNat, rate := rate.toNat, func := h.fn.toNat } ∧
      (∀ j, j ≠ k → u.strm j = b.strm j)) ∧
    (far = true → ∃ t, exec (.streamOpen h n peer kind lag group rate far) s = .next t ∧ (t.strm k).openRef = some h ∧ (t.strm k).state = 0 ∧
      (∀ j, j ≠ k → t.strm j = b.strm j) ∧ t.tim = b.tim)) ∧
  (∀ (h : CmdRef) (n : BitVec 16) (f : Fetched) (s b : State), s.Starts h 0x0C03 (.streamClose h n) f b → b.canonical = true → n.toNat < 4096 → b.ownsStrm h.fn.toNat n.toNat = true →
    (b.strm n.toNat).openRef = none → (b.strm n.toNat).closeRef = none →
    ((b.strm n.toNat).state = 1 → ∃ u t, exec (.streamClose h n) s = .next t ∧ State.Answered u t h 0 0 0 ∧ u = { b with streams := u.streams } ∧ u.strm n.toNat = {} ∧
      (∀ j, j ≠ n.toNat → u.strm j = b.strm j)) ∧
    (2 ≤ (b.strm n.toNat).state → ∃ t, exec (.streamClose h n) s = .next t ∧ t.strm n.toNat = { b.strm n.toNat with closeRef := some h } ∧
      (∀ j, j ≠ n.toNat → t.strm j = b.strm j) ∧ t.tim = b.tim)) ∧
  (∀ (h : CmdRef) (peer n : BitVec 16) (f : Fetched) (s b : State), s.Starts h 0x0C04 (.writeFence h peer n) f b → b.canonical = true → n.toNat < 4096 →
    b.ownsStrm h.fn.toNat n.toNat = true → (b.strm n.toNat).peer = peer.toNat →
    ((b.strm n.toNat).state = 3 → ∃ t, exec (.writeFence h peer n) s = .next t ∧ State.Answered b t h 0x500 0 (result [((b.strm n.toNat).poisonSeq, 8)])) ∧
    ((b.strm n.toNat).state = 1 ∨ (b.strm n.toNat).state = 2 → (b.strm n.toNat).fenceRef = none → ∃ t, exec (.writeFence h peer n) s = .next t ∧
      t.strm n.toNat = { b.strm n.toNat with fenceRef := some h } ∧ (∀ j, j ≠ n.toNat → t.strm j = b.strm j) ∧ t.tim = b.tim))

/-- Devices join a root, take its time, and act together through barriers, broadcasts, markers and resets; messages are verified and forwarded (R377, R446, R448, R452, R454, R455, R464, R465, R466). In every state: BINDING_JOIN without PARENT makes the device root, with one it waits for the root's reply; a root accepts a free ID within its latency; the reply makes the device a member with the root's time. TIME_SYNC from the parent is a synchronisation of SPINE, from elsewhere a violation; a marker of the parent waits for its tick. BARRIER, BROADCAST and BINDING_RESET with the lead they need wait or take effect; a barrier that every child has reached is released at the largest AT_TICK or L ticks ahead, and one that nobody releases fails. A GLOBAL release or reset from the parent is taken, from elsewhere counted. A message at a port that is UP with a good tag is delivered to this device, sent on with one hop less, dropped at the last hop or without a route; with a bad tag the link fails authentication. REMOTE_SILENT ends a command that waited too long, with TIMEOUT, and no other. -/
def Obligations.BindingsActTogether : Prop :=
  (∀ (h : CmdRef) (dev : BitVec 16) (f : Fetched) (s b : State), s.Starts h 0x0C01 (.bindingJoin h dev 0xFF) f b → b.bind.member = false → b.bind.joinRef = none →
    b.anyGraph = false → dev ≠ 0 →
    ∃ u t, exec (.bindingJoin h dev 0xFF) s = .next t ∧ State.Answered u t h 0 0 (result [(dev.toNat, 2)]) ∧ u = { b with bind := u.bind, regs := u.regs } ∧ u.bind.member = true ∧
      u.bind.isRoot = true ∧ u.bind.dev = dev.toNat ∧ u.bind.root = dev.toNat ∧ u.bind.ids = [(dev.toNat, 0)]) ∧
  (∀ (h : CmdRef) (dev : BitVec 16) (par : BitVec 8) (f : Fetched) (s b : State), s.Starts h 0x0C01 (.bindingJoin h dev par) f b → par.toNat ≤ 3 → b.bind.member = false →
    b.bind.joinRef = none → b.anyGraph = false → dev ≠ 0 →
    ∃ t, exec (.bindingJoin h dev par) s = .next t ∧ t.bind = { b.bind with joinRef := some (h, dev.toNat, par.toNat) } ∧ t.tim = b.tim ∧ t.regs = b.regs) ∧
  (∀ (p : BitVec 2) (m : SpMsg) (id path : Nat) (s : State), m.body = .join (.request id path) → s.bind.member = true → s.bind.isRoot = true → id ≠ 0 →
    (∀ e ∈ s.bind.ids, e.1 ≠ id) → s.bind.barriers = [] → path ≤ s.bind.leadNs * 1000 →
    ∃ t, exec (.join p m) s = .next t ∧ t.bind.ids = s.bind.ids ++ [(id, path)] ∧ p.toNat ∈ t.bind.children ∧ t.tim = s.tim ∧ t.ctr (spnB p.toNat + 0x160) = s.ctr (spnB p.toNat + 0x160)) ∧
  (∀ (p : BitVec 2) (m : SpMsg) (h : CmdRef) (f : Fetched) (id root sys tick tq jn ln ld dp : Nat) (s : State), m.body = .join (.accept id root sys tick tq jn ln ld dp) →
    s.bind.joinRef = some (h, id, p.toNat) → s.fetchedOf h = some f → ld + s.hopPs p.toNat ≤ ln * 1000 → s.tim.alignRun < 16 →
    ∃ t, exec (.join p m) s = .next t ∧ t.bind.member = true ∧ t.bind.isRoot = false ∧ t.bind.dev = id ∧ t.bind.root = root ∧ t.bind.parent = some p.toNat ∧
      t.bind.lDev = ld + s.hopPs p.toNat ∧ t.bind.joinRef = none ∧ t.tim.systime = sys ∧ t.tim.tick = tick ∧ t.tim.tickQ = tq ∧ t.graphs = s.graphs) ∧
  (∀ (p : BitVec 2) (time off : BitVec 64) (freq res : BitVec 32) (s : State),
    (s.notParent p.toNat = true → exec (.timeSync p time off freq res) s = .next (s.bump (spnB p.toNat + 0x160))) ∧
    (s.notParent p.toNat = false → exec (.timeSync p time off freq res) s = exec (.syncReceived 4 time off freq res) s)) ∧
  (∀ (p : BitVec 2) (m : SpMsg) (tick : Nat) (op : MarkerOp) (s : State), m.body = .timeMarker tick op →
    (s.notParent p.toNat = true → exec (.timeMarker p m) s = .next (s.bump (spnB p.toNat + 0x160))) ∧
    (s.notParent p.toNat = false → ∃ t, exec (.timeMarker p m) s = .next t ∧ t.bind = { s.bind with markers := s.bind.markers ++ [{ tick := tick, what := op }] } ∧
      t.tim = s.tim ∧ t.regs = s.regs)) ∧
  (∀ (h : CmdRef) (id : BitVec 32) (f : Fetched) (d : Nat) (s b : State), s.startable h 0x0C05 = some f → b = s.brewFor f (.barrier h id) →
    b.objErr 0x0C05 h.fn.toNat f.objId.toNat = none → b.lead f.atTick = some d → b.bindLead ≤ d → b.barrier id.toNat = none →
    ∃ t x, exec (.barrier h id) s = .next t ∧ t.barrier id.toNat = some x ∧ x.ref = some h ∧ x.at_ = b.tim.tick + d ∧ x.release = none ∧ t.tim = b.tim) ∧
  (∀ s : State, (∀ x ∈ s.bind.barriers, s.gathered x = false ∨ x.release ≠ none ∨ (s.bind.isRoot || !s.bind.member) = false) → exec .barrierRelease s = .next s) ∧
  (∀ (x : Barrier) (s : State), s.bind.barriers = [x] → s.gathered x = true → x.release = none → (s.bind.isRoot || !s.bind.member) = true →
    ∃ t, exec .barrierRelease s = .next t ∧ t.bind = { s.bind with barriers := [{ x with release := some (max x.at_ (s.tim.tick + s.leadTicks)) }] } ∧ t.tim = s.tim) ∧
  (∀ (x : Barrier) (h : CmdRef) (f : Fetched) (s : State), s.bind.barriers = [x] → x.release = none → x.ref = some h → s.fetchedOf h = some f →
    20000000 + 4 * s.leadNs ≤ (s.tim.tick - x.at_) * s.tickLen →
    ∃ u t, exec .releaseFail s = .next t ∧ State.Answered u t h 0x400 0xF029 0 ∧ u.bind.barriers = [] ∧ u.tim = s.tim) ∧
  (∀ s : State, (∀ x ∈ s.bind.barriers, x.release ≠ none ∨ (s.tim.tick - x.at_) * s.tickLen < 20000000 + 4 * s.leadNs) → exec .releaseFail s = .next s) ∧
  (∀ (h : CmdRef) (g : Sgl) (l : List (BitVec 8)) (f : Fetched) (d : Nat) (s b : State), s.startable h 0x0C06 = some f → b = s.brewFor f (.broadcast h g l) →
    b.objErr 0x0C06 h.fn.toNat f.objId.toNat = none → b.lead f.atTick = some d → b.bindLead ≤ d → l.length ≤ 4096 → sglErr g l.length = none →
    ((b.bind.member && !b.bind.isRoot) = false → ∃ u t, exec (.broadcast h g l) s = .next t ∧ State.Answered u t h 0 0 0 ∧
      u.bind = { b.bind with bcastDue := b.bind.bcastDue ++ [(b.devId, b.tim.tick + d, l.map (fun x => x.toNat))] } ∧ u.tim = b.tim) ∧
    ((b.bind.member && !b.bind.isRoot) = true → ∃ t, exec (.broadcast h g l) s = .next t ∧
      t.bind = { b.bind with bcastRefs := b.bind.bcastRefs ++ [(h, b.tim.tick + d)] } ∧ t.tim = b.tim)) ∧
  (∀ (h : CmdRef) (f : Fetched) (d : Nat) (s b : State), s.startable h 0x0C07 = some f → b = s.brewFor f (.bindingReset h) →
    b.objErr 0x0C07 h.fn.toNat f.objId.toNat = none → b.lead f.atTick = some d → b.bind.member = true → b.bind.isRoot = true →
    (b.bindLead ≤ d → ∃ t, exec (.bindingReset h) s = .next t ∧ t.bind = { b.bind with resetAt := some (b.tim.tick + d, some h) } ∧ t.tim = b.tim ∧ t.resetDue = b.resetDue) ∧
    (d < b.bindLead → ∃ t, exec (.bindingReset h) s = .next t ∧ State.Answered b t h 0x102 6 0)) ∧
  (∀ (p : BitVec 2) (m : SpMsg) (id r : Nat) (s : State), m.body = .globalOp (.release id r) →
    (s.notParent p.toNat = true → exec (.globalOp p m) s = .next (s.bump (spnB p.toNat + 0x160))) ∧
    (s.notParent p.toNat = false → ∃ t, exec (.globalOp p m) s = .next t ∧
      t.bind = { s.bind with barriers := s.bind.barriers.map (fun x => if x.id = id then { x with release := some r } else x) } ∧ t.tim = s.tim)) ∧
  (∀ (p : BitVec 2) (m : SpMsg) (tick : Nat) (s : State), m.body = .globalOp (.bindReset tick) → s.notParent p.toNat = false →
    ∃ t, exec (.globalOp p m) s = .next t ∧ t.bind = { s.bind with resetAt := some (tick, none) } ∧ t.tim = s.tim ∧ t.resetDue = s.resetDue) ∧
  (∀ (p : BitVec 2) (m : SpMsg) (tag flds : Bool) (s : State), (s.port p.toNat).state ≠ 3 → exec (.messageForward p m tag flds) s = .next s) ∧
  (∀ (p : BitVec 2) (m : SpMsg) (flds : Bool) (s : State), s.canonical = true → (s.port p.toNat).state = 3 →
    ∃ t, exec (.messageForward p m false flds) s = .next t ∧ ((t.port p.toNat).state = 0 ∨ (t.port p.toNat).state = 5) ∧
      t.ctr (spnB p.toNat + 0x138) = s.ctr (spnB p.toNat + 0x138) + 1) ∧
  (∀ (p : BitVec 2) (m : SpMsg) (n : Nat) (s u : State), s.canonical = true → n = p.toNat → (s.port n).state = 3 → u = s.modPort n (fun t => { t with rxCtr := t.rxCtr + 1 }) →
    exec (.messageForward p m true false) s = .next ((u.bump (spnB n + 0x160)).orReg (spErr n) 16) ∧
    (spLenOk m.body = true → m.dst = 0xFFFF ∨ s.route m.dst = some 4 →
      exec (.messageForward p m true true) s = .next (((u.bump (spnB n + 0x150)).wakeReq linkDoms).deliverMsg n m)) ∧
    (spLenOk m.body = true → m.dst ≠ 0xFFFF → ∀ q, s.route m.dst = some q → q < 4 → exec (.messageForward p m true true) s =
      .next (if m.hops ≤ 1 then (u.bump (spnB n + 0x170)).orReg (spErr n) 32 else (u.bump (spnB n + 0x158)).sendOn q { m with hops := m.hops - 1 })) ∧
    (spLenOk m.body = true → m.dst ≠ 0xFFFF → s.route m.dst = none → ∃ t, exec (.messageForward p m true true) s = .next t ∧
      t.ctr (spnB n + 0x168) = s.ctr (spnB n + 0x168) + 1 ∧ t.streams = s.streams ∧ t.bind = s.bind)) ∧
  (∀ (h : CmdRef) (f : Fetched) (s : State), s.fetchedOf h = some f →
    (s.awaitsFar h = true → f.since + s.silentNs ≤ s.tim.systime → exec (.remoteSilent h) s = .next (State.complete (s.undoRemote h) h 0x400 0xF029 0)) ∧
    (s.awaitsFar h = false ∨ s.tim.systime < f.since + s.silentNs → exec (.remoteSilent h) s = .next s))

/-- A packet enters the buffer with its tick, or is dropped under its cause; short packets and link events leave the port as Table 3.17 says (R63, R66, R67, R72, R83, R90, R91). In every state in canonical form: a packet of the enabled port's own stream that is whole and fits enters the back of the buffer, stamped with the tick of its arrival; one that is too long, finds no room, comes short or fails its CRC leaves the buffer as it was, is counted under its cause and ends the validity of time and address; a damaged SoT or header leaves the port waiting for the next frame. A packet at a disabled port only returns the lanes to stop. Frame Start and Frame End open and close the frame and count sequence errors. LINK_ERR drops the packet under its cause and leaves error recovery; ESC_ERR is counted; ULPS_ENTRY leaves ULPS. No command here changes another port's buffer or time. -/
def Obligations.PacketsAreReceivedOrDropped : Prop :=
  (∀ (n : BitVec 4) (p : LinkPkt) (c : Word) (s : State), s.canonical = true → p.stale = false → s.portEn n.toNat = true → p.sot.toNat < 2 → p.hdr.toNat < 2 →
    ((s.hop n.toNat).resyncWait = true → (s.reg (hopB (s.cfgPort n.toNat))).getLsbD 2 = true) → c = s.reg (hopB (s.cfgPort n.toNat) + 0xC) → p.dt.toNat = fld c 19 14 →
    p.vc.toNat = fld c 13 10 → p.wordCount.toNat ≤ s.pktMax n.toNat → (s.hop n.toNat).occ + pktUnits p.wordCount.toNat ≤ 4096 → p.short = false → p.crcBad = false →
    ∃ t, exec (.packetReceive n p) s = .next t ∧ (t.hop n.toNat).buf = (s.hop n.toNat).buf ++ [{ payload := p.payload, tick := s.stamp n.toNat p.arrival.toNat }] ∧
      (t.hop n.toNat).link = 0 ∧ (t.hop n.toNat).resyncWait = false ∧ (t.hop n.toNat).items = (s.hop n.toNat).items ∧ t.reg (hopB n.toNat + 0x38) = p.arrival ∧
      t.ctr (hopB n.toNat + 0x300) = s.ctr (hopB n.toNat + 0x300) + 1 ∧ (∀ k, k ≠ n.toNat → t.hop k = s.hop k) ∧
      (∀ k, k ≠ hopB n.toNat + 0x38 → t.reg k = s.reg k) ∧ t.sfms = s.sfms ∧ t.tim = s.tim ∧ t.graphs = s.graphs) ∧
  (∀ (n : BitVec 4) (p : LinkPkt) (c : Word) (k : Nat) (s : State), s.canonical = true → p.stale = false → s.portEn n.toNat = true → p.sot.toNat < 2 → p.hdr.toNat < 2 →
    ((s.hop n.toNat).resyncWait = true → (s.reg (hopB (s.cfgPort n.toNat))).getLsbD 2 = true) → c = s.reg (hopB (s.cfgPort n.toNat) + 0xC) → p.dt.toNat = fld c 19 14 →
    p.vc.toNat = fld c 13 10 → k = (if s.pktMax n.toNat < p.wordCount.toNat then 3 else if 4096 < (s.hop n.toNat).occ + pktUnits p.wordCount.toNat then 5
      else if p.short then 4 else if p.crcBad then 2 else 0) → k ≠ 0 →
    ∃ t, exec (.packetReceive n p) s = .next t ∧ (t.hop n.toNat).buf = (s.hop n.toNat).buf ∧ (t.hop n.toNat).timeValid = false ∧ (t.hop n.toNat).addrValid = false ∧
      t.ctr (hopB n.toNat + 0x200 + 8 * k) = s.ctr (hopB n.toNat + 0x200 + 8 * k) + 1 ∧ t.ctr (hopB n.toNat + 0x300) = s.ctr (hopB n.toNat + 0x300) ∧
      (∀ j, (t.hop j).buf = (s.hop j).buf) ∧ t.tim = s.tim ∧ t.graphs = s.graphs) ∧
  (∀ (n : BitVec 4) (p : LinkPkt) (s : State), s.canonical = true → p.stale = false → s.portEn n.toNat = true → 2 ≤ p.sot.toNat →
    ∃ t, exec (.packetReceive n p) s = .next t ∧ (t.hop n.toNat).buf = (s.hop n.toNat).buf ∧ (t.hop n.toNat).resyncWait = true ∧ (t.hop n.toNat).timeValid = false ∧
      t.ctr (hopB n.toNat + 0x320) = s.ctr (hopB n.toNat + 0x320) + 1 ∧ t.ctr (hopB n.toNat + 0x208) = s.ctr (hopB n.toNat + 0x208) + 1 ∧ t.tim = s.tim) ∧
  (∀ (n : BitVec 4) (p : LinkPkt) (s : State), s.canonical = true → p.stale = false → s.portEn n.toNat = false →
    ∃ t, exec (.packetReceive n p) s = .next t ∧ t = { s with hops := t.hops } ∧ t.hop n.toNat = { s.hop n.toNat with link := 0 } ∧ (∀ k, k ≠ n.toNat → t.hop k = s.hop k)) ∧
  (∀ (n vc : BitVec 4) (dt : BitVec 6) (hdr : BitVec 2) (s : State), s.canonical = true → s.portEn n.toNat = true → hdr.toNat < 2 →
    vc.toNat = s.rfld (hopB (s.cfgPort n.toNat) + 0xC) 13 10 →
    (dt = 0 → ∃ t, exec (.shortPacket n dt vc hdr) s = .next t ∧ t = { s with hops := t.hops, ctrs := t.ctrs } ∧
      t.hop n.toNat = { s.hop n.toNat with link := 0, resyncWait := false, frameOpen := true } ∧ (∀ k, k ≠ n.toNat → t.hop k = s.hop k) ∧
      t.ctr (hopB n.toNat + 0x338) = s.ctr (hopB n.toNat + 0x338) + BitVec.ofNat 48 (s.hop n.toNat).frameOpen.toNat) ∧
    (dt = 1 → ((s.hop n.toNat).resyncWait = true → (s.reg (hopB (s.cfgPort n.toNat))).getLsbD 2 = true) →
      ∃ t, exec (.shortPacket n dt vc hdr) s = .next t ∧ t = { s with hops := t.hops, ctrs := t.ctrs } ∧
      t.hop n.toNat = { s.hop n.toNat with link := 0, resyncWait := false, frameOpen := false } ∧ (∀ k, k ≠ n.toNat → t.hop k = s.hop k) ∧
      t.ctr (hopB n.toNat + 0x338) = s.ctr (hopB n.toNat + 0x338) + BitVec.ofNat 48 (!(s.hop n.toNat).frameOpen).toNat)) ∧
  (∀ (n vc : BitVec 4) (dt : BitVec 6) (wc : BitVec 16) (c : Word) (k : Nat) (s : State), s.canonical = true → s.portEn n.toNat = true →
    ((s.hop n.toNat).resyncWait = true → (s.reg (hopB (s.cfgPort n.toNat))).getLsbD 2 = true) → c = s.reg (hopB (s.cfgPort n.toNat) + 0xC) →
    dt.toNat = fld c 19 14 → vc.toNat = fld c 13 10 →
    k = (if s.pktMax n.toNat < wc.toNat then 3 else if 4096 < (s.hop n.toNat).occ + pktUnits wc.toNat then 5 else 6) →
    ∃ t, exec (.linkErr n dt vc wc) s = .next t ∧ (t.hop n.toNat).link = 3 ∧ (t.hop n.toNat).timeValid = false ∧ (t.hop n.toNat).addrValid = false ∧
      t.ctr (hopB n.toNat + 0x200 + 8 * k) = s.ctr (hopB n.toNat + 0x200 + 8 * k) + 1 ∧ (∀ j, (t.hop j).buf = (s.hop j).buf) ∧ t.tim = s.tim) ∧
  (∀ (n : BitVec 4) (s : State), s.canonical = true →
    (s.portEn n.toNat = true → ∃ t, exec (.escErr n) s = .next t ∧ t = { s with ctrs := t.ctrs } ∧ t.ctr (hopB n.toNat + 0x340) = s.ctr (hopB n.toNat + 0x340) + 1 ∧
      ∀ k, k ≠ hopB n.toNat + 0x340 → t.ctr k = s.ctr k) ∧
    (s.portEn n.toNat = false → exec (.escErr n) s = .next s) ∧
    ∃ t, exec (.ulpsEntry n) s = .next t ∧ t = { s with hops := t.hops } ∧ t.hop n.toNat = { s.hop n.toNat with link := 1 } ∧ ∀ k, k ≠ n.toNat → t.hop k = s.hop k)

/-- The front end decodes the oldest packet, the pipeline filters the oldest item, writes its surface entry and hands it to every channel (R63, R68, R69, R70, R78, R79, R85, R86, R98, R100). In every state in canonical form, at a port that is not paired: FRONT_END_DECODE takes the oldest packet out of the buffer, leaves the decoder state, the counts of events and of extension words and the items that its words give, and does nothing to an empty buffer. ITEM_PIPELINE takes the oldest item: one the refractory or the background filter drops is counted and reaches no channel; one that passes is counted, writes its DT16 entry while the surface is enabled, and stands at the back of every channel that has room. SPILL_QUEUE_DRAIN moves waiting items into the ribbon in order, as far as credits last. CELL_MAP_SWEEP keeps exactly the times that are no more than 8,192 ticks old. -/
def Obligations.ItemsPassTheHopper : Prop :=
  (∀ (n : BitVec 4) (p : BufPkt) (rest : List BufPkt) (f : FeSt) (s : State), s.canonical = true → s.paired n.toNat = false → (s.hop n.toNat).buf = p :: rest →
    f = (words (s.wordBits n.toNat / 8) ((s.reg (hopB n.toNat + 0x10)).getLsbD 7) p.payload.length p.payload).foldl
      (FeSt.word (s.feCfg n.toNat p.tick) (s.rules n.toNat) (s.wordBits n.toNat) (s.rfld (hopB n.toNat + 0x10) 17 12)) { h := s.hop n.toNat } →
    ∃ t, exec (.frontEndDecode n) s = .next t ∧ (t.hop n.toNat).buf = rest ∧ (t.hop n.toNat).items = (s.hop n.toNat).items ++ f.items ∧ (t.hop n.toNat).stime = f.h.stime ∧
      (t.hop n.toNat).timeValid = f.h.timeValid ∧ (t.hop n.toNat).yCur = f.h.yCur ∧ (t.hop n.toNat).xBase = f.h.xBase ∧ (t.hop n.toNat).level = f.h.level ∧
      t.ctr (hopB n.toNat + 0x308) = s.ctr (hopB n.toNat + 0x308) + BitVec.ofNat 48 f.evs ∧ t.ctr (hopB n.toNat + 0x348) = s.ctr (hopB n.toNat + 0x348) + BitVec.ofNat 48 f.ext ∧
      (∀ i ∈ f.items, i.tick = p.tick ∧ i.x < s.geomW n.toNat ∧ i.y < s.geomH n.toNat) ∧ (∀ k, k ≠ n.toNat → t.hop k = s.hop k) ∧ t.tim = s.tim ∧ t.graphs = s.graphs) ∧
  (∀ (n : BitVec 4) (s : State), ((s.hop n.toNat).buf = [] → exec (.frontEndDecode n) s = .next s) ∧ ((s.hop n.toNat).items = [] → exec (.itemPipeline n) s = .next s)) ∧
  (∀ (n : BitVec 4) (i : HItem) (rest : List HItem) (s v : State), s.canonical = true → s.paired n.toNat = false → (s.hop n.toNat).items = i :: rest →
    ((s.crnEn n.toNat || s.flwEn n.toNat) = true → (s.sfm n.toNat).rwb.length < 4096) → v = (s.surfAt n.toNat i.tick).modHop n.toNat (fun h => { h with items := rest }) →
    (v.refractory n.toNat i = true → exec (.itemPipeline n) s = .next (v.bump (hopB n.toNat + 0x260))) ∧
    (v.refractory n.toNat i = false → (v.rankFilter n.toNat i).2 = false →
      exec (.itemPipeline n) s = .next ((v.rankFilter n.toNat i).1.bump (hopB n.toNat + 0x268))) ∧
    (v.refractory n.toNat i = false → (v.rankFilter n.toNat i).2 = true → ∃ t, exec (.itemPipeline n) s = .next t ∧ (t.hop n.toNat).items = rest ∧
      t.ctr (hopB n.toNat + 0x310) = s.ctr (hopB n.toNat + 0x310) + 1 ∧ t.tim = s.tim ∧ (∀ k, k ≠ n.toNat → t.hop k = s.hop k) ∧
      (∀ (j : Nat) (c : HChan), (s.hop n.toNat).chans[j]? = some c → c.consumer ≠ .evring → c.lost = [] → c.spill = [] → 2 ≤ c.ribbon.credits →
        ∃ c', (t.hop n.toNat).chans[j]? = some c' ∧ c'.ribbon.items = c.ribbon.items ++ [eventWord i] ∧ c'.consumer = c.consumer ∧ c'.spill = []) ∧
      (∀ (u : Nat) (old : BitVec 16) (r a : Nat), s.surfEn n.toNat = true → v.surfTick n.toNat i.tick = some u → (v.sfm n.toNat).clearing = false →
        SMap.wf 0x7FFF (v.sfm n.toNat).entries = true → a = i.y * s.geomW n.toNat + i.x → old = (v.sfm n.toNat).read a →
        r = ((u : Int) - epochBase (s.surfL n.toNat) (v.sfm n.toNat).epoch).toNat →
        (t.sfm n.toNat).read a =
          BitVec.ofNat 16 ((i.pol || (!dtStale old && decide (old.toNat % 2 ^ 15 = r) && old.getLsbD 15)).toNat * 2 ^ 15 + r % 2 ^ 15)))) ∧
  (∀ (n : BitVec 4) (s : State), s.canonical = true → ∃ t, exec (.spillQueueDrain n) s = .next t ∧ t = { s with hops := t.hops } ∧ (∀ k, k ≠ n.toNat → t.hop k = s.hop k) ∧
    t.hop n.toNat = { s.hop n.toNat with chans := (t.hop n.toNat).chans } ∧ (t.hop n.toNat).chans.length = (s.hop n.toNat).chans.length ∧
    ∀ (j : Nat) (c : HChan), (s.hop n.toNat).chans[j]? = some c → ∃ c', (t.hop n.toNat).chans[j]? = some c' ∧ c'.ribbon.items ++ c'.spill = c.ribbon.items ++ c.spill ∧
      c'.consumer = c.consumer ∧ (c.consumer ≠ .evring → c'.spill = [] ∨ c'.ribbon.credits ≤ 1)) ∧
  (∀ (n : BitVec 4) (s : State), s.canonical = true → SMap.wf {} (s.hop n.toNat).cells = true → ∃ t, exec (.cellMapSweep n) s = .next t ∧ t = { s with hops := t.hops } ∧
    (∀ k, k ≠ n.toNat → t.hop k = s.hop k) ∧ t.hop n.toNat = { s.hop n.toNat with cells := (t.hop n.toNat).cells } ∧
    ∀ (k : Nat) (c : Cell), c = SMap.get {} (s.hop n.toNat).cells k → SMap.get {} (t.hop n.toNat).cells k =
      { last := c.last.filter (fun v => decide ((s.tim.tick % 2 ^ 15 + 2 ^ 15 - v.toNat) % 2 ^ 15 ≤ 8192)),
        prev := c.prev.filter (fun v => decide ((s.tim.tick % 2 ^ 15 + 2 ^ 15 - v.toNat) % 2 ^ 15 ≤ 8192)) })

/-- Clear, epoch changes and generation sweeps leave every entry the time it holds; the Corner and Flow Units test and issue (R97, R98, R99, R100, R101, R113). In every state in canonical form: REGION_CLEAR ends a clear and sets ORIGIN to the next tick boundary, in every region of the surface and nowhere else. EPOCH_CHANGE passes to every epoch that has begun: each entry reads the same absolute time as before, or is stale where that time lies before the new base; in RETAIN the changes are accumulated. GENERATION_SWEEP changes no entry's reading. CORNER_TEST and FLOW_FIT take their first item once its view stands (R104), count the test and its outcome, and put both words of a result at the back of every channel with room; without an item they change nothing. DERIVED_SPILL_DRAIN keeps the order of a channel's items. -/
def Obligations.SurfacesKeepTheirTimes : Prop :=
  (∀ (r : BitVec 4) (s : State), s.canonical = true →
    ((s.sfm r.toNat).clearing = true → ∃ t, exec (.regionClear r) s = .next t ∧ t = { s with sfms := t.sfms } ∧ ∀ i, t.sfm i =
      if i ∈ s.surfRegions r.toNat then { s.sfm i with clearing := false, origin := some (s.tim.tick + 1) } else s.sfm i) ∧
    ((s.sfm r.toNat).clearing = false → exec (.regionClear r) s = .next s)) ∧
  (∀ (r : BitVec 4) (u : Nat) (s : State), s.canonical = true → (∀ i, SMap.wf 0x7FFF (s.sfm i).entries = true) → s.surfTick r.toNat s.tim.tick = some u →
    s.surfL r.toNat ≤ 16383 →
    (s.dom (21 + r.toNat / 4) = 2 → ∃ t, exec (.epochChange r) s = .next t ∧ t = { s with sfms := t.sfms } ∧ (∀ i, i ∉ s.surfRegions r.toNat → t.sfm i = s.sfm i) ∧
      ∀ i ∈ s.surfRegions r.toNat, (t.sfm i).epoch = (s.sfm i).epoch + (epochOf (s.surfL r.toNat) u - (s.sfm (s.cfgPort r.toNat)).epoch) ∧
        ∀ k, (t.sfm i).time (s.surfL r.toNat) ((t.sfm i).stored k) =
          ((s.sfm i).time (s.surfL r.toNat) ((s.sfm i).stored k)).filter (fun p => decide (epochBase (s.surfL r.toNat) (t.sfm i).epoch ≤ p.1))) ∧
    (s.dom (21 + r.toNat / 4) ≠ 2 → ∃ t, exec (.epochChange r) s = .next t ∧ t = { s with sfms := t.sfms } ∧ ∀ i, t.sfm i =
      if i ∈ s.surfRegions r.toNat then { s.sfm i with pendEpochs := epochOf (s.surfL r.toNat) u - (s.sfm (s.cfgPort r.toNat)).epoch } else s.sfm i)) ∧
  (∀ (r : BitVec 4) (s : State), s.surfTick r.toNat s.tim.tick = none → exec (.epochChange r) s = .next s) ∧
  (∀ (r : BitVec 4) (s : State), s.canonical = true → SMap.wf 0x7FFF (s.sfm r.toNat).entries = true →
    (s.surfEn r.toNat = true → s.dom (21 + r.toNat / 4) = 2 → ∃ t, exec (.generationSweep r) s = .next t ∧ t = { s with sfms := t.sfms } ∧
      (∀ i, i ≠ r.toNat → t.sfm i = s.sfm i) ∧ (t.sfm r.toNat).conv = none ∧ (t.sfm r.toNat).epoch = (s.sfm r.toNat).epoch ∧
      ∀ k, (t.sfm r.toNat).stored k = (s.sfm r.toNat).stored k) ∧
    (s.surfEn r.toNat = false ∨ s.dom (21 + r.toNat / 4) ≠ 2 → exec (.generationSweep r) s = .next s)) ∧
  (∀ (n : BitVec 4) (i : HItem) (rest : List HItem) (r : Nat) (s : State), s.canonical = true → r = s.cfgPort n.toNat →
    firstItem (s.geomW r) (s.sfm r).crnItems = some (i, rest) →
    (s.viewReady r i.tick = false → exec (.cornerTest n) s = .next s) ∧ (s.viewReady r i.tick = true →
    ((s.surfTick r i.tick = none ∨ s.crnEn r = false ∨ ((s.reg (sfmP r + 0x20)).getLsbD 29 = true ∧ s.nearEdge r i = true)) →
      ∃ t, exec (.cornerTest n) s = .next t ∧ t = { s with sfms := t.sfms } ∧ (t.sfm r).crnItems = rest) ∧
    (∀ u0, s.surfTick r i.tick = some u0 → s.crnEn r = true → ((s.reg (sfmP r + 0x20)).getLsbD 29 && s.nearEdge r i) = false →
      ∃ t, exec (.cornerTest n) s = .next t ∧ (t.sfm r).crnItems = rest ∧ (t.sfm r).entries = (s.sfm r).entries ∧
        t.ctr (sfmP r + 0x100) = s.ctr (sfmP r + 0x100) + 1 ∧ t.tim = s.tim ∧ t.hops = s.hops ∧
        t.ctr (sfmP r + 0x108) = s.ctr (sfmP r + 0x108) + BitVec.ofNat 48 (s.corner r i u0).isSome.toNat ∧
        ∀ (w0 w1 : BitVec 64) (j : Nat) (c : HChan), s.corner r i u0 = some (w0, w1) → (s.sfm r).crnChans[j]? = some c → c.lost = [] → c.spill = [] → 3 ≤ c.ribbon.credits →
          ∃ c', (t.sfm r).crnChans[j]? = some c' ∧ c'.ribbon.items = c.ribbon.items ++ [w0, w1]))) ∧
  (∀ (n : BitVec 4) (i : HItem) (rest : List HItem) (r : Nat) (s : State), s.canonical = true → r = s.cfgPort n.toNat →
    firstItem (s.geomW r) (s.sfm r).flwItems = some (i, rest) →
    (s.viewReady r i.tick = false → exec (.flowFit n) s = .next s) ∧ (s.viewReady r i.tick = true →
    ((s.surfTick r i.tick = none ∨ s.flwEn r = false) → ∃ t, exec (.flowFit n) s = .next t ∧ t = { s with sfms := t.sfms } ∧ (t.sfm r).flwItems = rest) ∧
    (∀ u0, s.surfTick r i.tick = some u0 → s.flwEn r = true → ∃ t, exec (.flowFit n) s = .next t ∧ (t.sfm r).flwItems = rest ∧ (t.sfm r).entries = (s.sfm r).entries ∧
      t.ctr (sfmP r + 0x110) = s.ctr (sfmP r + 0x110) + 1 ∧ t.tim = s.tim ∧ t.hops = s.hops ∧
      t.ctr (sfmP r + 0x120) = s.ctr (sfmP r + 0x120) + (if s.flow r i u0 = .few then 1 else 0) ∧
      t.ctr (sfmP r + 0x128) = s.ctr (sfmP r + 0x128) + (if s.flow r i u0 = .sing then 1 else 0) ∧
      t.ctr (sfmP r + 0x130) = s.ctr (sfmP r + 0x130) + (if s.flow r i u0 = .conf then 1 else 0) ∧
      ∀ (w0 w1 : BitVec 64) (j : Nat) (c : HChan), s.flow r i u0 = .issue w0 w1 → (s.sfm r).flwChans[j]? = some c → c.lost = [] → c.spill = [] → 3 ≤ c.ribbon.credits →
        ∃ c', (t.sfm r).flwChans[j]? = some c' ∧ c'.ribbon.items = c.ribbon.items ++ [w0, w1]))) ∧
  (∀ (n : BitVec 4) (s : State), ((s.sfm (s.cfgPort n.toNat)).crnItems = [] → exec (.cornerTest n) s = .next s) ∧
    ((s.sfm (s.cfgPort n.toNat)).flwItems = [] → exec (.flowFit n) s = .next s)) ∧
  (∀ (n : BitVec 4) (corner : Bool) (r : Nat) (s : State), s.canonical = true → r = s.cfgPort n.toNat → ∃ t, exec (.derivedSpillDrain n corner) s = .next t ∧
    t = { s with sfms := t.sfms } ∧ (∀ k, k ≠ r → t.sfm k = s.sfm k) ∧ t.sfm r = { s.sfm r with crnChans := (t.sfm r).crnChans, flwChans := (t.sfm r).flwChans } ∧
    (corner = true → (t.sfm r).flwChans = (s.sfm r).flwChans) ∧ (corner = false → (t.sfm r).crnChans = (s.sfm r).crnChans) ∧
    ∀ (j : Nat) (c : HChan), (if corner then (s.sfm r).crnChans else (s.sfm r).flwChans)[j]? = some c →
      ∃ c', (if corner then (t.sfm r).crnChans else (t.sfm r).flwChans)[j]? = some c' ∧ c'.ribbon.items ++ c'.spill = c.ribbon.items ++ c.spill)

/-- A delta layer takes its next item into the accumulator, settles closed ticks in order, and sends only changes that reach the threshold (R173, R178, R179, R181, R182, R185, R189). In every state in canonical form, for a running graph: DXE_INPUT at a layer takes its first delta whose tick is open out of the queue; at an EWISE layer in QSP the accumulator grows by weight times delta, modulo 2^32, and its record is dirty. At the INPUT layer a live item leaves its channel and every user of the layer gets the change of each channel that changes; a GAP marker raises the gap count of every read point. DXE_SETTLE of a layer that may settle leaves it settled further, with no dirty record left, and every new delta comes from this layer in this tick, for a user of it, with at least the threshold; a layer that may not settle changes nothing. The INPUT layer passes every closed tick that nothing holds; a mark of the rebase log closes its tick for the target. -/
def Obligations.DeltasPropagateAndSettle : Prop :=
  (∀ (g : BitVec 32) (layer : BitVec 6) (bank : Bool) (d : Delta) (i : Nat) (p : Nat × DItem) (n l b : Nat) (s : State), s.canonical = true → n = g.toNat → l = layer.toNat →
    b = bank.toNat → s.deltaRuns n = some d → l ≠ 0 →
    (d.bank b).queue.findIdx? (fun x => decide (x.1 = l ∧ x.2.tick ≤ (d.bank b).settledTo l)) = some i → (d.bank b).queue[i]? = some p →
    ∃ t d', exec (.dxeInput g layer bank) s = .next t ∧ (t.graph n).delta = some d' ∧ (d'.bank b).queue = (d.bank b).queue.eraseIdx i ∧
      (∀ k, k ≠ n → t.graph k = s.graph k) ∧ t.tim = s.tim ∧ t.hops = s.hops ∧ t.sfms = s.sfms ∧ t.slips = s.slips ∧
      ∀ (e : Desc64) (q : Nat) (qs : List Nat) (off : Nat), e = d.layer l → dlOp e = 7 → (dlBank e b).dram = false → (∀ k, SMap.wf 0 (s.quire k).qsp = true) →
        (s.graph n).rowQuires d l p.2.y = q :: qs → off = d.recOff l p.2.x p.2.y p.2.c + 4 * (p.2.c % 16) → ((dlBank e b).enc + off) % 2 ^ 20 + 4 ≤ 2 ^ 20 →
        (l, p.2.y, p.2.x, p.2.c / 16) ∈ (d'.bank b).dirty ∧ t.getI32 (s.graph n).slip (q :: qs) (dlBank e b) off =
          sext 32 (unsig 32 (s.getI32 (s.graph n).slip (q :: qs) (dlBank e b) off +
            ((if dlSrcA e = p.2.src then dlWA e else 0) + (if dlSrcB e = p.2.src then dlWB e else 0)) * p.2.d))) ∧
  (∀ (g : BitVec 32) (layer : BitVec 6) (bank : Bool) (d : Delta) (s : State), s.deltaRuns g.toNat = some d → layer.toNat ≠ 0 →
    (d.bank bank.toNat).queue.findIdx? (fun x => decide (x.1 = layer.toNat ∧ x.2.tick ≤ (d.bank bank.toNat).settledTo layer.toNat)) = none →
    exec (.dxeInput g layer bank) s = .next s) ∧
  (∀ (g : BitVec 32) (bank : Bool) (d : Delta) (w : BitVec 64) (rest : List (BitVec 64)) (n r : Nat) (s : State), s.canonical = true → n = g.toNat → s.deltaRuns n = some d →
    (d.rebOf bank.toNat).filter (fun x => decide (x.phase = 3)) = none → r = dlRegion (d.layer 0) → s.liveItems n r = w :: rest → fld w 63 61 = 1 →
    ∃ t d', exec (.dxeInput g 0 bank) s = .next t ∧ (t.graph n).delta = some d' ∧ t.liveItems n r = rest ∧ d' = { d with gaps := d'.gaps } ∧
      (∀ l, SMap.get 0 d'.gaps l = SMap.get 0 d.gaps l + if l < d.layers.length ∧ dlReadPoint (d.layer l) = true then 1 else 0) ∧
      (∀ k, k ≠ n → t.graph k = s.graph k) ∧ t.quires = s.quires ∧ t.dram = s.dram ∧ t.tim = s.tim) ∧
  (∀ (g : BitVec 32) (bank : Bool) (d : Delta) (w : BitVec 64) (rest : List (BitVec 64)) (ds : List Int) (old : InEntry) (n r k b age : Nat) (s : State), s.canonical = true →
    n = g.toNat → s.deltaRuns n = some d → (d.rebOf bank.toNat).filter (fun x => decide (x.phase = 3)) = none → r = dlRegion (d.layer 0) → s.liveItems n r = w :: rest →
    fld w 63 61 ≠ 1 → k = s.fullTick (fld w 31 0) → s.originOf r ≤ k → (s.graph n).startTick ≤ k → k ≤ d.live → (∀ x ∈ d.holdAt, k < x) → d.liveBanks k = [b] →
    age = (d.bank b).anchor - s.surfOfTick r k → old = s.getEntry (s.graph n) d b (fld w 47 36) (fld w 59 48) →
    ds = List.zipWith (fun x y => x - y) (inChans (d.layer 0) (bit w 60) (inValue (d.layer 0) (bit w 60) age (s.surfTau r))) (inChans (d.layer 0) old.pol old.x) →
    ∃ t d', exec (.dxeInput g 0 bank) s = .next t ∧ (t.graph n).delta = some d' ∧ t.liveItems n r = rest ∧
      (d'.bank b).queue = (d.bank b).queue ++ (if old.age = age ∧ old.pol = true ∧ bit w 60 = false then [] else
        (List.range ds.length).flatMap (fun c => if (ds[c]?).getD 0 = 0 then [] else
          (d.users 0).map (fun m => (m, { src := 0, x := fld w 47 36, y := fld w 59 48, c := c, d := (ds[c]?).getD 0, tick := k })))) ∧
      (∀ j, j ≠ n → t.graph j = s.graph j) ∧ t.tim = s.tim ∧ t.slips = s.slips) ∧
  (∀ (g : BitVec 32) (layer : BitVec 6) (bank : Bool) (d : Delta) (n l b now lim : Nat) (s : State), s.canonical = true → n = g.toNat → l = layer.toNat → b = bank.toNat →
    s.deltaRuns n = some d → l ≠ 0 → l < d.layers.length → now = (d.bank b).settledTo l → lim = d.settleLimit b l now →
    (lim ≤ now → exec (.dxeSettle g layer bank) s = .next s) ∧
    (now < lim → ∃ t d', exec (.dxeSettle g layer bank) s = .next t ∧ (t.graph n).delta = some d' ∧
      (d'.bank b).settledTo l = (if (d.bank b).dirty.any (fun r => decide (r.1 = l)) then now + 1 else lim) ∧ (∀ r ∈ (d'.bank b).dirty, r ∈ (d.bank b).dirty ∧ r.1 ≠ l) ∧
      (∀ m, m ≠ l → (d'.bank b).settledTo m = (d.bank b).settledTo m) ∧
      (∀ p ∈ (d'.bank b).queue, p ∈ (d.bank b).queue ∨ (p.2.src = l ∧ p.2.tick = now ∧ p.1 ∈ d.users l ∧ thr (d.grindAt l now) ≤ p.2.d.natAbs)) ∧
      (∀ k, k ≠ n → t.graph k = s.graph k) ∧ t.tim = s.tim ∧ t.hops = s.hops ∧ t.slips = s.slips)) ∧
  (∀ (g : BitVec 32) (bank : Bool) (d : Delta) (n : Nat) (s : State), s.canonical = true → n = g.toNat → s.deltaRuns n = some d → d.layers ≠ [] →
    (d.rebOf bank.toNat).filter (fun x => decide (x.phase = 3)) = none → s.liveItems n (dlRegion (d.layer 0)) = [] → d.holdAt = [] →
    d.readLimit ((d.bankFor d.live).getD 2) 0 d.live = [] →
    ∃ t d', exec (.dxeSettle g 0 bank) s = .next t ∧ (t.graph n).delta = some d' ∧ d'.live = max d.live (s.graph n).closed ∧ d'.bankA.queue = d.bankA.queue ∧
      d'.bankB.queue = d.bankB.queue ∧ (∀ k, k ≠ n → t.graph k = s.graph k) ∧ t.tim = s.tim ∧ t.quires = s.quires) ∧
  (∀ (g : BitVec 32) (bank : Bool) (d : Delta) (rb : Rebase) (k n : Nat) (rest : List LogEnt) (s : State), s.canonical = true → n = g.toNat → s.deltaRuns n = some d →
    d.layers ≠ [] → (d.rebOf bank.toNat).filter (fun x => decide (x.phase = 3)) = some rb → rb.log = .mark k :: rest →
    ∃ t d', exec (.dxeSettle g 0 bank) s = .next t ∧ t = { s with graphs := t.graphs } ∧ (t.graph n).delta = some d' ∧ d' = { d with reb := d'.reb } ∧
      d'.reb = some { rb with log := rest, closed := max rb.closed (k + 1) } ∧ ∀ j, j ≠ n → t.graph j = s.graph j)

/-- A rebase begins at its boundary, passes its phases, switches at its tick and fails without a switch (R185, R186, R188, R189, R190, R191, R588). In every state in canonical form: REBASE_START at or past the epoch's end starts a normal rebase of the free bank with its anchor and switch tick, sets the SNAP bits of the sensor's beats and is counted; before it, nothing happens. START_REBASE begins the start rebase at START_TICK; WAKE_REBASE a wake rebase once the anchor in service is reached. SNAPSHOT_SWEEP emits the next SNAP beat and changes no entry of the surface. REBASE_PHASE_END passes COPY to REBUILD, REBUILD to REPLAY, REPLAY with an empty log to CAUGHT_UP with a known switch tick. REBASE_SWITCH at its tick puts the target in service from that tick; ticks before it stay with the old bank. REBASE_FAIL leaves the rebase FAILED until the next surface tick, counted but for a start rebase. -/
def Obligations.RebasesBuildAndSwitchBanks : Prop :=
  (∀ (g : BitVec 32) (d : Delta) (n r k bound : Nat) (s : State), s.canonical = true → n = g.toNat → (s.graph n).delta = some d → d.startDue = false → (s.graph n).state = 1 →
    d.reb = none → r = dlRegion (d.layer 0) → k = min s.tim.tick (s.hop (s.cfgPort r)).nextEnd → bound = s.tickOfSurf r (s.epochEnd r d.epoch + 1) →
    (k < bound → exec (.rebaseStart g) s = .next s) ∧
    (bound ≤ k → s.quiresOn (s.graph n) = true → ∃ t d', exec (.rebaseStart g) s = .next t ∧ (t.graph n).delta = some d' ∧ d'.epoch = d.epoch + 1 ∧
      d'.reb = some { kind := .normal, phase := 1, boundary := bound, bank := d.target, anchor := s.anchorOf r (dlG (d.layer 0)) (d.epoch + 1),
                      switchAt := some (s.tickOfSurf r (s.anchorOf r (dlG (d.layer 0)) d.epoch)), closed := bound } ∧
      d'.service = d.service ∧ (∀ i ∈ s.surfRegions r, (t.sfm i).snap = { hi := (s.regionPix i + 15) / 16 } ∧ (t.sfm i).entries = (s.sfm i).entries) ∧
      (∀ i, i ∉ s.surfRegions r → t.sfm i = s.sfm i) ∧ t.ctr (sfmP r + 0x168) = s.ctr (sfmP r + 0x168) + 1 ∧ (∀ j, j ≠ n → t.graph j = s.graph j) ∧ t.tim = s.tim ∧
      t.quires = s.quires)) ∧
  (∀ (g : BitVec 32) (d : Delta) (n r : Nat) (s : State), s.canonical = true → n = g.toNat → (s.graph n).delta = some d → d.startDue = true → (s.graph n).state = 1 →
    r = dlRegion (d.layer 0) →
    (s.tim.tick < (s.graph n).startTick → exec (.startRebase g) s = .next s) ∧
    ((s.graph n).startTick ≤ s.tim.tick → ∃ t d' rb, exec (.startRebase g) s = .next t ∧ (t.graph n).delta = some d' ∧ d'.startDue = false ∧
      d'.epoch = epochOf (s.surfL r) (s.surfOfTick r (s.graph n).startTick) ∧ d'.reb = some rb ∧ rb.kind = .start ∧ rb.phase = 1 ∧ rb.boundary = (s.graph n).startTick ∧
      rb.bank = d.target ∧ rb.log = [] ∧ t.ctr (sfmP r + 0x168) = s.ctr (sfmP r + 0x168) + 1 ∧ (∀ j, j ≠ n → t.graph j = s.graph j) ∧ t.tim = s.tim)) ∧
  (∀ (g : BitVec 32) (d : Delta) (n r b f u : Nat) (s : State), s.canonical = true → n = g.toNat → s.deltaRuns n = some d → r = dlRegion (d.layer 0) → d.service = some (b, f) →
    d.reb = none → u = s.surfOfTick r ((((s.liveItems n r).head?).map (fun w => s.fullTick (fld w 31 0))).getD s.tim.tick) →
    (u < (d.bank b).anchor → exec (.wakeRebase g) s = .next s) ∧
    ((d.bank b).anchor ≤ u → ∃ t d' rb, exec (.wakeRebase g) s = .next t ∧ (t.graph n).delta = some d' ∧ d'.reb = some rb ∧ rb.kind = .wake ∧ rb.phase = 1 ∧
      rb.boundary = s.tickOfSurf r u ∧ rb.bank = d.target ∧ d'.epoch = epochOf (s.surfL r) u ∧
      d'.deadFrom = some (d.deadFrom.getD (s.tickOfSurf r (d.bank b).anchor)) ∧ (∀ j, j ≠ n → t.graph j = s.graph j) ∧ t.tim = s.tim)) ∧
  (∀ (r : BitVec 4) (s : State), s.canonical = true →
    ((s.sfm r.toNat).snap.any = true → (s.sfm r.toNat).conv = none → s.dom (21 + r.toNat / 4) = 2 → ∃ t, exec (.snapshotSweep r) s = .next t ∧
      t.sfm r.toNat = { s.sfm r.toNat with snap := (s.sfm r.toNat).snap.clear (s.sfm r.toNat).snap.pos } ∧ (∀ i, i ≠ r.toNat → t.sfm i = s.sfm i) ∧
      t.ctr (sfmP (s.cfgPort r.toNat) + 0x150) = s.ctr (sfmP (s.cfgPort r.toNat) + 0x150) + 1 ∧ t.graphs = s.graphs ∧ t.tim = s.tim ∧ t.hops = s.hops) ∧
    ((s.sfm r.toNat).snap.any = false ∨ (s.sfm r.toNat).conv ≠ none ∨ s.dom (21 + r.toNat / 4) ≠ 2 → exec (.snapshotSweep r) s = .next s)) ∧
  (∀ (g : BitVec 32) (d : Delta) (rb : Rebase) (n r : Nat) (s : State), s.canonical = true → n = g.toNat → s.deltaRuns n = some d → d.reb = some rb → rb.full = false →
    r = dlRegion (d.layer 0) →
    (rb.phase = 1 → (∃ i ∈ s.surfRegions r, (s.sfm i).snap.any = true) → exec (.rebasePhaseEnd g) s = .next s) ∧
    ((rb.phase = 1 ∧ ∀ i ∈ s.surfRegions r, (s.sfm i).snap.any = false) ∨ rb.phase = 2 ∨ (rb.phase = 3 ∧ rb.log = []) →
      ∃ t d', exec (.rebasePhaseEnd g) s = .next t ∧ (t.graph n).delta = some d' ∧ d' = { d with reb := d'.reb } ∧
        d'.reb = some { rb with phase := rb.phase + 1, switchAt := if rb.phase = 3 then some (rb.switchAt.getD (max rb.notBefore (s.nextSurf r s.tim.tick))) else rb.switchAt } ∧
        (∀ j, j ≠ n → t.graph j = s.graph j) ∧ (rb.phase ≠ 2 → t.quires = s.quires ∧ t.dram = s.dram) ∧ t.tim = s.tim ∧ t.sfms = s.sfms)) ∧
  (∀ (g : BitVec 32) (d : Delta) (rb : Rebase) (n t0 : Nat) (s : State), s.canonical = true → n = g.toNat → (s.graph n).delta = some d → d.reb = some rb →
    rb.switchAt = some t0 →
    (rb.phase ≠ 4 ∨ s.tim.tick < t0 → exec (.rebaseSwitch g) s = .next s) ∧
    (rb.phase = 4 → t0 ≤ s.tim.tick → ∃ t d', exec (.rebaseSwitch g) s = .next t ∧ (t.graph n).delta = some d' ∧ d'.service = some (rb.bank, t0) ∧ d'.reb = none ∧
      (∀ k, t0 ≤ k → d'.bankFor k = some rb.bank) ∧ (∀ b f k, d.service = some (b, f) → d.deadFrom = none → f ≤ k → k < t0 → d'.bankFor k = some b) ∧
      (∀ j, j ≠ n → t.graph j = s.graph j) ∧ t.quires = s.quires ∧ t.dram = s.dram ∧ t.tim = s.tim)) ∧
  (∀ (g : BitVec 32) (d : Delta) (rb : Rebase) (n r : Nat) (s : State), s.canonical = true → n = g.toNat → (s.graph n).delta = some d → d.reb = some rb → r = dlRegion (d.layer 0) →
    (rb.phase = 5 ∨ (rb.full = false ∧ (4 ≤ rb.phase ∨ ∀ t0, rb.switchAt = some t0 → s.tim.tick < t0)) → exec (.rebaseFail g) s = .next s) ∧
    (rb.phase ≠ 5 → rb.full = true ∨ (rb.phase < 4 ∧ ∃ t0, rb.switchAt = some t0 ∧ t0 ≤ s.tim.tick) → ∃ t d', exec (.rebaseFail g) s = .next t ∧
      (t.graph n).delta = some d' ∧ d'.reb = some { rb with phase := 5, boundary := s.nextSurf r s.tim.tick, log := [], full := false, switchAt := none } ∧
      d'.deadFrom = (if rb.kind = .normal then rb.switchAt else d.deadFrom) ∧ d'.service = d.service ∧ (∀ i ∈ s.surfRegions r, (t.sfm i).snap = {}) ∧
      t.ctr (sfmP r + 0x170) = s.ctr (sfmP r + 0x170) + (if rb.kind = .start then 0 else 1) ∧ (∀ j, j ≠ n → t.graph j = s.graph j) ∧ t.tim = s.tim))

/-- A VFRAME_READ waits for its tick, is copied and completes with its record; scheduled reads go to their channel (R192, R193, R194, R374). On every state where the packet starts: VFRAME_READ of a read point of a running graph, for a tick not yet settled and with room for the record, is noted for its tick and answers later; no other graph changes. VFRAME_COPY of a copied read writes the record, header and payload, completes with the payload's length, and the read is gone; one of a tick that no bank serves completes with REBASE; without such a read nothing happens. SCHEDULED_READ writes the copied record into the next slot of READ_CHAN and posts its token; without a credit it counts a stall. -/
def Obligations.VirtualFramesAreReadAndCopied : Prop :=
  (∀ (h : CmdRef) (layer form : BitVec 8) (sg : Sgl) (f : Fetched) (d : Delta) (g k bytes : Nat) (s b : State), s.startable h 0x0206 = some f → b.canonical = true →
    b = s.brewFor f (.vframeRead h layer form sg) → b.objErr 0x0206 h.fn.toNat f.objId.toNat = none → b.lead f.atTick = some k → g = f.objId.toNat →
    (b.graph g).delta = some d → b.sealedFor h (b.graph g).slip = false → form.toNat < 3 → layer.toNat < d.layers.length → dlReadPoint (d.layer layer.toNat) = true →
    (b.graph g).state = 1 →
    (∀ x, d.bankFor (b.tim.tick + k) = some x → (if layer.toNat = 0 then d.inClosed x else (d.bank x).settledTo layer.toNat) ≤ b.tim.tick + k) →
    sglBytes sg = .ok bytes →
    64 + dlW (d.layer layer.toNat) * dlH (d.layer layer.toNat) * dlC (d.layer layer.toNat) * vfBytes (d.layer layer.toNat) form.toNat ≤ bytes →
    ∃ t d', exec (.vframeRead h layer form sg) s = .next t ∧ (t.graph g).delta = some d' ∧
      d' = { d with reads := d.reads ++ [{ ref := h, layer := layer.toNat, form := form.toNat, tick := b.tim.tick + k }] } ∧ (∀ j, j ≠ g → t.graph j = b.graph j) ∧
      t.tim = b.tim ∧ t.quires = b.quires ∧ (∃ x, t.fetchedOf h = some x ∧ x.phase = .staged)) ∧
  (∀ (h : CmdRef) (d : Delta) (g : Nat) (r : VRead) (c : DCopy) (f : Fetched) (s : State), s.canonical = true → s.readOf h = some (g, r) → (s.graph g).delta = some d →
    r.copy = some c → s.fetchedOf h = some f →
    ∃ (v t : State) (d' : Delta) (bs : List (BitVec 8)), exec (.vframeCopy h) s = .next t ∧ (bs = s.vfRecord g d c r.form 0 ∨ bs = s.vfRecord g d c r.form 0x80) ∧
      ((s.graph g).contract = 0 → bs = s.vfRecord g d c r.form 0) ∧
      State.Answered (v.sglWrite h (bs.map (fun x => x.toNat))) t h 0 0 (result [(bs.length - 64, 8)]) ∧ (v.graph g).delta = some d' ∧
      (∀ x, x ∈ d'.reads ↔ x ∈ d.reads ∧ x.ref ≠ h) ∧ (∀ j, j ≠ g → v.graph j = s.graph j) ∧ v.tim = s.tim ∧ v.quires = s.quires) ∧
  (∀ (h : CmdRef) (d : Delta) (g : Nat) (r : VRead) (f : Fetched) (s : State), s.canonical = true → s.readOf h = some (g, r) → (s.graph g).delta = some d → r.copy = none →
    s.fetchedOf h = some f →
    (r.tick ≤ s.tim.tick → d.bankFor r.tick = none → (∀ x ∈ d.holdAt, r.tick < x) →
      ∃ (v t : State), exec (.vframeCopy h) s = .next t ∧ State.Answered v t h 0x700 3 0 ∧ v = { s with graphs := v.graphs } ∧ (∀ j, j ≠ g → v.graph j = s.graph j)) ∧
    (s.tim.tick < r.tick ∨ d.bankFor r.tick ≠ none → exec (.vframeCopy h) s = .next s)) ∧
  (∀ (h : CmdRef) (s : State), s.readOf h = none → exec (.vframeCopy h) s = .next s) ∧
  (∀ (g : BitVec 32) (layer : BitVec 6) (d : Delta) (c : DCopy) (ch : QChan) (n l q k : Nat) (s : State), s.canonical = true → n = g.toNat → l = layer.toNat →
    s.deltaRuns n = some d → d.scopies.find? (fun x => decide (x.layer = l)) = some c → q = (s.graph n).schedQuire d l → k = dlReadChan (d.layer l) → ch = (s.quire q).chan k →
    ch.valid = true → SMap.wf 0 (s.quire q).qsp = true → SMap.wf {} (s.quire q).chans = true →
    (ch.credits = 0 → exec (.scheduledRead g layer) s = .next (s.bump (qrB q + 0x400 + 8 * k))) ∧
    (0 < ch.credits → ∃ t d', exec (.scheduledRead g layer) s = .next t ∧ (t.graph n).delta = some d' ∧ (∀ x, x ∈ d'.scopies ↔ x ∈ d.scopies ∧ x ≠ c) ∧
      ((t.quire q).chan k).tokens = ch.tokens + 1 ∧ ((t.quire q).chan k).credits = ch.credits - 1 ∧ (∀ j, j ≠ k → (t.quire q).chan j = (s.quire q).chan j) ∧
      (∀ j x, ((s.vfRecord n d c 0 0).take (ch.isize * 32))[j]? = some x → SMap.get 0 (t.quire q).qsp (ch.base + ch.slot * ch.isize * 32 + j) = x) ∧
      (∀ j, j ≠ n → t.graph j = s.graph j) ∧ (∀ j, j ≠ q → t.quire j = s.quire j) ∧ t.tim = s.tim)) ∧
  (∀ (g : BitVec 32) (layer : BitVec 6) (d : Delta) (s : State), s.deltaRuns g.toNat = some d → (∀ c ∈ d.scopies, c.layer ≠ layer.toNat) →
    dlReadPeriod (d.layer layer.toNat) = 0 ∨ s.tim.tick < SMap.get 0 d.sched layer.toNat → exec (.scheduledRead g layer) s = .next s)

/-- An Access Engine starts its next good descriptor, stops at a bad one, and on completion has moved the block and posted the token (R126, R127, R128, R130, R131). In every state in canonical form: DESCRIPTOR_START of an active quire's engine with a descriptor waiting checks it; a bad one stops the engine with its cause; a good one that need not wait and whose slot has a credit is in flight, spends the credit and advances START, and changes nothing else; an engine with nothing to start changes nothing. DESCRIPTOR_COMPLETE finishes the oldest unfinished descriptor, posts a token to its channel and counts it; a read of DRAM of one row leaves the row's bytes in QSP, a write of one row leaves the QSP bytes in DRAM and no other byte of DRAM changed. -/
def Obligations.AccessEnginesMoveBlocks : Prop :=
  (∀ (q : BitVec 7) (e : Bool) (n slip : Nat) (x : Quire) (a : Ae) (ws : List (BitVec 64)) (d : Desc) (s : State), s.canonical = true → n = q.toNat → x = s.quire n →
    a = x.ae e.toNat → x.slip = some slip → s.qState n = 1 → a.stopped = false → a.start ≠ a.tail → a.flight.length < 64 →
    ws = (List.range 4).map (fun i => wordAt x.qsp (a.base + 32 * a.start + 8 * i)) → d = descOf ws →
    (∀ cause, s.descFault n e.toNat slip d = some cause → ∃ t, exec (.descriptorStart q e) s = .next t ∧ ((t.quire n).ae e.toNat).stopped = true ∧
      (t.quire n).aeFault = e.toNat * 2 ^ 31 + a.start * 2 ^ 16 + cause ∧ (t.quire n).qsp = x.qsp ∧ (t.quire n).chans = x.chans ∧ t.dram = s.dram ∧ t.tim = s.tim) ∧
    (s.descFault n e.toNat slip d = none → (d.wait = true → ∀ f ∈ a.flight, f.done = true) →
      (d.chan < 64 → (x.chan d.chan).valid = true → (x.chan d.chan).prod = 7 + e.toNat → (x.chan d.chan).credits ≠ 0) →
      ∃ t f, exec (.descriptorStart q e) s = .next t ∧ t = { s with quires := t.quires } ∧ (∀ k, k ≠ n → t.quire k = s.quire k) ∧
        (t.quire n).ae e.toNat = { a with start := (a.start + 1) % 2 ^ a.log2n, flight := a.flight ++ [f] } ∧ f.words = ws ∧ f.done = false ∧ f.epoch = (s.slip slip).epoch ∧
        (t.quire n).ae (!e).toNat = x.ae (!e).toNat ∧ (t.quire n).qsp = x.qsp ∧
        (((t.quire n).chan d.chan).credits = (x.chan d.chan).credits -
          (if d.chan < 64 ∧ (x.chan d.chan).valid = true ∧ (x.chan d.chan).prod = 7 + e.toNat then 1 else 0)) ∧ ((t.quire n).chan d.chan).tokens = (x.chan d.chan).tokens)) ∧
  (∀ (q : BitVec 7) (e : Bool) (s : State), (s.quire q.toNat).slip = none ∨ s.qState q.toNat ≠ 1 ∨ ((s.quire q.toNat).ae e.toNat).stopped = true ∨
    ((s.quire q.toNat).ae e.toNat).start = ((s.quire q.toNat).ae e.toNat).tail → exec (.descriptorStart q e) s = .next s) ∧
  (∀ (q : BitVec 7) (e : Bool) (bad : List Nat) (n slip i base : Nat) (x : Quire) (f : AeFlight) (d : Desc) (s : State), s.canonical = true → n = q.toNat → x = s.quire n →
    x.slip = some slip → (x.ae e.toNat).flight.findIdx? (fun y => !y.done) = some i → (x.ae e.toNat).flight[i]? = some f → d = descOf f.words →
    SMap.wf {} x.chans = true → (∀ k, SMap.wf 0 (s.quire k).qsp = true) →
    base = (((s.slip slip).rules.find? (fun w => w.win = d.qual)).map (fun w => w.base)).getD 0 →
    ∃ t, exec (.descriptorComplete q e bad) s = .next t ∧
      (d.chan < 64 → ((t.quire n).chan d.chan).tokens = (x.chan d.chan).tokens + 1) ∧ (∀ c, c ≠ d.chan → (t.quire n).chan c = x.chan c) ∧
      t.ctr (qrB n + (if e then 0x638 else 0x630)) = s.ctr (qrB n + (if e then 0x638 else 0x630)) + 1 ∧ t.tim = s.tim ∧
      (d.op = 1 → d.space = 0 → d.rows = 1 → bad = [] → f.poison = [] → t.dram = s.dram ∧
        (∀ j, j < d.rowBytes → SMap.get 0 (t.quire n).qsp (f.qaddr + j) = SMap.get 0 s.dram (base + d.far + j)) ∧
        (∀ j, j < f.qaddr ∨ f.qaddr + d.rowBytes ≤ j → SMap.get 0 (t.quire n).qsp j = SMap.get 0 x.qsp j)) ∧
      (d.op = 2 → d.space = 0 → d.rows = 1 → (t.quire n).qsp = x.qsp ∧
        (∀ j, j < d.rowBytes → SMap.get 0 t.dram (base + d.far + j) = SMap.get 0 x.qsp (f.qaddr + j)) ∧
        (∀ j, j < base + d.far ∨ base + d.far + d.rowBytes ≤ j → SMap.get 0 t.dram j = SMap.get 0 s.dram j))) ∧
  (∀ (q : BitVec 7) (e : Bool) (bad : List Nat) (s : State), (∀ f ∈ ((s.quire q.toNat).ae e.toNat).flight, f.done = true) → exec (.descriptorComplete q e bad) s = .next s)

/-- Operations hold their effects until they commit; replays step down, clean windows step up; kernels run in their limit; arbiters grant the highest unmasked input (R17, R20, R21, R22, R88, R134, R136, R138, R139, R142, R143). In every state in canonical form: an operation of an idle engine that finds its tokens and credits becomes a segment and changes no memory; without a credit it counts a stall, without a token nothing happens. One that would read past the items of a ribbon whose tokens stand sets RIBBON_UNDERRUN and raises the fault of that cause. SEGMENT_COMMIT writes what the segment holds, posts its tokens and returns its credits. REPLAY counts each engine's replay and takes a step down unless one is under way; STEP_UP takes one up to TARGET_STEP; REPLAY_WINDOW_END begins a new window at its end only. A kernel in its bounds writes, consumes and produces as its slot says; an overrun is counted and produces nothing. ARBITER_GRANT counts the highest requesting input that is not masked; ARBITER_WINDOW_START clears the counts and takes the settings of the registers. -/
def Obligations.EnginesCommitReplayAndAreArbitrated : Prop :=
  (∀ (q : BitVec 7) (e : BitVec 4) (ins outs : List (Nat × Nat)) (writes : List (Nat × List (BitVec 8))) (items : List (Nat × BitVec 64)) (x : Quire) (s : State),
    s.canonical = true → x = s.quire q.toNat → SMap.wf {} x.chans = true → s.qState q.toNat = 1 → (∀ p ∈ x.segs, p.1 ≠ e.toNat) → (∀ p ∈ ins, p.2 ≤ (x.chan p.1).tokens) →
    ((∀ p ∈ outs, p.2 ≤ (x.chan p.1).credits) → (∀ p ∈ ins, (x.chan p.1).isRibbon = true →
        (x.chan p.1).rp + ((ins.filter (fun y => y.1 = p.1)).map (fun y => y.2)).sum ≤ (x.chan p.1).items.length) → ∃ t g, exec (.channelOperationStart q e ins outs writes items) s = .next t ∧ t = { s with quires := t.quires } ∧
      (∀ k, k ≠ q.toNat → t.quire k = s.quire k) ∧ (t.quire q.toNat).segs = x.segs ++ [(e.toNat, g)] ∧ g.writes = writes ∧ g.outs = items ∧
      (t.quire q.toNat).qsp = x.qsp ∧ (t.quire q.toNat).busy = x.busy ||| 2 ^ e.toNat ∧ (∀ c, ((t.quire q.toNat).chan c).tokens = (x.chan c).tokens) ∧
      (∀ c, ((t.quire q.toNat).chan c).credits = (x.chan c).credits)) ∧
    (outs = [] → (∃ p ∈ ins, (x.chan p.1).isRibbon = true ∧ (x.chan p.1).items.length < (x.chan p.1).rp + p.2) →
      ∃ u : State, exec (.channelOperationStart q e ins outs writes items) s = .next (u.fault q.toNat 6 (x.slip.getD 0xFF)) ∧ u = { s with quires := u.quires, regs := u.regs } ∧
        u.reg (qrB q.toNat + 0xC) = s.reg (qrB q.toNat + 0xC) ||| 4) ∧
    ((∃ p ∈ outs, (x.chan p.1).credits < p.2) → ∃ t, exec (.channelOperationStart q e ins outs writes items) s = .next t ∧ t = { s with ctrs := t.ctrs } ∧
      ∀ c, c < 64 → t.ctr (qrB q.toNat + 0x400 + 8 * c) = s.ctr (qrB q.toNat + 0x400 + 8 * c) + (if ∃ p ∈ outs, p.1 = c ∧ (x.chan c).credits < p.2 then 1 else 0))) ∧
  (∀ (q : BitVec 7) (e : BitVec 4) (ins outs : List (Nat × Nat)) (writes : List (Nat × List (BitVec 8))) (items : List (Nat × BitVec 64)) (x : Quire) (p : Nat × Nat)
    (s : State), x = s.quire q.toNat → (∀ y ∈ ins, (x.chan y.1).isRibbon = true → y.2 ≤ (x.chan y.1).tokens) → p ∈ ins → (x.chan p.1).tokens < p.2 →
    exec (.channelOperationStart q e ins outs writes items) s = .next s) ∧
  (∀ (q : BitVec 7) (e : BitVec 4) (k : Nat) (g : Segment) (x : Quire) (s : State), s.canonical = true → x = s.quire q.toNat → SMap.wf {} x.chans = true →
    x.segs.find? (fun p => p.1 = e.toNat) = some (k, g) →
    ∃ t, exec (.segmentCommit q e) s = .next t ∧ (∀ p, p ∈ (t.quire q.toNat).segs ↔ p ∈ x.segs ∧ p.1 ≠ e.toNat) ∧
      (t.quire q.toNat).qsp = g.writes.foldl (fun m w => SMap.putAll 0 m w.1 w.2) x.qsp ∧
      (∀ c, ((t.quire q.toNat).chan c).tokens = (x.chan c).tokens + g.tokens.count c - g.credits.count c) ∧
      (∀ c, ((t.quire q.toNat).chan c).credits = (x.chan c).credits - g.tokens.count c + g.credits.count c) ∧
      (∀ j, j ≠ q.toNat → t.quire j = s.quire j) ∧ t.dram = s.dram ∧ t.tim = s.tim) ∧
  (∀ (q : BitVec 7) (e : BitVec 4) (s : State), (∀ p ∈ (s.quire q.toNat).segs, p.1 ≠ e.toNat) → exec (.segmentCommit q e) s = .next s) ∧
  (∀ (q : BitVec 7) (m cy : BitVec 8) (step : Bool) (n c : Nat) (s : State), s.canonical = true → n = q.toNat →
    c = ([1, 2, 4].filter (fun e => m.getLsbD e)).length →
    (s.qState n = 1 → c ≠ 0 → ∃ t, exec (.replay q m step cy) s = .next t ∧ t.ctr (qrB n + 0x600) = s.ctr (qrB n + 0x600) + BitVec.ofNat 48 c ∧
      t.ctr (qrB n + 0x608) = s.ctr (qrB n + 0x608) + BitVec.ofNat 48 (m.getLsbD 1).toNat ∧ (t.quire n).winReplays = (s.quire n).winReplays + c ∧
      (t.quire n).curStep = (if step then (s.quire n).curStep else s.step n - 1) ∧ (t.quire n).qsp = (s.quire n).qsp ∧ t.dram = s.dram ∧ t.tim = s.tim) ∧
    (s.qState n ≠ 1 ∨ c = 0 → exec (.replay q m step cy) s = .next s)) ∧
  (∀ (q : BitVec 7) (n : Nat) (s : State), s.canonical = true → n = q.toNat →
    (s.qState n = 1 → (s.quire n).curStep < (s.quire n).target → s.held n = false → ∃ t, exec (.stepUp q) s = .next t ∧ t = { s with quires := t.quires } ∧
      t.quire n = { s.quire n with curStep := (s.quire n).curStep + 1 } ∧ ∀ k, k ≠ n → t.quire k = s.quire k) ∧
    (s.qState n ≠ 1 ∨ (s.quire n).target ≤ (s.quire n).curStep ∨ s.held n = true → exec (.stepUp q) s = .next s)) ∧
  (∀ (q : BitVec 7) (n : Nat) (s : State), s.canonical = true → n = q.toNat →
    (s.tim.tick < (s.quire n).winStart + s.winTicks n → exec (.replayWindowEnd q) s = .next s) ∧
    ((s.quire n).winStart + s.winTicks n ≤ s.tim.tick → ∃ t, exec (.replayWindowEnd q) s = .next t ∧ (t.quire n).winStart = s.tim.tick ∧ (t.quire n).winReplays = 0 ∧
      (t.quire n).winOver = (decide (s.allow n < (s.quire n).winReplays) && (s.quire n).adaptive) ∧ (t.quire n).curStep = (s.quire n).curStep ∧ t.tim = s.tim ∧
      ((s.quire n).adaptive = false → s.allow n < (s.quire n).winReplays → t.ctr (simB + 0x400) = s.ctr (simB + 0x400) + (if s.si.dead then 0 else 1)))) ∧
  (∀ (q : BitVec 7) (k c : BitVec 16) (writes : List (Nat × List (BitVec 8))) (items : List (Nat × BitVec 64)) (tail0 tail1 : Option (BitVec 12)) (ker : Kernel) (x : Quire) (n : Nat) (s : State),
    s.canonical = true → n = q.toNat → x = s.quire n → SMap.wf {} x.chans = true → x.kernels[k.toNat]? = some ker → s.qState n = 1 → c.toNat ≤ ker.itemMax →
    (∀ p ∈ ker.ins, p.2 ≤ (x.chan p.1).tokens) → (∀ p ∈ ker.outs, p.2 ≤ (x.chan p.1).credits) →
    ∃ t, exec (.kernelInvocation q k c writes items tail0 tail1) s = .next t ∧ (t.quire n).qsp = writes.foldl (fun m w => SMap.putAll 0 m w.1 w.2) x.qsp ∧
      (∀ j, ((t.quire n).chan j).tokens = (x.chan j).tokens + ((ker.outs.filter (fun p => p.1 = j)).map (fun p => p.2)).sum - ((ker.ins.filter (fun p => p.1 = j)).map (fun p => p.2)).sum) ∧
      (∀ j, ((t.quire n).chan j).credits = (x.chan j).credits - ((ker.outs.filter (fun p => p.1 = j)).map (fun p => p.2)).sum + ((ker.ins.filter (fun p => p.1 = j)).map (fun p => p.2)).sum) ∧
      t.ctr (qrB n + 0x650) = s.ctr (qrB n + 0x650) + 1 ∧ (∀ j, j ≠ n → t.quire j = s.quire j) ∧ t.dram = s.dram ∧ t.tim = s.tim) ∧
  (∀ (q : BitVec 7) (k c : BitVec 16) (cy : BitVec 32) (ker : Kernel) (n : Nat) (s : State), s.canonical = true → n = q.toNat → (s.quire n).kernels[k.toNat]? = some ker →
    (s.qState n = 1 → ker.limit c.toNat < cy.toNat → ∃ t, exec (.kernelOverrun q k c cy) s = .next t ∧ t.ctr (qrB n + 0x658) = s.ctr (qrB n + 0x658) + 1 ∧
      (t.quire n).chans = (s.quire n).chans ∧ (t.quire n).qsp = (s.quire n).qsp ∧ t.tim = s.tim) ∧
    (cy.toNat ≤ ker.limit c.toNat → exec (.kernelOverrun q k c cy) s = .next s)) ∧
  (∀ (k : BitVec 28) (reqs : BitVec 64) (s : State), s.canonical = true →
    (∀ i, i < 64 → reqs.getLsbD i = true → (s.arb k.toNat).masked i = false → (∀ j, i < j → j < 64 → reqs.getLsbD j = true → (s.arb k.toNat).masked j = true) →
      ∃ t, exec (.arbiterGrant k reqs) s = .next t ∧ t = { s with arbs := t.arbs } ∧ (t.arb k.toNat).last = some i ∧
        SMap.get 0 (t.arb k.toNat).grants i = SMap.get 0 (s.arb k.toNat).grants i + 1 ∧ (∀ j, j ≠ i → SMap.get 0 (t.arb k.toNat).grants j = SMap.get 0 (s.arb k.toNat).grants j) ∧
        ∀ j, j ≠ k.toNat → t.arb j = s.arb j) ∧
    ((∀ i, i < 64 → reqs.getLsbD i = true → (s.arb k.toNat).masked i = true) → exec (.arbiterGrant k reqs) s = .next s)) ∧
  (∀ (k : BitVec 28) (s : State), s.canonical = true → ∃ t, exec (.arbiterWindowStart k) s = .next t ∧ t = { s with arbs := t.arbs } ∧ (∀ j, j ≠ k.toNat → t.arb j = s.arb j) ∧
    (t.arb k.toNat).grants = [] ∧ (t.arb k.toNat).qlevel = s.rfld k.toNat 6 0 ∧ (t.arb k.toNat).last = (s.arb k.toNat).last ∧
    ∀ i, i < 64 → (t.arb k.toNat).quotas[i]? = some (s.rfld (k.toNat + 4 + 4 * i) 15 0))

/-- A readout instant is held or skipped, sampled, evaluated row by row and handed over as records of its layers and detection jobs (R201, R202, R203, R204, R205, R207, R209, R210, R219, R221, R222, R223). In every state in canonical form: READOUT_AT asks a COMMAND-scheduled graph for an instant at its AT_TICK. READOUT_INSTANT deals with the next due instant: held with a free slot where two are not held already, skipped and counted otherwise; none due changes nothing. SAMPLE_SLOT_SET arms the slots whose instant lies behind; SAMPLE_SWEEP emits the next beat of the earliest; SAMPLE_COMPLETE frees the slot and makes the input complete. VFIN_RECORD consumes the next record's token and holds its instant with its input. STRIPE_EVALUATION and EGE_ROW evaluate rows of the oldest instant whose input rows are there, at most one record leaving; DPP_JOB hands over one detection set. No command here changes another graph. -/
def Obligations.ReadoutsSampleEvaluateAndDetect : Prop :=
  (∀ (h : CmdRef) (f : Fetched) (d : Readout) (g k : Nat) (s b : State), s.startable h 0x0207 = some f → b.canonical = true → b = s.brewFor f (.readoutAt h) →
    b.objErr 0x0207 h.fn.toNat f.objId.toNat = none → b.lead f.atTick = some k → g = f.objId.toNat → (b.graph g).readout = some d →
    (d.sched = 2 → ∃ (u t : State) (d' : Readout), exec (.readoutAt h) s = .next t ∧ State.Answered u t h 0 0 0 ∧ u = { b with graphs := u.graphs } ∧
      (u.graph g).readout = some d' ∧ d' = { d with asked := d.asked ++ [b.tim.tick + k] } ∧ ∀ j, j ≠ g → u.graph j = b.graph j) ∧
    (d.sched ≠ 2 → ∃ t, exec (.readoutAt h) s = .next t ∧ State.Answered b t h 0x102 5 0)) ∧
  (∀ (g : BitVec 32) (s : State), s.readoutRuns g.toNat = none ∨ s.instantDue g.toNat s.tim.tick = none → exec (.readoutInstant g) s = .next s) ∧
  (∀ (g : BitVec 32) (d : Readout) (n k : Nat) (s : State), s.canonical = true → n = g.toNat → s.readoutRuns n = some d → s.instantDue n s.tim.tick = some k →
    (d.insts.length < 2 → (∀ r, d.region = some r → ∃ i, i < 4 ∧ ∀ m ∈ s.surfRegions r, (((s.sfm m).slots[i]?).getD {}).busy = false) →
      ∃ (t : State) (d' : Readout), exec (.readoutInstant g) s = .next t ∧ (t.graph n).readout = some d' ∧ d'.insts = d.insts ++ [{ tick := k, since := d.last }] ∧
        d'.last = k ∧ d'.skipped = d.skipped ∧ d'.next = k + 1 ∧ t.ctr (qrB (s.graph n).quire0 + 0x6C0) = s.ctr (qrB (s.graph n).quire0 + 0x6C0) + 1 ∧
        (∀ j, j ≠ n → t.graph j = s.graph j) ∧ t.quires = s.quires ∧ t.recs = s.recs ∧ t.tim = s.tim) ∧
    (2 ≤ d.insts.length → ∃ (t : State) (d' : Readout), exec (.readoutInstant g) s = .next t ∧ (t.graph n).readout = some d' ∧ d'.insts = d.insts ∧
        d'.skipped = d.skipped + 1 ∧ d'.next = k + 1 ∧ t.ctr (qrB (s.graph n).quire0 + 0x6C8) = s.ctr (qrB (s.graph n).quire0 + 0x6C8) + 1 ∧
        (∀ j, j ≠ n → t.graph j = s.graph j) ∧ t.sfms = s.sfms ∧ t.quires = s.quires ∧ t.recs = s.recs ∧ t.tim = s.tim)) ∧
  (∀ (r : BitVec 4) (e : Nat) (s : State), s.canonical = true → e = (s.hop (s.cfgPort r.toNat)).nextEnd → ∃ t, exec (.sampleSlotSet r) s = .next t ∧ t = { s with sfms := t.sfms } ∧
    (∀ m, m ≠ r.toNat → t.sfm m = s.sfm m) ∧ t.sfm r.toNat = { s.sfm r.toNat with slots := (t.sfm r.toNat).slots } ∧
    ∀ (i : Nat) (x : SampSlot), (s.sfm r.toNat).slots[i]? = some x → ∃ x', (t.sfm r.toNat).slots[i]? = some x' ∧ x'.busy = x.busy ∧ x'.tick = x.tick ∧ x'.graph = x.graph ∧
      x'.armed = (x.armed || (x.busy && decide (x.tick < e)))) ∧
  (∀ (r : BitVec 4) (n i : Nat) (x : SampSlot) (s : State), s.canonical = true → n = r.toNat → (s.sfm n).conv = none → (s.sfm n).snap.any = false → s.dom (21 + n / 4) = 2 →
    ((s.sfm n).slotOrder.find? (fun i => (((s.sfm n).slots[i]?).getD {}).bits.any) = some i → x = ((s.sfm n).slots[i]?).getD {} →
      ∃ t, exec (.sampleSweep r) s = .next t ∧ t.sfm n = { s.sfm n with slots := (s.sfm n).slots.set i { x with bits := x.bits.clear x.bits.pos } } ∧
        (∀ m, m ≠ n → t.sfm m = s.sfm m) ∧ t.ctr (sfmP (s.cfgPort n) + 0x180) = s.ctr (sfmP (s.cfgPort n) + 0x180) + 1 ∧ t.graphs = s.graphs ∧ t.hops = s.hops ∧
        t.tim = s.tim) ∧
    ((s.sfm n).slotOrder.find? (fun i => (((s.sfm n).slots[i]?).getD {}).bits.any) = none → exec (.sampleSweep r) s = .next s)) ∧
  (∀ (r : BitVec 4) (s : State), (s.sfm r.toNat).conv ≠ none ∨ (s.sfm r.toNat).snap.any = true ∨ s.dom (21 + r.toNat / 4) ≠ 2 → exec (.sampleSweep r) s = .next s) ∧
  (∀ (r i : BitVec 4) (k : Nat) (x : SampSlot) (d : Readout) (s : State), s.canonical = true → k = s.cfgPort r.toNat → x = ((s.sfm k).slots[i.toNat]?).getD {} → x.busy = true →
    (∀ m ∈ s.surfRegions k, (((s.sfm m).slots[i.toNat]?).getD {}).armed = true ∧ (((s.sfm m).slots[i.toNat]?).getD {}).bits.any = false) →
    (s.graph x.graph).readout = some d →
    ∃ (t : State) (d' : Readout), exec (.sampleComplete r i) s = .next t ∧ t = { s with sfms := t.sfms, graphs := t.graphs } ∧ (t.graph x.graph).readout = some d' ∧
      d' = { d with insts := d.insts.map (fun j => if j.tick = x.tick then { j with ready := true } else j) } ∧ (∀ j, j ≠ x.graph → t.graph j = s.graph j) ∧
      ∀ m, t.sfm m = if m ∈ s.surfRegions k then { s.sfm m with slots := (s.sfm m).slots.set i.toNat {} } else s.sfm m) ∧
  (∀ (r i : BitVec 4) (s : State), (((s.sfm (s.cfgPort r.toNat)).slots[i.toNat]?).getD {}).busy = false → exec (.sampleComplete r i) s = .next s) ∧
  (∀ (g : BitVec 32) (d : Readout) (n l q c a : Nat) (b : List (BitVec 8)) (ch : QChan) (s : State), s.canonical = true → n = g.toNat → s.readoutRuns n = some d → d.sched = 3 →
    s.vfSource d.srcGraph = some (l, q, c) → SMap.wf {} (s.quire q).chans = true → ch = (s.quire q).chan c → d.region = none → d.insts.length < 2 →
    a = ch.base + (ch.slot + max 1 ch.cap - ch.tokens % max 1 ch.cap) % max 1 ch.cap * ch.isize * 32 → b = bytesAt (s.quire q).qsp a (ch.isize * 32) →
    (leVal ((b.drop 6).take 1)).testBit 1 = false →
    ∃ (t : State) (d' : Readout) (i : RoInst) (v : VfIn), exec (.vfinRecord g) s = .next t ∧ (t.graph n).readout = some d' ∧ d'.insts = d.insts ++ [i] ∧ i.ready = true ∧
      i.tick = leVal ((b.drop 8).take 8) ∧ i.vfin = some v ∧ v.scale = leVal ((b.drop 0x24).take 4) ∧ v.age = leVal ((b.drop 0x28).take 4) ∧
      ((t.quire q).chan c).tokens = ch.tokens - 1 ∧ ((t.quire q).chan c).credits = ch.credits + 1 ∧ (∀ j, j ≠ q → t.quire j = s.quire j) ∧
      (∀ j, j ≠ n → t.graph j = s.graph j) ∧ t.recs = s.recs ∧ t.tim = s.tim) ∧
  (∀ (g : BitVec 32) (d : Readout) (s : State), s.readoutRuns g.toNat = some d → d.sched ≠ 3 ∨ s.vfSource d.srcGraph = none → exec (.vfinRecord g) s = .next s) ∧
  (∀ (g : BitVec 32) (layer : BitVec 6) (sp : BitVec 12) (ege : Bool) (d : Readout) (i : RoInst) (rest : List RoInst) (n l st qi x0 w q before : Nat) (s : State),
    s.canonical = true → n = g.toNat → l = layer.toNat → st = sp.toNat → s.readoutRuns n = some d → ((d.stripes[l]?).getD [])[st]? = some (qi, x0, w) → d.insts = i :: rest →
    l ≠ 0 → rlFuse (d.layer l) = false → rlEge (d.layer l) = ege → q = ((s.graph n).quireOf qi).headD 0 → before = i.rowsOf l st → before < rlH (d.layer l) →
    (d.mayRows i l (before + 1) = false → exec (if ege then .egeRow g layer sp else .stripeEvaluation g layer sp) s = .next s) ∧
    (d.mayRows i l (before + 1) = true → (rlOutChan (d.layer l) < 64 → ((s.quire q).chan (rlOutChan (d.layer l))).valid = true → ((s.quire q).chan (rlOutChan (d.layer l))).credits ≠ 0) →
      ∃ (t : State) (d' : Readout), exec (if ege then .egeRow g layer sp else .stripeEvaluation g layer sp) s = .next t ∧ (t.graph n).readout = some d' ∧
        (d'.insts = rest ∨ ∃ i', d'.insts = i' :: rest ∧ i'.tick = i.tick ∧ before < i'.rowsOf l st ∧ i'.rowsOf l st ≤ rlH (d.layer l) ∧ (ege = true → i'.rowsOf l st = before + 1)) ∧
        (t.recs = s.recs ∨ ∃ r, t.recs = s.recs ++ [r] ∧ r.kind = .readout ∧ r.graph = n ∧ r.layer = l ∧ r.tref = i.tick) ∧
        (∀ j, j ≠ n → t.graph j = s.graph j) ∧ t.tim = s.tim ∧ t.sfms = s.sfms ∧ t.slips = s.slips)) ∧
  (∀ (g : BitVec 32) (jb : BitVec 2) (ok : Bool) (d : Readout) (i : RoInst) (rest : List RoInst) (x : DppJob) (n j : Nat) (s : State), s.canonical = true → n = g.toNat →
    j = jb.toNat → s.readoutRuns n = some d → d.insts = i :: rest → d.jobs[j]? = some x →
    (s.dom 42 ≠ 2 ∨ j ∈ i.jobs → exec (.dppJob g jb ok) s = .next s) ∧
    (s.dom 42 = 2 → j ∉ i.jobs → (∀ k, k < jf x.words 0 1 → d.layerDone i (dppLevel k ((x.levels[k]?).getD [])).layer = true) →
      ∃ (t : State) (d' : Readout) (r : Rec), exec (.dppJob g jb ok) s = .next t ∧ t.recs = s.recs ++ [r] ∧ r.kind = .detset ∧ r.graph = n ∧ r.layer = j ∧ r.tref = i.tick ∧
        (ok = false → r.payload = []) ∧ (t.graph n).readout = some d' ∧ (d'.insts = rest ∨ ∃ i', d'.insts = i' :: rest ∧ i'.tick = i.tick ∧ j ∈ i'.jobs) ∧
        t.ctr (dppB + 0x100) = s.ctr (dppB + 0x100) + 1 ∧ (∀ k, k ≠ n → t.graph k = s.graph k) ∧ t.tim = s.tim ∧ t.sfms = s.sfms))

/-- Spiking tiles settle their ticks in order, and spikes are delivered, looked up, delayed and copied to every destination of their group (R232, R234, R236, R238, R239, R243, R245, R246, R247, R249, R251, R256). In every state in canonical form: SPIKE_ROUTE_SET and SPIKE_WEIGHTS of a graph that does not run change exactly the entries and bytes named; SPIKE_STATE_READ answers at once from a tile that does not settle, else waits. SETTLEMENT moves an enabled tile to its next due tick and takes that tick's deliveries; a single synapse changes its neuron by the rule of R236. SPIKE_DELIVERY puts the oldest delivery into the buffer, or drops it when late. RENEWAL_SWEEP renews every neuron. ROUTER_LOOKUP turns a crossbar spike into one delivery per match, at most 16, and sends a fired spike on; DELAY_QUEUE_RELEASE releases the earliest due spike; KXB_COPY puts a spike into the FIFO of every destination with room; ATTACH_SPIKE makes an event a spike. Without input each changes nothing. -/
def Obligations.SpikesAreDeliveredSettledAndRouted : Prop :=
  (∀ (h : CmdRef) (qi : BitVec 8) (ents : List (BitVec 16 × BitVec 128)) (f : Fetched) (g q : Nat) (s b : State), s.Starts h 0x0701 (.spikeRouteSet h qi ents) f b →
    b.canonical = true → g = f.objId.toNat → b.sealedFor h (b.graph g).slip = false → ents ≠ [] → ents.length ≤ 16 → (∀ e ∈ ents, e.1.toNat < 4096) →
    b.spkQuire g qi.toNat = some q → SMap.wf 0 (b.quire q).spk.table = true →
    ((b.graph g).state = 1 → ∃ t, exec (.spikeRouteSet h qi ents) s = .next t ∧ State.Answered b t h 0x700 2 0) ∧
    ((b.graph g).state ≠ 1 →
      (∀ e ∈ ents, e.2.getLsbD 63 = true → e.2.getLsbD 62 = true → e.2.getLsbD 61 = true → b.ownsGroup (b.graph g).slip (bitsN e.2.toNat 58 49) = true) →
      ∃ (u t : State), exec (.spikeRouteSet h qi ents) s = .next t ∧ State.Answered u t h 0 0 0 ∧ u = { b with quires := u.quires } ∧
        (∀ k, k ≠ q → u.quire k = b.quire k) ∧ u.quire q = { b.quire q with spk := { (b.quire q).spk with table := (u.quire q).spk.table } } ∧
        ∀ i, SMap.get 0 (u.quire q).spk.table i = match ents.reverse.find? (fun e => decide (e.1.toNat = i)) with
          | some e => e.2.toNat | none => SMap.get 0 (b.quire q).spk.table i)) ∧
  (∀ (h : CmdRef) (qi : BitVec 8) (addr n : BitVec 32) (sg : Sgl) (data : List (BitVec 8)) (f : Fetched) (g q : Nat) (s b : State),
    s.Starts h 0x0702 (.spikeWeights h qi addr n sg data) f b → b.canonical = true → g = f.objId.toNat → b.sealedFor h (b.graph g).slip = false →
    b.spkQuire g qi.toNat = some q → SMap.wf 0 (b.quire q).sys = true → addr.toNat % 8 = 0 → n.toNat % 8 = 0 → addr.toNat + n.toNat ≤ 2 ^ 20 → (b.graph g).state ≠ 1 →
    sglErr sg n.toNat = none →
    ∃ (u t : State), exec (.spikeWeights h qi addr n sg data) s = .next t ∧ State.Answered u t h 0 0 0 ∧ u = { b with quires := u.quires } ∧
      (∀ k, k ≠ q → u.quire k = b.quire k) ∧ u.quire q = { b.quire q with sys := (u.quire q).sys } ∧
      (∀ (i : Nat) x, (data.take n.toNat)[i]? = some x → SMap.get 0 (u.quire q).sys (addr.toNat + i) = x) ∧
      ∀ j, j < addr.toNat ∨ addr.toNat + n.toNat ≤ j → SMap.get 0 (u.quire q).sys j = SMap.get 0 (b.quire q).sys j) ∧
  (∀ (h : CmdRef) (qi : BitVec 8) (first cnt : BitVec 16) (sg : Sgl) (f : Fetched) (g q d : Nat) (s b : State), s.startable h 0x0703 = some f → b.canonical = true →
    b = s.brewFor f (.spikeStateRead h qi first cnt sg) → b.objErr 0x0703 h.fn.toNat f.objId.toNat = none → b.lead f.atTick = some d → g = f.objId.toNat →
    b.sealedFor h (b.graph g).slip = false → b.spkQuire g qi.toNat = some q → cnt ≠ 0 → first.toNat + cnt.toNat ≤ 8192 → (b.quire q).spk.next ≤ b.tim.tick + d + 1 →
    sglErr sg (12 * cnt.toNat) = none →
    ((b.quire q).spk.en = false → ∃ t, exec (.spikeStateRead h qi first cnt sg) s = .next t ∧
      State.Answered (b.sglWrite h (((b.quire q).spk.stateBytes first.toNat cnt.toNat).map (fun x => x.toNat))) t h 0 0 0) ∧
    ((b.quire q).spk.en = true → ∃ t, exec (.spikeStateRead h qi first cnt sg) s = .next t ∧ (t.quire q).spk =
        { (b.quire q).spk with reads := (b.quire q).spk.reads ++ [{ ref := h, tick := (b.tim.tick + d) % 2 ^ 32, first := first.toNat, count := cnt.toNat }] } ∧ (∀ k, k ≠ q → t.quire k = b.quire k) ∧ t.tim = b.tim)) ∧
  (∀ (q : BitVec 7) (bad : List Nat) (k n : Nat) (x : Tile) (s : State), s.canonical = true → k = q.toNat → x = (s.quire k).spk →
    (x.en = false ∨ x.sweepDue = true ∨ s.tim.tick < x.next + s.slipLag (s.tileSlip k) → exec (.settlement q bad) s = .next s) ∧
    (x.en = true → x.sweepDue = false → x.next + s.slipLag (s.tileSlip k) ≤ s.tim.tick → n = x.nextDue (s.tim.tick - s.slipLag (s.tileSlip k)) →
      ∃ t, exec (.settlement q bad) s = .next t ∧ (t.quire k).spk.next = n + 1 ∧ (t.quire k).spk.sweepDue = decide (n % 2 ^ 28 = 0) ∧
        (t.quire k).spk.buf = x.buf.filter (fun d => decide (d.2 ≠ n % 2 ^ 32)) ∧ (t.quire k).spk.reads = x.reads.filter (fun r => decide (r.tick ≠ n % 2 ^ 32)) ∧
        (∀ j, j ≠ k → t.quire j = s.quire j) ∧ t.tim = s.tim ∧
        ((∀ d ∈ x.buf, d.2 ≠ n % 2 ^ 32) → (t.quire k).spk.neurons = x.neurons ∧ (t.quire k).spk.fires = x.fires) ∧
        ∀ (row j : Nat) (p : Int) (y : Neuron), x.buf.filter (fun d => decide (d.2 = n % 2 ^ 32)) = [(row, n % 2 ^ 32)] → bad = [] → (∀ w ∈ x.writes, w.tick ≠ n % 2 ^ 32) →
          rowOf (s.quire k).sys row = some [(j, p)] → SMap.wf {} x.neurons = true → y = x.neuron j →
          (t.quire k).spk.neuron j = (match y.apply (x.cls y.cls) (sext 32 (unsig 32 p)) n with | .updated z _ => z | _ => y) ∧
          (∀ i, i ≠ j → (t.quire k).spk.neuron i = x.neuron i))) ∧
  (∀ (q : BitVec 7) (k : Nat) (x : Tile) (s : State), s.canonical = true → k = q.toNat → x = (s.quire k).spk →
    (x.flight = [] → exec (.spikeDelivery q) s = .next s) ∧
    (∀ d rest, x.flight = d :: rest → ∃ t, exec (.spikeDelivery q) s = .next t ∧ (∀ j, j ≠ k → t.quire j = s.quire j) ∧ t.tim = s.tim ∧ (t.quire k).spk =
      { x with flight := rest, buf := if x.en = true ∧ 0 ≤ etsDiff d.2 (x.next % 2 ^ 32) ∧ x.buf.length < 16384 then x.buf ++ [d] else x.buf }) ∧
    (x.en = false ∨ x.sweepDue = false → exec (.renewalSweep q) s = .next s) ∧
    (x.en = true → x.sweepDue = true → SMap.wf {} x.neurons = true → ∃ t, exec (.renewalSweep q) s = .next t ∧ t = { s with quires := t.quires } ∧
      (∀ j, j ≠ k → t.quire j = s.quire j) ∧ (t.quire k).spk = { x with sweepDue := false, neurons := (t.quire k).spk.neurons } ∧
      ∀ i, (t.quire k).spk.neuron i = (x.neuron i).renew (x.cls (x.neuron i).cls) (x.next - 1))) ∧
  (∀ (q : BitVec 7) (hops : List (BitVec 8)) (k : Nat) (s u : State), u = hops.foldl (fun s d => s.kMove d.toNat) s → u.canonical = true → k = q.toNat →
    ((u.quire k).spk.xbarQ = [] → exec (.routerLookup q false hops) s = .next u) ∧ ((u.quire k).spk.tileQ = [] → exec (.routerLookup q true hops) s = .next u) ∧
    (∀ w rest, (u.quire k).spk.xbarQ = w :: rest → ∃ t, exec (.routerLookup q false hops) s = .next t ∧ (t.quire k).spk.xbarQ = rest ∧
      (t.quire k).spk = { (u.quire k).spk with xbarQ := rest, flight := (t.quire k).spk.flight } ∧
      (t.quire k).spk.flight = (u.quire k).spk.flight ++ ((u.matches k (w / 2 ^ 32) (w % 2 ^ 32) false).take 16).map (fun e =>
          (bitsN e 40 24 + (w / 2 ^ 32 &&& (2 ^ 32 - 1 - bitsN e 95 64)) * bitsN e 23 16, w % 2 ^ 32)) ∧
      t.ctr (spkCtr k 9) = u.ctr (spkCtr k 9) + 1 ∧ (∀ j, j ≠ k → t.quire j = u.quire j) ∧ t.kxb = u.kxb ∧ t.tim = u.tim) ∧
    (∀ f rest, (u.quire k).spk.tileQ = f :: rest →
      (u.matches k f.key f.tick true = [] → ∃ t, exec (.routerLookup q true hops) s = .next t ∧ (t.quire k).spk.tileQ = rest ∧ (t.quire k).spk.flight = (u.quire k).spk.flight ∧
        t.ctr (spkCtr k 10) = u.ctr (spkCtr k 10) + 1 ∧ t.kxb = u.kxb ∧ (∀ j, j ≠ k → t.quire j = u.quire j)) ∧
      ∀ e, u.matches k f.key f.tick true = [e] → e.testBit 61 = true → e.testBit 60 = false → e.testBit 59 = false → bitsN e 48 41 = 0 →
        ∃ t, exec (.routerLookup q true hops) s = .next t ∧ (t.quire k).spk.tileQ = rest ∧ (∀ j, j ≠ k → t.quire j = u.quire j) ∧ t.kxb =
          { u.kxb with src := u.kxb.src ++ [{ word := spkWord f.key (f.tick + u.slipLag (u.tileSlip k) + 1), group := bitsN e 58 49, slip := u.tileSlip k }] })) ∧
  (∀ (q : BitVec 7) (k : Nat) (x : Tile) (s : State), s.canonical = true → k = q.toNat → x = (s.quire k).spk →
    (x.loopQ = [] → exec (.delayQueueRelease q true) s = .next s) ∧ (x.delayQ = [] → exec (.delayQueueRelease q false) s = .next s) ∧
    (∀ i w, earliest s.ets x.loopQ 0 none = some i → x.loopQ[i]? = some w →
      (1 < etsDiff (w % 2 ^ 32) s.ets → exec (.delayQueueRelease q true) s = .next s) ∧
      (etsDiff (w % 2 ^ 32) s.ets ≤ 1 → ∃ t, exec (.delayQueueRelease q true) s = .next t ∧ (t.quire k).spk.loopQ = x.loopQ.eraseIdx i ∧
        (t.quire k).spk.flight.length = x.flight.length + min 16 (s.matches k (w / 2 ^ 32) (w % 2 ^ 32) false).length ∧ (∀ j, j ≠ k → t.quire j = s.quire j))) ∧
    (∀ i w, earliest s.ets (x.delayQ.map (fun y => y.1)) 0 none = some i → x.delayQ[i]? = some w →
      (1 < etsDiff (w.1 % 2 ^ 32) s.ets → exec (.delayQueueRelease q false) s = .next s) ∧
      (etsDiff (w.1 % 2 ^ 32) s.ets ≤ 1 → ∃ t, exec (.delayQueueRelease q false) s = .next t ∧ (t.quire k).spk = { x with delayQ := x.delayQ.eraseIdx i } ∧
        t.kxb = { s.kxb with src := s.kxb.src ++ [{ word := w.1, group := w.2, slip := s.tileSlip k }] } ∧ (∀ j, j ≠ k → t.quire j = s.quire j)))) ∧
  (∀ (hops : List (BitVec 8)) (s u : State), u = hops.foldl (fun s d => s.kMove d.toNat) s → u.canonical = true →
    (u.kxb.src = [] → exec (.kxbCopy hops) s = .next u) ∧
    ∀ (x : XSpike) (rest : List XSpike) (g : Nat), u.kxb.src = x :: rest → g = SMap.get 0 u.kxb.groups x.group →
      ((g.testBit 127 = false ∨ bitsN g 126 121 ≠ x.slip) → ∃ t, exec (.kxbCopy hops) s = .next t ∧ t.kxb = { u.kxb with src := rest } ∧
        t.ctr (kxbB + 0x5488) = u.ctr (kxbB + 0x5488) + 1 ∧ t.tim = u.tim) ∧
      (g.testBit 127 = true → bitsN g 126 121 = x.slip → ∃ t, exec (.kxbCopy hops) s = .next t ∧ t.kxb = { u.kxb with src := rest, dst := t.kxb.dst } ∧ t.quires = u.quires ∧
        ∀ d, SMap.get [] t.kxb.dst d = if d < 72 ∧ g.testBit d = true ∧ (SMap.get [] u.kxb.dst d).length < 64 then SMap.get [] u.kxb.dst d ++ [(x.word, bitsN g 120 109)]
          else SMap.get [] u.kxb.dst d)) ∧
  (∀ (n : BitVec 4) (m : Nat) (c : HChan) (w : BitVec 64) (rest : List (BitVec 64)) (a key : Nat) (s : State), s.canonical = true → m = s.cfgPort n.toNat →
    (s.hop m).chans.find? (fun c => c.consumer = .attach) = some c → c.ribbon.items = w :: rest → c.ribbon.rp = 0 → a = SMap.get 0 s.kxb.att m → bitsN w.toNat 63 61 ≠ 1 →
    a.testBit 31 = true → s.rfld (kxbB + 0x100 + 4 * s.portSlip m) 8 8 ≠ 0 → attKey a (s.geomW m) (bitsN w.toNat 47 36) (bitsN w.toNat 59 48) (w.getLsbD 60) = some key →
    ∃ t c', exec (.attachSpike n) s = .next t ∧ t = { s with hops := t.hops, kxb := t.kxb } ∧ (t.hop m).chans.find? (fun c => c.consumer = .attach) = some c' ∧
      c'.ribbon.items ++ c'.spill = rest ++ c.spill ∧ (∀ k, k ≠ m → t.hop k = s.hop k) ∧
      t.kxb = { s.kxb with src := s.kxb.src ++ [{ word := spkWord key (w.toNat % 2 ^ 32), group := bitsN a 19 10, slip := s.portSlip m }] }) ∧
  (∀ (n : BitVec 4) (s : State), (∀ c ∈ (s.hop (s.cfgPort n.toNat)).chans, c.consumer ≠ .attach) → exec (.attachSpike n) s = .next s)

/-- Fetches queue by trigger instant, channels take, filter and stamp their inputs one a slot, and the Aux commands set them up (R263, R264, R265, R266, R268, R271, R272, R277, R279, R553, Table 14.8). FETCH_TRIGGER queues a valid fetch by its instant, or loses it on a full queue; off its grid or tick it changes nothing. IBI is acknowledged and triggers the fetch that names its address, or is counted. FETCH_COMPLETE hands the oldest fetch's block to its channels, or abandons the fetch; I3C_STUCK abandons those that wait. CHANNEL_SLOT accepts an input, drops one out of order, inserts a substitute over a gap or restarts beyond 8; a swap takes effect at its output. AUX_TICK_END closes the ticks past the hold. The Aux commands, where their checks pass, change exactly the fetch or channel named. -/
def Obligations.SensorFetchesAreQueuedTakenAndConditioned : Prop :=
  (∀ (f : BitVec 4) (t : BitVec 64) (e : Nat) (l : List (Nat × Nat)) (s : State), s.canonical = true → e = s.fetchEnt f.toNat → l = SMap.get [] s.ascu.busq (feBus e) →
    (feValid e = false ∨ s.tickAt t.toNat ≠ s.tim.tick ∨ (feTrig e = 2 ∧ t.toNat % fePeriod e ≠ 0) → exec (.fetchTrigger f t) s = .next s) ∧
    (feValid e = true → s.tickAt t.toNat = s.tim.tick → (feTrig e = 2 → 1024 ≤ fePeriod e ∧ t.toNat % fePeriod e = 0) →
      (feTrig e = 1 → s.gpioServes (32 + f.toNat) (bitsN e 56 51) = true) → ∃ t', exec (.fetchTrigger f t) s = .next t' ∧
      (l.length < 16 → t' = { s with ascu := { s.ascu with busq := t'.ascu.busq } } ∧ SMap.get [] t'.ascu.busq (feBus e) = insTrig (t.toNat, f.toNat) l ∧
        ∀ b, b ≠ feBus e → SMap.get [] t'.ascu.busq b = SMap.get [] s.ascu.busq b) ∧
      (16 ≤ l.length → t'.ctr (feCnt f.toNat 2) = s.ctr (feCnt f.toNat 2) + 1 ∧ t'.ascu.busq = s.ascu.busq ∧ ∀ c ∈ s.fetchChans f.toNat, (t'.aux c).lost = true))) ∧
  (∀ (i : BitVec 1) (addr : BitVec 7) (t : BitVec 64) (fs : List Nat) (s : State), s.canonical = true →
    fs = (List.range 16).filter (fun f => feValid (s.fetchEnt f) && feTrig (s.fetchEnt f) = 0 && feBus (s.fetchEnt f) = i.toNat && feAddr (s.fetchEnt f) = addr.toNat) →
    (s.rfld (xioB + 0x390 + 4 * i.toNat) 31 31 = 0 → exec (.ibi i addr t) s = .next s) ∧
    (s.rfld (xioB + 0x390 + 4 * i.toNat) 31 31 ≠ 0 → ∃ t', exec (.ibi i addr t) s = .next t' ∧ t'.out = ⟨.bus, [i.toNat], [1, addr.toNat]⟩ :: s.out ∧
      (fs = [] → t'.ctr (xioB + 0x460) = s.ctr (xioB + 0x460) + 1 ∧ t'.ascu = s.ascu) ∧
      ∀ f, fs = [f] → (SMap.get [] s.ascu.busq i.toNat).length < 16 → SMap.get [] t'.ascu.busq i.toNat = insTrig (t.toNat, f) (SMap.get [] s.ascu.busq i.toNat) ∧
        t'.ascu.chans = s.ascu.chans ∧ t'.ctrs = s.ctrs)) ∧
  (∀ (bus : BitVec 2) (ok : Bool) (data : List (BitVec 8)) (s : State), s.canonical = true → SMap.wf [] s.ascu.busq = true → SMap.wf {} s.ascu.chans = true →
    (SMap.get [] s.ascu.busq bus.toNat = [] → exec (.fetchComplete bus ok data) s = .next s) ∧
    ∀ t f rest, SMap.get [] s.ascu.busq bus.toNat = (t, f) :: rest → ∃ t', exec (.fetchComplete bus ok data) s = .next t' ∧ SMap.get [] t'.ascu.busq bus.toNat = rest ∧
      (∀ b, b ≠ bus.toNat → SMap.get [] t'.ascu.busq b = SMap.get [] s.ascu.busq b) ∧ t'.ascu.fetch = s.ascu.fetch ∧ t'.tim = s.tim ∧
      (∀ c, c ∉ s.fetchChans f → t'.aux c = s.aux c) ∧
      (ok = true → feLen (s.fetchEnt f) ≤ data.length → ∀ c ∈ s.fetchChans f, t'.aux c = if 16 ≤ (s.aux c).q.length then { s.aux c with lost := true }
        else { s.aux c with q := (s.aux c).q ++ [{ t := (t : Int) - feLat (s.fetchEnt f) + sext 18 (bitsN (s.aux c).src 49 32), v := (s.aux c).value (data.take (feLen (s.fetchEnt f))), gap := (s.aux c).lost }], lost := false }) ∧
      (ok = true → feLen (s.fetchEnt f) ≤ data.length → (∀ c ∈ s.fetchChans f, (s.aux c).q.length < 16) → t'.ctr (feCnt f 0) = s.ctr (feCnt f 0) + 1 ∧ t'.regs = s.regs) ∧
      (ok = false ∨ data.length < feLen (s.fetchEnt f) → (∀ c ∈ s.fetchChans f, t'.aux c = { s.aux c with lost := true }) ∧ (t'.reg (ascuB + 4)).getLsbD 0 = true ∧
        (f < 16 → t'.ctr (feCnt f 1) = s.ctr (feCnt f 1) + 1))) ∧
  (∀ (i : BitVec 1) (l : List (Nat × Nat)) (s : State), s.canonical = true → SMap.wf [] s.ascu.busq = true → SMap.wf {} s.ascu.chans = true → l = SMap.get [] s.ascu.busq i.toNat →
    ∃ t', exec (.i3cStuck i) s = .next t' ∧ t'.out = ⟨.bus, [i.toNat], [3, 16]⟩ :: s.out ∧ SMap.get [] t'.ascu.busq i.toNat = [] ∧
      (∀ b, b ≠ i.toNat → SMap.get [] t'.ascu.busq b = SMap.get [] s.ascu.busq b) ∧ (l = [] → t'.ctr (xioB + 0x470) = s.ctr (xioB + 0x470) + 1) ∧
      ∀ c, t'.aux c = { s.aux c with lost := (s.aux c).lost || ((s.aux c).en && l.any (fun p => decide (p.2 = (s.aux c).fetch))) }) ∧
  (∀ (n : BitVec 5) (c : Nat) (x : AuxChan) (s : State), s.canonical = true → c = n.toNat → x = s.aux c →
    (x.en = false → exec (.channelSlot n) s = .next s) ∧
    (x.en = true → ∃ t', exec (.channelSlot n) s = .next t' ∧ (∀ k, k ≠ c → t'.aux k = s.aux k) ∧ t'.ascu.fetch = s.ascu.fetch ∧ t'.ascu.busq = s.ascu.busq ∧ t'.tim = s.tim ∧
      (x.q = [] → t'.aux c = { x with sinks := x.sinks.map AuxSink.drain }) ∧
      (∀ i rest, x.q = i :: rest → x.subs = none → (x.tLast = none ∨ ∃ tl, x.tLast = some tl ∧ 0 < i.t - tl ∧ 512 * (i.t - tl) ≤ 3 * x.p) →
        (t'.aux c).q = rest ∧ (t'.aux c).tLast = some i.t ∧ (t'.aux c).vLast = i.v ∧ (t'.aux c).nIn = x.nIn + 1 ∧ (t'.aux c).ring = (i.t :: x.ring).take 257 ∧
          (x.chain = 0 → (t'.aux c).win = [i.v] ∧ (t'.aux c).f1.useB = (x.f1.useB != x.f1.swapDue (s.tickOfNs i.t)) ∧ (t'.aux c).f2.useB = (x.f2.useB != x.f2.swapDue (s.tickOfNs i.t)) ∧
            (t'.aux c).f1.line = (sat32 i.v).1 :: x.f1.line.take 63 ∧ (t'.aux c).lungo.seq = (x.lungo.seq + 1) % 2 ^ 32)) ∧
      (∀ i rest tl, x.q = i :: rest → x.subs = none → x.tLast = some tl → i.t ≤ tl → t'.aux c = { x with q := rest, sinks := x.sinks.map AuxSink.drain } ∧
        t'.ctr (chCnt c 9) = s.ctr (chCnt c 9) + 1) ∧
      (∀ i rest tl, x.q = i :: rest → x.subs = none → x.tLast = some tl → 3 * (x.p : Int) < 512 * (i.t - tl) →
        ∀ m, m = rneDiv ((i.t - tl).toNat * 256) (max 1 x.p) - 1 →
          (1 ≤ m → m ≤ 8 → (t'.aux c).q = x.q ∧ (t'.aux c).subs = some (1, m, tl, x.p) ∧ (t'.aux c).tLast = some (tl + rneDivI x.p 256) ∧ (t'.aux c).vLast = x.vLast) ∧
          (8 < m → (t'.aux c).q = rest ∧ (t'.aux c).subs = none ∧ (t'.aux c).nIn = 1 ∧ (t'.aux c).tLast = some i.t)))) ∧
  (∀ s : State, SMap.wf {} s.ascu.chans = true → ∃ t', exec .auxTickEnd s = .next t' ∧ t' = { s with ascu := { s.ascu with chans := t'.ascu.chans } } ∧
    ∀ c, t'.aux c = if (s.aux c).en = false then s.aux c else { s.aux c with
      lungo := if (s.aux c).lungo.hold = 0 then (s.aux c).lungo else { (s.aux c).lungo with closed := max (s.aux c).lungo.closed (s.tim.tick + 1 - (s.aux c).lungo.hold) },
      rist := if (s.aux c).rist.hold = 0 then (s.aux c).rist else { (s.aux c).rist with closed := max (s.aux c).rist.closed (s.tim.tick + 1 - (s.aux c).rist.hold) } }) ∧
  (∀ (h : CmdRef) (n : BitVec 8) (e : BitVec 128) (f : Fetched) (s b : State), s.Starts h 0x0801 (.auxFetchSet h n e) f b → b.canonical = true → SMap.wf 0 b.ascu.fetch = true →
    n.toNat < 16 → (e.getLsbD 63 = true → fetchBad e.toNat = false) →
    (b.fetchChans n.toNat = [] → ∃ u t, exec (.auxFetchSet h n e) s = .next t ∧ State.Answered u t h 0 0 0 ∧ u.fetchEnt n.toNat = e.toNat ∧
      (∀ k, k ≠ n.toNat → u.fetchEnt k = b.fetchEnt k) ∧ u.ascu.chans = b.ascu.chans ∧ u.ascu.busq = b.ascu.busq ∧ u.tim = b.tim) ∧
    (b.fetchChans n.toNat ≠ [] → ∃ t, exec (.auxFetchSet h n e) s = .next t ∧ State.Answered b t h 0x700 1 0)) ∧
  (∀ (h : CmdRef) (n : BitVec 8) (src chain out time : BitVec 64) (f : Fetched) (c : Nat) (s b : State), s.Starts h 0x0802 (.auxChanSet h n src chain out time) f b →
    b.canonical = true → SMap.wf {} b.ascu.chans = true → c = n.toNat → c < 32 → bitsN src.toNat 31 0 = 0 → bitsN chain.toNat 3 0 = 0 → bitsN out.toNat 51 33 = 0 →
    ((b.aux c).en = true → ∃ t, exec (.auxChanSet h n src chain out time) s = .next t ∧ State.Answered (b.orReg (ascuB + 4) 16) t h 0x700 2 0) ∧
    ((b.aux c).en = false → ∃ (u t : State), exec (.auxChanSet h n src chain out time) s = .next t ∧ State.Answered u t h 0 0 0 ∧ u = { b with ascu := { b.ascu with chans := u.ascu.chans } } ∧
      (∀ k, k ≠ c → u.aux k = b.aux k) ∧ u.aux c = { b.aux c with src := src.toNat % 2 ^ 63, chain := chain.toNat, out := out.toNat, time := time.toNat })) ∧
  (∀ (h : CmdRef) (n en : BitVec 8) (f : Fetched) (c t1 t2 : Nat) (x : AuxChan) (s b : State), s.Starts h 0x0803 (.auxChanEnable h n en) f b →
    b.canonical = true → SMap.wf {} b.ascu.chans = true → c = n.toNat → c < 32 → b.mayAux h (b.auxSlip c) = true → x = b.aux c →
    t1 = max x.f1.a.taps x.f1.b.taps → t2 = max x.f2.a.taps x.f2.b.taps →
    (en = 0 → ∃ (u t : State), exec (.auxChanEnable h n en) s = .next t ∧ State.Answered u t h 0 0 0 ∧ u = { b with ascu := { b.ascu with chans := u.ascu.chans } } ∧
      (∀ k, k ≠ c → u.aux k = b.aux k) ∧ u.aux c = { x with en := false, q := [], lost := false }) ∧
    (en = 1 → b.auxCfgOk c = false → ∃ t, exec (.auxChanEnable h n en) s = .next t ∧ State.Answered (b.orReg (ascuB + 4) 2) t h 0x102 3 0) ∧
    (en = 1 → b.auxCfgOk c = true → x.en = false → ∀ hl hr, hl = b.auxHold x (x.reach 4 t1 t2) → hr = (if x.rtap = 0 then 0 else b.auxHold x (x.reach x.rtap t1 t2)) →
      ∃ (u t : State), exec (.auxChanEnable h n en) s = .next t ∧ State.Answered u t h 0 0 (result [(hl, 4), (hr, 4)]) ∧ u = { b with ascu := { b.ascu with chans := u.ascu.chans } } ∧
      (∀ k, k ≠ c → u.aux k = b.aux k) ∧ u.aux c = { x.restart with en := true, q := [], lost := false, lungo := { hold := hl }, rist := { hold := hr } })) ∧
  (∀ (h : CmdRef) (n st taps shift : BitVec 8) (coef : List (BitVec 16)) (f : Fetched) (c : Nat) (x : AuxChan) (g : FirStage) (k : FirBank) (s b : State),
    s.Starts h 0x0804 (.auxCoefLoad h n st taps shift coef) f b → b.canonical = true → SMap.wf {} b.ascu.chans = true → c = n.toNat → c < 32 →
    b.mayAux h (b.auxSlip c) = true → x = b.aux c → (st = 1 ∨ st = 2) → shift.toNat ≤ 47 → taps.toNat ≤ (if st = 1 then 64 else 128) →
    g = (if st = 1 then x.f1 else x.f2) → g.pend = none → k.taps = taps.toNat → k.shift = shift.toNat →
    k.coef = (coef.take (if st = 1 then 64 else 128)).map (fun w => w.toInt) → k.sym = coefSym (k.coef.take k.taps) →
    ∃ (u t : State), exec (.auxCoefLoad h n st taps shift coef) s = .next t ∧ State.Answered u t h 0 0 (result [(k.sym.toNat, 1)]) ∧
      u = { b with ascu := { b.ascu with chans := u.ascu.chans } } ∧ (∀ j, j ≠ c → u.aux j = b.aux j) ∧
      u.aux c = { x with f1 := if st = 1 then (if g.useB then { g with a := k } else { g with b := k }) else x.f1, f2 := if st = 2 then (if g.useB then { g with a := k } else { g with b := k }) else x.f2 }) ∧
  (∀ (h : CmdRef) (n st : BitVec 8) (f : Fetched) (c : Nat) (x : AuxChan) (w : Option Nat) (s b : State), s.startable h 0x0805 = some f → b = s.brewFor f (.auxCoefSwap h n st) →
    b.objErr 0x0805 h.fn.toNat f.objId.toNat = none → b.canonical = true → c = n.toNat → c < 32 → b.mayAux h (b.auxSlip c) = true → x = b.aux c → (st = 1 ∨ st = 2 ∨ st = 3) →
    (st.getLsbD 0 = true → x.f1.pend = none) → (st.getLsbD 1 = true → x.f2.pend = none) → ((f.atEn = false ∧ w = none) ∨ ∃ d, f.atEn = true ∧ b.lead f.atTick = some d ∧ w = some (b.tim.tick + d)) →
    ∃ t, exec (.auxCoefSwap h n st) s = .next t ∧ t.tim = b.tim ∧ t.regs = b.regs ∧ (∀ j, j ≠ c → t.aux j = b.aux j) ∧
      t.aux c = { x with f1 := if st.getLsbD 0 then { x.f1 with pend := some w } else x.f1, f2 := if st.getLsbD 1 then { x.f2 with pend := some w } else x.f2, swaps := x.swaps ++ [(h, st.toNat)] })

/-- Fusion sources retain their samples, jobs fuse their instants in order, and track sets run their cycles (R285, R286, R287, R294, R295, R297, R300, R302, R305, R307, R312, R335). In every state in canonical form: FUSION_INPUT takes the oldest record or item of an internal source, and the source retains it, its latest four kept and late ones counted. FUSION_SAMPLE_PUT does so for an external sample that matches its slot; another is refused and counted. FUSION_XFORM_SET fills the bank not in service and puts it in service. TRACK_CLEAR marks a set for its next cycle. FUSION_START runs a job's next instant once its sources are closed or its wait has passed: one FUSED record, the next instant one period on, and a cycle for its track set. TRACK_CYCLE runs a set's oldest cycle: one TRACK record, deleted tracks go, the others are predicted and keep the state rules. Before its time each changes nothing. -/
def Obligations.FusionJobsAndTracksRunTheirInstants : Prop :=
  (∀ (w : BitVec 6) (k q : Nat) (x : FSrc) (s : State), s.canonical = true → k = w.toNat → x = s.fsrc k → q = s.srcQuire x →
    (x.en = false ∨ fsExternal x = true → exec (.fusionInput w) s = .next s) ∧
    (x.en = true → fsExternal x = false → fsKind x ≠ 5 → s.chanHead q (fsInChan x) = none → exec (.fusionInput w) s = .next s) ∧
    (x.en = true → fsExternal x = false → fsKind x ≠ 5 → ∀ b, s.chanHead q (fsInChan x) = some b → ∃ t, exec (.fusionInput w) s = .next t ∧
      t.quire q = (s.quire q).consume (fsInChan x) 1 ∧ (∀ i, i ≠ q → t.quire i = s.quire i) ∧ t.tim = s.tim ∧ t.fu.jobs = s.fu.jobs ∧ t.fu.sets = s.fu.sets ∧
      (∀ i, i ≠ k → t.fsrc i = s.fsrc i) ∧ (recSample (fsKind x) b = none → t.fu = s.fu) ∧
      ∀ n late, recSample (fsKind x) b = some n → (∀ y ∈ x.samples, y.tick < n.tick) → late = (s.fjob x.job).forced.any (fun f => decide (n.tick ≤ fsNeed x f)) →
        t.fsrc k = x.retained n late ∧ t.ctr (fuB + 0x110) = s.ctr (fuB + 0x110) + BitVec.ofNat 48 late.toNat ∧
        t.ctr (fuB + 0x120) = s.ctr (fuB + 0x120) + (if x.samples.length < 4 then 0 else 1)) ∧
    (x.en = true → fsExternal x = false → fsKind x = 5 → ∀ z w0 w1 r n late, (s.aux x.chan).sinks.find? (fun z => z.quire.isNone && z.slot = k && z.rist == fsAuxOut x) = some z →
      z.items = w0 :: w1 :: r → n = ({ tick := ((s.tim.tick : Int) + etsDiff (w0.toNat % 2 ^ 32) s.ets).toNat, age := fsAgeExtra x, gap := w0.getLsbD 58, late := false, data := .aux (w1.toNat % 2 ^ 32) } : FSample) →
      (∀ y ∈ x.samples, y.tick < n.tick) → late = (s.fjob x.job).forced.any (fun f => decide (n.tick ≤ fsNeed x f)) →
      ∃ t, exec (.fusionInput w) s = .next t ∧ t.fsrc k = x.retained n late ∧ (∀ i, i ≠ k → t.fsrc i = s.fsrc i) ∧ (∀ i, i ≠ x.chan → t.aux i = s.aux i) ∧ t.tim = s.tim)) ∧
  (∀ (h : CmdRef) (w : BitVec 8) (sg : Sgl) (d : SampleHdr) (data : List (BitVec 8)) (arr : BitVec 64) (f : Fetched) (k : Nat) (x : FSrc) (s b : State),
    s.Starts h 0x0601 (.fusionSamplePut h w sg d data arr) f b → b.canonical = true → k = w.toNat → k < 64 → x = b.fsrc k → b.sealedFor h (b.graph f.objId.toNat).slip = false →
    sglErr sg (64 + data.length) = none →
    ((x.en = false ∨ fsExternal x = false ∨ d.slot.toNat ≠ k ∨ d.kind.toNat ≠ fsKind x ∨ arr.toNat < d.validNs.toNat ∨ sampleShapeOk x d data.length = false ∨
        (∃ q, x.seq = some q ∧ d.seq.toNat ≤ q)) →
      ∃ t, exec (.fusionSamplePut h w sg d data arr) s = .next t ∧ State.Answered b.sampleFault t h 0x102 1 0) ∧
    (x.en = true → fsExternal x = true → (b.graph x.graph).slip = (b.graph f.objId.toNat).slip → d.slot.toNat = k → d.kind.toNat = fsKind x → d.validNs.toNat ≤ arr.toNat →
      sampleShapeOk x d data.length = true → (∀ q, x.seq = some q → q < d.seq.toNat) →
      (∀ c, b.slotContract k = some c → (b.contract c).bucket k arr.toNat (if fsKind x = 1 then 0 else d.count.toNat) = some none →
        ∃ t, exec (.fusionSamplePut h w sg d data arr) s = .next t ∧ State.Answered (b.modContract c (fun y => { y with extDrop := y.extDrop + 1 })) t h 0x200 0x10 0) ∧
      (b.slotContract k = none → ∀ n late,
        n = ({ tick := b.tickOfNs d.validNs.toNat, age := (d.ageNs.toNat + b.tickLen - 1) / b.tickLen, gap := d.flags.getLsbD 0, late := false, data := sampleData (fsKind x) d data } : FSample) → (∀ y ∈ x.samples, y.tick < n.tick) →
        late = (decide (n.tick + fsCloseLag x ≤ b.tim.tick) || (b.fjob x.job).forced.any (fun f => decide (n.tick ≤ fsNeed x f))) →
        ∃ (u t : State), exec (.fusionSamplePut h w sg d data arr) s = .next t ∧ State.Answered u t h 0 0 (result [(d.seq.toNat, 8)]) ∧
          u.fsrc k = ({ x with seq := some d.seq.toNat } : FSrc).retained n late ∧ (∀ i, i ≠ k → u.fsrc i = b.fsrc i) ∧ u.fu.jobs = b.fu.jobs ∧ u.fu.sets = b.fu.sets ∧
          u = { b with fu := u.fu, ctrs := u.ctrs }))) ∧
  (∀ (h : CmdRef) (w : BitVec 8) (words : List (BitVec 64)) (dram : Bool) (sg : Sgl) (meshes : List (BitVec 8)) (f : Fetched) (k : Nat) (x : FSrc) (B : XBank) (s b : State),
    s.Starts h 0x0602 (.fusionXformSet h w words dram sg meshes) f b → b.canonical = true → k = w.toNat → k < 64 → x = b.fsrc k → x.en = true → x.graph = f.objId.toNat →
    b.sealedFor h (b.graph x.graph).slip = false → B = { words := words, dram := dram } →
    (xformBad B = true → ∃ t, exec (.fusionXformSet h w words dram sg meshes) s = .next t ∧ State.Answered (b.orReg (fuB + 4) 4) t h 0x102 2 0) ∧
    (xformBad B = false → x.pend = false → b.xformStaged k = false → (b.fjob x.job).runs = true →
      ∃ t, exec (.fusionXformSet h w words dram sg meshes) s = .next t ∧ State.Answered b t h 0x700 3 0) ∧
    (xformBad B = false → x.pend = false → b.xformStaged k = false → (b.fjob x.job).runs = false → (xbMeshW B * xbMeshH B ≠ 0 → sglErr sg (8 * xbMeshW B * xbMeshH B) = none) →
      ∃ (u v t : State), exec (.fusionXformSet h w words dram sg meshes) s = .next t ∧ State.Answered u t h 0 0 (result [((!x.useB).toNat, 1)]) ∧
        v = b.locPut (b.graph x.graph).slip (b.graph x.graph).quires { dram := dram, enc := jf words 0x50 8 } 0 (meshes.take (8 * xbMeshW B * xbMeshH B)) ∧
        u = { v with fu := u.fu } ∧ (∀ i, i ≠ k → u.fsrc i = b.fsrc i) ∧ u.fu.jobs = b.fu.jobs ∧ u.fu.sets = b.fu.sets ∧
        u.fsrc k = if x.useB then { x with bankA := B, useB := false, since := 0, pend := false } else { x with bankB := B, useB := true, since := 0, pend := false })) ∧
  (∀ (h : CmdRef) (w : BitVec 8) (f : Fetched) (n : Nat) (x : TSet) (s b : State), s.Starts h 0x0603 (.trackClear h w) f b → b.canonical = true → n = w.toNat → x = b.tset n →
    ((8 ≤ n ∨ x.en = false ∨ x.graph ≠ f.objId.toNat) → ∃ t, exec (.trackClear h w) s = .next t ∧ State.Answered b t h 0x102 5 0) ∧
    (n < 8 → x.en = true → x.graph = f.objId.toNat → ∃ (u t : State), exec (.trackClear h w) s = .next t ∧ State.Answered u t h 0 0 0 ∧ u = { b with fu := { b.fu with sets := u.fu.sets } } ∧
      u.tset n = { x with clearAt := some 0 } ∧ ∀ i, i ≠ n → u.tset i = b.tset i)) ∧
  (∀ (w : BitVec 3) (n tf : Nat) (j : FJob) (s : State), s.canonical = true → SMap.wf {} s.fu.srcs = true → n = w.toNat → j = s.fjob n → tf = j.next → (s.graph j.graph).quire0 < 68 →
    ((j.en = false ∨ j.runs = false ∨ s.dom 42 ≠ 2 ∨ s.tim.tick < tf ∨ (s.jobClosed n tf = false ∧ s.tim.tick < tf + fjWait j)) → exec (.fusionStart w) s = .next s) ∧
    (j.en = true → j.runs = true → s.dom 42 = 2 → tf ≤ s.tim.tick → (s.jobClosed n tf = true ∨ tf + fjWait j ≤ s.tim.tick) →
      ∃ (t : State) (r : Rec), exec (.fusionStart w) s = .next t ∧ t.tim = s.tim ∧ t.recs = s.recs ++ [r] ∧ r.kind = .fused ∧ r.graph = j.graph ∧ r.tref = tf ∧ r.layer = n ∧
        t.fjob n = { j with next := tf + fjPeriod j, lateDisc := 0, forced := if s.jobClosed n tf then j.forced else some tf } ∧ (∀ i, i ≠ n → t.fjob i = s.fjob i) ∧
        t.ctr (fuB + 0x100) = s.ctr (fuB + 0x100) + 1 ∧
        (s.jobClosed n tf = false → t.ctr (fuB + 0x108) = s.ctr (fuB + 0x108) + 1 ∧ (t.reg (fuB + 4)).getLsbD 0 = true) ∧
        ((∀ k ∈ s.jobSlots n, ((s.fsrc k).select tf (s.fsE (s.fsrc k))).contrib = false) → r.flags.testBit 1 = true) ∧
        (∀ k, k ∉ s.jobSlots n → t.fsrc k = s.fsrc k) ∧
        (∀ k ∈ s.jobSlots n, ∀ z, z = (s.fsrc k).select tf (s.fsE (s.fsrc k)) → (t.fsrc k).state = z.state ∧ (t.fsrc k).age = selAge (s.fsrc k) tf z ∧ (t.fsrc k).lateCnt = 0 ∧
          (t.fsrc k).pend = ((s.fsrc k).pend && decide (tf < (s.fsrc k).since)) ∧ (t.fsrc k).stale = s.isStale j (s.fsrc k) tf z) ∧
        (fjTset j = 0xFF → t.fu.sets = s.fu.sets) ∧
        (fjTset j ≠ 0xFF → (∀ i, i ≠ fjTset j → t.tset i = s.tset i) ∧ ∃ c, t.tset (fjTset j) = { s.tset (fjTset j) with cycles := (s.tset (fjTset j)).cycles ++ [c] } ∧ c.tf = tf ∧
          c.forced = !s.jobClosed n tf))) ∧
  (∀ (w : BitVec 3) (n : Nat) (x : TSet) (s : State), s.canonical = true → SMap.wf none x.tracks = true → n = w.toNat → x = s.tset n → (s.graph x.graph).quire0 < 68 →
    ((x.cycles = [] ∨ x.en = false ∨ s.dom 42 ≠ 2) → exec (.trackCycle w) s = .next s) ∧
    (x.en = true → s.dom 42 = 2 → ∀ c rest clear, x.cycles = c :: rest → clear = x.clearAt.any (fun a => decide (a ≤ c.tf)) →
      ∃ (t : State) (r : Rec), exec (.trackCycle w) s = .next t ∧ t.tim = s.tim ∧ t.recs = s.recs ++ [r] ∧ r.kind = .track ∧ r.graph = x.graph ∧ r.tref = c.tf ∧ r.layer = n ∧
        (t.tset n).cycles = rest ∧ (t.tset n).clearAt = (if clear then none else x.clearAt) ∧ (t.tset n).words = x.words ∧ (∀ i, i ≠ n → t.tset i = s.tset i) ∧
        t.fu.jobs = s.fu.jobs ∧ t.fu.srcs = s.fu.srcs ∧ t.ctr (tmB + 0x200) = s.ctr (tmB + 0x200) + 1 ∧
        (c.batches = [] → (t.tset n).idNext = x.idNext ∧ ∀ i, SMap.get none (t.tset n).tracks i = match SMap.get none x.tracks i with
          | none => none
          | some k => if clear = true ∨ k.state = 4 then none else
            some ((s.predict x k c.tf).rules x (cellOf (s.feeder n) (f32of (((s.predict x k c.tf).x[0]?).getD 0)) (f32of (((s.predict x k c.tf).x[1]?).getD 0))).isSome))))

/-- Ethernet, I3C and DRAM upkeep: what is dropped and counted, what is taken and what is answered (R547, R549, R550, R551, R552, R553, R544). In every state in canonical form: ETH_FRAME at an enabled port drops and counts an FCS error, a runt, an over-long frame, a wrong VLAN or a foreign PTP domain and answers address resolution. POINT_CLOUD_DATAGRAM starts, extends, drops or completes the sample under reassembly of its entry; PCL_REASM_DROP drops those 2 ms old. EGRESS_DATAGRAM sends the first record that waits at an entry, or withholds it. ETH_LINK_LOSS marks LINK_DOWN; DELAY_REQUEST is sent for a candidate source; HOT_JOIN is accepted or counted; DRAM_ECS_READ keeps the counts and marks a rise; WCK2DQ_RETRAINING notes its time. Elsewhere nothing changes. -/
def Obligations.FieldNetworksDropTakeAndAnswer : Prop :=
  (∀ (e : BitVec 1) (bad : Bool) (len : BitVec 16) (tag : Option (BitVec 12)) (x : EthBody) (n : Nat) (s : State), s.canonical = true → n = e.toNat →
    (s.rfld (ethCfg n) 63 63 ≠ 1 → exec (.ethFrame e bad len tag x) s = .next s) ∧
    (s.rfld (ethCfg n) 63 63 = 1 →
      (bad = true → ∃ t, exec (.ethFrame e bad len tag x) s = .next t ∧ t = { s with ctrs := t.ctrs } ∧ ∀ k, t.ctr k = s.ctr k + (if k = xioB + 0x478 then 1 else 0)) ∧
      (bad = false → (len.toNat < 64 ∨ 9216 < len.toNat ∨ (s.rfld (ethCfg n) 59 59 = 1 ∧ tag.map (fun v => v.toNat) ≠ some (s.rfld (ethCfg n) 58 47))) →
        ∃ t, exec (.ethFrame e bad len tag x) s = .next t ∧ t = { s with ctrs := t.ctrs } ∧ ∀ k, t.ctr k = s.ctr k + (if k = xioB + 0x480 + 8 * n then 1 else 0)) ∧
      (bad = false → 64 ≤ len.toNat → len.toNat ≤ 9216 → (s.rfld (ethCfg n) 59 59 = 1 → tag.map (fun v => v.toNat) = some (s.rfld (ethCfg n) 58 47)) →
        exec (.ethFrame e bad len tag x) s = .next (match x with
          | .resolve true => { s with out := ⟨.ethernet, [n], [0x0806, s.rfld (ethCfg n) 31 0]⟩ :: s.out }
          | .ptp d => if d.toNat = s.rfld (xioB + 0x20 + 8 * n) 55 48 then s else s.bump (xioB + 0x480 + 8 * n)
          | _ => s)))) ∧
  (∀ (e : BitVec 1) (d : Datagram) (arr : BitVec 64) (k : Nat) (s : State), s.canonical = true → k = d.entry.toNat →
    (s.rfld (ethCfg e.toNat) 63 63 ≠ 1 → exec (.pointCloudDatagram e d arr) s = .next s) ∧
    (s.rfld (ethCfg e.toNat) 63 63 = 1 → (d.magic ≠ 0x4E45 ∨ (d.kind ≠ 1 ∧ d.kind ≠ 2)) → exec (.pointCloudDatagram e d arr) s = .next (s.bump (xioB + 0x480 + 8 * e.toNat))) ∧
    (s.rfld (ethCfg e.toNat) 63 63 = 1 → d.magic = 0x4E45 → d.kind = 1 →
      (s.pclTakes k e.toNat d.udpPort.toNat d.srcIp.toNat = false → exec (.pointCloudDatagram e d arr) s = .next s) ∧
      (s.pclTakes k e.toNat d.udpPort.toNat d.srcIp.toNat = true →
        ((∀ r ∈ s.xio.reasm, ¬(r.entry = k ∧ r.seq = d.seq.toNat)) →
          (d.nfrag.toNat ≤ d.frag.toNat ∨ 4 ≤ (s.xio.reasm.filter (fun r => decide (r.entry = k))).length → exec (.pointCloudDatagram e d arr) s = .next (s.bump (xioB + 0x428))) ∧
          (d.frag.toNat < d.nfrag.toNat → d.nfrag.toNat ≠ 1 → (s.xio.reasm.filter (fun r => decide (r.entry = k))).length < 4 →
            exec (.pointCloudDatagram e d arr) s = .next { s with xio := { s.xio with reasm := s.xio.reasm ++
              [{ entry := k, seq := d.seq.toNat, nfrag := d.nfrag.toNat, since := s.tim.systime, frags := [(d.frag.toNat, d.offset.toNat, d.data)] }] } }) ∧
          (d.frag = 0 → d.nfrag = 1 → d.offset = 0 → (s.xio.reasm.filter (fun r => decide (r.entry = k))).length < 4 → 64 ≤ d.data.length →
            (sampleHdrOf d.data).slot.toNat = s.rfld (xioB + 0x100 + 8 * k) 53 48 → ∀ u,
            (s.brew [42]).samplePut ((s.brew [42]).rfld (xioB + 0x100 + 8 * k) 61 56) (sampleHdrOf d.data).slot.toNat (sampleHdrOf d.data) (d.data.drop 64) arr.toNat = .taken u →
            exec (.pointCloudDatagram e d arr) s = .next (u.bump (xioB + 0x420)))) ∧
        (∀ r, s.xio.reasm.find? (fun r => r.entry = k && r.seq = d.seq.toNat) = some r →
          (d.nfrag.toNat ≠ r.nfrag ∨ r.nfrag ≤ d.frag.toNat ∨ (∃ g ∈ r.frags, fragOver (d.frag.toNat, d.offset.toNat, d.data) g = true)) →
          ∃ t, exec (.pointCloudDatagram e d arr) s = .next t ∧ t.xio = { s.xio with reasm := s.xio.reasm.filter (fun y => !(y.entry = k && y.seq = d.seq.toNat)) } ∧
            t.ctr (xioB + 0x428) = s.ctr (xioB + 0x428) + 1 ∧ t = { s with xio := t.xio, ctrs := t.ctrs })))) ∧
  (∀ (s : State) (old : List Reasm), s.canonical = true → old = s.xio.reasm.filter (fun r => decide (r.since + 2000000 ≤ s.tim.systime)) →
    (old = [] → exec .pclReasmDrop s = .next s) ∧
    ∃ t, exec .pclReasmDrop s = .next t ∧ t = { s with xio := { s.xio with reasm := t.xio.reasm }, ctrs := t.ctrs } ∧
      t.ctr (xioB + 0x428) = s.ctr (xioB + 0x428) + BitVec.ofNat 48 old.length ∧
      ∀ r, r ∈ t.xio.reasm ↔ r ∈ s.xio.reasm ∧ ∀ o ∈ old, ¬(o.entry = r.entry ∧ o.seq = r.seq)) ∧
  (∀ (w : BitVec 4) (n c e : Nat) (s : State), s.canonical = true → SMap.wf 0 s.xio.egBytes = true → n = w.toNat → c = xioB + 0x200 + 16 * n → e = s.rfld c 62 62 →
    ((∀ x ∈ s.xio.egWait, x.1 ≠ n) → exec (.egressDatagram w) s = .next s) ∧
    (∀ x, s.xio.egWait.find? (fun x => decide (x.1 = n)) = some x → ∃ t, exec (.egressDatagram w) s = .next t ∧ t.tim = s.tim ∧ t.regs = s.regs ∧ t.xio.egWait = dropFirst n s.xio.egWait ∧
      SMap.get 0 t.xio.egBytes e = SMap.get 0 s.xio.egBytes e - x.2.1 ∧
      (s.rfld c 63 63 ≠ 1 → t.out = s.out ∧ t.ctrs = s.ctrs) ∧
      (s.rfld c 63 63 = 1 → s.sealed (s.rfld c 61 56) = true → t.out = s.out ∧ t.ctr (xioB + 0x440) = s.ctr (xioB + 0x440) + 1) ∧
      (s.rfld c 63 63 = 1 → s.sealed (s.rfld c 61 56) = false → t.ctr (xioB + 0x430) = s.ctr (xioB + 0x430) + 1 ∧ SMap.get 0 t.xio.egSeq n = SMap.get 0 s.xio.egSeq n + 1 ∧
        ∃ nfrag, 1 ≤ nfrag ∧ nfrag < 65536 ∧ t.out = ⟨.ethernet, [e], [s.rfld (c + 8) 31 0, s.rfld c 31 16, s.rfld c 47 32, 0x4E45, 2, n, SMap.get 0 s.xio.egSeq n % 2 ^ 32, nfrag, x.2.1] ++ x.2.2⟩ :: s.out))) ∧
  (∀ (e : BitVec 1) (s : State), s.canonical = true → ∃ t, exec (.ethLinkLoss e) s = .next t ∧ t = { s with regs := t.regs, tim := t.tim } ∧
    t.reg (xioB + 4) = s.reg (xioB + 4) ||| 4 ∧ (∀ k, k ≠ xioB + 4 → t.reg k = s.reg k) ∧ t.tim = { s.tim with delayReq := t.tim.delayReq } ∧
    (∀ i, t.tim.delayReq.getLsbD i = (s.tim.delayReq.getLsbD i && decide (i ≠ e.toNat)))) ∧
  (∀ (e : BitVec 1) (s : State), s.canonical = true →
    ((s.candidates.contains (1 + e.toNat) = false ∨ s.rfld (xioB + 0x10 + 8 * e.toNat) 63 63 ≠ 1) → exec (.delayRequest e) s = .next s) ∧
    (s.candidates.contains (1 + e.toNat) = true → s.rfld (xioB + 0x10 + 8 * e.toNat) 63 63 = 1 → ∃ t, exec (.delayRequest e) s = .next t ∧ t = { s with tim := { s.tim with delayReq := t.tim.delayReq }, out := t.out } ∧
      t.out = ⟨.ethernet, [e.toNat], [0x88F7, s.rfld (xioB + 0x20 + 8 * e.toNat) 63 63]⟩ :: s.out ∧ (∀ i, i < 2 → t.tim.delayReq.getLsbD i = (s.tim.delayReq.getLsbD i || decide (i = e.toNat))))) ∧
  (∀ (i : BitVec 1) (s : State), s.canonical = true → ∃ t, exec (.hotJoin i) s = .next t ∧ t = { s with out := t.out, ctrs := t.ctrs } ∧
    (s.rfld (xioB + 0x390 + 4 * i.toNat) 31 30 = 3 → t.out = ⟨.bus, [i.toNat], [2, 1]⟩ :: s.out ∧ t.ctrs = s.ctrs) ∧
    (s.rfld (xioB + 0x390 + 4 * i.toNat) 31 30 ≠ 3 → t.out = ⟨.bus, [i.toNat], [2, 0]⟩ :: s.out ∧ t.ctr (xioB + 0x468) = s.ctr (xioB + 0x468) + 1)) ∧
  (∀ (counts : List Nat) (s : State), s.canonical = true → ∃ t, exec (.dramEcsRead counts) s = .next t ∧ t = { s with xio := { s.xio with ecs := t.xio.ecs }, regs := t.regs } ∧
    (∀ c, c < 8 → SMap.get 0 t.xio.ecs c = (counts[c]?).getD (SMap.get 0 s.xio.ecs c)) ∧
    ((∃ c, c < 8 ∧ SMap.get 0 s.xio.ecs c < (counts[c]?).getD (SMap.get 0 s.xio.ecs c)) → t.reg (mcB + 4) = s.reg (mcB + 4) ||| 4) ∧
    ((∀ c, c < 8 → (counts[c]?).getD (SMap.get 0 s.xio.ecs c) ≤ SMap.get 0 s.xio.ecs c) → t.regs = s.regs)) ∧
  (∀ (c : BitVec 3) (s : State), s.canonical = true → SMap.wf 0 s.xio.wckAt = true → ∃ t, exec (.wck2dqRetraining c) s = .next t ∧
    t = { s with xio := { s.xio with wckAt := t.xio.wckAt } } ∧ SMap.get 0 t.xio.wckAt c.toNat = s.tim.systime ∧ ∀ k, k ≠ c.toNat → SMap.get 0 t.xio.wckAt k = SMap.get 0 s.xio.wckAt k)

/-- ETS values are compared by their signed 32-bit difference modulo 2^32 (R43). For all ETS values a and b: the model's separation lies from -2^31 to 2^31 - 1, and is a - b modulo 2^32; a is after b exactly when it is positive, at b's tick when it is 0, and before b when it is negative, whenever the true separation of the ticks behind a and b is less than 2^31. -/
def Obligations.EtsSeparationIsTheSignedDifference : Prop :=
  (∀ a b : Nat, a < 2 ^ 32 → b < 2 ^ 32 → -2 ^ 31 ≤ etsDiff a b ∧ etsDiff a b < 2 ^ 31 ∧ (etsDiff a b - ((a : Int) - b)) % 2 ^ 32 = 0) ∧
  (∀ m n : Nat, ((m : Int) - n).natAbs < 2 ^ 31 → etsDiff (m % 2 ^ 32) (n % 2 ^ 32) = (m : Int) - n ∧
    (n < m ↔ 0 < etsDiff (m % 2 ^ 32) (n % 2 ^ 32)) ∧ (m < n ↔ etsDiff (m % 2 ^ 32) (n % 2 ^ 32) < 0))

/-- A write of HOP_REFR or HOP_BA changes no item's settings before the next tick boundary, and all items of one tick see the same (R80). A write of any width and byte enables that starts at HOP_REFR or HOP_BA of a Hopper leaves every port and the time as they are, so the settings every tick's items see stay. At a TICK_BOUNDARY of a device that is up, after what is left of the old tick is done (u), the items of the tick that begins see what the two registers then hold, and the items of every tick whose end has not been sent see what they saw before. -/
def Obligations.FilterSettingsChangeAtTickBoundaries : Prop :=
  (∀ (n : Nat) (off : BitVec 28) (width : Nat) (be : BitVec 8) (v : BitVec 64) (s : State), s.canonical = true → n < 16 → width ≤ 8 →
    (off.toNat = hopB n + 0x20 ∨ off.toNat = hopB n + 0x24) →
    ∃ t, exec (.registerWrite 0 off width be v) s = .next t ∧ t.hops = s.hops ∧ t.tim = s.tim ∧ ∀ m k, t.filters m k = s.filters m k) ∧
  (∀ s u : State, s.tim.stopped = false → s.pwr.down = false → u = s.leftovers (s.staged.length + 1) → u.canonical = true →
    ∃ t, exec .tickBoundary s = .next t ∧ t.tim.tick = u.tim.tick + 1 ∧ ∀ n, n < 16 →
      t.filters n t.tim.tick = (u.reg (hopB n + 0x20), u.reg (hopB n + 0x24)) ∧
      ∀ k, (u.hop n).nextEnd ≤ k → k ≤ u.tim.tick → t.filters n k = u.filters n k)
end

