-- ==== Sys2Proof/Laws/Map.lean ====
section
/-! SUPPORT. The laws of sparse maps: reading after writing, and that every operation keeps the canonical form. -/
namespace Sys2Proof.Machine

variable {α : Type}

/-! ## The canonical form is kept -/

theorem SMap.wfFrom_mono [DecidableEq α] {d : α} {m : SMap α} {a b : Nat} (hab : a ≤ b) (h : SMap.wfFrom d b m = true) :
    SMap.wfFrom d a m = true := by
  cases m with
  | nil => rfl
  | cons e r =>
    simp only [SMap.wfFrom, Bool.and_eq_true, decide_eq_true_eq] at h ⊢
    exact ⟨⟨by omega, h.1.2⟩, h.2⟩

theorem SMap.wfFrom_ins [DecidableEq α] {d v : α} (hv : v ≠ d) {m : SMap α} {a k : Nat} (hk : a ≤ k)
    (h : SMap.wfFrom d a m = true) : SMap.wfFrom d a (SMap.ins m k v) = true := by
  induction m generalizing a with
  | nil => simp [SMap.ins, SMap.wfFrom, hk, hv]
  | cons e r ih =>
    obtain ⟨k', v'⟩ := e
    simp only [SMap.wfFrom, Bool.and_eq_true, decide_eq_true_eq] at h
    obtain ⟨⟨h1, h2⟩, h3⟩ := h
    simp only [SMap.ins]
    split
    · simp only [SMap.wfFrom, Bool.and_eq_true, decide_eq_true_eq]
      exact ⟨⟨hk, hv⟩, ⟨by omega, h2⟩, h3⟩
    · split
      · subst_vars
        simp only [SMap.wfFrom, Bool.and_eq_true, decide_eq_true_eq]
        exact ⟨⟨hk, hv⟩, h3⟩
      · simp only [SMap.wfFrom, Bool.and_eq_true, decide_eq_true_eq]
        exact ⟨⟨h1, h2⟩, ih (by omega) h3⟩

theorem SMap.wfFrom_del [DecidableEq α] {d : α} {m : SMap α} {a k : Nat} (h : SMap.wfFrom d a m = true) :
    SMap.wfFrom d a (SMap.del m k) = true := by
  induction m generalizing a with
  | nil => rfl
  | cons e r ih =>
    obtain ⟨k', v'⟩ := e
    simp only [SMap.wfFrom, Bool.and_eq_true, decide_eq_true_eq] at h
    obtain ⟨⟨h1, h2⟩, h3⟩ := h
    simp only [SMap.del]
    split
    · exact SMap.wfFrom_mono (by omega) h3
    · simp only [SMap.wfFrom, Bool.and_eq_true, decide_eq_true_eq]
      exact ⟨⟨h1, h2⟩, ih h3⟩

@[simp] theorem SMap.wf_nil [DecidableEq α] {d : α} : SMap.wf d [] = true := rfl

/-- A write keeps the canonical form. -/
theorem SMap.wf_put [DecidableEq α] {d v : α} {m : SMap α} {k : Nat} (h : SMap.wf d m = true) :
    SMap.wf d (SMap.put d m k v) = true := by
  unfold SMap.put
  split
  · exact SMap.wfFrom_del h
  · exact SMap.wfFrom_ins (by assumption) (Nat.zero_le _) h

/-- A change of one entry keeps the canonical form. -/
theorem SMap.wf_upd [DecidableEq α] {d : α} {m : SMap α} {k : Nat} {f : α → α} (h : SMap.wf d m = true) :
    SMap.wf d (SMap.upd d m k f) = true := SMap.wf_put h

/-- Writing a list of values keeps the canonical form. -/
theorem SMap.wf_putAll [DecidableEq α] {d : α} {l : List α} {m : SMap α} {k : Nat} (h : SMap.wf d m = true) :
    SMap.wf d (SMap.putAll d m k l) = true := by
  induction l generalizing m k with
  | nil => exact h
  | cons v r ih => exact ih (SMap.wf_put h)

theorem SMap.wfFrom_filter [DecidableEq α] {d : α} {m : SMap α} {a : Nat} {p : Nat × α → Bool} (h : SMap.wfFrom d a m = true) :
    SMap.wfFrom d a (m.filter p) = true := by
  induction m generalizing a with
  | nil => rfl
  | cons e r ih =>
    obtain ⟨k', v'⟩ := e
    simp only [SMap.wfFrom, Bool.and_eq_true, decide_eq_true_eq] at h
    obtain ⟨⟨h1, h2⟩, h3⟩ := h
    simp only [List.filter]
    split
    · simp only [SMap.wfFrom, Bool.and_eq_true, decide_eq_true_eq]
      exact ⟨⟨h1, h2⟩, ih h3⟩
    · exact SMap.wfFrom_mono (by omega) (ih h3)

/-- Keeping some entries keeps the canonical form. -/
theorem SMap.wf_filter [DecidableEq α] {d : α} {m : SMap α} {p : Nat × α → Bool} (h : SMap.wf d m = true) :
    SMap.wf d (m.filter p) = true := SMap.wfFrom_filter h

theorem SMap.wf_clear [DecidableEq α] {d : α} {m : SMap α} {lo hi : Nat} (h : SMap.wf d m = true) :
    SMap.wf d (SMap.clear m lo hi) = true := SMap.wfFrom_filter h

theorem SMap.wf_keep [DecidableEq α] {d : α} {m : SMap α} {p : Nat → α → Bool} (h : SMap.wf d m = true) :
    SMap.wf d (SMap.keep m p) = true := SMap.wfFrom_filter h

theorem SMap.wfFrom_mapAll [DecidableEq α] {d : α} {m : SMap α} {a : Nat} {f : Nat → α → α} (h : SMap.wfFrom d a m = true) :
    SMap.wfFrom d a (SMap.mapAll d m f) = true := by
  induction m generalizing a with
  | nil => rfl
  | cons e r ih =>
    obtain ⟨k', v'⟩ := e
    simp only [SMap.wfFrom, Bool.and_eq_true, decide_eq_true_eq] at h
    obtain ⟨⟨h1, h2⟩, h3⟩ := h
    have ih' := ih h3
    by_cases hv : f k' v' = d
    · simp only [SMap.mapAll, List.map_cons, ne_eq, decide_not, hv, decide_true, Bool.not_true, List.filter_cons_of_neg,
        Bool.false_eq_true, not_false_eq_true] at ih' ⊢
      exact SMap.wfFrom_mono (by omega) ih'
    · simp only [SMap.mapAll, List.map_cons, ne_eq, decide_not, hv, decide_false, Bool.not_false, List.filter_cons_of_pos, SMap.wfFrom,
        Bool.and_eq_true, decide_eq_true_eq, not_false_eq_true, and_true] at ih' ⊢
      exact ⟨h1, ih'⟩

/-- Changing every entry keeps the canonical form. -/
theorem SMap.wf_mapAll [DecidableEq α] {d : α} {m : SMap α} {f : Nat → α → α} (h : SMap.wf d m = true) :
    SMap.wf d (SMap.mapAll d m f) = true := SMap.wfFrom_mapAll h

/-! ## Reading after writing -/

@[simp] theorem SMap.get_nil (d : α) (k : Nat) : SMap.get d [] k = d := rfl

theorem SMap.get_ins_self (d : α) (m : SMap α) (k : Nat) (v : α) : SMap.get d (SMap.ins m k v) k = v := by
  induction m with
  | nil => simp [SMap.ins, SMap.get]
  | cons e r ih =>
    obtain ⟨k', v'⟩ := e
    simp only [SMap.ins]
    split
    · simp [SMap.get]
    · split
      · simp [SMap.get]
      · simp [SMap.get, *]

theorem SMap.get_ins_ne (d : α) (m : SMap α) {k j : Nat} (v : α) (h : j ≠ k) : SMap.get d (SMap.ins m k v) j = SMap.get d m j := by
  induction m with
  | nil => simp [SMap.ins, SMap.get, h]
  | cons e r ih =>
    obtain ⟨k', v'⟩ := e
    simp only [SMap.ins]
    split
    · simp [SMap.get, h]
    · split
      · subst_vars; simp [SMap.get, h]
      · simp [SMap.get, ih]

theorem SMap.get_del_ne (d : α) (m : SMap α) {k j : Nat} (h : j ≠ k) : SMap.get d (SMap.del m k) j = SMap.get d m j := by
  induction m with
  | nil => rfl
  | cons e r ih =>
    obtain ⟨k', v'⟩ := e
    simp only [SMap.del]
    split
    · subst_vars; simp [SMap.get, h]
    · simp [SMap.get, ih]

/-- A key below every listed one reads as the default. -/
theorem SMap.get_below [DecidableEq α] {d : α} {m : SMap α} {a k : Nat} (h : SMap.wfFrom d a m = true) (hk : k < a) :
    SMap.get d m k = d := by
  induction m generalizing a with
  | nil => rfl
  | cons e r ih =>
    obtain ⟨k', v'⟩ := e
    simp only [SMap.wfFrom, Bool.and_eq_true, decide_eq_true_eq] at h
    obtain ⟨⟨h1, h2⟩, h3⟩ := h
    simp only [SMap.get]
    rw [if_neg (by omega)]
    exact ih h3 (by omega)

theorem SMap.get_del_self [DecidableEq α] {d : α} {m : SMap α} {a k : Nat} (h : SMap.wfFrom d a m = true) :
    SMap.get d (SMap.del m k) k = d := by
  induction m generalizing a with
  | nil => rfl
  | cons e r ih =>
    obtain ⟨k', v'⟩ := e
    simp only [SMap.wfFrom, Bool.and_eq_true, decide_eq_true_eq] at h
    obtain ⟨⟨h1, h2⟩, h3⟩ := h
    simp only [SMap.del]
    split
    · exact SMap.get_below h3 (by omega)
    · simp only [SMap.get]
      rw [if_neg (by assumption)]
      exact ih h3

/-- What was written is read, in a map of canonical form. -/
theorem SMap.get_put_self [DecidableEq α] {d v : α} {m : SMap α} {k : Nat} (h : SMap.wf d m = true) :
    SMap.get d (SMap.put d m k v) k = v := by
  unfold SMap.put
  split
  · subst_vars; exact SMap.get_del_self h
  · exact SMap.get_ins_self d m k v

/-- A write changes no other key. -/
theorem SMap.get_put_ne [DecidableEq α] {d v : α} {m : SMap α} {k j : Nat} (h : j ≠ k) :
    SMap.get d (SMap.put d m k v) j = SMap.get d m j := by
  unfold SMap.put
  split
  · exact SMap.get_del_ne d m h
  · exact SMap.get_ins_ne d m v h

/-- A change of one entry, read back. -/
theorem SMap.get_upd_self [DecidableEq α] {d : α} {m : SMap α} {k : Nat} {f : α → α} (h : SMap.wf d m = true) :
    SMap.get d (SMap.upd d m k f) k = f (SMap.get d m k) := SMap.get_put_self h

theorem SMap.get_upd_ne [DecidableEq α] {d : α} {m : SMap α} {k j : Nat} {f : α → α} (h : j ≠ k) :
    SMap.get d (SMap.upd d m k f) j = SMap.get d m j := SMap.get_put_ne h

end Sys2Proof.Machine
end

