-- ==== Sys2Proof/Laws/State.lean ====
section
/-! SUPPORT. The named updates of State: for each, one lemma per field it leaves alone (the conjunction is one rewriting rule per
field), and what the field it writes then holds. -/
namespace Sys2Proof.Machine

variable (s : State)

/-! ## modFn: writes fns only -/
@[simp] theorem State.modFn_regs (f : Nat) (g : Fn → Fn) : (s.modFn f g).regs = s.regs := rfl
@[simp] theorem State.modFn_ctrs (f : Nat) (g : Fn → Fn) : (s.modFn f g).ctrs = s.ctrs := rfl
@[simp] theorem State.modFn_shadow (f : Nat) (g : Fn → Fn) : (s.modFn f g).shadow = s.shadow := rfl
@[simp] theorem State.modFn_stageBuf (f : Nat) (g : Fn → Fn) : (s.modFn f g).stageBuf = s.stageBuf := rfl
@[simp] theorem State.modFn_latch (f : Nat) (g : Fn → Fn) : (s.modFn f g).latch = s.latch := rfl
@[simp] theorem State.modFn_tim (f : Nat) (g : Fn → Fn) : (s.modFn f g).tim = s.tim := rfl
@[simp] theorem State.modFn_qps (f : Nat) (g : Fn → Fn) : (s.modFn f g).qps = s.qps := rfl
@[simp] theorem State.modFn_vecs (f : Nat) (g : Fn → Fn) : (s.modFn f g).vecs = s.vecs := rfl
@[simp] theorem State.modFn_fetchPf (f : Nat) (g : Fn → Fn) : (s.modFn f g).fetchPf = s.fetchPf := rfl
@[simp] theorem State.modFn_fetchFn (f : Nat) (g : Fn → Fn) : (s.modFn f g).fetchFn = s.fetchFn := rfl
@[simp] theorem State.modFn_staged (f : Nat) (g : Fn → Fn) : (s.modFn f g).staged = s.staged := rfl
@[simp] theorem State.modFn_resetDue (f : Nat) (g : Fn → Fn) : (s.modFn f g).resetDue = s.resetDue := rfl
@[simp] theorem State.modFn_slips (f : Nat) (g : Fn → Fn) : (s.modFn f g).slips = s.slips := rfl
@[simp] theorem State.modFn_keys (f : Nat) (g : Fn → Fn) : (s.modFn f g).keys = s.keys := rfl
@[simp] theorem State.modFn_granules (f : Nat) (g : Fn → Fn) : (s.modFn f g).granules = s.granules := rfl
@[simp] theorem State.modFn_obs (f : Nat) (g : Fn → Fn) : (s.modFn f g).obs = s.obs := rfl
@[simp] theorem State.modFn_si (f : Nat) (g : Fn → Fn) : (s.modFn f g).si = s.si := rfl
@[simp] theorem State.modFn_hops (f : Nat) (g : Fn → Fn) : (s.modFn f g).hops = s.hops := rfl
@[simp] theorem State.modFn_sfms (f : Nat) (g : Fn → Fn) : (s.modFn f g).sfms = s.sfms := rfl
@[simp] theorem State.modFn_pwr (f : Nat) (g : Fn → Fn) : (s.modFn f g).pwr = s.pwr := rfl
@[simp] theorem State.modFn_quires (f : Nat) (g : Fn → Fn) : (s.modFn f g).quires = s.quires := rfl
@[simp] theorem State.modFn_arbs (f : Nat) (g : Fn → Fn) : (s.modFn f g).arbs = s.arbs := rfl
@[simp] theorem State.modFn_kxb (f : Nat) (g : Fn → Fn) : (s.modFn f g).kxb = s.kxb := rfl
@[simp] theorem State.modFn_ascu (f : Nat) (g : Fn → Fn) : (s.modFn f g).ascu = s.ascu := rfl
@[simp] theorem State.modFn_fu (f : Nat) (g : Fn → Fn) : (s.modFn f g).fu = s.fu := rfl
@[simp] theorem State.modFn_graphs (f : Nat) (g : Fn → Fn) : (s.modFn f g).graphs = s.graphs := rfl
@[simp] theorem State.modFn_contracts (f : Nat) (g : Fn → Fn) : (s.modFn f g).contracts = s.contracts := rfl
@[simp] theorem State.modFn_conAdmits (f : Nat) (g : Fn → Fn) : (s.modFn f g).conAdmits = s.conAdmits := rfl
@[simp] theorem State.modFn_nextGraph (f : Nat) (g : Fn → Fn) : (s.modFn f g).nextGraph = s.nextGraph := rfl
@[simp] theorem State.modFn_nextContract (f : Nat) (g : Fn → Fn) : (s.modFn f g).nextContract = s.nextContract := rfl
@[simp] theorem State.modFn_policy (f : Nat) (g : Fn → Fn) : (s.modFn f g).policy = s.policy := rfl
@[simp] theorem State.modFn_recs (f : Nat) (g : Fn → Fn) : (s.modFn f g).recs = s.recs := rfl
@[simp] theorem State.modFn_dues (f : Nat) (g : Fn → Fn) : (s.modFn f g).dues = s.dues := rfl
@[simp] theorem State.modFn_sps (f : Nat) (g : Fn → Fn) : (s.modFn f g).sps = s.sps := rfl
@[simp] theorem State.modFn_streams (f : Nat) (g : Fn → Fn) : (s.modFn f g).streams = s.streams := rfl
@[simp] theorem State.modFn_bind (f : Nat) (g : Fn → Fn) : (s.modFn f g).bind = s.bind := rfl
@[simp] theorem State.modFn_sec (f : Nat) (g : Fn → Fn) : (s.modFn f g).sec = s.sec := rfl
@[simp] theorem State.modFn_xio (f : Nat) (g : Fn → Fn) : (s.modFn f g).xio = s.xio := rfl
@[simp] theorem State.modFn_uchans (f : Nat) (g : Fn → Fn) : (s.modFn f g).uchans = s.uchans := rfl
@[simp] theorem State.modFn_dram (f : Nat) (g : Fn → Fn) : (s.modFn f g).dram = s.dram := rfl
@[simp] theorem State.modFn_out (f : Nat) (g : Fn → Fn) : (s.modFn f g).out = s.out := rfl
@[simp] theorem State.modFn_free (f : Nat) (g : Fn → Fn) : (s.modFn f g).free = s.free := rfl
@[simp] theorem State.modFn_pending (f : Nat) (g : Fn → Fn) : (s.modFn f g).pending = s.pending := rfl

/-! ## modQp: writes qps only -/
@[simp] theorem State.modQp_regs (k : Nat) (g : QPair → QPair) : (s.modQp k g).regs = s.regs := rfl
@[simp] theorem State.modQp_ctrs (k : Nat) (g : QPair → QPair) : (s.modQp k g).ctrs = s.ctrs := rfl
@[simp] theorem State.modQp_shadow (k : Nat) (g : QPair → QPair) : (s.modQp k g).shadow = s.shadow := rfl
@[simp] theorem State.modQp_stageBuf (k : Nat) (g : QPair → QPair) : (s.modQp k g).stageBuf = s.stageBuf := rfl
@[simp] theorem State.modQp_latch (k : Nat) (g : QPair → QPair) : (s.modQp k g).latch = s.latch := rfl
@[simp] theorem State.modQp_tim (k : Nat) (g : QPair → QPair) : (s.modQp k g).tim = s.tim := rfl
@[simp] theorem State.modQp_fns (k : Nat) (g : QPair → QPair) : (s.modQp k g).fns = s.fns := rfl
@[simp] theorem State.modQp_vecs (k : Nat) (g : QPair → QPair) : (s.modQp k g).vecs = s.vecs := rfl
@[simp] theorem State.modQp_fetchPf (k : Nat) (g : QPair → QPair) : (s.modQp k g).fetchPf = s.fetchPf := rfl
@[simp] theorem State.modQp_fetchFn (k : Nat) (g : QPair → QPair) : (s.modQp k g).fetchFn = s.fetchFn := rfl
@[simp] theorem State.modQp_staged (k : Nat) (g : QPair → QPair) : (s.modQp k g).staged = s.staged := rfl
@[simp] theorem State.modQp_resetDue (k : Nat) (g : QPair → QPair) : (s.modQp k g).resetDue = s.resetDue := rfl
@[simp] theorem State.modQp_slips (k : Nat) (g : QPair → QPair) : (s.modQp k g).slips = s.slips := rfl
@[simp] theorem State.modQp_keys (k : Nat) (g : QPair → QPair) : (s.modQp k g).keys = s.keys := rfl
@[simp] theorem State.modQp_granules (k : Nat) (g : QPair → QPair) : (s.modQp k g).granules = s.granules := rfl
@[simp] theorem State.modQp_obs (k : Nat) (g : QPair → QPair) : (s.modQp k g).obs = s.obs := rfl
@[simp] theorem State.modQp_si (k : Nat) (g : QPair → QPair) : (s.modQp k g).si = s.si := rfl
@[simp] theorem State.modQp_hops (k : Nat) (g : QPair → QPair) : (s.modQp k g).hops = s.hops := rfl
@[simp] theorem State.modQp_sfms (k : Nat) (g : QPair → QPair) : (s.modQp k g).sfms = s.sfms := rfl
@[simp] theorem State.modQp_pwr (k : Nat) (g : QPair → QPair) : (s.modQp k g).pwr = s.pwr := rfl
@[simp] theorem State.modQp_quires (k : Nat) (g : QPair → QPair) : (s.modQp k g).quires = s.quires := rfl
@[simp] theorem State.modQp_arbs (k : Nat) (g : QPair → QPair) : (s.modQp k g).arbs = s.arbs := rfl
@[simp] theorem State.modQp_kxb (k : Nat) (g : QPair → QPair) : (s.modQp k g).kxb = s.kxb := rfl
@[simp] theorem State.modQp_ascu (k : Nat) (g : QPair → QPair) : (s.modQp k g).ascu = s.ascu := rfl
@[simp] theorem State.modQp_fu (k : Nat) (g : QPair → QPair) : (s.modQp k g).fu = s.fu := rfl
@[simp] theorem State.modQp_graphs (k : Nat) (g : QPair → QPair) : (s.modQp k g).graphs = s.graphs := rfl
@[simp] theorem State.modQp_contracts (k : Nat) (g : QPair → QPair) : (s.modQp k g).contracts = s.contracts := rfl
@[simp] theorem State.modQp_conAdmits (k : Nat) (g : QPair → QPair) : (s.modQp k g).conAdmits = s.conAdmits := rfl
@[simp] theorem State.modQp_nextGraph (k : Nat) (g : QPair → QPair) : (s.modQp k g).nextGraph = s.nextGraph := rfl
@[simp] theorem State.modQp_nextContract (k : Nat) (g : QPair → QPair) : (s.modQp k g).nextContract = s.nextContract := rfl
@[simp] theorem State.modQp_policy (k : Nat) (g : QPair → QPair) : (s.modQp k g).policy = s.policy := rfl
@[simp] theorem State.modQp_recs (k : Nat) (g : QPair → QPair) : (s.modQp k g).recs = s.recs := rfl
@[simp] theorem State.modQp_dues (k : Nat) (g : QPair → QPair) : (s.modQp k g).dues = s.dues := rfl
@[simp] theorem State.modQp_sps (k : Nat) (g : QPair → QPair) : (s.modQp k g).sps = s.sps := rfl
@[simp] theorem State.modQp_streams (k : Nat) (g : QPair → QPair) : (s.modQp k g).streams = s.streams := rfl
@[simp] theorem State.modQp_bind (k : Nat) (g : QPair → QPair) : (s.modQp k g).bind = s.bind := rfl
@[simp] theorem State.modQp_sec (k : Nat) (g : QPair → QPair) : (s.modQp k g).sec = s.sec := rfl
@[simp] theorem State.modQp_xio (k : Nat) (g : QPair → QPair) : (s.modQp k g).xio = s.xio := rfl
@[simp] theorem State.modQp_uchans (k : Nat) (g : QPair → QPair) : (s.modQp k g).uchans = s.uchans := rfl
@[simp] theorem State.modQp_dram (k : Nat) (g : QPair → QPair) : (s.modQp k g).dram = s.dram := rfl
@[simp] theorem State.modQp_out (k : Nat) (g : QPair → QPair) : (s.modQp k g).out = s.out := rfl
@[simp] theorem State.modQp_free (k : Nat) (g : QPair → QPair) : (s.modQp k g).free = s.free := rfl
@[simp] theorem State.modQp_pending (k : Nat) (g : QPair → QPair) : (s.modQp k g).pending = s.pending := rfl

/-! ## modSlip: writes slips only -/
@[simp] theorem State.modSlip_regs (n : Nat) (g : Slip → Slip) : (s.modSlip n g).regs = s.regs := rfl
@[simp] theorem State.modSlip_ctrs (n : Nat) (g : Slip → Slip) : (s.modSlip n g).ctrs = s.ctrs := rfl
@[simp] theorem State.modSlip_shadow (n : Nat) (g : Slip → Slip) : (s.modSlip n g).shadow = s.shadow := rfl
@[simp] theorem State.modSlip_stageBuf (n : Nat) (g : Slip → Slip) : (s.modSlip n g).stageBuf = s.stageBuf := rfl
@[simp] theorem State.modSlip_latch (n : Nat) (g : Slip → Slip) : (s.modSlip n g).latch = s.latch := rfl
@[simp] theorem State.modSlip_tim (n : Nat) (g : Slip → Slip) : (s.modSlip n g).tim = s.tim := rfl
@[simp] theorem State.modSlip_fns (n : Nat) (g : Slip → Slip) : (s.modSlip n g).fns = s.fns := rfl
@[simp] theorem State.modSlip_qps (n : Nat) (g : Slip → Slip) : (s.modSlip n g).qps = s.qps := rfl
@[simp] theorem State.modSlip_vecs (n : Nat) (g : Slip → Slip) : (s.modSlip n g).vecs = s.vecs := rfl
@[simp] theorem State.modSlip_fetchPf (n : Nat) (g : Slip → Slip) : (s.modSlip n g).fetchPf = s.fetchPf := rfl
@[simp] theorem State.modSlip_fetchFn (n : Nat) (g : Slip → Slip) : (s.modSlip n g).fetchFn = s.fetchFn := rfl
@[simp] theorem State.modSlip_staged (n : Nat) (g : Slip → Slip) : (s.modSlip n g).staged = s.staged := rfl
@[simp] theorem State.modSlip_resetDue (n : Nat) (g : Slip → Slip) : (s.modSlip n g).resetDue = s.resetDue := rfl
@[simp] theorem State.modSlip_keys (n : Nat) (g : Slip → Slip) : (s.modSlip n g).keys = s.keys := rfl
@[simp] theorem State.modSlip_granules (n : Nat) (g : Slip → Slip) : (s.modSlip n g).granules = s.granules := rfl
@[simp] theorem State.modSlip_obs (n : Nat) (g : Slip → Slip) : (s.modSlip n g).obs = s.obs := rfl
@[simp] theorem State.modSlip_si (n : Nat) (g : Slip → Slip) : (s.modSlip n g).si = s.si := rfl
@[simp] theorem State.modSlip_hops (n : Nat) (g : Slip → Slip) : (s.modSlip n g).hops = s.hops := rfl
@[simp] theorem State.modSlip_sfms (n : Nat) (g : Slip → Slip) : (s.modSlip n g).sfms = s.sfms := rfl
@[simp] theorem State.modSlip_pwr (n : Nat) (g : Slip → Slip) : (s.modSlip n g).pwr = s.pwr := rfl
@[simp] theorem State.modSlip_quires (n : Nat) (g : Slip → Slip) : (s.modSlip n g).quires = s.quires := rfl
@[simp] theorem State.modSlip_arbs (n : Nat) (g : Slip → Slip) : (s.modSlip n g).arbs = s.arbs := rfl
@[simp] theorem State.modSlip_kxb (n : Nat) (g : Slip → Slip) : (s.modSlip n g).kxb = s.kxb := rfl
@[simp] theorem State.modSlip_ascu (n : Nat) (g : Slip → Slip) : (s.modSlip n g).ascu = s.ascu := rfl
@[simp] theorem State.modSlip_fu (n : Nat) (g : Slip → Slip) : (s.modSlip n g).fu = s.fu := rfl
@[simp] theorem State.modSlip_graphs (n : Nat) (g : Slip → Slip) : (s.modSlip n g).graphs = s.graphs := rfl
@[simp] theorem State.modSlip_contracts (n : Nat) (g : Slip → Slip) : (s.modSlip n g).contracts = s.contracts := rfl
@[simp] theorem State.modSlip_conAdmits (n : Nat) (g : Slip → Slip) : (s.modSlip n g).conAdmits = s.conAdmits := rfl
@[simp] theorem State.modSlip_nextGraph (n : Nat) (g : Slip → Slip) : (s.modSlip n g).nextGraph = s.nextGraph := rfl
@[simp] theorem State.modSlip_nextContract (n : Nat) (g : Slip → Slip) : (s.modSlip n g).nextContract = s.nextContract := rfl
@[simp] theorem State.modSlip_policy (n : Nat) (g : Slip → Slip) : (s.modSlip n g).policy = s.policy := rfl
@[simp] theorem State.modSlip_recs (n : Nat) (g : Slip → Slip) : (s.modSlip n g).recs = s.recs := rfl
@[simp] theorem State.modSlip_dues (n : Nat) (g : Slip → Slip) : (s.modSlip n g).dues = s.dues := rfl
@[simp] theorem State.modSlip_sps (n : Nat) (g : Slip → Slip) : (s.modSlip n g).sps = s.sps := rfl
@[simp] theorem State.modSlip_streams (n : Nat) (g : Slip → Slip) : (s.modSlip n g).streams = s.streams := rfl
@[simp] theorem State.modSlip_bind (n : Nat) (g : Slip → Slip) : (s.modSlip n g).bind = s.bind := rfl
@[simp] theorem State.modSlip_sec (n : Nat) (g : Slip → Slip) : (s.modSlip n g).sec = s.sec := rfl
@[simp] theorem State.modSlip_xio (n : Nat) (g : Slip → Slip) : (s.modSlip n g).xio = s.xio := rfl
@[simp] theorem State.modSlip_uchans (n : Nat) (g : Slip → Slip) : (s.modSlip n g).uchans = s.uchans := rfl
@[simp] theorem State.modSlip_dram (n : Nat) (g : Slip → Slip) : (s.modSlip n g).dram = s.dram := rfl
@[simp] theorem State.modSlip_out (n : Nat) (g : Slip → Slip) : (s.modSlip n g).out = s.out := rfl
@[simp] theorem State.modSlip_free (n : Nat) (g : Slip → Slip) : (s.modSlip n g).free = s.free := rfl
@[simp] theorem State.modSlip_pending (n : Nat) (g : Slip → Slip) : (s.modSlip n g).pending = s.pending := rfl

/-! ## modKey: writes keys only -/
@[simp] theorem State.modKey_regs (n : Nat) (g : KeySlot → KeySlot) : (s.modKey n g).regs = s.regs := rfl
@[simp] theorem State.modKey_ctrs (n : Nat) (g : KeySlot → KeySlot) : (s.modKey n g).ctrs = s.ctrs := rfl
@[simp] theorem State.modKey_shadow (n : Nat) (g : KeySlot → KeySlot) : (s.modKey n g).shadow = s.shadow := rfl
@[simp] theorem State.modKey_stageBuf (n : Nat) (g : KeySlot → KeySlot) : (s.modKey n g).stageBuf = s.stageBuf := rfl
@[simp] theorem State.modKey_latch (n : Nat) (g : KeySlot → KeySlot) : (s.modKey n g).latch = s.latch := rfl
@[simp] theorem State.modKey_tim (n : Nat) (g : KeySlot → KeySlot) : (s.modKey n g).tim = s.tim := rfl
@[simp] theorem State.modKey_fns (n : Nat) (g : KeySlot → KeySlot) : (s.modKey n g).fns = s.fns := rfl
@[simp] theorem State.modKey_qps (n : Nat) (g : KeySlot → KeySlot) : (s.modKey n g).qps = s.qps := rfl
@[simp] theorem State.modKey_vecs (n : Nat) (g : KeySlot → KeySlot) : (s.modKey n g).vecs = s.vecs := rfl
@[simp] theorem State.modKey_fetchPf (n : Nat) (g : KeySlot → KeySlot) : (s.modKey n g).fetchPf = s.fetchPf := rfl
@[simp] theorem State.modKey_fetchFn (n : Nat) (g : KeySlot → KeySlot) : (s.modKey n g).fetchFn = s.fetchFn := rfl
@[simp] theorem State.modKey_staged (n : Nat) (g : KeySlot → KeySlot) : (s.modKey n g).staged = s.staged := rfl
@[simp] theorem State.modKey_resetDue (n : Nat) (g : KeySlot → KeySlot) : (s.modKey n g).resetDue = s.resetDue := rfl
@[simp] theorem State.modKey_slips (n : Nat) (g : KeySlot → KeySlot) : (s.modKey n g).slips = s.slips := rfl
@[simp] theorem State.modKey_granules (n : Nat) (g : KeySlot → KeySlot) : (s.modKey n g).granules = s.granules := rfl
@[simp] theorem State.modKey_obs (n : Nat) (g : KeySlot → KeySlot) : (s.modKey n g).obs = s.obs := rfl
@[simp] theorem State.modKey_si (n : Nat) (g : KeySlot → KeySlot) : (s.modKey n g).si = s.si := rfl
@[simp] theorem State.modKey_hops (n : Nat) (g : KeySlot → KeySlot) : (s.modKey n g).hops = s.hops := rfl
@[simp] theorem State.modKey_sfms (n : Nat) (g : KeySlot → KeySlot) : (s.modKey n g).sfms = s.sfms := rfl
@[simp] theorem State.modKey_pwr (n : Nat) (g : KeySlot → KeySlot) : (s.modKey n g).pwr = s.pwr := rfl
@[simp] theorem State.modKey_quires (n : Nat) (g : KeySlot → KeySlot) : (s.modKey n g).quires = s.quires := rfl
@[simp] theorem State.modKey_arbs (n : Nat) (g : KeySlot → KeySlot) : (s.modKey n g).arbs = s.arbs := rfl
@[simp] theorem State.modKey_kxb (n : Nat) (g : KeySlot → KeySlot) : (s.modKey n g).kxb = s.kxb := rfl
@[simp] theorem State.modKey_ascu (n : Nat) (g : KeySlot → KeySlot) : (s.modKey n g).ascu = s.ascu := rfl
@[simp] theorem State.modKey_fu (n : Nat) (g : KeySlot → KeySlot) : (s.modKey n g).fu = s.fu := rfl
@[simp] theorem State.modKey_graphs (n : Nat) (g : KeySlot → KeySlot) : (s.modKey n g).graphs = s.graphs := rfl
@[simp] theorem State.modKey_contracts (n : Nat) (g : KeySlot → KeySlot) : (s.modKey n g).contracts = s.contracts := rfl
@[simp] theorem State.modKey_conAdmits (n : Nat) (g : KeySlot → KeySlot) : (s.modKey n g).conAdmits = s.conAdmits := rfl
@[simp] theorem State.modKey_nextGraph (n : Nat) (g : KeySlot → KeySlot) : (s.modKey n g).nextGraph = s.nextGraph := rfl
@[simp] theorem State.modKey_nextContract (n : Nat) (g : KeySlot → KeySlot) : (s.modKey n g).nextContract = s.nextContract := rfl
@[simp] theorem State.modKey_policy (n : Nat) (g : KeySlot → KeySlot) : (s.modKey n g).policy = s.policy := rfl
@[simp] theorem State.modKey_recs (n : Nat) (g : KeySlot → KeySlot) : (s.modKey n g).recs = s.recs := rfl
@[simp] theorem State.modKey_dues (n : Nat) (g : KeySlot → KeySlot) : (s.modKey n g).dues = s.dues := rfl
@[simp] theorem State.modKey_sps (n : Nat) (g : KeySlot → KeySlot) : (s.modKey n g).sps = s.sps := rfl
@[simp] theorem State.modKey_streams (n : Nat) (g : KeySlot → KeySlot) : (s.modKey n g).streams = s.streams := rfl
@[simp] theorem State.modKey_bind (n : Nat) (g : KeySlot → KeySlot) : (s.modKey n g).bind = s.bind := rfl
@[simp] theorem State.modKey_sec (n : Nat) (g : KeySlot → KeySlot) : (s.modKey n g).sec = s.sec := rfl
@[simp] theorem State.modKey_xio (n : Nat) (g : KeySlot → KeySlot) : (s.modKey n g).xio = s.xio := rfl
@[simp] theorem State.modKey_uchans (n : Nat) (g : KeySlot → KeySlot) : (s.modKey n g).uchans = s.uchans := rfl
@[simp] theorem State.modKey_dram (n : Nat) (g : KeySlot → KeySlot) : (s.modKey n g).dram = s.dram := rfl
@[simp] theorem State.modKey_out (n : Nat) (g : KeySlot → KeySlot) : (s.modKey n g).out = s.out := rfl
@[simp] theorem State.modKey_free (n : Nat) (g : KeySlot → KeySlot) : (s.modKey n g).free = s.free := rfl
@[simp] theorem State.modKey_pending (n : Nat) (g : KeySlot → KeySlot) : (s.modKey n g).pending = s.pending := rfl

/-! ## setGran: writes granules only -/
@[simp] theorem State.setGran_regs (n : Nat) (g : Granule) : (s.setGran n g).regs = s.regs := rfl
@[simp] theorem State.setGran_ctrs (n : Nat) (g : Granule) : (s.setGran n g).ctrs = s.ctrs := rfl
@[simp] theorem State.setGran_shadow (n : Nat) (g : Granule) : (s.setGran n g).shadow = s.shadow := rfl
@[simp] theorem State.setGran_stageBuf (n : Nat) (g : Granule) : (s.setGran n g).stageBuf = s.stageBuf := rfl
@[simp] theorem State.setGran_latch (n : Nat) (g : Granule) : (s.setGran n g).latch = s.latch := rfl
@[simp] theorem State.setGran_tim (n : Nat) (g : Granule) : (s.setGran n g).tim = s.tim := rfl
@[simp] theorem State.setGran_fns (n : Nat) (g : Granule) : (s.setGran n g).fns = s.fns := rfl
@[simp] theorem State.setGran_qps (n : Nat) (g : Granule) : (s.setGran n g).qps = s.qps := rfl
@[simp] theorem State.setGran_vecs (n : Nat) (g : Granule) : (s.setGran n g).vecs = s.vecs := rfl
@[simp] theorem State.setGran_fetchPf (n : Nat) (g : Granule) : (s.setGran n g).fetchPf = s.fetchPf := rfl
@[simp] theorem State.setGran_fetchFn (n : Nat) (g : Granule) : (s.setGran n g).fetchFn = s.fetchFn := rfl
@[simp] theorem State.setGran_staged (n : Nat) (g : Granule) : (s.setGran n g).staged = s.staged := rfl
@[simp] theorem State.setGran_resetDue (n : Nat) (g : Granule) : (s.setGran n g).resetDue = s.resetDue := rfl
@[simp] theorem State.setGran_slips (n : Nat) (g : Granule) : (s.setGran n g).slips = s.slips := rfl
@[simp] theorem State.setGran_keys (n : Nat) (g : Granule) : (s.setGran n g).keys = s.keys := rfl
@[simp] theorem State.setGran_obs (n : Nat) (g : Granule) : (s.setGran n g).obs = s.obs := rfl
@[simp] theorem State.setGran_si (n : Nat) (g : Granule) : (s.setGran n g).si = s.si := rfl
@[simp] theorem State.setGran_hops (n : Nat) (g : Granule) : (s.setGran n g).hops = s.hops := rfl
@[simp] theorem State.setGran_sfms (n : Nat) (g : Granule) : (s.setGran n g).sfms = s.sfms := rfl
@[simp] theorem State.setGran_pwr (n : Nat) (g : Granule) : (s.setGran n g).pwr = s.pwr := rfl
@[simp] theorem State.setGran_quires (n : Nat) (g : Granule) : (s.setGran n g).quires = s.quires := rfl
@[simp] theorem State.setGran_arbs (n : Nat) (g : Granule) : (s.setGran n g).arbs = s.arbs := rfl
@[simp] theorem State.setGran_kxb (n : Nat) (g : Granule) : (s.setGran n g).kxb = s.kxb := rfl
@[simp] theorem State.setGran_ascu (n : Nat) (g : Granule) : (s.setGran n g).ascu = s.ascu := rfl
@[simp] theorem State.setGran_fu (n : Nat) (g : Granule) : (s.setGran n g).fu = s.fu := rfl
@[simp] theorem State.setGran_graphs (n : Nat) (g : Granule) : (s.setGran n g).graphs = s.graphs := rfl
@[simp] theorem State.setGran_contracts (n : Nat) (g : Granule) : (s.setGran n g).contracts = s.contracts := rfl
@[simp] theorem State.setGran_conAdmits (n : Nat) (g : Granule) : (s.setGran n g).conAdmits = s.conAdmits := rfl
@[simp] theorem State.setGran_nextGraph (n : Nat) (g : Granule) : (s.setGran n g).nextGraph = s.nextGraph := rfl
@[simp] theorem State.setGran_nextContract (n : Nat) (g : Granule) : (s.setGran n g).nextContract = s.nextContract := rfl
@[simp] theorem State.setGran_policy (n : Nat) (g : Granule) : (s.setGran n g).policy = s.policy := rfl
@[simp] theorem State.setGran_recs (n : Nat) (g : Granule) : (s.setGran n g).recs = s.recs := rfl
@[simp] theorem State.setGran_dues (n : Nat) (g : Granule) : (s.setGran n g).dues = s.dues := rfl
@[simp] theorem State.setGran_sps (n : Nat) (g : Granule) : (s.setGran n g).sps = s.sps := rfl
@[simp] theorem State.setGran_streams (n : Nat) (g : Granule) : (s.setGran n g).streams = s.streams := rfl
@[simp] theorem State.setGran_bind (n : Nat) (g : Granule) : (s.setGran n g).bind = s.bind := rfl
@[simp] theorem State.setGran_sec (n : Nat) (g : Granule) : (s.setGran n g).sec = s.sec := rfl
@[simp] theorem State.setGran_xio (n : Nat) (g : Granule) : (s.setGran n g).xio = s.xio := rfl
@[simp] theorem State.setGran_uchans (n : Nat) (g : Granule) : (s.setGran n g).uchans = s.uchans := rfl
@[simp] theorem State.setGran_dram (n : Nat) (g : Granule) : (s.setGran n g).dram = s.dram := rfl
@[simp] theorem State.setGran_out (n : Nat) (g : Granule) : (s.setGran n g).out = s.out := rfl
@[simp] theorem State.setGran_free (n : Nat) (g : Granule) : (s.setGran n g).free = s.free := rfl
@[simp] theorem State.setGran_pending (n : Nat) (g : Granule) : (s.setGran n g).pending = s.pending := rfl

/-! ## modVec: writes vecs only -/
@[simp] theorem State.modVec_regs (k : Nat) (g : Vec → Vec) : (s.modVec k g).regs = s.regs := rfl
@[simp] theorem State.modVec_ctrs (k : Nat) (g : Vec → Vec) : (s.modVec k g).ctrs = s.ctrs := rfl
@[simp] theorem State.modVec_shadow (k : Nat) (g : Vec → Vec) : (s.modVec k g).shadow = s.shadow := rfl
@[simp] theorem State.modVec_stageBuf (k : Nat) (g : Vec → Vec) : (s.modVec k g).stageBuf = s.stageBuf := rfl
@[simp] theorem State.modVec_latch (k : Nat) (g : Vec → Vec) : (s.modVec k g).latch = s.latch := rfl
@[simp] theorem State.modVec_tim (k : Nat) (g : Vec → Vec) : (s.modVec k g).tim = s.tim := rfl
@[simp] theorem State.modVec_fns (k : Nat) (g : Vec → Vec) : (s.modVec k g).fns = s.fns := rfl
@[simp] theorem State.modVec_qps (k : Nat) (g : Vec → Vec) : (s.modVec k g).qps = s.qps := rfl
@[simp] theorem State.modVec_fetchPf (k : Nat) (g : Vec → Vec) : (s.modVec k g).fetchPf = s.fetchPf := rfl
@[simp] theorem State.modVec_fetchFn (k : Nat) (g : Vec → Vec) : (s.modVec k g).fetchFn = s.fetchFn := rfl
@[simp] theorem State.modVec_staged (k : Nat) (g : Vec → Vec) : (s.modVec k g).staged = s.staged := rfl
@[simp] theorem State.modVec_resetDue (k : Nat) (g : Vec → Vec) : (s.modVec k g).resetDue = s.resetDue := rfl
@[simp] theorem State.modVec_slips (k : Nat) (g : Vec → Vec) : (s.modVec k g).slips = s.slips := rfl
@[simp] theorem State.modVec_keys (k : Nat) (g : Vec → Vec) : (s.modVec k g).keys = s.keys := rfl
@[simp] theorem State.modVec_granules (k : Nat) (g : Vec → Vec) : (s.modVec k g).granules = s.granules := rfl
@[simp] theorem State.modVec_obs (k : Nat) (g : Vec → Vec) : (s.modVec k g).obs = s.obs := rfl
@[simp] theorem State.modVec_si (k : Nat) (g : Vec → Vec) : (s.modVec k g).si = s.si := rfl
@[simp] theorem State.modVec_hops (k : Nat) (g : Vec → Vec) : (s.modVec k g).hops = s.hops := rfl
@[simp] theorem State.modVec_sfms (k : Nat) (g : Vec → Vec) : (s.modVec k g).sfms = s.sfms := rfl
@[simp] theorem State.modVec_pwr (k : Nat) (g : Vec → Vec) : (s.modVec k g).pwr = s.pwr := rfl
@[simp] theorem State.modVec_quires (k : Nat) (g : Vec → Vec) : (s.modVec k g).quires = s.quires := rfl
@[simp] theorem State.modVec_arbs (k : Nat) (g : Vec → Vec) : (s.modVec k g).arbs = s.arbs := rfl
@[simp] theorem State.modVec_kxb (k : Nat) (g : Vec → Vec) : (s.modVec k g).kxb = s.kxb := rfl
@[simp] theorem State.modVec_ascu (k : Nat) (g : Vec → Vec) : (s.modVec k g).ascu = s.ascu := rfl
@[simp] theorem State.modVec_fu (k : Nat) (g : Vec → Vec) : (s.modVec k g).fu = s.fu := rfl
@[simp] theorem State.modVec_graphs (k : Nat) (g : Vec → Vec) : (s.modVec k g).graphs = s.graphs := rfl
@[simp] theorem State.modVec_contracts (k : Nat) (g : Vec → Vec) : (s.modVec k g).contracts = s.contracts := rfl
@[simp] theorem State.modVec_conAdmits (k : Nat) (g : Vec → Vec) : (s.modVec k g).conAdmits = s.conAdmits := rfl
@[simp] theorem State.modVec_nextGraph (k : Nat) (g : Vec → Vec) : (s.modVec k g).nextGraph = s.nextGraph := rfl
@[simp] theorem State.modVec_nextContract (k : Nat) (g : Vec → Vec) : (s.modVec k g).nextContract = s.nextContract := rfl
@[simp] theorem State.modVec_policy (k : Nat) (g : Vec → Vec) : (s.modVec k g).policy = s.policy := rfl
@[simp] theorem State.modVec_recs (k : Nat) (g : Vec → Vec) : (s.modVec k g).recs = s.recs := rfl
@[simp] theorem State.modVec_dues (k : Nat) (g : Vec → Vec) : (s.modVec k g).dues = s.dues := rfl
@[simp] theorem State.modVec_sps (k : Nat) (g : Vec → Vec) : (s.modVec k g).sps = s.sps := rfl
@[simp] theorem State.modVec_streams (k : Nat) (g : Vec → Vec) : (s.modVec k g).streams = s.streams := rfl
@[simp] theorem State.modVec_bind (k : Nat) (g : Vec → Vec) : (s.modVec k g).bind = s.bind := rfl
@[simp] theorem State.modVec_sec (k : Nat) (g : Vec → Vec) : (s.modVec k g).sec = s.sec := rfl
@[simp] theorem State.modVec_xio (k : Nat) (g : Vec → Vec) : (s.modVec k g).xio = s.xio := rfl
@[simp] theorem State.modVec_uchans (k : Nat) (g : Vec → Vec) : (s.modVec k g).uchans = s.uchans := rfl
@[simp] theorem State.modVec_dram (k : Nat) (g : Vec → Vec) : (s.modVec k g).dram = s.dram := rfl
@[simp] theorem State.modVec_out (k : Nat) (g : Vec → Vec) : (s.modVec k g).out = s.out := rfl
@[simp] theorem State.modVec_free (k : Nat) (g : Vec → Vec) : (s.modVec k g).free = s.free := rfl
@[simp] theorem State.modVec_pending (k : Nat) (g : Vec → Vec) : (s.modVec k g).pending = s.pending := rfl

/-! ## modHop: writes hops only -/
@[simp] theorem State.modHop_regs (n : Nat) (g : Hopper → Hopper) : (s.modHop n g).regs = s.regs := rfl
@[simp] theorem State.modHop_ctrs (n : Nat) (g : Hopper → Hopper) : (s.modHop n g).ctrs = s.ctrs := rfl
@[simp] theorem State.modHop_shadow (n : Nat) (g : Hopper → Hopper) : (s.modHop n g).shadow = s.shadow := rfl
@[simp] theorem State.modHop_stageBuf (n : Nat) (g : Hopper → Hopper) : (s.modHop n g).stageBuf = s.stageBuf := rfl
@[simp] theorem State.modHop_latch (n : Nat) (g : Hopper → Hopper) : (s.modHop n g).latch = s.latch := rfl
@[simp] theorem State.modHop_tim (n : Nat) (g : Hopper → Hopper) : (s.modHop n g).tim = s.tim := rfl
@[simp] theorem State.modHop_fns (n : Nat) (g : Hopper → Hopper) : (s.modHop n g).fns = s.fns := rfl
@[simp] theorem State.modHop_qps (n : Nat) (g : Hopper → Hopper) : (s.modHop n g).qps = s.qps := rfl
@[simp] theorem State.modHop_vecs (n : Nat) (g : Hopper → Hopper) : (s.modHop n g).vecs = s.vecs := rfl
@[simp] theorem State.modHop_fetchPf (n : Nat) (g : Hopper → Hopper) : (s.modHop n g).fetchPf = s.fetchPf := rfl
@[simp] theorem State.modHop_fetchFn (n : Nat) (g : Hopper → Hopper) : (s.modHop n g).fetchFn = s.fetchFn := rfl
@[simp] theorem State.modHop_staged (n : Nat) (g : Hopper → Hopper) : (s.modHop n g).staged = s.staged := rfl
@[simp] theorem State.modHop_resetDue (n : Nat) (g : Hopper → Hopper) : (s.modHop n g).resetDue = s.resetDue := rfl
@[simp] theorem State.modHop_slips (n : Nat) (g : Hopper → Hopper) : (s.modHop n g).slips = s.slips := rfl
@[simp] theorem State.modHop_keys (n : Nat) (g : Hopper → Hopper) : (s.modHop n g).keys = s.keys := rfl
@[simp] theorem State.modHop_granules (n : Nat) (g : Hopper → Hopper) : (s.modHop n g).granules = s.granules := rfl
@[simp] theorem State.modHop_obs (n : Nat) (g : Hopper → Hopper) : (s.modHop n g).obs = s.obs := rfl
@[simp] theorem State.modHop_si (n : Nat) (g : Hopper → Hopper) : (s.modHop n g).si = s.si := rfl
@[simp] theorem State.modHop_sfms (n : Nat) (g : Hopper → Hopper) : (s.modHop n g).sfms = s.sfms := rfl
@[simp] theorem State.modHop_pwr (n : Nat) (g : Hopper → Hopper) : (s.modHop n g).pwr = s.pwr := rfl
@[simp] theorem State.modHop_quires (n : Nat) (g : Hopper → Hopper) : (s.modHop n g).quires = s.quires := rfl
@[simp] theorem State.modHop_arbs (n : Nat) (g : Hopper → Hopper) : (s.modHop n g).arbs = s.arbs := rfl
@[simp] theorem State.modHop_kxb (n : Nat) (g : Hopper → Hopper) : (s.modHop n g).kxb = s.kxb := rfl
@[simp] theorem State.modHop_ascu (n : Nat) (g : Hopper → Hopper) : (s.modHop n g).ascu = s.ascu := rfl
@[simp] theorem State.modHop_fu (n : Nat) (g : Hopper → Hopper) : (s.modHop n g).fu = s.fu := rfl
@[simp] theorem State.modHop_graphs (n : Nat) (g : Hopper → Hopper) : (s.modHop n g).graphs = s.graphs := rfl
@[simp] theorem State.modHop_contracts (n : Nat) (g : Hopper → Hopper) : (s.modHop n g).contracts = s.contracts := rfl
@[simp] theorem State.modHop_conAdmits (n : Nat) (g : Hopper → Hopper) : (s.modHop n g).conAdmits = s.conAdmits := rfl
@[simp] theorem State.modHop_nextGraph (n : Nat) (g : Hopper → Hopper) : (s.modHop n g).nextGraph = s.nextGraph := rfl
@[simp] theorem State.modHop_nextContract (n : Nat) (g : Hopper → Hopper) : (s.modHop n g).nextContract = s.nextContract := rfl
@[simp] theorem State.modHop_policy (n : Nat) (g : Hopper → Hopper) : (s.modHop n g).policy = s.policy := rfl
@[simp] theorem State.modHop_recs (n : Nat) (g : Hopper → Hopper) : (s.modHop n g).recs = s.recs := rfl
@[simp] theorem State.modHop_dues (n : Nat) (g : Hopper → Hopper) : (s.modHop n g).dues = s.dues := rfl
@[simp] theorem State.modHop_sps (n : Nat) (g : Hopper → Hopper) : (s.modHop n g).sps = s.sps := rfl
@[simp] theorem State.modHop_streams (n : Nat) (g : Hopper → Hopper) : (s.modHop n g).streams = s.streams := rfl
@[simp] theorem State.modHop_bind (n : Nat) (g : Hopper → Hopper) : (s.modHop n g).bind = s.bind := rfl
@[simp] theorem State.modHop_sec (n : Nat) (g : Hopper → Hopper) : (s.modHop n g).sec = s.sec := rfl
@[simp] theorem State.modHop_xio (n : Nat) (g : Hopper → Hopper) : (s.modHop n g).xio = s.xio := rfl
@[simp] theorem State.modHop_uchans (n : Nat) (g : Hopper → Hopper) : (s.modHop n g).uchans = s.uchans := rfl
@[simp] theorem State.modHop_dram (n : Nat) (g : Hopper → Hopper) : (s.modHop n g).dram = s.dram := rfl
@[simp] theorem State.modHop_out (n : Nat) (g : Hopper → Hopper) : (s.modHop n g).out = s.out := rfl
@[simp] theorem State.modHop_free (n : Nat) (g : Hopper → Hopper) : (s.modHop n g).free = s.free := rfl
@[simp] theorem State.modHop_pending (n : Nat) (g : Hopper → Hopper) : (s.modHop n g).pending = s.pending := rfl

/-! ## modSfm: writes sfms only -/
@[simp] theorem State.modSfm_regs (n : Nat) (g : Sfm → Sfm) : (s.modSfm n g).regs = s.regs := rfl
@[simp] theorem State.modSfm_ctrs (n : Nat) (g : Sfm → Sfm) : (s.modSfm n g).ctrs = s.ctrs := rfl
@[simp] theorem State.modSfm_shadow (n : Nat) (g : Sfm → Sfm) : (s.modSfm n g).shadow = s.shadow := rfl
@[simp] theorem State.modSfm_stageBuf (n : Nat) (g : Sfm → Sfm) : (s.modSfm n g).stageBuf = s.stageBuf := rfl
@[simp] theorem State.modSfm_latch (n : Nat) (g : Sfm → Sfm) : (s.modSfm n g).latch = s.latch := rfl
@[simp] theorem State.modSfm_tim (n : Nat) (g : Sfm → Sfm) : (s.modSfm n g).tim = s.tim := rfl
@[simp] theorem State.modSfm_fns (n : Nat) (g : Sfm → Sfm) : (s.modSfm n g).fns = s.fns := rfl
@[simp] theorem State.modSfm_qps (n : Nat) (g : Sfm → Sfm) : (s.modSfm n g).qps = s.qps := rfl
@[simp] theorem State.modSfm_vecs (n : Nat) (g : Sfm → Sfm) : (s.modSfm n g).vecs = s.vecs := rfl
@[simp] theorem State.modSfm_fetchPf (n : Nat) (g : Sfm → Sfm) : (s.modSfm n g).fetchPf = s.fetchPf := rfl
@[simp] theorem State.modSfm_fetchFn (n : Nat) (g : Sfm → Sfm) : (s.modSfm n g).fetchFn = s.fetchFn := rfl
@[simp] theorem State.modSfm_staged (n : Nat) (g : Sfm → Sfm) : (s.modSfm n g).staged = s.staged := rfl
@[simp] theorem State.modSfm_resetDue (n : Nat) (g : Sfm → Sfm) : (s.modSfm n g).resetDue = s.resetDue := rfl
@[simp] theorem State.modSfm_slips (n : Nat) (g : Sfm → Sfm) : (s.modSfm n g).slips = s.slips := rfl
@[simp] theorem State.modSfm_keys (n : Nat) (g : Sfm → Sfm) : (s.modSfm n g).keys = s.keys := rfl
@[simp] theorem State.modSfm_granules (n : Nat) (g : Sfm → Sfm) : (s.modSfm n g).granules = s.granules := rfl
@[simp] theorem State.modSfm_obs (n : Nat) (g : Sfm → Sfm) : (s.modSfm n g).obs = s.obs := rfl
@[simp] theorem State.modSfm_si (n : Nat) (g : Sfm → Sfm) : (s.modSfm n g).si = s.si := rfl
@[simp] theorem State.modSfm_hops (n : Nat) (g : Sfm → Sfm) : (s.modSfm n g).hops = s.hops := rfl
@[simp] theorem State.modSfm_pwr (n : Nat) (g : Sfm → Sfm) : (s.modSfm n g).pwr = s.pwr := rfl
@[simp] theorem State.modSfm_quires (n : Nat) (g : Sfm → Sfm) : (s.modSfm n g).quires = s.quires := rfl
@[simp] theorem State.modSfm_arbs (n : Nat) (g : Sfm → Sfm) : (s.modSfm n g).arbs = s.arbs := rfl
@[simp] theorem State.modSfm_kxb (n : Nat) (g : Sfm → Sfm) : (s.modSfm n g).kxb = s.kxb := rfl
@[simp] theorem State.modSfm_ascu (n : Nat) (g : Sfm → Sfm) : (s.modSfm n g).ascu = s.ascu := rfl
@[simp] theorem State.modSfm_fu (n : Nat) (g : Sfm → Sfm) : (s.modSfm n g).fu = s.fu := rfl
@[simp] theorem State.modSfm_graphs (n : Nat) (g : Sfm → Sfm) : (s.modSfm n g).graphs = s.graphs := rfl
@[simp] theorem State.modSfm_contracts (n : Nat) (g : Sfm → Sfm) : (s.modSfm n g).contracts = s.contracts := rfl
@[simp] theorem State.modSfm_conAdmits (n : Nat) (g : Sfm → Sfm) : (s.modSfm n g).conAdmits = s.conAdmits := rfl
@[simp] theorem State.modSfm_nextGraph (n : Nat) (g : Sfm → Sfm) : (s.modSfm n g).nextGraph = s.nextGraph := rfl
@[simp] theorem State.modSfm_nextContract (n : Nat) (g : Sfm → Sfm) : (s.modSfm n g).nextContract = s.nextContract := rfl
@[simp] theorem State.modSfm_policy (n : Nat) (g : Sfm → Sfm) : (s.modSfm n g).policy = s.policy := rfl
@[simp] theorem State.modSfm_recs (n : Nat) (g : Sfm → Sfm) : (s.modSfm n g).recs = s.recs := rfl
@[simp] theorem State.modSfm_dues (n : Nat) (g : Sfm → Sfm) : (s.modSfm n g).dues = s.dues := rfl
@[simp] theorem State.modSfm_sps (n : Nat) (g : Sfm → Sfm) : (s.modSfm n g).sps = s.sps := rfl
@[simp] theorem State.modSfm_streams (n : Nat) (g : Sfm → Sfm) : (s.modSfm n g).streams = s.streams := rfl
@[simp] theorem State.modSfm_bind (n : Nat) (g : Sfm → Sfm) : (s.modSfm n g).bind = s.bind := rfl
@[simp] theorem State.modSfm_sec (n : Nat) (g : Sfm → Sfm) : (s.modSfm n g).sec = s.sec := rfl
@[simp] theorem State.modSfm_xio (n : Nat) (g : Sfm → Sfm) : (s.modSfm n g).xio = s.xio := rfl
@[simp] theorem State.modSfm_uchans (n : Nat) (g : Sfm → Sfm) : (s.modSfm n g).uchans = s.uchans := rfl
@[simp] theorem State.modSfm_dram (n : Nat) (g : Sfm → Sfm) : (s.modSfm n g).dram = s.dram := rfl
@[simp] theorem State.modSfm_out (n : Nat) (g : Sfm → Sfm) : (s.modSfm n g).out = s.out := rfl
@[simp] theorem State.modSfm_free (n : Nat) (g : Sfm → Sfm) : (s.modSfm n g).free = s.free := rfl
@[simp] theorem State.modSfm_pending (n : Nat) (g : Sfm → Sfm) : (s.modSfm n g).pending = s.pending := rfl

/-! ## modQuire: writes quires only -/
@[simp] theorem State.modQuire_regs (q : Nat) (g : Quire → Quire) : (s.modQuire q g).regs = s.regs := rfl
@[simp] theorem State.modQuire_ctrs (q : Nat) (g : Quire → Quire) : (s.modQuire q g).ctrs = s.ctrs := rfl
@[simp] theorem State.modQuire_shadow (q : Nat) (g : Quire → Quire) : (s.modQuire q g).shadow = s.shadow := rfl
@[simp] theorem State.modQuire_stageBuf (q : Nat) (g : Quire → Quire) : (s.modQuire q g).stageBuf = s.stageBuf := rfl
@[simp] theorem State.modQuire_latch (q : Nat) (g : Quire → Quire) : (s.modQuire q g).latch = s.latch := rfl
@[simp] theorem State.modQuire_tim (q : Nat) (g : Quire → Quire) : (s.modQuire q g).tim = s.tim := rfl
@[simp] theorem State.modQuire_fns (q : Nat) (g : Quire → Quire) : (s.modQuire q g).fns = s.fns := rfl
@[simp] theorem State.modQuire_qps (q : Nat) (g : Quire → Quire) : (s.modQuire q g).qps = s.qps := rfl
@[simp] theorem State.modQuire_vecs (q : Nat) (g : Quire → Quire) : (s.modQuire q g).vecs = s.vecs := rfl
@[simp] theorem State.modQuire_fetchPf (q : Nat) (g : Quire → Quire) : (s.modQuire q g).fetchPf = s.fetchPf := rfl
@[simp] theorem State.modQuire_fetchFn (q : Nat) (g : Quire → Quire) : (s.modQuire q g).fetchFn = s.fetchFn := rfl
@[simp] theorem State.modQuire_staged (q : Nat) (g : Quire → Quire) : (s.modQuire q g).staged = s.staged := rfl
@[simp] theorem State.modQuire_resetDue (q : Nat) (g : Quire → Quire) : (s.modQuire q g).resetDue = s.resetDue := rfl
@[simp] theorem State.modQuire_slips (q : Nat) (g : Quire → Quire) : (s.modQuire q g).slips = s.slips := rfl
@[simp] theorem State.modQuire_keys (q : Nat) (g : Quire → Quire) : (s.modQuire q g).keys = s.keys := rfl
@[simp] theorem State.modQuire_granules (q : Nat) (g : Quire → Quire) : (s.modQuire q g).granules = s.granules := rfl
@[simp] theorem State.modQuire_obs (q : Nat) (g : Quire → Quire) : (s.modQuire q g).obs = s.obs := rfl
@[simp] theorem State.modQuire_si (q : Nat) (g : Quire → Quire) : (s.modQuire q g).si = s.si := rfl
@[simp] theorem State.modQuire_hops (q : Nat) (g : Quire → Quire) : (s.modQuire q g).hops = s.hops := rfl
@[simp] theorem State.modQuire_sfms (q : Nat) (g : Quire → Quire) : (s.modQuire q g).sfms = s.sfms := rfl
@[simp] theorem State.modQuire_pwr (q : Nat) (g : Quire → Quire) : (s.modQuire q g).pwr = s.pwr := rfl
@[simp] theorem State.modQuire_arbs (q : Nat) (g : Quire → Quire) : (s.modQuire q g).arbs = s.arbs := rfl
@[simp] theorem State.modQuire_kxb (q : Nat) (g : Quire → Quire) : (s.modQuire q g).kxb = s.kxb := rfl
@[simp] theorem State.modQuire_ascu (q : Nat) (g : Quire → Quire) : (s.modQuire q g).ascu = s.ascu := rfl
@[simp] theorem State.modQuire_fu (q : Nat) (g : Quire → Quire) : (s.modQuire q g).fu = s.fu := rfl
@[simp] theorem State.modQuire_graphs (q : Nat) (g : Quire → Quire) : (s.modQuire q g).graphs = s.graphs := rfl
@[simp] theorem State.modQuire_contracts (q : Nat) (g : Quire → Quire) : (s.modQuire q g).contracts = s.contracts := rfl
@[simp] theorem State.modQuire_conAdmits (q : Nat) (g : Quire → Quire) : (s.modQuire q g).conAdmits = s.conAdmits := rfl
@[simp] theorem State.modQuire_nextGraph (q : Nat) (g : Quire → Quire) : (s.modQuire q g).nextGraph = s.nextGraph := rfl
@[simp] theorem State.modQuire_nextContract (q : Nat) (g : Quire → Quire) : (s.modQuire q g).nextContract = s.nextContract := rfl
@[simp] theorem State.modQuire_policy (q : Nat) (g : Quire → Quire) : (s.modQuire q g).policy = s.policy := rfl
@[simp] theorem State.modQuire_recs (q : Nat) (g : Quire → Quire) : (s.modQuire q g).recs = s.recs := rfl
@[simp] theorem State.modQuire_dues (q : Nat) (g : Quire → Quire) : (s.modQuire q g).dues = s.dues := rfl
@[simp] theorem State.modQuire_sps (q : Nat) (g : Quire → Quire) : (s.modQuire q g).sps = s.sps := rfl
@[simp] theorem State.modQuire_streams (q : Nat) (g : Quire → Quire) : (s.modQuire q g).streams = s.streams := rfl
@[simp] theorem State.modQuire_bind (q : Nat) (g : Quire → Quire) : (s.modQuire q g).bind = s.bind := rfl
@[simp] theorem State.modQuire_sec (q : Nat) (g : Quire → Quire) : (s.modQuire q g).sec = s.sec := rfl
@[simp] theorem State.modQuire_xio (q : Nat) (g : Quire → Quire) : (s.modQuire q g).xio = s.xio := rfl
@[simp] theorem State.modQuire_uchans (q : Nat) (g : Quire → Quire) : (s.modQuire q g).uchans = s.uchans := rfl
@[simp] theorem State.modQuire_dram (q : Nat) (g : Quire → Quire) : (s.modQuire q g).dram = s.dram := rfl
@[simp] theorem State.modQuire_out (q : Nat) (g : Quire → Quire) : (s.modQuire q g).out = s.out := rfl
@[simp] theorem State.modQuire_free (q : Nat) (g : Quire → Quire) : (s.modQuire q g).free = s.free := rfl
@[simp] theorem State.modQuire_pending (q : Nat) (g : Quire → Quire) : (s.modQuire q g).pending = s.pending := rfl

/-! ## modKxb: writes kxb only -/
@[simp] theorem State.modKxb_regs (g : Kxb → Kxb) : (s.modKxb g).regs = s.regs := rfl
@[simp] theorem State.modKxb_ctrs (g : Kxb → Kxb) : (s.modKxb g).ctrs = s.ctrs := rfl
@[simp] theorem State.modKxb_shadow (g : Kxb → Kxb) : (s.modKxb g).shadow = s.shadow := rfl
@[simp] theorem State.modKxb_stageBuf (g : Kxb → Kxb) : (s.modKxb g).stageBuf = s.stageBuf := rfl
@[simp] theorem State.modKxb_latch (g : Kxb → Kxb) : (s.modKxb g).latch = s.latch := rfl
@[simp] theorem State.modKxb_tim (g : Kxb → Kxb) : (s.modKxb g).tim = s.tim := rfl
@[simp] theorem State.modKxb_fns (g : Kxb → Kxb) : (s.modKxb g).fns = s.fns := rfl
@[simp] theorem State.modKxb_qps (g : Kxb → Kxb) : (s.modKxb g).qps = s.qps := rfl
@[simp] theorem State.modKxb_vecs (g : Kxb → Kxb) : (s.modKxb g).vecs = s.vecs := rfl
@[simp] theorem State.modKxb_fetchPf (g : Kxb → Kxb) : (s.modKxb g).fetchPf = s.fetchPf := rfl
@[simp] theorem State.modKxb_fetchFn (g : Kxb → Kxb) : (s.modKxb g).fetchFn = s.fetchFn := rfl
@[simp] theorem State.modKxb_staged (g : Kxb → Kxb) : (s.modKxb g).staged = s.staged := rfl
@[simp] theorem State.modKxb_resetDue (g : Kxb → Kxb) : (s.modKxb g).resetDue = s.resetDue := rfl
@[simp] theorem State.modKxb_slips (g : Kxb → Kxb) : (s.modKxb g).slips = s.slips := rfl
@[simp] theorem State.modKxb_keys (g : Kxb → Kxb) : (s.modKxb g).keys = s.keys := rfl
@[simp] theorem State.modKxb_granules (g : Kxb → Kxb) : (s.modKxb g).granules = s.granules := rfl
@[simp] theorem State.modKxb_obs (g : Kxb → Kxb) : (s.modKxb g).obs = s.obs := rfl
@[simp] theorem State.modKxb_si (g : Kxb → Kxb) : (s.modKxb g).si = s.si := rfl
@[simp] theorem State.modKxb_hops (g : Kxb → Kxb) : (s.modKxb g).hops = s.hops := rfl
@[simp] theorem State.modKxb_sfms (g : Kxb → Kxb) : (s.modKxb g).sfms = s.sfms := rfl
@[simp] theorem State.modKxb_pwr (g : Kxb → Kxb) : (s.modKxb g).pwr = s.pwr := rfl
@[simp] theorem State.modKxb_quires (g : Kxb → Kxb) : (s.modKxb g).quires = s.quires := rfl
@[simp] theorem State.modKxb_arbs (g : Kxb → Kxb) : (s.modKxb g).arbs = s.arbs := rfl
@[simp] theorem State.modKxb_ascu (g : Kxb → Kxb) : (s.modKxb g).ascu = s.ascu := rfl
@[simp] theorem State.modKxb_fu (g : Kxb → Kxb) : (s.modKxb g).fu = s.fu := rfl
@[simp] theorem State.modKxb_graphs (g : Kxb → Kxb) : (s.modKxb g).graphs = s.graphs := rfl
@[simp] theorem State.modKxb_contracts (g : Kxb → Kxb) : (s.modKxb g).contracts = s.contracts := rfl
@[simp] theorem State.modKxb_conAdmits (g : Kxb → Kxb) : (s.modKxb g).conAdmits = s.conAdmits := rfl
@[simp] theorem State.modKxb_nextGraph (g : Kxb → Kxb) : (s.modKxb g).nextGraph = s.nextGraph := rfl
@[simp] theorem State.modKxb_nextContract (g : Kxb → Kxb) : (s.modKxb g).nextContract = s.nextContract := rfl
@[simp] theorem State.modKxb_policy (g : Kxb → Kxb) : (s.modKxb g).policy = s.policy := rfl
@[simp] theorem State.modKxb_recs (g : Kxb → Kxb) : (s.modKxb g).recs = s.recs := rfl
@[simp] theorem State.modKxb_dues (g : Kxb → Kxb) : (s.modKxb g).dues = s.dues := rfl
@[simp] theorem State.modKxb_sps (g : Kxb → Kxb) : (s.modKxb g).sps = s.sps := rfl
@[simp] theorem State.modKxb_streams (g : Kxb → Kxb) : (s.modKxb g).streams = s.streams := rfl
@[simp] theorem State.modKxb_bind (g : Kxb → Kxb) : (s.modKxb g).bind = s.bind := rfl
@[simp] theorem State.modKxb_sec (g : Kxb → Kxb) : (s.modKxb g).sec = s.sec := rfl
@[simp] theorem State.modKxb_xio (g : Kxb → Kxb) : (s.modKxb g).xio = s.xio := rfl
@[simp] theorem State.modKxb_uchans (g : Kxb → Kxb) : (s.modKxb g).uchans = s.uchans := rfl
@[simp] theorem State.modKxb_dram (g : Kxb → Kxb) : (s.modKxb g).dram = s.dram := rfl
@[simp] theorem State.modKxb_out (g : Kxb → Kxb) : (s.modKxb g).out = s.out := rfl
@[simp] theorem State.modKxb_free (g : Kxb → Kxb) : (s.modKxb g).free = s.free := rfl
@[simp] theorem State.modKxb_pending (g : Kxb → Kxb) : (s.modKxb g).pending = s.pending := rfl

/-! ## modGraph: writes graphs only -/
@[simp] theorem State.modGraph_regs (n : Nat) (g : Graph → Graph) : (s.modGraph n g).regs = s.regs := rfl
@[simp] theorem State.modGraph_ctrs (n : Nat) (g : Graph → Graph) : (s.modGraph n g).ctrs = s.ctrs := rfl
@[simp] theorem State.modGraph_shadow (n : Nat) (g : Graph → Graph) : (s.modGraph n g).shadow = s.shadow := rfl
@[simp] theorem State.modGraph_stageBuf (n : Nat) (g : Graph → Graph) : (s.modGraph n g).stageBuf = s.stageBuf := rfl
@[simp] theorem State.modGraph_latch (n : Nat) (g : Graph → Graph) : (s.modGraph n g).latch = s.latch := rfl
@[simp] theorem State.modGraph_tim (n : Nat) (g : Graph → Graph) : (s.modGraph n g).tim = s.tim := rfl
@[simp] theorem State.modGraph_fns (n : Nat) (g : Graph → Graph) : (s.modGraph n g).fns = s.fns := rfl
@[simp] theorem State.modGraph_qps (n : Nat) (g : Graph → Graph) : (s.modGraph n g).qps = s.qps := rfl
@[simp] theorem State.modGraph_vecs (n : Nat) (g : Graph → Graph) : (s.modGraph n g).vecs = s.vecs := rfl
@[simp] theorem State.modGraph_fetchPf (n : Nat) (g : Graph → Graph) : (s.modGraph n g).fetchPf = s.fetchPf := rfl
@[simp] theorem State.modGraph_fetchFn (n : Nat) (g : Graph → Graph) : (s.modGraph n g).fetchFn = s.fetchFn := rfl
@[simp] theorem State.modGraph_staged (n : Nat) (g : Graph → Graph) : (s.modGraph n g).staged = s.staged := rfl
@[simp] theorem State.modGraph_resetDue (n : Nat) (g : Graph → Graph) : (s.modGraph n g).resetDue = s.resetDue := rfl
@[simp] theorem State.modGraph_slips (n : Nat) (g : Graph → Graph) : (s.modGraph n g).slips = s.slips := rfl
@[simp] theorem State.modGraph_keys (n : Nat) (g : Graph → Graph) : (s.modGraph n g).keys = s.keys := rfl
@[simp] theorem State.modGraph_granules (n : Nat) (g : Graph → Graph) : (s.modGraph n g).granules = s.granules := rfl
@[simp] theorem State.modGraph_obs (n : Nat) (g : Graph → Graph) : (s.modGraph n g).obs = s.obs := rfl
@[simp] theorem State.modGraph_si (n : Nat) (g : Graph → Graph) : (s.modGraph n g).si = s.si := rfl
@[simp] theorem State.modGraph_hops (n : Nat) (g : Graph → Graph) : (s.modGraph n g).hops = s.hops := rfl
@[simp] theorem State.modGraph_sfms (n : Nat) (g : Graph → Graph) : (s.modGraph n g).sfms = s.sfms := rfl
@[simp] theorem State.modGraph_pwr (n : Nat) (g : Graph → Graph) : (s.modGraph n g).pwr = s.pwr := rfl
@[simp] theorem State.modGraph_quires (n : Nat) (g : Graph → Graph) : (s.modGraph n g).quires = s.quires := rfl
@[simp] theorem State.modGraph_arbs (n : Nat) (g : Graph → Graph) : (s.modGraph n g).arbs = s.arbs := rfl
@[simp] theorem State.modGraph_kxb (n : Nat) (g : Graph → Graph) : (s.modGraph n g).kxb = s.kxb := rfl
@[simp] theorem State.modGraph_ascu (n : Nat) (g : Graph → Graph) : (s.modGraph n g).ascu = s.ascu := rfl
@[simp] theorem State.modGraph_fu (n : Nat) (g : Graph → Graph) : (s.modGraph n g).fu = s.fu := rfl
@[simp] theorem State.modGraph_contracts (n : Nat) (g : Graph → Graph) : (s.modGraph n g).contracts = s.contracts := rfl
@[simp] theorem State.modGraph_conAdmits (n : Nat) (g : Graph → Graph) : (s.modGraph n g).conAdmits = s.conAdmits := rfl
@[simp] theorem State.modGraph_nextGraph (n : Nat) (g : Graph → Graph) : (s.modGraph n g).nextGraph = s.nextGraph := rfl
@[simp] theorem State.modGraph_nextContract (n : Nat) (g : Graph → Graph) : (s.modGraph n g).nextContract = s.nextContract := rfl
@[simp] theorem State.modGraph_policy (n : Nat) (g : Graph → Graph) : (s.modGraph n g).policy = s.policy := rfl
@[simp] theorem State.modGraph_recs (n : Nat) (g : Graph → Graph) : (s.modGraph n g).recs = s.recs := rfl
@[simp] theorem State.modGraph_dues (n : Nat) (g : Graph → Graph) : (s.modGraph n g).dues = s.dues := rfl
@[simp] theorem State.modGraph_sps (n : Nat) (g : Graph → Graph) : (s.modGraph n g).sps = s.sps := rfl
@[simp] theorem State.modGraph_streams (n : Nat) (g : Graph → Graph) : (s.modGraph n g).streams = s.streams := rfl
@[simp] theorem State.modGraph_bind (n : Nat) (g : Graph → Graph) : (s.modGraph n g).bind = s.bind := rfl
@[simp] theorem State.modGraph_sec (n : Nat) (g : Graph → Graph) : (s.modGraph n g).sec = s.sec := rfl
@[simp] theorem State.modGraph_xio (n : Nat) (g : Graph → Graph) : (s.modGraph n g).xio = s.xio := rfl
@[simp] theorem State.modGraph_uchans (n : Nat) (g : Graph → Graph) : (s.modGraph n g).uchans = s.uchans := rfl
@[simp] theorem State.modGraph_dram (n : Nat) (g : Graph → Graph) : (s.modGraph n g).dram = s.dram := rfl
@[simp] theorem State.modGraph_out (n : Nat) (g : Graph → Graph) : (s.modGraph n g).out = s.out := rfl
@[simp] theorem State.modGraph_free (n : Nat) (g : Graph → Graph) : (s.modGraph n g).free = s.free := rfl
@[simp] theorem State.modGraph_pending (n : Nat) (g : Graph → Graph) : (s.modGraph n g).pending = s.pending := rfl

/-! ## modContract: writes contracts only -/
@[simp] theorem State.modContract_regs (c : Nat) (g : Contract → Contract) : (s.modContract c g).regs = s.regs := rfl
@[simp] theorem State.modContract_ctrs (c : Nat) (g : Contract → Contract) : (s.modContract c g).ctrs = s.ctrs := rfl
@[simp] theorem State.modContract_shadow (c : Nat) (g : Contract → Contract) : (s.modContract c g).shadow = s.shadow := rfl
@[simp] theorem State.modContract_stageBuf (c : Nat) (g : Contract → Contract) : (s.modContract c g).stageBuf = s.stageBuf := rfl
@[simp] theorem State.modContract_latch (c : Nat) (g : Contract → Contract) : (s.modContract c g).latch = s.latch := rfl
@[simp] theorem State.modContract_tim (c : Nat) (g : Contract → Contract) : (s.modContract c g).tim = s.tim := rfl
@[simp] theorem State.modContract_fns (c : Nat) (g : Contract → Contract) : (s.modContract c g).fns = s.fns := rfl
@[simp] theorem State.modContract_qps (c : Nat) (g : Contract → Contract) : (s.modContract c g).qps = s.qps := rfl
@[simp] theorem State.modContract_vecs (c : Nat) (g : Contract → Contract) : (s.modContract c g).vecs = s.vecs := rfl
@[simp] theorem State.modContract_fetchPf (c : Nat) (g : Contract → Contract) : (s.modContract c g).fetchPf = s.fetchPf := rfl
@[simp] theorem State.modContract_fetchFn (c : Nat) (g : Contract → Contract) : (s.modContract c g).fetchFn = s.fetchFn := rfl
@[simp] theorem State.modContract_staged (c : Nat) (g : Contract → Contract) : (s.modContract c g).staged = s.staged := rfl
@[simp] theorem State.modContract_resetDue (c : Nat) (g : Contract → Contract) : (s.modContract c g).resetDue = s.resetDue := rfl
@[simp] theorem State.modContract_slips (c : Nat) (g : Contract → Contract) : (s.modContract c g).slips = s.slips := rfl
@[simp] theorem State.modContract_keys (c : Nat) (g : Contract → Contract) : (s.modContract c g).keys = s.keys := rfl
@[simp] theorem State.modContract_granules (c : Nat) (g : Contract → Contract) : (s.modContract c g).granules = s.granules := rfl
@[simp] theorem State.modContract_obs (c : Nat) (g : Contract → Contract) : (s.modContract c g).obs = s.obs := rfl
@[simp] theorem State.modContract_si (c : Nat) (g : Contract → Contract) : (s.modContract c g).si = s.si := rfl
@[simp] theorem State.modContract_hops (c : Nat) (g : Contract → Contract) : (s.modContract c g).hops = s.hops := rfl
@[simp] theorem State.modContract_sfms (c : Nat) (g : Contract → Contract) : (s.modContract c g).sfms = s.sfms := rfl
@[simp] theorem State.modContract_pwr (c : Nat) (g : Contract → Contract) : (s.modContract c g).pwr = s.pwr := rfl
@[simp] theorem State.modContract_quires (c : Nat) (g : Contract → Contract) : (s.modContract c g).quires = s.quires := rfl
@[simp] theorem State.modContract_arbs (c : Nat) (g : Contract → Contract) : (s.modContract c g).arbs = s.arbs := rfl
@[simp] theorem State.modContract_kxb (c : Nat) (g : Contract → Contract) : (s.modContract c g).kxb = s.kxb := rfl
@[simp] theorem State.modContract_ascu (c : Nat) (g : Contract → Contract) : (s.modContract c g).ascu = s.ascu := rfl
@[simp] theorem State.modContract_fu (c : Nat) (g : Contract → Contract) : (s.modContract c g).fu = s.fu := rfl
@[simp] theorem State.modContract_graphs (c : Nat) (g : Contract → Contract) : (s.modContract c g).graphs = s.graphs := rfl
@[simp] theorem State.modContract_conAdmits (c : Nat) (g : Contract → Contract) : (s.modContract c g).conAdmits = s.conAdmits := rfl
@[simp] theorem State.modContract_nextGraph (c : Nat) (g : Contract → Contract) : (s.modContract c g).nextGraph = s.nextGraph := rfl
@[simp] theorem State.modContract_nextContract (c : Nat) (g : Contract → Contract) : (s.modContract c g).nextContract = s.nextContract := rfl
@[simp] theorem State.modContract_policy (c : Nat) (g : Contract → Contract) : (s.modContract c g).policy = s.policy := rfl
@[simp] theorem State.modContract_recs (c : Nat) (g : Contract → Contract) : (s.modContract c g).recs = s.recs := rfl
@[simp] theorem State.modContract_dues (c : Nat) (g : Contract → Contract) : (s.modContract c g).dues = s.dues := rfl
@[simp] theorem State.modContract_sps (c : Nat) (g : Contract → Contract) : (s.modContract c g).sps = s.sps := rfl
@[simp] theorem State.modContract_streams (c : Nat) (g : Contract → Contract) : (s.modContract c g).streams = s.streams := rfl
@[simp] theorem State.modContract_bind (c : Nat) (g : Contract → Contract) : (s.modContract c g).bind = s.bind := rfl
@[simp] theorem State.modContract_sec (c : Nat) (g : Contract → Contract) : (s.modContract c g).sec = s.sec := rfl
@[simp] theorem State.modContract_xio (c : Nat) (g : Contract → Contract) : (s.modContract c g).xio = s.xio := rfl
@[simp] theorem State.modContract_uchans (c : Nat) (g : Contract → Contract) : (s.modContract c g).uchans = s.uchans := rfl
@[simp] theorem State.modContract_dram (c : Nat) (g : Contract → Contract) : (s.modContract c g).dram = s.dram := rfl
@[simp] theorem State.modContract_out (c : Nat) (g : Contract → Contract) : (s.modContract c g).out = s.out := rfl
@[simp] theorem State.modContract_free (c : Nat) (g : Contract → Contract) : (s.modContract c g).free = s.free := rfl
@[simp] theorem State.modContract_pending (c : Nat) (g : Contract → Contract) : (s.modContract c g).pending = s.pending := rfl

/-! ## modPort: writes sps only -/
@[simp] theorem State.modPort_regs (p : Nat) (g : SpPort → SpPort) : (s.modPort p g).regs = s.regs := rfl
@[simp] theorem State.modPort_ctrs (p : Nat) (g : SpPort → SpPort) : (s.modPort p g).ctrs = s.ctrs := rfl
@[simp] theorem State.modPort_shadow (p : Nat) (g : SpPort → SpPort) : (s.modPort p g).shadow = s.shadow := rfl
@[simp] theorem State.modPort_stageBuf (p : Nat) (g : SpPort → SpPort) : (s.modPort p g).stageBuf = s.stageBuf := rfl
@[simp] theorem State.modPort_latch (p : Nat) (g : SpPort → SpPort) : (s.modPort p g).latch = s.latch := rfl
@[simp] theorem State.modPort_tim (p : Nat) (g : SpPort → SpPort) : (s.modPort p g).tim = s.tim := rfl
@[simp] theorem State.modPort_fns (p : Nat) (g : SpPort → SpPort) : (s.modPort p g).fns = s.fns := rfl
@[simp] theorem State.modPort_qps (p : Nat) (g : SpPort → SpPort) : (s.modPort p g).qps = s.qps := rfl
@[simp] theorem State.modPort_vecs (p : Nat) (g : SpPort → SpPort) : (s.modPort p g).vecs = s.vecs := rfl
@[simp] theorem State.modPort_fetchPf (p : Nat) (g : SpPort → SpPort) : (s.modPort p g).fetchPf = s.fetchPf := rfl
@[simp] theorem State.modPort_fetchFn (p : Nat) (g : SpPort → SpPort) : (s.modPort p g).fetchFn = s.fetchFn := rfl
@[simp] theorem State.modPort_staged (p : Nat) (g : SpPort → SpPort) : (s.modPort p g).staged = s.staged := rfl
@[simp] theorem State.modPort_resetDue (p : Nat) (g : SpPort → SpPort) : (s.modPort p g).resetDue = s.resetDue := rfl
@[simp] theorem State.modPort_slips (p : Nat) (g : SpPort → SpPort) : (s.modPort p g).slips = s.slips := rfl
@[simp] theorem State.modPort_keys (p : Nat) (g : SpPort → SpPort) : (s.modPort p g).keys = s.keys := rfl
@[simp] theorem State.modPort_granules (p : Nat) (g : SpPort → SpPort) : (s.modPort p g).granules = s.granules := rfl
@[simp] theorem State.modPort_obs (p : Nat) (g : SpPort → SpPort) : (s.modPort p g).obs = s.obs := rfl
@[simp] theorem State.modPort_si (p : Nat) (g : SpPort → SpPort) : (s.modPort p g).si = s.si := rfl
@[simp] theorem State.modPort_hops (p : Nat) (g : SpPort → SpPort) : (s.modPort p g).hops = s.hops := rfl
@[simp] theorem State.modPort_sfms (p : Nat) (g : SpPort → SpPort) : (s.modPort p g).sfms = s.sfms := rfl
@[simp] theorem State.modPort_pwr (p : Nat) (g : SpPort → SpPort) : (s.modPort p g).pwr = s.pwr := rfl
@[simp] theorem State.modPort_quires (p : Nat) (g : SpPort → SpPort) : (s.modPort p g).quires = s.quires := rfl
@[simp] theorem State.modPort_arbs (p : Nat) (g : SpPort → SpPort) : (s.modPort p g).arbs = s.arbs := rfl
@[simp] theorem State.modPort_kxb (p : Nat) (g : SpPort → SpPort) : (s.modPort p g).kxb = s.kxb := rfl
@[simp] theorem State.modPort_ascu (p : Nat) (g : SpPort → SpPort) : (s.modPort p g).ascu = s.ascu := rfl
@[simp] theorem State.modPort_fu (p : Nat) (g : SpPort → SpPort) : (s.modPort p g).fu = s.fu := rfl
@[simp] theorem State.modPort_graphs (p : Nat) (g : SpPort → SpPort) : (s.modPort p g).graphs = s.graphs := rfl
@[simp] theorem State.modPort_contracts (p : Nat) (g : SpPort → SpPort) : (s.modPort p g).contracts = s.contracts := rfl
@[simp] theorem State.modPort_conAdmits (p : Nat) (g : SpPort → SpPort) : (s.modPort p g).conAdmits = s.conAdmits := rfl
@[simp] theorem State.modPort_nextGraph (p : Nat) (g : SpPort → SpPort) : (s.modPort p g).nextGraph = s.nextGraph := rfl
@[simp] theorem State.modPort_nextContract (p : Nat) (g : SpPort → SpPort) : (s.modPort p g).nextContract = s.nextContract := rfl
@[simp] theorem State.modPort_policy (p : Nat) (g : SpPort → SpPort) : (s.modPort p g).policy = s.policy := rfl
@[simp] theorem State.modPort_recs (p : Nat) (g : SpPort → SpPort) : (s.modPort p g).recs = s.recs := rfl
@[simp] theorem State.modPort_dues (p : Nat) (g : SpPort → SpPort) : (s.modPort p g).dues = s.dues := rfl
@[simp] theorem State.modPort_streams (p : Nat) (g : SpPort → SpPort) : (s.modPort p g).streams = s.streams := rfl
@[simp] theorem State.modPort_bind (p : Nat) (g : SpPort → SpPort) : (s.modPort p g).bind = s.bind := rfl
@[simp] theorem State.modPort_sec (p : Nat) (g : SpPort → SpPort) : (s.modPort p g).sec = s.sec := rfl
@[simp] theorem State.modPort_xio (p : Nat) (g : SpPort → SpPort) : (s.modPort p g).xio = s.xio := rfl
@[simp] theorem State.modPort_uchans (p : Nat) (g : SpPort → SpPort) : (s.modPort p g).uchans = s.uchans := rfl
@[simp] theorem State.modPort_dram (p : Nat) (g : SpPort → SpPort) : (s.modPort p g).dram = s.dram := rfl
@[simp] theorem State.modPort_out (p : Nat) (g : SpPort → SpPort) : (s.modPort p g).out = s.out := rfl
@[simp] theorem State.modPort_free (p : Nat) (g : SpPort → SpPort) : (s.modPort p g).free = s.free := rfl
@[simp] theorem State.modPort_pending (p : Nat) (g : SpPort → SpPort) : (s.modPort p g).pending = s.pending := rfl

/-! ## modStrm: writes streams only -/
@[simp] theorem State.modStrm_regs (n : Nat) (g : Strm → Strm) : (s.modStrm n g).regs = s.regs := rfl
@[simp] theorem State.modStrm_ctrs (n : Nat) (g : Strm → Strm) : (s.modStrm n g).ctrs = s.ctrs := rfl
@[simp] theorem State.modStrm_shadow (n : Nat) (g : Strm → Strm) : (s.modStrm n g).shadow = s.shadow := rfl
@[simp] theorem State.modStrm_stageBuf (n : Nat) (g : Strm → Strm) : (s.modStrm n g).stageBuf = s.stageBuf := rfl
@[simp] theorem State.modStrm_latch (n : Nat) (g : Strm → Strm) : (s.modStrm n g).latch = s.latch := rfl
@[simp] theorem State.modStrm_tim (n : Nat) (g : Strm → Strm) : (s.modStrm n g).tim = s.tim := rfl
@[simp] theorem State.modStrm_fns (n : Nat) (g : Strm → Strm) : (s.modStrm n g).fns = s.fns := rfl
@[simp] theorem State.modStrm_qps (n : Nat) (g : Strm → Strm) : (s.modStrm n g).qps = s.qps := rfl
@[simp] theorem State.modStrm_vecs (n : Nat) (g : Strm → Strm) : (s.modStrm n g).vecs = s.vecs := rfl
@[simp] theorem State.modStrm_fetchPf (n : Nat) (g : Strm → Strm) : (s.modStrm n g).fetchPf = s.fetchPf := rfl
@[simp] theorem State.modStrm_fetchFn (n : Nat) (g : Strm → Strm) : (s.modStrm n g).fetchFn = s.fetchFn := rfl
@[simp] theorem State.modStrm_staged (n : Nat) (g : Strm → Strm) : (s.modStrm n g).staged = s.staged := rfl
@[simp] theorem State.modStrm_resetDue (n : Nat) (g : Strm → Strm) : (s.modStrm n g).resetDue = s.resetDue := rfl
@[simp] theorem State.modStrm_slips (n : Nat) (g : Strm → Strm) : (s.modStrm n g).slips = s.slips := rfl
@[simp] theorem State.modStrm_keys (n : Nat) (g : Strm → Strm) : (s.modStrm n g).keys = s.keys := rfl
@[simp] theorem State.modStrm_granules (n : Nat) (g : Strm → Strm) : (s.modStrm n g).granules = s.granules := rfl
@[simp] theorem State.modStrm_obs (n : Nat) (g : Strm → Strm) : (s.modStrm n g).obs = s.obs := rfl
@[simp] theorem State.modStrm_si (n : Nat) (g : Strm → Strm) : (s.modStrm n g).si = s.si := rfl
@[simp] theorem State.modStrm_hops (n : Nat) (g : Strm → Strm) : (s.modStrm n g).hops = s.hops := rfl
@[simp] theorem State.modStrm_sfms (n : Nat) (g : Strm → Strm) : (s.modStrm n g).sfms = s.sfms := rfl
@[simp] theorem State.modStrm_pwr (n : Nat) (g : Strm → Strm) : (s.modStrm n g).pwr = s.pwr := rfl
@[simp] theorem State.modStrm_quires (n : Nat) (g : Strm → Strm) : (s.modStrm n g).quires = s.quires := rfl
@[simp] theorem State.modStrm_arbs (n : Nat) (g : Strm → Strm) : (s.modStrm n g).arbs = s.arbs := rfl
@[simp] theorem State.modStrm_kxb (n : Nat) (g : Strm → Strm) : (s.modStrm n g).kxb = s.kxb := rfl
@[simp] theorem State.modStrm_ascu (n : Nat) (g : Strm → Strm) : (s.modStrm n g).ascu = s.ascu := rfl
@[simp] theorem State.modStrm_fu (n : Nat) (g : Strm → Strm) : (s.modStrm n g).fu = s.fu := rfl
@[simp] theorem State.modStrm_graphs (n : Nat) (g : Strm → Strm) : (s.modStrm n g).graphs = s.graphs := rfl
@[simp] theorem State.modStrm_contracts (n : Nat) (g : Strm → Strm) : (s.modStrm n g).contracts = s.contracts := rfl
@[simp] theorem State.modStrm_conAdmits (n : Nat) (g : Strm → Strm) : (s.modStrm n g).conAdmits = s.conAdmits := rfl
@[simp] theorem State.modStrm_nextGraph (n : Nat) (g : Strm → Strm) : (s.modStrm n g).nextGraph = s.nextGraph := rfl
@[simp] theorem State.modStrm_nextContract (n : Nat) (g : Strm → Strm) : (s.modStrm n g).nextContract = s.nextContract := rfl
@[simp] theorem State.modStrm_policy (n : Nat) (g : Strm → Strm) : (s.modStrm n g).policy = s.policy := rfl
@[simp] theorem State.modStrm_recs (n : Nat) (g : Strm → Strm) : (s.modStrm n g).recs = s.recs := rfl
@[simp] theorem State.modStrm_dues (n : Nat) (g : Strm → Strm) : (s.modStrm n g).dues = s.dues := rfl
@[simp] theorem State.modStrm_sps (n : Nat) (g : Strm → Strm) : (s.modStrm n g).sps = s.sps := rfl
@[simp] theorem State.modStrm_bind (n : Nat) (g : Strm → Strm) : (s.modStrm n g).bind = s.bind := rfl
@[simp] theorem State.modStrm_sec (n : Nat) (g : Strm → Strm) : (s.modStrm n g).sec = s.sec := rfl
@[simp] theorem State.modStrm_xio (n : Nat) (g : Strm → Strm) : (s.modStrm n g).xio = s.xio := rfl
@[simp] theorem State.modStrm_uchans (n : Nat) (g : Strm → Strm) : (s.modStrm n g).uchans = s.uchans := rfl
@[simp] theorem State.modStrm_dram (n : Nat) (g : Strm → Strm) : (s.modStrm n g).dram = s.dram := rfl
@[simp] theorem State.modStrm_out (n : Nat) (g : Strm → Strm) : (s.modStrm n g).out = s.out := rfl
@[simp] theorem State.modStrm_free (n : Nat) (g : Strm → Strm) : (s.modStrm n g).free = s.free := rfl
@[simp] theorem State.modStrm_pending (n : Nat) (g : Strm → Strm) : (s.modStrm n g).pending = s.pending := rfl

/-! ## modBind: writes bind only -/
@[simp] theorem State.modBind_regs (g : Bind → Bind) : (s.modBind g).regs = s.regs := rfl
@[simp] theorem State.modBind_ctrs (g : Bind → Bind) : (s.modBind g).ctrs = s.ctrs := rfl
@[simp] theorem State.modBind_shadow (g : Bind → Bind) : (s.modBind g).shadow = s.shadow := rfl
@[simp] theorem State.modBind_stageBuf (g : Bind → Bind) : (s.modBind g).stageBuf = s.stageBuf := rfl
@[simp] theorem State.modBind_latch (g : Bind → Bind) : (s.modBind g).latch = s.latch := rfl
@[simp] theorem State.modBind_tim (g : Bind → Bind) : (s.modBind g).tim = s.tim := rfl
@[simp] theorem State.modBind_fns (g : Bind → Bind) : (s.modBind g).fns = s.fns := rfl
@[simp] theorem State.modBind_qps (g : Bind → Bind) : (s.modBind g).qps = s.qps := rfl
@[simp] theorem State.modBind_vecs (g : Bind → Bind) : (s.modBind g).vecs = s.vecs := rfl
@[simp] theorem State.modBind_fetchPf (g : Bind → Bind) : (s.modBind g).fetchPf = s.fetchPf := rfl
@[simp] theorem State.modBind_fetchFn (g : Bind → Bind) : (s.modBind g).fetchFn = s.fetchFn := rfl
@[simp] theorem State.modBind_staged (g : Bind → Bind) : (s.modBind g).staged = s.staged := rfl
@[simp] theorem State.modBind_resetDue (g : Bind → Bind) : (s.modBind g).resetDue = s.resetDue := rfl
@[simp] theorem State.modBind_slips (g : Bind → Bind) : (s.modBind g).slips = s.slips := rfl
@[simp] theorem State.modBind_keys (g : Bind → Bind) : (s.modBind g).keys = s.keys := rfl
@[simp] theorem State.modBind_granules (g : Bind → Bind) : (s.modBind g).granules = s.granules := rfl
@[simp] theorem State.modBind_obs (g : Bind → Bind) : (s.modBind g).obs = s.obs := rfl
@[simp] theorem State.modBind_si (g : Bind → Bind) : (s.modBind g).si = s.si := rfl
@[simp] theorem State.modBind_hops (g : Bind → Bind) : (s.modBind g).hops = s.hops := rfl
@[simp] theorem State.modBind_sfms (g : Bind → Bind) : (s.modBind g).sfms = s.sfms := rfl
@[simp] theorem State.modBind_pwr (g : Bind → Bind) : (s.modBind g).pwr = s.pwr := rfl
@[simp] theorem State.modBind_quires (g : Bind → Bind) : (s.modBind g).quires = s.quires := rfl
@[simp] theorem State.modBind_arbs (g : Bind → Bind) : (s.modBind g).arbs = s.arbs := rfl
@[simp] theorem State.modBind_kxb (g : Bind → Bind) : (s.modBind g).kxb = s.kxb := rfl
@[simp] theorem State.modBind_ascu (g : Bind → Bind) : (s.modBind g).ascu = s.ascu := rfl
@[simp] theorem State.modBind_fu (g : Bind → Bind) : (s.modBind g).fu = s.fu := rfl
@[simp] theorem State.modBind_graphs (g : Bind → Bind) : (s.modBind g).graphs = s.graphs := rfl
@[simp] theorem State.modBind_contracts (g : Bind → Bind) : (s.modBind g).contracts = s.contracts := rfl
@[simp] theorem State.modBind_conAdmits (g : Bind → Bind) : (s.modBind g).conAdmits = s.conAdmits := rfl
@[simp] theorem State.modBind_nextGraph (g : Bind → Bind) : (s.modBind g).nextGraph = s.nextGraph := rfl
@[simp] theorem State.modBind_nextContract (g : Bind → Bind) : (s.modBind g).nextContract = s.nextContract := rfl
@[simp] theorem State.modBind_policy (g : Bind → Bind) : (s.modBind g).policy = s.policy := rfl
@[simp] theorem State.modBind_recs (g : Bind → Bind) : (s.modBind g).recs = s.recs := rfl
@[simp] theorem State.modBind_dues (g : Bind → Bind) : (s.modBind g).dues = s.dues := rfl
@[simp] theorem State.modBind_sps (g : Bind → Bind) : (s.modBind g).sps = s.sps := rfl
@[simp] theorem State.modBind_streams (g : Bind → Bind) : (s.modBind g).streams = s.streams := rfl
@[simp] theorem State.modBind_sec (g : Bind → Bind) : (s.modBind g).sec = s.sec := rfl
@[simp] theorem State.modBind_xio (g : Bind → Bind) : (s.modBind g).xio = s.xio := rfl
@[simp] theorem State.modBind_uchans (g : Bind → Bind) : (s.modBind g).uchans = s.uchans := rfl
@[simp] theorem State.modBind_dram (g : Bind → Bind) : (s.modBind g).dram = s.dram := rfl
@[simp] theorem State.modBind_out (g : Bind → Bind) : (s.modBind g).out = s.out := rfl
@[simp] theorem State.modBind_free (g : Bind → Bind) : (s.modBind g).free = s.free := rfl
@[simp] theorem State.modBind_pending (g : Bind → Bind) : (s.modBind g).pending = s.pending := rfl

/-! ## modSi: writes si only -/
@[simp] theorem State.modSi_regs (g : Si → Si) : (s.modSi g).regs = s.regs := rfl
@[simp] theorem State.modSi_ctrs (g : Si → Si) : (s.modSi g).ctrs = s.ctrs := rfl
@[simp] theorem State.modSi_shadow (g : Si → Si) : (s.modSi g).shadow = s.shadow := rfl
@[simp] theorem State.modSi_stageBuf (g : Si → Si) : (s.modSi g).stageBuf = s.stageBuf := rfl
@[simp] theorem State.modSi_latch (g : Si → Si) : (s.modSi g).latch = s.latch := rfl
@[simp] theorem State.modSi_tim (g : Si → Si) : (s.modSi g).tim = s.tim := rfl
@[simp] theorem State.modSi_fns (g : Si → Si) : (s.modSi g).fns = s.fns := rfl
@[simp] theorem State.modSi_qps (g : Si → Si) : (s.modSi g).qps = s.qps := rfl
@[simp] theorem State.modSi_vecs (g : Si → Si) : (s.modSi g).vecs = s.vecs := rfl
@[simp] theorem State.modSi_fetchPf (g : Si → Si) : (s.modSi g).fetchPf = s.fetchPf := rfl
@[simp] theorem State.modSi_fetchFn (g : Si → Si) : (s.modSi g).fetchFn = s.fetchFn := rfl
@[simp] theorem State.modSi_staged (g : Si → Si) : (s.modSi g).staged = s.staged := rfl
@[simp] theorem State.modSi_resetDue (g : Si → Si) : (s.modSi g).resetDue = s.resetDue := rfl
@[simp] theorem State.modSi_slips (g : Si → Si) : (s.modSi g).slips = s.slips := rfl
@[simp] theorem State.modSi_keys (g : Si → Si) : (s.modSi g).keys = s.keys := rfl
@[simp] theorem State.modSi_granules (g : Si → Si) : (s.modSi g).granules = s.granules := rfl
@[simp] theorem State.modSi_obs (g : Si → Si) : (s.modSi g).obs = s.obs := rfl
@[simp] theorem State.modSi_hops (g : Si → Si) : (s.modSi g).hops = s.hops := rfl
@[simp] theorem State.modSi_sfms (g : Si → Si) : (s.modSi g).sfms = s.sfms := rfl
@[simp] theorem State.modSi_pwr (g : Si → Si) : (s.modSi g).pwr = s.pwr := rfl
@[simp] theorem State.modSi_quires (g : Si → Si) : (s.modSi g).quires = s.quires := rfl
@[simp] theorem State.modSi_arbs (g : Si → Si) : (s.modSi g).arbs = s.arbs := rfl
@[simp] theorem State.modSi_kxb (g : Si → Si) : (s.modSi g).kxb = s.kxb := rfl
@[simp] theorem State.modSi_ascu (g : Si → Si) : (s.modSi g).ascu = s.ascu := rfl
@[simp] theorem State.modSi_fu (g : Si → Si) : (s.modSi g).fu = s.fu := rfl
@[simp] theorem State.modSi_graphs (g : Si → Si) : (s.modSi g).graphs = s.graphs := rfl
@[simp] theorem State.modSi_contracts (g : Si → Si) : (s.modSi g).contracts = s.contracts := rfl
@[simp] theorem State.modSi_conAdmits (g : Si → Si) : (s.modSi g).conAdmits = s.conAdmits := rfl
@[simp] theorem State.modSi_nextGraph (g : Si → Si) : (s.modSi g).nextGraph = s.nextGraph := rfl
@[simp] theorem State.modSi_nextContract (g : Si → Si) : (s.modSi g).nextContract = s.nextContract := rfl
@[simp] theorem State.modSi_policy (g : Si → Si) : (s.modSi g).policy = s.policy := rfl
@[simp] theorem State.modSi_recs (g : Si → Si) : (s.modSi g).recs = s.recs := rfl
@[simp] theorem State.modSi_dues (g : Si → Si) : (s.modSi g).dues = s.dues := rfl
@[simp] theorem State.modSi_sps (g : Si → Si) : (s.modSi g).sps = s.sps := rfl
@[simp] theorem State.modSi_streams (g : Si → Si) : (s.modSi g).streams = s.streams := rfl
@[simp] theorem State.modSi_bind (g : Si → Si) : (s.modSi g).bind = s.bind := rfl
@[simp] theorem State.modSi_sec (g : Si → Si) : (s.modSi g).sec = s.sec := rfl
@[simp] theorem State.modSi_xio (g : Si → Si) : (s.modSi g).xio = s.xio := rfl
@[simp] theorem State.modSi_uchans (g : Si → Si) : (s.modSi g).uchans = s.uchans := rfl
@[simp] theorem State.modSi_dram (g : Si → Si) : (s.modSi g).dram = s.dram := rfl
@[simp] theorem State.modSi_out (g : Si → Si) : (s.modSi g).out = s.out := rfl
@[simp] theorem State.modSi_free (g : Si → Si) : (s.modSi g).free = s.free := rfl
@[simp] theorem State.modSi_pending (g : Si → Si) : (s.modSi g).pending = s.pending := rfl

/-! ## modTim: writes tim only -/
@[simp] theorem State.modTim_regs (g : Tim → Tim) : (s.modTim g).regs = s.regs := rfl
@[simp] theorem State.modTim_ctrs (g : Tim → Tim) : (s.modTim g).ctrs = s.ctrs := rfl
@[simp] theorem State.modTim_shadow (g : Tim → Tim) : (s.modTim g).shadow = s.shadow := rfl
@[simp] theorem State.modTim_stageBuf (g : Tim → Tim) : (s.modTim g).stageBuf = s.stageBuf := rfl
@[simp] theorem State.modTim_latch (g : Tim → Tim) : (s.modTim g).latch = s.latch := rfl
@[simp] theorem State.modTim_fns (g : Tim → Tim) : (s.modTim g).fns = s.fns := rfl
@[simp] theorem State.modTim_qps (g : Tim → Tim) : (s.modTim g).qps = s.qps := rfl
@[simp] theorem State.modTim_vecs (g : Tim → Tim) : (s.modTim g).vecs = s.vecs := rfl
@[simp] theorem State.modTim_fetchPf (g : Tim → Tim) : (s.modTim g).fetchPf = s.fetchPf := rfl
@[simp] theorem State.modTim_fetchFn (g : Tim → Tim) : (s.modTim g).fetchFn = s.fetchFn := rfl
@[simp] theorem State.modTim_staged (g : Tim → Tim) : (s.modTim g).staged = s.staged := rfl
@[simp] theorem State.modTim_resetDue (g : Tim → Tim) : (s.modTim g).resetDue = s.resetDue := rfl
@[simp] theorem State.modTim_slips (g : Tim → Tim) : (s.modTim g).slips = s.slips := rfl
@[simp] theorem State.modTim_keys (g : Tim → Tim) : (s.modTim g).keys = s.keys := rfl
@[simp] theorem State.modTim_granules (g : Tim → Tim) : (s.modTim g).granules = s.granules := rfl
@[simp] theorem State.modTim_obs (g : Tim → Tim) : (s.modTim g).obs = s.obs := rfl
@[simp] theorem State.modTim_si (g : Tim → Tim) : (s.modTim g).si = s.si := rfl
@[simp] theorem State.modTim_hops (g : Tim → Tim) : (s.modTim g).hops = s.hops := rfl
@[simp] theorem State.modTim_sfms (g : Tim → Tim) : (s.modTim g).sfms = s.sfms := rfl
@[simp] theorem State.modTim_pwr (g : Tim → Tim) : (s.modTim g).pwr = s.pwr := rfl
@[simp] theorem State.modTim_quires (g : Tim → Tim) : (s.modTim g).quires = s.quires := rfl
@[simp] theorem State.modTim_arbs (g : Tim → Tim) : (s.modTim g).arbs = s.arbs := rfl
@[simp] theorem State.modTim_kxb (g : Tim → Tim) : (s.modTim g).kxb = s.kxb := rfl
@[simp] theorem State.modTim_ascu (g : Tim → Tim) : (s.modTim g).ascu = s.ascu := rfl
@[simp] theorem State.modTim_fu (g : Tim → Tim) : (s.modTim g).fu = s.fu := rfl
@[simp] theorem State.modTim_graphs (g : Tim → Tim) : (s.modTim g).graphs = s.graphs := rfl
@[simp] theorem State.modTim_contracts (g : Tim → Tim) : (s.modTim g).contracts = s.contracts := rfl
@[simp] theorem State.modTim_conAdmits (g : Tim → Tim) : (s.modTim g).conAdmits = s.conAdmits := rfl
@[simp] theorem State.modTim_nextGraph (g : Tim → Tim) : (s.modTim g).nextGraph = s.nextGraph := rfl
@[simp] theorem State.modTim_nextContract (g : Tim → Tim) : (s.modTim g).nextContract = s.nextContract := rfl
@[simp] theorem State.modTim_policy (g : Tim → Tim) : (s.modTim g).policy = s.policy := rfl
@[simp] theorem State.modTim_recs (g : Tim → Tim) : (s.modTim g).recs = s.recs := rfl
@[simp] theorem State.modTim_dues (g : Tim → Tim) : (s.modTim g).dues = s.dues := rfl
@[simp] theorem State.modTim_sps (g : Tim → Tim) : (s.modTim g).sps = s.sps := rfl
@[simp] theorem State.modTim_streams (g : Tim → Tim) : (s.modTim g).streams = s.streams := rfl
@[simp] theorem State.modTim_bind (g : Tim → Tim) : (s.modTim g).bind = s.bind := rfl
@[simp] theorem State.modTim_sec (g : Tim → Tim) : (s.modTim g).sec = s.sec := rfl
@[simp] theorem State.modTim_xio (g : Tim → Tim) : (s.modTim g).xio = s.xio := rfl
@[simp] theorem State.modTim_uchans (g : Tim → Tim) : (s.modTim g).uchans = s.uchans := rfl
@[simp] theorem State.modTim_dram (g : Tim → Tim) : (s.modTim g).dram = s.dram := rfl
@[simp] theorem State.modTim_out (g : Tim → Tim) : (s.modTim g).out = s.out := rfl
@[simp] theorem State.modTim_free (g : Tim → Tim) : (s.modTim g).free = s.free := rfl
@[simp] theorem State.modTim_pending (g : Tim → Tim) : (s.modTim g).pending = s.pending := rfl

/-! ## modPwr: writes pwr only -/
@[simp] theorem State.modPwr_regs (g : Pwr → Pwr) : (s.modPwr g).regs = s.regs := rfl
@[simp] theorem State.modPwr_ctrs (g : Pwr → Pwr) : (s.modPwr g).ctrs = s.ctrs := rfl
@[simp] theorem State.modPwr_shadow (g : Pwr → Pwr) : (s.modPwr g).shadow = s.shadow := rfl
@[simp] theorem State.modPwr_stageBuf (g : Pwr → Pwr) : (s.modPwr g).stageBuf = s.stageBuf := rfl
@[simp] theorem State.modPwr_latch (g : Pwr → Pwr) : (s.modPwr g).latch = s.latch := rfl
@[simp] theorem State.modPwr_tim (g : Pwr → Pwr) : (s.modPwr g).tim = s.tim := rfl
@[simp] theorem State.modPwr_fns (g : Pwr → Pwr) : (s.modPwr g).fns = s.fns := rfl
@[simp] theorem State.modPwr_qps (g : Pwr → Pwr) : (s.modPwr g).qps = s.qps := rfl
@[simp] theorem State.modPwr_vecs (g : Pwr → Pwr) : (s.modPwr g).vecs = s.vecs := rfl
@[simp] theorem State.modPwr_fetchPf (g : Pwr → Pwr) : (s.modPwr g).fetchPf = s.fetchPf := rfl
@[simp] theorem State.modPwr_fetchFn (g : Pwr → Pwr) : (s.modPwr g).fetchFn = s.fetchFn := rfl
@[simp] theorem State.modPwr_staged (g : Pwr → Pwr) : (s.modPwr g).staged = s.staged := rfl
@[simp] theorem State.modPwr_resetDue (g : Pwr → Pwr) : (s.modPwr g).resetDue = s.resetDue := rfl
@[simp] theorem State.modPwr_slips (g : Pwr → Pwr) : (s.modPwr g).slips = s.slips := rfl
@[simp] theorem State.modPwr_keys (g : Pwr → Pwr) : (s.modPwr g).keys = s.keys := rfl
@[simp] theorem State.modPwr_granules (g : Pwr → Pwr) : (s.modPwr g).granules = s.granules := rfl
@[simp] theorem State.modPwr_obs (g : Pwr → Pwr) : (s.modPwr g).obs = s.obs := rfl
@[simp] theorem State.modPwr_si (g : Pwr → Pwr) : (s.modPwr g).si = s.si := rfl
@[simp] theorem State.modPwr_hops (g : Pwr → Pwr) : (s.modPwr g).hops = s.hops := rfl
@[simp] theorem State.modPwr_sfms (g : Pwr → Pwr) : (s.modPwr g).sfms = s.sfms := rfl
@[simp] theorem State.modPwr_quires (g : Pwr → Pwr) : (s.modPwr g).quires = s.quires := rfl
@[simp] theorem State.modPwr_arbs (g : Pwr → Pwr) : (s.modPwr g).arbs = s.arbs := rfl
@[simp] theorem State.modPwr_kxb (g : Pwr → Pwr) : (s.modPwr g).kxb = s.kxb := rfl
@[simp] theorem State.modPwr_ascu (g : Pwr → Pwr) : (s.modPwr g).ascu = s.ascu := rfl
@[simp] theorem State.modPwr_fu (g : Pwr → Pwr) : (s.modPwr g).fu = s.fu := rfl
@[simp] theorem State.modPwr_graphs (g : Pwr → Pwr) : (s.modPwr g).graphs = s.graphs := rfl
@[simp] theorem State.modPwr_contracts (g : Pwr → Pwr) : (s.modPwr g).contracts = s.contracts := rfl
@[simp] theorem State.modPwr_conAdmits (g : Pwr → Pwr) : (s.modPwr g).conAdmits = s.conAdmits := rfl
@[simp] theorem State.modPwr_nextGraph (g : Pwr → Pwr) : (s.modPwr g).nextGraph = s.nextGraph := rfl
@[simp] theorem State.modPwr_nextContract (g : Pwr → Pwr) : (s.modPwr g).nextContract = s.nextContract := rfl
@[simp] theorem State.modPwr_policy (g : Pwr → Pwr) : (s.modPwr g).policy = s.policy := rfl
@[simp] theorem State.modPwr_recs (g : Pwr → Pwr) : (s.modPwr g).recs = s.recs := rfl
@[simp] theorem State.modPwr_dues (g : Pwr → Pwr) : (s.modPwr g).dues = s.dues := rfl
@[simp] theorem State.modPwr_sps (g : Pwr → Pwr) : (s.modPwr g).sps = s.sps := rfl
@[simp] theorem State.modPwr_streams (g : Pwr → Pwr) : (s.modPwr g).streams = s.streams := rfl
@[simp] theorem State.modPwr_bind (g : Pwr → Pwr) : (s.modPwr g).bind = s.bind := rfl
@[simp] theorem State.modPwr_sec (g : Pwr → Pwr) : (s.modPwr g).sec = s.sec := rfl
@[simp] theorem State.modPwr_xio (g : Pwr → Pwr) : (s.modPwr g).xio = s.xio := rfl
@[simp] theorem State.modPwr_uchans (g : Pwr → Pwr) : (s.modPwr g).uchans = s.uchans := rfl
@[simp] theorem State.modPwr_dram (g : Pwr → Pwr) : (s.modPwr g).dram = s.dram := rfl
@[simp] theorem State.modPwr_out (g : Pwr → Pwr) : (s.modPwr g).out = s.out := rfl
@[simp] theorem State.modPwr_free (g : Pwr → Pwr) : (s.modPwr g).free = s.free := rfl
@[simp] theorem State.modPwr_pending (g : Pwr → Pwr) : (s.modPwr g).pending = s.pending := rfl

/-! ## modObs: writes obs only -/
@[simp] theorem State.modObs_regs (g : Obs → Obs) : (s.modObs g).regs = s.regs := rfl
@[simp] theorem State.modObs_ctrs (g : Obs → Obs) : (s.modObs g).ctrs = s.ctrs := rfl
@[simp] theorem State.modObs_shadow (g : Obs → Obs) : (s.modObs g).shadow = s.shadow := rfl
@[simp] theorem State.modObs_stageBuf (g : Obs → Obs) : (s.modObs g).stageBuf = s.stageBuf := rfl
@[simp] theorem State.modObs_latch (g : Obs → Obs) : (s.modObs g).latch = s.latch := rfl
@[simp] theorem State.modObs_tim (g : Obs → Obs) : (s.modObs g).tim = s.tim := rfl
@[simp] theorem State.modObs_fns (g : Obs → Obs) : (s.modObs g).fns = s.fns := rfl
@[simp] theorem State.modObs_qps (g : Obs → Obs) : (s.modObs g).qps = s.qps := rfl
@[simp] theorem State.modObs_vecs (g : Obs → Obs) : (s.modObs g).vecs = s.vecs := rfl
@[simp] theorem State.modObs_fetchPf (g : Obs → Obs) : (s.modObs g).fetchPf = s.fetchPf := rfl
@[simp] theorem State.modObs_fetchFn (g : Obs → Obs) : (s.modObs g).fetchFn = s.fetchFn := rfl
@[simp] theorem State.modObs_staged (g : Obs → Obs) : (s.modObs g).staged = s.staged := rfl
@[simp] theorem State.modObs_resetDue (g : Obs → Obs) : (s.modObs g).resetDue = s.resetDue := rfl
@[simp] theorem State.modObs_slips (g : Obs → Obs) : (s.modObs g).slips = s.slips := rfl
@[simp] theorem State.modObs_keys (g : Obs → Obs) : (s.modObs g).keys = s.keys := rfl
@[simp] theorem State.modObs_granules (g : Obs → Obs) : (s.modObs g).granules = s.granules := rfl
@[simp] theorem State.modObs_si (g : Obs → Obs) : (s.modObs g).si = s.si := rfl
@[simp] theorem State.modObs_hops (g : Obs → Obs) : (s.modObs g).hops = s.hops := rfl
@[simp] theorem State.modObs_sfms (g : Obs → Obs) : (s.modObs g).sfms = s.sfms := rfl
@[simp] theorem State.modObs_pwr (g : Obs → Obs) : (s.modObs g).pwr = s.pwr := rfl
@[simp] theorem State.modObs_quires (g : Obs → Obs) : (s.modObs g).quires = s.quires := rfl
@[simp] theorem State.modObs_arbs (g : Obs → Obs) : (s.modObs g).arbs = s.arbs := rfl
@[simp] theorem State.modObs_kxb (g : Obs → Obs) : (s.modObs g).kxb = s.kxb := rfl
@[simp] theorem State.modObs_ascu (g : Obs → Obs) : (s.modObs g).ascu = s.ascu := rfl
@[simp] theorem State.modObs_fu (g : Obs → Obs) : (s.modObs g).fu = s.fu := rfl
@[simp] theorem State.modObs_graphs (g : Obs → Obs) : (s.modObs g).graphs = s.graphs := rfl
@[simp] theorem State.modObs_contracts (g : Obs → Obs) : (s.modObs g).contracts = s.contracts := rfl
@[simp] theorem State.modObs_conAdmits (g : Obs → Obs) : (s.modObs g).conAdmits = s.conAdmits := rfl
@[simp] theorem State.modObs_nextGraph (g : Obs → Obs) : (s.modObs g).nextGraph = s.nextGraph := rfl
@[simp] theorem State.modObs_nextContract (g : Obs → Obs) : (s.modObs g).nextContract = s.nextContract := rfl
@[simp] theorem State.modObs_policy (g : Obs → Obs) : (s.modObs g).policy = s.policy := rfl
@[simp] theorem State.modObs_recs (g : Obs → Obs) : (s.modObs g).recs = s.recs := rfl
@[simp] theorem State.modObs_dues (g : Obs → Obs) : (s.modObs g).dues = s.dues := rfl
@[simp] theorem State.modObs_sps (g : Obs → Obs) : (s.modObs g).sps = s.sps := rfl
@[simp] theorem State.modObs_streams (g : Obs → Obs) : (s.modObs g).streams = s.streams := rfl
@[simp] theorem State.modObs_bind (g : Obs → Obs) : (s.modObs g).bind = s.bind := rfl
@[simp] theorem State.modObs_sec (g : Obs → Obs) : (s.modObs g).sec = s.sec := rfl
@[simp] theorem State.modObs_xio (g : Obs → Obs) : (s.modObs g).xio = s.xio := rfl
@[simp] theorem State.modObs_uchans (g : Obs → Obs) : (s.modObs g).uchans = s.uchans := rfl
@[simp] theorem State.modObs_dram (g : Obs → Obs) : (s.modObs g).dram = s.dram := rfl
@[simp] theorem State.modObs_out (g : Obs → Obs) : (s.modObs g).out = s.out := rfl
@[simp] theorem State.modObs_free (g : Obs → Obs) : (s.modObs g).free = s.free := rfl
@[simp] theorem State.modObs_pending (g : Obs → Obs) : (s.modObs g).pending = s.pending := rfl

/-! ## modXio: writes xio only -/
@[simp] theorem State.modXio_regs (g : Xio → Xio) : (s.modXio g).regs = s.regs := rfl
@[simp] theorem State.modXio_ctrs (g : Xio → Xio) : (s.modXio g).ctrs = s.ctrs := rfl
@[simp] theorem State.modXio_shadow (g : Xio → Xio) : (s.modXio g).shadow = s.shadow := rfl
@[simp] theorem State.modXio_stageBuf (g : Xio → Xio) : (s.modXio g).stageBuf = s.stageBuf := rfl
@[simp] theorem State.modXio_latch (g : Xio → Xio) : (s.modXio g).latch = s.latch := rfl
@[simp] theorem State.modXio_tim (g : Xio → Xio) : (s.modXio g).tim = s.tim := rfl
@[simp] theorem State.modXio_fns (g : Xio → Xio) : (s.modXio g).fns = s.fns := rfl
@[simp] theorem State.modXio_qps (g : Xio → Xio) : (s.modXio g).qps = s.qps := rfl
@[simp] theorem State.modXio_vecs (g : Xio → Xio) : (s.modXio g).vecs = s.vecs := rfl
@[simp] theorem State.modXio_fetchPf (g : Xio → Xio) : (s.modXio g).fetchPf = s.fetchPf := rfl
@[simp] theorem State.modXio_fetchFn (g : Xio → Xio) : (s.modXio g).fetchFn = s.fetchFn := rfl
@[simp] theorem State.modXio_staged (g : Xio → Xio) : (s.modXio g).staged = s.staged := rfl
@[simp] theorem State.modXio_resetDue (g : Xio → Xio) : (s.modXio g).resetDue = s.resetDue := rfl
@[simp] theorem State.modXio_slips (g : Xio → Xio) : (s.modXio g).slips = s.slips := rfl
@[simp] theorem State.modXio_keys (g : Xio → Xio) : (s.modXio g).keys = s.keys := rfl
@[simp] theorem State.modXio_granules (g : Xio → Xio) : (s.modXio g).granules = s.granules := rfl
@[simp] theorem State.modXio_obs (g : Xio → Xio) : (s.modXio g).obs = s.obs := rfl
@[simp] theorem State.modXio_si (g : Xio → Xio) : (s.modXio g).si = s.si := rfl
@[simp] theorem State.modXio_hops (g : Xio → Xio) : (s.modXio g).hops = s.hops := rfl
@[simp] theorem State.modXio_sfms (g : Xio → Xio) : (s.modXio g).sfms = s.sfms := rfl
@[simp] theorem State.modXio_pwr (g : Xio → Xio) : (s.modXio g).pwr = s.pwr := rfl
@[simp] theorem State.modXio_quires (g : Xio → Xio) : (s.modXio g).quires = s.quires := rfl
@[simp] theorem State.modXio_arbs (g : Xio → Xio) : (s.modXio g).arbs = s.arbs := rfl
@[simp] theorem State.modXio_kxb (g : Xio → Xio) : (s.modXio g).kxb = s.kxb := rfl
@[simp] theorem State.modXio_ascu (g : Xio → Xio) : (s.modXio g).ascu = s.ascu := rfl
@[simp] theorem State.modXio_fu (g : Xio → Xio) : (s.modXio g).fu = s.fu := rfl
@[simp] theorem State.modXio_graphs (g : Xio → Xio) : (s.modXio g).graphs = s.graphs := rfl
@[simp] theorem State.modXio_contracts (g : Xio → Xio) : (s.modXio g).contracts = s.contracts := rfl
@[simp] theorem State.modXio_conAdmits (g : Xio → Xio) : (s.modXio g).conAdmits = s.conAdmits := rfl
@[simp] theorem State.modXio_nextGraph (g : Xio → Xio) : (s.modXio g).nextGraph = s.nextGraph := rfl
@[simp] theorem State.modXio_nextContract (g : Xio → Xio) : (s.modXio g).nextContract = s.nextContract := rfl
@[simp] theorem State.modXio_policy (g : Xio → Xio) : (s.modXio g).policy = s.policy := rfl
@[simp] theorem State.modXio_recs (g : Xio → Xio) : (s.modXio g).recs = s.recs := rfl
@[simp] theorem State.modXio_dues (g : Xio → Xio) : (s.modXio g).dues = s.dues := rfl
@[simp] theorem State.modXio_sps (g : Xio → Xio) : (s.modXio g).sps = s.sps := rfl
@[simp] theorem State.modXio_streams (g : Xio → Xio) : (s.modXio g).streams = s.streams := rfl
@[simp] theorem State.modXio_bind (g : Xio → Xio) : (s.modXio g).bind = s.bind := rfl
@[simp] theorem State.modXio_sec (g : Xio → Xio) : (s.modXio g).sec = s.sec := rfl
@[simp] theorem State.modXio_uchans (g : Xio → Xio) : (s.modXio g).uchans = s.uchans := rfl
@[simp] theorem State.modXio_dram (g : Xio → Xio) : (s.modXio g).dram = s.dram := rfl
@[simp] theorem State.modXio_out (g : Xio → Xio) : (s.modXio g).out = s.out := rfl
@[simp] theorem State.modXio_free (g : Xio → Xio) : (s.modXio g).free = s.free := rfl
@[simp] theorem State.modXio_pending (g : Xio → Xio) : (s.modXio g).pending = s.pending := rfl

/-! ## modSec: writes sec only -/
@[simp] theorem State.modSec_regs (g : Sec → Sec) : (s.modSec g).regs = s.regs := rfl
@[simp] theorem State.modSec_ctrs (g : Sec → Sec) : (s.modSec g).ctrs = s.ctrs := rfl
@[simp] theorem State.modSec_shadow (g : Sec → Sec) : (s.modSec g).shadow = s.shadow := rfl
@[simp] theorem State.modSec_stageBuf (g : Sec → Sec) : (s.modSec g).stageBuf = s.stageBuf := rfl
@[simp] theorem State.modSec_latch (g : Sec → Sec) : (s.modSec g).latch = s.latch := rfl
@[simp] theorem State.modSec_tim (g : Sec → Sec) : (s.modSec g).tim = s.tim := rfl
@[simp] theorem State.modSec_fns (g : Sec → Sec) : (s.modSec g).fns = s.fns := rfl
@[simp] theorem State.modSec_qps (g : Sec → Sec) : (s.modSec g).qps = s.qps := rfl
@[simp] theorem State.modSec_vecs (g : Sec → Sec) : (s.modSec g).vecs = s.vecs := rfl
@[simp] theorem State.modSec_fetchPf (g : Sec → Sec) : (s.modSec g).fetchPf = s.fetchPf := rfl
@[simp] theorem State.modSec_fetchFn (g : Sec → Sec) : (s.modSec g).fetchFn = s.fetchFn := rfl
@[simp] theorem State.modSec_staged (g : Sec → Sec) : (s.modSec g).staged = s.staged := rfl
@[simp] theorem State.modSec_resetDue (g : Sec → Sec) : (s.modSec g).resetDue = s.resetDue := rfl
@[simp] theorem State.modSec_slips (g : Sec → Sec) : (s.modSec g).slips = s.slips := rfl
@[simp] theorem State.modSec_keys (g : Sec → Sec) : (s.modSec g).keys = s.keys := rfl
@[simp] theorem State.modSec_granules (g : Sec → Sec) : (s.modSec g).granules = s.granules := rfl
@[simp] theorem State.modSec_obs (g : Sec → Sec) : (s.modSec g).obs = s.obs := rfl
@[simp] theorem State.modSec_si (g : Sec → Sec) : (s.modSec g).si = s.si := rfl
@[simp] theorem State.modSec_hops (g : Sec → Sec) : (s.modSec g).hops = s.hops := rfl
@[simp] theorem State.modSec_sfms (g : Sec → Sec) : (s.modSec g).sfms = s.sfms := rfl
@[simp] theorem State.modSec_pwr (g : Sec → Sec) : (s.modSec g).pwr = s.pwr := rfl
@[simp] theorem State.modSec_quires (g : Sec → Sec) : (s.modSec g).quires = s.quires := rfl
@[simp] theorem State.modSec_arbs (g : Sec → Sec) : (s.modSec g).arbs = s.arbs := rfl
@[simp] theorem State.modSec_kxb (g : Sec → Sec) : (s.modSec g).kxb = s.kxb := rfl
@[simp] theorem State.modSec_ascu (g : Sec → Sec) : (s.modSec g).ascu = s.ascu := rfl
@[simp] theorem State.modSec_fu (g : Sec → Sec) : (s.modSec g).fu = s.fu := rfl
@[simp] theorem State.modSec_graphs (g : Sec → Sec) : (s.modSec g).graphs = s.graphs := rfl
@[simp] theorem State.modSec_contracts (g : Sec → Sec) : (s.modSec g).contracts = s.contracts := rfl
@[simp] theorem State.modSec_conAdmits (g : Sec → Sec) : (s.modSec g).conAdmits = s.conAdmits := rfl
@[simp] theorem State.modSec_nextGraph (g : Sec → Sec) : (s.modSec g).nextGraph = s.nextGraph := rfl
@[simp] theorem State.modSec_nextContract (g : Sec → Sec) : (s.modSec g).nextContract = s.nextContract := rfl
@[simp] theorem State.modSec_policy (g : Sec → Sec) : (s.modSec g).policy = s.policy := rfl
@[simp] theorem State.modSec_recs (g : Sec → Sec) : (s.modSec g).recs = s.recs := rfl
@[simp] theorem State.modSec_dues (g : Sec → Sec) : (s.modSec g).dues = s.dues := rfl
@[simp] theorem State.modSec_sps (g : Sec → Sec) : (s.modSec g).sps = s.sps := rfl
@[simp] theorem State.modSec_streams (g : Sec → Sec) : (s.modSec g).streams = s.streams := rfl
@[simp] theorem State.modSec_bind (g : Sec → Sec) : (s.modSec g).bind = s.bind := rfl
@[simp] theorem State.modSec_xio (g : Sec → Sec) : (s.modSec g).xio = s.xio := rfl
@[simp] theorem State.modSec_uchans (g : Sec → Sec) : (s.modSec g).uchans = s.uchans := rfl
@[simp] theorem State.modSec_dram (g : Sec → Sec) : (s.modSec g).dram = s.dram := rfl
@[simp] theorem State.modSec_out (g : Sec → Sec) : (s.modSec g).out = s.out := rfl
@[simp] theorem State.modSec_free (g : Sec → Sec) : (s.modSec g).free = s.free := rfl
@[simp] theorem State.modSec_pending (g : Sec → Sec) : (s.modSec g).pending = s.pending := rfl

/-! ## setReg: writes regs only -/
@[simp] theorem State.setReg_ctrs (k : Nat) (v : Word) : (s.setReg k v).ctrs = s.ctrs := rfl
@[simp] theorem State.setReg_shadow (k : Nat) (v : Word) : (s.setReg k v).shadow = s.shadow := rfl
@[simp] theorem State.setReg_stageBuf (k : Nat) (v : Word) : (s.setReg k v).stageBuf = s.stageBuf := rfl
@[simp] theorem State.setReg_latch (k : Nat) (v : Word) : (s.setReg k v).latch = s.latch := rfl
@[simp] theorem State.setReg_tim (k : Nat) (v : Word) : (s.setReg k v).tim = s.tim := rfl
@[simp] theorem State.setReg_fns (k : Nat) (v : Word) : (s.setReg k v).fns = s.fns := rfl
@[simp] theorem State.setReg_qps (k : Nat) (v : Word) : (s.setReg k v).qps = s.qps := rfl
@[simp] theorem State.setReg_vecs (k : Nat) (v : Word) : (s.setReg k v).vecs = s.vecs := rfl
@[simp] theorem State.setReg_fetchPf (k : Nat) (v : Word) : (s.setReg k v).fetchPf = s.fetchPf := rfl
@[simp] theorem State.setReg_fetchFn (k : Nat) (v : Word) : (s.setReg k v).fetchFn = s.fetchFn := rfl
@[simp] theorem State.setReg_staged (k : Nat) (v : Word) : (s.setReg k v).staged = s.staged := rfl
@[simp] theorem State.setReg_resetDue (k : Nat) (v : Word) : (s.setReg k v).resetDue = s.resetDue := rfl
@[simp] theorem State.setReg_slips (k : Nat) (v : Word) : (s.setReg k v).slips = s.slips := rfl
@[simp] theorem State.setReg_keys (k : Nat) (v : Word) : (s.setReg k v).keys = s.keys := rfl
@[simp] theorem State.setReg_granules (k : Nat) (v : Word) : (s.setReg k v).granules = s.granules := rfl
@[simp] theorem State.setReg_obs (k : Nat) (v : Word) : (s.setReg k v).obs = s.obs := rfl
@[simp] theorem State.setReg_si (k : Nat) (v : Word) : (s.setReg k v).si = s.si := rfl
@[simp] theorem State.setReg_hops (k : Nat) (v : Word) : (s.setReg k v).hops = s.hops := rfl
@[simp] theorem State.setReg_sfms (k : Nat) (v : Word) : (s.setReg k v).sfms = s.sfms := rfl
@[simp] theorem State.setReg_pwr (k : Nat) (v : Word) : (s.setReg k v).pwr = s.pwr := rfl
@[simp] theorem State.setReg_quires (k : Nat) (v : Word) : (s.setReg k v).quires = s.quires := rfl
@[simp] theorem State.setReg_arbs (k : Nat) (v : Word) : (s.setReg k v).arbs = s.arbs := rfl
@[simp] theorem State.setReg_kxb (k : Nat) (v : Word) : (s.setReg k v).kxb = s.kxb := rfl
@[simp] theorem State.setReg_ascu (k : Nat) (v : Word) : (s.setReg k v).ascu = s.ascu := rfl
@[simp] theorem State.setReg_fu (k : Nat) (v : Word) : (s.setReg k v).fu = s.fu := rfl
@[simp] theorem State.setReg_graphs (k : Nat) (v : Word) : (s.setReg k v).graphs = s.graphs := rfl
@[simp] theorem State.setReg_contracts (k : Nat) (v : Word) : (s.setReg k v).contracts = s.contracts := rfl
@[simp] theorem State.setReg_conAdmits (k : Nat) (v : Word) : (s.setReg k v).conAdmits = s.conAdmits := rfl
@[simp] theorem State.setReg_nextGraph (k : Nat) (v : Word) : (s.setReg k v).nextGraph = s.nextGraph := rfl
@[simp] theorem State.setReg_nextContract (k : Nat) (v : Word) : (s.setReg k v).nextContract = s.nextContract := rfl
@[simp] theorem State.setReg_policy (k : Nat) (v : Word) : (s.setReg k v).policy = s.policy := rfl
@[simp] theorem State.setReg_recs (k : Nat) (v : Word) : (s.setReg k v).recs = s.recs := rfl
@[simp] theorem State.setReg_dues (k : Nat) (v : Word) : (s.setReg k v).dues = s.dues := rfl
@[simp] theorem State.setReg_sps (k : Nat) (v : Word) : (s.setReg k v).sps = s.sps := rfl
@[simp] theorem State.setReg_streams (k : Nat) (v : Word) : (s.setReg k v).streams = s.streams := rfl
@[simp] theorem State.setReg_bind (k : Nat) (v : Word) : (s.setReg k v).bind = s.bind := rfl
@[simp] theorem State.setReg_sec (k : Nat) (v : Word) : (s.setReg k v).sec = s.sec := rfl
@[simp] theorem State.setReg_xio (k : Nat) (v : Word) : (s.setReg k v).xio = s.xio := rfl
@[simp] theorem State.setReg_uchans (k : Nat) (v : Word) : (s.setReg k v).uchans = s.uchans := rfl
@[simp] theorem State.setReg_dram (k : Nat) (v : Word) : (s.setReg k v).dram = s.dram := rfl
@[simp] theorem State.setReg_out (k : Nat) (v : Word) : (s.setReg k v).out = s.out := rfl
@[simp] theorem State.setReg_free (k : Nat) (v : Word) : (s.setReg k v).free = s.free := rfl
@[simp] theorem State.setReg_pending (k : Nat) (v : Word) : (s.setReg k v).pending = s.pending := rfl

/-! ## setRfld: writes regs only -/
@[simp] theorem State.setRfld_ctrs (k hi lo x : Nat) : (s.setRfld k hi lo x).ctrs = s.ctrs := rfl
@[simp] theorem State.setRfld_shadow (k hi lo x : Nat) : (s.setRfld k hi lo x).shadow = s.shadow := rfl
@[simp] theorem State.setRfld_stageBuf (k hi lo x : Nat) : (s.setRfld k hi lo x).stageBuf = s.stageBuf := rfl
@[simp] theorem State.setRfld_latch (k hi lo x : Nat) : (s.setRfld k hi lo x).latch = s.latch := rfl
@[simp] theorem State.setRfld_tim (k hi lo x : Nat) : (s.setRfld k hi lo x).tim = s.tim := rfl
@[simp] theorem State.setRfld_fns (k hi lo x : Nat) : (s.setRfld k hi lo x).fns = s.fns := rfl
@[simp] theorem State.setRfld_qps (k hi lo x : Nat) : (s.setRfld k hi lo x).qps = s.qps := rfl
@[simp] theorem State.setRfld_vecs (k hi lo x : Nat) : (s.setRfld k hi lo x).vecs = s.vecs := rfl
@[simp] theorem State.setRfld_fetchPf (k hi lo x : Nat) : (s.setRfld k hi lo x).fetchPf = s.fetchPf := rfl
@[simp] theorem State.setRfld_fetchFn (k hi lo x : Nat) : (s.setRfld k hi lo x).fetchFn = s.fetchFn := rfl
@[simp] theorem State.setRfld_staged (k hi lo x : Nat) : (s.setRfld k hi lo x).staged = s.staged := rfl
@[simp] theorem State.setRfld_resetDue (k hi lo x : Nat) : (s.setRfld k hi lo x).resetDue = s.resetDue := rfl
@[simp] theorem State.setRfld_slips (k hi lo x : Nat) : (s.setRfld k hi lo x).slips = s.slips := rfl
@[simp] theorem State.setRfld_keys (k hi lo x : Nat) : (s.setRfld k hi lo x).keys = s.keys := rfl
@[simp] theorem State.setRfld_granules (k hi lo x : Nat) : (s.setRfld k hi lo x).granules = s.granules := rfl
@[simp] theorem State.setRfld_obs (k hi lo x : Nat) : (s.setRfld k hi lo x).obs = s.obs := rfl
@[simp] theorem State.setRfld_si (k hi lo x : Nat) : (s.setRfld k hi lo x).si = s.si := rfl
@[simp] theorem State.setRfld_hops (k hi lo x : Nat) : (s.setRfld k hi lo x).hops = s.hops := rfl
@[simp] theorem State.setRfld_sfms (k hi lo x : Nat) : (s.setRfld k hi lo x).sfms = s.sfms := rfl
@[simp] theorem State.setRfld_pwr (k hi lo x : Nat) : (s.setRfld k hi lo x).pwr = s.pwr := rfl
@[simp] theorem State.setRfld_quires (k hi lo x : Nat) : (s.setRfld k hi lo x).quires = s.quires := rfl
@[simp] theorem State.setRfld_arbs (k hi lo x : Nat) : (s.setRfld k hi lo x).arbs = s.arbs := rfl
@[simp] theorem State.setRfld_kxb (k hi lo x : Nat) : (s.setRfld k hi lo x).kxb = s.kxb := rfl
@[simp] theorem State.setRfld_ascu (k hi lo x : Nat) : (s.setRfld k hi lo x).ascu = s.ascu := rfl
@[simp] theorem State.setRfld_fu (k hi lo x : Nat) : (s.setRfld k hi lo x).fu = s.fu := rfl
@[simp] theorem State.setRfld_graphs (k hi lo x : Nat) : (s.setRfld k hi lo x).graphs = s.graphs := rfl
@[simp] theorem State.setRfld_contracts (k hi lo x : Nat) : (s.setRfld k hi lo x).contracts = s.contracts := rfl
@[simp] theorem State.setRfld_conAdmits (k hi lo x : Nat) : (s.setRfld k hi lo x).conAdmits = s.conAdmits := rfl
@[simp] theorem State.setRfld_nextGraph (k hi lo x : Nat) : (s.setRfld k hi lo x).nextGraph = s.nextGraph := rfl
@[simp] theorem State.setRfld_nextContract (k hi lo x : Nat) : (s.setRfld k hi lo x).nextContract = s.nextContract := rfl
@[simp] theorem State.setRfld_policy (k hi lo x : Nat) : (s.setRfld k hi lo x).policy = s.policy := rfl
@[simp] theorem State.setRfld_recs (k hi lo x : Nat) : (s.setRfld k hi lo x).recs = s.recs := rfl
@[simp] theorem State.setRfld_dues (k hi lo x : Nat) : (s.setRfld k hi lo x).dues = s.dues := rfl
@[simp] theorem State.setRfld_sps (k hi lo x : Nat) : (s.setRfld k hi lo x).sps = s.sps := rfl
@[simp] theorem State.setRfld_streams (k hi lo x : Nat) : (s.setRfld k hi lo x).streams = s.streams := rfl
@[simp] theorem State.setRfld_bind (k hi lo x : Nat) : (s.setRfld k hi lo x).bind = s.bind := rfl
@[simp] theorem State.setRfld_sec (k hi lo x : Nat) : (s.setRfld k hi lo x).sec = s.sec := rfl
@[simp] theorem State.setRfld_xio (k hi lo x : Nat) : (s.setRfld k hi lo x).xio = s.xio := rfl
@[simp] theorem State.setRfld_uchans (k hi lo x : Nat) : (s.setRfld k hi lo x).uchans = s.uchans := rfl
@[simp] theorem State.setRfld_dram (k hi lo x : Nat) : (s.setRfld k hi lo x).dram = s.dram := rfl
@[simp] theorem State.setRfld_out (k hi lo x : Nat) : (s.setRfld k hi lo x).out = s.out := rfl
@[simp] theorem State.setRfld_free (k hi lo x : Nat) : (s.setRfld k hi lo x).free = s.free := rfl
@[simp] theorem State.setRfld_pending (k hi lo x : Nat) : (s.setRfld k hi lo x).pending = s.pending := rfl

/-! ## orReg: writes regs only -/
@[simp] theorem State.orReg_ctrs (k : Nat) (m : Word) : (s.orReg k m).ctrs = s.ctrs := rfl
@[simp] theorem State.orReg_shadow (k : Nat) (m : Word) : (s.orReg k m).shadow = s.shadow := rfl
@[simp] theorem State.orReg_stageBuf (k : Nat) (m : Word) : (s.orReg k m).stageBuf = s.stageBuf := rfl
@[simp] theorem State.orReg_latch (k : Nat) (m : Word) : (s.orReg k m).latch = s.latch := rfl
@[simp] theorem State.orReg_tim (k : Nat) (m : Word) : (s.orReg k m).tim = s.tim := rfl
@[simp] theorem State.orReg_fns (k : Nat) (m : Word) : (s.orReg k m).fns = s.fns := rfl
@[simp] theorem State.orReg_qps (k : Nat) (m : Word) : (s.orReg k m).qps = s.qps := rfl
@[simp] theorem State.orReg_vecs (k : Nat) (m : Word) : (s.orReg k m).vecs = s.vecs := rfl
@[simp] theorem State.orReg_fetchPf (k : Nat) (m : Word) : (s.orReg k m).fetchPf = s.fetchPf := rfl
@[simp] theorem State.orReg_fetchFn (k : Nat) (m : Word) : (s.orReg k m).fetchFn = s.fetchFn := rfl
@[simp] theorem State.orReg_staged (k : Nat) (m : Word) : (s.orReg k m).staged = s.staged := rfl
@[simp] theorem State.orReg_resetDue (k : Nat) (m : Word) : (s.orReg k m).resetDue = s.resetDue := rfl
@[simp] theorem State.orReg_slips (k : Nat) (m : Word) : (s.orReg k m).slips = s.slips := rfl
@[simp] theorem State.orReg_keys (k : Nat) (m : Word) : (s.orReg k m).keys = s.keys := rfl
@[simp] theorem State.orReg_granules (k : Nat) (m : Word) : (s.orReg k m).granules = s.granules := rfl
@[simp] theorem State.orReg_obs (k : Nat) (m : Word) : (s.orReg k m).obs = s.obs := rfl
@[simp] theorem State.orReg_si (k : Nat) (m : Word) : (s.orReg k m).si = s.si := rfl
@[simp] theorem State.orReg_hops (k : Nat) (m : Word) : (s.orReg k m).hops = s.hops := rfl
@[simp] theorem State.orReg_sfms (k : Nat) (m : Word) : (s.orReg k m).sfms = s.sfms := rfl
@[simp] theorem State.orReg_pwr (k : Nat) (m : Word) : (s.orReg k m).pwr = s.pwr := rfl
@[simp] theorem State.orReg_quires (k : Nat) (m : Word) : (s.orReg k m).quires = s.quires := rfl
@[simp] theorem State.orReg_arbs (k : Nat) (m : Word) : (s.orReg k m).arbs = s.arbs := rfl
@[simp] theorem State.orReg_kxb (k : Nat) (m : Word) : (s.orReg k m).kxb = s.kxb := rfl
@[simp] theorem State.orReg_ascu (k : Nat) (m : Word) : (s.orReg k m).ascu = s.ascu := rfl
@[simp] theorem State.orReg_fu (k : Nat) (m : Word) : (s.orReg k m).fu = s.fu := rfl
@[simp] theorem State.orReg_graphs (k : Nat) (m : Word) : (s.orReg k m).graphs = s.graphs := rfl
@[simp] theorem State.orReg_contracts (k : Nat) (m : Word) : (s.orReg k m).contracts = s.contracts := rfl
@[simp] theorem State.orReg_conAdmits (k : Nat) (m : Word) : (s.orReg k m).conAdmits = s.conAdmits := rfl
@[simp] theorem State.orReg_nextGraph (k : Nat) (m : Word) : (s.orReg k m).nextGraph = s.nextGraph := rfl
@[simp] theorem State.orReg_nextContract (k : Nat) (m : Word) : (s.orReg k m).nextContract = s.nextContract := rfl
@[simp] theorem State.orReg_policy (k : Nat) (m : Word) : (s.orReg k m).policy = s.policy := rfl
@[simp] theorem State.orReg_recs (k : Nat) (m : Word) : (s.orReg k m).recs = s.recs := rfl
@[simp] theorem State.orReg_dues (k : Nat) (m : Word) : (s.orReg k m).dues = s.dues := rfl
@[simp] theorem State.orReg_sps (k : Nat) (m : Word) : (s.orReg k m).sps = s.sps := rfl
@[simp] theorem State.orReg_streams (k : Nat) (m : Word) : (s.orReg k m).streams = s.streams := rfl
@[simp] theorem State.orReg_bind (k : Nat) (m : Word) : (s.orReg k m).bind = s.bind := rfl
@[simp] theorem State.orReg_sec (k : Nat) (m : Word) : (s.orReg k m).sec = s.sec := rfl
@[simp] theorem State.orReg_xio (k : Nat) (m : Word) : (s.orReg k m).xio = s.xio := rfl
@[simp] theorem State.orReg_uchans (k : Nat) (m : Word) : (s.orReg k m).uchans = s.uchans := rfl
@[simp] theorem State.orReg_dram (k : Nat) (m : Word) : (s.orReg k m).dram = s.dram := rfl
@[simp] theorem State.orReg_out (k : Nat) (m : Word) : (s.orReg k m).out = s.out := rfl
@[simp] theorem State.orReg_free (k : Nat) (m : Word) : (s.orReg k m).free = s.free := rfl
@[simp] theorem State.orReg_pending (k : Nat) (m : Word) : (s.orReg k m).pending = s.pending := rfl

/-! ## bump: writes ctrs only -/
@[simp] theorem State.bump_regs (k n : Nat) : (s.bump k n).regs = s.regs := rfl
@[simp] theorem State.bump_shadow (k n : Nat) : (s.bump k n).shadow = s.shadow := rfl
@[simp] theorem State.bump_stageBuf (k n : Nat) : (s.bump k n).stageBuf = s.stageBuf := rfl
@[simp] theorem State.bump_latch (k n : Nat) : (s.bump k n).latch = s.latch := rfl
@[simp] theorem State.bump_tim (k n : Nat) : (s.bump k n).tim = s.tim := rfl
@[simp] theorem State.bump_fns (k n : Nat) : (s.bump k n).fns = s.fns := rfl
@[simp] theorem State.bump_qps (k n : Nat) : (s.bump k n).qps = s.qps := rfl
@[simp] theorem State.bump_vecs (k n : Nat) : (s.bump k n).vecs = s.vecs := rfl
@[simp] theorem State.bump_fetchPf (k n : Nat) : (s.bump k n).fetchPf = s.fetchPf := rfl
@[simp] theorem State.bump_fetchFn (k n : Nat) : (s.bump k n).fetchFn = s.fetchFn := rfl
@[simp] theorem State.bump_staged (k n : Nat) : (s.bump k n).staged = s.staged := rfl
@[simp] theorem State.bump_resetDue (k n : Nat) : (s.bump k n).resetDue = s.resetDue := rfl
@[simp] theorem State.bump_slips (k n : Nat) : (s.bump k n).slips = s.slips := rfl
@[simp] theorem State.bump_keys (k n : Nat) : (s.bump k n).keys = s.keys := rfl
@[simp] theorem State.bump_granules (k n : Nat) : (s.bump k n).granules = s.granules := rfl
@[simp] theorem State.bump_obs (k n : Nat) : (s.bump k n).obs = s.obs := rfl
@[simp] theorem State.bump_si (k n : Nat) : (s.bump k n).si = s.si := rfl
@[simp] theorem State.bump_hops (k n : Nat) : (s.bump k n).hops = s.hops := rfl
@[simp] theorem State.bump_sfms (k n : Nat) : (s.bump k n).sfms = s.sfms := rfl
@[simp] theorem State.bump_pwr (k n : Nat) : (s.bump k n).pwr = s.pwr := rfl
@[simp] theorem State.bump_quires (k n : Nat) : (s.bump k n).quires = s.quires := rfl
@[simp] theorem State.bump_arbs (k n : Nat) : (s.bump k n).arbs = s.arbs := rfl
@[simp] theorem State.bump_kxb (k n : Nat) : (s.bump k n).kxb = s.kxb := rfl
@[simp] theorem State.bump_ascu (k n : Nat) : (s.bump k n).ascu = s.ascu := rfl
@[simp] theorem State.bump_fu (k n : Nat) : (s.bump k n).fu = s.fu := rfl
@[simp] theorem State.bump_graphs (k n : Nat) : (s.bump k n).graphs = s.graphs := rfl
@[simp] theorem State.bump_contracts (k n : Nat) : (s.bump k n).contracts = s.contracts := rfl
@[simp] theorem State.bump_conAdmits (k n : Nat) : (s.bump k n).conAdmits = s.conAdmits := rfl
@[simp] theorem State.bump_nextGraph (k n : Nat) : (s.bump k n).nextGraph = s.nextGraph := rfl
@[simp] theorem State.bump_nextContract (k n : Nat) : (s.bump k n).nextContract = s.nextContract := rfl
@[simp] theorem State.bump_policy (k n : Nat) : (s.bump k n).policy = s.policy := rfl
@[simp] theorem State.bump_recs (k n : Nat) : (s.bump k n).recs = s.recs := rfl
@[simp] theorem State.bump_dues (k n : Nat) : (s.bump k n).dues = s.dues := rfl
@[simp] theorem State.bump_sps (k n : Nat) : (s.bump k n).sps = s.sps := rfl
@[simp] theorem State.bump_streams (k n : Nat) : (s.bump k n).streams = s.streams := rfl
@[simp] theorem State.bump_bind (k n : Nat) : (s.bump k n).bind = s.bind := rfl
@[simp] theorem State.bump_sec (k n : Nat) : (s.bump k n).sec = s.sec := rfl
@[simp] theorem State.bump_xio (k n : Nat) : (s.bump k n).xio = s.xio := rfl
@[simp] theorem State.bump_uchans (k n : Nat) : (s.bump k n).uchans = s.uchans := rfl
@[simp] theorem State.bump_dram (k n : Nat) : (s.bump k n).dram = s.dram := rfl
@[simp] theorem State.bump_out (k n : Nat) : (s.bump k n).out = s.out := rfl
@[simp] theorem State.bump_free (k n : Nat) : (s.bump k n).free = s.free := rfl
@[simp] theorem State.bump_pending (k n : Nat) : (s.bump k n).pending = s.pending := rfl

/-! ## emit: writes out only -/
@[simp] theorem State.emit_regs (k : EmitKind) (dst data : List Nat) : (s.emit k dst data).regs = s.regs := rfl
@[simp] theorem State.emit_ctrs (k : EmitKind) (dst data : List Nat) : (s.emit k dst data).ctrs = s.ctrs := rfl
@[simp] theorem State.emit_shadow (k : EmitKind) (dst data : List Nat) : (s.emit k dst data).shadow = s.shadow := rfl
@[simp] theorem State.emit_stageBuf (k : EmitKind) (dst data : List Nat) : (s.emit k dst data).stageBuf = s.stageBuf := rfl
@[simp] theorem State.emit_latch (k : EmitKind) (dst data : List Nat) : (s.emit k dst data).latch = s.latch := rfl
@[simp] theorem State.emit_tim (k : EmitKind) (dst data : List Nat) : (s.emit k dst data).tim = s.tim := rfl
@[simp] theorem State.emit_fns (k : EmitKind) (dst data : List Nat) : (s.emit k dst data).fns = s.fns := rfl
@[simp] theorem State.emit_qps (k : EmitKind) (dst data : List Nat) : (s.emit k dst data).qps = s.qps := rfl
@[simp] theorem State.emit_vecs (k : EmitKind) (dst data : List Nat) : (s.emit k dst data).vecs = s.vecs := rfl
@[simp] theorem State.emit_fetchPf (k : EmitKind) (dst data : List Nat) : (s.emit k dst data).fetchPf = s.fetchPf := rfl
@[simp] theorem State.emit_fetchFn (k : EmitKind) (dst data : List Nat) : (s.emit k dst data).fetchFn = s.fetchFn := rfl
@[simp] theorem State.emit_staged (k : EmitKind) (dst data : List Nat) : (s.emit k dst data).staged = s.staged := rfl
@[simp] theorem State.emit_resetDue (k : EmitKind) (dst data : List Nat) : (s.emit k dst data).resetDue = s.resetDue := rfl
@[simp] theorem State.emit_slips (k : EmitKind) (dst data : List Nat) : (s.emit k dst data).slips = s.slips := rfl
@[simp] theorem State.emit_keys (k : EmitKind) (dst data : List Nat) : (s.emit k dst data).keys = s.keys := rfl
@[simp] theorem State.emit_granules (k : EmitKind) (dst data : List Nat) : (s.emit k dst data).granules = s.granules := rfl
@[simp] theorem State.emit_obs (k : EmitKind) (dst data : List Nat) : (s.emit k dst data).obs = s.obs := rfl
@[simp] theorem State.emit_si (k : EmitKind) (dst data : List Nat) : (s.emit k dst data).si = s.si := rfl
@[simp] theorem State.emit_hops (k : EmitKind) (dst data : List Nat) : (s.emit k dst data).hops = s.hops := rfl
@[simp] theorem State.emit_sfms (k : EmitKind) (dst data : List Nat) : (s.emit k dst data).sfms = s.sfms := rfl
@[simp] theorem State.emit_pwr (k : EmitKind) (dst data : List Nat) : (s.emit k dst data).pwr = s.pwr := rfl
@[simp] theorem State.emit_quires (k : EmitKind) (dst data : List Nat) : (s.emit k dst data).quires = s.quires := rfl
@[simp] theorem State.emit_arbs (k : EmitKind) (dst data : List Nat) : (s.emit k dst data).arbs = s.arbs := rfl
@[simp] theorem State.emit_kxb (k : EmitKind) (dst data : List Nat) : (s.emit k dst data).kxb = s.kxb := rfl
@[simp] theorem State.emit_ascu (k : EmitKind) (dst data : List Nat) : (s.emit k dst data).ascu = s.ascu := rfl
@[simp] theorem State.emit_fu (k : EmitKind) (dst data : List Nat) : (s.emit k dst data).fu = s.fu := rfl
@[simp] theorem State.emit_graphs (k : EmitKind) (dst data : List Nat) : (s.emit k dst data).graphs = s.graphs := rfl
@[simp] theorem State.emit_contracts (k : EmitKind) (dst data : List Nat) : (s.emit k dst data).contracts = s.contracts := rfl
@[simp] theorem State.emit_conAdmits (k : EmitKind) (dst data : List Nat) : (s.emit k dst data).conAdmits = s.conAdmits := rfl
@[simp] theorem State.emit_nextGraph (k : EmitKind) (dst data : List Nat) : (s.emit k dst data).nextGraph = s.nextGraph := rfl
@[simp] theorem State.emit_nextContract (k : EmitKind) (dst data : List Nat) : (s.emit k dst data).nextContract = s.nextContract := rfl
@[simp] theorem State.emit_policy (k : EmitKind) (dst data : List Nat) : (s.emit k dst data).policy = s.policy := rfl
@[simp] theorem State.emit_recs (k : EmitKind) (dst data : List Nat) : (s.emit k dst data).recs = s.recs := rfl
@[simp] theorem State.emit_dues (k : EmitKind) (dst data : List Nat) : (s.emit k dst data).dues = s.dues := rfl
@[simp] theorem State.emit_sps (k : EmitKind) (dst data : List Nat) : (s.emit k dst data).sps = s.sps := rfl
@[simp] theorem State.emit_streams (k : EmitKind) (dst data : List Nat) : (s.emit k dst data).streams = s.streams := rfl
@[simp] theorem State.emit_bind (k : EmitKind) (dst data : List Nat) : (s.emit k dst data).bind = s.bind := rfl
@[simp] theorem State.emit_sec (k : EmitKind) (dst data : List Nat) : (s.emit k dst data).sec = s.sec := rfl
@[simp] theorem State.emit_xio (k : EmitKind) (dst data : List Nat) : (s.emit k dst data).xio = s.xio := rfl
@[simp] theorem State.emit_uchans (k : EmitKind) (dst data : List Nat) : (s.emit k dst data).uchans = s.uchans := rfl
@[simp] theorem State.emit_dram (k : EmitKind) (dst data : List Nat) : (s.emit k dst data).dram = s.dram := rfl
@[simp] theorem State.emit_free (k : EmitKind) (dst data : List Nat) : (s.emit k dst data).free = s.free := rfl
@[simp] theorem State.emit_pending (k : EmitKind) (dst data : List Nat) : (s.emit k dst data).pending = s.pending := rfl

/-! ## What an update's own field then holds -/

theorem State.modQp_qp_self {s : State} (k : Nat) (g : QPair → QPair) (h : SMap.wf {} s.qps = true) : (s.modQp k g).qp k = g (s.qp k) :=
  SMap.get_upd_self h

theorem State.modQp_qp_ne (s : State) {k j : Nat} (g : QPair → QPair) (h : j ≠ k) : (s.modQp k g).qp j = s.qp j := SMap.get_upd_ne h

theorem State.reg_setReg_self {s : State} (k : Nat) (v : Word) (h : SMap.wf none s.regs = true) : (s.setReg k v).reg k = v := by
  unfold State.reg State.setReg
  rw [SMap.get_put_self h]
  split <;> simp_all

theorem State.reg_setReg_ne (s : State) {k j : Nat} (v : Word) (h : j ≠ k) : (s.setReg k v).reg j = s.reg j := by
  unfold State.reg State.setReg
  rw [SMap.get_put_ne h]

theorem State.ctr_bump_self {s : State} (k n : Nat) (h : SMap.wf 0 s.ctrs = true) : (s.bump k n).ctr k = s.ctr k + BitVec.ofNat 48 n :=
  SMap.get_put_self h

theorem State.ctr_bump_ne (s : State) {k j : Nat} (n : Nat) (h : j ≠ k) : (s.bump k n).ctr j = s.ctr j := SMap.get_put_ne h

end Sys2Proof.Machine
end

