-- ==== Sys2Proof/Laws/Cmd.lean ====
section
/-! SUPPORT. What the operations shared by the command rows do: the trace, the completion of a command, its Brew, and running it. -/
namespace Sys2Proof.Machine

@[simp] theorem State.traced_self (s : State) : State.Traced s s := ⟨rfl, fun _ _ => rfl, fun _ _ _ => rfl⟩

theorem bump_reg (s : State) (k n j : Nat) : (s.bump k n).reg j = s.reg j := rfl

theorem setReg_ctr (s : State) (k : Nat) (v : Word) (j : Nat) : (s.setReg k v).ctr j = s.ctr j := rfl

theorem Obs.push_frame (o : Obs) (kind source slip arg code tick : Nat) (data : List Nat) :
    o.push kind source slip arg code tick data =
      { o with ring := (o.push kind source slip arg code tick data).ring, seqs := (o.push kind source slip arg code tick data).seqs } := rfl

theorem Obs.marker_frame (o : Obs) (kind : Nat) (r : DropRun) :
    o.marker kind r = { o with ring := (o.marker kind r).ring, seqs := (o.marker kind r).seqs } := by
  unfold Obs.marker
  split
  · rfl
  · rw [Obs.push_frame]

/-- Everything a trace point can do. -/
theorem State.trace_traced (s : State) (source slip point : Nat) (data : List Nat) : State.Traced s (s.trace source slip point data) := by
  unfold State.trace
  split
  · simp
  · extract_lets t need o s'
    split
    · refine ⟨?_, fun k _ => rfl, fun k h1 _ => ?_⟩
      · simp only [State.bump, o]
        rw [Obs.push_frame, Obs.marker_frame]
      · exact State.ctr_bump_ne _ _ h1
    · refine ⟨rfl, fun k h => ?_, fun k _ h2 => ?_⟩
      · exact State.reg_setReg_ne _ _ h
      · exact State.ctr_bump_ne _ _ h2

theorem State.complete_answered {u : State} {h : CmdRef} {f : Fetched} (hf : u.fetchedOf h = some f) (status detail : Nat)
    (r : BitVec 128) (hd : detail ≠ 0xF007) : State.Answered u (u.complete h status detail r) h status detail r := by
  refine ⟨f, hf, ?_⟩
  unfold State.complete
  rw [hf]
  simp only [hd, if_false]
  exact State.trace_traced _ _ _ _ _

theorem State.startable_fetched {s : State} {h : CmdRef} {opc : Nat} {f : Fetched} (hs : s.startable h opc = some f) :
    s.fetchedOf h = some f := by
  unfold State.startable at hs
  split at hs
  · cases hs
  · rename_i g hg
    simp only at hs
    split at hs
    · cases hs; exact hg
    · cases hs

theorem State.power_frame (s : State) (ds : List Nat) :
    s.power ds = { s with quires := (s.power ds).quires, pwr := (s.power ds).pwr } := by
  have inner : ∀ (l : List Nat) (d : Nat) (s : State),
      l.foldl (fun s i => s.modQuire (4 * (d - 25) + i) (fun x => { x with curStep := x.target })) s =
      { s with quires := (l.foldl (fun s i => s.modQuire (4 * (d - 25) + i) (fun x => { x with curStep := x.target })) s).quires } := by
    intro l d
    induction l with
    | nil => intro s; rfl
    | cons a r ih => intro s; simp only [List.foldl_cons]; rw [ih]; rfl
  have outer : ∀ (l : List Nat) (s : State),
      l.foldl (fun s d => if 25 ≤ d ∧ d < 42 then
        (List.range 4).foldl (fun s i => s.modQuire (4 * (d - 25) + i) (fun x => { x with curStep := x.target })) s else s) s =
      { s with quires := (l.foldl (fun s d => if 25 ≤ d ∧ d < 42 then
        (List.range 4).foldl (fun s i => s.modQuire (4 * (d - 25) + i) (fun x => { x with curStep := x.target })) s else s) s).quires } := by
    intro l
    induction l with
    | nil => intro s; rfl
    | cons a r ih =>
      intro s; simp only [List.foldl_cons]; rw [ih]
      split
      · rw [inner]
      · rfl
  unfold State.power
  simp only [State.modPwr]
  rw [outer]

/-- What a Brew writes: the power state, the woken quires' steps, its counter and trace record. -/
theorem State.brew_frame (s : State) (ds : List Nat) : s.brew ds =
    { s with quires := (s.brew ds).quires, pwr := (s.brew ds).pwr, regs := (s.brew ds).regs, ctrs := (s.brew ds).ctrs, obs := (s.brew ds).obs } := by
  unfold State.brew
  simp only
  split
  · rfl
  · rw [State.power_frame, (State.trace_traced _ _ _ _ _).1]
    rfl

theorem State.brewFor_frame (s : State) (f : Fetched) (c : Instr) : ∃ ds, s.brewFor f c = s.brew ds := by
  unfold State.brewFor
  split
  · exact ⟨_, rfl⟩
  · exact ⟨_, rfl⟩

theorem State.brewFor_fetchedOf (s : State) (f : Fetched) (c : Instr) (h : CmdRef) : (s.brewFor f c).fetchedOf h = s.fetchedOf h := by
  obtain ⟨ds, hd⟩ := s.brewFor_frame f c
  rw [hd, State.brew_frame]
  rfl

/-- A command that starts at once runs on the state after its Brew. -/
theorem State.cmd_starts {s b : State} {h : CmdRef} {opc : Nat} {c : Instr} {f : Fetched} (hs : s.Starts h opc c f b)
    (run : State → Fetched → Res) : s.cmd h opc c run = b.finish h (run b f) := by
  obtain ⟨h1, h2, rfl, h4⟩ := hs
  unfold State.cmd
  simp only [h1, h4, h2, Bool.false_eq_true, if_false]

theorem State.Starts.fetched {s b : State} {h : CmdRef} {opc : Nat} {c : Instr} {f : Fetched} (hs : s.Starts h opc c f b) :
    b.fetchedOf h = some f := by
  rw [hs.2.2.1, State.brewFor_fetchedOf]
  exact State.startable_fetched hs.1

/-- A run that answers OK leaves the command answered. -/
theorem State.finish_ok {b u : State} {h : CmdRef} {f : Fetched} {r : BitVec 128} (hu : u.fetchedOf h = some f) :
    State.Answered u (b.finish h (.ok u r)) h 0 0 r := by
  exact State.complete_answered hu 0 0 r (by decide)

/-- A run that fails without effect leaves the command answered with its status. -/
theorem State.finish_err (b : State) (h : CmdRef) (st det : Nat) (r : BitVec 128) : b.finish h (.err b st det r) = b.complete h st det r := by
  unfold State.finish Res.err
  cases st <;> rfl

theorem State.finish_res_ok (b u : State) (h : CmdRef) (r : BitVec 128) : b.finish h (.ok u r) = u.complete h 0 0 r := rfl

/-- A row whose run answers OK on the state after its Brew completes. -/
theorem State.cmd_ok {s b u : State} {h : CmdRef} {opc : Nat} {c : Instr} {f : Fetched} {r : BitVec 128} {run : State → Fetched → Res}
    (hs : s.Starts h opc c f b) (hr : run b f = .ok u r) (hu : u.fetchedOf h = b.fetchedOf h) :
    ∃ t, (Host.Outcome.next (s.cmd h opc c run) : Host.Outcome State Fault Refusal) = .next t ∧ State.Answered u t h 0 0 r := by
  refine ⟨_, rfl, ?_⟩
  rw [State.cmd_starts hs, hr]
  exact State.finish_ok (hu.trans hs.fetched)

/-! ## What a command row does before its own effect -/

theorem stagedDown_self (s : State) (k op) : s.stagedDown s k op = s := by simp [State.stagedDown]

theorem stagedDown_same {s t : State} (k op) (h : t.staged = s.staged) : s.stagedDown t k op = t := by simp [State.stagedDown, h]

theorem complete_staged (s : State) (h st det r) : (s.complete h st det r).staged = s.staged := by
  unfold State.complete
  split
  · rfl
  · simp only
    rw [(State.trace_traced _ _ _ _ _).1]
    split <;> rfl

theorem brewFor_staged (s : State) (f c) : (s.brewFor f c).staged = s.staged := by
  obtain ⟨ds, hd⟩ := s.brewFor_frame f c
  rw [hd, State.brew_frame]

theorem brewFor_tim (s : State) (f c) : (s.brewFor f c).tim = s.tim := by
  obtain ⟨ds, hd⟩ := s.brewFor_frame f c
  rw [hd, State.brew_frame]

theorem objErr_congr {s t : State} (h1 : t.fns = s.fns) (h2 : t.slips = s.slips) (h3 : t.graphs = s.graphs) (h4 : t.contracts = s.contracts) (opc f o) :
    t.objErr opc f o = s.objErr opc f o := by
  obtain ⟨⟩ := s; obtain ⟨⟩ := t; simp only at h1 h2 h3 h4; subst h1 h2 h3 h4; rfl

theorem brewFor_objErr (s : State) (fe c opc f o) : (s.brewFor fe c).objErr opc f o = s.objErr opc f o := by
  obtain ⟨ds, hd⟩ := s.brewFor_frame fe c
  rw [hd, State.brew_frame]
  exact objErr_congr rfl rfl rfl rfl _ _ _

theorem cmd_none {s : State} {h opc c run} (hs : s.startable h opc = none) : s.cmd h opc c run = s := by simp [State.cmd, hs]

theorem cmdOpen_none {s : State} {h opc c run} (hs : s.startable h opc = none) : s.cmdOpen h opc c run = s := by simp [State.cmdOpen, hs]

theorem cmdAt_none {s : State} {h opc c run} (hs : s.startable h opc = none) : s.cmdAt h opc c run = s := by
  unfold State.cmdAt; exact cmdOpen_none hs

theorem cmd_objErr {s : State} {h opc c run f st det} (hs : s.startable h opc = some f) (ho : (s.brewFor f c).objErr opc h.fn.toNat f.objId.toNat = some (st, det)) :
    s.cmd h opc c run = (s.brewFor f c).complete h st det := by simp [State.cmd, hs, ho]

theorem cmdOpen_objErr {s : State} {h opc c run f st det} (hs : s.startable h opc = some f) (ho : (s.brewFor f c).objErr opc h.fn.toNat f.objId.toNat = some (st, det)) :
    s.cmdOpen h opc c run = (s.brewFor f c).complete h st det := by simp [State.cmdOpen, hs, ho]

theorem cmdAt_objErr {s : State} {h opc c run f st det} (hs : s.startable h opc = some f) (ho : (s.brewFor f c).objErr opc h.fn.toNat f.objId.toNat = some (st, det)) :
    s.cmdAt h opc c run = (s.brewFor f c).complete h st det := by
  unfold State.cmdAt; exact cmdOpen_objErr hs ho

theorem cmd_lead {s : State} {h opc c run f} (hs : s.startable h opc = some f) (ho : (s.brewFor f c).objErr opc h.fn.toNat f.objId.toNat = none)
    (ha : f.atEn = true) (hl : (s.brewFor f c).lead f.atTick = none) :
    s.cmd h opc c run = (s.brewFor f c).complete h 0x102 0xF022 := by simp [State.cmd, hs, ho, ha, hl, stBadParam]

theorem cmdOpen_err {s : State} {h opc c run f st det} (hs : s.startable h opc = some f) (ho : (s.brewFor f c).objErr opc h.fn.toNat f.objId.toNat = none)
    (hr : run (s.brewFor f c) f = .err (s.brewFor f c) st det 0) : s.cmdOpen h opc c run = (s.brewFor f c).complete h st det := by
  unfold State.cmdOpen
  rw [hs]; simp only; rw [ho]; simp only; rw [hr]
  exact State.finish_err _ _ _ _ _

theorem cmdAt_lead {s : State} {h opc c run f} (hs : s.startable h opc = some f) (ho : (s.brewFor f c).objErr opc h.fn.toNat f.objId.toNat = none)
    (hl : (s.brewFor f c).lead f.atTick = none) :
    s.cmdAt h opc c run = (s.brewFor f c).complete h 0x102 0xF022 := by
  unfold State.cmdAt
  refine cmdOpen_err hs ho ?_
  rw [hl]; simp only [stBadParam]

end Sys2Proof.Machine
end

