-- ==== Sys2Proof/WellFormed.lean ====
section
/-! DEFINITION. Well-formed commands: operands that their packet, message or interface can carry. The meanings answer every command,
well formed or not; a check names what no sender can spell. -/
namespace Sys2Proof

/-- A body fits the 255 slots of a packet behind its header (Table 13.3). -/
def bodyFits (n : Nat) : Bool := decide (n ≤ 255 * 64 - 16)

/-- A host access covers one to eight bytes (R562). -/
def widthOk (w : Nat) : Bool := decide (1 ≤ w ∧ w ≤ 8)

/-- Addresses of a hot-pixel mask of 262,144 bytes (R77). -/
def maskOk (l : List Nat) : Bool := l.all (fun a => decide (a < 2097152))

/-- 64-bit words of a memory of 1 MiB (R120). -/
def wordsOk (l : List Nat) : Bool := l.all (fun a => decide (a < 131072))

/-- Writes within a memory of 1 MiB (R120). -/
def writesOk (l : List (Nat × List (BitVec 8))) : Bool := l.all (fun w => decide (w.1 + w.2.length ≤ 2 ^ 20))

/-- Channel entries of a quire (Table 5.9). -/
def chansOk (l : List (Nat × Nat)) : Bool := l.all (fun c => decide (c.1 < 64))

/-- One error count per DRAM channel (R544). -/
def countsOk (l : List Nat) : Bool := decide (l.length ≤ 8)

/-- A pin is driven low, high or not at all (R555). -/
def pinsOk (l : List (Nat × Nat)) : Bool := l.all (fun p => decide (p.2 ≤ 2))

/-- Coefficients of the longest FIR bank (R272). -/
def coefOk (l : List (BitVec 16)) : Bool := decide (l.length ≤ 128)

/-- The twelve words of a transform bank (Table 11.5). -/
def bankOk (l : List (BitVec 64)) : Bool := decide (l.length = 12)

/-- One power figure per cluster (R514). -/
def clustersOk (l : List (BitVec 32)) : Bool := decide (l.length ≤ 17)

/-- Settings of 32-bit arbiter registers (R327). -/
def regsOk (l : List (Nat × Nat)) : Bool := l.all (fun p => decide (p.2 < 2 ^ 32))

/-- The header fields of a Spine message (Table 17.3). -/
def messageOk (m : SpMsg) : Bool :=
  decide (m.hops < 256) && decide (m.dst < 65536) && decide (m.src < 65536) && decide (m.stream < 4096) && decide (m.seq < 2 ^ 32)

/-- The command's operands are well formed. -/
def Instr.wf (i : Instr) : Bool :=
  match i with
  | .nop _ => true
  | .queueQuery _ _ => true
  | .identify _ => true
  | .qpCreate _ _ => true
  | .qpDelete _ _ => true
  | .functionReset _ _ => true
  | .deviceReset _ _ => true
  | .partitionCreate _ b => bodyFits (32 + 16 * b.wins.length)
  | .partitionResize _ _ _ _ => true
  | .partitionHandover _ _ _ => true
  | .partitionDestroy _ => true
  | .partitionReset _ => true
  | .vfAssign _ _ _ => true
  | .ruleUpdate _ _ _ tbl _ => tbl.ents.length = tbl.nWin.toNat
  | .modeSet _ _ => true
  | .partitionQuery _ => true
  | .graphLoad _ _ _ _ => true
  | .graphUnload _ => true
  | .graphStart _ => true
  | .graphStop _ => true
  | .graphBind _ _ _ => true
  | .vframeRead _ _ _ _ => true
  | .readoutAt _ => true
  | .graphQuery _ => true
  | .contractAdmit _ _ srcs _ => bodyFits (64 + 16 * srcs.length)
  | .contractRelease _ arbs => regsOk arbs
  | .contractQuery _ _ => true
  | .contractPolicy _ _ _ _ _ _ _ _ => true
  | .portHotmaskLoad _ _ _ mask => maskOk mask
  | .portHotmaskEdit _ _ entries => bodyFits (8 + 4 * entries.length)
  | .portEvringBind _ _ _ _ => true
  | .timeSetTick _ _ _ => true
  | .timeAcceptJump _ _ _ => true
  | .timeQuery _ => true
  | .fusionSamplePut _ _ _ _ _ _ => true
  | .fusionXformSet _ _ words _ _ _ => bankOk words
  | .trackClear _ _ => true
  | .spikeRouteSet _ _ ents => bodyFits (8 + 24 * ents.length)
  | .spikeWeights _ _ _ _ _ _ => true
  | .spikeStateRead _ _ _ _ _ => true
  | .auxFetchSet _ _ _ => true
  | .auxChanSet _ _ _ _ _ _ => true
  | .auxChanEnable _ _ _ => true
  | .auxCoefLoad _ _ _ _ _ coef => coefOk coef
  | .auxCoefSwap _ _ _ => true
  | .colophonGet _ _ _ => true
  | .spdmMessage _ _ _ _ _ => true
  | .keySlotGen _ _ => true
  | .keySlotErase _ _ => true
  | .fwStage _ _ _ => true
  | .fwCommit _ => true
  | .debugChallenge _ _ => true
  | .debugResponse _ _ _ => true
  | .lifecycleAdvance _ _ _ _ => true
  | .cuppingSchedule _ _ => true
  | .snapshotRead _ _ _ => true
  | .alarmRead _ _ => true
  | .alarmAck _ _ => true
  | .logConfig _ _ _ _ _ _ => true
  | .safetyQuery _ => true
  | .katIntervalSet _ _ => true
  | .safeStateClear _ => true
  | .outputRelease _ _ => true
  | .faultInject _ _ => true
  | .bindingJoin _ _ _ => true
  | .streamOpen _ _ _ _ _ _ _ _ => true
  | .streamClose _ _ => true
  | .writeFence _ _ _ => true
  | .barrier _ _ => true
  | .broadcast _ _ _ => true
  | .bindingReset _ => true
  | .powerPolicy _ _ => true
  | .governorSet _ _ => true
  | .powerQuery _ => true
  | .stagedCommandEffect _ => true
  | .sqTail _ _ _ => true
  | .head _ _ _ => true
  | .fnCtlEn _ _ => true
  | .fnCtlReset _ => true
  | .registerWrite _ _ width _ _ => widthOk width
  | .lowHalfRead _ _ => true
  | .dataWindowRead _ width _ _ => widthOk width
  | .unsupportedRequest _ _ _ => true
  | .hopCtlEn _ _ => true
  | .hopDecCfg _ _ => true
  | .sfmSurfCfgEn _ _ => true
  | .crnCfgEn _ _ => true
  | .flowCfgEn _ _ => true
  | .spnCtlEn _ _ => true
  | .spnCtlRetrain _ => true
  | .spnRoute _ _ => true
  | .tuTickLead _ => true
  | .siReact _ _ => true
  | .siLock => true
  | .tickBoundary => true
  | .tickClosed _ => true
  | .spineChannelClose => true
  | .channelOperationStart _ _ ins outs writes _ => chansOk ins && chansOk outs && writesOk writes
  | .arbiterGrant _ _ => true
  | .arbiterWindowStart _ => true
  | .syncReceived _ _ _ _ _ => true
  | .sourceQualified _ => true
  | .sourceLost _ => true
  | .ptmRequest => true
  | .hopperWake _ => true
  | .packetReceive _ _ => true
  | .shortPacket _ _ _ _ => true
  | .linkErr _ _ _ _ => true
  | .escErr _ => true
  | .frontEndDecode _ => true
  | .itemPipeline _ => true
  | .spillQueueDrain _ => true
  | .cellMapSweep _ => true
  | .regionClear _ => true
  | .epochChange _ => true
  | .generationSweep _ => true
  | .cornerTest _ => true
  | .flowFit _ => true
  | .derivedSpillDrain _ _ => true
  | .rebaseStart _ => true
  | .snapshotSweep _ => true
  | .rebasePhaseEnd _ => true
  | .rebaseSwitch _ => true
  | .rebaseFail _ => true
  | .wakeRebase _ => true
  | .startRebase _ => true
  | .dxeInput _ _ _ => true
  | .dxeSettle _ _ _ => true
  | .scheduledRead _ _ => true
  | .vframeCopy _ => true
  | .descriptorStart _ _ => true
  | .descriptorComplete _ _ bad => wordsOk bad
  | .segmentCommit _ _ => true
  | .replay _ _ _ _ => true
  | .stepUp _ => true
  | .replayWindowEnd _ => true
  | .kernelInvocation _ _ _ writes _ _ _ => writesOk writes
  | .kernelOverrun _ _ _ _ => true
  | .quireScrub _ => true
  | .quireRetirement _ => true
  | .quireTakeover _ => true
  | .readoutInstant _ => true
  | .sampleSlotSet _ => true
  | .sampleSweep _ => true
  | .sampleComplete _ _ => true
  | .vfinRecord _ => true
  | .stripeEvaluation _ _ _ => true
  | .egeRow _ _ _ => true
  | .dppJob _ _ _ => true
  | .settlement _ bad => wordsOk bad
  | .spikeDelivery _ => true
  | .routerLookup _ _ _ => true
  | .delayQueueRelease _ _ => true
  | .kxbCopy _ => true
  | .attachSpike _ => true
  | .renewalSweep _ => true
  | .fetchTrigger _ _ => true
  | .fetchComplete _ _ _ => true
  | .channelSlot _ => true
  | .auxTickEnd => true
  | .fusionInput _ => true
  | .fusionStart _ => true
  | .trackCycle _ => true
  | .pointCloudDatagram _ _ _ => true
  | .pclReasmDrop => true
  | .ethFrame _ _ _ _ _ => true
  | .egressDatagram _ => true
  | .deadlineMiss => true
  | .contractReplan _ => true
  | .contractRevoked _ arbs => regsOk arbs
  | .packetFetch _ _ _ _ => true
  | .completionWrite _ _ => true
  | .recordIssue _ => true
  | .packedEntryClose => true
  | .overflowDrain _ => true
  | .msixMessage _ _ => true
  | .submissionReadRetry _ _ _ => true
  | .pcieFlr _ => true
  | .perst _ => true
  | .hotReset => true
  | .d3hotEntry => true
  | .poisonedTlp _ _ => true
  | .unexpectedCompletion => true
  | .doeRequest _ _ _ => true
  | .doeAbort => true
  | .ideCheckFailed _ => true
  | .lockInterface _ => true
  | .stopInterface _ => true
  | .ruleDrain _ => true
  | .granuleClear => true
  | .drbgReseed => true
  | .trngFail => true
  | .trngRestart _ => true
  | .nonceExpiry => true
  | .heartbeatMissed => true
  | .signalPresent _ => true
  | .trainingDone _ _ _ _ => true
  | .auth _ _ _ _ _ => true
  | .linkRetry _ _ => true
  | .retrain _ _ _ => true
  | .linkDown _ _ => true
  | .rekey _ => true
  | .flitReceive _ _ _ _ _ => true
  | .nakReplay _ _ => true
  | .messageForward _ m _ _ => messageOk m
  | .writeChan _ m => messageOk m
  | .writeDram _ m => messageOk m
  | .spikes _ m => messageOk m
  | .spikesSend _ => true
  | .credit _ m => messageOk m
  | .writeError _ m => messageOk m
  | .fence _ m => messageOk m
  | .fenceAck _ m => messageOk m
  | .streamCtl _ m => messageOk m
  | .tickMark _ m => messageOk m
  | .timeSync _ _ _ _ _ => true
  | .timeMarker _ m => messageOk m
  | .join _ m => messageOk m
  | .globalOp _ m => messageOk m
  | .barrierRelease => true
  | .releaseFail => true
  | .contractPart _ m _ => messageOk m
  | .alarmSummary _ _ => true
  | .remoteSilent _ => true
  | .internalFault _ _ _ _ => true
  | .pairCompare _ _ _ _ _ _ _ _ => true
  | .pairResync _ => true
  | .katRun _ _ _ => true
  | .lockstepUnit _ _ => true
  | .cpWatchdog => true
  | .cpRestart => true
  | .siWatchdog => true
  | .clockMon _ => true
  | .supplyMon _ _ _ => true
  | .thermal _ => true
  | .safeInReq _ _ => true
  | .safeInDisagree _ _ => true
  | .safeInRelease _ _ => true
  | .faultPin _ _ => true
  | .outputContention _ => true
  | .contentionRetry => true
  | .siAutoReset => true
  | .deviceResetSequence _ _ _ => true
  | .domainIdle _ _ _ => true
  | .brew _ => true
  | .timerWake _ _ => true
  | .warmerOnlyEntry => true
  | .wakeIn => true
  | .limiterWindow _ clusters => clustersOk clusters
  | .governorWindow _ => true
  | .crystalCheck _ _ _ => true
  | .powerUp _ => true
  | .railTimeout => true
  | .vddAonLoss _ => true
  | .hostBootImage _ => true
  | .l12Exit => true
  | .snapshotTick => true
  | .alarmRecordEgress _ => true
  | .logEgress => true
  | .trigOut _ _ _ => true
  | .syncOut _ => true
  | .ibi _ _ _ => true
  | .hotJoin _ => true
  | .i3cStuck _ => true
  | .dramEcsRead counts => countsOk counts
  | .wck2dqRetraining _ => true
  | .siLockstep => true
  | .pwrGood _ _ _ _ => true
  | .timeOscillatorReturn => true
  | .ulpsEntry _ => true
  | .vfEnable _ _ => true
  | .vectorUnmask _ _ => true
  | .ethLinkLoss _ => true
  | .delayRequest _ => true
  | .extest pins => pinsOk pins
  | .registerRead _ _ width _ => widthOk width

end Sys2Proof
end

