-- ==== Sys2Proof/Tests/Slice0.lean ====
section
/-! SUPPORT. The smoke tests of WellFormed, and for every statement states and operands that meet its hypotheses, with one or two fields of
what the command leaves; the expected values are those of the rule the statement cites, worked out by hand. -/
set_option Elab.async false

namespace Sys2Proof.Tests
open Sys2Proof.Machine

/-! ## Helpers -/

/-- The packet the tests use: PF0, queue 1, TAG 7. -/
def ref : CmdRef := { fn := 0, qp := 1, tag := 7 }
/-- The packet as fetched, with an opcode and OBJ_ID. -/
def pkt (opc : BitVec 16) (obj : BitVec 32) : Fetched :=
  { opc := opc, fence := false, irqNow := false, atEn := false, tag := 7, objId := obj, atTick := 0, sqHead := 1, phase := .waiting }
/-- The same with AT_TICK. -/
def pktAt (opc : BitVec 16) (obj at_ : BitVec 32) : Fetched := { pkt opc obj with atEn := true, atTick := at_ }
/-- A state where the packet waits. -/
def onQ (f : Fetched) (s : State) : State := s.modQp 1 (fun q => { q with valid := true, kind := 1, ringLog2 := 4, fetched := [f] })
/-- The state after a command. -/
def after (c : Instr) (s : State) : Option State := match exec c s with | .next t => some t | _ => none
/-- A command changes nothing. -/
def same (c : Instr) (s : State) : Bool := decide (after c s = some s)
/-- What the command's completion says: status, DETAIL and result. -/
def answer (c : Instr) (s : State) : Option (Nat × Nat × Nat) :=
  (after c s).bind (fun t => ((t.qp 1).done.getLast?).map (fun e => (e.status, e.detail, e.result.toNat)))
/-- The command's packet starts on a state whose domains are all ON, so that its Brew changes nothing. -/
def Ready (s : State) (opc : Nat) (obj : BitVec 32) (c : Instr) : Prop :=
  s.canonical = true ∧ (onQ (pkt (BitVec.ofNat 16 opc) obj) s).Starts ref opc c (pkt (BitVec.ofNat 16 opc) obj) (onQ (pkt (BitVec.ofNat 16 opc) obj) s)
/-- The same with AT_TICK d ticks ahead. -/
def ReadyAt (s : State) (opc : Nat) (obj : BitVec 32) (d : Nat) (c : Instr) : Prop :=
  let f := pktAt (BitVec.ofNat 16 opc) obj (BitVec.ofNat 32 d)
  (onQ f s).startable ref opc = some f ∧ onQ f s = (onQ f s).brewFor f c ∧ (onQ f s).objErr opc 0 obj.toNat = none ∧ (onQ f s).lead (BitVec.ofNat 32 d) = some d
/-- The answer of a command that starts. -/
def ran (s : State) (opc : Nat) (obj : BitVec 32) (c : Instr) : Option (Nat × Nat × Nat) := answer c (onQ (pkt (BitVec.ofNat 16 opc) obj) s)
/-- The state after a command that starts. -/
def left (s : State) (opc : Nat) (obj : BitVec 32) (c : Instr) : Option State := after c (onQ (pkt (BitVec.ofNat 16 opc) obj) s)

/-- A list of 4 KiB at 0x1000. -/
def sgl4k : Sgl := { root := { addr := 0x1000, length := 4096, type := 0, rsvd := 0 }, segs := [], readFail := false }
/-- Slipcase 3: quires 0 and 1, port 0 with its region, key slot 2, one window of one granule, VF 1. -/
def slip3 : State :=
  let w : Win := { win := 0, rd := true, wr := true, base := 0, size := 2097152 }
  let s := State.reset.modSlip 3 (fun _ => { state := 1, keySlot := 2, quires := [0, 1], hoppers := 1, regions := 1, ovfKib := 2048, epoch := 1, rules := [w], ovfGran := [9] })
  let s := (s.modKey 2 (fun _ => { state := 2, slip := 3 })).modFn 1 (fun _ => { exist := true, rdy := true, slip := some 3 })
  let s := (s.modQuire 0 (fun q => { q with slip := some 3 })).modQuire 1 (fun q => { q with slip := some 3 })
  (s.setGran 0 (.owned 2)).setGran 9 (.owned 2)
/-- Slipcase 3 with graph 1 of it loaded on quire 0. -/
def graph1 : State := slip3.modGraph 1 (fun _ => { exist := true, slip := 3, quires := [0], ports := [0] })
/-- Graph 1 running. -/
def running : State := graph1.modGraph 1 (fun g => { g with state := 1 })

/-! ## WellFormed -/

theorem wf_width : (Instr.registerRead 0 0 9 0xFF).wf = false ∧ (Instr.registerWrite 0 0 0 0xFF 0).wf = false ∧ (Instr.dataWindowRead 0 16 false false).wf = false := by decide
theorem wf_body : (Instr.spikeRouteSet ref 0 (List.replicate 680 (0, 0))).wf = false ∧ (Instr.portHotmaskEdit ref 0 [0]).wf = true := by decide +kernel
theorem wf_table : (Instr.ruleUpdate ref 0 sgl4k { nWin := 2, rsvdNZ := false, ents := [] } []).wf = false := by decide
theorem wf_mask : (Instr.portHotmaskLoad ref 0 sgl4k [2097152]).wf = false := by decide
theorem wf_words : (Instr.settlement 0 [131072]).wf = false ∧ (Instr.descriptorComplete 0 false [131072]).wf = false := by decide
theorem wf_writes : (Instr.kernelInvocation 0 0 0 [(1048575, [0, 0])] [] none none).wf = false := by decide
theorem wf_chans : (Instr.channelOperationStart 0 0 [(64, 1)] [] [] []).wf = false := by decide
theorem wf_counts : (Instr.dramEcsRead [0, 0, 0, 0, 0, 0, 0, 0, 0]).wf = false := by decide
theorem wf_pins : (Instr.extest [(1, 3)]).wf = false := by decide
theorem wf_coef : (Instr.auxCoefLoad ref 0 1 1 0 (List.replicate 129 0)).wf = false := by decide +kernel
theorem wf_bank : (Instr.fusionXformSet ref 0 [] false sgl4k []).wf = false := by decide
theorem wf_clusters : (Instr.limiterWindow 0 (List.replicate 18 0)).wf = false := by decide
theorem wf_regs : (Instr.contractRelease ref [(0, 4294967296)]).wf = false := by decide
theorem wf_message : (Instr.fence 0 { dst := 65536, body := .fence 0 }).wf = false ∧ (Instr.fence 0 { stream := 4096, body := .fence 0 }).wf = false := by decide

/-! ## Steps and command rows in general -/

theorem wit_StepConsumesOneCommand : ({ State.reset with pending := [.hotReset] } : State).pending = [.hotReset] ∧
    step { State.reset with pending := [.hotReset] } = .next { State.reset with resetDue := true } := ⟨rfl, rfl⟩
theorem wit_StepsKeepInvariants : State.reset.canonical = true ∧ State.reset.tim.law ∧ ((after .tickBoundary State.reset).map (fun t => t.tim.systime)) = some 1000 := by
  unfold Tim.law; decide +kernel
theorem wit_CommandsWait : packetOf (.nop ref) = some (ref, 0x8000) ∧ State.reset.startable ref 0x8000 = none ∧ same (.nop ref) State.reset = true := by decide +kernel
theorem wit_WrongObject_none : (onQ (pkt 0x8000 5) .reset).startable ref 0x8000 = some (pkt 0x8000 5) ∧ ran .reset 0x8000 5 (.nop ref) = some (0x102, 0xF025, 0) := by decide +kernel
theorem wit_WrongObject_unknown : (onQ (pkt 0x8201 9) .reset).objSlip .graph 9 = none ∧ ran .reset 0x8201 9 (.graphQuery ref) = some (0x102, 0xF023, 0) := by decide +kernel
/-- The same packet from VF 2, which has no slipcase. -/
def ref2 : CmdRef := { ref with fn := 2 }
theorem wit_WrongObject_foreign :
    let s := (graph1.modFn 2 (fun _ => { exist := true, rdy := true })).modQp 513 (fun q => { q with valid := true, kind := 1, fetched := [pkt 0x8201 1] })
    s.startable ref2 0x8201 = some (pkt 0x8201 1) ∧ s.objSlip .graph 1 = some 3 ∧ (s.fn 2).slip ≠ some 3 ∧
      (after (.graphQuery ref2) s).map (fun t => (t.qp 513).done.map (fun e => (e.status, e.detail))) = some [(0x102, 0xF023)] := by decide +kernel
theorem wit_WrongObject_fenced : let s := graph1.modSlip 3 (fun p => { p with state := 2 })
    s.objSlip .graph 1 = some 3 ∧ (s.slip 3).state ≠ 1 ∧ ran s 0x8201 1 (.graphQuery ref) = some (0x301, 0, 0) := by decide +kernel
theorem wit_AtTick : (onQ (pktAt 5 0 0) .reset).startable ref 5 = some (pktAt 5 0 0) ∧ etsDiff 0 State.reset.ets ≤ 0 ∧
    answer (.deviceReset ref 0x4C583952) (onQ (pktAt 5 0 0) .reset) = some (0x102, 0xF022, 0) ∧
    2 ^ 30 < etsDiff (2 ^ 30 + 1) State.reset.ets ∧ answer (.deviceReset ref 0x4C583952) (onQ (pktAt 5 0 (BitVec.ofNat 32 (2 ^ 30 + 1))) .reset) = some (0x102, 0xF022, 0) := by decide +kernel
theorem wit_Staged : ReadyAt .reset 5 0 2 (.deviceReset ref 0x4C583952) ∧
    (after (.deviceReset ref 0x4C583952) (onQ (pktAt 5 0 2) .reset)).map (fun t => (t.staged.map (fun x => x.tick), t.resetDue)) = some ([2], false) := by
  unfold ReadyAt; decide +kernel
/-- A reset staged for tick 0, the present one. -/
def stagedNow : State := { onQ { pktAt 5 0 0 with phase := .staged } .reset with staged := [{ ref := ref, tick := 0, obj := 0, cmd := .deviceReset ref 0x4C583952 }] }
theorem wit_StagedEffect : stagedNow.nextStaged.map (fun x => x.tick) = some 0 ∧ stagedNow.fetchedOf ref = some { pktAt 5 0 0 with phase := .staged } ∧
    answer (.stagedCommandEffect false) stagedNow = some (0, 0, 0) ∧ (after (.stagedCommandEffect false) stagedNow).map (fun t => t.resetDue) = some true := by decide +kernel

/-! ## Host commands, partitions -/

theorem wit_Nop : Ready .reset 0x8000 0 (.nop ref) ∧ ran .reset 0x8000 0 (.nop ref) = some (0, 0, 0) := by unfold Ready State.Starts; decide +kernel
theorem wit_QueueQuery : Ready .reset 0x8001 0 (.queueQuery ref 1) ∧ ((onQ (pkt 0x8001 0) .reset).qp 1).valid = true ∧
    (ran .reset 0x8001 0 (.queueQuery ref 1)).map (fun a => a.1) = some 0 := by unfold Ready State.Starts; decide +kernel
theorem wit_Identify : Ready .reset 1 0 (.identify ref) ∧ (ran .reset 1 0 (.identify ref)).map (fun a => (a.1, a.2.2 % 2 ^ 16, a.2.2 / 2 ^ 16 % 256)) = some (0, 0, 0xFF) := by
  unfold Ready State.Starts; decide +kernel
def desc2 : QpDesc := { qp := 2, kind := 2, vector := 5, sqLog2 := 0, ringLog2 := 6, entLog2 := 6, bufLog2 := 12, sqBase := 0, ringBase := 0x10000, bufBase := 0x100000, bufCount := 4 }
theorem wit_QpCreate : Ready .reset 2 0 (.qpCreate ref desc2) ∧ qpFieldsOk 0 desc2 = true ∧ (State.reset.qp 2).valid = false ∧ ran .reset 2 0 (.qpCreate ref desc2) = some (0, 0, 2) ∧
    (left .reset 2 0 (.qpCreate ref desc2)).map (fun t => ((t.qp 2).valid, (t.qp 2).phase, (t.qp 2).dtail)) = some (true, true, 0) := by unfold Ready State.Starts; decide +kernel
theorem wit_QpDelete : let s := State.reset.modQp 2 (fun q => { q with valid := true, kind := 2 })
    Ready s 3 0 (.qpDelete ref 2) ∧ (s.qp 2).valid = true ∧ (s.qp 2).fetched = [] ∧ (left s 3 0 (.qpDelete ref 2)).map (fun t => t.qp 2) = some {} := by
  unfold Ready State.Starts; decide +kernel
theorem wit_DeviceReset : Ready .reset 5 0 (.deviceReset ref 0x4C583952) ∧ (left .reset 5 0 (.deviceReset ref 0x4C583952)).map (fun t => t.resetDue) = some true := by
  unfold Ready State.Starts; decide +kernel
theorem wit_PartitionQuery : Ready slip3 0x8101 3 (.partitionQuery ref) ∧ (ran slip3 0x8101 3 (.partitionQuery ref)).map (fun a => (a.1, a.2.2 % 256)) = some (0, 1) := by
  unfold Ready State.Starts; decide +kernel
theorem wit_VfAssign : let s := slip3.modFn 2 (fun _ => { exist := true, rdy := true })
    Ready s 0x0106 3 (.vfAssign ref 2 1) ∧ (s.fn 2).exist = true ∧ (s.fn 2).slip = none ∧ (left s 0x0106 3 (.vfAssign ref 2 1)).map (fun t => (t.fn 2).slip) = some (some 3) ∧
      Ready s 0x0106 3 (.vfAssign ref 1 0) ∧ s.sealed 3 = false ∧ (left s 0x0106 3 (.vfAssign ref 1 0)).map (fun t => (t.fn 1).slip) = some none := by
  unfold Ready State.Starts; decide +kernel
theorem wit_ModeSet : ReadyAt slip3 0x0108 3 2 (.modeSet ref 1) ∧ slip3.sealed 3 = false ∧ slip3.contracts = [] ∧
    (after (.modeSet ref 1) (onQ (pktAt 0x0108 3 2) slip3)).map (fun t => (t.staged.length, (t.slip 3).adaptive)) = some (1, false) := by unfold ReadyAt; decide +kernel
def modeNow : State := { onQ { pktAt 0x0108 3 0 with phase := .staged } slip3 with staged := [{ ref := ref, tick := 0, obj := 3, cmd := .modeSet ref 1 }] }
theorem wit_ModeSetEffect : modeNow.canonical = true ∧ modeNow.nextStaged.map (fun x => x.cmd) = some (.modeSet ref 1) ∧ modeNow.fetchedOf ref = some { pktAt 0x0108 3 0 with phase := .staged } ∧
    (after (.stagedCommandEffect false) modeNow).map (fun t => ((t.slip 3).adaptive, (t.quire 1).adaptive, (t.quire 2).adaptive)) = some (true, true, false) := by decide +kernel
/-- Granules 0, 9 and 10 FREE. -/
def freeGrans3 : State := ((State.reset.setGran 0 .free).setGran 9 .free).setGran 10 .free
def part1 : PartBody := { slipcase := 3, mode := 0, keySlot := 2, nQuires := 4, hoppers := 1, regions := 1, ovfKib := 2048, powerMw := 0, wins := [(0, 2097152)] }
theorem wit_PartitionCreate : Ready freeGrans3 0x0101 0 (.partitionCreate ref part1) ∧ (freeGrans3.slip 3).state = 0 ∧ (PartBody.windows part1).all freeGrans3.winOk = true ∧
    winsApart (PartBody.windows part1) = true ∧ freeGrans3.pickQuires 3 4 = some [0, 1, 2, 3] ∧ freeGrans3.pairsWhole 1 = true ∧ freeGrans3.portTaken 3 0 = false ∧ (freeGrans3.key 2).state ≠ 2 ∧
    ran freeGrans3 0x0101 0 (.partitionCreate ref part1) = some (0, 0, 15) ∧
    (left freeGrans3 0x0101 0 (.partitionCreate ref part1)).map (fun t => ((t.slip 3).epoch, (t.quire 3).slip, t.gran 0, (t.slip 3).ovfGran)) = some (1, some 3, .owned 2, [10]) := by
  unfold Ready State.Starts; decide +kernel
/-- A table of one window, base 0 and two granules. -/
def table1 : RuleTbl := { nWin := 1, rsvdNZ := false, ents := [{ win := 0, rights := 3, base := 0, size := 4194304, rsvdNZ := false }] }
theorem wit_RuleUpdate : let s := slip3.setGran 1 .free
    Ready s 0x0107 3 (.ruleUpdate ref 0 sgl4k table1 []) ∧ s.sealed 3 = false ∧ (s.slip 3).drain = none ∧ sglErr sgl4k (16 + 32) = none ∧ s.rulesOk 3 table1 = true ∧
      (left s 0x0107 3 (.ruleUpdate ref 0 sgl4k table1 [])).map (fun t => ((t.slip 3).epoch, (t.slip 3).drain.isSome, t.gran 1)) = some (2, true, .owned 2) := by
  unfold Ready State.Starts; decide +kernel
theorem wit_PartitionResize : Ready slip3 0x0102 3 (.partitionResize ref 3 1 1) ∧ slip3.sealed 3 = false ∧ slip3.pairsWhole 1 = true ∧ slip3.portTaken 3 0 = false ∧
    (match slip3.resizeQuires 3 3 with | .ok p => p.1 | .error _ => []) = [0, 1, 2] ∧
    (left slip3 0x0102 3 (.partitionResize ref 3 1 1)).map (fun t => ((t.slip 3).quires, (t.slip 3).epoch, (t.slip 3).drain.isSome)) = some ([0, 1, 2], 2, true) := by
  unfold Ready State.Starts; decide +kernel
theorem wit_RuleDrain : let s := onQ (pkt 0x0107 3) (slip3.modSlip 3 (fun p => { p with drain := some { ref := ref, res := 2 } }))
    (s.slip 3).drain.isSome = true ∧ s.oldFlights 3 = 0 ∧ s.fetchedOf ref = some (pkt 0x0107 3) ∧ answer (.ruleDrain 3) s = some (0, 0, 2) ∧ same (.ruleDrain 3) slip3 = true := by decide +kernel
theorem wit_PartitionHandover : let s := slip3.modKey 5 (fun _ => { state := 1 })
    Ready s 0x0103 3 (.partitionHandover ref 5 40) ∧ s.hasGraph 3 = false ∧ (s.key 5).state = 1 ∧ (s.slip 3).keySlot ≠ 5 ∧
      (left s 0x0103 3 (.partitionHandover ref 5 40)).map (fun t => ((t.slip 3).keySlot, (t.key 5).state, (t.key 2).state, (t.key 2).rules.length)) = some (5, 2, 1, 1) := by
  unfold Ready State.Starts; decide +kernel
theorem wit_PartitionDestroy : Ready slip3 0x0104 3 (.partitionDestroy ref) ∧ slip3.hasGraph 3 = false ∧
    (left slip3 0x0104 3 (.partitionDestroy ref)).map (fun t => ((t.slip 3).state, (t.key 2).state, (t.fn 1).slip, (t.quire 0).slip)) = some (0, 1, none, none) := by
  unfold Ready State.Starts; decide +kernel
theorem wit_PartitionReset : Ready graph1 0x0105 3 (.partitionReset ref) ∧
    (left graph1 0x0105 3 (.partitionReset ref)).map (fun t => ((t.slip 3).state, t.hasGraph 3, (t.slip 3).keySlot)) = some (1, false, 2) := by unfold Ready State.Starts; decide +kernel
theorem wit_GranuleClear : let s := ({ State.reset with dram := [(5, 7)] } : State)
    (∀ j, j < 0 → s.gran j ≠ .dirty) ∧ 0 < s.svcGran ∧ s.gran 0 = .dirty ∧ (after .granuleClear s).map (fun t => (t.gran 0, t.dram)) = some (.clearing, []) ∧
      (after .granuleClear (s.setGran 4 .clearing)).map (fun t => (t.gran 4, t.gran 0, t.ctr (mcB + 0x3018))) = some (.free, .dirty, 1) := by decide +kernel

/-! ## Host interface -/

/-- Queue 5 of PF0, a CMD queue of 128 slots and 64 entries. -/
def queue5 : State := State.reset.modQp 5 (fun q => { q with valid := true, kind := 1, sqLog2 := 7, ringLog2 := 6, vector := 3 })
theorem wit_SqTail : queue5.canonical = true ∧ (queue5.qp 5).kind = 1 ∧ queue5.fnFenced 0 = false ∧ (after (.sqTail 0 5 127) queue5).map (fun t => (t.qp 5).tail) = some 127 := by decide +kernel
theorem wit_Head : let s := queue5.modQp 5 (fun q => { q with dtail := 3 })
    (s.qp 5).used = 3 ∧ (after (.head 0 5 3) s).map (fun t => (t.qp 5).hhead) = some 3 := by decide +kernel
theorem wit_SqTailRefused : (after (.sqTail 0 5 128) queue5).map (fun t => ((t.qp 5).tail, t.ctr (fnB 0 + 0x210), ((t.reg (fnB 0 + 0x28)).toNat >>> 40) % 256)) = some (0, 1, 2) ∧
    (after (.sqTail 0 6 0) queue5).map (fun t => ((t.reg (fnB 0 + 0x28)).toNat >>> 40) % 256) = some 1 ∧
    (after (.sqTail 1 0 0) (slip3.modSlip 3 (fun p => { p with state := 2 }))).map (fun t => ((t.reg (fnB 1 + 0x28)).toNat >>> 40) % 256) = some 4 ∧
    (after (.sqTail 1 0 0) (slip3.modFn 1 (fun x => { x with resetting := true }))).map (fun t => ((t.reg (fnB 1 + 0x28)).toNat >>> 40) % 256) = some 5 := by decide +kernel
def packet1 : Packet := { opc := 0x8000, flags := 0, len := 1, tag := 9, objId := 0, atTick := 0, cnt := 0, rsvdNZ := false }
/-- Queue 5 with one slot submitted. -/
def queue5in : State := queue5.modQp 5 (fun q => { q with tail := 1 })
theorem wit_PacketFetch : queue5in.canonical = true ∧ queue5in.fetchTurn = some 5 ∧ queue5in.packetErr 0 packet1 = none ∧
    (after (.packetFetch 0 5 packet1 true) queue5in).map (fun t => ((t.qp 5).head, (t.qp 5).fetched.map (fun f => f.tag), t.ctr (fnB 0 + 0x208))) = some (1, [9], 1) ∧
    (after (.packetFetch 0 5 { packet1 with opc := 0x8FFF } true) queue5in).map (fun t => (t.qp 5).done.map (fun c => c.status)) = some [0x100] ∧
    queue5.fetchTurn ≠ some 5 ∧ same (.packetFetch 0 5 packet1 true) queue5 = true := by decide +kernel
theorem wit_SubmissionReadRetry : let s := queue5.modQp 5 (fun q => { q with slotFails := 2 })
    (s.qp 5).slotFails ≠ 0 ∧ (s.qp 5).stopped = false ∧ (after (.submissionReadRetry 0 5 true) s).map (fun t => (t.qp 5).slotFails) = some 0 := by decide +kernel
/-- Queue 5 about to write its last entry before the wrap. -/
def queue5out : State := queue5.modQp 5 (fun q => { q with dtail := 63, hhead := 60, done := [{ tag := 9, status := 0, detail := 0, tick := 0, sqHead := 1, fast := true, irqNow := false, result := 0 }] })
theorem wit_CompletionWrite : 0 < (queue5out.qp 5).room ∧ (after (.completionWrite 0 5) queue5out).map (fun t => ((t.qp 5).dtail, (t.qp 5).phase, (t.qp 5).done, (t.vec 3).count)) =
    some (0, false, [], 1) := by decide +kernel
theorem wit_PackedEntryClose : let s := ({ queue5.modQp 6 (fun q => { q with valid := true, kind := 4, ringLog2 := 6, entLog2 := 6, openRecs := [[1]], openTick := 0 }) with tim := { State.reset.tim with tick := 1, systime := 1000 } } : State)
    (s.qp 6).openTick < s.tim.tick ∧ (after .packedEntryClose s).map (fun t => ((t.qp 6).openRecs, (t.qp 6).dtail)) = some ([], 1) := by decide +kernel
def vecReady : State := State.reset.modVec 3 (fun v => { v with count := 1, urgent := true })
theorem wit_MsixMessage : vecReady.vecDue 0 3 = true ∧ (vecReady.reg (vecCtl 0 3)).getLsbD 0 = true ∧ (after (.msixMessage 0 3) vecReady).map (fun t => ((t.vec 3).pba, t.out)) = some (true, []) ∧
    (after (.msixMessage 0 3) (vecReady.setReg (vecCtl 0 3) 0)).map (fun t => (t.vec 3, t.out)) = some ({}, [⟨.msix, [0, 3], []⟩]) := by decide +kernel
theorem wit_VectorUnmask : (after (.vectorUnmask 0 3) (State.reset.modVec 3 (fun v => { v with pba := true }))).map (fun t => (t.vec 3, t.out)) = some ({}, [⟨.msix, [0, 3], []⟩]) ∧
    (after (.vectorUnmask 0 2047) State.reset).map (fun t => ((t.reg (vecCtl 0 2047)).getLsbD 0, t.out)) = some (false, []) := by decide +kernel
/-- A record of graph 1, bound to queue 2 of PF0, a RESULT queue. -/
def record1 : State := { (graph1.modGraph 1 (fun g => { g with bind := some (0, 2) })).modQp 2 (fun q => { q with valid := true, kind := 2, ringLog2 := 6, entLog2 := 8, bufLog2 := 12, bufCount := 1 }) with
  recs := [{ kind := .readout, graph := 1, tref := 0, layer := 0, bytes := 64, flags := 0, fields := [1], payload := [] }] }
theorem wit_RecordIssue : record1.canonical = true ∧ (record1.graph 1).bind = some (0, 2) ∧ record1.compared 1 0 = true ∧ (record1.qp 2).takes 64 = true ∧
    (after (.recordIssue 0) record1).map (fun t => (t.recs, (t.qp 2).dtail)) = some ([], 1) ∧
    (after (.recordIssue 0) (record1.modQp 2 (fun q => { q with dtail := 63 }))).map (fun t => (t.recs, (t.slip 3).ovf.length)) = some ([], 1) ∧ same (.recordIssue 1) record1 = true := by decide +kernel
theorem wit_OverflowDrain : let s := ({ record1.modSlip 3 (fun p => { p with ovf := [{ queue := 2, bytes := 64, words := [], rec_ := record1.recs.head? }] }) with recs := [] } : State)
    s.drainIdx (s.slip 3).ovf = some 0 ∧ (after (.overflowDrain 3) s).map (fun t => ((t.slip 3).ovf, (t.qp 2).dtail)) = some ([], 1) ∧ slip3.drainIdx (slip3.slip 3).ovf = none ∧
      same (.overflowDrain 3) slip3 = true := by decide +kernel
def vfQueue : State := slip3.modQp 257 (fun q => { q with valid := true, kind := 1 })
theorem wit_FunctionResets : vfQueue.canonical = true ∧ (vfQueue.fn 1).exist = true ∧ (after (.fnCtlReset 1) vfQueue).map (fun t => (t.qp 257, (t.fn 1).rdy, (t.fn 1).slip)) = some ({}, true, some 3) ∧
    (after (.pcieFlr 1) vfQueue).map (fun t => (t.qp 257, (t.fn 1).rdy)) = some ({}, true) ∧ Ready vfQueue 4 0 (.functionReset ref 1) ∧
    (left vfQueue 4 0 (.functionReset ref 1)).map (fun t => (t.qp 257, (t.fn 1).rdy)) = some ({}, true) ∧ (after .d3hotEntry vfQueue).map (fun t => t.qp 257) = some {} ∧
    (after (.vfEnable true 2) vfQueue).map (fun t => ((t.fn 2).exist, (t.fn 3).exist)) = some (true, false) ∧ (after (.vfEnable false 0) vfQueue).map (fun t => t.fn 1) = some {} := by
  unfold Ready State.Starts; decide +kernel
theorem wit_AdminQueue : State.reset.admqOk 0 = true ∧ (State.reset.reg (fnB 0 + 4)).getLsbD 0 = false ∧
    (after (.fnCtlEn 0 true) State.reset).map (fun t => ((t.qp 0).valid, (t.qp 0).ringLog2, t.reg (fnB 0 + 4))) = some (true, 6, 1) ∧
    (after (.fnCtlEn 0 true) (State.reset.setReg (fnB 0 + 0x10) 1)).map (fun t => ((t.qp 0).valid, (t.fn 0).admqErr)) = some (false, true) := by decide +kernel

/-! ## Reset and power -/

/-- Reset with time at 1 s. -/
def later : State := { State.reset with tim := { State.reset.tim with systime := 1000000000, tick := 1000000 } }
theorem wit_ResetCauses : (State.reset.pwr.down = false) ∧ (after (.perst true) State.reset).map (fun t => t.resetDue) = some true ∧
    (after .siAutoReset ({ later with si := { later.si with autoAt := some 1000000000 } } : State)).map (fun t => t.resetDue) = some true ∧
    same .siAutoReset ({ later with si := { later.si with autoAt := some 1000000001 } } : State) = true := by decide +kernel
def graph1due : State := { graph1 with resetDue := true, tim := { State.reset.tim with tick := 3, systime := 3000 } }
theorem wit_DeviceResetSequence : (after (.deviceResetSequence (BitVec.allOnes 68) 0 true) graph1due).map (fun t => (t.tim.tick, t.graphs.length, t.slips.length, t.ctr (simB + 0x440), t.si.safe)) =
      some (3, 0, 0, 1, true) ∧ same (.deviceResetSequence 0 0 true) graph1 = true := by decide +kernel
def startUp : State := { State.reset with pwr := { State.reset.pwr with up := true, down := true, rails := 1, good := 0 } }
theorem wit_PwrGood : (after (.powerUp []) graph1).map (fun t => (t.tim.tick, t.pwr.rails, t.si.pins, t.graphs)) = some (0, 1, true, []) ∧
    (after (.pwrGood 2 0 0 true) startUp).map (fun t => t.ctr (pwrB + 0x238)) = some 1 ∧ (after (.pwrGood 1 0 0 true) startUp).map (fun t => (t.pwr.rails, t.pwr.good)) = some (2, 1) ∧
    (after (.pwrGood 3 (BitVec.allOnes 68) 0 true) ({ startUp with pwr := { startUp.pwr with rails := 3, good := 3 } } : State)).map (fun t => (t.pwr.up, t.pwr.down, t.si.testOk)) =
      some (false, false, true) := by decide +kernel
theorem wit_RailTimeout : let s := ({ startUp with tim := { State.reset.tim with systime := 10000000 } } : State)
    s.pwr.good % 2 ^ s.pwr.rails ≠ 2 ^ s.pwr.rails - 1 ∧ (after .railTimeout s).map (fun t => (t.pwr.rails, t.pwr.railTries, t.pwr.retryAt, t.ctr (pwrB + 0x238))) =
      some (0, 1, some 110000000, 1) ∧
    (after .railTimeout ({ s with pwr := { s.pwr with railTries := 8 } } : State)).map (fun t => t.pwr.dead) = some true := by decide +kernel
def image1 : FwImage := { bytes := 4096, version := 1, svn := 0, digest := 0, sigOk := true }
theorem wit_HostBootImage : let s := ({ State.reset with fns := [(0, { exist := true })], pwr := { State.reset.pwr with bootWait := true } } : State)
    s.sec.boots image1 = true ∧ (after (.hostBootImage image1) s).map (fun t => ((t.fn 0).rdy, t.pwr.bootWait)) = some (true, false) ∧ same (.hostBootImage image1) State.reset = true := by decide +kernel
theorem wit_VddAonLoss : (after (.vddAonLoss 0) graph1).map (fun t => (t.tim.stopped, t.si.pins, t.slips, t.out)) = some (true, false, [], [⟨.pin, [2], [0]⟩, ⟨.pin, [1], [2]⟩]) := by decide +kernel
/-- IDLE is 2 and nothing is loaded, since 0 s. -/
def deepIdle : State := { later with pwr := { later.pwr with idle := 2, deepAt := some 0 } }
theorem wit_WarmerOnlyEntry : deepIdle.deepOk = true ∧ deepIdle.deepIdleNs ≤ 1000000000 ∧
    (after .warmerOnlyEntry deepIdle).map (fun t => (t.pwr.down, t.pwr.rails, t.tim.tick, t.ctr (pwrB + 0x218))) = some (true, 0, 1000000, 1) ∧ same .warmerOnlyEntry State.reset = true := by decide +kernel
theorem wit_WakeIn : let s := ({ later with pwr := { later.pwr with down := true, up := false, rails := 0 } } : State)
    (after .wakeIn s).map (fun t => (t.pwr.up, t.pwr.rails, t.tim.tick)) = some (true, 1, 1000000) ∧ (after (.perst false) s).map (fun t => t.pwr.rails) = some 1 ∧
    same .wakeIn State.reset = true ∧ (after .timeOscillatorReturn s).map (fun t => t.tim.stopped) = some false := by decide +kernel
/-- Domain 45 OFF and asked for. -/
def asked : State := { State.reset with pwr := { State.reset.pwr with doms := [(45, 0)], req := [45] } }
/-- The domains of PCIe L1.2 in their armed-idle state. -/
def l12 : State := { State.reset with pwr := { State.reset.pwr with doms := [(3, 1)] } }
theorem wit_DomainsSleepAndWake : State.reset.maySleep 45 1000000 21 = true ∧ (after (.domainIdle 45 1000000 21) State.reset).map (fun t => (t.dom 45, t.dom 46, t.dom 0)) = some (0, 2, 2) ∧
    State.reset.maySleep 45 1000000 20 = false ∧ same (.domainIdle 45 1000000 20) State.reset = true ∧ State.reset.maySleep 1 1000000 21 = false ∧
    (after (.l12Exit) l12).map (fun t => t.pwr.req.length) = some 3 ∧ (after (.timerWake 15 (1#48 <<< 45)) asked).map (fun t => (t.pwr.req, t.ctr (pwrB + 0x208))) = some ([45], 1) ∧
    (after (.brew 1500) asked).map (fun t => (t.dom 45, t.pwr.req, (t.reg (pwrB + 0x38)).toNat)) = some (2, [], 1500) ∧ same (.brew 1500) State.reset = true := by decide +kernel
/-- Hopper 0 in RETAIN with its port enabled and domain 42 in its wake set. -/
def hop0asleep : State := { (State.reset.setReg (hopB 0) 1).modHop 0 (fun x => { x with wake := [42] }) with pwr := { State.reset.pwr with doms := [(5, 1), (42, 0)] } }
theorem wit_HopperWake : hop0asleep.canonical = true ∧ hop0asleep.portEn 0 = true ∧ hop0asleep.dom 5 = 1 ∧ (after (.hopperWake 0) hop0asleep).map (fun t => (t.pwr.req.contains 5, t.pwr.req.contains 42)) = some (true, true) := by decide +kernel
/-- Slipcase 3 ADAPTIVE with its voltages left from an EXACT one. -/
def adaptive3 : State := { (slip3.modSlip 3 (fun p => { p with adaptive := true })).modQuire 1 (fun q => { q with target := 12, curStep := 12 }) with pwr := { slip3.pwr with mv := [(0, some 700)] } }
theorem wit_PowerIsMeasuredAndLimited : State.reset.powerLimit < 65001 ∧ (after (.limiterWindow 65001 []) State.reset).map (fun t => ((t.reg (pwrB + 0x30)).toNat, t.pwr.excess, t.pwr.under)) = some (65001, 1, none) ∧
    (after (.limiterWindow 1000 []) State.reset).map (fun t => (t.pwr.excess, t.pwr.under)) = some (0, some 0) ∧ same (.governorWindow 3) slip3 = true ∧
    (after (.governorWindow 3) adaptive3).map (fun t => ((t.quire 1).target, SMap.get none t.pwr.mv 0)) = some (20, none) ∧ Ready .reset 0x0D01 0 (.powerPolicy ref 2) ∧
    (left .reset 0x0D01 0 (.powerPolicy ref 2)).map (fun t => t.pwr.idle) = some 2 ∧ Ready slip3 0x0D02 3 (.governorSet ref 500) ∧
    (left slip3 0x0D02 3 (.governorSet ref 500)).map (fun t => (t.slip 3).powerMw) = some 500 ∧ Ready .reset 0x8D01 0 (.powerQuery ref) ∧
    ran .reset 0x8D01 0 (.powerQuery ref) = some (0, 0, 25 * 2 ^ 32) := by unfold Ready State.Starts; decide +kernel
/-- The cause of the latest fault record. -/
def lastFault (t : State) : Nat := (SMap.get {} t.si.flog ((t.si.flogHead + 63) % 64)).cause
theorem wit_ClocksSuppliesAndHeat : (after (.clockMon true) State.reset).map (fun t => (t.tim.stopped, lastFault t)) = some (true, 0x15) ∧
    (after (.crystalCheck 1001 true true) State.reset).map (fun t => (t.pwr.xtalOk, lastFault t)) = some (false, 0x15) ∧ same (.crystalCheck 1000 true true) State.reset = true ∧
    (after (.supplyMon 1 919 false) State.reset).map lastFault = some 0x16 ∧ same (.supplyMon 1 920 false) State.reset = true ∧ same (.supplyMon 1 980 false) State.reset = true ∧
    (after (.supplyMon 1 1050 false) State.reset).map lastFault = some 0x16 ∧ after (.supplyMon 1 1051 false) State.reset = none ∧
    (after (.thermal 1150) State.reset).map (fun t => (t.pwr.tempC, lastFault t)) = some (1150, 0x17) ∧ (after (.thermal 1149) State.reset).map lastFault = some 0 := by decide +kernel

/-! ## Safety -/

/-- The safe state cleared. -/
def cleared : State := { graph1 with si := { graph1.si with fresh := false, safe := false, pins := false } }
/-- The same with reaction 1 (FENCE) for DXE_MISMATCH, 4 (DEVICE) for FLOOR. -/
def reacts : State := (cleared.setReg (simB + 0x104) 1).setReg (simB + 0x110) 4
theorem wit_FaultsAreRecorded : cleared.canonical = true ∧ cleared.si.dead = false ∧ reacts.reaction 1 = 1 ∧ reacts.reaction 4 = 4 ∧
    (after (.internalFault 0 1 3 7) reacts).map (fun t => ((t.slip 3).state, t.si.flogHead, t.ctr (simB + 0x400), lastFault t)) = some (2, 1, 1, 1) ∧
    (after (.internalFault 0 4 0xFF 7) reacts).map (fun t => (t.si.pins, t.si.safe, t.si.devFault, (t.slip 3).state)) = some (true, true, true, 2) ∧
    same (.internalFault 0 0 3 7) reacts = true ∧ same (.internalFault 0 0x1E 3 7) reacts = true ∧
    (after (.internalFault 5 3 3 7) { reacts with si := { reacts.si with dead := true } }).map (fun t => (t.reg (qrB 5 + 0xC), t.si.flogHead)) = some (2, 0) ∧
    same (.internalFault 5 2 3 7) { reacts with si := { reacts.si with dead := true } } = true ∧
    (after .cpWatchdog cleared).map (fun t => (lastFault t, t.ctr (simB + 0x400))) = some (0x11, 1) ∧
    (after .siWatchdog cleared).map (fun t => (t.si.dead, t.out)) = some (true, [⟨.pin, [2], [1]⟩, ⟨.pin, [1], [0]⟩]) := by decide +kernel
theorem wit_SafetyQuery : Ready .reset 0x8B01 0 (.safetyQuery ref) ∧ (ran .reset 0x8B01 0 (.safetyQuery ref)).map (fun a => (a.1, a.2.2 / 2 ^ 16 % 256)) = some (0, 4) := by
  unfold Ready State.Starts; decide +kernel
theorem wit_SafetyCommands : Ready .reset 0x0B01 0 (.katIntervalSet ref 100) ∧ (left .reset 0x0B01 0 (.katIntervalSet ref 100)).map (fun t => (t.reg (simB + 0x14)).toNat) = some 100 ∧
    Ready .reset 0x0B02 0 (.safeStateClear ref) ∧ (left .reset 0x0B02 0 (.safeStateClear ref)).map (fun t => (t.si.fresh, t.si.safe, t.si.pins, t.out)) =
      some (false, false, false, [⟨.pin, [2], [0]⟩, ⟨.pin, [1], [2]⟩]) := by unfold Ready State.Starts; decide +kernel
/-- Outputs 0 and 1, of which 0 is LATCHED. -/
def latched0 : State := { cleared with xio := { cleared.xio with outs := [(0, { contention := true, latched := true, retries := 8 })] } }
theorem wit_OutputRelease : Ready latched0 0x0B03 0 (.outputRelease ref 3) ∧ ran latched0 0x0B03 0 (.outputRelease ref 3) = some (0, 0, 1) ∧
    (left latched0 0x0B03 0 (.outputRelease ref 3)).map (fun t => (t.outPin 0).latched) = some false := by unfold Ready State.Starts; decide +kernel
theorem wit_FaultInject : let s := ({ State.reset with sec := { State.reset.sec with life := 1 } } : State)
    Ready s 0x0B04 0 (.faultInject ref 0x72) ∧ s.sec.life = 1 ∧ sourceOk 0x72 = true := by unfold Ready State.Starts; decide +kernel
theorem wit_SafetyConfiguration : State.reset.siLocked = false ∧ (after (.siReact 1 4) State.reset).map (fun t => t.reaction 1) = some 4 ∧
    (after (.siReact 29 0) State.reset).map (fun t => t.reaction 29) = some (reactOf 29).2 ∧ (after (.siReact 1 5) State.reset).map (fun t => t.reaction 1) = some (State.reset.reaction 1) ∧
    (after .siLock State.reset).map (fun t => (t.siLocked, (after (.siReact 1 4) t).map (fun u => u.reaction 1))) = some (true, some (State.reset.reaction 1)) := by decide +kernel
/-- One requesting sample taken; a disagreement since 0; a request whose inputs are valid again since 0. -/
def request1 : State := { cleared with si := { cleared.si with safeRun := 1 } }
def disagree1 : State := { cleared with si := { cleared.si with disagreeAt := some 0 }, tim := { cleared.tim with systime := 10001 } }
def request2 : State := { cleared with si := { cleared.si with safeReq := true, validAt := some 0 }, tim := { cleared.tim with systime := 1000000 } }
theorem wit_SafeInput : (after (.safeInReq 0 0) request1).map (fun t => (t.si.safeReq, lastFault t, t.ctr (simB + 0x448))) = some (true, 0x18, 1) ∧
    (after (.safeInReq 1 1) cleared).map (fun t => (t.si.safeReq, t.si.safeRun)) = some (false, 1) ∧ (after (.safeInDisagree 0 0) disagree1).map lastFault = some 0x19 ∧
    (after (.safeInDisagree 0 1) disagree1).map (fun t => (lastFault t, t.si.disagreeAt)) = some (0, none) ∧ request2.safeRelease = 1000000 ∧
    (after (.safeInRelease 0 1) request2).map (fun t => t.si.safeReq) = some false ∧ (after (.safeInRelease 1 1) request2).map (fun t => t.si.safeReq) = some true := by decide +kernel
/-- TRIG_OUT0 enabled with its grid at 1 µs from 0. -/
def trig0 : State := cleared.setReg (xioB + 0x300) (0xC000000000000000 + 1000 * 2 ^ 16)
def sync1 : State := cleared.setReg (xioB + 0x380) 0xA0000001
theorem wit_FieldOutputs : trig0.outWatched 0 = true ∧ (after (.outputContention 0) trig0).map (fun t => t.outPin 0) = some { contention := true, retryAt := 10000000 } ∧
    (after (.outputContention 0) (trig0.modOut 0 (fun p => { p with retries := 8 }))).map (fun t => (t.outPin 0).latched) = some true ∧ cleared.outWatched 11 = false ∧
    (after .contentionRetry (trig0.modOut 0 (fun p => { p with contention := true, retries := 7 }))).map (fun t => t.outPin 0) = some { retries := 8 } ∧
    trig0.now (0 + 0 * 1000) = true ∧ (after (.trigOut 0 0 false) trig0).map (fun t => ((t.outPin 0).active, t.out)) = some (true, [⟨.edge, [0], [1, 0]⟩]) ∧
    (after (.syncOut false) sync1).map (fun t => ((t.outPin 8).active, t.out)) = some (true, [⟨.edge, [8], [1, 0]⟩]) ∧
    (after (.faultPin false false) cleared).map (fun t => (t.si.pinBad, lastFault t)) = some (true, 0x1A) ∧ same (.faultPin true false) cleared = true := by decide +kernel
def pair0 : Pair := { primary := 0, partner := 1, contract := 5, sole := none, lastMis := [], recovering := false, attributed := none, retire := false, passed := 0 }
/-- Quires 0 and 1 a PAIRED pair, at tick 2; the same under recovery with quire 1 attributed. -/
def paired2 : State := { cleared with si := { cleared.si with pairs := [pair0] }, tim := { cleared.tim with tick := 2, systime := 2000 } }
def recovering1 : State := { paired2 with si := { paired2.si with pairs := [{ pair0 with recovering := true, attributed := some 1, sole := some 0 }] } }
theorem wit_PairsAndUnits : paired2.canonical = true ∧ (after (.pairCompare 0 0 (some 5) (some 5) 0 0 true true) paired2).map (fun t => t.si.pairs.map (fun p => p.passed)) = some [1] ∧
    same (.pairCompare 0 1 (some 5) (some 5) 0 0 true true) paired2 = true ∧
    (after (.pairCompare 0 0 (some 5) (some 6) 0 0 true false) paired2).map (fun t => (t.ctr (simB + 0x408), t.si.pairs.map (fun p => p.recovering))) = some (1, [true]) ∧
    (after (.pairResync 0) recovering1).map (fun t => (t.qState 1, t.si.pairs.map (fun p => (p.recovering, p.passed)))) = some (1, [(false, 2)]) := by decide +kernel
theorem wit_KatAndLockstep : cleared.katUnit 0 = true ∧ cleared.rebasing 0 = false ∧ (after (.katRun 0 true 0) cleared).map (fun t => (t.ctr (simB + 0x420), lastFault t)) = some (1, 0) ∧
    (after (.katRun 0 false 1) cleared).map (fun t => (t.ctr (simB + 0x428), lastFault t)) = some (1, 2) ∧ cleared.katUnit 0x64 = true ∧
    (after (.lockstepUnit 0x65 3) { cleared with si := { cleared.si with rerun := [0x65] } }).map (fun t => (t.si.unitBad, t.si.rerun)) = some ([0x65], []) := by decide +kernel
/-- Quire 0 fenced: to be kept; to be retired, with spare 64; the same without a spare. -/
def fenced0 : State := { cleared.modQuire 0 (fun q => { q with state := some 2 }) with si := { cleared.si with recover := [(0, false)] } }
def retire0 : State := { fenced0 with si := { fenced0.si with recover := [(0, true)] } }
def spareless : State := { (((retire0.modQuire 64 (fun q => { q with state := some 3 })).modQuire 65 (fun q => { q with state := some 3 })).modQuire 66 (fun q => { q with state := some 3 })).modQuire 67
  (fun q => { q with state := some 3 }) with graphs := [] }
def takeover0 : State := { retire0 with si := { retire0.si with recover := [], takeover := [(0, 64)] } }
theorem wit_QuiresReplaced : fenced0.canonical = true ∧ (after (.quireScrub 0) fenced0).map (fun t => t.si.takeover.map (fun p => p.1)) = some [0] ∧ same (.quireScrub 1) fenced0 = true ∧
    retire0.pickSpare 0 = some 64 ∧ (after (.quireRetirement 0) retire0).map (fun t => (t.si.takeover, (t.quire 64).slip)) = some ([(0, 64)], some 3) ∧ spareless.pickSpare 0 = none ∧
    (after (.quireRetirement 0) spareless).map (fun t => (t.qState 0, t.si.replan, (t.slip 3).quires)) = some (3, true, [1]) ∧
    (after (.quireTakeover 0) takeover0).map (fun t => (t.qState 64, t.qState 0)) = some (1, 3) ∧ same (.quireTakeover 1) takeover0 = true ∧
    (after .cpRestart { cleared with si := { cleared.si with cpDown := true } }).map (fun t => (t.si.cpDown, t.ctr (simB + 0x438))) = some (false, 1) ∧ same .cpRestart cleared = true := by decide +kernel

/-! ## Security and observation -/

theorem wit_Colophon : Ready .reset 0x0901 0 (.colophonGet ref 5 sgl4k) ∧ sglErr sgl4k (192 + 64 * (State.reset.devBlocks ++ State.reset.graphBlocks (fun _ => true)).length) = none ∧
    ran .reset 0x0901 0 (.colophonGet ref 5 sgl4k) = some (0, 0, 192 + 64 * 3) := by unfold Ready State.Starts; decide +kernel
/-- A list of 4 GiB at 0. -/
def sgl4g : Sgl := { root := { addr := 0, length := 32, type := 1, rsvd := 0 }, segs := [[{ addr := 0, length := 0xFFFFFFFF, type := 0, rsvd := 0 }, { addr := 0, length := 1, type := 0, rsvd := 0 }]], readFail := false }
theorem wit_Spdm : Ready .reset 0x0902 0 (.spdmMessage ref sgl4k sgl4g 16 .getVersion) ∧ sglErr sgl4k 16 = none ∧ State.reset.sec.trng ≠ 2 ∧ sglErr sgl4g (Config.freeValue 0 % 2 ^ 32) = none := by
  refine ⟨by unfold Ready State.Starts; decide +kernel, by decide, by decide, ?_⟩
  have h : sglBytes sgl4g = .ok (2 ^ 32) := by decide
  have := Nat.mod_lt (Config.freeValue 0) (show 0 < 2 ^ 32 by decide)
  unfold sglErr; rw [h]; simp [sgl4g]; omega
theorem wit_KeySlots : let s := State.reset.setGran 9 (.owned 5)
    Ready s 0x0903 0 (.keySlotGen ref 5) ∧ (s.key 5).state ≠ 2 ∧ s.sec.trng ≠ 2 ∧ Ready s 0x0904 0 (.keySlotErase ref 4095) ∧
    (left s 0x0903 0 (.keySlotGen ref 5)).map (fun t => ((t.key 5).state, t.gran 9)) = some (1, .dirty) ∧
    (left s 0x0904 0 (.keySlotErase ref 5)).map (fun t => ((t.key 5).state, t.gran 9)) = some (0, .dirty) := by unfold Ready State.Starts; decide +kernel
def image2 : FwImage := { bytes := 4096, version := 2, svn := 1, digest := 77, sigOk := true }
theorem wit_Firmware : Ready .reset 0x0905 0 (.fwStage ref sgl4k image2) ∧ State.reset.sec.staged = none ∧ sglErr sgl4k 4096 = none ∧
    ran .reset 0x0905 0 (.fwStage ref sgl4k image2) = some (0, 0, 4096) ∧
    (let s := ({ State.reset with sec := { State.reset.sec with staged := some image2 } } : State)
    Ready s 0x0906 0 (.fwCommit ref) ∧ ran s 0x0906 0 (.fwCommit ref) = some (0, 0, 1) ∧
      (left s 0x0906 0 (.fwCommit ref)).map (fun t => (t.sec.active, t.sec.vault.map (fun v => (v.gen, v.fwSvn, v.fwDigest)))) = some (image2, some (1, 1, 77))) := by
  unfold Ready State.Starts; decide +kernel
/-- Lifecycle OWNED (3), with a nonce out. -/
def owned : State := { State.reset with sec := { State.reset.sec with life := 3, nonce := some (1, 0) } }
theorem wit_Debug : Ready owned 0x0907 0 (.debugChallenge ref sgl4k) ∧ owned.sec.dbgOpen = false ∧ owned.sec.vault ≠ none ∧ sglErr sgl4k 96 = none ∧ Ready owned 0x0908 0 (.debugResponse ref sgl4k true) ∧
    (left owned 0x0908 0 (.debugResponse ref sgl4k true)).map (fun t => (t.sec.dbgOpen, t.sec.nonce, t.sec.sessions)) = some (true, none, []) ∧
    ran owned 0x0908 0 (.debugResponse ref sgl4k false) = some (0x300, 7, 0) ∧ (ran owned 0x0907 0 (.debugChallenge ref sgl4k)).map (fun a => a.1) = some 0 := by unfold Ready State.Starts; decide +kernel
/-- The authorisation to VENDOR_TEST by the vendor. -/
def auth1 : LifeAuth := { magic := 0x4C584155, target := 1, flags := 0, nPub := 0, rsvdNZ := false, uid := Config.deviceUid, vaultGen := 0, signer := 0, newOwner := 0, pubs := [], vendor := true, sigOk := true }
theorem wit_Lifecycle : Ready .reset 0x0909 0 (.lifecycleAdvance ref 1 sgl4k auth1) ∧ sglErr sgl4k 720 = none ∧ State.reset.sec.mayMove 1 = true ∧
    (State.reset.sec.nextVault auth1 1).svn = 0 ∧ (ran .reset 0x0909 0 (.lifecycleAdvance ref 1 sgl4k { auth1 with magic := 0 })).map (fun a => a.1) ≠ some 0 := by unfold Ready State.Starts; decide +kernel
theorem wit_LifecycleAuth : State.reset.sec.authOk auth1 1 = true := by
  simp only [Sec.authOk, auth1, Bool.and_eq_true, decide_eq_true_eq]
  decide
/-- A session with a heartbeat of 1 s, silent for 3 s, and another silent for less; a nonce 10 s old. -/
def silent : State := { State.reset with
  sec := { State.reset.sec with sessions := [{ id := 1, up := true, period := 4, seen := 0 }, { id := 2, up := true, period := 3, seen := 3000000001 }], nonce := some (9, 2000000000) },
  tim := { State.reset.tim with systime := 12000000000 } }
def vf1 (d : Tdisp) : State := slip3.modFn 1 (fun f => { f with tdisp := d })
def stream1 : IdeStream := { id := 1, session := 1, fns := [1], sets := [0], active := some 0, insecure := false }
theorem wit_SecurityEvents : (after .drbgReseed State.reset).map (fun t => t.ctr (semB + 0x120)) = some 1 ∧
    (after .trngFail State.reset).map (fun t => (t.sec.trng, t.ctr (semB + 0x128), t.ctr (simB + 0x400))) = some (2, 1, 1) ∧
    (after (.trngRestart true) { silent with sec := { silent.sec with trng := 2 } }).map (fun t => t.sec.trng) = some 1 ∧ (after .nonceExpiry silent).map (fun t => t.sec.nonce) = some none ∧
    (after .heartbeatMissed silent).map (fun t => t.sec.sessions.map (fun x => x.id)) = some [2] ∧
    (after (.doeRequest 2 4096 .getVersion) State.reset).map (fun t => (t.sec.doeErr, t.sec.doeReady)) = some (false, true) ∧
    (after (.doeRequest 3 16 .getVersion) State.reset).map (fun t => t.sec.doeErr) = some true ∧
    (after .doeAbort { State.reset with sec := { State.reset.sec with doeErr := true } }).map (fun t => t.sec.doeErr) = some false ∧
    (after (.ideCheckFailed 1) { vf1 .run with sec := { State.reset.sec with streams := [stream1] } }).map (fun t => ((t.fn 1).tdisp, t.sec.streams.map (fun i => i.insecure))) = some (.error, [true]) ∧
    (after (.lockInterface 1) slip3).map (fun t => (t.fn 1).tdisp) = some .locked ∧ (after (.lockInterface 0) slip3).map (fun t => decide (t.fns = slip3.fns)) = some true ∧
    (after (.stopInterface 1) (vf1 .run)).map (fun t => (t.fn 1).tdisp) = some .unlocked := by decide +kernel
theorem wit_LinkEvents : (after (.poisonedTlp 0 8) State.reset).map (fun t => t.ctr (xioB + 0x410)) = some 1 ∧ (after .unexpectedCompletion State.reset).map (fun t => t.out.length) = some 1 ∧
    (after (.unsupportedRequest 0 0x10000000 true) State.reset).map (fun t => (t.ctr (xioB + 0x408), t.out.length)) = some (1, 1) ∧
    (after (.unsupportedRequest 0 0x10000000 false) State.reset).map (fun t => t.out.length) = some 2 ∧ same (.unsupportedRequest 0 0xFFFF true) State.reset = true ∧
    (after (.extest [(3, 1)]) State.reset).map (fun t => (t.xio.extest, t.out)) = some (true, [⟨.pin, [3], [1]⟩]) := by decide +kernel
theorem wit_Cupping : ReadyAt .reset 0x0A01 0 2 (.cuppingSchedule ref 0) ∧ ReadyAt .reset 0x0A01 0 200 (.cuppingSchedule ref 1) ∧ State.reset.bindLead = 200 ∧
    (after (.cuppingSchedule ref 0) (onQ (pktAt 0x0A01 0 2) .reset)).map (fun t => t.obs.snapPend) = some (some (some 1, 2, some ref)) ∧
    (after (.cuppingSchedule ref 1) (onQ (pktAt 0x0A01 0 200) .reset)).map (fun t => t.obs.snapPend) = some (some (some (2 ^ 31 + 1), 200, some ref)) := by
  unfold ReadyAt; decide +kernel
/-- A snapshot due at tick 0, with a counter at 5; an alarm present and one that is over. -/
def snap0 : State := { onQ { pktAt 0x0A01 0 0 with phase := .staged } .reset with ctrs := [(simB + 0x400, 5)], obs := { State.reset.obs with snapPend := some (some 1, 0, some ref) } }
def alarm1 : Alarm := { cause := 0x17, source := 0x72, slip := 0xFF, present := true, count := 1, due := true }
def alarms2 : State := { State.reset with obs := { State.reset.obs with alarms := [(0, alarm1), (1, { alarm1 with source := 0x73, present := false })] } }
theorem wit_Snapshots : snap0.canonical = true ∧ (answer .snapshotTick snap0 = some (0, 0, 1)) ∧ (after .snapshotTick snap0).map (fun t => ((SMap.get 0 t.shadow (simB + 0x400)).toNat, t.obs.snapPend.isNone, t.obs.snapId)) =
      some (5, true, 1) ∧ same .snapshotTick State.reset = true := by decide +kernel
/-- A snapshot held. -/
def snapHeld : State := { State.reset with shadow := [(simB + 0x400, 5)], obs := { State.reset.obs with snapId := 1, snapTick := 3 } }
theorem wit_SnapshotRead : Ready snapHeld 0x8A01 0 (.snapshotRead ref 1 (BitVec.ofNat 32 (simB + 0x400))) ∧
    ran snapHeld 0x8A01 0 (.snapshotRead ref 1 (BitVec.ofNat 32 (simB + 0x400))) = some (0, 0, 5 + 3 * 2 ^ 64) := by
  unfold Ready State.Starts; decide +kernel
theorem wit_Alarms : Ready alarms2 0x0A02 0 (.alarmRead ref sgl4k) ∧ ran alarms2 0x0A02 0 (.alarmRead ref sgl4k) = some (0, 0, 2) ∧ Ready alarms2 0x0A03 0 (.alarmAck ref 0x17) ∧
    (left alarms2 0x0A03 0 (.alarmAck ref 0x17)).map (fun t => t.obs.alarms) = some [(0, { alarm1 with acked := true })] := by unfold Ready State.Starts; decide +kernel
/-- Queue 9 of PF0, a LOG queue, in use as the device's with both caps at 1 MB/s; one log and one trace in the ring. -/
def logQ9 : State := { State.reset.modQp 9 (fun q => { q with valid := true, kind := 7, ringLog2 := 6, entLog2 := 6 }) with
  obs := { alarms2.obs with logQ := some (0, 9), logCap := 1, traceCap := 1 } }
def rings2 : State := { logQ9 with obs := { logQ9.obs with alarms := [], ring := [{ kind := 3, source := 0, slip := 0, arg := 0, code := 0, seq := 0, tick := 0, data := [] },
  { kind := 2, source := 1, slip := 0, arg := 0, code := 0, seq := 0, tick := 0, data := [] }] } }
theorem wit_Logs : Ready logQ9 0x0A04 0 (.logConfig ref 0 9 5 6 255) ∧ (left logQ9 0x0A04 0 (.logConfig ref 0 9 5 6 255)).map (fun t => (t.obs.logCap, t.obs.traceCap, t.obs.traceMask)) = some (5, 6, 255) ∧
    logQ9.logPlace = some 9 ∧ logQ9.alarmDue alarm1 = true ∧ logQ9.capFree 0 64 = true ∧
    (after (.alarmRecordEgress 0) logQ9).map (fun t => (t.obs.alarms.map (fun e => e.2.due), (t.qp 9).openRecs.length + (t.qp 9).dtail)) = some ([false, true], 1) ∧
    same (.alarmRecordEgress 2) logQ9 = true ∧ rings2.logPlace = some 9 ∧ (after .logEgress rings2).map (fun t => t.obs.ring.map (fun r => r.kind)) = some [3] ∧ same .logEgress State.reset = true := by
  unfold Ready State.Starts; decide +kernel
/-- A member of a binding with its parent at port 0 and a child at port 1. -/
def member : State := { State.reset with bind := { State.reset.bind with member := true, parent := some 0, children := [1] } }
theorem wit_AlarmSummary : (after (.alarmSummary 1 [(7, 0x17, 2, 9)]) member).map (fun t => (t.obs.sums.length, t.ctr (obsB + 0x138))) = some (1, 1) ∧
    same (.alarmSummary 0 [(7, 0x17, 2, 9)]) member = true ∧ member.tim.systime < member.obs.sumSent + 1000000 ∧ (after (.alarmSummary 1 []) member).map (fun t => t.out) = some [] := by decide +kernel

/-! ## Graphs, contracts, ports and time -/

/-- A package with a spiking part without tiles, for one quire. -/
def pkg1 : Package := {
  bytes := 4096, parses := true, signer := 0, vendor := true, sigOk := true, bind := none, progDigest := 5, wDigest := 6, nQuires := 1, chans := [], kernels := [],
  rings := [], delta := none, readout := none, spk := some { tiles := [], groups := [], atts := [], lag := 1 }, fu := none, auxs := [], derived := [], unitIns := [],
  images := [], dramImgs := [], wake := [], streams := [], egress := [], units := [], maxRec := 64 }
theorem wit_GraphLoad : Ready slip3 0x0201 0 (.graphLoad ref 3 sgl4k pkg1) ∧ slip3.sealedFor ref 3 = false ∧ sglErr sgl4k 4096 = none ∧ slip3.pkgErr 3 pkg1 = none ∧
    ran slip3 0x0201 0 (.graphLoad ref 3 sgl4k pkg1) = some (0, 0, 1 + 1 * 2 ^ 32 + 4 * 2 ^ 40 + 4096 * 2 ^ 64) ∧
    (left slip3 0x0201 0 (.graphLoad ref 3 sgl4k pkg1)).map (fun t => ((t.graph 1).exist, (t.graph 1).state, (t.graph 1).quires, t.nextGraph)) = some (true, 0, [0], 2) := by
  unfold Ready State.Starts; decide +kernel
theorem wit_GraphStartStop : Ready graph1 0x0203 1 (.graphStart ref) ∧ (left graph1 0x0203 1 (.graphStart ref)).map (fun t => (t.graph 1).state) = some 1 ∧
    Ready running 0x0203 1 (.graphStart ref) ∧ ran running 0x0203 1 (.graphStart ref) = some (0x700, 2, 0) ∧ Ready running 0x0204 1 (.graphStop ref) ∧
    (left running 0x0204 1 (.graphStop ref)).map (fun t => (t.graph 1).state) = some 2 ∧ (left graph1 0x0204 1 (.graphStop ref)).map (fun t => (t.graph 1).state) = some 0 := by
  unfold Ready State.Starts; decide +kernel
/-- Graph 1 under contract 4, admitted. -/
def con4 : State := (running.modGraph 1 (fun g => { g with contract := 4 })).modContract 4 (fun _ => { exist := true, graph := 1, slip := 3, deadline := 10, lead := 100 })
theorem wit_GraphUnload : Ready graph1 0x0202 1 (.graphUnload ref) ∧ (left graph1 0x0202 1 (.graphUnload ref)).map (fun t => t.graph 1) = some {} ∧
    Ready con4 0x0202 1 (.graphUnload ref) ∧ ran con4 0x0202 1 (.graphUnload ref) = some (0x300, 1, 0) ∧ Ready con4 0x0204 1 (.graphStop ref) ∧
    ran con4 0x0204 1 (.graphStop ref) = some (0x300, 1, 0) := by unfold Ready State.Starts; decide +kernel
/-- Queue 2 of VF 1, a RESULT queue. -/
def results1 : State := graph1.modQp 258 (fun q => { q with valid := true, kind := 2, ringLog2 := 6, entLog2 := 8, bufLog2 := 12, bufCount := 1 })
theorem wit_GraphBindQuery : Ready results1 0x0205 1 (.graphBind ref 1 2) ∧ results1.fnSlip 1 = some 3 ∧ (results1.qp 258).fits 0 = true ∧
    (left results1 0x0205 1 (.graphBind ref 1 2)).map (fun t => (t.graph 1).bind) = some (some (1, 2)) ∧ Ready con4 0x8201 1 (.graphQuery ref) ∧
    (ran con4 0x8201 1 (.graphQuery ref)).map (fun a => (a.1, a.2.2 % 256, a.2.2 / 2 ^ 32 % 2 ^ 32)) = some (0, 1, 4) := by unfold Ready State.Starts; decide +kernel
def src1 : ConSrc := { kind := 1, index := 0, link := 0, rsvd := 0, rate := 1000000, burst := 100, sizeMax := 0 }
def desc1 : ConDesc := { graph := 1, priority := 3, protection := 0, nSrc := 1, flags := 1, deadline := 100, revokeLead := 50 }
def plan1 : AdmitPlan := { wcTicks := 40, restNs := 0, fail := none, partners := [], arbs := [], winNs := 1000, parts := [] }
theorem wit_ContractAdmit : Ready graph1 0x0301 0 (.contractAdmit ref desc1 [src1] plan1) ∧ graph1.conRefuse 0 desc1 [src1] = none ∧ graph1.conFails desc1 [src1] plan1 = none ∧
    ran graph1 0x0301 0 (.contractAdmit ref desc1 [src1] plan1) = some (0, 0, 1 + 40 * 2 ^ 32 + 2 * 2 ^ 64 + 1 * 2 ^ 96) ∧
    (left graph1 0x0301 0 (.contractAdmit ref desc1 [src1] plan1)).map (fun t => ((t.contract 1).exist, (t.contract 1).deadline, (t.graph 1).contract)) = some (true, 100, 1) := by
  unfold Ready State.Starts; decide +kernel
theorem wit_ContractRefused : graph1.conRefuse 0 { desc1 with deadline := 0 } [src1] = some (0x102, 0xF025) ∧ ran graph1 0x0301 0 (.contractAdmit ref { desc1 with deadline := 0 } [src1] plan1) = some (0x102, 0xF025, 0) ∧
    graph1.conFails { desc1 with deadline := 39 } [src1] plan1 = some (4, 40, 9, 0) ∧
    (ran graph1 0x0301 0 (.contractAdmit ref { desc1 with deadline := 39 } [src1] plan1)).map (fun a => (a.1, a.2.1, a.2.2 / 2 ^ 32 % 2 ^ 32)) = some (0x201, 4, 40) := by decide +kernel
theorem wit_ContractRelease : Ready con4 0x0302 4 (.contractRelease ref []) ∧ (left con4 0x0302 4 (.contractRelease ref [])).map (fun t => ((t.contract 4).exist, (t.graph 1).contract)) = some (false, 0) ∧
    Ready con4 0x0303 4 (.contractQuery ref sgl4k) ∧ (ran con4 0x0303 4 (.contractQuery ref sgl4k)).map (fun a => (a.1, a.2.2 % 256)) = some (0, 0) := by
  unfold Ready State.Starts; decide +kernel
theorem wit_ContractPolicy : Ready .reset 0x0304 0 (.contractPolicy ref 10 95 90 20 1 1 64) ∧
    (left .reset 0x0304 0 (.contractPolicy ref 10 95 90 20 1 1 64)).map (fun t => t.policy) = some [10, 95, 90, 20, 1, 1, 64] ∧
    (ran .reset 0x0304 0 (.contractPolicy ref 9 95 90 20 1 1 64)).map (fun a => a.1) = some 0x102 := by unfold Ready State.Starts; decide +kernel
/-- Contract 4's record of tick 0 is due, at its deadline and one tick later; the second notice of revocation, after 100 ticks. -/
def due4 (n : Nat) : State := { con4 with dues := [{ graph := 1, kind := .readout, layer := 0, tref := 0, con := 4 }], tim := { con4.tim with tick := n, systime := 1000 * n } }
def replan4 : State := { con4 with si := { con4.si with replan := true } }
def noticed4 (n : Nat) : State := { con4.modContract 4 (fun c => { c with state := 1, unguaranteed := true, revokeAt := 100 }) with tim := { con4.tim with tick := n, systime := 1000 * n } }
theorem wit_ContractsMonitored : same .deadlineMiss (due4 10) = true ∧ (due4 11).overdue { graph := 1, kind := .readout, layer := 0, tref := 0, con := 4 } = true ∧
    (after .deadlineMiss (due4 11)).map (fun t => (t.dues.map (fun d => d.missed), t.ctr (simB + 0x400), lastFault t)) = some ([true], 1, 0x0F) ∧ same (.contractReplan 1) con4 = true ∧
    (after (.contractReplan 0) replan4).map (fun t => t.si.replan) = some false ∧ replan4.nextRevoked = some 4 ∧
    (after (.contractReplan 1) replan4).map (fun t => ((t.contract 4).state, (t.contract 4).unguaranteed, (t.contract 4).revokeAt)) = some (1, true, 100) ∧
    same (.contractRevoked 4 []) (noticed4 99) = true ∧ (after (.contractRevoked 4 []) (noticed4 100)).map (fun t => ((t.contract 4).state, (t.graph 1).state, (t.graph 1).contract)) = some (2, 2, 0) := by
  decide +kernel
/-- Admission 7 waits for device 9; a part of device 9's admission 7 waits for its tick. -/
def admits : State := { member with conAdmits := [{ ref := some ref, home := none, id := 7, func := 0, desc := desc1, srcs := [src1], plan := plan1, atTick := none, wait := [9] },
  { ref := none, home := some (9, 7), id := 7, func := 0, desc := desc1, srcs := [src1], plan := plan1, atTick := none, wait := [] }] }
theorem wit_ContractPart : graph1.conPartOf [0, 7, 1, 2] = none ∧ (after (.contractPart 1 { src := 9, body := .contract [2, 7] } plan1) (onQ { pkt 0x0301 0 with phase := .running } admits)).map (fun t => t.conAdmits.length) = some 1 ∧
    (after (.contractPart 1 { src := 9, body := .contract [3, 7, 55] } plan1) admits).map (fun t => t.conAdmits.map (fun a => a.commitAt)) = some [none, some 55] ∧
    (after (.contractPart 1 { src := 9, body := .contract [5, 7] } plan1) admits).map (fun t => t.conAdmits.length) = some 1 := by decide +kernel
/-- Port 0 enabled, in slipcase 3, with a bit set in its mask. -/
def port0 : State := (slip3.setReg (hopB 0) 1).modHop 0 (fun x => { x with hot := [(5, true)] })
theorem wit_HotMask : Ready port0 0x0401 0 (.portHotmaskLoad ref 0 { sgl4k with root := { sgl4k.root with length := 262144 } } [7, 2097151]) ∧ port0.portEn 0 = true ∧
    (left port0 0x0401 0 (.portHotmaskLoad ref 0 { sgl4k with root := { sgl4k.root with length := 262144 } } [7, 2097151])).map (fun t => [5, 7, 2097151].map (SMap.get false (t.hop 0).hot)) =
      some [false, true, true] ∧ port0.backing 0 = 2097152 ∧ Ready port0 0x0402 0 (.portHotmaskEdit ref 0 [0x80000009, 5]) ∧
    (left port0 0x0402 0 (.portHotmaskEdit ref 0 [0x80000009, 5])).map (fun t => [5, 9].map (SMap.get false (t.hop 0).hot)) = some [false, true] := by unfold Ready State.Starts; decide +kernel
def evq1 : State := port0.modQp 259 (fun q => { q with valid := true, kind := 3 })
theorem wit_EvringBind : Ready evq1 0x0403 0 (.portEvringBind ref 0 1 3) ∧ evq1.fnSlip 1 = some (evq1.portSlip 0) ∧
    (left evq1 0x0403 0 (.portEvringBind ref 0 1 3)).map (fun t => (t.hop 0).evq) = some (some (1, 3)) := by unfold Ready State.Starts; decide +kernel
theorem wit_TimeQuery : Ready later 0x8501 0 (.timeQuery ref) ∧ (ran later 0x8501 0 (.timeQuery ref)).map (fun a => (a.1, a.2.2 % 2 ^ 64, a.2.2 / 2 ^ 64 % 2 ^ 32)) = some (0, 1000000000, 1000000) := by
  unfold Ready State.Starts; decide +kernel
/-- A command staged for the present tick, alone. -/
def stagedCmd (opc : BitVec 16) (c : Instr) (s : State) : State := { onQ { pktAt opc 0 0 with phase := .staged } s with staged := [{ ref := ref, tick := 0, obj := 0, cmd := c }] }
theorem wit_TimeSetTick : ReadyAt .reset 0x0501 0 2 (.timeSetTick ref 64 false) ∧ State.reset.tickInUse = false ∧
    (after (.timeSetTick ref 64 false) (onQ (pktAt 0x0501 0 2) .reset)).map (fun t => (t.staged.length, t.tim.tickQ)) = some (1, 4) ∧
    (after (.stagedCommandEffect false) (stagedCmd 0x0501 (.timeSetTick ref 64 false) .reset)).map (fun t => t.tim.tickQ) = some 64 := by unfold ReadyAt; decide +kernel
/-- A refused jump of 5,000 ns pending on the root; on a member at the same time. -/
def jumpRoot : State := (State.reset.setReg (tuB + 0x38) 5000).setRfld tuStat 12 12 1
def jumpMember : State := { jumpRoot.setRfld tuStat 13 13 0 with bind := { State.reset.bind with member := true } }
theorem wit_TimeAcceptJump : ReadyAt jumpRoot 0x0502 0 2 (.timeAcceptJump ref 0 0) ∧ jumpRoot.isRoot = true ∧ jumpRoot.rfld tuStat 12 12 = 1 ∧
    (after (.stagedCommandEffect false) (stagedCmd 0x0502 (.timeAcceptJump ref 0 0) jumpRoot)).map (fun t => ((t.reg (tuB + 0x30)).toNat, t.rfld tuStat 12 12, t.timeState)) = some (5000, 0, 1) ∧
    jumpMember.isRoot = false ∧
    (after (.stagedCommandEffect false) (stagedCmd 0x0502 (.timeAcceptJump ref 9000 9) jumpMember)).map (fun t => (t.tim.systime, t.tim.tick, t.rfld tuStat 12 12)) = some (9000, 9, 0) := by
  unfold ReadyAt; decide +kernel
/-- The root follows PTP (source 1), qualified; the same with an epoch, and after one offset beyond JUMP_LIMIT. -/
def ptp1 : State := State.reset.setRfld tuStat 7 4 1
def ptp2 : State := ptp1.setRfld tuStat 15 15 1
def ptp3 : State := { ptp2 with tim := { ptp2.tim with bigRun := 1 } }
theorem wit_TimeFollows : same (.syncReceived 0 5 5 0 0) ptp1 = true ∧ same (.syncReceived 5 5 5 0 0) ptp1 = true ∧ ptp1.curSrc = 1 ∧ ptp1.isRoot = true ∧ ptp1.canonical = true ∧
    (after (.syncReceived 2 7 0 0 0) ptp1).map (fun t => t.tim.lastAt.length) = some 0 ∧
    (after (.syncReceived 1 7000 0 0 0) ptp1).map (fun t => ((t.reg (tuB + 0x30)).toNat, t.rfld tuStat 15 15, t.timeState, t.tim.locked)) = some (7000, 1, 1, true) ∧
    (after (.syncReceived 1 7000 0 0 0) ptp2).map (fun t => t.timeState) = some 1 ∧ (after (.syncReceived 1 7000 100 0 0) ptp2).map (fun t => (t.timeState, t.tim.slewEnd)) = some (2, 1000000) ∧
    ptp3.rfld (tuB + 0x20) 19 0 < 1000000 ∧ (after (.syncReceived 1 7000 1000000 0 0) ptp3).map (fun t => ((t.reg (tuB + 0x38)).toNat, t.rfld tuStat 12 12, t.timeState)) = some (1000000, 1, 4) := by
  decide +kernel
/-- PTP synchronises since 0 s and has qualified, and falls silent. -/
def ptp4 : State := { later with tim := { later.tim with systime := 2000000000, runFrom := [(1, some 0)], locked := true } }
theorem wit_Sources : ptp4.candidates.contains 1 = true ∧ ptp4.qualTime ≤ 2000000000 ∧ (after (.sourceQualified 1) ptp4).map (fun t => (t.qualified 1, t.curSrc)) = some (true, 1) ∧
    same (.sourceQualified 1) { ptp4 with tim := { ptp4.tim with systime := ptp4.qualTime - 1 } } = true ∧ ptp4.lossTime ≤ 1000000000 ∧
    (after (.sourceLost 1) ((ptp4.setRfld tuStat 7 4 1).setQualified 1 true)).map (fun t => (t.qualified 1, t.timeState)) = some (false, 3) ∧ same (.sourceLost 1) later = true := by decide +kernel
theorem wit_Ticks : (after .tickBoundary (State.reset.setReg (hopB 0 + 0x20) 77)).map (fun t => (t.tim.tick, t.tim.systime, (t.hop 0).refr)) = some (1, 1000, 77) ∧
    same .tickBoundary { State.reset with tim := { State.reset.tim with stopped := true } } = true ∧
    (after (.tickClosed 1) { running with tim := { running.tim with tick := 5, systime := 5000 } }).map (fun t => (t.graph 1).closed) = some 5 ∧ same (.tickClosed 1) graph1 = true := by decide +kernel

/-! ## Registers and enables -/

theorem wit_RegisterRefusals : barBytes 0 < 0xFFFFFFC + 8 ∧ after (.registerWrite 0 0xFFFFFFC 8 0xFF 0) State.reset = some (State.reset.unsupported 0 0xFFFFFFC) ∧
    accessOf 0x500000 1 1 = .run 0x500000 1 0 ∧ reaches 0 0xF000000 4 = false ∧ (after (.registerWrite 0 0xF000000 4 0xF 0) State.reset).map (fun t => ((t.reg (fnB 0 + 0x28)).toNat >>> 40) % 256) = some 6 ∧
    reaches 0 (pwrB + 0x28) 2 = true ∧ (after (.registerWrite 0 (BitVec.ofNat 28 (pwrB + 0x28)) 2 3 0) State.reset).map (fun t => ((t.reg (fnB 0 + 0x28)).toNat >>> 40) % 256) = some 7 ∧
    accessOf (pwrB + 0x28) 4 5 = .bad ∧ (after (.registerWrite 0 (BitVec.ofNat 28 (pwrB + 0x28)) 4 5 0) State.reset).map (fun t => ((t.reg (fnB 0 + 0x28)).toNat >>> 40) % 256) = some 8 ∧
    (after (.registerRead 0 (BitVec.ofNat 28 (pwrB + 0x28)) 4 5) State.reset).map (fun t => t.out.length) = some 2 := by decide +kernel
/-- XIO_ETH_CFG of port 0, 64 bits, writable while its EN is 0. -/
def xio10 : BitVec 28 := BitVec.ofNat 28 (xioB + 0x10)
def located (o : Nat) : Option (Nat × Bool) := (locate 0 o).map (fun p => (p.1, p.2.1.wide && decide (p.2.1.act = .none ∧ p.2.1.kind = .store) && State.reset.condOk 0 p.1 p.2.1))
theorem wit_RegisterWrites : located (xioB + 0x10) = some (xioB + 0x10, true) ∧ (after (.registerWrite 0 xio10 8 0xFF 0x1234) State.reset).map (fun t => (t.reg (xioB + 0x10)).toNat) = some 0x1234 ∧
    (after (.registerWrite 0 xio10 4 0xF 0x1234) State.reset).map (fun t => ((t.reg (xioB + 0x10)).toNat, SMap.get none t.stageBuf 0)) = some (0, some (xioB + 0x10, 0x1234)) ∧
    (after (.registerWrite 0 (xio10 + 4) 4 0xF 0x8000) { State.reset with stageBuf := [(0, some (xioB + 0x10, 0x1234))] }).map (fun t => (t.reg (xioB + 0x10)).toNat) = some 0x800000001234 ∧
    wideAt 0 (pwrB + 0x28) = none ∧ (after (.registerWrite 0 (BitVec.ofNat 28 (pwrB + 0x28)) 4 0xF 0x64) State.reset).map (fun t => (t.reg (pwrB + 0x28)).toNat) = some 0x64 := by decide +kernel
def epoch5 : State := State.reset.setReg (tuB + 0x30) 0x100000005
theorem wit_RegisterReads : located (tuB + 0x30) = some (tuB + 0x30, true) ∧ (after (.registerRead 0 0x20030 8 0xFF) epoch5).map (fun t => t.out) = some [⟨.readData, [0, 0x20030], [0x100000005]⟩] ∧
    (after (.lowHalfRead 0 0x20030) epoch5).map (fun t => (t.out, SMap.get none t.latch 0)) = some ([⟨.readData, [0, 0x20030], [5]⟩], some (0x20030, 0x100000005)) ∧
    (after (.registerRead 0 0x20034 4 0xF) { epoch5 with latch := [(0, some (0x20030, 0x700000009))] }).map (fun t => t.out) = some [⟨.readData, [0, 0x20034], [7]⟩] := by decide +kernel
theorem wit_DataWindow : accessOf 0x6000000 8 (2 ^ 8 - 1) = .run 0x6000000 8 0 ∧ winAt 0x6000000 = some (.qsp 0 0) ∧ winAt 0xE7FFFF8 = some (.sys 67 0xFFFF8) ∧ winAt 0xE800000 = none ∧
    (after (.dataWindowRead 0x6000000 8 true false) (State.reset.modQuire 0 (fun q => { q with qsp := [(1, 2)] }))).map (fun t => t.out) = some [⟨.readData, [0, 0x6000000], [512]⟩] ∧
    (after (.dataWindowRead 0x6000000 8 false false) State.reset).map (fun t => t.out.length) = some 2 ∧
    (after (.dataWindowRead 0x6000000 8 true true) State.reset).map (fun t => (t.out, t.ctr (xioB + 0x410))) = some ([⟨.poisoned, [0], [0x6000000]⟩], 1) := by decide +kernel
theorem wit_HopperEnable : let s := port0
    s.canonical = true ∧ (State.reset.touch 0 (hopB 0)).geomOk 0 false = true ∧ (after (.hopCtlEn 0 1) State.reset).map (fun t => t.portEn 0) = some true ∧
    (after (.hopCtlEn 0 0) s).map (fun t => t.portEn 0) = some false ∧ (after (.hopDecCfg 0 3) s).map (fun t => t.reg (hopB 0 + 0x48)) = some 1 ∧
    (after (.hopDecCfg 0 0x83) State.reset).map (fun t => t.reg (hopB 0 + 0x10)) = some 0x83 ∧ (after (.hopDecCfg 0 1) State.reset).map (fun t => t.reg (hopB 0 + 0x100)) = some (BitVec.ofNat 64 ((presetRules 1).headD 0)) ∧
    (after (.hopCtlEn 0 1) (State.reset.setReg (hopB 0 + 8) 0x0FFF0FFF)).map (fun t => (t.portEn 0, t.reg (hopB 0 + 0x48))) = some (false, 0x10) := by decide +kernel
/-- Surface 0 set up by a write of SFM_SURF_CFG. -/
def surf0 (v : BitVec 32) : Option State := after (.sfmSurfCfgEn 0 v) port0
theorem wit_SurfaceEnable : (surf0 0).map (fun t => (t.reg (sfmP 0)).toNat) = some 0 ∧ (surf0 0x80000000).map (fun t => ((t.reg (sfmP 0)).getLsbD 31, (t.reg (sfmP 0 + 0x30)).toNat)) = some (false, 1) ∧
    (surf0 0x80301000).map (fun t => ((t.reg (sfmP 0)).toNat, (t.sfm 0).clearing)) = some (0x80301000, true) := by decide +kernel
/-- Surface 0 enabled, with flow settings that are legal but for the rest. -/
def surfOn : State := ((port0.setReg (sfmP 0) 0x80004000).setReg (sfmP 0 + 0x24) 0x10000).setReg (sfmP 0 + 0x2C) 0x10001
theorem wit_UnitEnable : (after (.sfmSurfCfgEn 0 0x80004000) surfOn).map (fun t => (t.reg (sfmP 0 + 0x30)).toNat) = some 2 ∧ (after (.sfmSurfCfgEn 0 0) surfOn).map (fun t => (t.reg (sfmP 0)).getLsbD 31) = some false ∧
    (after (.crnCfgEn 0 0x89111000) surfOn).map (fun t => (t.reg (sfmP 0 + 0x20)).toNat) = some 0x09111000 ∧ (after (.crnCfgEn 0 0x89111000) surfOn).map (fun t => (t.reg (sfmP 0 + 0x30)).toNat) = some 1 ∧
    (after (.crnCfgEn 0 0x88811000) surfOn).map (fun t => (t.reg (sfmP 0 + 0x20)).toNat) = some 0x88811000 ∧ (after (.flowCfgEn 0 0x88600000) surfOn).map (fun t => (t.reg (sfmP 0 + 0x28)).toNat) = some 0x88600000 ∧
    (after (.flowCfgEn 0 0x88400000) surfOn).map (fun t => (t.reg (sfmP 0 + 0x30)).toNat) = some 1 := by decide +kernel
theorem wit_LinkRegisters : (after (.spnCtlEn 0 true) State.reset).map (fun t => t.spEn 0) = some true ∧ (after (.spnCtlEn 0 false) (State.reset.modPort 0 (fun p => { p with state := 3 }))).map (fun t => (t.port 0).state) = some 0 ∧
    (after (.spnCtlRetrain 0) (State.reset.modPort 0 (fun p => { p with state := 3 }))).map (fun t => ((t.port 0).state, t.ctr (spnB 0 + 0x128))) = some (4, 1) ∧ same (.spnCtlRetrain 0) State.reset = true ∧
    (after (.spnRoute 0 0x20) State.reset).map (fun t => t.routeEntry 1) = some 2 ∧ same (.spnRoute 0 0x20) (State.reset.modStrm 5 (fun x => { x with state := 2, peer := 1 })) = true ∧
    (after (.tuTickLead 0) State.reset).map (fun t => t.rfld (tuB + 0x24) 10 0) = some 1 ∧ (after (.tuTickLead 2047) State.reset).map (fun t => t.rfld (tuB + 0x24) 10 0) = some 2000 := by decide +kernel

/-! ## The Spine -/

/-- Port 0 enabled, in a link state, 1 h up. -/
def link (st : Nat) (f : SpPort → SpPort) : State := { (State.reset.setReg (spnB 0) 1).modPort 0 (fun p => f { p with state := st }) with tim := { State.reset.tim with systime := 3600000000000, tick := 3600000000 } }
theorem wit_LinkBringUp : (link 0 id).canonical = true ∧ (link 0 id).spEn 0 = true ∧ (after (.signalPresent 0) (link 0 id)).map (fun t => (t.port 0).state) = some 1 ∧
    (after (.linkRetry 0 false) (link 0 id)).map (fun t => (t.port 0).retryAt) = some 3600010000000 ∧ same (.signalPresent 0) State.reset = true ∧ same (.signalPresent 0) (link 1 id) = true ∧
    (after (.trainingDone 0 0x1F 900 400000) (link 1 id)).map (fun t => ((t.port 0).state, (t.port 0).width)) = some (2, 4) ∧ (after (.trainingDone 0 0x1F 900 400001) (link 1 id)).map (fun t => (t.port 0).state) = some 0 ∧
    (after (.trainingDone 0 0 900 400000) (link 1 id)).map (fun t => (t.port 0).state) = some 0 := by decide +kernel
theorem wit_LinkAuth : (after (.auth 0 true 0 false 9) (link 2 id)).map (fun t => ((t.port 0).state, (t.port 0).peer, (t.port 0).keys)) = some (3, 9, 1) ∧
    (after (.auth 0 true 1 false 9) (link 2 id)).map (fun t => ((t.port 0).state, t.ctr (spnB 0 + 0x138))) = some (0, 1) ∧
    (after (.auth 0 false 0 false 9) (link 2 (fun p => { p with authTimes := [3599999999999, 3599500000000] }))).map (fun t => (t.port 0).state) = some 5 ∧ same (.auth 0 true 0 false 9) (link 3 id) = true := by decide +kernel
/-- Stream 5 of slipcase 3 to device 9 behind port 0, UP, with 64 credits granted; group `g`. -/
def strm5 (g : Nat) : State := { (link 3 id).modStrm 5 (fun x => { x with state := 2, peer := 9, slip := some 3, group := g, granted := 64, credits := 10 }) with slips := slip3.slips, regs := (((link 3 id).setReg (spnB 0) 1).setReg (spnB 0 + 0x8000) 0x8000000000).regs }
theorem wit_LinkEnds : (after (.retrain 0 0x0F []) (link 4 id)).map (fun t => ((t.port 0).state, t.ctr (spnB 0 + 0x128))) = some (3, 0) ∧ (after (.retrain 0 0x0F []) (link 3 id)).map (fun t => t.ctr (spnB 0 + 0x128)) = some 1 ∧
    (strm5 0).onPort 0 5 = true ∧ (after (.linkDown 0 []) (strm5 0)).map (fun t => ((t.port 0).state, (t.strm 5).state, t.ctr (spnB 0 + 0x130))) = some (0, 3, 1) ∧ same (.linkDown 0 []) (link 1 id) = true ∧
    (after (.rekey 0) (link 3 id)).map (fun t => ((t.port 0).keys, (t.port 0).rekey, t.ctr (spnB 0 + 0x140))) = some (1, true, 1) ∧ same (.rekey 0) (link 3 (fun p => { p with keyAt := 1 })) = true := by decide +kernel
theorem wit_Flits : (after (.flitReceive 0 0 0 4095 true) (link 3 id)).map (fun t => ((t.port 0).rxSeq, t.ctr (spnB 0 + 0x108))) = some (0, 1) ∧ (after (.flitReceive 0 0 1 4095 true) (link 3 id)).map (fun t => ((t.port 0).rxSeq, (t.port 0).nak)) = some (4095, true) ∧
    (after (.flitReceive 0 0 0 4095 false) (link 3 id)).map (fun t => ((t.port 0).nak, t.ctr (spnB 0 + 0x110))) = some (true, 1) ∧ same (.flitReceive 0 0 0 4095 true) (link 4 id) = true ∧
    (after (.nakReplay 0 1) (link 3 (fun p => { p with replay := [0, 1, 2, 3], txSeq := 4 }))).map (fun t => ((t.port 0).replay, t.ctr (spnB 0 + 0x120))) = some ([2, 3], 1) := by decide +kernel
def items3 : SpMsg := { src := 9, stream := 5, seq := 1, body := .writeChan [0x0000000000E10000, 0x0000000000E10000] false }
theorem wit_StreamWrites : (strm5 7).canonical = true ∧ (after (.writeChan 0 items3) (strm5 7)).map (fun t => ((SMap.get [] t.uchans 7).length, (t.strm 5).rxSeq, (t.strm 5).granted)) = some (2, 1, 62) ∧
    (after (.writeChan 0 { items3 with seq := 2 }) (strm5 7)).map (fun t => ((t.strm 5).state, (t.strm 5).poisonSeq, t.ctr (spnB 0 + 0x160), t.uchans.length)) = some (3, 2, 1, 0) ∧
    (strm5 0x8000).landing ((strm5 0x8000).strm 5) 64 3 = some 64 ∧ (after (.writeDram 0 { items3 with body := .writeDram 64 [1, 2, 3] false }) (strm5 0x8000)).map (fun t => (SMap.get 0 t.dram 66, (t.strm 5).rxSeq)) = some (3, 1) := by decide +kernel
def ctl (b : SpBody) : SpMsg := { src := 9, stream := 5, body := b }
/-- The same with a fence waiting. -/
def fenced5 : State := onQ { pkt 0x0C04 0 with phase := .running } ((strm5 7).modStrm 5 (fun x => { x with fenceRef := some ref }))
theorem wit_StreamControl : (after (.credit 0 (ctl (.credit 5 3))) (strm5 7)).map (fun t => ((t.strm 5).credits, (t.strm 5).applied)) = some (15, 3) ∧
    (after (.writeError 0 (ctl (.writeError 4 1 0))) (strm5 7)).map (fun t => ((t.strm 5).state, (t.strm 5).poisonSeq)) = some (3, 4) ∧ same (.writeError 0 { ctl (.writeError 4 1 0) with src := 8 }) (strm5 7) = true ∧
    (after (.fence 0 (ctl (.fence 3))) (strm5 7)).map (fun t => (t.port 0).egress.length + t.out.length) = some 1 ∧ answer (.fenceAck 0 (ctl (.fenceAck 3 0))) fenced5 = some (0, 0, 0) ∧
    answer (.fenceAck 0 (ctl (.fenceAck 3 2))) fenced5 = some (0x500, 0, 2) ∧ (after (.tickMark 0 (ctl (.tickMark 3600000001))) (strm5 7)).map (fun t => (t.strm 5).closed) = some 3600000002 ∧
    (after .spineChannelClose (strm5 7)).map (fun t => (t.strm 5).closed) = some (3600000000 - (strm5 7).leadTicks) := by decide +kernel
/-- Stream 6, a spike stream of slipcase 3 with 17 spikes to send. -/
def strm6 : State := (strm5 7).modStrm 6 (fun x => { x with state := 2, peer := 9, slip := some 3, spike := true, spikes := List.range 17 })
theorem wit_StreamSpikes : (after (.spikes 0 (ctl (.spikes [1, 2]))) (strm5 7)).map (fun t => t.ctr (spnB 0 + 0x178)) = some 2 ∧ strm6.route 9 = some 0 ∧ (after (.spikesSend 6) strm6).map (fun t => (t.strm 6).spikes) = some [16] ∧
    same (.spikesSend 5) strm6 = true := by decide +kernel
def waiting5 : State := (strm5 7).modStrm 5 (fun x => { x with state := 1, granted := 0 })
theorem wit_StreamOpens : (after (.streamCtl 0 (ctl (.streamCtl 1 0 0))) waiting5).map (fun t => ((t.strm 5).state, (t.strm 5).granted)) = some (2, (waiting5.strm 5).firstGrant) ∧
    (after (.streamCtl 0 (ctl (.streamCtl 3 0 0))) (strm5 7)).map (fun t => t.strm 5) = some {} ∧ Ready (strm5 7) 0x0C02 0 (.streamOpen ref 4095 9 0 1 7 0 false) ∧ (strm5 7).strmOwner 0 = some none ∧
    (left (strm5 7) 0x0C02 0 (.streamOpen ref 4095 9 0 1 7 0 false)).map (fun t => ((t.strm 4095).state, (t.strm 4095).peer)) = some (1, 9) ∧
    (left (strm5 7) 0x0C02 0 (.streamOpen ref 4095 9 0 1 7 0 true)).map (fun t => (t.strm 4095).openRef) = some (some ref) := by unfold Ready State.Starts; decide +kernel
/-- PF0's own stream 4 in a state. -/
def own4 (st : Nat) : State := (strm5 7).modStrm 4 (fun x => { x with state := st, peer := 9, pf := true, poisonSeq := 6 })
theorem wit_StreamCommands : (own4 2).ownsStrm 0 4 = true ∧ Ready (own4 1) 0x0C03 0 (.streamClose ref 4) ∧ (left (own4 1) 0x0C03 0 (.streamClose ref 4)).map (fun t => t.strm 4) = some {} ∧
    (left (own4 2) 0x0C03 0 (.streamClose ref 4)).map (fun t => (t.strm 4).closeRef) = some (some ref) ∧ Ready (own4 3) 0x0C04 0 (.writeFence ref 9 4) ∧ ran (own4 3) 0x0C04 0 (.writeFence ref 9 4) = some (0x500, 0, 6) ∧
    (left (own4 2) 0x0C04 0 (.writeFence ref 9 4)).map (fun t => (t.strm 4).fenceRef) = some (some ref) := by unfold Ready State.Starts; decide +kernel
/-- A member with its parent at port 0, a child at port 1 and its ID 9; the root of a binding. -/
def memb : State := { link 3 id with bind := { ({} : Bind) with member := true, dev := 9, root := 1, parent := some 0, children := [1], leadNs := 10000 } }
def root1 : State := { link 3 id with bind := { ({} : Bind) with member := true, dev := 1, root := 1, isRoot := true, children := [0], ids := [(1, 0)], leadNs := 10000 } }
theorem wit_BindingJoin : Ready .reset 0x0C01 0 (.bindingJoin ref 1 0xFF) ∧ ran .reset 0x0C01 0 (.bindingJoin ref 1 0xFF) = some (0, 0, 1) ∧
    (left .reset 0x0C01 0 (.bindingJoin ref 1 0xFF)).map (fun t => (t.bind.member, t.bind.isRoot, t.bind.ids)) = some (true, true, [(1, 0)]) ∧ Ready .reset 0x0C01 0 (.bindingJoin ref 9 3) ∧
    (left .reset 0x0C01 0 (.bindingJoin ref 9 3)).map (fun t => t.bind.joinRef) = some (some (ref, 9, 3)) := by unfold Ready State.Starts; decide +kernel
theorem wit_Join : (after (.join 2 { body := .join (.request 9 10000000) }) root1).map (fun t => (t.bind.ids, t.bind.children.contains 2)) = some ([(1, 0), (9, 10000000)], true) ∧
    (after (.join 2 { body := .join (.request 9 10000001) }) root1).map (fun t => t.bind.ids) = some [(1, 0)] ∧
    (let s := onQ { pkt 0x0C01 0 with phase := .running } ({ link 3 id with bind := { ({} : Bind) with joinRef := some (ref, 9, 0) } } : State)
    s.hopPs 0 = 140000 ∧ (after (.join 0 { body := .join (.accept 9 1 5000 5 4 100 10000 9860000 0) }) s).map (fun t => (t.bind.member, t.bind.dev, t.bind.parent, t.tim.systime, t.tim.tick)) = some (true, 9, some 0, 5000, 5)) := by decide +kernel
theorem wit_FromParent : memb.notParent 1 = true ∧ (after (.timeSync 1 0 0 0 0) memb).map (fun t => t.ctr (spnB 1 + 0x160)) = some 1 ∧ memb.notParent 0 = false ∧
    after (.timeSync 0 5 0 0 0) memb = after (.syncReceived 4 5 0 0 0) memb ∧
    (after (.timeMarker 0 { body := .timeMarker 3600000005 (.tickLen 8) }) memb).map (fun t => t.bind.markers) = some [{ tick := 3600000005, what := .tickLen 8 }] ∧
    (after (.globalOp 0 { body := .globalOp (.bindReset 3600000009) }) memb).map (fun t => t.bind.resetAt) = some (some (3600000009, none)) ∧
    (after (.globalOp 1 { body := .globalOp (.release 4 3600000009) }) memb).map (fun t => t.ctr (spnB 1 + 0x160)) = some 1 := by decide +kernel
def bar4 : Barrier := { id := 4, ref := some ref, at_ := 3600000000, ports := [], sent := false, release := none, since := 3600000000 }
def barred : State := onQ { pkt 0x0C05 0 with phase := .running } { State.reset with bind := { ({} : Bind) with barriers := [bar4] }, tim := { State.reset.tim with tick := 3600000000, systime := 3600000000000 } }
theorem wit_Barriers : ReadyAt .reset 0x0C05 0 200 (.barrier ref 4) ∧ (after (.barrier ref 4) (onQ (pktAt 0x0C05 0 200) .reset)).map (fun t => (t.barrier 4).map (fun x => (x.ref, x.at_))) = some (some (some ref, 200)) ∧
    barred.gathered bar4 = true ∧ (after .barrierRelease barred).map (fun t => (t.barrier 4).map (fun x => x.release)) = some (some (some (3600000000 + barred.leadTicks))) ∧ same .releaseFail barred = true ∧
    answer .releaseFail { barred with tim := { barred.tim with tick := 3600000000 + 20000 + 4 * barred.leadTicks } } = some (0x400, 0xF029, 0) := by unfold ReadyAt; decide +kernel
theorem wit_Broadcast : ReadyAt .reset 0x0C06 0 200 (.broadcast ref sgl4k [1, 2]) ∧ (after (.broadcast ref sgl4k [1, 2]) (onQ (pktAt 0x0C06 0 200) .reset)).map (fun t => t.bind.bcastDue) = some [(State.reset.devId, 200, [1, 2])] ∧
    memb.bindLead = 20 ∧ (after (.broadcast ref sgl4k [1, 2]) (onQ (pktAt 0x0C06 0 (BitVec.ofNat 32 (3600000000 + 20))) memb)).map (fun t => t.bind.bcastRefs) = some [(ref, 3600000020)] := by unfold ReadyAt; decide +kernel
theorem wit_BindingReset : let f := pktAt 0x0C07 0 (BitVec.ofNat 32 (3600000000 + 10))
    (onQ f root1).startable ref 0x0C07 = some f ∧ root1.bindLead = 10 ∧ (after (.bindingReset ref) (onQ f root1)).map (fun t => t.bind.resetAt) = some (some (3600000010, some ref)) ∧
      answer (.bindingReset ref) (onQ (pktAt 0x0C07 0 (BitVec.ofNat 32 (3600000000 + 9))) root1) = some (0x102, 6, 0) := by decide +kernel
theorem wit_Messages : same (.messageForward 0 items3 true true) (link 4 id) = true ∧ (after (.messageForward 0 items3 false true) (strm5 7)).map (fun t => ((t.port 0).state, t.ctr (spnB 0 + 0x138))) = some (0, 1) ∧
    (after (.messageForward 0 items3 true false) (strm5 7)).map (fun t => t.ctr (spnB 0 + 0x160)) = some 1 ∧ (after (.messageForward 0 items3 true true) (strm5 7)).map (fun t => (SMap.get [] t.uchans 7).length) = some 2 ∧
    (after (.messageForward 1 { items3 with dst := 9, hops := 1 } true true) { (strm5 7).modPort 1 (fun p => { p with state := 3 }) with out := [] }).map (fun t => t.ctr (spnB 1 + 0x170)) = some 1 ∧
    (after (.messageForward 1 { items3 with dst := 9, hops := 2 } true true) ((strm5 7).modPort 1 (fun p => { p with state := 3 }))).map (fun t => t.ctr (spnB 1 + 0x158)) = some 1 ∧
    (after (.messageForward 0 { items3 with dst := 11 } true true) (strm5 7)).map (fun t => t.ctr (spnB 0 + 0x168)) = some 1 := by decide +kernel
/-- A fence that waits since 0 s. -/
theorem wit_RemoteSilent : fenced5.awaitsFar ref = true ∧ fenced5.silentNs ≤ 3600000000000 ∧ answer (.remoteSilent ref) fenced5 = some (0x400, 0xF029, 0) ∧
    same (.remoteSilent ref) { fenced5 with tim := { fenced5.tim with systime := fenced5.silentNs - 1 } } = true := by decide +kernel

/-! ## Event ingress and surfaces -/

/-- A whole packet of a port's own stream. -/
def pktOf (s : State) (n : Nat) (b : List (BitVec 8)) : LinkPkt :=
  let c := s.reg (hopB n + 0xC)
  { sot := 0, hdr := 0, dt := BitVec.ofNat 6 (fld c 19 14), vc := BitVec.ofNat 4 (fld c 13 10), wordCount := BitVec.ofNat 16 b.length, payload := b, short := false, crcBad := false, arrival := 500, stale := false }
def pk4 : LinkPkt := pktOf port0 0 [1, 2, 3, 4]
def hopAfter (c : Instr) (s : State) : Option Hopper := (after c s).map (fun t => t.hop 0)
theorem wit_PacketReceive : port0.canonical = true ∧ port0.portEn 0 = true ∧ 4 ≤ port0.pktMax 0 ∧ (after (.packetReceive 0 pk4) port0).map (fun t => ((t.hop 0).buf, t.ctr (hopB 0 + 0x300))) = some ([{ payload := [1, 2, 3, 4], tick := 0 }], 1) ∧
    (after (.packetReceive 0 { pk4 with crcBad := true }) port0).map (fun t => ((t.hop 0).buf, t.ctr (hopB 0 + 0x210))) = some ([], 1) ∧
    (after (.packetReceive 0 { pk4 with short := true }) port0).map (fun t => t.ctr (hopB 0 + 0x220)) = some 1 ∧
    (after (.packetReceive 0 { pk4 with wordCount := BitVec.ofNat 16 (port0.pktMax 0 + 1) }) (port0.setReg (hopB 0 + 0xC) ((port0.reg (hopB 0 + 0xC)) &&& 0xFFFFF))).map (fun t => (t.hop 0).buf) = some [] ∧
    (after (.packetReceive 0 { pk4 with sot := 2 }) port0).map (fun t => ((t.hop 0).resyncWait, t.ctr (hopB 0 + 0x320), t.ctr (hopB 0 + 0x208))) = some (true, 1, 1) ∧
    (after (.packetReceive 1 pk4) (port0.modHop 1 (fun h => { h with link := 2 }))).map (fun t => (t.hop 1).link) = some 0 := by decide +kernel
theorem wit_LinkPackets : (after (.shortPacket 0 0 pk4.vc 0) port0).map (fun t => ((t.hop 0).frameOpen, t.ctr (hopB 0 + 0x338))) = some (true, 0) ∧
    (after (.shortPacket 0 1 pk4.vc 0) port0).map (fun t => ((t.hop 0).frameOpen, t.ctr (hopB 0 + 0x338))) = some (false, 1) ∧
    (after (.linkErr 0 pk4.dt pk4.vc 4) port0).map (fun t => ((t.hop 0).link, t.ctr (hopB 0 + 0x230))) = some (3, 1) ∧ (after (.escErr 0) port0).map (fun t => t.ctr (hopB 0 + 0x340)) = some 1 ∧ same (.escErr 1) port0 = true ∧
    (hopAfter (.ulpsEntry 0) port0).map (fun h => h.link) = some 1 := by decide +kernel
/-- An item at (5, 2) of tick 9, its surface enabled since tick 1, a ribbon of graph 1. -/
def item1 : HItem := { pol := true, x := 5, y := 2, tick := 9 }
def itemPort : State := ((surfOn.modHop 0 (fun h => { h with items := [item1], chans := [{ consumer := .graph 1 }] })).modSfm 0 (fun f => { f with origin := some 1 }))
theorem wit_ItemPipeline : itemPort.canonical = true ∧ itemPort.paired 0 = false ∧ itemPort.refractory 0 item1 = false ∧ (itemPort.surfTick 0 9) = some 8 ∧
    (hopAfter (.itemPipeline 0) itemPort).map (fun h => (h.items, h.chans.map (fun c => c.ribbon.items))) = some ([], [[eventWord item1]]) ∧
    (after (.itemPipeline 0) itemPort).map (fun t => (t.ctr (hopB 0 + 0x310), (t.sfm 0).read (2 * t.geomW 0 + 5))) =
      some (1, BitVec.ofNat 16 (2 ^ 15 + ((8 : Int) - epochBase (itemPort.surfL 0) 0).toNat)) ∧ same (.itemPipeline 0) port0 = true := by decide +kernel
/-- A refractory time of 5 surface ticks and an entry written 4 before; a background filter that no cell supports. -/
def refrPort : State := (itemPort.modHop 0 (fun h => { h with refr := 5 })).modSfm 0 (fun f => { f with entries := [(2 * itemPort.geomW 0 + 5, BitVec.ofNat 16 ((4 : Int) - epochBase (itemPort.surfL 0) 0).toNat)] })
def rankPort : State := itemPort.modHop 0 (fun h => { h with ba := 0x07D00001 })
theorem wit_ItemFilters : (refrPort.surfAt 0 9).refractory 0 item1 = true ∧ (after (.itemPipeline 0) refrPort).map (fun t => t.ctr (hopB 0 + 0x260)) = some 1 ∧ ((rankPort.surfAt 0 9).rankFilter 0 item1).2 = false ∧
    (after (.itemPipeline 0) rankPort).map (fun t => t.ctr (hopB 0 + 0x268)) = some 1 := by decide +kernel
/-- A packet to decode; a channel with a queue; a cell of a tick 8,193 before and one of 8,192 before. -/
def bufPort : State := port0.modHop 0 (fun h => { h with buf := [{ payload := [0, 0, 0, 0], tick := 0 }], chans := [{ consumer := .graph 1, spill := [7, 8] }] })
def cellPort : State := { port0.modHop 0 (fun h => { h with cells := [(3, { last := some 1, prev := some 0 })] }) with tim := { port0.tim with tick := 8193, systime := 8193000 } }
theorem wit_FrontEnd : bufPort.canonical = true ∧ (hopAfter (.frontEndDecode 0) bufPort).map (fun h => h.buf) = some [] ∧ same (.frontEndDecode 0) port0 = true ∧
    (hopAfter (.spillQueueDrain 0) bufPort).map (fun h => h.chans.map (fun c => (c.ribbon.items, c.spill))) = some [([7, 8], [])] ∧
    (hopAfter (.cellMapSweep 0) cellPort).map (fun h => SMap.get {} h.cells 3) = some { last := some 1, prev := none } := by decide +kernel
/-- A surface being cleared; one at the first surface tick of its second epoch; one with a sweep to do. -/
def clearing0 : State := itemPort.modSfm 0 (fun f => { f with clearing := true, origin := none })
def epoch1 (d : Nat) : State := { itemPort.modSfm 0 (fun f => { f with entries := [(4, 0x5000)] }) with tim := { itemPort.tim with tick := 66, systime := 66000 }, pwr := { itemPort.pwr with doms := if d = 2 then [] else [(21, d)] } }
def sweep0 : State := itemPort.modSfm 0 (fun f => { f with entries := [(4, 0x5000)], gen := true, shift := 64, conv := some [] })
theorem wit_Surfaces : (after (.regionClear 0) clearing0).map (fun t => ((t.sfm 0).clearing, (t.sfm 0).origin)) = some (false, some 1) ∧ same (.regionClear 0) itemPort = true ∧
    (epoch1 2).surfTick 0 66 = some 65 ∧ (epoch1 2).surfL 0 = 64 ∧ (after (.epochChange 0) (epoch1 2)).map (fun t => (t.sfm 0).epoch) = some 1 ∧
    (after (.epochChange 0) (epoch1 2)).map (fun t => (t.sfm 0).time 64 ((t.sfm 0).stored 4)) = some (((epoch1 2).sfm 0).time 64 (((epoch1 2).sfm 0).stored 4)) ∧
    (after (.epochChange 0) (epoch1 1)).map (fun t => ((t.sfm 0).epoch, (t.sfm 0).pendEpochs)) = some (0, 1) ∧ same (.epochChange 1) (epoch1 2) = true ∧
    (after (.generationSweep 0) sweep0).map (fun t => ((t.sfm 0).conv, (t.sfm 0).stored 4)) = some (none, (sweep0.sfm 0).stored 4) ∧ same (.generationSweep 1) sweep0 = true := by decide +kernel
/-- Both units enabled with an item each to test, and a channel. -/
def unitsOn : State := ((itemPort.setReg (sfmP 0 + 0x20) 0x88811000).setReg (sfmP 0 + 0x28) 0x88600000).modSfm 0 (fun f => { f with crnItems := [item1], flwItems := [item1], crnChans := [{ consumer := .graph 1, spill := [9, 10] }], flwChans := [{ consumer := .graph 1 }] })
/-- Ports 0 and 1 paired, with a packet of the tick before the item's still buffered at port 1 (R104). -/
def unitsWait : State := (unitsOn.setReg (hopB 0) (unitsOn.reg (hopB 0) ||| 2)).modHop 1 (fun h => { h with buf := [{ payload := [], tick := item1.tick - 1 }] })
theorem wit_ViewReady : item1.tick ≠ 0 ∧ unitsOn.viewReady 0 item1.tick = true ∧ unitsWait.viewReady 0 item1.tick = false ∧ unitsWait.cfgPort 0 = 0 ∧
    firstItem (unitsWait.geomW 0) (unitsWait.sfm 0).crnItems = some (item1, []) ∧ same (.cornerTest 0) unitsWait = true ∧ same (.flowFit 0) unitsWait = true := by decide +kernel
theorem wit_DerivedUnits : firstItem (unitsOn.geomW 0) (unitsOn.sfm 0).crnItems = some (item1, []) ∧ unitsOn.crnEn 0 = true ∧ unitsOn.flwEn 0 = true ∧
    (after (.cornerTest 0) unitsOn).map (fun t => ((t.sfm 0).crnItems, t.ctr (sfmP 0 + 0x100))) = some ([], 1) ∧ (after (.flowFit 0) unitsOn).map (fun t => ((t.sfm 0).flwItems, t.ctr (sfmP 0 + 0x110), t.ctr (sfmP 0 + 0x120))) = some ([], 1, 1) ∧
    same (.cornerTest 1) unitsOn = true ∧ (after (.derivedSpillDrain 0 true) unitsOn).map (fun t => (t.sfm 0).crnChans.map (fun c => c.ribbon.items)) = some [[9, 10]] := by decide +kernel

/-! ## Delta graphs -/

/-- An INPUT layer of 8 × 4 pixels on surface 0 with G = 2 and state in QSP, and an ADD layer that takes it once (WA = 1, WB = 0), both
read points; requantised by 1 (MULT 1, SHIFT 0). -/
def lay0 : Desc64 := [0x1000000000080000, 0x0070030000000000, 0x300, 0x0000022000000000, 0x100000, 0x10000, 0x20000, 0]
def lay1 : Desc64 := [0x7000100000280000, 0x0070030000000000, 0x0001000000000300, 0x0001000000000000, 0, 0x30000, 0x40000, 0x0000000A05000000]
def delta0 : Delta := { layers := [lay0, lay1], bands := [[0], [0]], service := some (0, 1), live := 20, bankA := { anchor := 66, base := 9 }, bankB := { anchor := 130 } }
/-- Graph 1 with that delta part on quire 0, running from tick 1, at tick 20. -/
def dgraph (d : Delta) : State := { itemPort.modGraph 1 (fun _ => { exist := true, slip := 3, state := 1, quires := [0], ports := [0], parts := 1, startTick := 1, closed := 21, delta := some d }) with tim := { itemPort.tim with tick := 20, systime := 20000 } }
def live1 (w : BitVec 64) (d : Delta) : State := (dgraph d).modHop 0 (fun h => { h with nextEnd := 20, items := [], chans := [{ consumer := .graph 1, ribbon := { items := [w] } }] })
def deltaAfter (c : Instr) (s : State) : Option Delta := (after c s).bind (fun t => (t.graph 1).delta)
def dq : DItem := { src := 0, x := 5, y := 2, c := 0, d := 7, tick := 9 }
def queued : Delta := { delta0 with bankA := { delta0.bankA with queue := [(1, { dq with tick := 10 }), (1, dq)] } }
theorem wit_DxeInput : (dgraph queued).canonical = true ∧ (dgraph queued).deltaRuns 1 = some queued ∧ (queued.bank 0).queue.findIdx? (fun x => decide (x.1 = 1 ∧ x.2.tick ≤ (queued.bank 0).settledTo 1)) = some 1 ∧
    (deltaAfter (.dxeInput 1 1 false) (dgraph queued)).map (fun d => (d.bankA.queue.map (fun p => p.2.tick), d.bankA.dirty)) = some ([10], [(1, 2, 5, 0)]) ∧
    (after (.dxeInput 1 1 false) (dgraph queued)).map (fun t => t.getI32 3 [0] (dlBank lay1 0) (queued.recOff 1 5 2 0)) = some 7 ∧ (dgraph delta0).deltaRuns 1 = some delta0 ∧
    same (.dxeInput 1 1 false) (dgraph delta0) = true := by decide +kernel
/-- An event at (5, 2) of tick 20, positive; a GAP marker. -/
def ev20 : BitVec 64 := eventWord { pol := true, x := 5, y := 2, tick := 20 }
theorem wit_DxeInputLayer : fld ev20 63 61 ≠ 1 ∧ delta0.liveBanks 20 = [0] ∧ (live1 ev20 delta0).liveItems 1 0 = [ev20] ∧
    (deltaAfter (.dxeInput 1 0 false) (live1 ev20 delta0)).map (fun d => d.bankA.queue.map (fun p => (p.1, p.2.x, p.2.y, p.2.d, p.2.tick))) = some [(1, 5, 2, inValue lay0 true (66 - 19) 64, 20)] ∧
    fld (gapWord 2 1 20) 63 61 = 1 ∧ (deltaAfter (.dxeInput 1 0 false) (live1 (gapWord 2 1 20) delta0)).map (fun d => [0, 1].map (SMap.get 0 d.gaps)) = some [1, 1] := by decide +kernel
/-- The ADD layer's accumulator at (5, 2) is 7 and dirty. -/
def dirty1 : Delta := { delta0 with bankA := { delta0.bankA with dirty := [(1, 2, 5, 0)] } }
def dirtyState : State := (dgraph dirty1).modQuire 0 (fun q => { q with qsp := [(0x30000 + dirty1.recOff 1 5 2 0, 7)] })
theorem wit_DxeSettle : dirty1.settleLimit 0 1 9 = 20 ∧ (deltaAfter (.dxeSettle 1 1 false) dirtyState).map (fun d => (d.bankA.settledTo 1, d.bankA.dirty)) = some (10, []) ∧
    (deltaAfter (.dxeSettle 1 1 false) (dgraph delta0)).map (fun d => d.bankA.settledTo 1) = some 20 ∧
    (let d := { delta0 with bankA := { delta0.bankA with base := 20 } }
    d.settleLimit 0 1 20 = 20 ∧ same (.dxeSettle 1 1 false) (dgraph d) = true) ∧ (dgraph delta0).liveItems 1 0 = [] ∧ delta0.readLimit 0 0 20 = [] ∧
    (deltaAfter (.dxeSettle 1 0 false) (dgraph delta0)).map (fun d => d.live) = some 21 := by decide +kernel
/-- A rebase of bank 1 begun at tick 65 in a phase. -/
def reb1 (ph : Nat) (sw : Option Nat) (l : List LogEnt) : Rebase := { kind := .normal, phase := ph, boundary := 65, bank := 1, anchor := 130, switchAt := sw, log := l, closed := 65 }
def rebasing (ph : Nat) (sw : Option Nat) (l : List LogEnt) : Delta := { delta0 with reb := some (reb1 ph sw l) }
/-- The same graph at a tick, with every tick delivered by the port. -/
def atTick (n : Nat) (d : Delta) : State := { (dgraph d).modHop 0 (fun h => { h with nextEnd := n, items := [], chans := [{ consumer := .graph 1 }] }) with tim := { itemPort.tim with tick := n, systime := 1000 * n } }
theorem wit_ReplayMark : (rebasing 3 (some 67) [.mark 70]).rebOf 1 = some (reb1 3 (some 67) [.mark 70]) ∧
    (deltaAfter (.dxeSettle 1 0 true) (atTick 66 (rebasing 3 (some 67) [.mark 70]))).map (fun d => d.reb.map (fun r => (r.log, r.closed))) = some (some ([], 71)) := by decide +kernel
theorem wit_RebaseStart : (atTick 66 delta0).tickOfSurf 0 ((atTick 66 delta0).epochEnd 0 0 + 1) = 66 ∧ (atTick 66 delta0).canonical = true ∧ (atTick 66 delta0).quiresOn ((atTick 66 delta0).graph 1) = true ∧
    (deltaAfter (.rebaseStart 1) (atTick 66 delta0)).map (fun d => (d.epoch, d.reb.map (fun r => [r.phase, r.bank, r.boundary, r.anchor, r.switchAt.getD 0]))) = some (1, some [1, 1, 66, 130, 67]) ∧
    (after (.rebaseStart 1) (atTick 66 delta0)).map (fun t => t.ctr (sfmP 0 + 0x168)) = some 1 ∧ same (.rebaseStart 1) (atTick 65 delta0) = true := by decide +kernel
theorem wit_StartAndWakeRebase : (let d : Delta := { layers := [lay0, lay1], bands := [[0], [0]], startDue := true }
    (deltaAfter (.startRebase 1) (atTick 1 d)).map (fun d => (d.startDue, d.reb.map (fun r => (r.kind, r.phase, r.boundary)))) = some (false, some (.start, 1, 1)) ∧ same (.startRebase 1) (atTick 0 d) = true) ∧
    (deltaAfter (.wakeRebase 1) (atTick 67 delta0)).map (fun d => (d.deadFrom, d.reb.map (fun r => (r.kind, r.phase, r.boundary, r.bank)))) = some (some 67, some (.wake, 1, 67, 1)) ∧
    same (.wakeRebase 1) (atTick 66 delta0) = true := by decide +kernel
/-- SNAP bits of 4 beats left. -/
def snapping : State := (atTick 66 (rebasing 1 (some 67) [])).modSfm 0 (fun f => { f with snap := { hi := 4 } })
theorem wit_SnapshotSweep : (snapping.sfm 0).snap.any = true ∧ (after (.snapshotSweep 0) snapping).map (fun t => ((t.sfm 0).snap.pos, t.ctr (sfmP 0 + 0x150))) = some (1, 1) ∧ same (.snapshotSweep 1) snapping = true ∧
    same (.rebasePhaseEnd 1) snapping = true := by decide +kernel
def phaseOf (d : Delta) : Option Nat := d.reb.map (fun r => r.phase)
theorem wit_RebasePhases : [1, 2, 3].map (fun ph => (deltaAfter (.rebasePhaseEnd 1) (atTick 66 (rebasing ph (some 67) []))).map phaseOf) = [some (some 2), some (some 3), some (some 4)] ∧
    (deltaAfter (.rebaseSwitch 1) (atTick 67 (rebasing 4 (some 67) []))).map (fun d => (d.service, d.reb, d.bankFor 66, d.bankFor 67)) = some (some (1, 67), none, some 0, some 1) ∧
    same (.rebaseSwitch 1) (atTick 66 (rebasing 4 (some 67) [])) = true ∧ same (.rebaseSwitch 1) (atTick 67 (rebasing 3 (some 67) [])) = true ∧
    (deltaAfter (.rebaseFail 1) (atTick 67 (rebasing 3 (some 67) []))).map (fun d => (phaseOf d, d.deadFrom, d.reb.map (fun r => r.boundary))) = some (some 5, some 67, some 68) ∧
    same (.rebaseFail 1) (atTick 66 (rebasing 3 (some 67) [])) = true := by decide +kernel
/-- A read of layer 1 at tick 22 asked for; the read of tick 20 with its copy, and one of tick 0, which no bank serves. -/
def copy1 : DCopy := { layer := 1, tick := 20, vals := List.replicate 32 1, bank := 0, anchor := 66, grinds := 0 }
def reading (t : Nat) (c : Option DCopy) : Delta := { delta0 with reads := [{ ref := ref, layer := 1, form := 0, tick := t, copy := c }] }
def readState (t : Nat) (c : Option DCopy) : State := onQ { pktAt 0x0206 1 20 with phase := .staged } (dgraph (reading t c))
theorem wit_VframeRead : (let f := pktAt 0x0206 1 22
    let s := onQ f (dgraph delta0)
    s.startable ref 0x0206 = some f ∧ s.objErr 0x0206 0 1 = none ∧ s.lead 22 = some 2 ∧ s.sealedFor ref 3 = false ∧ dlReadPoint lay1 = true ∧
      (deltaAfter (.vframeRead ref 1 0 sgl4k) s).map (fun d => d.reads.map (fun r => (r.layer, r.tick))) = some [(1, 22)]) ∧
    (readState 20 (some copy1)).readOf ref = some (1, { ref := ref, layer := 1, form := 0, tick := 20, copy := some copy1 }) ∧ answer (.vframeCopy ref) (readState 20 (some copy1)) = some (0, 0, 32) ∧
    answer (.vframeCopy ref) (readState 0 none) = some (0x700, 3, 0) ∧ same (.vframeCopy ref) (readState 21 none) = true ∧ same (.vframeCopy ref) (dgraph delta0) = true := by decide +kernel
/-- A copy for READ_CHAN (entry 5) of quire 0 with a credit, 3 beats to an item. -/
def schedState (cr : Nat) : State := (dgraph { delta0 with scopies := [copy1], sched := [(1, 30)] }).modQuire 0 (fun q => { q with chans := [(5, { valid := true, prod := 1, cons := 4, base := 0x50000, isize := 3, cap := 2, credits := cr })] })
theorem wit_ScheduledRead : ((schedState 1).quire 0).chans.length = 1 ∧ ((schedState 1).graph 1).schedQuire { delta0 with scopies := [copy1], sched := [(1, 30)] } 1 = 0 ∧ dlReadChan lay1 = 5 ∧
    (after (.scheduledRead 1 1) (schedState 1)).map (fun t => (((t.quire 0).chan 5).tokens, ((t.quire 0).chan 5).credits)) = some (1, 0) ∧
    (after (.scheduledRead 1 1) (schedState 0)).map (fun t => t.ctr (qrB 0 + 0x428)) = some 1 ∧ same (.scheduledRead 1 1) (dgraph { delta0 with sched := [(1, 30)] }) = true := by decide +kernel

/-! ## Quires -/

/-- A descriptor that reads (1) or writes (2) one row of 32 bytes at 0x40 of window 0, QSP address 0x100, for channel 3. -/
def aeDesc (op : Nat) : List (BitVec 64) := [BitVec.ofNat 64 (op * 2 ^ 60 + 3 * 2 ^ 48 + 0x40), BitVec.ofNat 64 (0x100 * 2 ^ 44 + 32 * 2 ^ 16), 0, 0]
def chan3 : QChan := { valid := true, prod := 7, cons := 4, base := 0x100, cap := 2, credits := 2 }
/-- Quire 0 of slipcase 3, whose window 0 lies at 0, with that descriptor at 0x40000 in Access Engine 0's ring. -/
def aeState (op : Nat) : State := (slip3.modSlip 3 (fun p => { p with rules := [{ win := 0, rd := true, wr := true, base := 0x1000, size := 2097152 }] })).modQuire 0
  (fun q => { q with chans := [(3, chan3)], ae0 := { base := 0x40000, log2n := 6, tail := 1 }, qsp := SMap.putAll 0 [] 0x40000 ((aeDesc op).flatMap (fun w => leBytes 8 w.toNat)) })
theorem wit_DescriptorStart : (aeState 1).canonical = true ∧ (aeState 1).qState 0 = 1 ∧ (List.range 4).map (fun i => wordAt ((aeState 1).quire 0).qsp (0x40000 + 8 * i)) = aeDesc 1 ∧
    (aeState 1).descFault 0 0 3 (descOf (aeDesc 1)) = none ∧
    (after (.descriptorStart 0 false) (aeState 1)).map (fun t => ((t.quire 0).ae0.start, (t.quire 0).ae0.flight.map (fun f => f.words), ((t.quire 0).chan 3).credits)) = some (1, [aeDesc 1], 1) ∧
    (aeState 7).descFault 0 0 3 (descOf (aeDesc 7)) = some 1 ∧ (after (.descriptorStart 0 false) (aeState 7)).map (fun t => ((t.quire 0).ae0.stopped, (t.quire 0).aeFault)) = some (true, 1) ∧
    same (.descriptorStart 0 true) (aeState 1) = true := by decide +kernel
/-- The descriptor in flight; byte 0x1044 of DRAM or byte 0x104 of QSP set. -/
def aeFlight (op : Nat) : State := { (aeState op).modQuire 0 (fun q => { q with ae0 := { base := 0x40000, log2n := 6, start := 1, tail := 1, flight := [{ words := aeDesc op, qaddr := 0x100 }] }, qsp := [(0x104, 6)] }) with dram := [(0x1044, 5)] }
theorem wit_DescriptorComplete : (after (.descriptorComplete 0 false []) (aeFlight 1)).map (fun t => (SMap.get 0 (t.quire 0).qsp 0x104, ((t.quire 0).chan 3).tokens, t.ctr (qrB 0 + 0x630))) = some (5, 1, 1) ∧
    (after (.descriptorComplete 0 false []) (aeFlight 2)).map (fun t => (SMap.get 0 t.dram 0x1044, t.dram.length)) = some (6, 1) ∧ same (.descriptorComplete 0 true []) (aeFlight 1) = true := by decide +kernel
/-- Quire 0 with a full channel 3 and an empty channel 4, both of one-beat items. -/
def ops : State := slip3.modQuire 0 (fun q => { q with chans := [(3, { chan3 with tokens := 2, credits := 0 }), (4, { chan3 with base := 0x200 })] })
def seg1 : Segment := { writes := [(0x200, [9])], tokens := [4], credits := [3] }
def ops1 : State := ops.modQuire 0 (fun q => { q with segs := [(4, seg1)] })
theorem wit_Segments : ops.canonical = true ∧ (after (.channelOperationStart 0 4 [(3, 1)] [(4, 1)] [(0x200, [9])] []) ops).map (fun t => ((t.quire 0).segs.map (fun p => (p.1, p.2.writes.length)), (t.quire 0).qsp.length, (t.quire 0).busy)) =
      some ([(4, 1)], 0, 16) ∧ (after (.channelOperationStart 0 4 [(3, 1)] [(3, 1)] [] []) ops).map (fun t => t.ctr (qrB 0 + 0x418)) = some 1 ∧
    same (.channelOperationStart 0 4 [(4, 1)] [] [] []) ops = true ∧
    (after (.segmentCommit 0 4) ops1).map (fun t => (SMap.get 0 (t.quire 0).qsp 0x200, ((t.quire 0).chan 4).tokens, ((t.quire 0).chan 3).credits)) = some (9, 1, 1) ∧ same (.segmentCommit 0 4) ops = true := by decide +kernel
/-- Channel 5 a ribbon with two tokens and one item. -/
def ops5 : State := slip3.modQuire 0 (fun q => { q with chans := [(5, { chan3 with isRibbon := true, tokens := 2, items := [77] })] })
theorem wit_Underrun : (after (.channelOperationStart 0 4 [(5, 2)] [] [] []) ops5).map (fun t => (t.reg (qrB 0 + 0xC), lastFault t)) = some (4, 6) ∧
    (after (.channelOperationStart 0 4 [(5, 1)] [] [] []) ops5).map (fun t => (((t.quire 0).chan 5).rp, ((t.quire 0).chan 5).mark, ((t.quire 0).chan 5).last, lastFault t)) = some (1, some 0, 77, 0) := by decide +kernel
theorem wit_Replays : (after (.replay 0 6 false 40) ops).map (fun t => ((t.quire 0).curStep, (t.quire 0).winReplays, t.ctr (qrB 0 + 0x600), t.ctr (qrB 0 + 0x608))) = some (19, 2, 2, 1) ∧ same (.replay 0 0 false 40) ops = true ∧
    (after (.stepUp 0) (ops.modQuire 0 (fun q => { q with curStep := 19 }))).map (fun t => (t.quire 0).curStep) = some 20 ∧ same (.stepUp 0) ops = true ∧ ops.winTicks 0 = 10000 ∧ same (.replayWindowEnd 0) ops = true ∧
    (after (.replayWindowEnd 0) { ops with tim := { ops.tim with tick := 10000, systime := 10000000 } }).map (fun t => (t.quire 0).winStart) = some 10000 := by decide +kernel
def ker1 : Kernel := { engine := 4, wcetFix := 100, wcetPer := 10, memFix := 0, memPer := 0, itemMax := 2, ins := [(3, 1)], outs := [(4, 1)], wait := 0 }
def ops2 : State := ops.modQuire 0 (fun q => { q with kernels := [ker1] })
theorem wit_Kernels : (after (.kernelInvocation 0 0 2 [(0x200, [9])] [] none none) ops2).map (fun t => (SMap.get 0 (t.quire 0).qsp 0x200, ((t.quire 0).chan 4).tokens, ((t.quire 0).chan 3).tokens, t.ctr (qrB 0 + 0x650))) = some (9, 1, 1, 1) ∧
    ker1.limit 2 < 1000 ∧ (after (.kernelOverrun 0 0 2 1000) ops2).map (fun t => t.ctr (qrB 0 + 0x658)) = some 1 ∧ same (.kernelOverrun 0 0 2 (BitVec.ofNat 32 (ker1.limit 2))) ops2 = true := by decide +kernel
/-- The arbiter of QSP bank 0 of quire 0: input 7 has used its quota of 1. -/
def arbs1 : State := { State.reset with arbs := [(qrB 0 + 0x1000, { qlevel := 0, quotas := List.replicate 64 1, grants := [(7, 1)] })] }
theorem wit_Arbiters : (arbs1.arb (qrB 0 + 0x1000)).masked 7 = true ∧ (arbs1.arb (qrB 0 + 0x1000)).masked 2 = false ∧
    (after (.arbiterGrant (BitVec.ofNat 28 (qrB 0 + 0x1000)) 0x86) arbs1).map (fun t => ((t.arb (qrB 0 + 0x1000)).last, SMap.get 0 (t.arb (qrB 0 + 0x1000)).grants 2)) = some (some 2, 1) ∧
    same (.arbiterGrant (BitVec.ofNat 28 (qrB 0 + 0x1000)) 0x80) arbs1 = true ∧
    (after (.arbiterWindowStart (BitVec.ofNat 28 (qrB 0 + 0x1000))) arbs1).map (fun t => ((t.arb (qrB 0 + 0x1000)).grants, (t.arb (qrB 0 + 0x1000)).qlevel, (t.arb (qrB 0 + 0x1000)).quotas[7]?)) = some ([], 64, some 65535) := by decide +kernel

/-! ## Readout graphs -/

/-- A SAMPLE layer of 2 × 2 pixels of surface 0 (one half-life of 34 surface ticks, Q1.7), and an ADD layer that takes it once, on the AXE or
the EGE, its output at QSP address 0x50000. -/
def rl0 : Desc64 := [0x1000000003000000, 0x0010010000000000, 0x10000000000, 0x22, 0x30000, 0, 0, 0xFF00000000000000]
def rl1 (ege : Bool) : Desc64 := [if ege then 0x8101000303000000 else 0x8001000303000000, 0x0010010000000000, 0x0001000000000000, 0x0001000000000000, 0, 0, 0x50000, 0xFF00000000000000]
def ro (ege : Bool) (sched : Nat) : Readout := { sched := sched, period := 10, layers := [rl0, rl1 ege], stripes := [[], [(0, 0, 2)]] }
/-- Graph 1 with that readout part on quire 0, at tick 20. -/
def rograph (d : Readout) : State := (dgraph delta0).modGraph 1 (fun g => { g with delta := none, readout := some d })
def roAfter (c : Instr) (s : State) : Option Readout := (after c s).bind (fun t => (t.graph 1).readout)
def held (ege : Bool) (i : RoInst) : State := (rograph { ro ege 1 with insts := [i] }).modHop 0 (fun h => { h with nextEnd := 20 })
/-- Slot 0 of region 0 holds instant 10, armed or not, with beats of its window left or not. -/
def slotted (arm left : Bool) : State := (held false { tick := 10 }).modSfm 0 (fun f => { f with slots := [{ busy := true, armed := arm, graph := 1, tick := 10, bits := if left then { hi := 2 } else {} }, {}, {}, {}] })
theorem wit_ReadoutAt : (let s := onQ (pktAt 0x0207 1 22) (rograph (ro false 2))
    s.startable ref 0x0207 = some (pktAt 0x0207 1 22) ∧ s = s.brewFor (pktAt 0x0207 1 22) (.readoutAt ref) ∧ s.objErr 0x0207 0 1 = none ∧ s.lead 22 = some 2 ∧ answer (.readoutAt ref) s = some (0, 0, 0) ∧ (roAfter (.readoutAt ref) s).map (fun d => d.asked) = some [22]) ∧
    answer (.readoutAt ref) (onQ (pktAt 0x0207 1 22) (rograph (ro false 1))) = some (0x102, 5, 0) := by decide +kernel
theorem wit_ReadoutInstant : (let s := rograph (ro false 1)
    s.canonical = true ∧ (s.readoutRuns 1).isSome ∧ s.instantDue 1 20 = some 1 ∧ (roAfter (.readoutInstant 1) s).map (fun d => (d.insts.map (fun i => i.tick), d.next)) = some ([1], 2) ∧
      (after (.readoutInstant 1) s).map (fun t => (t.sfm 0).slots.map (fun x => x.busy)) = some [true, false, false, false]) ∧
    (roAfter (.readoutInstant 1) (rograph { ro false 1 with insts := [{ tick := 0 }, { tick := 0 }] })).map (fun d => (d.insts.length, d.skipped, d.next)) = some (2, 1, 2) ∧
    same (.readoutInstant 1) (rograph { ro false 1 with next := 20 }) = true := by decide +kernel
theorem wit_SampleSlots : (slotted true true).canonical = true ∧ (after (.sampleSlotSet 0) (slotted false false)).map (fun t => (t.sfm 0).slots.map (fun x => x.armed)) = some [true, false, false, false] ∧
    (slotted true true).dom 21 = 2 ∧ ((slotted true true).sfm 0).slotOrder = [0] ∧ (after (.sampleSweep 0) (slotted true true)).map (fun t => ((t.sfm 0).slots.map (fun x => x.bits.pos), t.ctr (sfmP 0 + 0x180))) = some ([1, 0, 0, 0], 1) ∧
    same (.sampleSweep 0) (slotted true false) = true ∧ (slotted true false).surfRegions 0 = [0] ∧
    (after (.sampleComplete 0 0) (slotted true false)).map (fun t => (t.sfm 0).slots.map (fun x => x.busy)) = some [false, false, false, false] ∧
    (roAfter (.sampleComplete 0 0) (slotted true false)).map (fun d => d.insts.map (fun i => i.ready)) = some [true] ∧ same (.sampleComplete 0 1) (slotted true false) = true := by decide +kernel
/-- Graph 2, whose layer 1 feeds channel 3 of quire 1 with virtual frames, and graph 1, which takes them; one of tick 12 waits. -/
def vfin1 : State :=
  let src : Delta := { layers := [lay0, [0x7000100000280000, 0x0070030000000000, 0, 0, 0, 0, 0, 0x0000000A03000000]], bands := [[0], [0]] }
  let s := rograph { ro false 3 with srcGraph := 2, layers := [[0x2000000003000000, 0, 0, 0, 0, 0, 0, 0xFF00000000000000], rl1 false] }
  (s.modGraph 2 (fun _ => { exist := true, slip := 3, quires := [1], delta := some src })).modQuire 1 (fun q =>
    { q with chans := [(3, { valid := true, base := 0x100, cap := 2, tokens := 1, isize := 2, credits := 1, slot := 1 })], qsp := [(0x108, 12)] })
theorem wit_VfinRecord : vfin1.canonical = true ∧ vfin1.vfSource 2 = some (1, 1, 3) ∧ (roAfter (.vfinRecord 1) vfin1).map (fun d => d.insts.map (fun i => (i.tick, i.ready))) = some [(12, true)] ∧
    (after (.vfinRecord 1) vfin1).map (fun t => (((t.quire 1).chan 3).tokens, ((t.quire 1).chan 3).credits)) = some (0, 2) ∧ same (.vfinRecord 1) (rograph (ro false 3)) = true := by decide +kernel
/-- The input of instant 10 is complete; pixel (0, 0) has the age of one half-life, the others read as stale. -/
def sampled (ege : Bool) : State := (held ege { tick := 10, ready := true }).modQuire 0 (fun q => { q with qsp := [(0x30000, 0xA5), (0x30001, 0x7F)] })
theorem wit_Stripes : (ro false 1).mayRows { tick := 10, ready := true } 1 1 = true ∧ (after (.stripeEvaluation 1 1 0) (sampled false)).map (fun t => SMap.get 0 (t.quire 0).qsp 0x50000) = some 64 ∧
    (roAfter (.stripeEvaluation 1 1 0) (sampled false)).map (fun d => d.insts.length) = some 0 ∧
    (roAfter (.egeRow 1 1 0) (sampled true)).map (fun d => d.insts.map (fun i => i.rowsOf 1 0)) = some [1] ∧ same (.stripeEvaluation 1 1 0) (sampled true) = true ∧
    same (.egeRow 1 1 0) (held true { tick := 10 }) = true := by decide +kernel
/-- A detection job with one level, on layer 1, of an instant whose rows of it are there or not. -/
def dppState (n : Nat) : State := rograph { ro false 1 with insts := [{ tick := 10, ready := true, rows := [(1, 0, n)] }], jobs := [{ words := [1, 0, 0, 0, 0, 0, 0, 0], levels := [[1, 0, 0, 0]] }] }
theorem wit_DppJob : (after (.dppJob 1 0 false) (dppState 2)).map (fun t => t.recs.map (fun r => (r.layer, r.tref, r.payload.length))) = some [(0, 10, 0)] ∧
    (roAfter (.dppJob 1 0 true) (dppState 2)).map (fun d => d.insts.length) = some 0 ∧ same (.dppJob 1 0 true) (dppState 1) = true ∧ (dppState 2).dom 42 = 2 := by decide +kernel

/-! ## Spiking -/

/-- Graph 1 with a spiking part whose one tile is quire 0's. -/
def spk (st tick : Nat) (t : Tile) : State := { (slip3.modGraph 1 (fun _ => { exist := true, slip := 3, state := st, quires := [0], parts := 4 })).modQuire 0 (fun q => { q with spk := t }) with tim := { slip3.tim with tick := tick, systime := 1000 * tick } }
def tileAfter (c : Instr) (s : State) : Option Tile := (after c s).map (fun t => (t.quire 0).spk)
/-- Key 7 to the row at 9, and a fired key 7 to group 12. -/
def entIn : Nat := 7 * 2 ^ 96 + 0xFFFFFFFF * 2 ^ 64 + 2 ^ 63 + 9 * 2 ^ 24
def entOut : Nat := 7 * 2 ^ 96 + 0xFFFFFFFF * 2 ^ 64 + 2 ^ 63 + 2 ^ 62 + 2 ^ 61 + 12 * 2 ^ 49
theorem wit_SpikeRouteSet : Ready (spk 0 0 {}) 0x0701 1 (.spikeRouteSet ref 0 [(5, BitVec.ofNat 128 entIn)]) ∧ (spk 0 0 {}).spkQuire 1 0 = some 0 ∧ (spk 0 0 {}).sealed 3 = false ∧
    (left (spk 0 0 {}) 0x0701 1 (.spikeRouteSet ref 0 [(5, BitVec.ofNat 128 entIn)])).map (fun t => (SMap.get 0 (t.quire 0).spk.table 5, (t.quire 0).spk.table.length)) = some (entIn, 1) ∧
    ran (spk 1 0 {}) 0x0701 1 (.spikeRouteSet ref 0 [(5, 1)]) = some (0x700, 2, 0) := by unfold Ready State.Starts; decide +kernel
theorem wit_SpikeWeights : Ready (spk 0 0 {}) 0x0702 1 (.spikeWeights ref 0 16 8 sgl4k [1, 2, 3]) ∧ sglErr sgl4k 8 = none ∧
    (left (spk 0 0 {}) 0x0702 1 (.spikeWeights ref 0 16 8 sgl4k [1, 2, 3])).map (fun t => ([15, 16, 18].map (SMap.get 0 (t.quire 0).sys), (t.quire 0).sys.length)) = some ([0, 1, 3], 3) := by unfold Ready State.Starts; decide +kernel
theorem wit_SpikeStateRead : ReadyAt (spk 1 0 {}) 0x0703 1 2 (.spikeStateRead ref 0 3 1 sgl4k) ∧ sglErr sgl4k 12 = none ∧
    answer (.spikeStateRead ref 0 3 1 sgl4k) (onQ (pktAt 0x0703 1 2) (spk 1 0 {})) = some (0, 0, 0) ∧
    (tileAfter (.spikeStateRead ref 0 3 1 sgl4k) (onQ (pktAt 0x0703 1 2) (spk 1 0 { en := true }))).map (fun t => t.reads.map (fun r => (r.tick, r.first, r.count))) = some [(2, 3, 1)] := by unfold ReadyAt; decide +kernel
/-- Neuron 3 enabled, in class 0 at reset (θ = 32,767, no leak); the row at 0 adds 5 to it; a delivery of that row for tick 20. -/
def tile0 : Tile := { en := true, next := 20, neurons := [(3, { en := true, fresh := true })], buf := [(0, 20)] }
def row0 : SMap (BitVec 8) := (SMap.putAll 0 [] 0 (leBytes 8 (2 * 2 ^ 62 + 7 * 2 ^ 59 + 2 ^ 27))).foldl (fun m e => SMap.put 0 m e.1 e.2) (SMap.putAll 0 [] 8 (leBytes 8 (3 + 5 * 2 ^ 13)))
def settling (tick : Nat) (t : Tile) : State := (spk 1 tick t).modQuire 0 (fun q => { q with sys := row0 })
theorem wit_Settlement : (settling 29 tile0).canonical = true ∧ tile0.next + (settling 29 tile0).slipLag ((settling 29 tile0).tileSlip 0) ≤ 29 ∧ rowOf row0 0 = some [(3, 5)] ∧ tile0.nextDue 21 = 20 ∧
    (tileAfter (.settlement 0 []) (settling 29 tile0)).map (fun t => ((t.neuron 3).v, t.next, t.buf.length, (t.neuron 3).tStart)) = some (5, 21, 0, 20) ∧ same (.settlement 0 []) (settling 20 tile0) = true ∧
    (tileAfter (.settlement 0 []) (settling 29 { tile0 with buf := [] })).map (fun t => t.next) = some 22 := by decide +kernel
theorem wit_DeliveryAndRenewal : (tileAfter (.spikeDelivery 0) (spk 1 20 { tile0 with flight := [(9, 20), (8, 30)] })).map (fun t => (t.flight, t.buf)) = some ([(8, 30)], [(0, 20), (9, 20)]) ∧
    (tileAfter (.spikeDelivery 0) (spk 1 20 { tile0 with flight := [(9, 19)] })).map (fun t => t.buf) = some [(0, 20)] ∧ same (.spikeDelivery 0) (spk 1 20 tile0) = true ∧ same (.renewalSweep 0) (spk 1 20 tile0) = true ∧
    (let t : Tile := { tile0 with next := 2 ^ 28 + 1, sweepDue := true }
    (tileAfter (.renewalSweep 0) (spk 1 (2 ^ 28) t)).map (fun t => (t.sweepDue, (t.neuron 3).tLast)) = some (false, 2 ^ 28)) := by decide +kernel
def routed : Tile := { en := true, table := [(1, entOut), (5, entIn)] }
theorem wit_RouterLookup : (let s := spk 1 20 { routed with xbarQ := [spkWord 7 30, spkWord 8 30] }
    s.canonical = true ∧ s.matches 0 7 30 false = [entIn] ∧ (tileAfter (.routerLookup 0 false []) s).map (fun t => (t.xbarQ.length, t.flight)) = some (1, [(9, 30)])) ∧
    (let s := spk 1 20 { routed with fires := [{ key := 7, tick := 20, tStart := 20 }] }
    s.matches 0 7 20 true = [entOut] ∧ (after (.routerLookup 0 true [128]) s).map (fun t => ((t.quire 0).spk.tileQ.length, t.kxb.src.map (fun x => (x.group, x.slip, x.word)))) = some (0, [(12, 3, spkWord 7 (20 + s.slipLag 3 + 1))])) ∧
    (tileAfter (.routerLookup 0 true []) (spk 1 20 { routed with tileQ := [{ key := 8, tick := 20, tStart := 20 }] })).map (fun t => (t.tileQ.length, t.flight.length)) = some (0, 0) ∧
    same (.routerLookup 0 true []) (spk 1 20 routed) = true ∧ same (.routerLookup 0 false []) (spk 1 20 routed) = true := by decide +kernel
theorem wit_DelayQueues : (let s := spk 1 20 { routed with loopQ := [spkWord 7 40, spkWord 7 21] }
    earliest s.ets (s.quire 0).spk.loopQ 0 none = some 1 ∧ (tileAfter (.delayQueueRelease 0 true) s).map (fun t => (t.loopQ.length, t.flight)) = some (1, [(9, 21)])) ∧
    same (.delayQueueRelease 0 true) (spk 1 20 { routed with loopQ := [spkWord 7 40] }) = true ∧ same (.delayQueueRelease 0 false) (spk 1 20 { routed with delayQ := [(spkWord 7 40, 12)] }) = true ∧
    (after (.delayQueueRelease 0 false) (spk 1 20 { routed with delayQ := [(spkWord 7 21, 12)] })).map (fun t => ((t.quire 0).spk.delayQ.length, t.kxb.src.map (fun x => x.group))) = some (0, [12]) ∧
    same (.delayQueueRelease 0 true) (spk 1 20 routed) = true ∧ same (.delayQueueRelease 0 false) (spk 1 20 routed) = true := by decide +kernel
/-- A spike for group 12, whose destinations are router 1 and Spine port 0; the group of slipcase `n`. -/
def copying (n : Nat) : State := { spk 1 20 {} with kxb := { groups := [(12, 2 ^ 127 + n * 2 ^ 121 + 2 ^ 68 + 2)], src := [{ word := spkWord 7 21, group := 12, slip := 3 }] } }
theorem wit_KxbCopy : (after (.kxbCopy []) (copying 3)).map (fun t => (t.kxb.src.length, [0, 1, 68].map (fun d => (SMap.get [] t.kxb.dst d).length))) = some (0, [0, 1, 1]) ∧
    (after (.kxbCopy []) (copying 4)).map (fun t => (t.kxb.dst.length, t.ctr (kxbB + 0x5488))) = some (0, 1) ∧ same (.kxbCopy []) (spk 1 20 {}) = true := by decide +kernel
/-- Port 0's attach port, ENABLE, keys from 100, group 12; an event at (5, 2). -/
def attached : State := ({ itemPort with kxb := { att := [(0, 100 * 2 ^ 32 + 2 ^ 31 + 12 * 2 ^ 10)] } }.setRfld (kxbB + 0x100 + 4 * 3) 8 8 1).modHop 0 (fun h => { h with chans := [{ consumer := .attach, ribbon := { items := [ev20] } }] })
theorem wit_AttachSpike : attached.canonical = true ∧ attached.portSlip 0 = 3 ∧ attKey (SMap.get 0 attached.kxb.att 0) (attached.geomW 0) 5 2 true = some (100 + 2 * 2048 + 5) ∧
    (after (.attachSpike 0) attached).map (fun t => t.kxb.src.map (fun x => (x.word, x.group, x.slip))) = some [(spkWord 4201 20, 12, 3)] ∧
    (after (.attachSpike 0) attached).map (fun t => (t.hop 0).chans.map (fun c => c.ribbon.items.length)) = some [0] ∧ same (.attachSpike 0) itemPort = true := by decide +kernel

/-! ## Auxiliary sensors -/

/-- Fetch 0: valid, bus 0, a trigger of kind `k` (0 IBI at address 0x51, 2 a grid of 1,024 ns), blocks of 2 bytes, slipcase 3. -/
def fetch0 (k : Nat) : Nat := 1024 * 2 ^ 64 + 2 ^ 63 + k * 2 ^ 59 + 0x51 * 2 ^ 44 + 1 * 2 ^ 20 + 3 * 2 ^ 14
/-- A channel of both bytes of fetch 0, signed, with a period of 1,000 ns. -/
def ch0 : AuxChan := { src := 2 ^ 52 + 2 ^ 51, time := 1000 * 2 ^ 32 }
/-- Slipcase 3 at tick 20 with fetch 0, that channel, and fetches that wait on bus 0; I3C controller 0 is enabled. -/
def aux (k : Nat) (x : AuxChan) (l : List (Nat × Nat)) : State :=
  let s := { slip3 with ascu := { fetch := [(0, fetch0 k)], busq := if l.isEmpty then [] else [(0, l)], chans := [(0, x)] }, tim := { slip3.tim with tick := 20, systime := 20000 } }
  s.setReg (xioB + 0x390) 0x80000000
def aux0After (c : Instr) (s : State) : Option AuxChan := (after c s).map (fun t => t.aux 0)
def busAfter (c : Instr) (s : State) : Option (List (Nat × Nat)) := (after c s).map (fun t => SMap.get [] t.ascu.busq 0)
def live0 : AuxChan := { ch0 with en := true }
theorem wit_FetchTrigger : feValid (fetch0 2) = true ∧ fePeriod (fetch0 2) = 1024 ∧ (aux 2 live0 []).tickAt 20480 = 20 ∧ busAfter (.fetchTrigger 0 20480) (aux 2 live0 []) = some [(20480, 0)] ∧
    same (.fetchTrigger 0 20481) (aux 2 live0 []) = true ∧ same (.fetchTrigger 0 22528) (aux 2 live0 []) = true ∧
    (aux0After (.fetchTrigger 0 20480) (aux 2 live0 (List.replicate 16 (5, 0)))).map (fun x => x.lost) = some true ∧
    (after (.fetchTrigger 0 20480) (aux 2 live0 (List.replicate 16 (5, 0)))).map (fun t => t.ctr (feCnt 0 2)) = some 1 := by decide +kernel
theorem wit_Ibi : busAfter (.ibi 0 0x51 20100) (aux 0 live0 []) = some [(20100, 0)] ∧ (after (.ibi 0 0x52 20100) (aux 0 live0 [])).map (fun t => (t.ctr (xioB + 0x460), t.out.length)) = some (1, 1) ∧
    same (.ibi 1 0x51 20100) (aux 0 live0 []) = true := by decide +kernel
/-- A fetch triggered at 20,000 waits. -/
def waiting : State := aux 0 live0 [(20000, 0), (20100, 0)]
theorem wit_FetchComplete : waiting.canonical = true ∧ waiting.fetchChans 0 = [0] ∧ feLen (waiting.fetchEnt 0) = 2 ∧
    (aux0After (.fetchComplete 0 true [0xFE, 0xFF, 9]) waiting).map (fun x => x.q.map (fun i => (i.t, i.v, i.gap))) = some [(20000, -2, false)] ∧
    busAfter (.fetchComplete 0 true [0xFE, 0xFF, 9]) waiting = some [(20100, 0)] ∧
    (after (.fetchComplete 0 true [0xFE]) waiting).map (fun t => ((t.aux 0).lost, t.ctr (feCnt 0 1), (t.reg (ascuB + 4)).getLsbD 0)) = some (true, 1, true) ∧ same (.fetchComplete 1 true [1, 2]) waiting = true := by decide +kernel
theorem wit_I3cStuck : (after (.i3cStuck 0) waiting).map (fun t => (t.ascu.busq.length, (t.aux 0).lost, t.out.map (fun e => e.data))) = some (0, true, [[3, 16]]) ∧
    (after (.i3cStuck 1) waiting).map (fun t => t.ctr (xioB + 0x470)) = some 1 := by decide +kernel
/-- An input of value 7 at an instant waits; the one before it came at 19,000. -/
def slot0 (t : Int) : State := aux 0 { live0 with q := [{ t := t, v := 7, gap := false }], tLast := some 19000, vLast := 4 } []
theorem wit_ChannelSlot : live0.p = 256000 ∧ (aux0After (.channelSlot 0) (slot0 20100)).map (fun x => [(x.q.length : Int), x.tLast.getD 0, x.vLast, x.lungo.seq, x.f1.line.headD 0]) = some [0, 20100, 7, 1, 7] ∧
    (aux0After (.channelSlot 0) (slot0 19000)).map (fun x => [(x.q.length : Int), x.vLast]) = some [0, 4] ∧ (after (.channelSlot 0) (slot0 19000)).map (fun t => t.ctr (chCnt 0 9)) = some 1 ∧
    (aux0After (.channelSlot 0) (slot0 21000)).map (fun x => [(x.q.length : Int), (x.subs.map (fun p => p.2.1)).getD 0, x.tLast.getD 0, x.vLast]) = some [1, 1, 20000, 4] ∧
    (aux0After (.channelSlot 0) (slot0 30000)).map (fun x => [(x.q.length : Int), x.nIn, x.tLast.getD 0]) = some [0, 1, 30000] ∧ same (.channelSlot 1) (slot0 20100) = true ∧
    same (.channelSlot 0) (aux 0 live0 []) = true := by decide +kernel
theorem wit_AuxTickEnd : (aux0After .auxTickEnd (aux 0 { live0 with lungo := { hold := 3 } } [])).map (fun x => (x.lungo.closed, x.rist.closed)) = some (18, 0) ∧ same .auxTickEnd (aux 0 ch0 []) = true := by decide +kernel
theorem wit_AuxFetchSet : Ready (aux 0 ch0 []) 0x0801 0 (.auxFetchSet ref 1 (BitVec.ofNat 128 (fetch0 2))) ∧ fetchBad (fetch0 2) = false ∧
    (left (aux 0 ch0 []) 0x0801 0 (.auxFetchSet ref 1 (BitVec.ofNat 128 (fetch0 2)))).map (fun t => [t.fetchEnt 0, t.fetchEnt 1]) = some [fetch0 0, fetch0 2] ∧
    ran (aux 0 live0 []) 0x0801 0 (.auxFetchSet ref 0 (BitVec.ofNat 128 (fetch0 2))) = some (0x700, 1, 0) := by unfold Ready State.Starts; decide +kernel
theorem wit_AuxChanSet : Ready (aux 0 ch0 []) 0x0802 0 (.auxChanSet ref 1 0x18000000000000 0 0 5) ∧ bitsN 0x18000000000000 31 0 = 0 ∧
    (left (aux 0 ch0 []) 0x0802 0 (.auxChanSet ref 1 0x18000000000000 0 0 5)).map (fun t => (decide (t.aux 0 = ch0), (t.aux 1).src, (t.aux 1).time)) = some (true, 0x18000000000000, 5) ∧
    ran (aux 0 live0 []) 0x0802 0 (.auxChanSet ref 0 0 0 0 0) = some (0x700, 2, 0) := by unfold Ready State.Starts; decide +kernel
theorem wit_AuxChanEnable : Ready (aux 0 ch0 []) 0x0803 0 (.auxChanEnable ref 0 1) ∧ (aux 0 ch0 []).mayAux ref ((aux 0 ch0 []).auxSlip 0) = true ∧ (aux 0 ch0 []).auxCfgOk 0 = true ∧
    ran (aux 0 ch0 []) 0x0803 0 (.auxChanEnable ref 0 1) = some (0, 0, 1) ∧ (left (aux 0 ch0 []) 0x0803 0 (.auxChanEnable ref 0 1)).map (fun t => ((t.aux 0).en, (t.aux 0).lungo.hold)) = some (true, 1) ∧
    (left (aux 0 live0 []) 0x0803 0 (.auxChanEnable ref 0 0)).map (fun t => (t.aux 0).en) = some false ∧
    (aux 0 ch0 []).auxCfgOk 1 = true ∧ (aux 0 { ch0 with src := 31 * 2 ^ 54 } []).auxCfgOk 0 = false ∧ ran (aux 0 { ch0 with src := 31 * 2 ^ 54 } []) 0x0803 0 (.auxChanEnable ref 0 1) = some (0x102, 3, 0) := by
  unfold Ready State.Starts; decide +kernel
theorem wit_AuxCoefLoad : Ready (aux 0 ch0 []) 0x0804 0 (.auxCoefLoad ref 0 1 3 15 [1, 0xFFFF, 1, 9]) ∧ ch0.f1.pend = none ∧ coefSym [1, -1, 1] = true ∧
    ran (aux 0 ch0 []) 0x0804 0 (.auxCoefLoad ref 0 1 3 15 [1, 0xFFFF, 1, 9]) = some (0, 0, 1) ∧
    (left (aux 0 ch0 []) 0x0804 0 (.auxCoefLoad ref 0 1 3 15 [1, 0xFFFF, 1, 9])).map (fun t => ((t.aux 0).f1.b.coef, (t.aux 0).f1.b.taps, (t.aux 0).f1.a.taps)) = some ([1, -1, 1, 9], 3, 0) := by
  unfold Ready State.Starts; decide +kernel
theorem wit_AuxCoefSwap : (let s := onQ (pkt 0x0805 0) (aux 0 live0 [])
    s.startable ref 0x0805 = some (pkt 0x0805 0) ∧ s = s.brewFor (pkt 0x0805 0) (.auxCoefSwap ref 0 3) ∧ s.objErr 0x0805 0 0 = none ∧
    (aux0After (.auxCoefSwap ref 0 3) s).map (fun x => (x.f1.pend, x.f2.pend, x.swaps.length)) = some (some none, some none, 1)) ∧
    (let s := onQ (pktAt 0x0805 0 25) (aux 0 live0 [])
    s.lead 25 = some 5 ∧ (aux0After (.auxCoefSwap ref 0 1) s).map (fun x => (x.f1.pend, x.f2.pend)) = some (some (some 25), none)) := by decide +kernel

/-! ## Fusion and tracks -/

/-- Job 0: one grid cell of 1 m in FP32, an instant every 10 ticks, a wait of at most 5, and a track set (0xFF: none). -/
def job0 (set : Nat) : FJob := { en := true, graph := 1, runs := true, next := 20, chans := [0], words := [0x00010001FF0A0101, 10, 0, 0x3F800000, BitVec.ofNat 64 (set * 2 ^ 32 + 5), 0x50000, 0, 0] }
/-- Slot 3, external vehicle-frame detections with a CLOSE_LAG of 2; slot 4, the detection sets of channel 6; slot 5, ASCU channel 0. -/
def src3 : FSrc := { en := true, graph := 1, words := [0xFF000403, 2000, 2, 0, 0, 0, 0, 0] }
def src4 : FSrc := { en := true, graph := 1, fromG := 1, job := 1, words := [0x06000304, 2000, 0, 0, 0, 0, 0, 0] }
def src5 : FSrc := { en := true, graph := 1, job := 1, words := [0x00000505, 2000, 0, 0, 0, 0, 0, 0] }
/-- Set 0: 4 slots, CV, confirmed by 2 hits of 3, deleted after 2 misses; one confirmed track at (0.5, 0.5), at rest, held at tick 10. -/
def trk0 : Track := { id := 7, state := 2, miss := 0, cls := 1, x := [0x3F000000, 0x3F000000, 0, 0], p := List.replicate 4 (List.replicate 4 0), w := 0, l := 0, score := 0, at_ := 10, lastHit := 10, hits := 3, hitNow := false, src := 3, age := 1 }
def set0 (c : List TCycle) : TSet := { en := true, graph := 1, words := [0x000F020302000004, 0, 0, 0, 0x7F000000, 0x00FF0001, 0, 0], idNext := 8, tracks := [(0, some trk0)], cycles := c }
/-- Graph 1 on quire 0 with the job, the slots and the set, at a tick. -/
def fusing (tick : Nat) (set : Nat) (src : List (Nat × FSrc)) (c : List TCycle) : State :=
  { graph1 with fu := { jobs := [(0, job0 set)], srcs := src, sets := [(0, set0 c)] }, tim := { graph1.tim with tick := tick, systime := 1000 * tick } }
def srcAfter (k : Nat) (c : Instr) (s : State) : Option FSrc := (after c s).map (fun t => t.fsrc k)
/-- A detection set of tick 12 waits in channel 6 of quire 0; an output of tick 17 in the sink of slot 5. -/
def recWaits : State := (fusing 20 0xFF [(4, src4)] []).modQuire 0 (fun q => { q with chans := [(6, { valid := true, base := 0x100, cap := 2, tokens := 1, isize := 2, credits := 1, slot := 1 })], qsp := [(0x108, 12)] })
def auxWaits : State := (fusing 20 0xFF [(5, src5)] []).modAux 0 (fun c => { c with sinks := [{ graph := 1, rist := false, slot := 5, items := [0xA000000000000011, 0x3F800000] }] })
theorem wit_FusionInput : recWaits.canonical = true ∧ (recWaits.chanHead (recWaits.srcQuire src4) 6).isSome ∧ (srcAfter 4 (.fusionInput 4) recWaits).map (fun x => x.samples.map (fun y => (y.tick, y.late))) = some [(12, false)] ∧
    (after (.fusionInput 4) recWaits).map (fun t => ((t.quire 0).chan 6).tokens) = some 0 ∧ same (.fusionInput 4) (fusing 20 0xFF [(4, src4)] []) = true ∧ same (.fusionInput 3) (fusing 20 0xFF [(3, src3)] []) = true ∧
    (srcAfter 5 (.fusionInput 5) auxWaits).map (fun x => x.samples.map (fun y => y.tick)) = some [17] := by decide +kernel
/-- A sample of one detection at 18,000, read by 19,000. -/
def sample (seq : BitVec 64) : SampleHdr := { slot := 3, kind := 4, fmt := 0xA, flags := 0, count := 1, validNs := 18000, ageNs := 100, w := 0, h := 0, c := 0, rsvdNZ := false, seq := seq, bytes := 32 }
def put (seq : BitVec 64) : Instr := .fusionSamplePut ref 3 sgl4k (sample seq) (List.replicate 32 0) 19000
theorem wit_FusionSamplePut : (let s := fusing 20 0xFF [(3, { src3 with seq := some 1 })] []
    Ready s 0x0601 1 (put 2) ∧ s.slotContract 3 = none ∧ sampleShapeOk src3 (sample 2) 32 = true ∧ ran s 0x0601 1 (put 2) = some (0, 0, 2) ∧ ran s 0x0601 1 (put 1) = some (0x102, 1, 0) ∧
    (left s 0x0601 1 (put 2)).map (fun t => ((t.fsrc 3).samples.map (fun y => (y.tick, y.age, y.late)), (t.fsrc 3).seq)) = some ([(18, 1, true)], some 2)) ∧
    (let e : ConSrc := { kind := 3, index := 3, link := 0, rsvd := 0, rate := 1000, burst := 1, sizeMax := 1 }
    let s := ((fusing 20 0xFF [(3, src3)] []).modGraph 1 (fun g => { g with contract := 9 })).modContract 9 (fun _ => { exist := true, graph := 1, srcs := [e], buckets := [(3, 0, 19000)] })
    s.slotContract 3 = some 9 ∧ ran s 0x0601 1 (put 1) = some (0x200, 0x10, 0)) := by unfold Ready State.Starts; decide +kernel
/-- A pinhole of unit focal lengths, and one of none. -/
def xf (f : BitVec 64) : List (BitVec 64) := [0, 0, 0, 0, 0, 0, 0, f, 0, 0, 0, 0]
def setXf (f : BitVec 64) : Instr := .fusionXformSet ref 3 (xf f) false sgl4k []
theorem wit_FusionXformSet : (let s := (fusing 20 0xFF [(3, src3)] []).modFjob 0 (fun j => { j with runs := false })
    Ready s 0x0602 1 (setXf 0x3F8000003F800000) ∧ ran s 0x0602 1 (setXf 0x3F8000003F800000) = some (0, 0, 1) ∧
    (left s 0x0602 1 (setXf 0x3F8000003F800000)).map (fun t => ((t.fsrc 3).useB, decide ((t.fsrc 3).bankB.words = xf 0x3F8000003F800000))) = some (true, true) ∧
    xformBad { words := xf 0 } = true ∧ ran s 0x0602 1 (setXf 0) = some (0x102, 2, 0)) ∧
    ran (fusing 20 0xFF [(3, src3)] []) 0x0602 1 (setXf 0x3F8000003F800000) = some (0x700, 3, 0) := by unfold Ready State.Starts; decide +kernel
theorem wit_TrackClear : Ready (fusing 20 0 [] []) 0x0603 1 (.trackClear ref 0) ∧ (left (fusing 20 0 [] []) 0x0603 1 (.trackClear ref 0)).map (fun t => ((t.tset 0).clearAt, (t.tset 0).tracks.length)) = some (some 0, 1) ∧
    ran (fusing 20 0 [] []) 0x0603 1 (.trackClear ref 1) = some (0x102, 5, 0) := by unfold Ready State.Starts; decide +kernel
theorem wit_FusionStart : (let s := fusing 22 0xFF [(3, src3)] []
    s.canonical = true ∧ s.dom 42 = 2 ∧ s.jobClosed 0 20 = true ∧ same (.fusionStart 0) (fusing 21 0xFF [(3, src3)] []) = true ∧ ((s.fsrc 3).select 20 (s.fsE (s.fsrc 3))).contrib = false ∧
    (after (.fusionStart 0) s).map (fun t => ((t.fjob 0).next, (t.fsrc 3).state, t.recs.map (fun r => (r.tref, r.flags)))) = some (30, 0, [(20, 2)])) ∧
    (let s := fusing 25 0 [(4, { src4 with job := 0 })] []
    s.jobClosed 0 20 = false ∧ (after (.fusionStart 0) s).map (fun t => ((t.tset 0).cycles.map (fun c => (c.tf, c.forced)), (t.fjob 0).forced)) = some ([(20, true)], some 20)) := by decide +kernel
def cyc : TCycle := { tf := 20, forced := false, lateCnt := 0, lateDisc := 0, batches := [] }
theorem wit_TrackCycle : (let s := fusing 25 0 [(3, src3)] [cyc]
    s.canonical = true ∧ cellOf (s.feeder 0) (f32of 0x3F000000) (f32of 0x3F000000) = some 0 ∧
    (after (.trackCycle 0) s).map (fun t => ((t.tset 0).tracks.map (fun e => e.2.map (fun k => (k.state, k.miss, k.at_))), (t.tset 0).cycles.length)) = some ([some (3, 1, 20)], 0) ∧
    (after (.trackCycle 0) s).map (fun t => t.recs.map (fun r => (r.tref, r.layer))) = some [(20, 0)] ∧ same (.trackCycle 0) (fusing 25 0 [(3, src3)] []) = true) ∧
    (let s := (fusing 25 0 [(3, src3)] [cyc]).modTset 0 (fun t => { t with clearAt := some 0 })
    (after (.trackCycle 0) s).map (fun t => ((t.tset 0).tracks.length, (t.tset 0).clearAt)) = some (0, none)) := by decide +kernel

/-! ## Field networks -/

/-- Ethernet port 0 enabled, VLAN 5, address 0x0A000001, PTP domain 3; point-cloud entry 2 of slot 3, UDP port 7000, slipcase 3, for
fusion source 3. -/
def eth0 : State := (((fusing 20 0xFF [(3, src3)] []).setReg (ethCfg 0) (BitVec.ofNat 64 (2 ^ 63 + 2 ^ 59 + 5 * 2 ^ 47 + 0x0A000001))).setReg (xioB + 0x20) (BitVec.ofNat 64 (2 ^ 63 + 3 * 2 ^ 48))).setReg
  (xioB + 0x110) (BitVec.ofNat 64 (2 ^ 63 + 3 * 2 ^ 56 + 3 * 2 ^ 48 + 7000 * 2 ^ 32))
theorem wit_EthFrame : eth0.canonical = true ∧ same (.ethFrame 1 true 64 none .udp) eth0 = true ∧ (after (.ethFrame 0 true 64 (some 5) .udp) eth0).map (fun t => t.ctr (xioB + 0x478)) = some 1 ∧
    (after (.ethFrame 0 false 63 (some 5) .udp) eth0).map (fun t => t.ctr (xioB + 0x480)) = some 1 ∧ (after (.ethFrame 0 false 64 none .udp) eth0).map (fun t => t.ctr (xioB + 0x480)) = some 1 ∧
    (after (.ethFrame 0 false 9216 (some 5) (.resolve true)) eth0).map (fun t => t.out.map (fun e => e.data)) = some [[0x0806, 0x0A000001]] ∧ same (.ethFrame 0 false 64 (some 5) (.ptp 3)) eth0 = true ∧
    (after (.ethFrame 0 false 64 (some 5) (.ptp 4)) eth0).map (fun t => t.ctr (xioB + 0x480)) = some 1 := by decide +kernel
/-- The sample of 96 bytes the tests of fusion put, as Table 11.4 lays it out. -/
def pclBytes : List (BitVec 8) := leBytes 8 (3 + 4 * 2 ^ 8 + 0xA * 2 ^ 16 + 1 * 2 ^ 32) ++ leBytes 8 18000 ++ leBytes 8 100 ++ leBytes 8 0 ++ leBytes 8 2 ++ leBytes 16 0 ++ leBytes 8 32 ++ List.replicate 32 0
def gram (frag nfrag : BitVec 16) (off : BitVec 32) (data : List (BitVec 8)) : Datagram :=
  { udpPort := 7000, srcIp := 1, magic := 0x4E45, kind := 1, entry := 2, seq := 9, frag := frag, nfrag := nfrag, offset := off, data := data }
/-- The first 40 bytes have come at 18,000. -/
def partly : State := { eth0 with xio := { reasm := [{ entry := 2, seq := 9, nfrag := 2, since := 18000, frags := [(0, 0, pclBytes.take 40)] }] } }
theorem wit_PointCloudDatagram : eth0.pclTakes 2 0 7000 1 = true ∧ sampleHdrOf pclBytes = sample 2 ∧
    (after (.pointCloudDatagram 0 (gram 0 1 0 pclBytes) 19000) eth0).map (fun t => ((t.fsrc 3).samples.map (fun y => y.tick), t.ctr (xioB + 0x420))) = some ([18], 1) ∧
    after (.pointCloudDatagram 0 (gram 0 2 0 (pclBytes.take 40)) 19000) { eth0 with tim := { eth0.tim with systime := 18000 } } = some { partly with tim := { eth0.tim with systime := 18000 } } ∧
    (after (.pointCloudDatagram 0 (gram 1 2 40 (pclBytes.drop 40)) 19000) partly).map (fun t => ((t.fsrc 3).samples.map (fun y => y.tick), t.xio.reasm.length)) = some ([18], 0) ∧
    (after (.pointCloudDatagram 0 (gram 1 2 39 (pclBytes.drop 40)) 19000) partly).map (fun t => (t.xio.reasm.length, t.ctr (xioB + 0x428))) = some (0, 1) ∧
    (after (.pointCloudDatagram 0 (gram 1 1 0 pclBytes) 19000) eth0).map (fun t => t.ctr (xioB + 0x428)) = some 1 ∧
    (after (.pointCloudDatagram 0 { gram 0 1 0 pclBytes with magic := 1 } 19000) eth0).map (fun t => t.ctr (xioB + 0x480)) = some 1 ∧
    same (.pointCloudDatagram 0 { gram 0 1 0 pclBytes with entry := 3 } 19000) eth0 = true ∧ same (.pointCloudDatagram 1 (gram 0 1 0 pclBytes) 19000) eth0 = true := by decide +kernel
theorem wit_PclReasmDrop : same .pclReasmDrop partly = true ∧ (after .pclReasmDrop { partly with tim := { partly.tim with systime := 2018000 } }).map (fun t => (t.xio.reasm.length, t.ctr (xioB + 0x428))) = some (0, 1) := by decide +kernel
/-- A record of 100 bytes of slipcase 3 waits at egress entry 1, enabled or not. -/
def egress1 (en : Bool) : State := { eth0.setReg (xioB + 0x210) (BitVec.ofNat 64 (en.toNat * 2 ^ 63 + 3 * 2 ^ 56)) with xio := { egWait := [(1, 100, [5])], egBytes := [(0, 100)] } }
theorem wit_EgressDatagram : (egress1 true).canonical = true ∧ (egress1 true).sealed 3 = false ∧ (after (.egressDatagram 1) (egress1 true)).map (fun t => (t.xio.egWait.length, t.xio.egBytes.length, SMap.get 0 t.xio.egSeq 1, t.out.length)) = some (0, 0, 1, 1) ∧
    (after (.egressDatagram 1) (egress1 false)).map (fun t => (t.xio.egWait.length, t.out.length)) = some (0, 0) ∧ same (.egressDatagram 2) (egress1 true) = true ∧
    (let s := (egress1 true).modFn 1 (fun f => { f with tdisp := .run })
    s.sealed 3 = true ∧ (after (.egressDatagram 1) s).map (fun t => (t.out.length, t.ctr (xioB + 0x440))) = some (0, 1)) := by decide +kernel
theorem wit_EthTime : (let s := eth0.setReg (tuB + 0x18) 1
    s.candidates.contains 1 = true ∧ (after (.delayRequest 0) s).map (fun t => (t.tim.delayReq, t.out.map (fun e => e.data))) = some (1, [[0x88F7, 1]]) ∧ same (.delayRequest 1) s = true) ∧
    (after (.ethLinkLoss 0) { eth0 with tim := { eth0.tim with delayReq := 3 } }).map (fun t => (t.reg (xioB + 4), t.tim.delayReq)) = some (4, 2) := by decide +kernel
theorem wit_BusesAndDram : (after (.hotJoin 0) (eth0.setReg (xioB + 0x390) 0xC0000000)).map (fun t => (t.out.map (fun e => e.data), t.ctr (xioB + 0x468))) = some ([[2, 1]], 0) ∧
    (after (.hotJoin 1) (eth0.setReg (xioB + 0x390) 0xC0000000)).map (fun t => (t.out.map (fun e => e.data), t.ctr (xioB + 0x468))) = some ([[2, 0]], 1) ∧
    (after (.dramEcsRead [0, 7]) eth0).map (fun t => (SMap.get 0 t.xio.ecs 1, t.reg (mcB + 4))) = some (7, 4) ∧ (after (.dramEcsRead [0]) eth0).map (fun t => t.reg (mcB + 4)) = some 0 ∧
    (after (.wck2dqRetraining 5) eth0).map (fun t => (SMap.get 0 t.xio.wckAt 5, t.xio.wckAt.length)) = some (20000, 1) := by decide +kernel

/-! ## Rules stated as they stand -/

theorem wit_Ets : etsDiff 5 (2 ^ 32 - 5) = 10 ∧ etsDiff 0 (2 ^ 31) = -2 ^ 31 ∧ etsDiff (2 ^ 31 - 1) 0 = 2 ^ 31 - 1 ∧ ((5 : Int) - 3).natAbs < 2 ^ 31 := by decide
theorem wit_FilterSettings : (after (.registerWrite 0 (BitVec.ofNat 28 (hopB 0 + 0x20)) 4 0xFF 5) port0).map (fun t => (t.reg (hopB 0 + 0x20), (t.filters 0 t.tim.tick).1)) = some (5, 0) ∧ port0.canonical = true ∧
    (let s := port0.setReg (hopB 0 + 0x20) 5
    s.tim.stopped = false ∧ s.pwr.down = false ∧ (after .tickBoundary s).map (fun t => (t.tim.tick, (t.filters 0 1).1)) = some (1, 5)) := by decide +kernel

end Sys2Proof.Tests
end

/-! SUPPORT. What a fault, a log record, an alarm and a trace record leave alone: time, DRAM, power, the work of every quire, and the
counters that none of them counts. -/
namespace Sys2Proof.Machine

/-- y is x but for what a fence writes (Table 5.7): its state, its segments and its Access Engines. -/
structure Quire.SameWork (x y : Quire) : Prop where
  eq : y = { x with state := y.state, segs := y.segs, ae0 := y.ae0, ae1 := y.ae1 }

theorem Quire.SameWork.refl (x : Quire) : x.SameWork x := ⟨rfl⟩

theorem Quire.SameWork.trans {x y z : Quire} (h1 : x.SameWork y) (h2 : y.SameWork z) : x.SameWork z :=
  ⟨h2.eq.trans (by rw [h1.eq])⟩

section
variable {x y : Quire} (h : x.SameWork y)
include h

theorem Quire.SameWork.curStep : y.curStep = x.curStep := by rw [h.eq]

theorem Quire.SameWork.winStart : y.winStart = x.winStart := by rw [h.eq]

theorem Quire.SameWork.winReplays : y.winReplays = x.winReplays := by rw [h.eq]

theorem Quire.SameWork.winOver : y.winOver = x.winOver := by rw [h.eq]

theorem Quire.SameWork.floorErr : y.floorErr = x.floorErr := by rw [h.eq]

theorem Quire.SameWork.chans : y.chans = x.chans := by rw [h.eq]

theorem Quire.SameWork.qsp : y.qsp = x.qsp := by rw [h.eq]

end

theorem Quire.sameWork_fence (x : Quire) : x.SameWork x.fence := ⟨rfl⟩

/-- Counters of a quire that count neither records, alarms nor changes of GRIND. -/
def quietCtr (k : Nat) : Prop := qrB 0 ≤ k ∧ k % 0x4000 < 0x698

theorem quietCtr_quire (q : Nat) {o : Nat} (h : o < 0x698) : quietCtr (qrB q + o) := by
  unfold quietCtr qrB
  omega

/-- t keeps of s the time, DRAM, power, the work of every quire and the quiet counters; n fault records have been counted. The maps
of quires and counters stay canonical. -/
structure State.Keeps (s t : State) (n : Nat := 0) : Prop where
  tim : t.tim = s.tim
  dram : t.dram = s.dram
  pwr : t.pwr = s.pwr
  quires_wf : SMap.wf {} s.quires = true → SMap.wf {} t.quires = true
  ctrs_wf : SMap.wf 0 s.ctrs = true → SMap.wf 0 t.ctrs = true
  work : SMap.wf {} s.quires = true → ∀ k, (s.quire k).SameWork (t.quire k)
  ctr : ∀ k, quietCtr k → t.ctr k = s.ctr k
  faults : SMap.wf 0 s.ctrs = true → t.ctr (simB + 0x400) = s.ctr (simB + 0x400) + BitVec.ofNat 48 n

namespace State.Keeps

theorem trans {s t u : State} {n m : Nat} (h1 : s.Keeps t n) (h2 : t.Keeps u m) : s.Keeps u (n + m) where
  tim := h2.tim.trans h1.tim
  dram := h2.dram.trans h1.dram
  pwr := h2.pwr.trans h1.pwr
  quires_wf h := h2.quires_wf (h1.quires_wf h)
  ctrs_wf h := h2.ctrs_wf (h1.ctrs_wf h)
  work h k := (h1.work h k).trans (h2.work (h1.quires_wf h) k)
  ctr k hk := (h2.ctr k hk).trans (h1.ctr k hk)
  faults h := by rw [h2.faults (h1.ctrs_wf h), h1.faults h, BitVec.ofNat_add, BitVec.add_assoc]

theorem comp {s t u : State} {n : Nat} (h1 : s.Keeps t) (h2 : t.Keeps u n) : s.Keeps u n := by
  simpa using h1.trans h2

/-- A state that differs in other fields only. -/
theorem of_eq {s t : State} (h1 : t.tim = s.tim) (h2 : t.dram = s.dram) (h3 : t.pwr = s.pwr) (h4 : t.quires = s.quires)
    (h5 : t.ctrs = s.ctrs) : s.Keeps t where
  tim := h1
  dram := h2
  pwr := h3
  quires_wf h := h4 ▸ h
  ctrs_wf h := h5 ▸ h
  work _ k := by unfold State.quire; rw [h4]; exact .refl _
  ctr k _ := by unfold State.ctr; rw [h5]
  faults _ := by unfold State.ctr; rw [h5]; simp

theorem refl (s : State) : s.Keeps s := of_eq rfl rfl rfl rfl rfl

theorem ite {s t : State} {c : Prop} [Decidable c] (h : s.Keeps t) : s.Keeps (if c then t else s) := by
  split
  · exact h
  · exact refl s

theorem foldl {α : Type} {f : State → α → State} (h : ∀ s a, State.Keeps s (f s a)) (l : List α) (s : State) : s.Keeps (l.foldl f s) := by
  induction l generalizing s with
  | nil => exact refl s
  | cons a r ih => exact (h s a).trans (ih _)

theorem bump (s : State) {k : Nat} (n : Nat) (h1 : ¬ quietCtr k) (h2 : k ≠ simB + 0x400) : s.Keeps (s.bump k n) where
  tim := rfl
  dram := rfl
  pwr := rfl
  quires_wf h := h
  ctrs_wf h := SMap.wf_put h
  work _ _ := .refl _
  ctr _ hj := State.ctr_bump_ne s n (fun e => h1 (e ▸ hj))
  faults _ := by rw [State.ctr_bump_ne s n h2.symm]; simp

/-- One more fault record counted. -/
theorem bump_faults (s : State) : s.Keeps (s.bump (simB + 0x400)) 1 where
  tim := rfl
  dram := rfl
  pwr := rfl
  quires_wf h := h
  ctrs_wf h := SMap.wf_put h
  work _ _ := .refl _
  ctr _ hk := State.ctr_bump_ne s 1 (by unfold quietCtr qrB at hk; unfold simB; omega)
  faults h := State.ctr_bump_self _ _ h

theorem modQuire {f : Quire → Quire} (hf : ∀ x : Quire, x.SameWork (f x)) (s : State) (q : Nat) : s.Keeps (s.modQuire q f) where
  tim := rfl
  dram := rfl
  pwr := rfl
  quires_wf h := SMap.wf_upd h
  ctrs_wf h := h
  work h k := by
    unfold State.quire State.modQuire
    by_cases hk : k = q
    · subst hk
      rw [SMap.get_upd_self h]
      exact hf _
    · rw [SMap.get_upd_ne hk]
      exact .refl _
  ctr _ _ := rfl
  faults _ := by simp [State.ctr]

end State.Keeps

/-! ## The operations of a fault -/

/-- The counters of the observability unit are not quiet. -/
theorem State.keeps_bump_obs (s : State) {o : Nat} (h : o < 0x200) : s.Keeps (s.bump (obsB + o)) :=
  State.Keeps.bump s 1 (by unfold quietCtr qrB obsB; omega) (by unfold obsB simB; omega)

theorem State.keeps_orReg (s : State) (k : Nat) (m : Word) : s.Keeps (s.orReg k m) := .of_eq rfl rfl rfl rfl rfl

theorem State.keeps_modSlip (s : State) (n : Nat) (g : Slip → Slip) : s.Keeps (s.modSlip n g) := .of_eq rfl rfl rfl rfl rfl

theorem State.keeps_modObs (s : State) (g : Obs → Obs) : s.Keeps (s.modObs g) := .of_eq rfl rfl rfl rfl rfl

theorem State.keeps_modSi (s : State) (g : Si → Si) : s.Keeps (s.modSi g) := .of_eq rfl rfl rfl rfl rfl

theorem State.keeps_conFault (s : State) (p : Graph → Bool) (c : Nat) : s.Keeps (s.conFault p c) := .of_eq rfl rfl rfl rfl rfl

theorem State.keeps_emit (s : State) (k : EmitKind) (dst data : List Nat) : s.Keeps (s.emit k dst data) := .of_eq rfl rfl rfl rfl rfl

theorem State.keeps_alarm (s : State) (cause source slip : Nat) (present : Bool) : s.Keeps (s.alarm cause source slip present) := by
  have hb := s.keeps_bump_obs (o := 0x100) (by decide)
  unfold State.alarm
  extract_lets s1 t held s2 s3
  have full : s1.Keeps s3 := (s1.keeps_bump_obs (o := 0x108) (by decide)).comp ((State.keeps_orReg _ _ _).comp (State.keeps_modObs _ _))
  split
  · exact hb.comp (State.keeps_modObs _ _)
  · split
    · exact hb.comp (State.keeps_modObs _ _)
    · exact hb.comp (full.comp (.ite (State.keeps_modSlip _ _ _)))

theorem State.keeps_log (s : State) (source slip level code : Nat) (data : List Nat) : s.Keeps (s.log source slip level code data) := by
  unfold State.log
  extract_lets t need o first _ s1 s2
  split
  · exact (s.keeps_modObs (fun _ => { o with runLog := {} })).comp (State.keeps_bump_obs _ (o := 0x110) (by decide))
  · have h1 : s.Keeps s1 := .of_eq rfl rfl rfl rfl rfl
    have h2 : s1.Keeps s2 := (s1.keeps_bump_obs (o := 0x118) (by decide)).comp (State.keeps_orReg _ _ _)
    simpa using h1.trans (h2.comp (.ite (State.keeps_alarm _ _ _ _ _)))

theorem State.keeps_trace (s : State) (source slip point : Nat) (data : List Nat) : s.Keeps (s.trace source slip point data) := by
  unfold State.trace
  split
  · exact .refl s
  · extract_lets t need o _ s1
    split
    · exact (s.keeps_modObs (fun _ => { o with runTrace := {} })).comp (State.keeps_bump_obs _ (o := 0x120) (by decide))
    · have h1 : s.Keeps s1 := .of_eq rfl rfl rfl rfl rfl
      exact h1.comp ((s1.keeps_bump_obs (o := 0x128) (by decide)).comp (State.keeps_orReg _ _ _))

theorem State.keeps_fenceSlip (s : State) (n : Nat) : s.Keeps (s.fenceSlip n) := .ite (s.keeps_modSlip n _)

theorem State.keeps_fenceAll (s : State) : s.Keeps s.fenceAll := .foldl State.keeps_fenceSlip _ s

theorem State.keeps_safeOutputs (s : State) : s.Keeps s.safeOutputs := .foldl (fun s _ => s.keeps_emit _ _ _) _ s

theorem State.keeps_assertPins (s : State) : s.Keeps s.assertPins := by
  unfold State.assertPins
  split
  · exact .refl s
  · exact .of_eq rfl rfl rfl rfl rfl

theorem State.keeps_recoverUnit (s : State) (source cause slip : Nat) : s.Keeps (s.recoverUnit source cause slip) := by
  unfold State.recoverUnit
  split
  · extract_lets s1 s2
    have h1 : s.Keeps s1 := s.keeps_conFault _ _
    split
    · exact h1
    · exact h1.comp ((State.Keeps.modQuire Quire.sameWork_fence s1 source).comp (State.keeps_modSi _ _))
  · extract_lets s1
    refine (s.keeps_conFault _ _ : s.Keeps s1).comp ?_
    split
    · exact State.keeps_modSi _ _
    · exact .ite (State.keeps_modSi _ _)

/-- A fault record is counted once. -/
theorem State.keeps_writeFault (s : State) (f : FaultRec) : s.Keeps (s.writeFault f) 1 := by
  unfold State.writeFault
  extract_lets s1 s2 s3
  have h3 : s.Keeps s3 := ((s.keeps_modSi _).comp (.of_eq rfl rfl rfl rfl rfl : s1.Keeps s2)).comp (s2.keeps_log _ _ _ _ _)
  exact h3.comp (.bump_faults s3)

/-- A fault, whatever its reaction, counts one record; with the Safety Island dead it does nothing (R471). -/
theorem State.keeps_faultFull (s : State) (f : FaultRec) (fl : Nat) : s.Keeps (s.faultFull f fl) (if s.si.dead then 0 else 1) := by
  unfold State.faultFull
  split
  · exact .refl s
  · extract_lets r fence cp r' pins s1 s2 s3 s4 s5 s6 ms s7 s8 here s9
    have h1 : s.Keeps s1 1 := s.keeps_writeFault _
    have h2 : s1.Keeps s2 := .ite ((s1.keeps_fenceSlip _).comp (State.keeps_conFault _ _ _))
    have h3 : s2.Keeps s3 := .ite (s2.keeps_recoverUnit _ _ _)
    have h4 : s3.Keeps s4 := .ite ((State.Keeps.bump s3 1 (by unfold quietCtr qrB simB; omega) (by decide)).comp (State.keeps_modSi _ _))
    have h5 : s4.Keeps s5 := .ite s4.keeps_assertPins
    have h6 : s5.Keeps s6 := .ite s5.keeps_safeOutputs
    have h8 : s6.Keeps s8 := .ite (s6.keeps_fenceAll.comp (State.keeps_modSi _ _))
    have h9 : s8.Keeps s9 := .ite (s8.keeps_modSi _)
    simpa using h1.trans (h2.comp (h3.comp (h4.comp (h5.comp (h6.comp (h8.comp (h9.comp (s9.keeps_alarm _ _ _ _))))))))

theorem State.keeps_fault (s : State) (source cause slip : Nat) : s.Keeps (s.fault source cause slip) (if s.si.dead then 0 else 1) :=
  s.keeps_faultFull _ 0

end Sys2Proof.Machine

/-! SUPPORT. What the operations on a quire's channels do to its tokens and credits (R17), and what they leave alone. -/
namespace Sys2Proof.Machine

theorem State.modQuire_quire_self {s : State} (h : SMap.wf {} s.quires = true) (q : Nat) (f : Quire → Quire) :
    (s.modQuire q f).quire q = f (s.quire q) := SMap.get_upd_self h

theorem State.modQuire_quire_ne (s : State) {q k : Nat} (h : k ≠ q) (f : Quire → Quire) :
    (s.modQuire q f).quire k = s.quire k := SMap.get_upd_ne h

theorem State.modQuire_wf {s : State} (h : SMap.wf {} s.quires = true) (q : Nat) (f : Quire → Quire) :
    SMap.wf {} (s.modQuire q f).quires = true := SMap.wf_upd h

/-- The maps that the rules of quires and arbiters read. -/
theorem State.canonical_maps {s : State} (h : s.canonical = true) :
    SMap.wf none s.regs = true ∧ SMap.wf 0 s.ctrs = true ∧ SMap.wf {} s.quires = true ∧ SMap.wf {} s.arbs = true := by
  simp only [State.canonical, Bool.and_eq_true] at h
  simp only [h, and_self]

/-! ## Items asked of a channel -/

/-- Items that a list of channels and items asks of a channel. -/
def asked (l : List (Nat × Nat)) (c : Nat) : Nat := ((l.filter (fun p => p.1 = c)).map (fun p => p.2)).sum

theorem asked_cons (p : Nat × Nat) (l : List (Nat × Nat)) : asked (p :: l) = fun c => asked [p] c + asked l c := by
  funext c
  by_cases h : p.1 = c <;> simp [asked, h]

theorem asked_one (c n j : Nat) : asked [(c, n)] j = if j = c then n else 0 := by
  by_cases h : c = j
  · simp [asked, h]
  · simp [asked, h, Ne.symm h]

theorem asked_zero (c : Nat) : asked [(c, 0)] = fun _ => 0 := by
  funext j
  rw [asked_one, ite_self]

theorem asked_succ (c n : Nat) : asked [(c, n + 1)] = fun j => asked [(c, 1)] j + asked [(c, n)] j := by
  funext j
  simp only [asked_one]
  split <;> omega

theorem asked_ones (l : List Nat) (c : Nat) : asked (l.map (fun c => (c, 1))) c = l.count c := by
  induction l with
  | nil => rfl
  | cons a r ih =>
    simp only [List.map_cons, asked_cons, ih, asked_one, List.count_cons, beq_iff_eq, eq_comm (a := a)]
    exact Nat.add_comm _ _

theorem le_asked {l : List (Nat × Nat)} {p : Nat × Nat} (h : p ∈ l) : p.2 ≤ asked l p.1 :=
  List.single_le_sum (by simp) _ (List.mem_map_of_mem (List.mem_filter.2 ⟨h, by simp⟩))

/-! ## Tokens and credits -/

/-- y is x but for its channels and Access Engines; channel c has gained `a c` tokens for as many credits, and then lost `b c` tokens
and gained `d c` credits. -/
structure Quire.Flows (x y : Quire) (a b d : Nat → Nat) : Prop where
  frame : y = { x with chans := y.chans, ae0 := y.ae0, ae1 := y.ae1 }
  wf : SMap.wf {} y.chans = true
  tokens : ∀ c, (y.chan c).tokens = (x.chan c).tokens + a c - b c
  credits : ∀ c, (y.chan c).credits = (x.chan c).credits - a c + d c

namespace Quire

theorem chan_modChan {x : Quire} (h : SMap.wf {} x.chans = true) (c : Nat) (f : QChan → QChan) (j : Nat) :
    (x.modChan c f).chan j = if j = c then f (x.chan c) else x.chan j := by
  unfold Quire.chan Quire.modChan
  split
  · subst_vars; exact SMap.get_upd_self h
  · exact SMap.get_upd_ne ‹_›

theorem frame_trans {x y z : Quire} (h1 : y = { x with chans := y.chans, ae0 := y.ae0, ae1 := y.ae1 })
    (h2 : z = { y with chans := z.chans, ae0 := z.ae0, ae1 := z.ae1 }) : z = { x with chans := z.chans, ae0 := z.ae0, ae1 := z.ae1 } :=
  h2.trans (by rw [h1])

namespace Flows

/-- Nothing moves between quires of the same channels. -/
theorem of_chans {x y : Quire} (h : SMap.wf {} x.chans = true) (hc : y.chans = x.chans)
    (hy : y = { x with chans := y.chans, ae0 := y.ae0, ae1 := y.ae1 }) : x.Flows y (fun _ => 0) (fun _ => 0) (fun _ => 0) where
  frame := hy
  wf := hc ▸ h
  tokens c := by simp [Quire.chan, hc]
  credits c := by simp [Quire.chan, hc]

/-- Posts, and what follows. -/
theorem after_post {x y z : Quire} {a a' b d : Nat → Nat} (h1 : x.Flows y a (fun _ => 0) (fun _ => 0)) (h2 : y.Flows z a' b d) :
    x.Flows z (fun c => a c + a' c) b d where
  frame := frame_trans h1.frame h2.frame
  wf := h2.wf
  tokens c := by rw [h2.tokens, h1.tokens]; omega
  credits c := by rw [h2.credits, h1.credits]; omega

/-- Whatever moved, and consumption after it. -/
theorem consume_after {x y z : Quire} {a b b' d d' : Nat → Nat} (h1 : x.Flows y a b d) (h2 : y.Flows z (fun _ => 0) b' d') :
    x.Flows z a (fun c => b c + b' c) (fun c => d c + d' c) where
  frame := frame_trans h1.frame h2.frame
  wf := h2.wf
  tokens c := by rw [h2.tokens, h1.tokens]; omega
  credits c := by rw [h2.credits, h1.credits]; omega

/-- Posts followed by consumption. -/
theorem post_consume {x y z : Quire} {a b d : Nat → Nat} (h1 : x.Flows y a (fun _ => 0) (fun _ => 0)) (h2 : y.Flows z (fun _ => 0) b d) :
    x.Flows z a b d := by
  simpa using h1.after_post h2

theorem still_trans {x y z : Quire} {a b d : Nat → Nat} (h1 : x.Flows y (fun _ => 0) (fun _ => 0) (fun _ => 0)) (h2 : y.Flows z a b d) :
    x.Flows z a b d := by
  simpa using h1.after_post h2

/-- The Access Engines may change besides. -/
theorem of_ae {x y z : Quire} {a b d : Nat → Nat} (h : x.Flows y a b d) (hc : z.chans = y.chans)
    (hz : z = { y with ae0 := z.ae0, ae1 := z.ae1 }) : x.Flows z a b d where
  frame := frame_trans h.frame (by rw [hc]; exact hz)
  wf := hc ▸ h.wf
  tokens c := by simpa only [Quire.chan, hc] using h.tokens c
  credits c := by simpa only [Quire.chan, hc] using h.credits c

end Flows

theorem modChan_flows {x : Quire} (h : SMap.wf {} x.chans = true) (c : Nat) (f : QChan → QChan) {n m k : Nat}
    (ht : (f (x.chan c)).tokens = (x.chan c).tokens + n - m) (hc : (f (x.chan c)).credits = (x.chan c).credits - n + k) :
    x.Flows (x.modChan c f) (asked [(c, n)]) (asked [(c, m)]) (asked [(c, k)]) where
  frame := rfl
  wf := SMap.wf_upd h
  tokens j := by
    simp only [chan_modChan h, asked_one]
    split
    · subst_vars; exact ht
    · rfl
  credits j := by
    simp only [chan_modChan h, asked_one]
    split
    · subst_vars; exact hc
    · rfl

/-- Changes of channels that leave their tokens and credits. -/
theorem foldl_modChan_flows {α : Type} {k : α → Nat} {f : α → QChan → QChan} (ht : ∀ p y, (f p y).tokens = y.tokens)
    (hc : ∀ p y, (f p y).credits = y.credits) (l : List α) {x : Quire} (h : SMap.wf {} x.chans = true) :
    x.Flows (l.foldl (fun q p => q.modChan (k p) (f p)) x) (fun _ => 0) (fun _ => 0) (fun _ => 0) := by
  induction l generalizing x with
  | nil => exact .of_chans h rfl rfl
  | cons p r ih =>
    have h1 := modChan_flows h (k p) (f p) (n := 0) (m := 0) (k := 0) (ht _ _) (hc _ _)
    simp only [asked_zero] at h1
    exact h1.still_trans (ih h1.wf)

theorem post_flows {x : Quire} (h : SMap.wf {} x.chans = true) (c n : Nat) (l : List (BitVec 64)) :
    x.Flows (x.post c n l) (asked [(c, n)]) (fun _ => 0) (fun _ => 0) := by
  have h1 := modChan_flows h c (fun y => { y with credits := y.credits - n, tokens := y.tokens + n, items := if y.isRibbon then y.items ++ l else y.items,
                                                  slot := if y.isRibbon then y.slot else (y.slot + n) % max 1 y.cap }) (n := n) (m := 0) (k := 0) rfl rfl
  simp only [asked_zero] at h1
  exact h1

/-- Posts of a list of channels and items. -/
theorem foldl_post_flows (f : Nat × Nat → List (BitVec 64)) (l : List (Nat × Nat)) {x : Quire} (h : SMap.wf {} x.chans = true) :
    x.Flows (l.foldl (fun q p => q.post p.1 p.2 (f p)) x) (asked l) (fun _ => 0) (fun _ => 0) := by
  induction l generalizing x with
  | nil => exact .of_chans h rfl rfl
  | cons p r ih =>
    have h1 := post_flows h p.1 p.2 (f p)
    rw [asked_cons]
    exact h1.after_post (ih h1.wf)

/-- A credit returned; a descriptor may retire for it (R128). -/
def credit (q : Quire) (c : Nat) : Quire := q.creditN c 1

theorem creditN_succ (q : Quire) (c n : Nat) : q.creditN c (n + 1) = (q.credit c).creditN c n := rfl

theorem credit_flows {x : Quire} (h : SMap.wf {} x.chans = true) (c : Nat) :
    x.Flows (x.credit c) (fun _ => 0) (fun _ => 0) (asked [(c, 1)]) := by
  have h1 := modChan_flows h c (fun y => { y with credits := y.credits + 1 }) (n := 0) (m := 0) (k := 1) rfl rfl
  simp only [asked_zero] at h1
  have h2 : ∀ (y : Quire) (p : Prop) [Decidable p] (a b : Ae), SMap.wf {} y.chans = true →
      y.Flows (if p then { y with ae0 := a } else { y with ae1 := b }) (fun _ => 0) (fun _ => 0) (fun _ => 0) := by
    intro y p _ a b hy
    split
    · exact .of_chans hy rfl rfl
    · exact .of_chans hy rfl rfl
  exact h1.consume_after (h2 _ _ _ _ h1.wf)

/-- Credits returned leave tokens. -/
theorem creditN_flows (c n : Nat) {x : Quire} (h : SMap.wf {} x.chans = true) :
    x.Flows (x.creditN c n) (fun _ => 0) (fun _ => 0) (asked [(c, n)]) := by
  induction n generalizing x with
  | zero => rw [asked_zero]; exact .of_chans h rfl rfl
  | succ n ih =>
    have h1 := credit_flows h c
    rw [creditN_succ, asked_succ]
    exact h1.consume_after (ih h1.wf)

theorem consume_flows {x : Quire} (h : SMap.wf {} x.chans = true) (c n : Nat) :
    x.Flows (x.consume c n) (fun _ => 0) (asked [(c, n)]) (asked [(c, n)]) := by
  have h1 := modChan_flows h c (fun y => { y with tokens := y.tokens - n, items := y.items.drop n, rp := y.rp - n }) (n := 0) (m := n) (k := 0) rfl rfl
  simp only [asked_zero] at h1
  have h2 := h1.consume_after (creditN_flows c n h1.wf)
  simp only [Nat.zero_add, Nat.add_zero] at h2
  exact h2

/-- Consumption of a list of channels and items. -/
theorem foldl_consume_flows (l : List (Nat × Nat)) {x : Quire} (h : SMap.wf {} x.chans = true) :
    x.Flows (l.foldl (fun q p => q.consume p.1 p.2) x) (fun _ => 0) (asked l) (asked l) := by
  induction l generalizing x with
  | nil => exact .of_chans h rfl rfl
  | cons p r ih =>
    have h1 := consume_flows h p.1 p.2
    rw [asked_cons]
    exact h1.consume_after (ih h1.wf)

/-- Held writes go to QSP and nowhere else. -/
theorem foldl_writes (l : List (Nat × List (BitVec 8))) (x : Quire) :
    l.foldl (fun (x : Quire) w => { x with qsp := SMap.putAll 0 x.qsp w.1 w.2 }) x =
      { x with qsp := l.foldl (fun m w => SMap.putAll 0 m w.1 w.2) x.qsp } := by
  induction l generalizing x with
  | nil => rfl
  | cons w r ih => exact ih _

end Quire
end Sys2Proof.Machine

/-! SUPPORT. Operations, their segments and kernels on a quire (R17, R20, R88, R134, R142). -/
namespace Sys2Proof.Machine

/-! ## Feeds from outside the quire -/

/-- Nothing is read from outside for inputs whose ribbons hold the tokens. -/
theorem State.pullAll_of_tokens {s : State} {q : Nat} {ins : List (Nat × Nat)}
    (h : ∀ p ∈ ins, ((s.quire q).chan p.1).isRibbon = true → p.2 ≤ ((s.quire q).chan p.1).tokens) : s.pullAll q ins = s := by
  unfold State.pullAll
  induction ins with
  | nil => rfl
  | cons p r ih =>
    have hp : ¬(((s.quire q).chan p.1).isRibbon = true ∧ ((s.quire q).chan p.1).tokens < p.2) :=
      fun hc => absurd (h p (by simp) hc.1) (by omega)
    rw [List.foldl_cons, if_neg hp]
    exact ih (fun y hy => h y (by simp [hy]))

/-- What is released outside lies in the surfaces and the conditioning units. -/
theorem State.settleFeeds_frame (s : State) (q : Nat) :
    s.settleFeeds q = { s with sfms := (s.settleFeeds q).sfms, ascu := (s.settleFeeds q).ascu } := by
  unfold State.settleFeeds
  generalize (s.quire q).chans.filter _ = l
  induction l generalizing s with
  | nil => rfl
  | cons e r ih => rw [List.foldl_cons, ih]; rfl

theorem State.settleFeeds_quire (s : State) (q k : Nat) : (s.settleFeeds q).quire k = s.quire k := by
  rw [s.settleFeeds_frame q]; rfl

/-! ## An operation starts -/

/-- The output channels of an operation that lack a credit. -/
def Quire.dry (x : Quire) (outs : List (Nat × Nat)) : List Nat :=
  ((outs.filter (fun p => decide ((x.chan p.1).credits < p.2))).map (fun p => p.1)).eraseDups

theorem Quire.dry_nil (x : Quire) : x.dry [] = [] := rfl

/-- The segment of an operation (R134). -/
def Quire.segmentOf (x : Quire) (ins outs : List (Nat × Nat)) (writes : List (Nat × List (BitVec 8))) (items : List (Nat × BitVec 64)) : Segment :=
  { writes := writes, tokens := outs.flatMap (fun p => List.replicate p.2 p.1), credits := ins.flatMap (fun p => List.replicate p.2 p.1),
    outs := items, ribbons := ins.filter (fun p => (x.chan p.1).isRibbon) }

/-- The quire after an operation has started. -/
def Quire.opened (x : Quire) (e : Nat) (g : Segment) (ins : List (Nat × Nat)) : Quire :=
  let y := ins.foldl (fun x p => x.modChan p.1 (fun c => c.reads p.2)) { x with busy := x.busy ||| 2 ^ e }
  { y with segs := y.segs ++ [(e, g)] }

theorem QChan.reads_tokens (n : Nat) (c : QChan) : (c.reads n).tokens = c.tokens := by
  unfold QChan.reads; split <;> rfl

theorem QChan.reads_credits (n : Nat) (c : QChan) : (c.reads n).credits = c.credits := by
  unfold QChan.reads; split <;> rfl

/-- A started operation has moved no token and no credit. -/
theorem Quire.opened_flows {x : Quire} (h : SMap.wf {} x.chans = true) (e : Nat) (g : Segment) (ins : List (Nat × Nat)) :
    Quire.Flows { x with busy := x.busy ||| 2 ^ e, segs := x.segs ++ [(e, g)] } (x.opened e g ins) (fun _ => 0) (fun _ => 0) (fun _ => 0) := by
  have h1 : Quire.Flows { x with busy := x.busy ||| 2 ^ e } _ _ _ _ :=
    Quire.foldl_modChan_flows (k := fun p => p.1) (f := fun p c => c.reads p.2) (fun p => QChan.reads_tokens p.2) (fun p => QChan.reads_credits p.2) ins h
  refine ⟨?_, h1.wf, h1.tokens, h1.credits⟩
  unfold Quire.opened
  rw [h1.frame]

theorem State.opStart_eq {s : State} {q e : Nat} {ins outs : List (Nat × Nat)} {writes : List (Nat × List (BitVec 8))} {items : List (Nat × BitVec 64)}
    (hq : s.qState q = 1) (he : ∀ p ∈ (s.quire q).segs, p.1 ≠ e) (ht : ∀ p ∈ ins, p.2 ≤ ((s.quire q).chan p.1).tokens) :
    s.opStart q e ins outs writes items =
      if (s.quire q).dry outs = [] then
        (s.modQuire q (fun _ => (s.quire q).opened e ((s.quire q).segmentOf ins outs writes items) ins)).underrun q ((s.quire q).shorts ins)
      else ((s.quire q).dry outs).foldl (fun s c => s.bump (qrB q + 0x400 + 8 * c)) s := by
  have hr : (s.quire q).ready ins [] = true := by simpa [Quire.ready] using fun a b h => ht (a, b) h
  have hs : ¬(s.qState q ≠ 1 ∨ (s.quire q).segs.any (fun p => p.1 = e) = true) := by
    rintro (h | h)
    · exact h hq
    · obtain ⟨p, hp, hpe⟩ := List.any_eq_true.1 h
      exact he p hp (by simpa using hpe)
  unfold State.opStart
  simp only [State.pullAll_of_tokens (fun p hp _ => ht p hp), ite_self, hs, hr, if_false, Bool.not_true, Bool.false_eq_true]
  split
  · next h => rw [if_neg (by simpa [Quire.dry] using h)]; rfl
  · next h => rw [if_pos (by simpa [Quire.dry] using h)]; rfl

/-- A missing token holds the operation. -/
theorem State.opStart_waits {s : State} {q e : Nat} {ins outs : List (Nat × Nat)} {writes : List (Nat × List (BitVec 8))}
    {items : List (Nat × BitVec 64)} (h : ∀ y ∈ ins, ((s.quire q).chan y.1).isRibbon = true → y.2 ≤ ((s.quire q).chan y.1).tokens)
    {p : Nat × Nat} (hp : p ∈ ins) (ht : ((s.quire q).chan p.1).tokens < p.2) : s.opStart q e ins outs writes items = s := by
  have hr : (s.quire q).ready ins [] = false := by
    simpa [Quire.ready] using ⟨p.1, p.2, hp, ht⟩
  unfold State.opStart
  simp only [State.pullAll_of_tokens h, ite_self, hr, Bool.not_false, if_true]

/-- An operation whose inputs hold the items they promise does not underrun. -/
theorem Quire.shorts_eq_nil {x : Quire} {ins : List (Nat × Nat)}
    (h : ∀ p ∈ ins, (x.chan p.1).isRibbon = true → (x.chan p.1).rp + asked ins p.1 ≤ (x.chan p.1).items.length) : x.shorts ins = [] := by
  unfold Quire.shorts
  rw [List.map_eq_nil_iff, List.filter_eq_nil_iff]
  intro p hp hc
  rw [Bool.and_eq_true, decide_eq_true_eq] at hc
  have := h p hp hc.1
  unfold asked at this
  omega

theorem Quire.shorts_ne_nil {x : Quire} {ins : List (Nat × Nat)} {p : Nat × Nat} (hp : p ∈ ins) (hr : (x.chan p.1).isRibbon = true)
    (hl : (x.chan p.1).items.length < (x.chan p.1).rp + p.2) : x.shorts ins ≠ [] := by
  refine List.ne_nil_of_mem (List.mem_map_of_mem (List.mem_filter.2 ⟨hp, ?_⟩))
  rw [Bool.and_eq_true, decide_eq_true_eq]
  have := le_asked hp
  unfold asked at this
  exact ⟨hr, by omega⟩

/-! ## Underrun -/

/-- Marking ports changes the registers only, and none of a quire. -/
theorem State.markPorts_frame (l : List Nat) (s : State) :
    l.foldl (fun s n => s.orReg (hopB n + 0x48) 2) s = { s with regs := (l.foldl (fun s n => s.orReg (hopB n + 0x48) 2) s).regs } := by
  induction l generalizing s with
  | nil => rfl
  | cons n r ih => rw [List.foldl_cons, ih]; rfl

theorem State.orReg_reg_self {s : State} (h : SMap.wf none s.regs = true) (k : Nat) (m : Word) : (s.orReg k m).reg k = s.reg k ||| m :=
  State.reg_setReg_self k _ h

theorem State.orReg_regs_wf {s : State} (h : SMap.wf none s.regs = true) (k : Nat) (m : Word) : SMap.wf none (s.orReg k m).regs = true :=
  SMap.wf_put h

theorem State.markPorts_reg (q : Nat) (l : List Nat) {s : State} (h : SMap.wf none s.regs = true) :
    SMap.wf none (l.foldl (fun s n => s.orReg (hopB n + 0x48) 2) s).regs = true ∧
    (l.foldl (fun s n => s.orReg (hopB n + 0x48) 2) s).reg (qrB q + 0xC) = s.reg (qrB q + 0xC) := by
  induction l generalizing s with
  | nil => exact ⟨h, rfl⟩
  | cons n r ih =>
    have h1 : qrB q + 0xC ≠ hopB n + 0x48 := by unfold qrB hopB; omega
    obtain ⟨h2, h3⟩ := ih (State.orReg_regs_wf h (hopB n + 0x48) 2)
    exact ⟨h2, h3.trans (s.reg_setReg_ne _ h1)⟩

/-- RIBBON_UNDERRUN is set in QR_ERR and its fault raised (R88). -/
theorem State.underrun_spec {s : State} (h : SMap.wf none s.regs = true) (q : Nat) {l : List Nat} (hl : l ≠ []) :
    ∃ u : State, s.underrun q l = u.fault q 6 ((s.quire q).slip.getD 0xFF) ∧ u = { s with regs := u.regs } ∧
      u.reg (qrB q + 0xC) = s.reg (qrB q + 0xC) ||| 4 := by
  unfold State.underrun
  rw [if_neg (by simpa using hl)]
  extract_lets ports s1
  obtain ⟨h1, h2⟩ := State.markPorts_reg q ports h
  have hf : s1 = { s with regs := s1.regs } := State.markPorts_frame ports s
  have hq : s1.quire q = s.quire q := by rw [hf]; rfl
  refine ⟨s1.orReg (qrB q + 0xC) 4, by rw [hq], ?_, ?_⟩
  · rw [hf]; rfl
  · rw [State.orReg_reg_self h1, h2]

/-! ## Stalls -/

theorem nodup_eraseDups (l : List Nat) : l.eraseDups.Nodup := by
  induction hn : l.length using Nat.strong_induction_on generalizing l with
  | _ n ih =>
    cases l with
    | nil => simp
    | cons a r =>
      rw [List.eraseDups_cons, List.nodup_cons]
      have hlt := List.length_filter_le (fun b => !b == a) r
      rw [List.length_cons] at hn
      exact ⟨by simp [List.mem_eraseDups], ih _ (by omega) _ rfl⟩

theorem Quire.mem_dry {x : Quire} {outs : List (Nat × Nat)} {c : Nat} :
    c ∈ x.dry outs ↔ ∃ p ∈ outs, p.1 = c ∧ (x.chan c).credits < p.2 := by
  unfold Quire.dry
  rw [List.mem_eraseDups, List.mem_map]
  constructor
  · rintro ⟨p, hp, rfl⟩
    obtain ⟨h1, h2⟩ := List.mem_filter.1 hp
    exact ⟨p, h1, rfl, by simpa using h2⟩
  · rintro ⟨p, h1, rfl, h2⟩
    exact ⟨p, List.mem_filter.2 ⟨h1, by simpa using h2⟩, rfl⟩

/-- Each stalled channel counts once. -/
theorem State.stalls_spec (b : Nat) (l : List Nat) (hl : l.Nodup) {s : State} (h : SMap.wf 0 s.ctrs = true) :
    l.foldl (fun s c => s.bump (b + 8 * c)) s = { s with ctrs := (l.foldl (fun s c => s.bump (b + 8 * c)) s).ctrs } ∧
    ∀ c, (l.foldl (fun s c => s.bump (b + 8 * c)) s).ctr (b + 8 * c) = s.ctr (b + 8 * c) + (if c ∈ l then 1 else 0) := by
  induction l generalizing s with
  | nil => exact ⟨rfl, fun c => by simp⟩
  | cons a r ih =>
    obtain ⟨ha, hr⟩ := List.nodup_cons.1 hl
    obtain ⟨h1, h2⟩ := ih hr (s := s.bump (b + 8 * a)) (SMap.wf_put h)
    refine ⟨by rw [List.foldl_cons, h1]; rfl, fun c => ?_⟩
    rw [List.foldl_cons, h2]
    by_cases hc : c = a
    · subst hc
      rw [State.ctr_bump_self _ _ h, if_neg ha, if_pos (by simp)]
      simp
    · rw [State.ctr_bump_ne s 1 (by omega)]
      simp [hc]

/-! ## A segment commits -/

/-- What a segment holds moves its tokens and credits once (R134). -/
theorem Quire.commit_flows {x : Quire} (h : SMap.wf {} x.chans = true) (e : Nat) (g : Segment) : ∃ z : Quire,
    Quire.Flows { x with qsp := g.writes.foldl (fun m w => SMap.putAll 0 m w.1 w.2) x.qsp } z g.tokens.count g.credits.count g.credits.count ∧
    x.commit e g = { z with segs := z.segs.filter (fun p => decide (p.1 ≠ e)), busy := z.busy &&& (2 ^ 16 - 1 - 2 ^ e), floorErr := SMap.put 0 z.floorErr e 0 } := by
  unfold Quire.commit
  extract_lets x1 x2 x3 x4 x5
  refine ⟨x5, ?_, rfl⟩
  have h1 : x1 = { x with qsp := g.writes.foldl (fun m w => SMap.putAll 0 m w.1 w.2) x.qsp } := Quire.foldl_writes _ _
  have w1 : SMap.wf {} x1.chans = true := by rw [h1]; exact h
  have h2 := Quire.foldl_post_flows (fun _ => []) (g.tokens.map (fun c => (c, 1))) w1
  rw [List.foldl_map, show asked (g.tokens.map (fun c => (c, 1))) = g.tokens.count from funext (asked_ones _)] at h2
  have h3 := Quire.foldl_modChan_flows (k := fun p : Nat × BitVec 64 => p.1) (f := fun p x => if x.isRibbon then { x with items := x.items ++ [p.2] } else x)
    (fun _ y => by split <;> rfl) (fun _ y => by split <;> rfl) g.outs h2.wf
  have h4 := Quire.foldl_modChan_flows (k := fun p : Nat × Nat => p.1) (f := fun _ x => { x with mark := none })
    (fun _ _ => rfl) (fun _ _ => rfl) g.ribbons h3.wf
  have h5 := Quire.foldl_consume_flows (g.credits.map (fun c => (c, 1))) h4.wf
  rw [List.foldl_map, show asked (g.credits.map (fun c => (c, 1))) = g.credits.count from funext (asked_ones _)] at h5
  rw [← h1]
  exact h2.post_consume (h3.still_trans (h4.still_trans h5))

/-- SEGMENT_COMMIT of an engine with a segment. -/
theorem execSegmentCommit_eq {s : State} {q : BitVec 7} {e : BitVec 4} {k : Nat} {g : Segment}
    (h : (s.quire q.toNat).segs.find? (fun p => p.1 = e.toNat) = some (k, g)) :
    execSegmentCommit q e s = .next ((s.modQuire q.toNat (fun x => x.commit e.toNat g)).settleFeeds q.toNat) := by
  unfold execSegmentCommit
  rw [h]

theorem execSegmentCommit_none {s : State} {q : BitVec 7} {e : BitVec 4} (h : ∀ p ∈ (s.quire q.toNat).segs, p.1 ≠ e.toNat) :
    execSegmentCommit q e s = .next s := by
  unfold execSegmentCommit
  rw [List.find?_eq_none.2 (by simpa using fun a b hp => h (a, b) hp)]

/-! ## Kernels -/

/-- A kernel in its bounds: what its invocation leaves in the quire, before the feeds settle and it is counted (R142). -/
theorem execKernelInvocation_eq {s : State} {q : BitVec 7} {k n : BitVec 16} {writes : List (Nat × List (BitVec 8))} {items : List (Nat × BitVec 64)}
    {tail0 tail1 : Option (BitVec 12)} {ker : Kernel} (hk : (s.quire q.toNat).kernels[k.toNat]? = some ker) (hc : SMap.wf {} (s.quire q.toNat).chans = true)
    (hq : s.qState q.toNat = 1) (hn : n.toNat ≤ ker.itemMax) (hi : ∀ p ∈ ker.ins, p.2 ≤ ((s.quire q.toNat).chan p.1).tokens)
    (ho : ∀ p ∈ ker.outs, p.2 ≤ ((s.quire q.toNat).chan p.1).credits) : ∃ z : Quire,
    Quire.Flows { s.quire q.toNat with qsp := writes.foldl (fun m w => SMap.putAll 0 m w.1 w.2) (s.quire q.toNat).qsp } z (asked ker.outs) (asked ker.ins) (asked ker.ins) ∧
    execKernelInvocation q k n writes items tail0 tail1 s =
      .next (((s.modQuire q.toNat (fun _ => z)).settleFeeds q.toNat).bump (qrB q.toNat + 0x650)) := by
  have hr : (s.quire q.toNat).ready ker.ins ker.outs = true := by
    simpa [Quire.ready] using ⟨fun a b h => hi (a, b) h, fun a b h => ho (a, b) h⟩
  unfold execKernelInvocation
  rw [hk]
  simp only [State.pullAll_of_tokens (fun p hp _ => hi p hp), ite_self, hq, hr, Nat.not_lt.2 hn, if_false, ne_eq, not_true_eq_false, Bool.not_true,
    Bool.false_eq_true, or_self]
  refine ⟨_, ?_, rfl⟩
  rw [Quire.foldl_writes]
  have h2 := Quire.foldl_post_flows (fun p => (items.filter (fun y => y.1 = p.1)).map (fun y => y.2)) ker.outs
    (x := { s.quire q.toNat with qsp := writes.foldl (fun m w => SMap.putAll 0 m w.1 w.2) (s.quire q.toNat).qsp }) hc
  have h3 := h2.post_consume (Quire.foldl_consume_flows ker.ins h2.wf)
  refine h3.of_ae ?_ ?_
  · cases tail0 <;> cases tail1 <;> rfl
  · cases tail0 <;> cases tail1 <;> rfl

end Sys2Proof.Machine

/-! SUPPORT. Replay, its window, kernel overruns and arbiters (R22, R136, R138, R139, R143). -/
namespace Sys2Proof.Machine

theorem State.ctr_bump {s : State} (h : SMap.wf 0 s.ctrs = true) (k n j : Nat) :
    (s.bump k n).ctr j = s.ctr j + BitVec.ofNat 48 (if j = k then n else 0) := by
  split
  · subst_vars; exact State.ctr_bump_self _ _ h
  · rw [State.ctr_bump_ne s n ‹_›]; simp

theorem State.bump_wf {s : State} (h : SMap.wf 0 s.ctrs = true) (k n : Nat) : SMap.wf 0 (s.bump k n).ctrs = true := SMap.wf_put h

/-! ## Replay -/

/-- From s to t quire q has been replayed c times, d of them in its DXE (R136). -/
structure State.Replayed (s t : State) (q c d : Nat) : Prop where
  tim : t.tim = s.tim
  dram : t.dram = s.dram
  pwr : t.pwr = s.pwr
  quires_wf : SMap.wf {} t.quires = true
  ctrs_wf : SMap.wf 0 t.ctrs = true
  work : Quire.SameWork { s.quire q with winReplays := (s.quire q).winReplays + c, floorErr := (t.quire q).floorErr } (t.quire q)
  all : t.ctr (qrB q + 0x600) = s.ctr (qrB q + 0x600) + BitVec.ofNat 48 c
  dxe : t.ctr (qrB q + 0x608) = s.ctr (qrB q + 0x608) + BitVec.ofNat 48 d

theorem State.Replayed.refl {s : State} (hq : SMap.wf {} s.quires = true) (hc : SMap.wf 0 s.ctrs = true) (q : Nat) : s.Replayed s q 0 0 :=
  ⟨rfl, rfl, rfl, hq, hc, ⟨rfl⟩, by simp, by simp⟩

theorem State.Replayed.trans {s t u : State} {q c c' d d' : Nat} (h1 : s.Replayed t q c d) (h2 : t.Replayed u q c' d') :
    s.Replayed u q (c + c') (d + d') where
  tim := h2.tim.trans h1.tim
  dram := h2.dram.trans h1.dram
  pwr := h2.pwr.trans h1.pwr
  quires_wf := h2.quires_wf
  ctrs_wf := h2.ctrs_wf
  work := ⟨h2.work.eq.trans (by rw [h1.work.eq, ← Nat.add_assoc])⟩
  all := by rw [h2.all, h1.all, BitVec.ofNat_add, BitVec.add_assoc]
  dxe := by rw [h2.dxe, h1.dxe, BitVec.ofNat_add, BitVec.add_assoc]

/-- A replay is counted, its quire changed, and what surrounds both keeps the rest. -/
theorem State.Replayed.of_parts {s s1 s4 t : State} {q c d m : Nat} {f : Quire → Quire} (h1 : s1 = { s with ctrs := s1.ctrs })
    (hq : SMap.wf {} s.quires = true) (hc : SMap.wf 0 s1.ctrs = true) (ha : s1.ctr (qrB q + 0x600) = s.ctr (qrB q + 0x600) + BitVec.ofNat 48 c)
    (hd : s1.ctr (qrB q + 0x608) = s.ctr (qrB q + 0x608) + BitVec.ofNat 48 d) (k4 : s1.Keeps s4)
    (hf : ∀ x, f x = { x with winReplays := x.winReplays + c, floorErr := (f x).floorErr }) (k5 : (s4.modQuire q f).Keeps t m) :
    s.Replayed t q c d := by
  have hq1 : SMap.wf {} s1.quires = true := by rw [h1]; exact hq
  have q5 := State.modQuire_wf (k4.quires_wf hq1) q f
  have w4 : Quire.SameWork (s.quire q) (s4.quire q) := by
    have h := k4.work hq1 q
    rw [h1] at h
    exact h
  have w5 := k5.work q5 q
  rw [State.modQuire_quire_self (k4.quires_wf hq1)] at w5
  have hfl : (t.quire q).floorErr = (f (s4.quire q)).floorErr := w5.floorErr
  refine ⟨k5.tim.trans (k4.tim.trans (by rw [h1])), k5.dram.trans (k4.dram.trans (by rw [h1])), k5.pwr.trans (k4.pwr.trans (by rw [h1])),
    k5.quires_wf q5, k5.ctrs_wf (k4.ctrs_wf hc), ?_, ?_, ?_⟩
  · rw [hfl]
    refine Quire.SameWork.trans ?_ w5
    exact ⟨by rw [hf (s4.quire q), w4.eq]⟩
  · exact (k5.ctr _ (quietCtr_quire q (by decide))).trans ((k4.ctr _ (quietCtr_quire q (by decide))).trans ha)
  · exact (k5.ctr _ (quietCtr_quire q (by decide))).trans ((k4.ctr _ (quietCtr_quire q (by decide))).trans hd)

/-- The counters of one engine's replay: all replays, those of the engine, and the cycles lost. -/
def State.countReplay (s : State) (q cycles e : Nat) : State :=
  ((s.bump (qrB q + 0x600)).bump (qrB q + (if e = 1 then 0x608 else if e = 2 then 0x610 else 0x618))).bump (qrB q + 0x620) (min 64 cycles)

theorem State.countReplay_frame (s : State) (q cy e : Nat) : s.countReplay q cy e = { s with ctrs := (s.countReplay q cy e).ctrs } := by
  unfold State.countReplay State.bump
  rfl

theorem State.countReplay_wf {s : State} (hc : SMap.wf 0 s.ctrs = true) (q cy e : Nat) : SMap.wf 0 (s.countReplay q cy e).ctrs = true :=
  State.bump_wf (State.bump_wf (State.bump_wf hc _ _) _ _) _ _

theorem State.countReplay_all {s : State} (hc : SMap.wf 0 s.ctrs = true) (q cy e : Nat) :
    (s.countReplay q cy e).ctr (qrB q + 0x600) = s.ctr (qrB q + 0x600) + 1 := by
  have h : qrB q + 0x600 ≠ qrB q + (if e = 1 then 0x608 else if e = 2 then 0x610 else 0x618) := by
    split
    · omega
    · split <;> omega
  unfold State.countReplay
  rw [State.ctr_bump_ne _ _ (by omega), State.ctr_bump_ne _ _ h, State.ctr_bump_self _ _ hc]
  rfl

theorem State.countReplay_dxe {s : State} (hc : SMap.wf 0 s.ctrs = true) (q cy e : Nat) :
    (s.countReplay q cy e).ctr (qrB q + 0x608) = s.ctr (qrB q + 0x608) + BitVec.ofNat 48 (if e = 1 then 1 else 0) := by
  have h : qrB q + 0x608 = qrB q + (if e = 1 then 0x608 else if e = 2 then 0x610 else 0x618) ↔ e = 1 := by
    split
    · simpa
    · split <;> omega
  unfold State.countReplay
  rw [State.ctr_bump_ne _ _ (by omega), State.ctr_bump (State.bump_wf hc _ _), State.ctr_bump_ne _ _ (by omega), if_congr h rfl rfl]

/-- A replay of one engine is counted once, in its window and in the counters. -/
theorem State.replay1_replayed {s : State} (hq : SMap.wf {} s.quires = true) (hc : SMap.wf 0 s.ctrs = true) (q cy e : Nat) :
    s.Replayed (s.replay1 q cy e) q 1 (if e = 1 then 1 else 0) := by
  have c1 : SMap.wf 0 (s.countReplay q cy e).ctrs = true := State.countReplay_wf hc q cy e
  have parts {s4 t : State} {m : Nat} {f : Quire → Quire} := State.Replayed.of_parts (s := s) (s1 := s.countReplay q cy e) (s4 := s4) (t := t) (m := m) (f := f) (s.countReplay_frame q cy e) hq c1
    (State.countReplay_all hc q cy e) (State.countReplay_dxe hc q cy e)
  have e1 : ((s.bump (qrB q + 0x600)).bump (qrB q + (if e = 1 then 0x608 else if e = 2 then 0x610 else 0x618))).bump (qrB q + 0x620) (min 64 cy) =
    s.countReplay q cy e := rfl
  unfold State.replay1
  rw [e1]
  generalize s.countReplay q cy e = s1 at parts ⊢
  extract_lets x _ s2 s3 s4 fl s5
  have k4 : s1.Keeps s4 := by
    refine ((s1.keeps_modSi _ : s1.Keeps s2).comp ?_).comp (s3.keeps_trace _ _ _ _)
    unfold s3
    split
    · exact s2.keeps_modSlip _ _
    · exact .refl s2
  obtain ⟨m, k5⟩ : ∃ m, s5.Keeps (if fl = 3 then (s5.orReg (qrB q + 0xC) 0x10).fault q 4 (x.slip.getD 0xFF) else s5) m := by
    split
    · exact ⟨_, (s5.keeps_orReg _ _).comp (State.keeps_fault _ _ _ _)⟩
    · exact ⟨0, .refl s5⟩
  exact parts k4 (fun _ => rfl) k5

/-- Replays of a list of engines. -/
theorem State.foldl_replay1_replayed (q cy : Nat) (es : List Nat) {s : State} (hq : SMap.wf {} s.quires = true) (hc : SMap.wf 0 s.ctrs = true) :
    s.Replayed (es.foldl (fun s e => s.replay1 q cy e) s) q es.length (es.count 1) := by
  induction es generalizing s with
  | nil => exact .refl hq hc q
  | cons e r ih =>
    have h1 := State.replay1_replayed hq hc q cy e
    have h2 := h1.trans (ih h1.quires_wf h1.ctrs_wf)
    rw [List.length_cons, List.count_cons, Nat.add_comm r.length, Nat.add_comm (r.count 1)]
    simpa using h2

/-- The engines replayed by a mask. -/
def replayed (m : BitVec 8) : List Nat := [1, 2, 4].filter (fun e => m.getLsbD e)

theorem count_replayed (m : BitVec 8) : (replayed m).count 1 = (m.getLsbD 1).toNat := by
  unfold replayed
  cases h : m.getLsbD 1
  · exact List.count_eq_zero.2 (fun hm => absurd (List.mem_filter.1 hm).2 (by simpa using h))
  · rw [List.count_filter h]; rfl

/-- A step down, unless one is under way (R137). -/
def State.stepDown (s : State) (q : Nat) (stepping : Bool) : State :=
  if stepping then s else s.modQuire q (fun x => { x with curStep := s.step q - 1 })

theorem State.stepDown_frame (s : State) (q : Nat) (b : Bool) : s.stepDown q b = { s with quires := (s.stepDown q b).quires } := by
  unfold State.stepDown; split <;> rfl

theorem State.stepDown_wf {s : State} (h : SMap.wf {} s.quires = true) (q : Nat) (b : Bool) : SMap.wf {} (s.stepDown q b).quires = true := by
  unfold State.stepDown
  split
  · exact h
  · exact State.modQuire_wf h q _

theorem State.stepDown_quire {s : State} (h : SMap.wf {} s.quires = true) (q : Nat) (b : Bool) :
    (s.stepDown q b).quire q = { s.quire q with curStep := if b then (s.quire q).curStep else s.step q - 1 } := by
  unfold State.stepDown
  split
  · rfl
  · exact State.modQuire_quire_self h q _

/-- REPLAY of an ACTIVE quire: the replays of its engines, a step down, and contract faults. -/
theorem execReplay_eq {s : State} {q : BitVec 7} {m : BitVec 8} (cy : BitVec 8) (step : Bool) (ha : s.qState q.toNat = 1) (hm : (replayed m).length ≠ 0) :
    ∃ t, execReplay q m step cy s = .next t ∧
      (((replayed m).foldl (fun s e => s.replay1 q.toNat cy.toNat e) s).stepDown q.toNat step).Keeps t := by
  have hs : ¬(s.qState q.toNat ≠ 1 ∨ (replayed m).isEmpty = true) := by
    rw [List.isEmpty_iff_length_eq_zero]
    tauto
  exact ⟨_, congrArg Host.Outcome.next (if_neg hs), .ite (State.keeps_conFault _ _ _)⟩

/-- What a REPLAY leaves. -/
theorem execReplay_spec {s : State} (hq : SMap.wf {} s.quires = true) (hc : SMap.wf 0 s.ctrs = true) {q : BitVec 7} {m : BitVec 8} (cy : BitVec 8)
    (step : Bool) (ha : s.qState q.toNat = 1) (hm : (replayed m).length ≠ 0) : ∃ t : State, execReplay q m step cy s = .next t ∧
      t.ctr (qrB q.toNat + 0x600) = s.ctr (qrB q.toNat + 0x600) + BitVec.ofNat 48 (replayed m).length ∧
      t.ctr (qrB q.toNat + 0x608) = s.ctr (qrB q.toNat + 0x608) + BitVec.ofNat 48 (m.getLsbD 1).toNat ∧
      (t.quire q.toNat).winReplays = (s.quire q.toNat).winReplays + (replayed m).length ∧
      (t.quire q.toNat).curStep = (if step then (s.quire q.toNat).curStep else s.step q.toNat - 1) ∧
      (t.quire q.toNat).qsp = (s.quire q.toNat).qsp ∧ t.dram = s.dram ∧ t.tim = s.tim := by
  obtain ⟨t, ht, kt⟩ := execReplay_eq cy step ha hm
  have hr := State.foldl_replay1_replayed q.toNat cy.toNat (replayed m) hq hc
  rw [count_replayed] at hr
  generalize (replayed m).foldl (fun s e => s.replay1 q.toNat cy.toNat e) s = u at hr kt
  have hf := u.stepDown_frame q.toNat step
  have hw := kt.work (State.stepDown_wf hr.quires_wf q.toNat step) q.toNat
  have hst : u.step q.toNat = s.step q.toNat := by
    unfold State.step
    rw [hr.work.curStep, hr.pwr]
  have hctr : ∀ k, (u.stepDown q.toNat step).ctr k = u.ctr k := fun k => by rw [hf]; rfl
  rw [State.stepDown_quire hr.quires_wf, hst] at hw
  refine ⟨t, ht, ?_, ?_, hw.winReplays.trans hr.work.winReplays, ?_, hw.qsp.trans hr.work.qsp, ?_, ?_⟩
  · rw [kt.ctr _ (quietCtr_quire _ (by decide)), hctr, hr.all]
  · rw [kt.ctr _ (quietCtr_quire _ (by decide)), hctr, hr.dxe]
  · rw [hw.curStep, hr.work.curStep]
  · rw [kt.dram, hf]; exact hr.dram
  · rw [kt.tim, hf]; exact hr.tim

theorem execReplay_none {s : State} {q : BitVec 7} {m cy : BitVec 8} {step : Bool} (h : s.qState q.toNat ≠ 1 ∨ (replayed m).length = 0) :
    execReplay q m step cy s = .next s := by
  rw [← List.isEmpty_iff_length_eq_zero] at h
  unfold execReplay
  extract_lets n es
  exact congrArg _ (if_pos h)

end Sys2Proof.Machine

/-! SUPPORT. The replay window's end, steps up, kernel overruns and arbiters (R22, R138, R139, R143, R196). -/
namespace Sys2Proof.Machine

/-! ## Changes of GRIND -/

theorem State.keeps_modDelta (s : State) (g : Nat) (f : Delta → Delta) : s.Keeps (s.modDelta g f) := .of_eq rfl rfl rfl rfl rfl

theorem State.keeps_setGrind (s : State) (g l v k : Nat) : s.Keeps (s.setGrind g l v k) := by
  unfold State.setGrind
  extract_lets s1 s2
  have h1 : s.Keeps s1 := s.keeps_modDelta g _
  have h2 : s1.Keeps s2 :=
    .foldl (fun s q => .bump s 1 (by unfold quietCtr qrB; omega) (by unfold qrB simB; omega)) _ s1
  exact h1.comp (h2.comp (s2.keeps_log _ _ _ _ _))

theorem State.keeps_grindRaise (s : State) (g : Nat) : s.Keeps (s.grindRaise g) := by
  unfold State.grindRaise
  split
  · exact .refl s
  · extract_lets k c m
    split
    · exact .refl s
    · exact (s.keeps_setGrind _ _ _ _).comp (State.keeps_modDelta _ _ _)

theorem State.keeps_grindLower (s : State) (g : Nat) : s.Keeps (s.grindLower g) := by
  unfold State.grindLower
  split
  · exact .refl s
  · split
    · exact .refl s
    · exact (s.keeps_setGrind _ _ _ _).comp (State.keeps_modDelta _ _ _)

theorem State.keeps_windowGrind (s : State) (q : Nat) (excess low : Bool) : s.Keeps (s.windowGrind q excess low) := by
  unfold State.windowGrind
  extract_lets gs s1
  have h1 : s.Keeps s1 := by
    unfold s1
    split
    · exact .foldl State.keeps_grindRaise gs s
    · exact .ite (.foldl State.keeps_grindLower gs s)
  exact h1.comp (.foldl (fun s g => .ite (s.keeps_modDelta g _)) gs s1)

/-! ## The end of a replay window -/

/-- The window's count begins again at a tick. -/
def Quire.newWindow (x : Quire) (tick : Nat) (excess : Bool) : Quire := { x with winStart := tick, winReplays := 0, winOver := excess && x.adaptive }

theorem execReplayWindowEnd_early {s : State} {q : BitVec 7} (h : s.tim.tick < (s.quire q.toNat).winStart + s.winTicks q.toNat) :
    execReplayWindowEnd q s = .next s := congrArg Host.Outcome.next (if_pos h)

/-- At its end the window begins anew; beyond ALLOW an EXACT quire's fault is raised (R139). -/
theorem execReplayWindowEnd_eq {s : State} {q : BitVec 7} (h : (s.quire q.toNat).winStart + s.winTicks q.toNat ≤ s.tim.tick) :
    ∃ t n, execReplayWindowEnd q s = .next t ∧
      (s.modQuire q.toNat (fun x => x.newWindow s.tim.tick (decide (s.allow q.toNat < (s.quire q.toNat).winReplays)))).Keeps t n ∧
      ((s.quire q.toNat).adaptive = false → s.allow q.toNat < (s.quire q.toNat).winReplays → n = if s.si.dead then 0 else 1) := by
  unfold execReplayWindowEnd
  extract_lets n x excess low s1 s2
  rw [if_neg (Nat.not_lt.2 h)]
  have h2 : s1.Keeps s2 := .ite (s1.keeps_conFault _ _)
  have hd : (s2.orReg (qrB n + 0xC) 8).si.dead = s.si.dead := by
    unfold s2; split <;> rfl
  cases hx : x.adaptive with
  | true => exact ⟨_, 0, rfl, h2.comp (s2.keeps_windowGrind _ _ _), fun hn => absurd hn (by decide)⟩
  | false =>
    by_cases he : s.allow n < x.winReplays
    · have hex : excess = true := decide_eq_true he
      simp only [hex, Bool.false_eq_true, if_false, if_true]
      have hf := (s2.keeps_orReg (qrB n + 0xC) 8).comp (State.keeps_fault _ n 5 (x.slip.getD 0xFF))
      rw [hd] at hf
      exact ⟨_, _, rfl, h2.comp hf, fun _ _ => rfl⟩
    · have hex : excess = false := decide_eq_false he
      simp only [hex, Bool.false_eq_true, if_false]
      exact ⟨_, 0, rfl, h2, fun _ h => absurd h he⟩

/-! ## Steps up -/

theorem execStepUp_up {s : State} {q : BitVec 7} (h1 : s.qState q.toNat = 1) (h2 : (s.quire q.toNat).curStep < (s.quire q.toNat).target)
    (h3 : s.held q.toNat = false) :
    execStepUp q s = .next (s.modQuire q.toNat (fun x => { x with curStep := x.curStep + 1 })) :=
  congrArg Host.Outcome.next (if_pos ⟨h1, h2, by rw [h3]; rfl⟩)

theorem execStepUp_stays {s : State} {q : BitVec 7}
    (h : s.qState q.toNat ≠ 1 ∨ (s.quire q.toNat).target ≤ (s.quire q.toNat).curStep ∨ s.held q.toNat = true) : execStepUp q s = .next s := by
  refine congrArg Host.Outcome.next (if_neg ?_)
  rintro ⟨h1, h2, h3⟩
  rcases h with h | h | h
  · exact h h1
  · omega
  · rw [h] at h3; exact absurd h3 (by decide)

/-! ## Kernel overruns -/

/-- An overrun is counted and its fault raised (R143). -/
theorem execKernelOverrun_over {s : State} {q : BitVec 7} {k c : BitVec 16} {cy : BitVec 32} {ker : Kernel}
    (hk : (s.quire q.toNat).kernels[k.toNat]? = some ker) (ha : s.qState q.toNat = 1) (hl : ker.limit c.toNat < cy.toNat) :
    ∃ t n, execKernelOverrun q k c cy s = .next t ∧ (s.bump (qrB q.toNat + 0x658)).Keeps t n := by
  unfold execKernelOverrun
  simp only [hk, ha, hl, and_self, if_true]
  exact ⟨_, _, rfl, (State.keeps_orReg _ _ _).comp (State.keeps_fault _ _ _ _)⟩

theorem execKernelOverrun_within {s : State} {q : BitVec 7} {k c : BitVec 16} {cy : BitVec 32} {ker : Kernel}
    (hk : (s.quire q.toNat).kernels[k.toNat]? = some ker) (hl : cy.toNat ≤ ker.limit c.toNat) : execKernelOverrun q k c cy s = .next s := by
  unfold execKernelOverrun
  simp only [hk, Nat.not_lt.2 hl, and_false, if_false]

/-! ## Arbiters -/

/-- The highest number below n that passes a test. -/
theorem find?_range_reverse {p : Nat → Bool} {n i : Nat} (hi : i < n) (hp : p i = true) (hm : ∀ j, i < j → j < n → p j = false) :
    (List.range n).reverse.find? p = some i := by
  induction n with
  | zero => omega
  | succ n ih =>
    rw [List.range_succ, List.reverse_append, List.reverse_singleton, List.singleton_append]
    by_cases h : i = n
    · subst h; exact List.find?_cons_of_pos hp
    · rw [List.find?_cons_of_neg (by simp [hm n (by omega) (by omega)])]
      exact ih (by omega) (fun j h1 h2 => hm j h1 (by omega))

/-- An input that is granted. -/
def Arb.grant (a : Arb) (i : Nat) : Arb := { a with grants := SMap.upd 0 a.grants i (· + 1), last := some i }

theorem Arb.grant_grants (a : Arb) (i : Nat) : (a.grant i).grants = SMap.upd 0 a.grants i (· + 1) := rfl

theorem Arb.grant_grants_self (a : Arb) (i : Nat) : SMap.get 0 (a.grant i).grants i = SMap.get 0 a.grants i + 1 := by
  rw [Arb.grant_grants]
  unfold SMap.upd SMap.put
  rw [if_neg (Nat.succ_ne_zero _), SMap.get_ins_self]

theorem Arb.grant_grants_ne (a : Arb) {i j : Nat} (h : j ≠ i) : SMap.get 0 (a.grant i).grants j = SMap.get 0 a.grants j := by
  rw [Arb.grant_grants, SMap.get_upd_ne h]

theorem execArbiterGrant_some {s : State} {k : BitVec 28} {reqs : BitVec 64} {i : Nat} (hi : i < 64) (hr : reqs.getLsbD i = true)
    (hu : (s.arb k.toNat).masked i = false) (hm : ∀ j, i < j → j < 64 → reqs.getLsbD j = true → (s.arb k.toNat).masked j = true) :
    execArbiterGrant k reqs s = .next { s with arbs := SMap.put {} s.arbs k.toNat ((s.arb k.toNat).grant i) } := by
  have hp : (List.range 64).reverse.find? (fun i => reqs.getLsbD i && !(s.arb k.toNat).masked i) = some i := by
    refine find?_range_reverse hi (by rw [hr, hu]; rfl) (fun j h1 h2 => ?_)
    cases hj : reqs.getLsbD j with
    | false => rfl
    | true => rw [hm j h1 h2 hj]; rfl
  unfold execArbiterGrant
  simp only [hp]
  rfl

theorem execArbiterGrant_none {s : State} {k : BitVec 28} {reqs : BitVec 64}
    (h : ∀ i, i < 64 → reqs.getLsbD i = true → (s.arb k.toNat).masked i = true) : execArbiterGrant k reqs s = .next s := by
  have hp : (List.range 64).reverse.find? (fun i => reqs.getLsbD i && !(s.arb k.toNat).masked i) = none := by
    rw [List.find?_eq_none]
    intro i hi
    rw [List.mem_reverse, List.mem_range] at hi
    cases hj : reqs.getLsbD i with
    | false => simp
    | true => simp [h i hi hj]
  unfold execArbiterGrant
  simp only [hp]

/-- An arbiter written is read back, and no other changes. -/
theorem State.arb_put_self {s : State} (h : SMap.wf {} s.arbs = true) (k : Nat) (a : Arb) :
    State.arb { s with arbs := SMap.put {} s.arbs k a } k = a := SMap.get_put_self h

theorem State.arb_put_ne (s : State) {k j : Nat} (h : j ≠ k) (a : Arb) :
    State.arb { s with arbs := SMap.put {} s.arbs k a } j = s.arb j := SMap.get_put_ne h

end Sys2Proof.Machine

/-! PROOF. Engines, segments, replay, kernels and arbiters (O53), clause by clause. -/
namespace Sys2Proof.Machine

/-- An operation that finds its tokens and credits becomes a segment. -/
theorem channelOperationStart_opens {s : State} (hs : s.canonical = true) {q : BitVec 7} {e : BitVec 4} {ins outs : List (Nat × Nat)}
    (writes : List (Nat × List (BitVec 8))) (items : List (Nat × BitVec 64)) (hw : SMap.wf {} (s.quire q.toNat).chans = true)
    (hq : s.qState q.toNat = 1) (he : ∀ p ∈ (s.quire q.toNat).segs, p.1 ≠ e.toNat) (ht : ∀ p ∈ ins, p.2 ≤ ((s.quire q.toNat).chan p.1).tokens)
    (ho : ∀ p ∈ outs, p.2 ≤ ((s.quire q.toNat).chan p.1).credits)
    (hr : ∀ p ∈ ins, ((s.quire q.toNat).chan p.1).isRibbon = true →
      ((s.quire q.toNat).chan p.1).rp + asked ins p.1 ≤ ((s.quire q.toNat).chan p.1).items.length) :
    ∃ (t : State) (g : Segment), execChannelOperationStart q e ins outs writes items s = .next t ∧ t = { s with quires := t.quires } ∧
      (∀ k, k ≠ q.toNat → t.quire k = s.quire k) ∧ (t.quire q.toNat).segs = (s.quire q.toNat).segs ++ [(e.toNat, g)] ∧ g.writes = writes ∧ g.outs = items ∧
      (t.quire q.toNat).qsp = (s.quire q.toNat).qsp ∧ (t.quire q.toNat).busy = (s.quire q.toNat).busy ||| 2 ^ e.toNat ∧
      (∀ c, ((t.quire q.toNat).chan c).tokens = ((s.quire q.toNat).chan c).tokens) ∧
      (∀ c, ((t.quire q.toNat).chan c).credits = ((s.quire q.toNat).chan c).credits) := by
  obtain ⟨-, -, hqs, -⟩ := State.canonical_maps hs
  have hdry : (s.quire q.toNat).dry outs = [] := by
    rw [List.eq_nil_iff_forall_not_mem]
    rintro c hc
    obtain ⟨p, hp, rfl, hlt⟩ := Quire.mem_dry.1 hc
    exact absurd (ho p hp) (by omega)
  have hx := State.opStart_eq (outs := outs) (writes := writes) (items := items) hq he ht
  rw [if_pos hdry, Quire.shorts_eq_nil hr] at hx
  generalize hg : (s.quire q.toNat).segmentOf ins outs writes items = g at hx
  have hf := Quire.opened_flows hw e.toNat g ins
  have ht' := State.modQuire_quire_self hqs q.toNat (fun _ => (s.quire q.toNat).opened e.toNat g ins)
  refine ⟨_, g, congrArg Host.Outcome.next hx, rfl, fun k hk => State.modQuire_quire_ne s hk _, ?_, by rw [← hg]; rfl, by rw [← hg]; rfl, ?_, ?_, ?_, ?_⟩
  · exact (congrArg Quire.segs ht').trans (congrArg Quire.segs hf.frame :)
  · exact (congrArg Quire.qsp ht').trans (congrArg Quire.qsp hf.frame :)
  · exact (congrArg Quire.busy ht').trans (congrArg Quire.busy hf.frame :)
  · exact fun c => (congrArg (fun x => (Quire.chan x c).tokens) ht').trans (hf.tokens c)
  · exact fun c => (congrArg (fun x => (Quire.chan x c).credits) ht').trans (hf.credits c)

/-- An operation that would read past a ribbon's items underruns (R88). -/
theorem channelOperationStart_underruns {s : State} (hs : s.canonical = true) {q : BitVec 7} {e : BitVec 4} {ins : List (Nat × Nat)}
    (writes : List (Nat × List (BitVec 8))) (items : List (Nat × BitVec 64)) (hw : SMap.wf {} (s.quire q.toNat).chans = true)
    (hq : s.qState q.toNat = 1) (he : ∀ p ∈ (s.quire q.toNat).segs, p.1 ≠ e.toNat) (ht : ∀ p ∈ ins, p.2 ≤ ((s.quire q.toNat).chan p.1).tokens)
    (hr : ∃ p ∈ ins, ((s.quire q.toNat).chan p.1).isRibbon = true ∧
      ((s.quire q.toNat).chan p.1).items.length < ((s.quire q.toNat).chan p.1).rp + p.2) :
    ∃ u : State, execChannelOperationStart q e ins [] writes items s = .next (u.fault q.toNat 6 ((s.quire q.toNat).slip.getD 0xFF)) ∧
      u = { s with quires := u.quires, regs := u.regs } ∧ u.reg (qrB q.toNat + 0xC) = s.reg (qrB q.toNat + 0xC) ||| 4 := by
  obtain ⟨hregs, -, hqs, -⟩ := State.canonical_maps hs
  obtain ⟨p, hp, hrib, hlen⟩ := hr
  have hx := State.opStart_eq (outs := []) (writes := writes) (items := items) hq he ht
  generalize (s.quire q.toNat).segmentOf ins [] writes items = g at hx
  rw [if_pos (Quire.dry_nil _)] at hx
  have hf := Quire.opened_flows hw e.toNat g ins
  obtain ⟨u, hu, hfr, hreg⟩ := State.underrun_spec (s := s.modQuire q.toNat (fun _ => (s.quire q.toNat).opened e.toNat g ins)) hregs q.toNat
    (Quire.shorts_ne_nil hp hrib hlen)
  have hslip : ((s.modQuire q.toNat (fun _ => (s.quire q.toNat).opened e.toNat g ins)).quire q.toNat).slip = (s.quire q.toNat).slip := by
    rw [State.modQuire_quire_self hqs, hf.frame]
  rw [hslip] at hu
  exact ⟨u, congrArg Host.Outcome.next (hx.trans hu), by rw [hfr]; rfl, hreg⟩

/-- An operation without a credit counts a stall of each such channel (R20). -/
theorem channelOperationStart_stalls {s : State} (hs : s.canonical = true) {q : BitVec 7} {e : BitVec 4} {ins outs : List (Nat × Nat)}
    (writes : List (Nat × List (BitVec 8))) (items : List (Nat × BitVec 64))
    (hq : s.qState q.toNat = 1) (he : ∀ p ∈ (s.quire q.toNat).segs, p.1 ≠ e.toNat) (ht : ∀ p ∈ ins, p.2 ≤ ((s.quire q.toNat).chan p.1).tokens)
    (ho : ∃ p ∈ outs, ((s.quire q.toNat).chan p.1).credits < p.2) :
    ∃ t : State, execChannelOperationStart q e ins outs writes items s = .next t ∧ t = { s with ctrs := t.ctrs } ∧
      ∀ c, t.ctr (qrB q.toNat + 0x400 + 8 * c) = s.ctr (qrB q.toNat + 0x400 + 8 * c) +
        (if c ∈ (s.quire q.toNat).dry outs then 1 else 0) := by
  obtain ⟨-, hctr, -, -⟩ := State.canonical_maps hs
  obtain ⟨p, hp, hlt⟩ := ho
  have hdry : (s.quire q.toNat).dry outs ≠ [] := List.ne_nil_of_mem (Quire.mem_dry.2 ⟨p, hp, rfl, hlt⟩)
  have hx := State.opStart_eq (outs := outs) (writes := writes) (items := items) hq he ht
  rw [if_neg hdry] at hx
  obtain ⟨h1, h2⟩ := State.stalls_spec (qrB q.toNat + 0x400) ((s.quire q.toNat).dry outs) (nodup_eraseDups _) hctr
  exact ⟨_, congrArg Host.Outcome.next hx, h1, h2⟩

/-- SEGMENT_COMMIT makes a segment's effects visible and frees its engine (R134). -/
theorem segmentCommit_effects {s : State} (hs : s.canonical = true) {q : BitVec 7} {e : BitVec 4} {k : Nat} {g : Segment}
    (hw : SMap.wf {} (s.quire q.toNat).chans = true) (hg : (s.quire q.toNat).segs.find? (fun p => p.1 = e.toNat) = some (k, g)) :
    ∃ t : State, execSegmentCommit q e s = .next t ∧ (∀ p, p ∈ (t.quire q.toNat).segs ↔ p ∈ (s.quire q.toNat).segs ∧ p.1 ≠ e.toNat) ∧
      (t.quire q.toNat).qsp = g.writes.foldl (fun m w => SMap.putAll 0 m w.1 w.2) (s.quire q.toNat).qsp ∧
      (∀ c, ((t.quire q.toNat).chan c).tokens = ((s.quire q.toNat).chan c).tokens + g.tokens.count c - g.credits.count c) ∧
      (∀ c, ((t.quire q.toNat).chan c).credits = ((s.quire q.toNat).chan c).credits - g.tokens.count c + g.credits.count c) ∧
      (∀ j, j ≠ q.toNat → t.quire j = s.quire j) ∧ t.dram = s.dram ∧ t.tim = s.tim := by
  obtain ⟨-, -, hqs, -⟩ := State.canonical_maps hs
  obtain ⟨z, hz, hc⟩ := Quire.commit_flows hw e.toNat g
  have hq : ((s.modQuire q.toNat (fun x => x.commit e.toNat g)).settleFeeds q.toNat).quire q.toNat = _ :=
    (State.settleFeeds_quire _ _ _).trans ((State.modQuire_quire_self hqs _ _).trans hc)
  have hsegs : z.segs = (s.quire q.toNat).segs := (congrArg Quire.segs hz.frame :)
  refine ⟨_, execSegmentCommit_eq hg, fun p => ?_, ?_, fun c => ?_, fun c => ?_, fun j hj => ?_, ?_, ?_⟩
  · rw [hq, ← hsegs]; simp
  · rw [hq]; exact (congrArg Quire.qsp hz.frame :)
  · rw [hq]; exact hz.tokens c
  · rw [hq]; exact hz.credits c
  · rw [State.settleFeeds_quire]; exact State.modQuire_quire_ne s hj _
  · rw [State.settleFeeds_frame]; rfl
  · rw [State.settleFeeds_frame]; rfl

/-- A kernel in its bounds writes, consumes and produces as its slot says (R142). -/
theorem kernelInvocation_effects {s : State} (hs : s.canonical = true) {q : BitVec 7} {k c : BitVec 16} (writes : List (Nat × List (BitVec 8)))
    (items : List (Nat × BitVec 64)) (tail0 tail1 : Option (BitVec 12)) {ker : Kernel} (hw : SMap.wf {} (s.quire q.toNat).chans = true)
    (hk : (s.quire q.toNat).kernels[k.toNat]? = some ker) (hq : s.qState q.toNat = 1) (hn : c.toNat ≤ ker.itemMax)
    (hi : ∀ p ∈ ker.ins, p.2 ≤ ((s.quire q.toNat).chan p.1).tokens) (ho : ∀ p ∈ ker.outs, p.2 ≤ ((s.quire q.toNat).chan p.1).credits) :
    ∃ t : State, execKernelInvocation q k c writes items tail0 tail1 s = .next t ∧
      (t.quire q.toNat).qsp = writes.foldl (fun m w => SMap.putAll 0 m w.1 w.2) (s.quire q.toNat).qsp ∧
      (∀ j, ((t.quire q.toNat).chan j).tokens = ((s.quire q.toNat).chan j).tokens + asked ker.outs j - asked ker.ins j) ∧
      (∀ j, ((t.quire q.toNat).chan j).credits = ((s.quire q.toNat).chan j).credits - asked ker.outs j + asked ker.ins j) ∧
      t.ctr (qrB q.toNat + 0x650) = s.ctr (qrB q.toNat + 0x650) + 1 ∧ (∀ j, j ≠ q.toNat → t.quire j = s.quire j) ∧ t.dram = s.dram ∧ t.tim = s.tim := by
  obtain ⟨-, hctr, hqs, -⟩ := State.canonical_maps hs
  obtain ⟨z, hz, ht⟩ := execKernelInvocation_eq (writes := writes) (items := items) (tail0 := tail0) (tail1 := tail1) hk hw hq hn hi ho
  generalize hu : (s.modQuire q.toNat (fun _ => z)).settleFeeds q.toNat = u at ht
  have hframe := State.settleFeeds_frame (s.modQuire q.toNat (fun _ => z)) q.toNat
  rw [hu] at hframe
  have huq : ∀ j, u.quire j = (s.modQuire q.toNat (fun _ => z)).quire j := fun j => by rw [hframe]; rfl
  have hzq : (u.bump (qrB q.toNat + 0x650)).quire q.toNat = z := (huq _).trans (State.modQuire_quire_self hqs _ _)
  have huc : u.ctrs = s.ctrs := by rw [hframe]; rfl
  refine ⟨_, ht, ?_, fun j => ?_, fun j => ?_, ?_, fun j hj => ?_, ?_, ?_⟩
  · rw [hzq]; exact (congrArg Quire.qsp hz.frame :)
  · rw [hzq]; exact hz.tokens j
  · rw [hzq]; exact hz.credits j
  · rw [State.ctr_bump_self _ _ (huc ▸ hctr)]
    unfold State.ctr
    rw [huc]
    rfl
  · exact (huq j).trans (State.modQuire_quire_ne s hj _)
  · rw [State.bump_dram, hframe]; rfl
  · rw [State.bump_tim, hframe]; rfl

/-- REPLAY_WINDOW_END at the window's end (R139). -/
theorem replayWindowEnd_effects {s : State} (hs : s.canonical = true) {q : BitVec 7} (h : (s.quire q.toNat).winStart + s.winTicks q.toNat ≤ s.tim.tick) :
    ∃ t : State, execReplayWindowEnd q s = .next t ∧ (t.quire q.toNat).winStart = s.tim.tick ∧ (t.quire q.toNat).winReplays = 0 ∧
      (t.quire q.toNat).winOver = (decide (s.allow q.toNat < (s.quire q.toNat).winReplays) && (s.quire q.toNat).adaptive) ∧
      (t.quire q.toNat).curStep = (s.quire q.toNat).curStep ∧ t.tim = s.tim ∧
      ((s.quire q.toNat).adaptive = false → s.allow q.toNat < (s.quire q.toNat).winReplays →
        t.ctr (simB + 0x400) = s.ctr (simB + 0x400) + (if s.si.dead then 0 else 1)) := by
  obtain ⟨-, hctr, hqs, -⟩ := State.canonical_maps hs
  obtain ⟨t, n, ht, hk, hn⟩ := execReplayWindowEnd_eq h
  have hw := hk.work (State.modQuire_wf hqs _ _) q.toNat
  rw [State.modQuire_quire_self hqs] at hw
  refine ⟨t, ht, hw.winStart, hw.winReplays, hw.winOver, hw.curStep, hk.tim, fun h1 h2 => ?_⟩
  rw [hk.faults hctr, hn h1 h2]
  cases s.si.dead <;> rfl

/-- KERNEL_OVERRUN beyond the kernel's limit (R143). -/
theorem kernelOverrun_effects {s : State} (hs : s.canonical = true) {q : BitVec 7} {k c : BitVec 16} {cy : BitVec 32} {ker : Kernel}
    (hk : (s.quire q.toNat).kernels[k.toNat]? = some ker) (ha : s.qState q.toNat = 1) (hl : ker.limit c.toNat < cy.toNat) :
    ∃ t : State, execKernelOverrun q k c cy s = .next t ∧ t.ctr (qrB q.toNat + 0x658) = s.ctr (qrB q.toNat + 0x658) + 1 ∧
      (t.quire q.toNat).chans = (s.quire q.toNat).chans ∧ (t.quire q.toNat).qsp = (s.quire q.toNat).qsp ∧ t.tim = s.tim := by
  obtain ⟨-, hctr, hqs, -⟩ := State.canonical_maps hs
  obtain ⟨t, n, ht, hkeep⟩ := execKernelOverrun_over hk ha hl
  have hw := hkeep.work hqs q.toNat
  exact ⟨t, ht, (hkeep.ctr _ (quietCtr_quire _ (by decide))).trans (State.ctr_bump_self _ _ hctr), hw.chans, hw.qsp, hkeep.tim⟩

/-- Settles O53: each row's meaning by the rule of its operation, the operations of a fault keeping what the quires hold. -/
theorem enginesCommitReplayAndAreArbitrated : Obligations.EnginesCommitReplayAndAreArbitrated := by
  unfold Obligations.EnginesCommitReplayAndAreArbitrated
  refine ⟨?_, ?_, ?_, ?_, ?_, ?_, ?_, ?_, ?_, ?_, ?_⟩
  · rintro q e ins outs writes items x s hs rfl hw hq he ht
    refine ⟨fun ho hr => channelOperationStart_opens hs writes items hw hq he ht ho hr, ?_, fun ho => ?_⟩
    · rintro rfl hr
      exact channelOperationStart_underruns hs writes items hw hq he ht hr
    · obtain ⟨t, h1, h2, h3⟩ := channelOperationStart_stalls hs writes items hq he ht ho
      exact ⟨t, h1, h2, fun c _ => (h3 c).trans (by simp only [Quire.mem_dry])⟩
  · rintro q e ins outs writes items x p s rfl hr hp ht
    exact congrArg Host.Outcome.next (State.opStart_waits hr hp ht)
  · rintro q e k g x s hs rfl hw hg
    exact segmentCommit_effects hs hw hg
  · exact fun q e s h => execSegmentCommit_none h
  · rintro q m cy step n c s hs rfl rfl
    obtain ⟨-, hctr, hqs, -⟩ := State.canonical_maps hs
    exact ⟨fun ha hc => execReplay_spec hqs hctr cy step ha hc, execReplay_none⟩
  · rintro q n s hs rfl
    obtain ⟨-, -, hqs, -⟩ := State.canonical_maps hs
    exact ⟨fun h1 h2 h3 => ⟨_, execStepUp_up h1 h2 h3, rfl, State.modQuire_quire_self hqs _ _, fun k hk => State.modQuire_quire_ne s hk _⟩,
      execStepUp_stays⟩
  · rintro q n s hs rfl
    exact ⟨execReplayWindowEnd_early, replayWindowEnd_effects hs⟩
  · rintro q k c writes items tail0 tail1 ker x n s hs rfl rfl hw hk hq hn hi ho
    exact kernelInvocation_effects hs writes items tail0 tail1 hw hk hq hn hi ho
  · rintro q k c cy ker n s hs rfl hk
    exact ⟨kernelOverrun_effects hs hk, execKernelOverrun_within hk⟩
  · intro k reqs s hs
    obtain ⟨-, -, -, harb⟩ := State.canonical_maps hs
    refine ⟨fun i hi hr hu hm => ⟨_, execArbiterGrant_some hi hr hu hm, rfl, ?_⟩, execArbiterGrant_none⟩
    rw [State.arb_put_self harb]
    exact ⟨rfl, Arb.grant_grants_self _ i, fun j hj => Arb.grant_grants_ne _ hj, fun j hj => s.arb_put_ne hj _⟩
  · intro k s hs
    obtain ⟨-, -, -, harb⟩ := State.canonical_maps hs
    refine ⟨_, rfl, rfl, fun j hj => s.arb_put_ne hj _, ?_⟩
    rw [State.arb_put_self harb]
    exact ⟨rfl, rfl, rfl, fun i hi => by simp [hi]⟩

end Sys2Proof.Machine

/-! SUPPORT. The time of the state (R40): which operations leave it alone, which move no more than the run of the sources, and which set
it. One lemma for each function of the model, in the order of the model's files. -/
namespace Sys2Proof.Machine

/-! ## Operations in a loop, runs of commands and outcomes -/

/-- Every pass of a loop leaves the time alone. -/
def KeepsTim {α : Type} (f : State → α → State) : Prop := ∀ s a, (f s a).tim = s.tim

@[simp] theorem keepsTim_iff {α : Type} {f : State → α → State} : KeepsTim f ↔ ∀ s a, (f s a).tim = s.tim := ⟨id, id⟩

@[simp] theorem State.foldl_tim {α : Type} {f : State → α → State} (h : KeepsTim f) (l : List α) (s : State) :
    (l.foldl f s).tim = s.tim := by
  induction l generalizing s with
  | nil => rfl
  | cons a r ih => exact (ih _).trans (h s a)

/-- A loop keeps what every pass of it keeps of the time. -/
theorem State.foldl_time {α : Type} {P : Tim → Prop} {f : State → α → State} (h : ∀ s a, P s.tim → P (f s a).tim) (l : List α)
    {s : State} (hs : P s.tim) : P (l.foldl f s).tim := by
  induction l generalizing s with
  | nil => exact hs
  | cons a r ih => exact ih (h s a hs)

/-- Every pass of a loop that carries a result along leaves the time alone. -/
def PairKeepsTim {α β : Type} (f : State × β → α → State × β) : Prop := ∀ p a, (f p a).1.tim = p.1.tim

@[simp] theorem pairKeepsTim_iff {α β : Type} {f : State × β → α → State × β} : PairKeepsTim f ↔ ∀ p a, (f p a).1.tim = p.1.tim :=
  ⟨id, id⟩

@[simp] theorem State.foldl_pair_tim {α β : Type} {f : State × β → α → State × β} (h : PairKeepsTim f) (l : List α) (p : State × β) :
    (l.foldl f p).1.tim = p.1.tim := by
  induction l generalizing p with
  | nil => rfl
  | cons a r ih => exact (ih _).trans (h p a)

@[simp] theorem State.ite_tim (c : Prop) [Decidable c] (a b : State) : (if c then a else b).tim = if c then a.tim else b.tim :=
  apply_ite _ _ _ _

@[simp] theorem Res.ite_s (c : Prop) [Decidable c] (a b : Res) : (if c then a else b).s = if c then a.s else b.s := apply_ite _ _ _ _

@[simp] theorem Res.ok_s (s : State) (r) : (Res.ok s r).s = s := rfl

@[simp] theorem Res.err_s (s : State) (st det r) : (Res.err s st det r).s = s := rfl

@[simp] theorem Res.errKeep_s (s : State) (st det) : (Res.errKeep s st det).s = s := rfl

@[simp] theorem Res.later_s (s : State) : (Res.later s).s = s := rfl

/-- A command's run leaves the time alone. -/
def RunKeepsTim (run : State → Fetched → Res) : Prop := ∀ s f, (run s f).s.tim = s.tim

@[simp] theorem runKeepsTim_iff {run : State → Fetched → Res} : RunKeepsTim run ↔ ∀ s f, (run s f).s.tim = s.tim := ⟨id, id⟩

/-- Every next state an outcome answers satisfies P. -/
def AllNext (o : Host.Outcome State Fault Refusal) (P : State → Prop) : Prop := ∀ t, o = .next t → P t

theorem AllNext.imp {o : Host.Outcome State Fault Refusal} {P Q : State → Prop} (h : AllNext o P) (hi : ∀ t, P t → Q t) : AllNext o Q :=
  fun t e => hi t (h t e)

@[simp] theorem allNext_next {t : State} {P : State → Prop} : AllNext (.next t) P ↔ P t :=
  ⟨fun h => h t rfl, fun h _ e => Host.Outcome.next.inj e ▸ h⟩

@[simp] theorem allNext_fault {r : Fault} {P : State → Prop} : AllNext (.fault r) P := by
  simp [AllNext]

@[simp] theorem allNext_ite {c : Prop} [Decidable c] {a b : Host.Outcome State Fault Refusal} {P : State → Prop} :
    AllNext (if c then a else b) P ↔ if c then AllNext a P else AllNext b P := by
  split <;> rfl

/-! ## The registers of the law -/

/-- What the law of time relates: SYSTIME, TICK_COUNT, K, B_K and TICK_Q. -/
def Tim.clock (m : Tim) : Nat × Nat × Nat × Nat × Nat := (m.systime, m.tick, m.kTick, m.bK, m.tickQ)

theorem Tim.law_of_clock {m n : Tim} (h : n.clock = m.clock) (hm : m.law) : n.law := by
  simp only [Tim.clock, Prod.mk.injEq] at h
  obtain ⟨h1, h2, h3, h4, h5⟩ := h
  unfold Tim.law
  rw [h1, h2, h3, h4, h5]
  exact hm

@[simp] theorem Tim.ite_clock (c : Prop) [Decidable c] (a b : Tim) : (if c then a else b).clock = if c then a.clock else b.clock :=
  apply_ite _ _ _ _

@[simp] theorem State.modTim_tim (s : State) (g) : (s.modTim g).tim = g s.tim := rfl

/-! ## Ops -/

@[simp] theorem State.modTile_tim (s : State) (q g) : (s.modTile q g).tim = s.tim := rfl

@[simp] theorem State.take_tim (s : State) : s.take.2.tim = s.tim := rfl

@[simp] theorem State.alarm_tim (s : State) (cause source slip present) : (s.alarm cause source slip present).tim = s.tim :=
  (s.keeps_alarm cause source slip present).tim

@[simp] theorem State.log_tim (s : State) (source slip level code data) : (s.log source slip level code data).tim = s.tim :=
  (s.keeps_log source slip level code data).tim

@[simp] theorem State.trace_tim (s : State) (source slip point data) : (s.trace source slip point data).tim = s.tim :=
  (s.keeps_trace source slip point data).tim

@[simp] theorem State.pend_tim (s : State) (f v urgent) : (s.pend f v urgent).tim = s.tim := rfl

@[simp] theorem State.writeEntry_tim (s : State) (k rtype size buf words urgent) : (s.writeEntry k rtype size buf words urgent).tim = s.tim := rfl

@[simp] theorem State.fnEvent_tim (s : State) (f type code q info) : (s.fnEvent f type code q info).tim = s.tim := by
  unfold State.fnEvent
  split <;> simp

@[simp] theorem State.refuseWrite_tim (s : State) (f cause off q data be) : (s.refuseWrite f cause off q data be).tim = s.tim := by
  unfold State.refuseWrite
  simp only [State.ite_tim, State.fnEvent_tim, ite_self]
  rw [State.bump_tim, State.setReg_tim, State.orReg_tim, State.emit_tim, State.log_tim]

@[simp] theorem State.complete_tim (s : State) (h status detail res) : (s.complete h status detail res).tim = s.tim := by
  unfold State.complete
  split <;> simp

@[simp] theorem State.setCmdPhase_tim (s : State) (h p) : (s.setCmdPhase h p).tim = s.tim := rfl

@[simp] theorem State.endStaged_tim (s : State) (p status detail) : (s.endStaged p status detail).tim = s.tim := by
  simp [State.endStaged]

/-! ## Chan -/

@[simp] theorem State.closeEntry_tim (s : State) (k) : (s.closeEntry k).tim = s.tim := by
  simp [State.closeEntry]

@[simp] theorem State.placeRec_tim (s : State) (k rec) : (s.placeRec k rec).tim = s.tim := by
  simp [State.placeRec]

/-! ## Brew -/

@[simp] theorem State.power_tim (s : State) (ds) : (s.power ds).tim = s.tim := by rw [State.power_frame]

@[simp] theorem State.brew_tim (s : State) (ds) : (s.brew ds).tim = s.tim := by
  simp [State.brew]

@[simp] theorem State.wakeReq_tim (s : State) (ds) : (s.wakeReq ds).tim = s.tim := by
  simp [State.wakeReq]

@[simp] theorem State.unstage_tim (s : State) (f k) : (s.unstage f k).tim = s.tim := by
  unfold State.unstage
  split <;> simp

@[simp] theorem State.access_tim (s : State) (f o) : (s.access f o).tim = s.tim := by
  simp [State.access]

@[simp] theorem State.touch_tim (s : State) (f o) : (s.touch f o).tim = s.tim := by
  simp [State.touch]

/-! ## SpLink -/

@[simp] theorem State.pumpN_tim (s : State) (p fuel) : (s.pumpN p fuel).tim = s.tim := by
  induction fuel generalizing s with
  | zero => rfl
  | succ n ih =>
    simp only [State.pumpN]
    (repeat' split) <;> simp [ih]

@[simp] theorem State.pump_tim (s : State) (p) : (s.pump p).tim = s.tim := by
  simp [State.pump]

@[simp] theorem State.sendOn_tim (s : State) (p m) : (s.sendOn p m).tim = s.tim := by
  simp [State.sendOn]

@[simp] theorem State.setRoute_tim (s : State) (id e) : (s.setRoute id e).tim = s.tim := rfl

@[simp] theorem State.sendTo_tim (s : State) (m) : (s.sendTo m).tim = s.tim := by
  unfold State.sendTo
  split <;> simp

@[simp] theorem State.sendDown_tim (s : State) (b) : (s.sendDown b).tim = s.tim := by
  simp [State.sendDown]

@[simp] theorem State.scheduleMarker_tim (s : State) (tick op) : (s.scheduleMarker tick op).tim = s.tim := by
  simp [State.scheduleMarker]

/-! ## Fault -/

@[simp] theorem State.fenceSlip_tim (s : State) (n) : (s.fenceSlip n).tim = s.tim := (s.keeps_fenceSlip n).tim

@[simp] theorem State.fenceAll_tim (s : State) : s.fenceAll.tim = s.tim := s.keeps_fenceAll.tim

@[simp] theorem State.conFault_tim (s : State) (p cause) : (s.conFault p cause).tim = s.tim := rfl

@[simp] theorem State.safeOutputs_tim (s : State) : s.safeOutputs.tim = s.tim := s.keeps_safeOutputs.tim

@[simp] theorem State.assertPins_tim (s : State) : s.assertPins.tim = s.tim := s.keeps_assertPins.tim

@[simp] theorem State.releasePins_tim (s : State) : s.releasePins.tim = s.tim := by
  simp [State.releasePins]

@[simp] theorem State.recoverUnit_tim (s : State) (source cause slip) : (s.recoverUnit source cause slip).tim = s.tim :=
  (s.keeps_recoverUnit source cause slip).tim

@[simp] theorem State.writeFault_tim (s : State) (f) : (s.writeFault f).tim = s.tim := (s.keeps_writeFault f).tim

@[simp] theorem State.faultFull_tim (s : State) (f floor) : (s.faultFull f floor).tim = s.tim := (s.keeps_faultFull f floor).tim

@[simp] theorem State.fault_tim (s : State) (source cause slip info) : (s.fault source cause slip info).tim = s.tim := s.faultFull_tim _ 0

@[simp] theorem State.endCause_tim (s : State) (p) : (s.endCause p).tim = s.tim := by
  simp [State.endCause]

/-! ## Time -/

@[simp] theorem State.alignUpdate_tim (s : State) : s.alignUpdate.tim = s.tim := by
  simp [State.alignUpdate]

@[simp] theorem State.setTimeState_tim (s : State) (v) : (s.setTimeState v).tim = s.tim := by
  simp [State.setTimeState]

@[simp] theorem State.markStreams_tim (s : State) (kind data) : (s.markStreams kind data).tim = s.tim := by
  simp [State.markStreams]

@[simp] theorem State.timeMarker_tim (s : State) (op) : (s.timeMarker op).tim = s.tim := by
  unfold State.timeMarker
  (repeat' split) <;> simp

@[simp] theorem State.setQualified_tim (s : State) (src b) : (s.setQualified src b).tim = s.tim := rfl

@[simp] theorem State.selectSource_clock (s : State) : s.selectSource.tim.clock = s.tim.clock := by
  unfold State.selectSource
  split
  · split
    · rfl
    · simp only
      rw [State.timeMarker_tim]
      rfl
  · (repeat' split) <;> simp

@[simp] theorem State.slew_clock (s : State) (off) : (s.slew off).tim.clock = s.tim.clock := by
  unfold State.slew
  split
  · simp
  · rw [State.setTimeState_tim]
    rfl

@[simp] theorem State.offset_clock (s : State) (off) : (s.offset off).tim.clock = s.tim.clock := by
  unfold State.offset
  extract_lets u s1 big s2 s3
  have h2 : s2.tim.clock = s.tim.clock := rfl
  split
  · split
    · rw [State.slew_clock, State.setRfld_tim, h2]
    · rw [State.setReg_tim, h2]
  · split
    · split
      · have h3 : s3.tim = s2.tim := State.setTimeState_tim _ _
        rw [State.alarm_tim, h3, h2]
      · exact h2
    · rw [State.slew_clock, h2]

@[simp] theorem State.residual_clock (s : State) (res) : (s.residual res).tim.clock = s.tim.clock := by
  simp only [State.residual]
  rw [State.alignUpdate_tim]
  rfl

@[simp] theorem State.sync_clock (s : State) (src time off freq res) : (s.sync src time off freq res).tim.clock = s.tim.clock := by
  unfold State.sync
  split
  · rfl
  · extract_lets now s1 s2 s3
    have h1 : s1.tim.clock = s.tim.clock := rfl
    have h2 : s2.tim.clock = s.tim.clock := rfl
    split
    · exact h1
    · split
      · rw [State.setTimeState_tim, State.setRfld_tim, State.setReg_tim, h2]
      · have h3 : s3.tim.clock = s.tim.clock := (s2.offset_clock off).trans h2
        split
        · exact h3
        · rw [State.residual_clock, h3]

@[simp] theorem execSyncReceived_clock (src time off freq res) (s : State) : AllNext (execSyncReceived src time off freq res s) (fun t => t.tim.clock = s.tim.clock) := by
  simp [execSyncReceived]

@[simp] theorem execSourceQualified_clock (src) (s : State) : AllNext (execSourceQualified src s) (fun t => t.tim.clock = s.tim.clock) := by
  unfold execSourceQualified
  split <;> simp

@[simp] theorem execSourceLost_clock (src) (s : State) : AllNext (execSourceLost src s) (fun t => t.tim.clock = s.tim.clock) := by
  simp only [execSourceLost, allNext_next]
  split
  · rw [State.selectSource_clock, State.setQualified_tim]
    rfl
  · rfl

@[simp] theorem execPtmRequest_clock (s : State) : AllNext (execPtmRequest s) (fun t => t.tim.clock = s.tim.clock) := by
  simp only [execPtmRequest, allNext_next]
  split <;> rfl

@[simp] theorem execTimeOscillatorReturn_clock (s : State) : AllNext (execTimeOscillatorReturn s) (fun t => t.tim.clock = s.tim.clock) := by
  simp [execTimeOscillatorReturn, Tim.clock]

theorem State.newTickLen_law (s : State) (q) : (s.newTickLen q).tim.law := by
  simp [State.newTickLen, Tim.law]

/-! ## Cmd -/

/-- Applying an answer leaves a time that the state had or that the answer gives. -/
theorem State.finish_time {P : Tim → Prop} {s : State} {r : Res} (h) (hs : P s.tim) (hr : P r.s.tim) : P (s.finish h r).tim := by
  unfold State.finish
  split
  · simpa using hr
  · cases r.keep <;> simpa
  · simpa using hr

@[simp] theorem State.stage_tim (s : State) (h f d c) : (s.stage h f d c).tim = s.tim := rfl

@[simp] theorem State.brewFor_tim (s : State) (f c) : (s.brewFor f c).tim = s.tim := Sys2Proof.Machine.brewFor_tim s f c

/-- A command row leaves the time it finds or one its run gives. -/
theorem State.cmd_time {P : Tim → Prop} {s : State} {run : State → Fetched → Res} (h opc c) (hs : P s.tim)
    (hr : ∀ b f, P b.tim → P (run b f).s.tim) : P (s.cmd h opc c run).tim := by
  unfold State.cmd
  split
  · exact hs
  next f _ =>
    have hb : P (s.brewFor f c).tim := by simpa using hs
    simp only
    split
    · simpa using hs
    · split
      · split
        · simpa using hs
        · split
          · simpa using hs
          · simpa using hs
          · cases (run (s.brewFor f c) f).keep
            · simpa using hs
            · simpa using hr _ f hb
      · exact State.finish_time h hb (hr _ f hb)

@[simp] theorem State.cmd_tim {run : State → Fetched → Res} (hr : RunKeepsTim run) (s : State) (h opc c) :
    (s.cmd h opc c run).tim = s.tim :=
  State.cmd_time (P := (· = s.tim)) h opc c rfl (fun b f hb => (hr b f).trans hb)

/-- A staged command leaves the time it finds or one its run gives. -/
theorem State.staged1_time {P : Tim → Prop} {s : State} {run : State → Fetched → Res} (h opc) (hs : P s.tim)
    (hr : ∀ f, P (run s f).s.tim) : P (s.staged1 h opc run).tim := by
  unfold State.staged1
  split
  · exact hs
  next f _ =>
    split
    · simpa using hs
    · exact State.finish_time h hs (hr f)

/-- A command row that waits leaves the time it finds or one its run gives. -/
theorem State.cmdOpen_time {P : Tim → Prop} {s : State} {run : State → Fetched → Res} (h opc c) (hs : P s.tim)
    (hr : ∀ b f, P b.tim → P (run b f).s.tim) : P (s.cmdOpen h opc c run).tim := by
  unfold State.cmdOpen
  split
  · exact hs
  next f _ =>
    have hb : P (s.brewFor f c).tim := by simpa using hs
    simp only
    split
    · simpa using hs
    · split
      · simpa using hr _ f hb
      · exact State.finish_time h hb (hr _ f hb)

@[simp] theorem State.cmdOpen_tim {run : State → Fetched → Res} (hr : RunKeepsTim run) (s : State) (h opc c) :
    (s.cmdOpen h opc c run).tim = s.tim :=
  State.cmdOpen_time (P := (· = s.tim)) h opc c rfl (fun b f hb => (hr b f).trans hb)

/-- A run of a command with its ticks ahead leaves the time alone. -/
def RunAtKeepsTim (run : State → Fetched → Nat → Res) : Prop := ∀ s f d, (run s f d).s.tim = s.tim

@[simp] theorem runAtKeepsTim_iff {run : State → Fetched → Nat → Res} : RunAtKeepsTim run ↔ ∀ s f d, (run s f d).s.tim = s.tim :=
  ⟨id, id⟩

/-- The run of a command whose AT_TICK names the tick of its operation refuses the tick or goes on with the ticks ahead. -/
theorem runKeepsTim_of_at {run : State → Fetched → Nat → Res} (hr : RunAtKeepsTim run) {F : State → Fetched → Res}
    (h : ∀ b f, (∃ st det, F b f = .err b st det) ∨ ∃ d, F b f = run b f d) : RunKeepsTim F := by
  intro b f
  obtain ⟨st, det, hb⟩ | ⟨d, hb⟩ := h b f
  · rw [hb, Res.err_s]
  · rw [hb, hr]

@[simp] theorem State.cmdAt_tim {run : State → Fetched → Nat → Res} (hr : RunAtKeepsTim run) (s : State) (h opc c) :
    (s.cmdAt h opc c run).tim = s.tim := by
  rw [State.cmdAt]
  refine State.cmdOpen_tim (runKeepsTim_of_at hr (fun b f => ?_)) s h opc c
  split
  · exact .inl ⟨_, _, rfl⟩
  · exact .inr ⟨_, rfl⟩

@[simp] theorem State.sglWrite_tim (s : State) (h words) : (s.sglWrite h words).tim = s.tim := rfl

/-! ## Rings -/

@[simp] theorem State.unsupported_tim (s : State) (f off) : (s.unsupported f off).tim = s.tim := rfl

@[simp] theorem State.sqTail_tim (s : State) (f q v) : (s.sqTail f q v).tim = s.tim := by
  unfold State.sqTail
  (repeat' split) <;> simp

@[simp] theorem execSqTail_tim (fn q v) (s : State) : AllNext (execSqTail fn q v s) (fun t => t.tim = s.tim) := by
  simp [execSqTail]

@[simp] theorem State.hostHead_tim (s : State) (f q v) : (s.hostHead f q v).tim = s.tim := by
  unfold State.hostHead
  (repeat' split) <;> simp

@[simp] theorem execHead_tim (fn q v) (s : State) : AllNext (execHead fn q v s) (fun t => t.tim = s.tim) := by
  simp [execHead]

@[simp] theorem State.served_tim (s : State) (k) : (s.served k).tim = s.tim := rfl

@[simp] theorem State.slotFail_tim (s : State) (k) : (s.slotFail k).tim = s.tim := by
  simp [State.slotFail]

@[simp] theorem State.fetchErr_tim (s : State) (k p st det) : (s.fetchErr k p st det).tim = s.tim := rfl

@[simp] theorem State.fetch_tim (s : State) (k p) : (s.fetch k p).tim = s.tim := by
  simp only [State.fetch]
  (repeat' split) <;> simp

@[simp] theorem execPacketFetch_tim (fn q p readOk) (s : State) : AllNext (execPacketFetch fn q p readOk s) (fun t => t.tim = s.tim) := by
  simp [execPacketFetch]

@[simp] theorem execSubmissionReadRetry_tim (fn q ok) (s : State) : AllNext (execSubmissionReadRetry fn q ok s) (fun t => t.tim = s.tim) := by
  simp [execSubmissionReadRetry]

@[simp] theorem State.writeCompletion_tim (s : State) (k) : (s.writeCompletion k).tim = s.tim := by
  unfold State.writeCompletion
  split <;> simp

@[simp] theorem execCompletionWrite_tim (fn q) (s : State) : AllNext (execCompletionWrite fn q s) (fun t => t.tim = s.tim) := by
  simp [execCompletionWrite]

@[simp] theorem execPackedEntryClose_tim (s : State) : AllNext (execPackedEntryClose s) (fun t => t.tim = s.tim) := by
  simp [execPackedEntryClose]

@[simp] theorem State.dropRec_tim (s : State) (k slip) : (s.dropRec k slip).tim = s.tim := by
  simp [State.dropRec]

@[simp] theorem State.hold_tim (s : State) (slip r) : (s.hold slip r).1.tim = s.tim := by
  unfold State.hold
  split <;> simp

@[simp] theorem State.packed_tim (s : State) (k kind slip rec) : (s.packed k kind slip rec).1.tim = s.tim := by
  simp only [State.packed]
  (repeat' split) <;> simp

@[simp] theorem State.serve_tim (s : State) (r) : (s.serve r).tim = s.tim := rfl

@[simp] theorem State.egress1_tim (s : State) (r words k) : (s.egress1 r words k).tim = s.tim := by
  simp [State.egress1]

@[simp] theorem State.egressRec_tim (s : State) (r words) : (s.egressRec r words).tim = s.tim := by
  simp [State.egressRec]

@[simp] theorem State.issue_tim (s : State) (k r) : (s.issue k r).tim = s.tim := by
  simp [State.issue]

@[simp] theorem State.recordIssue_tim (s : State) (i) : (s.recordIssue i).tim = s.tim := by
  simp only [State.recordIssue]
  (repeat' split) <;> simp

@[simp] theorem execRecordIssue_tim (r) (s : State) : AllNext (execRecordIssue r s) (fun t => t.tim = s.tim) := by
  simp [execRecordIssue]

@[simp] theorem execOverflowDrain_tim (slip) (s : State) : AllNext (execOverflowDrain slip s) (fun t => t.tim = s.tim) := by
  simp only [execOverflowDrain]
  (repeat' split) <;> simp

@[simp] theorem State.sendVec_tim (s : State) (f v) : (s.sendVec f v).tim = s.tim := rfl

@[simp] theorem execMsixMessage_tim (fn v) (s : State) : AllNext (execMsixMessage fn v s) (fun t => t.tim = s.tim) := by
  simp [execMsixMessage]

@[simp] theorem State.unmask_tim (s : State) (f v) : (s.unmask f v).tim = s.tim := by
  simp [State.unmask]

@[simp] theorem execVectorUnmask_tim (fn v) (s : State) : AllNext (execVectorUnmask fn v s) (fun t => t.tim = s.tim) := by
  simp [execVectorUnmask]

@[simp] theorem State.wrFnEn_tim (s : State) (f en) : (s.wrFnEn f en).tim = s.tim := by
  simp [State.wrFnEn]

@[simp] theorem execFnCtlEn_tim (fn en) (s : State) : AllNext (execFnCtlEn fn en s) (fun t => t.tim = s.tim) := by
  simp [execFnCtlEn]

@[simp] theorem State.abortQueue_tim (s : State) (k) : (s.abortQueue k).tim = s.tim := by
  simp [State.abortQueue]

@[simp] theorem State.clearRegs_tim (s : State) (lo hi) : (s.clearRegs lo hi).tim = s.tim := rfl

@[simp] theorem State.dropAdmits_tim (s : State) (p) : (s.dropAdmits p).tim = s.tim := by
  simp [State.dropAdmits]

@[simp] theorem State.resetFn1_tim (s : State) (f flr) : (s.resetFn1 f flr).tim = s.tim := by
  simp [State.resetFn1]

@[simp] theorem State.resetVf_tim (s : State) (f flr) : (s.resetVf f flr).tim = s.tim := by
  simp [State.resetVf]

@[simp] theorem State.clearVfs_tim (s : State) (flr) : (s.clearVfs flr).tim = s.tim := by
  simp [State.clearVfs]

@[simp] theorem State.fnReset_tim (s : State) (f flr) : (s.fnReset f flr).tim = s.tim := by
  simp [State.fnReset]

@[simp] theorem execFnCtlReset_tim (fn) (s : State) : AllNext (execFnCtlReset fn s) (fun t => t.tim = s.tim) := by
  simp [execFnCtlReset]

@[simp] theorem execPcieFlr_tim (fn) (s : State) : AllNext (execPcieFlr fn s) (fun t => t.tim = s.tim) := by
  simp [execPcieFlr]

@[simp] theorem execVfEnable_tim (en num) (s : State) : AllNext (execVfEnable en num s) (fun t => t.tim = s.tim) := by
  simp [execVfEnable]

@[simp] theorem execD3hotEntry_tim (s : State) : AllNext (execD3hotEntry s) (fun t => t.tim = s.tim) := by
  simp [execD3hotEntry]

/-! ## Admin -/

@[simp] theorem execNop_tim (h) (s : State) : AllNext (execNop h s) (fun t => t.tim = s.tim) := by
  simp [execNop]

@[simp] theorem execQueueQuery_tim (h q) (s : State) : AllNext (execQueueQuery h q s) (fun t => t.tim = s.tim) := by
  simp [execQueueQuery]

@[simp] theorem State.qpCreate_tim (s : State) (f d) : (s.qpCreate f d).s.tim = s.tim := by
  simp [State.qpCreate]

@[simp] theorem execQpCreate_tim (h d) (s : State) : AllNext (execQpCreate h d s) (fun t => t.tim = s.tim) := by
  simp [execQpCreate]

@[simp] theorem State.qpDelete_tim (s : State) (h q) : (s.qpDelete h q).s.tim = s.tim := by
  simp [State.qpDelete]

@[simp] theorem execQpDelete_tim (h q) (s : State) : AllNext (execQpDelete h q s) (fun t => t.tim = s.tim) := by
  simp [execQpDelete]

@[simp] theorem execFunctionReset_tim (h func) (s : State) : AllNext (execFunctionReset h func s) (fun t => t.tim = s.tim) := by
  simp [execFunctionReset]

@[simp] theorem State.deviceResetCmd_tim (s : State) (confirm) : (s.deviceResetCmd confirm).s.tim = s.tim := by
  simp [State.deviceResetCmd]

@[simp] theorem execDeviceReset_tim (h confirm) (s : State) : AllNext (execDeviceReset h confirm s) (fun t => t.tim = s.tim) := by
  simp [execDeviceReset]

/-! ## Mem -/

@[simp] theorem State.locPut_tim (s : State) (slip qs l off b) : (s.locPut slip qs l off b).tim = s.tim := by
  unfold State.locPut
  (repeat' split) <;> simp

/-! ## Pins -/

@[simp] theorem State.gpioUpdate_tim (s : State) (f) : (s.gpioUpdate f).tim = s.tim := by
  simp [State.gpioUpdate]

@[simp] theorem State.gpioDrive_tim (s : State) (p) : (s.gpioDrive p).tim = s.tim := rfl

/-! ## DLayer -/

@[simp] theorem State.putI32_tim (s : State) (slip qs l off v) : (s.putI32 slip qs l off v).tim = s.tim := by
  simp [State.putI32]

@[simp] theorem State.putSent_tim (s : State) (slip qs l e off c v) : (s.putSent slip qs l e off c v).tim = s.tim := by
  simp [State.putSent]

@[simp] theorem State.putEntry_tim (s : State) (g d b x4 y i) : (s.putEntry g d b x4 y i).tim = s.tim := by
  simp [State.putEntry]

@[simp] theorem State.modDelta_tim (s : State) (g f) : (s.modDelta g f).tim = s.tim := rfl

/-! ## Surface -/

@[simp] theorem State.modSurf_tim (s : State) (r g) : (s.modSurf r g).tim = s.tim := by
  simp [State.modSurf]

@[simp] theorem State.surfAt_tim (s : State) (r k) : (s.surfAt r k).tim = s.tim := by
  unfold State.surfAt
  split <;> simp

@[simp] theorem State.pruneRwb_tim (s : State) (n) : (s.pruneRwb n).tim = s.tim := by
  simp [State.pruneRwb]

/-! ## Snap -/

@[simp] theorem State.tracePhase_tim (s : State) (g r phase) : (s.tracePhase g r phase).tim = s.tim := by
  simp [State.tracePhase]

@[simp] theorem State.beginRebase_tim (s : State) (g rb) : (s.beginRebase g rb).tim = s.tim := by
  unfold State.beginRebase
  split <;> simp

@[simp] theorem State.beginStart_tim (s : State) (g kind boundary) : (s.beginStart g kind boundary).tim = s.tim := by
  unfold State.beginStart
  split <;> simp

@[simp] theorem State.rebaseDue_tim (s : State) (g k) : (s.rebaseDue g k).tim = s.tim := by
  simp only [State.rebaseDue]
  (repeat' split) <;> simp

@[simp] theorem State.emitSnap_tim (s : State) (r b first) : (s.emitSnap r b first).tim = s.tim := by
  simp only [State.emitSnap]
  (repeat' split) <;> simp

@[simp] theorem State.modReadout_tim (s : State) (g f) : (s.modReadout g f).tim = s.tim := rfl

@[simp] theorem State.addDue_tim (s : State) (g kind layer tref) : (s.addDue g kind layer tref).tim = s.tim := by
  simp [State.addDue]

@[simp] theorem State.readoutDues_tim (s : State) (g t) : (s.readoutDues g t).tim = s.tim := by
  unfold State.readoutDues
  split <;> simp

@[simp] theorem State.graphConFault_tim (s : State) (g cause) : (s.graphConFault g cause).tim = s.tim := by
  simp [State.graphConFault]

@[simp] theorem State.skipInstant_tim (s : State) (g) : (s.skipInstant g).tim = s.tim := by
  simp [State.skipInstant]

@[simp] theorem State.beginInstant_tim (s : State) (g t) : (s.beginInstant g t).tim = s.tim := by
  simp only [State.beginInstant]
  (repeat' split) <;> simp

@[simp] theorem State.takeInstant_tim (s : State) (g k) : (s.takeInstant g k).tim = s.tim := by
  unfold State.takeInstant
  split <;> simp

@[simp] theorem State.armSlots_tim (s : State) (r k) : (s.armSlots r k).tim = s.tim := rfl

@[simp] theorem State.emitSample_tim (s : State) (r i b first) : (s.emitSample r i b first).tim = s.tim := by
  simp only [State.emitSample]
  (repeat' split) <;> simp

@[simp] theorem State.preWrite_tim (s : State) (r b k) : (s.preWrite r b k).tim = s.tim := by
  simp [State.preWrite]

/-! ## SurfaceCmd -/

@[simp] theorem State.sfmErr_tim (s : State) (r i) : (s.sfmErr r i).tim = s.tim := rfl

@[simp] theorem State.modGoverned_tim (s : State) (r g) : (s.modGoverned r g).tim = s.tim := by
  simp [State.modGoverned]

@[simp] theorem State.wrSurfCfg_tim (s : State) (r v) : (s.wrSurfCfg r v).tim = s.tim := by
  simp [State.wrSurfCfg]

@[simp] theorem execSfmSurfCfgEn_tim (r v) (s : State) : AllNext (execSfmSurfCfgEn r v s) (fun t => t.tim = s.tim) := by
  simp [execSfmSurfCfgEn]

@[simp] theorem State.wrUnitCfg_tim (s : State) (r off m ok v) : (s.wrUnitCfg r off m ok v).tim = s.tim := by
  simp [State.wrUnitCfg]

@[simp] theorem State.wrCrnCfg_tim (s : State) (r v) : (s.wrCrnCfg r v).tim = s.tim := by
  simp [State.wrCrnCfg]

@[simp] theorem State.wrFlowCfg_tim (s : State) (r v) : (s.wrFlowCfg r v).tim = s.tim := by
  simp [State.wrFlowCfg]

@[simp] theorem execCrnCfgEn_tim (r v) (s : State) : AllNext (execCrnCfgEn r v s) (fun t => t.tim = s.tim) := by
  simp [execCrnCfgEn]

@[simp] theorem execFlowCfgEn_tim (r v) (s : State) : AllNext (execFlowCfgEn r v s) (fun t => t.tim = s.tim) := by
  simp [execFlowCfgEn]

@[simp] theorem execRegionClear_tim (r) (s : State) : AllNext (execRegionClear r s) (fun t => t.tim = s.tim) := by
  simp [execRegionClear]

@[simp] theorem execEpochChange_tim (r) (s : State) : AllNext (execEpochChange r s) (fun t => t.tim = s.tim) := by
  simp [execEpochChange]

@[simp] theorem execGenerationSweep_tim (r) (s : State) : AllNext (execGenerationSweep r s) (fun t => t.tim = s.tim) := by
  simp [execGenerationSweep]

@[simp] theorem State.issueDer_tim (s : State) (n corner w0 w1 tick) : (s.issueDer n corner w0 w1 tick).tim = s.tim := by
  simp [State.issueDer]

@[simp] theorem execCornerTest_tim (n) (s : State) : AllNext (execCornerTest n s) (fun t => t.tim = s.tim) := by
  simp only [execCornerTest]
  (repeat' split) <;> simp

@[simp] theorem execFlowFit_tim (n) (s : State) : AllNext (execFlowFit n s) (fun t => t.tim = s.tim) := by
  simp only [execFlowFit]
  (repeat' split) <;> simp

@[simp] theorem execDerivedSpillDrain_tim (n corner) (s : State) : AllNext (execDerivedSpillDrain n corner s) (fun t => t.tim = s.tim) := by
  simp [execDerivedSpillDrain]

/-! ## Hopper -/

@[simp] theorem State.holdPin_tim (s : State) (n) : (s.holdPin n).tim = s.tim := by
  simp [State.holdPin]

@[simp] theorem State.portLoss_tim (s : State) (n cause cnt tick) : (s.portLoss n cause cnt tick).tim = s.tim := by
  simp [State.portLoss]

@[simp] theorem State.dropPacket_tim (s : State) (n cause tick) : (s.dropPacket n cause tick).tim = s.tim := by
  simp [State.dropPacket]

@[simp] theorem State.receive_tim (s : State) (n p) : (s.receive n p).tim = s.tim := by
  simp [State.receive]

@[simp] theorem execPacketReceive_tim (n p) (s : State) : AllNext (execPacketReceive n p s) (fun t => t.tim = s.tim) := by
  simp [execPacketReceive]

@[simp] theorem execShortPacket_tim (n dt vc hdr) (s : State) : AllNext (execShortPacket n dt vc hdr s) (fun t => t.tim = s.tim) := by
  simp [execShortPacket]

@[simp] theorem execLinkErr_tim (n dt vc wordCount) (s : State) : AllNext (execLinkErr n dt vc wordCount s) (fun t => t.tim = s.tim) := by
  simp [execLinkErr]

@[simp] theorem execEscErr_tim (n) (s : State) : AllNext (execEscErr n s) (fun t => t.tim = s.tim) := by
  simp [execEscErr]

@[simp] theorem execUlpsEntry_tim (n) (s : State) : AllNext (execUlpsEntry n s) (fun t => t.tim = s.tim) := by
  simp [execUlpsEntry]

@[simp] theorem State.toRing_tim (s : State) (n l) : (s.toRing n l).tim = s.tim := by
  simp [State.toRing]

@[simp] theorem State.frontEnd_tim (s : State) (n) : (s.frontEnd n).tim = s.tim := by
  unfold State.frontEnd
  split <;> simp

@[simp] theorem execFrontEndDecode_tim (n) (s : State) : AllNext (execFrontEndDecode n s) (fun t => t.tim = s.tim) := by
  simp [execFrontEndDecode]

@[simp] theorem State.rankFilter_tim (s : State) (n i) : (s.rankFilter n i).1.tim = s.tim := rfl

@[simp] theorem State.writeEntryDt_tim (s : State) (n i) : (s.writeEntryDt n i).tim = s.tim := by
  unfold State.writeEntryDt
  split <;> simp

@[simp] theorem State.fanOut_tim (s : State) (n i) : (s.fanOut n i).tim = s.tim := by
  simp [State.fanOut]

@[simp] theorem State.pipeline_tim (s : State) (n) : (s.pipeline n).tim = s.tim := by
  unfold State.pipeline
  split <;> simp

@[simp] theorem execItemPipeline_tim (n) (s : State) : AllNext (execItemPipeline n s) (fun t => t.tim = s.tim) := by
  simp [execItemPipeline]

@[simp] theorem execSpillQueueDrain_tim (n) (s : State) : AllNext (execSpillQueueDrain n s) (fun t => t.tim = s.tim) := by
  simp [execSpillQueueDrain]

@[simp] theorem execCellMapSweep_tim (n) (s : State) : AllNext (execCellMapSweep n s) (fun t => t.tim = s.tim) := by
  simp [execCellMapSweep]

@[simp] theorem State.ringPut_tim (s : State) (n w) : (s.ringPut n w).tim = s.tim := by
  unfold State.ringPut
  split <;> simp

@[simp] theorem State.ringOffer_tim (s : State) (n w tick) : (s.ringOffer n w tick).tim = s.tim := by
  simp only [State.ringOffer]
  (repeat' split) <;> simp

@[simp] theorem State.ringDrain_tim (s : State) (n fuel) : (s.ringDrain n fuel).tim = s.tim := by
  induction fuel generalizing s with
  | zero => rfl
  | succ m ih =>
    simp only [State.ringDrain]
    (repeat' split) <;> simp [ih]

@[simp] theorem State.ringGaps_tim (s : State) (n tick) : (s.ringGaps n tick).tim = s.tim := by
  refine State.foldl_tim (fun s cause => ?_) _ _
  split
  · rfl
  · simp

@[simp] theorem State.ringClose_tim (s : State) (n tick) : (s.ringClose n tick).tim = s.tim := by
  unfold State.ringClose
  split <;> simp

@[simp] theorem State.portMarks_tim (s : State) (n) : (s.portMarks n).tim = s.tim := by
  simp [State.portMarks]

@[simp] theorem State.wrHopCtl_tim (s : State) (n v) : (s.wrHopCtl n v).tim = s.tim := by
  simp [State.wrHopCtl]

@[simp] theorem execHopCtlEn_tim (n v) (s : State) : AllNext (execHopCtlEn n v s) (fun t => t.tim = s.tim) := by
  simp [execHopCtlEn]

@[simp] theorem State.wrHopDec_tim (s : State) (n v) : (s.wrHopDec n v).tim = s.tim := by
  simp [State.wrHopDec]

@[simp] theorem execHopDecCfg_tim (n v) (s : State) : AllNext (execHopDecCfg n v s) (fun t => t.tim = s.tim) := by
  simp [execHopDecCfg]

/-! ## Conditioning -/

@[simp] theorem State.modAux_tim (s : State) (c g) : (s.modAux c g).tim = s.tim := rfl

@[simp] theorem State.missed_tim (s : State) (f) : (s.missed f).tim = s.tim := by
  simp [State.missed]

@[simp] theorem State.trigger_tim (s : State) (f t) : (s.trigger f t).tim = s.tim := by
  simp [State.trigger]

@[simp] theorem execFetchTrigger_tim (f t) (s : State) : AllNext (execFetchTrigger f t s) (fun t => t.tim = s.tim) := by
  simp [execFetchTrigger]

@[simp] theorem execIbi_tim (i addr t) (s : State) : AllNext (execIbi i addr t s) (fun t => t.tim = s.tim) := by
  simp [execIbi]

@[simp] theorem State.acqFail_tim (s : State) (f) : (s.acqFail f).tim = s.tim := by
  simp [State.acqFail]

@[simp] theorem State.auxInput_tim (s : State) (c ts data) : (s.auxInput c ts data).tim = s.tim := by
  simp [State.auxInput]

@[simp] theorem execFetchComplete_tim (bus ok data) (s : State) : AllNext (execFetchComplete bus ok data s) (fun t => t.tim = s.tim) := by
  unfold execFetchComplete
  split <;> simp

@[simp] theorem execI3cStuck_tim (i) (s : State) : AllNext (execI3cStuck i s) (fun t => t.tim = s.tim) := by
  simp [execI3cStuck]

@[simp] theorem State.drainSinks_tim (s : State) (c) : (s.drainSinks c).tim = s.tim := rfl

@[simp] theorem State.toSinks_tim (s : State) (c rist w0 w1) : (s.toSinks c rist w0 w1).tim = s.tim := by
  simp [State.toSinks]

@[simp] theorem State.auxIssue_tim (s : State) (c rist tap v tNew) : (s.auxIssue c rist tap v tNew).tim = s.tim := by
  simp only [State.auxIssue]
  (repeat' split) <;> simp

@[simp] theorem State.swapsDone_tim (s : State) (c) : (s.swapsDone c).tim = s.tim := by
  simp [State.swapsDone]

@[simp] theorem State.auxTake_tim (s : State) (c t v sub gap) : (s.auxTake c t v sub gap).tim = s.tim := by
  simp only [State.auxTake]
  (repeat' split) <;> simp

@[simp] theorem State.auxAccept_tim (s : State) (c i) : (s.auxAccept c i).tim = s.tim := by
  simp [State.auxAccept]

@[simp] theorem State.auxSubst_tim (s : State) (c k m base p gap) : (s.auxSubst c k m base p gap).tim = s.tim := by
  simp [State.auxSubst]

@[simp] theorem State.auxSlot_tim (s : State) (c) : (s.auxSlot c).tim = s.tim := by
  simp only [State.auxSlot]
  (repeat' split) <;> simp

@[simp] theorem execChannelSlot_tim (c) (s : State) : AllNext (execChannelSlot c s) (fun t => t.tim = s.tim) := by
  simp [execChannelSlot]

@[simp] theorem execAuxTickEnd_tim (s : State) : AllNext (execAuxTickEnd s) (fun t => t.tim = s.tim) := by
  simp [execAuxTickEnd]

@[simp] theorem execAuxFetchSet_tim (h f e) (s : State) : AllNext (execAuxFetchSet h f e s) (fun t => t.tim = s.tim) := by
  simp [execAuxFetchSet]

@[simp] theorem execAuxChanSet_tim (h c src chain out time) (s : State) : AllNext (execAuxChanSet h c src chain out time s) (fun t => t.tim = s.tim) := by
  simp [execAuxChanSet]

@[simp] theorem State.auxEnable_tim (s : State) (h c en) : (s.auxEnable h c en).s.tim = s.tim := by
  simp [State.auxEnable]

@[simp] theorem execAuxChanEnable_tim (h c en) (s : State) : AllNext (execAuxChanEnable h c en s) (fun t => t.tim = s.tim) := by
  simp [execAuxChanEnable]

@[simp] theorem State.coefLoad_tim (s : State) (h c stage taps shift coef) : (s.coefLoad h c stage taps shift coef).s.tim = s.tim := by
  simp [State.coefLoad]

@[simp] theorem execAuxCoefLoad_tim (h c stage taps shift coef) (s : State) : AllNext (execAuxCoefLoad h c stage taps shift coef s) (fun t => t.tim = s.tim) := by
  simp [execAuxCoefLoad]

@[simp] theorem State.coefSwap_tim (s : State) (h c st at_) : (s.coefSwap h c st at_).s.tim = s.tim := by
  simp [State.coefSwap]

@[simp] theorem execAuxCoefSwap_tim (h c stages) (s : State) : AllNext (execAuxCoefSwap h c stages s) (fun t => t.tim = s.tim) := by
  simp [execAuxCoefSwap]

@[simp] theorem State.scrubAux_tim (s : State) (n) : (s.scrubAux n).tim = s.tim := by
  simp [State.scrubAux]

/-! ## Scrub -/

@[simp] theorem State.scrubPort_tim (s : State) (n) : (s.scrubPort n).tim = s.tim := rfl

@[simp] theorem State.scrubRegion_tim (s : State) (r) : (s.scrubRegion r).tim = s.tim := rfl

@[simp] theorem State.clearLimiters_tim (s : State) : s.clearLimiters.tim = s.tim := by
  simp [State.clearLimiters]

@[simp] theorem State.markContracted_tim (s : State) : s.markContracted.tim = s.tim := rfl

@[simp] theorem State.recordWake_tim (s : State) : s.recordWake.tim = s.tim := State.foldl_tim (fun s _ => s.modHop_tim _ _) _ _

@[simp] theorem State.endContract_tim (s : State) (c) : (s.endContract c).tim = s.tim := by
  simp [State.endContract]

@[simp] theorem State.withdrawParts_tim (s : State) (c kind tick) : (s.withdrawParts c kind tick).tim = s.tim := by
  simp only [State.withdrawParts]
  (repeat' split) <;> simp

@[simp] theorem State.dropContract_tim (s : State) (c) : (s.dropContract c).tim = s.tim := by
  unfold State.dropContract
  rw [State.log_tim, State.modContract_tim, State.endContract_tim, State.modContract_tim]

@[simp] theorem State.releaseContract_tim (s : State) (c) : (s.releaseContract c).tim = s.tim := by
  simp [State.releaseContract]

@[simp] theorem State.closeChans_tim (s : State) (g) : (s.closeChans g).tim = s.tim := rfl

@[simp] theorem State.endReads_tim (s : State) (g st det) : (s.endReads g st det).tim = s.tim := by
  simp [State.endReads]

@[simp] theorem State.unloadFu_tim (s : State) (g) : (s.unloadFu g).tim = s.tim := rfl

@[simp] theorem State.unloadSpk_tim (s : State) (slip qs p) : (s.unloadSpk slip qs p).tim = s.tim := by
  simp [State.unloadSpk]

@[simp] theorem State.dropGraph_tim (s : State) (g) : (s.dropGraph g).tim = s.tim := by
  simp only [State.dropGraph]
  (repeat' split) <;> simp

@[simp] theorem State.scrubStrm_tim (s : State) (n) : (s.scrubStrm n).tim = s.tim := by
  unfold State.scrubStrm
  extract_lets t s1 s2
  have h1 : s1.tim = s.tim := State.foldl_tim (fun s h => s.complete_tim _ _ _ _) _ _
  have h2 : s2.tim = s1.tim := by simp [s2]
  exact h2.trans h1

@[simp] theorem State.scrubChip_tim (s : State) (n) : (s.scrubChip n).tim = s.tim := by
  simp [State.scrubChip]

@[simp] theorem State.tdispError_tim (s : State) (f) : (s.tdispError f).tim = s.tim := by
  simp [State.tdispError]

@[simp] theorem State.scrubSlip_tim (s : State) (n st) : (s.scrubSlip n st).tim = s.tim := by
  simp [State.scrubSlip]

@[simp] theorem State.dropOvf_tim (s : State) (n) : (s.dropOvf n).tim = s.tim := by
  simp [State.dropOvf]

@[simp] theorem State.freeQuires_tim (s : State) (qs) : (s.freeQuires qs).tim = s.tim := by
  simp [State.freeQuires]

/-! ## Partition -/

@[simp] theorem State.ownGrans_tim (s : State) (ks ws) : (s.ownGrans ks ws).tim = s.tim := by
  simp [State.ownGrans]

@[simp] theorem State.giveQuires_tim (s : State) (slip qs) : (s.giveQuires slip qs).tim = s.tim := by
  simp [State.giveQuires]

@[simp] theorem State.partCreate_tim (s : State) (b) : (s.partCreate b).s.tim = s.tim := by
  simp only [State.partCreate]
  (repeat' split) <;> simp

@[simp] theorem execPartitionCreate_tim (h b) (s : State) : AllNext (execPartitionCreate h b s) (fun t => t.tim = s.tim) := by
  simp [execPartitionCreate]

@[simp] theorem State.newRules_tim (s : State) (n ws) : (s.newRules n ws).tim = s.tim := rfl

@[simp] theorem State.ruleDrain_tim (s : State) (n) : (s.ruleDrain n).tim = s.tim := by
  unfold State.ruleDrain
  split <;> simp

@[simp] theorem execRuleDrain_tim (slip) (s : State) : AllNext (execRuleDrain slip s) (fun t => t.tim = s.tim) := by
  simp [execRuleDrain]

theorem State.resizeQuires_tim {s t : State} {n want : Nat} {qs : List Nat} (h : s.resizeQuires n want = .ok (qs, t)) : t.tim = s.tim := by
  unfold State.resizeQuires at h
  simp only at h
  split at h
  · split at h
    · cases h
      simp
    · cases h
  · split at h
    · cases h
    · cases h
      simp

@[simp] theorem State.partResize_tim (s : State) (h n want hop reg) : (s.partResize h n want hop reg).s.tim = s.tim := by
  unfold State.partResize
  extract_lets p out
  iterate 6
    split
    · rfl
  split
  · rfl
  next qs t ht =>
    rw [Res.later_s, State.modSlip_tim, State.newRules_tim, State.modSlip_tim]
    refine (State.foldl_tim (fun s x => ?_) _ _).trans (State.resizeQuires_tim ht)
    split <;> simp

@[simp] theorem execPartitionResize_tim (h n hoppers regions) (s : State) : AllNext (execPartitionResize h n hoppers regions s) (fun t => t.tim = s.tim) := by
  simp [execPartitionResize]

@[simp] theorem State.parkKey_tim (s : State) (n) : (s.parkKey n).tim = s.tim := rfl

@[simp] theorem State.clearGrans_tim (s : State) (gs g) : (s.clearGrans gs g).tim = s.tim := by
  simp [State.clearGrans]

@[simp] theorem State.handover_tim (s : State) (n slot scrubUs) : (s.handover n slot scrubUs).s.tim = s.tim := by
  simp [State.handover]

@[simp] theorem execPartitionHandover_tim (h slot scrubUs) (s : State) : AllNext (execPartitionHandover h slot scrubUs s) (fun t => t.tim = s.tim) := by
  simp [execPartitionHandover]

@[simp] theorem State.destroy_tim (s : State) (n) : (s.destroy n).s.tim = s.tim := by
  simp [State.destroy]

@[simp] theorem execPartitionDestroy_tim (h) (s : State) : AllNext (execPartitionDestroy h s) (fun t => t.tim = s.tim) := by
  simp [execPartitionDestroy]

@[simp] theorem State.abortSlip_tim (s : State) (h n) : (s.abortSlip h n).tim = s.tim := by
  simp [State.abortSlip]

@[simp] theorem State.partReset_tim (s : State) (h n) : (s.partReset h n).s.tim = s.tim := by
  simp [State.partReset]

@[simp] theorem execPartitionReset_tim (h) (s : State) : AllNext (execPartitionReset h s) (fun t => t.tim = s.tim) := by
  simp [execPartitionReset]

@[simp] theorem State.vfAssign_tim (s : State) (n f a) : (s.vfAssign n f a).s.tim = s.tim := by
  unfold State.vfAssign
  (repeat' split) <;> simp

@[simp] theorem execVfAssign_tim (h func assign) (s : State) : AllNext (execVfAssign h func assign s) (fun t => t.tim = s.tim) := by
  simp [execVfAssign]

@[simp] theorem State.cancel1_tim (s : State) (n old c) : (s.cancel1 n old c).1.tim = s.tim := by
  simp only [State.cancel1]
  (repeat' split) <;> simp

@[simp] theorem State.ruleUpdate_tim (s : State) (h n flags g t cancels) : (s.ruleUpdate h n flags g t cancels).s.tim = s.tim := by
  simp only [State.ruleUpdate]
  (repeat' split) <;> simp

@[simp] theorem execRuleUpdate_tim (h flags sgl tbl cancels) (s : State) : AllNext (execRuleUpdate h flags sgl tbl cancels s) (fun t => t.tim = s.tim) := by
  simp [execRuleUpdate]

@[simp] theorem State.modeSet_tim (s : State) (n m) : (s.modeSet n m).s.tim = s.tim := by
  simp [State.modeSet]

@[simp] theorem execModeSet_tim (h mode) (s : State) : AllNext (execModeSet h mode s) (fun t => t.tim = s.tim) := by
  simp [execModeSet]

@[simp] theorem execPartitionQuery_tim (h) (s : State) : AllNext (execPartitionQuery h s) (fun t => t.tim = s.tim) := by
  simp [execPartitionQuery]

@[simp] theorem execGranuleClear_tim (s : State) : AllNext (execGranuleClear s) (fun t => t.tim = s.tim) := by
  unfold execGranuleClear
  (repeat' split) <;> simp

/-! ## Spine -/

@[simp] theorem State.setLink_tim (s : State) (p v) : (s.setLink p v).tim = s.tim := by
  simp [State.setLink]

@[simp] theorem State.spineFault_tim (s : State) (p) : (s.spineFault p).tim = s.tim := rfl

@[simp] theorem State.testLanes_tim (s : State) (p pass) : (s.testLanes p pass).tim = s.tim := by
  simp [State.testLanes]

@[simp] theorem State.poisonEnd_tim (s : State) (n cause first farTick port) : (s.poisonEnd n cause first farTick port).tim = s.tim := by
  simp only [State.poisonEnd]
  (repeat' split) <;> simp

@[simp] theorem State.retrainStart_tim (s : State) (p) : (s.retrainStart p).tim = s.tim := by
  simp [State.retrainStart]

@[simp] theorem State.linkDown_tim (s : State) (p wait transit) : (s.linkDown p wait transit).tim = s.tim := by
  simp [State.linkDown]

@[simp] theorem State.authFail_tim (s : State) (p) : (s.authFail p).tim = s.tim := by
  simp [State.authFail]

@[simp] theorem State.wrSpnEn_tim (s : State) (n en) : (s.wrSpnEn n en).tim = s.tim := by
  simp [State.wrSpnEn]

@[simp] theorem execSpnCtlEn_tim (p en) (s : State) : AllNext (execSpnCtlEn p en s) (fun t => t.tim = s.tim) := by
  simp [execSpnCtlEn]

@[simp] theorem State.wrSpnRetrain_tim (s : State) (n) : (s.wrSpnRetrain n).tim = s.tim := by
  simp [State.wrSpnRetrain]

@[simp] theorem execSpnCtlRetrain_tim (p) (s : State) : AllNext (execSpnCtlRetrain p s) (fun t => t.tim = s.tim) := by
  simp [execSpnCtlRetrain]

@[simp] theorem execSignalPresent_tim (p) (s : State) : AllNext (execSignalPresent p s) (fun t => t.tim = s.tim) := by
  simp [execSignalPresent]

@[simp] theorem execLinkRetry_tim (p signal) (s : State) : AllNext (execLinkRetry p signal s) (fun t => t.tim = s.tim) := by
  simp [execLinkRetry]

@[simp] theorem execTrainingDone_tim (p lanes rtt cable) (s : State) : AllNext (execTrainingDone p lanes rtt cable s) (fun t => t.tim = s.tim) := by
  simp [execTrainingDone]

@[simp] theorem execAuth_tim (p verified life debug peer) (s : State) : AllNext (execAuth p verified life debug peer s) (fun t => t.tim = s.tim) := by
  simp [execAuth]

@[simp] theorem execRetrain_tim (p lanes transit) (s : State) : AllNext (execRetrain p lanes transit s) (fun t => t.tim = s.tim) := by
  simp [execRetrain]

@[simp] theorem execLinkDown_tim (p transit) (s : State) : AllNext (execLinkDown p transit s) (fun t => t.tim = s.tim) := by
  simp [execLinkDown]

@[simp] theorem execRekey_tim (p) (s : State) : AllNext (execRekey p s) (fun t => t.tim = s.tim) := by
  simp [execRekey]

@[simp] theorem State.sendNak_tim (s : State) (p) : (s.sendNak p).tim = s.tim := by
  simp [State.sendNak]

@[simp] theorem execFlitReceive_tim (p kind seq ack crcOk) (s : State) : AllNext (execFlitReceive p kind seq ack crcOk s) (fun t => t.tim = s.tim) := by
  simp [execFlitReceive]

@[simp] theorem execNakReplay_tim (p ack) (s : State) : AllNext (execNakReplay p ack s) (fun t => t.tim = s.tim) := by
  simp [execNakReplay]

@[simp] theorem State.wrRoute_tim (s : State) (w v) : (s.wrRoute w v).tim = s.tim := by
  simp [State.wrRoute]

@[simp] theorem execSpnRoute_tim (w v) (s : State) : AllNext (execSpnRoute w v s) (fun t => t.tim = s.tim) := by
  simp [execSpnRoute]

@[simp] theorem State.wrTickLead_tim (s : State) (v) : (s.wrTickLead v).tim = s.tim := by
  simp [State.wrTickLead]

@[simp] theorem execTuTickLead_tim (v) (s : State) : AllNext (execTuTickLead v s) (fun t => t.tim = s.tim) := by
  simp [execTuTickLead]

/-! ## Streams -/

@[simp] theorem State.strmMsg_tim (s : State) (n seq b) : (s.strmMsg n seq b).tim = s.tim := by
  simp [State.strmMsg]

@[simp] theorem State.strmPumpN_tim (s : State) (n fuel) : (s.strmPumpN n fuel).tim = s.tim := by
  induction fuel generalizing s with
  | zero => rfl
  | succ m ih =>
    simp only [State.strmPumpN]
    (repeat' split) <;> simp [ih]

@[simp] theorem State.strmPump_tim (s : State) (n) : (s.strmPump n).tim = s.tim := by
  simp [State.strmPump]

@[simp] theorem State.strmWrite_tim (s : State) (n b) : (s.strmWrite n b).tim = s.tim := by
  simp [State.strmWrite]

@[simp] theorem State.spkDrop_tim (s : State) (slip k n) : (s.spkDrop slip k n).tim = s.tim := by
  simp [State.spkDrop]

@[simp] theorem State.strmSpike_tim (s : State) (n p w) : (s.strmSpike n p w).tim = s.tim := by
  simp only [State.strmSpike]
  (repeat' split) <;> simp

@[simp] theorem execSpikesSend_tim (n) (s : State) : AllNext (execSpikesSend n s) (fun t => t.tim = s.tim) := by
  simp only [execSpikesSend]
  (repeat' split) <;> simp

@[simp] theorem State.grantAll_tim (s : State) (n) : (s.grantAll n).tim = s.tim := by
  simp [State.grantAll]

@[simp] theorem State.strmUp_tim (s : State) (n) : (s.strmUp n).tim = s.tim := by
  simp [State.strmUp]

@[simp] theorem State.refuseRx_tim (s : State) (p m cause) : (s.refuseRx p m cause).tim = s.tim := by
  simp [State.refuseRx]

@[simp] theorem State.creditBack_tim (s : State) (n k) : (s.creditBack n k).tim = s.tim := by
  simp [State.creditBack]

@[simp] theorem State.lateItems_tim (s : State) (n origin) (l : List (BitVec 64)) : (s.lateItems n origin l).2.tim = s.tim := by
  induction l generalizing s with
  | nil => rfl
  | cons w r ih =>
    simp only [State.lateItems]
    split <;> simp [ih]

@[simp] theorem State.rxWrite_tim (s : State) (p m) : (s.rxWrite p m).tim = s.tim := by
  simp only [State.rxWrite]
  (repeat' split) <;> simp

@[simp] theorem State.takeChan_tim (s : State) (c k) : (s.takeChan c k).tim = s.tim := by
  simp [State.takeChan]

@[simp] theorem execWriteChan_tim (p m) (s : State) : AllNext (execWriteChan p m s) (fun t => t.tim = s.tim) := by
  unfold execWriteChan
  split <;> simp

@[simp] theorem execWriteDram_tim (p m) (s : State) : AllNext (execWriteDram p m s) (fun t => t.tim = s.tim) := by
  unfold execWriteDram
  split <;> simp

@[simp] theorem State.rxCredit_tim (s : State) (m) : (s.rxCredit m).tim = s.tim := by
  unfold State.rxCredit
  split <;> simp

@[simp] theorem execCredit_tim (x0 m) (s : State) : AllNext (execCredit x0 m s) (fun t => t.tim = s.tim) := by
  simp [execCredit]

@[simp] theorem State.rxWriteError_tim (s : State) (p m) : (s.rxWriteError p m).tim = s.tim := by
  unfold State.rxWriteError
  split <;> simp

@[simp] theorem execWriteError_tim (p m) (s : State) : AllNext (execWriteError p m s) (fun t => t.tim = s.tim) := by
  simp [execWriteError]

@[simp] theorem State.rxFence_tim (s : State) (m) : (s.rxFence m).tim = s.tim := by
  unfold State.rxFence
  split <;> simp

@[simp] theorem execFence_tim (x0 m) (s : State) : AllNext (execFence x0 m s) (fun t => t.tim = s.tim) := by
  simp [execFence]

@[simp] theorem State.rxFenceAck_tim (s : State) (m) : (s.rxFenceAck m).tim = s.tim := by
  simp only [State.rxFenceAck]
  (repeat' split) <;> simp

@[simp] theorem execFenceAck_tim (x0 m) (s : State) : AllNext (execFenceAck x0 m s) (fun t => t.tim = s.tim) := by
  simp [execFenceAck]

@[simp] theorem State.rxTickMark_tim (s : State) (m) : (s.rxTickMark m).tim = s.tim := by
  unfold State.rxTickMark
  split <;> simp

@[simp] theorem execTickMark_tim (x0 m) (s : State) : AllNext (execTickMark x0 m s) (fun t => t.tim = s.tim) := by
  simp [execTickMark]

@[simp] theorem execSpineChannelClose_tim (s : State) : AllNext (execSpineChannelClose s) (fun t => t.tim = s.tim) := by
  simp [execSpineChannelClose]

@[simp] theorem State.strmDrop_tim (s : State) (n) : (s.strmDrop n).tim = s.tim := rfl

@[simp] theorem State.ctlBack_tim (s : State) (m op kind lag) : (s.ctlBack m op kind lag).tim = s.tim := by
  simp [State.ctlBack]

@[simp] theorem State.rxCtl_tim (s : State) (m) : (s.rxCtl m).tim = s.tim := by
  simp only [State.rxCtl]
  (repeat' split) <;> simp

@[simp] theorem execStreamCtl_tim (x0 m) (s : State) : AllNext (execStreamCtl x0 m s) (fun t => t.tim = s.tim) := by
  simp [execStreamCtl]

@[simp] theorem State.streamOpen_tim (s : State) (h n peer kind lag group rate farOpen) : (s.streamOpen h n peer kind lag group rate farOpen).s.tim = s.tim := by
  simp only [State.streamOpen]
  split <;> simp

@[simp] theorem execStreamOpen_tim (h n peer kind lag group rate farOpen) (s : State) : AllNext (execStreamOpen h n peer kind lag group rate farOpen s) (fun t => t.tim = s.tim) := by
  simp [execStreamOpen]

@[simp] theorem State.streamClose_tim (s : State) (h n) : (s.streamClose h n).s.tim = s.tim := by
  simp [State.streamClose]

@[simp] theorem execStreamClose_tim (h n) (s : State) : AllNext (execStreamClose h n s) (fun t => t.tim = s.tim) := by
  simp [execStreamClose]

@[simp] theorem State.writeFence_tim (s : State) (h peer n) : (s.writeFence h peer n).s.tim = s.tim := by
  simp [State.writeFence]

@[simp] theorem execWriteFence_tim (h peer n) (s : State) : AllNext (execWriteFence h peer n s) (fun t => t.tim = s.tim) := by
  simp [execWriteFence]

/-! ## Binding -/

@[simp] theorem State.portsAt_tim (s : State) (k) : (s.portsAt k).tim = s.tim := rfl

theorem State.takeTime_law (s : State) (sys tick tickQ) : (s.takeTime sys tick tickQ).tim.law := by
  unfold State.takeTime
  extract_lets s1 s2
  rw [State.setTimeState_tim, State.setRfld_tim, State.setQualified_tim, State.setRfld_tim]
  simp [s2, Tim.law]

@[simp] theorem State.bindingJoin_tim (s : State) (h dev parent) : (s.bindingJoin h dev parent).s.tim = s.tim := by
  simp [State.bindingJoin]

@[simp] theorem execBindingJoin_tim (h dev parent) (s : State) : AllNext (execBindingJoin h dev parent s) (fun t => t.tim = s.tim) := by
  simp [execBindingJoin]

@[simp] theorem State.rootJoin_tim (s : State) (p id path) : (s.rootJoin p id path).tim = s.tim := by
  simp [State.rootJoin]

theorem State.joined_law {s : State} (h p dev root sys tick tickQ jumpNs leadNs lDev depth) (hs : s.tim.law) :
    (s.joined h p dev root sys tick tickQ jumpNs leadNs lDev depth).tim.law := by
  unfold State.joined
  extract_lets l s1 s2
  split
  · rwa [State.complete_tim, State.modBind_tim]
  · rw [State.complete_tim]
    exact State.takeTime_law _ _ _ _

theorem State.rxJoin_law {s : State} (p m) (hs : s.tim.law) : (s.rxJoin p m).tim.law := by
  unfold State.rxJoin
  split
  · (repeat' split) <;> simpa
  · split
    · split
      · exact State.joined_law _ _ _ _ _ _ _ _ _ _ _ hs
      · exact hs
    · split <;> simpa
  · (repeat' split) <;> simpa
  · exact hs

theorem execJoin_law {s : State} (p m) (hs : s.tim.law) : AllNext (execJoin p m s) (fun t => t.tim.law) :=
  allNext_next.mpr (State.rxJoin_law _ m hs)

@[simp] theorem execTimeSync_clock (p time off freq res) (s : State) : AllNext (execTimeSync p time off freq res s) (fun t => t.tim.clock = s.tim.clock) := by
  simp [execTimeSync]

@[simp] theorem State.rxMarker_tim (s : State) (p m) : (s.rxMarker p m).tim = s.tim := by
  unfold State.rxMarker
  split <;> simp

@[simp] theorem execTimeMarker_tim (p m) (s : State) : AllNext (execTimeMarker p m s) (fun t => t.tim = s.tim) := by
  simp [execTimeMarker]

@[simp] theorem State.arrive_tim (s : State) (id) : (s.arrive id).tim = s.tim := by
  unfold State.arrive
  split <;> simp

@[simp] theorem execBarrier_tim (h id) (s : State) : AllNext (execBarrier h id s) (fun t => t.tim = s.tim) := by
  simp [execBarrier]

@[simp] theorem execBarrierRelease_tim (s : State) : AllNext (execBarrierRelease s) (fun t => t.tim = s.tim) := by
  simp [execBarrierRelease]

@[simp] theorem State.barrierFail_tim (s : State) (id) : (s.barrierFail id).tim = s.tim := by
  unfold State.barrierFail
  (repeat' split) <;> simp

@[simp] theorem execReleaseFail_tim (s : State) : AllNext (execReleaseFail s) (fun t => t.tim = s.tim) := by
  simp [execReleaseFail]

@[simp] theorem State.barriersAt_tim (s : State) : s.barriersAt.tim = s.tim := by
  unfold State.barriersAt
  extract_lets due s1
  refine (State.foldl_tim (fun s x => ?_) due s1).trans (s.modBind_tim _)
  split <;> simp

@[simp] theorem State.castDown_tim (s : State) (origin tick l) : (s.castDown origin tick l).tim = s.tim := by
  simp [State.castDown]

@[simp] theorem State.castPlace_tim (s : State) (origin tick l) : (s.castPlace origin tick l).tim = s.tim := by
  simp [State.castPlace]

@[simp] theorem State.castsAt_tim (s : State) : s.castsAt.tim = s.tim := by
  simp [State.castsAt]

@[simp] theorem execBroadcast_tim (h sgl payload) (s : State) : AllNext (execBroadcast h sgl payload s) (fun t => t.tim = s.tim) := by
  unfold execBroadcast
  (repeat' split) <;> simp

@[simp] theorem State.snapBind_tim (s : State) (id tick ref) : (s.snapBind id tick ref).tim = s.tim := by
  simp only [State.snapBind]
  (repeat' split) <;> simp

@[simp] theorem State.rootSnap_tim (s : State) (origin tick ref) : (s.rootSnap origin tick ref).tim = s.tim := by
  simp [State.rootSnap]

@[simp] theorem execCuppingSchedule_tim (h flags) (s : State) : AllNext (execCuppingSchedule h flags s) (fun t => t.tim = s.tim) := by
  simp [execCuppingSchedule]

@[simp] theorem execBindingReset_tim (h) (s : State) : AllNext (execBindingReset h s) (fun t => t.tim = s.tim) := by
  simp [execBindingReset]

@[simp] theorem State.bindResetAt_tim (s : State) : s.bindResetAt.tim = s.tim := by
  unfold State.bindResetAt
  (repeat' split) <;> simp

@[simp] theorem State.rxGlobal_tim (s : State) (p m) : (s.rxGlobal p m).tim = s.tim := by
  simp only [State.rxGlobal]
  (repeat' split) <;> simp

@[simp] theorem execGlobalOp_tim (p m) (s : State) : AllNext (execGlobalOp p m s) (fun t => t.tim = s.tim) := by
  simp [execGlobalOp]

theorem State.markersAt_law {s : State} (hs : s.tim.law) : s.markersAt.tim.law := by
  unfold State.markersAt
  extract_lets due s1 pick
  refine State.foldl_time (fun b x hb => ?_) _ hs
  split
  · simpa
  · simpa
  · split
    · exact hb
    · exact State.newTickLen_law _ _
  · exact hb

@[simp] theorem State.rxSummary_tim (s : State) (p ents) : (s.rxSummary p ents).tim = s.tim := by
  simp [State.rxSummary]

@[simp] theorem execAlarmSummary_tim (p ents) (s : State) : AllNext (execAlarmSummary p ents s) (fun t => t.tim = s.tim) := by
  simp only [execAlarmSummary]
  (repeat' split) <;> simp

/-! ## Quire -/

@[simp] theorem State.mapFeeds_tim (s : State) (q c f k) : (s.mapFeeds q c f k).tim = s.tim := rfl

@[simp] theorem State.pull_tim (s : State) (q c n) : (s.pull q c n).tim = s.tim := by
  simp [State.pull]

@[simp] theorem State.pullAll_tim (s : State) (q ins) : (s.pullAll q ins).tim = s.tim := by
  simp [State.pullAll]

@[simp] theorem State.settleFeeds_tim (s : State) (q) : (s.settleFeeds q).tim = s.tim := by
  simp [State.settleFeeds]

@[simp] theorem State.aeFault_tim (s : State) (q e slip cause) : (s.aeFault q e slip cause).tim = s.tim := by
  simp [State.aeFault]

@[simp] theorem execDescriptorStart_tim (q e) (s : State) : AllNext (execDescriptorStart q e s) (fun t => t.tim = s.tim) := by
  simp only [execDescriptorStart]
  (repeat' split) <;> simp

@[simp] theorem State.descMove_tim (s : State) (q slip d a bad) : (s.descMove q slip d a bad).tim = s.tim := by
  simp only [State.descMove]
  split
  · simp
  · simp
  · simp
  · refine State.foldl_tim (fun s i => ?_) _ _
    (repeat' split) <;> simp
  · rfl

@[simp] theorem execDescriptorComplete_tim (q e bad) (s : State) : AllNext (execDescriptorComplete q e bad s) (fun t => t.tim = s.tim) := by
  simp only [execDescriptorComplete]
  (repeat' split) <;> simp

@[simp] theorem State.underrun_tim (s : State) (q l) : (s.underrun q l).tim = s.tim := by
  simp [State.underrun]

@[simp] theorem State.opStart_tim (s : State) (q e ins outs writes items) : (s.opStart q e ins outs writes items).tim = s.tim := by
  simp [State.opStart]

@[simp] theorem execChannelOperationStart_tim (q e ins outs writes items) (s : State) : AllNext (execChannelOperationStart q e ins outs writes items s) (fun t => t.tim = s.tim) := by
  simp [execChannelOperationStart]

@[simp] theorem execSegmentCommit_tim (q e) (s : State) : AllNext (execSegmentCommit q e s) (fun t => t.tim = s.tim) := by
  unfold execSegmentCommit
  split <;> simp

@[simp] theorem State.quireConFault_tim (s : State) (q cause) : (s.quireConFault q cause).tim = s.tim := rfl

@[simp] theorem State.replay1_tim (s : State) (q cycles e) : (s.replay1 q cycles e).tim = s.tim := by
  simp only [State.replay1]
  (repeat' split) <;> simp

@[simp] theorem execReplay_tim (q engines stepping cycles) (s : State) : AllNext (execReplay q engines stepping cycles s) (fun t => t.tim = s.tim) := by
  simp [execReplay]

@[simp] theorem execStepUp_tim (q) (s : State) : AllNext (execStepUp q s) (fun t => t.tim = s.tim) := by
  simp [execStepUp]

@[simp] theorem execKernelInvocation_tim (q k n writes items tail0 tail1) (s : State) : AllNext (execKernelInvocation q k n writes items tail0 tail1 s) (fun t => t.tim = s.tim) := by
  unfold execKernelInvocation
  split <;> simp

@[simp] theorem execKernelOverrun_tim (q k n cycles) (s : State) : AllNext (execKernelOverrun q k n cycles s) (fun t => t.tim = s.tim) := by
  simp only [execKernelOverrun]
  (repeat' split) <;> simp

@[simp] theorem execArbiterGrant_tim (k reqs) (s : State) : AllNext (execArbiterGrant k reqs s) (fun t => t.tim = s.tim) := by
  simp only [execArbiterGrant]
  (repeat' split) <;> simp

@[simp] theorem execArbiterWindowStart_tim (k) (s : State) : AllNext (execArbiterWindowStart k s) (fun t => t.tim = s.tim) := by
  simp [execArbiterWindowStart]

/-! ## Delta -/

@[simp] theorem State.liveDrop_tim (s : State) (g r) : (s.liveDrop g r).tim = s.tim := rfl

@[simp] theorem State.sendDelta_tim (s : State) (g b i) : (s.sendDelta g b i).tim = s.tim := rfl

@[simp] theorem State.inputItem_tim (s : State) (g b w k) : (s.inputItem g b w k).tim = s.tim := by
  simp only [State.inputItem]
  (repeat' split) <;> simp

@[simp] theorem State.accAdd_tim (s : State) (g b l x4 y o v) : (s.accAdd g b l x4 y o v).tim = s.tim := by
  simp only [State.accAdd]
  (repeat' split) <;> simp

@[simp] theorem State.copyAdd_tim (s : State) (g b l x4 y c v rows) : (s.copyAdd g b l x4 y c v rows).tim = s.tim := by
  simp only [State.copyAdd]
  (repeat' split) <;> simp

@[simp] theorem State.deliver_tim (s : State) (g b l i) : (s.deliver g b l i).tim = s.tim := by
  simp only [State.deliver]
  split
  · rfl
  · split
    · refine State.foldl_tim (fun s _ => State.foldl_tim (fun s _ => State.foldl_tim (fun s _ => s.accAdd_tim _ _ _ _ _ _ _) _ _) _ _) _ _
    · refine State.foldl_tim (fun s _ => State.foldl_tim (fun s _ => State.foldl_tim (fun s _ => s.accAdd_tim _ _ _ _ _ _ _) _ _) _ _) _ _
    all_goals simp

@[simp] theorem State.settleRec_tim (s : State) (g b l k rc) : (s.settleRec g b l k rc).tim = s.tim := by
  simp only [State.settleRec]
  (repeat' split) <;> simp

@[simp] theorem State.settleTick_tim (s : State) (g b l k) : (s.settleTick g b l k).tim = s.tim := by
  unfold State.settleTick
  split <;> simp

@[simp] theorem State.takeCopies_tim (s : State) (g b l t) : (s.takeCopies g b l t).tim = s.tim := by
  simp only [State.takeCopies]
  (repeat' split) <;> simp

@[simp] theorem State.settleLayer_tim (s : State) (g b l) : (s.settleLayer g b l).tim = s.tim := by
  unfold State.settleLayer
  split <;> simp

@[simp] theorem State.logPut_tim (s : State) (g r e cap) : (s.logPut g r e cap).tim = s.tim := rfl

@[simp] theorem State.inputLive_tim (s : State) (g d) : (s.inputLive g d).tim = s.tim := by
  simp only [State.inputLive]
  (repeat' split) <;> simp

@[simp] theorem State.inputLog_tim (s : State) (g d rb) : (s.inputLog g d rb).tim = s.tim := by
  unfold State.inputLog
  split <;> simp

@[simp] theorem execDxeInput_tim (g layer bank) (s : State) : AllNext (execDxeInput g layer bank s) (fun t => t.tim = s.tim) := by
  simp only [execDxeInput]
  (repeat' split) <;> simp

@[simp] theorem State.passLive_tim (s : State) (g d) : (s.passLive g d).tim = s.tim := by
  simp [State.passLive]

@[simp] theorem execDxeSettle_tim (g layer bank) (s : State) : AllNext (execDxeSettle g layer bank s) (fun t => t.tim = s.tim) := by
  simp only [execDxeSettle]
  (repeat' split) <;> simp

@[simp] theorem State.denseRec_tim (s : State) (gr d b l x5 y grp) : (s.denseRec gr d b l x5 y grp).tim = s.tim := by
  simp [State.denseRec]

@[simp] theorem State.denseCopies_tim (s : State) (gr d b l) : (s.denseCopies gr d b l).tim = s.tim := by
  refine State.foldl_tim (fun s _ => State.foldl_tim (fun s _ => State.foldl_tim (fun s _ => ?_) _ _) _ _) _ _
  exact State.foldl_tim (fun s _ => s.putI32_tim _ _ _ _ _) _ _

@[simp] theorem State.rebuild_tim (s : State) (g b) : (s.rebuild g b).tim = s.tim := by
  unfold State.rebuild
  extract_lets gr
  split
  · rfl
  · refine State.foldl_tim (fun s l => ?_) _ _
    split
    · rfl
    · extract_lets e s1
      have h1 : s1.tim = s.tim := by simp only [s1, State.ite_tim, State.denseCopies_tim, ite_self]
      refine (State.foldl_tim (fun s _ => State.foldl_tim (fun s _ => State.foldl_tim (fun s _ => ?_) _ _) _ _) _ _).trans h1
      exact s.denseRec_tim _ _ _ _ _ _ _

@[simp] theorem execRebaseStart_tim (g) (s : State) : AllNext (execRebaseStart g s) (fun t => t.tim = s.tim) := by
  unfold execRebaseStart
  split <;> simp

@[simp] theorem execStartRebase_tim (g) (s : State) : AllNext (execStartRebase g s) (fun t => t.tim = s.tim) := by
  unfold execStartRebase
  split <;> simp

@[simp] theorem execWakeRebase_tim (g) (s : State) : AllNext (execWakeRebase g s) (fun t => t.tim = s.tim) := by
  simp only [execWakeRebase]
  (repeat' split) <;> simp

@[simp] theorem execSnapshotSweep_tim (r) (s : State) : AllNext (execSnapshotSweep r s) (fun t => t.tim = s.tim) := by
  simp [execSnapshotSweep]

@[simp] theorem State.modReb_tim (s : State) (g f) : (s.modReb g f).tim = s.tim := rfl

@[simp] theorem execRebasePhaseEnd_tim (g) (s : State) : AllNext (execRebasePhaseEnd g s) (fun t => t.tim = s.tim) := by
  simp only [execRebasePhaseEnd]
  (repeat' split) <;> simp

@[simp] theorem execRebaseSwitch_tim (g) (s : State) : AllNext (execRebaseSwitch g s) (fun t => t.tim = s.tim) := by
  simp only [execRebaseSwitch]
  (repeat' split) <;> simp

@[simp] theorem execRebaseFail_tim (g) (s : State) : AllNext (execRebaseFail g s) (fun t => t.tim = s.tim) := by
  simp only [execRebaseFail]
  (repeat' split) <;> simp

@[simp] theorem State.vframeRead_tim (s : State) (h g layer form sgl tau) : (s.vframeRead h g layer form sgl tau).s.tim = s.tim := by
  unfold State.vframeRead
  (repeat' split) <;> simp

@[simp] theorem execVframeRead_tim (h layer form sgl) (s : State) : AllNext (execVframeRead h layer form sgl s) (fun t => t.tim = s.tim) := by
  simp [execVframeRead]

@[simp] theorem State.endRead_tim (s : State) (g h) : (s.endRead g h).tim = s.tim := rfl

@[simp] theorem execVframeCopy_tim (h) (s : State) : AllNext (execVframeCopy h s) (fun t => t.tim = s.tim) := by
  unfold execVframeCopy
  (repeat' split) <;> simp

@[simp] theorem State.chanItem_tim (s : State) (q c b) : (s.chanItem q c b).1.tim = s.tim := by
  simp only [State.chanItem]
  (repeat' split) <;> simp

@[simp] theorem execScheduledRead_tim (g layer) (s : State) : AllNext (execScheduledRead g layer s) (fun t => t.tim = s.tim) := by
  simp only [execScheduledRead]
  (repeat' split) <;> simp

@[simp] theorem State.stopDelta_tim (s : State) (g) : (s.stopDelta g).tim = s.tim := by
  unfold State.stopDelta
  split <;> simp

@[simp] theorem State.setGrind_tim (s : State) (g l v k) : (s.setGrind g l v k).tim = s.tim := by
  simp [State.setGrind]

@[simp] theorem State.grindRaise_tim (s : State) (g) : (s.grindRaise g).tim = s.tim := by
  simp only [State.grindRaise]
  (repeat' split) <;> simp

@[simp] theorem State.grindLower_tim (s : State) (g) : (s.grindLower g).tim = s.tim := by
  unfold State.grindLower
  (repeat' split) <;> simp

/-! ## Readout -/

@[simp] theorem State.rlRow_tim (s : State) (g d i l y x6 w) : (s.rlRow g d i l y x6 w).tim = s.tim := by
  simp [State.rlRow]

@[simp] theorem State.handOver_tim (s : State) (g chan r bytes) : (s.handOver g chan r bytes).tim = s.tim := by
  simp [State.handOver]

@[simp] theorem State.layerRecord_tim (s : State) (g d i l invalid) : (s.layerRecord g d i l invalid).tim = s.tim := by
  simp [State.layerRecord]

@[simp] theorem State.endInstant_tim (s : State) (g) : (s.endInstant g).tim = s.tim := by
  unfold State.endInstant
  (repeat' split) <;> simp

@[simp] theorem State.modInst_tim (s : State) (g f) : (s.modInst g f).tim = s.tim := rfl

@[simp] theorem State.readoutAt_tim (s : State) (g t) : (s.readoutAt g t).s.tim = s.tim := by
  unfold State.readoutAt
  split <;> simp

@[simp] theorem execReadoutAt_tim (h) (s : State) : AllNext (execReadoutAt h s) (fun t => t.tim = s.tim) := by
  simp [execReadoutAt]

@[simp] theorem execReadoutInstant_tim (g) (s : State) : AllNext (execReadoutInstant g s) (fun t => t.tim = s.tim) := by
  simp [execReadoutInstant]

@[simp] theorem execSampleSlotSet_tim (r) (s : State) : AllNext (execSampleSlotSet r s) (fun t => t.tim = s.tim) := by
  simp [execSampleSlotSet]

@[simp] theorem execSampleSweep_tim (r) (s : State) : AllNext (execSampleSweep r s) (fun t => t.tim = s.tim) := by
  simp only [execSampleSweep]
  (repeat' split) <;> simp

@[simp] theorem execSampleComplete_tim (r slot) (s : State) : AllNext (execSampleComplete r slot s) (fun t => t.tim = s.tim) := by
  simp [execSampleComplete]

@[simp] theorem execVfinRecord_tim (g) (s : State) : AllNext (execVfinRecord g s) (fun t => t.tim = s.tim) := by
  simp only [execVfinRecord]
  (repeat' split) <;> simp

@[simp] theorem State.stripeRows_tim (s : State) (g d i l st x0 w q fuel) : (s.stripeRows g d i l st x0 w q fuel).tim = s.tim := by
  induction fuel generalizing s with
  | zero => rfl
  | succ n ih =>
    simp only [State.stripeRows]
    split <;> simp [ih]

@[simp] theorem State.layerEnd_tim (s : State) (g l) : (s.layerEnd g l).tim = s.tim := by
  unfold State.layerEnd
  (repeat' split) <;> simp

@[simp] theorem State.stripe_tim (s : State) (g l st rows ege) : (s.stripe g l st rows ege).tim = s.tim := by
  unfold State.stripe
  (repeat' split) <;> simp

@[simp] theorem execStripeEvaluation_tim (g layer st) (s : State) : AllNext (execStripeEvaluation g layer st s) (fun t => t.tim = s.tim) := by
  simp [execStripeEvaluation]

@[simp] theorem execEgeRow_tim (g layer st) (s : State) : AllNext (execEgeRow g layer st s) (fun t => t.tim = s.tim) := by
  simp [execEgeRow]

@[simp] theorem State.stopReadout_tim (s : State) (g) : (s.stopReadout g).tim = s.tim := rfl

/-! ## Spk -/

@[simp] theorem State.rowFault_tim (s : State) (q row ecc) : (s.rowFault q row ecc).tim = s.tim := by
  simp [State.rowFault]

@[simp] theorem State.takeRow_tim (s : State) (q bad m row) : (s.takeRow q bad m row).1.tim = s.tim := by
  simp only [State.takeRow]
  (repeat' split) <;> simp

@[simp] theorem State.applyOne_tim (s : State) (q n j p) : (s.applyOne q n j p).tim = s.tim := by
  simp only [State.applyOne]
  (repeat' split) <;> simp

@[simp] theorem State.spkSettle_tim (s : State) (q n bad) : (s.spkSettle q n bad).tim = s.tim := by
  simp [State.spkSettle]

@[simp] theorem execSettlement_tim (q bad) (s : State) : AllNext (execSettlement q bad s) (fun t => t.tim = s.tim) := by
  simp [execSettlement]

@[simp] theorem execRenewalSweep_tim (q) (s : State) : AllNext (execRenewalSweep q s) (fun t => t.tim = s.tim) := by
  simp [execRenewalSweep]

@[simp] theorem State.deliver1_tim (s : State) (q) : (s.deliver1 q).tim = s.tim := by
  simp only [State.deliver1]
  (repeat' split) <;> simp

@[simp] theorem execSpikeDelivery_tim (q) (s : State) : AllNext (execSpikeDelivery q s) (fun t => t.tim = s.tim) := by
  simp [execSpikeDelivery]

@[simp] theorem State.ingress_tim (s : State) (q word) : (s.ingress q word).tim = s.tim := by
  simp only [State.ingress]
  simp

@[simp] theorem State.spikeRecord_tim (s : State) (q f) : (s.spikeRecord q f).tim = s.tim := by
  simp only [State.spikeRecord]
  (repeat' split) <;> simp

@[simp] theorem State.xbarIn_tim (s : State) (word group slip) : (s.xbarIn word group slip).tim = s.tim := rfl

@[simp] theorem State.egressAct_tim (s : State) (q f e) : (s.egressAct q f e).tim = s.tim := by
  simp [State.egressAct]

@[simp] theorem State.egress_tim (s : State) (q f) : (s.egress q f).tim = s.tim := by
  simp only [State.egress]
  simp

@[simp] theorem State.kMove_tim (s : State) (d) : (s.kMove d).tim = s.tim := by
  simp only [State.kMove]
  (repeat' split) <;> simp

@[simp] theorem execRouterLookup_tim (q fromTile hops) (s : State) : AllNext (execRouterLookup q fromTile hops s) (fun t => t.tim = s.tim) := by
  simp only [execRouterLookup]
  (repeat' split) <;> simp

@[simp] theorem execDelayQueueRelease_tim (q loop) (s : State) : AllNext (execDelayQueueRelease q loop s) (fun t => t.tim = s.tim) := by
  simp only [execDelayQueueRelease]
  (repeat' split) <;> simp

@[simp] theorem State.xbarPut_tim (s : State) (slip d word stream) : (s.xbarPut slip d word stream).tim = s.tim := by
  simp [State.xbarPut]

@[simp] theorem State.xbarCopy_tim (s : State) (x1) : (s.xbarCopy x1).tim = s.tim := by
  simp [State.xbarCopy]

@[simp] theorem execKxbCopy_tim (hops) (s : State) : AllNext (execKxbCopy hops s) (fun t => t.tim = s.tim) := by
  simp only [execKxbCopy]
  (repeat' split) <;> simp

@[simp] theorem State.attach_tim (s : State) (n) : (s.attach n).tim = s.tim := by
  simp only [State.attach]
  (repeat' split) <;> simp

@[simp] theorem execAttachSpike_tim (n) (s : State) : AllNext (execAttachSpike n s) (fun t => t.tim = s.tim) := by
  simp [execAttachSpike]

@[simp] theorem State.rxSpikes_tim (s : State) (p m) : (s.rxSpikes p m).tim = s.tim := by
  simp only [State.rxSpikes]
  (repeat' split) <;> simp

@[simp] theorem execSpikes_tim (p m) (s : State) : AllNext (execSpikes p m s) (fun t => t.tim = s.tim) := by
  simp [execSpikes]

@[simp] theorem State.spikeRoute_tim (s : State) (h f qi ents) : (s.spikeRoute h f qi ents).s.tim = s.tim := by
  simp only [State.spikeRoute]
  (repeat' split) <;> simp

@[simp] theorem execSpikeRouteSet_tim (h qi ents) (s : State) : AllNext (execSpikeRouteSet h qi ents s) (fun t => t.tim = s.tim) := by
  simp [execSpikeRouteSet]

@[simp] theorem State.spikeWeights_tim (s : State) (h f qi addr n sgl data) : (s.spikeWeights h f qi addr n sgl data).s.tim = s.tim := by
  simp only [State.spikeWeights]
  (repeat' split) <;> simp

@[simp] theorem execSpikeWeights_tim (h qi addr bytes sgl data) (s : State) : AllNext (execSpikeWeights h qi addr bytes sgl data s) (fun t => t.tim = s.tim) := by
  simp [execSpikeWeights]

@[simp] theorem State.spikeRead_tim (s : State) (h f qi first count sgl tau) : (s.spikeRead h f qi first count sgl tau).s.tim = s.tim := by
  simp only [State.spikeRead]
  (repeat' split) <;> simp

@[simp] theorem execSpikeStateRead_tim (h qi first count sgl) (s : State) : AllNext (execSpikeStateRead h qi first count sgl s) (fun t => t.tim = s.tim) := by
  simp [execSpikeStateRead]

@[simp] theorem State.loadTile_tim (s : State) (q i) : (s.loadTile q i).tim = s.tim := rfl

@[simp] theorem State.loadSpk_tim (s : State) (slip qs p) : (s.loadSpk slip qs p).tim = s.tim := by
  unfold State.loadSpk
  extract_lets s1 s2 s3
  have h1 : s1.tim = s.tim := State.foldl_tim (fun s t => by split <;> simp) _ _
  refine (State.foldl_tim (fun s a => ?_) _ _).trans h1
  simp

@[simp] theorem State.startSpk_tim (s : State) (slip qs t) : (s.startSpk slip qs t).tim = s.tim := by
  simp [State.startSpk]

@[simp] theorem State.stopSpk_tim (s : State) (slip qs others) : (s.stopSpk slip qs others).tim = s.tim := by
  simp [State.stopSpk]

@[simp] theorem State.moveRouter_tim (s : State) (old new) : (s.moveRouter old new).tim = s.tim := rfl

/-! ## Recover -/

@[simp] theorem State.recovered_tim (s : State) (source flags) : (s.recovered source flags).tim = s.tim := by
  simp only [State.recovered]
  (repeat' split) <;> simp

@[simp] theorem State.swapQuire_tim (s : State) (q r) : (s.swapQuire q r).tim = s.tim := rfl

@[simp] theorem State.retireQuire_tim (s : State) (q) : (s.retireQuire q).tim = s.tim := rfl

@[simp] theorem State.loadSpare_tim (s : State) (q r) : (s.loadSpare q r).tim = s.tim := rfl

@[simp] theorem State.shrinkSlip_tim (s : State) (q) : (s.shrinkSlip q).tim = s.tim := rfl

@[simp] theorem State.retire_tim (s : State) (q) : (s.retire q).tim = s.tim := by
  simp only [State.retire]
  (repeat' split) <;> simp

@[simp] theorem execQuireRetirement_tim (q) (s : State) : AllNext (execQuireRetirement q s) (fun t => t.tim = s.tim) := by
  simp [execQuireRetirement]

@[simp] theorem execQuireScrub_tim (q) (s : State) : AllNext (execQuireScrub q s) (fun t => t.tim = s.tim) := by
  simp [execQuireScrub]

@[simp] theorem execKatRun_tim (source pass engine) (s : State) : AllNext (execKatRun source pass engine s) (fun t => t.tim = s.tim) := by
  simp [execKatRun]

@[simp] theorem State.pairFault_tim (s : State) (p source n flags) : (s.pairFault p source n flags).tim = s.tim := by
  simp [State.pairFault]

@[simp] theorem State.mismatch_tim (s : State) (p n dropA dropB passA passB) : (s.mismatch p n dropA dropB passA passB).tim = s.tim := by
  simp only [State.mismatch]
  (repeat' split) <;> simp

@[simp] theorem execPairCompare_tim (primary n sigA sigB dropA dropB passA passB) (s : State) : AllNext (execPairCompare primary n sigA sigB dropA dropB passA passB s) (fun t => t.tim = s.tim) := by
  unfold execPairCompare
  split <;> simp

/-! ## SafeCmd -/

@[simp] theorem execSafetyQuery_tim (h) (s : State) : AllNext (execSafetyQuery h s) (fun t => t.tim = s.tim) := by
  simp [execSafetyQuery]

@[simp] theorem State.katSet_tim (s : State) (ms) : (s.katSet ms).s.tim = s.tim := by
  simp [State.katSet]

@[simp] theorem execKatIntervalSet_tim (h ms) (s : State) : AllNext (execKatIntervalSet h ms s) (fun t => t.tim = s.tim) := by
  simp [execKatIntervalSet]

@[simp] theorem State.safeClear_tim (s : State) : s.safeClear.s.tim = s.tim := by
  simp [State.safeClear]

@[simp] theorem execSafeStateClear_tim (h) (s : State) : AllNext (execSafeStateClear h s) (fun t => t.tim = s.tim) := by
  simp [execSafeStateClear]

@[simp] theorem State.injectFault_tim (s : State) (source) : (s.injectFault source).s.tim = s.tim := by
  simp [State.injectFault]

@[simp] theorem execFaultInject_tim (h source) (s : State) : AllNext (execFaultInject h source s) (fun t => t.tim = s.tim) := by
  simp [execFaultInject]

@[simp] theorem State.wrReact_tim (s : State) (c v) : (s.wrReact c v).tim = s.tim := by
  simp [State.wrReact]

@[simp] theorem execSiReact_tim (c v) (s : State) : AllNext (execSiReact c v s) (fun t => t.tim = s.tim) := by
  simp [execSiReact]

@[simp] theorem execSiLock_tim (s : State) : AllNext (execSiLock s) (fun t => t.tim = s.tim) := by
  simp [execSiLock]

@[simp] theorem State.errBits_tim (s : State) (source cause) : (s.errBits source cause).tim = s.tim := by
  simp [State.errBits]

@[simp] theorem execInternalFault_tim (source cause slip info) (s : State) : AllNext (execInternalFault source cause slip info s) (fun t => t.tim = s.tim) := by
  simp [execInternalFault]

@[simp] theorem execLockstepUnit_tim (source slip) (s : State) : AllNext (execLockstepUnit source slip s) (fun t => t.tim = s.tim) := by
  simp [execLockstepUnit]

@[simp] theorem State.rerunEnd_tim (s : State) (u) : (s.rerunEnd u).tim = s.tim := by
  simp [State.rerunEnd]

@[simp] theorem execCpWatchdog_tim (s : State) : AllNext (execCpWatchdog s) (fun t => t.tim = s.tim) := by
  simp [execCpWatchdog]

@[simp] theorem State.siDead_tim (s : State) (cause) : (s.siDead cause).tim = s.tim := by
  simp [State.siDead]

@[simp] theorem execSiWatchdog_tim (s : State) : AllNext (execSiWatchdog s) (fun t => t.tim = s.tim) := by
  simp [execSiWatchdog]

@[simp] theorem execSiLockstep_tim (s : State) : AllNext (execSiLockstep s) (fun t => t.tim = s.tim) := by
  simp [execSiLockstep]

@[simp] theorem execClockMon_clock (oscillator) (s : State) : AllNext (execClockMon oscillator s) (fun t => t.tim.clock = s.tim.clock) := by
  cases oscillator
  · simp [execClockMon]
  · simp [execClockMon]
    rfl

@[simp] theorem execSupplyMon_tim (r mv goodFell) (s : State) : AllNext (execSupplyMon r mv goodFell s) (fun t => t.tim = s.tim) := by
  simp [execSupplyMon]

@[simp] theorem execThermal_tim (tempC) (s : State) : AllNext (execThermal tempC s) (fun t => t.tim = s.tim) := by
  simp [execThermal]

@[simp] theorem State.safeStop_tim (s : State) : s.safeStop.tim = s.tim := by
  simp [State.safeStop]

@[simp] theorem State.safeSample_tim (s : State) (a b) : (s.safeSample a b).tim = s.tim := by
  simp [State.safeSample]

@[simp] theorem State.wakeSi_tim (s : State) : s.wakeSi.tim = s.tim := by
  simp [State.wakeSi]

@[simp] theorem execSafeInReq_tim (a b) (s : State) : AllNext (execSafeInReq a b s) (fun t => t.tim = s.tim) := by
  simp [execSafeInReq]

@[simp] theorem execSafeInDisagree_tim (a b) (s : State) : AllNext (execSafeInDisagree a b s) (fun t => t.tim = s.tim) := by
  simp [execSafeInDisagree]

@[simp] theorem execSafeInRelease_tim (a b) (s : State) : AllNext (execSafeInRelease a b s) (fun t => t.tim = s.tim) := by
  simp [execSafeInRelease]

@[simp] theorem execFaultPin_tim (a b) (s : State) : AllNext (execFaultPin a b s) (fun t => t.tim = s.tim) := by
  simp [execFaultPin]

@[simp] theorem execSiAutoReset_tim (s : State) : AllNext (execSiAutoReset s) (fun t => t.tim = s.tim) := by
  simp [execSiAutoReset]

/-! ## Dpp -/

@[simp] theorem State.detSet_tim (s : State) (g j chan d i flags cand cycles dets) : (s.detSet g j chan d i flags cand cycles dets).tim = s.tim := by
  simp [State.detSet]

@[simp] theorem State.dppJob_tim (s : State) (g j readOk) : (s.dppJob g j readOk).tim = s.tim := by
  unfold State.dppJob
  (repeat' split) <;> simp

@[simp] theorem execDppJob_tim (g j readOk) (s : State) : AllNext (execDppJob g j readOk s) (fun t => t.tim = s.tim) := by
  simp [execDppJob]

/-! ## FuseIn -/

@[simp] theorem State.modFjob_tim (s : State) (j g) : (s.modFjob j g).tim = s.tim := rfl

@[simp] theorem State.modFsrc_tim (s : State) (k g) : (s.modFsrc k g).tim = s.tim := rfl

@[simp] theorem State.modTset_tim (s : State) (t g) : (s.modTset t g).tim = s.tim := rfl

@[simp] theorem State.retain_tim (s : State) (k n) : (s.retain k n).tim = s.tim := by
  simp [State.retain]

@[simp] theorem State.fuseInput_tim (s : State) (k) : (s.fuseInput k).tim = s.tim := by
  simp only [State.fuseInput]
  (repeat' split) <;> simp

@[simp] theorem execFusionInput_tim (slot) (s : State) : AllNext (execFusionInput slot s) (fun t => t.tim = s.tim) := by
  simp [execFusionInput]

@[simp] theorem State.sampleFault_tim (s : State) : s.sampleFault.tim = s.tim := rfl

/-- The state that an external sample leaves. -/
def PutRes.state : PutRes → State
  | .taken s => s
  | .faulty s => s
  | .excess s => s

@[simp] theorem State.samplePut_tim (s : State) (slip slot d b arrival) : (s.samplePut slip slot d b arrival).state.tim = s.tim := by
  simp only [State.samplePut]
  (repeat' split) <;> simp [PutRes.state]

@[simp] theorem State.fuseSamplePut_tim (s : State) (h f slot sgl d b arrival) : (s.fuseSamplePut h f slot sgl d b arrival).s.tim = s.tim := by
  have hp := s.samplePut_tim (s.graph f.objId.toNat).slip slot d b arrival
  simp only [State.fuseSamplePut]
  (repeat' split) <;> simp_all [PutRes.state]

@[simp] theorem execFusionSamplePut_tim (h slot sgl d b arrival) (s : State) : AllNext (execFusionSamplePut h slot sgl d b arrival s) (fun t => t.tim = s.tim) := by
  simp [execFusionSamplePut]

@[simp] theorem State.xformSet_tim (s : State) (h f k words dram sgl meshes) : (s.xformSet h f k words dram sgl meshes).s.tim = s.tim := by
  simp only [State.xformSet]
  (repeat' split) <;> simp

@[simp] theorem execFusionXformSet_tim (h slot words dram sgl meshes) (s : State) : AllNext (execFusionXformSet h slot words dram sgl meshes s) (fun t => t.tim = s.tim) := by
  simp [execFusionXformSet]

/-! ## Fusion -/

@[simp] theorem State.feedTm_tim (s : State) (n tf forced lateCnt) : (s.feedTm n tf forced lateCnt).tim = s.tim := by
  simp [State.feedTm]

@[simp] theorem State.convCounts_tim (s : State) (n tf sels) : (s.convCounts n tf sels).tim = s.tim := by
  simp [State.convCounts]

@[simp] theorem State.staleNow_tim (s : State) (n tf k stale) : (s.staleNow n tf k stale).tim = s.tim := by
  simp [State.staleNow]

@[simp] theorem State.fuseAfter_tim (s : State) (n tf sels) : (s.fuseAfter n tf sels).tim = s.tim := by
  simp [State.fuseAfter]

@[simp] theorem State.fuse_tim (s : State) (n) : (s.fuse n).tim = s.tim := by
  simp [State.fuse]

@[simp] theorem execFusionStart_tim (j) (s : State) : AllNext (execFusionStart j s) (fun t => t.tim = s.tim) := by
  simp [execFusionStart]

/-! ## Track -/

@[simp] theorem State.track_tim (s : State) (n) : (s.track n).tim = s.tim := by
  unfold State.track
  extract_lets t
  split
  · rfl
  · split
    · rfl
    · refine (State.rerunEnd_tim _ _).trans ((State.handOver_tim _ _ _ _ _).trans ?_)
      refine (State.ite_tim _ _ _).trans ?_
      simp only [State.ite_tim, State.orReg_tim, ite_self, State.bump_tim, State.trace_tim, State.modTset_tim]
      exact State.take_tim s

@[simp] theorem execTrackCycle_tim (t) (s : State) : AllNext (execTrackCycle t s) (fun t => t.tim = s.tim) := by
  simp [execTrackCycle]

@[simp] theorem State.trackClear_tim (s : State) (f set) : (s.trackClear f set).s.tim = s.tim := by
  simp [State.trackClear]

@[simp] theorem execTrackClear_tim (h set) (s : State) : AllNext (execTrackClear h set s) (fun t => t.tim = s.tim) := by
  simp [execTrackClear]

@[simp] theorem State.loadFu_tim (s : State) (g p) : (s.loadFu g p).tim = s.tim := by
  simp [State.loadFu]

@[simp] theorem State.startFu_tim (s : State) (g t) : (s.startFu g t).tim = s.tim := rfl

@[simp] theorem State.stopFu_tim (s : State) (g) : (s.stopFu g).tim = s.tim := rfl

@[simp] theorem State.fusionDues_tim (s : State) (t) : (s.fusionDues t).tim = s.tim := by
  simp [State.fusionDues]

/-! ## Load -/

@[simp] theorem State.loadQuire_tim (s : State) (p i q) : (s.loadQuire p i q).tim = s.tim := by
  simp [State.loadQuire]

@[simp] theorem State.loadQuires_tim (s : State) (p i) (qs : List Nat) : (s.loadQuires p i qs).tim = s.tim := by
  induction qs generalizing s i with
  | nil => rfl
  | cons q r ih => simp [State.loadQuires, ih]

@[simp] theorem State.loadGraph_tim (s : State) (n p) : (s.loadGraph n p).2.tim = s.tim := by
  unfold State.loadGraph
  extract_lets g qs gr s1 s2 s3 s4 s5 s6
  have h2 : s2.tim = s.tim := s1.loadQuires_tim p 0 qs
  have h3 : s3.tim = s2.tim := State.foldl_tim (fun s t => by split <;> rfl) _ _
  have h4 : s4.tim = s3.tim := by
    simp only [s4]
    split
    · rw [State.loadSpk_tim]
    · rfl
  have h5 : s5.tim = s4.tim := by
    simp only [s5]
    split
    · rw [State.loadFu_tim]
    · rfl
  have h6 : s6.tim = s5.tim := by simp [s6]
  rw [h6, h5, h4, h3, h2]

@[simp] theorem State.graphLoad_tim (s : State) (h n g p) : (s.graphLoad h n g p).s.tim = s.tim := by
  unfold State.graphLoad
  (repeat' split) <;> simp

@[simp] theorem execGraphLoad_tim (h slip sgl p) (s : State) : AllNext (execGraphLoad h slip sgl p s) (fun t => t.tim = s.tim) := by
  simp [execGraphLoad]

/-! ## Graphs -/

@[simp] theorem State.openChans_tim (s : State) (g p) : (s.openChans g p).tim = s.tim := by
  unfold State.openChans
  split <;> simp

@[simp] theorem State.startGraph_tim (s : State) (g pf) : (s.startGraph g pf).tim = s.tim := by
  simp only [State.startGraph]
  (repeat' split) <;> simp

@[simp] theorem State.stopGraph_tim (s : State) (g) : (s.stopGraph g).tim = s.tim := by
  simp [State.stopGraph]

@[simp] theorem State.graphStart_tim (s : State) (h g) : (s.graphStart h g).s.tim = s.tim := by
  simp [State.graphStart]

@[simp] theorem execGraphStart_tim (h) (s : State) : AllNext (execGraphStart h s) (fun t => t.tim = s.tim) := by
  simp [execGraphStart]

@[simp] theorem State.graphStop_tim (s : State) (g) : (s.graphStop g).s.tim = s.tim := by
  simp [State.graphStop]

@[simp] theorem execGraphStop_tim (h) (s : State) : AllNext (execGraphStop h s) (fun t => t.tim = s.tim) := by
  simp [execGraphStop]

@[simp] theorem State.graphUnload_tim (s : State) (g) : (s.graphUnload g).s.tim = s.tim := by
  simp [State.graphUnload]

@[simp] theorem execGraphUnload_tim (h) (s : State) : AllNext (execGraphUnload h s) (fun t => t.tim = s.tim) := by
  simp [execGraphUnload]

@[simp] theorem State.graphBind_tim (s : State) (g func q) : (s.graphBind g func q).s.tim = s.tim := by
  simp [State.graphBind]

@[simp] theorem execGraphBind_tim (h func q) (s : State) : AllNext (execGraphBind h func q s) (fun t => t.tim = s.tim) := by
  simp [execGraphBind]

@[simp] theorem execGraphQuery_tim (h) (s : State) : AllNext (execGraphQuery h s) (fun t => t.tim = s.tim) := by
  simp [execGraphQuery]

@[simp] theorem State.inputFromSfm_tim (s : State) (g q b) : (s.inputFromSfm g q b).tim = s.tim := by
  simp only [State.inputFromSfm]
  (repeat' split) <;> simp

@[simp] theorem State.rebuildDelta_tim (s : State) (g q) : (s.rebuildDelta g q).tim = s.tim := by
  unfold State.rebuildDelta
  split <;> simp

@[simp] theorem State.reload_tim (s : State) (q) : (s.reload q).tim = s.tim := by
  refine State.foldl_tim (fun s e => ?_) _ _
  simp only
  split
  · rfl
  · split <;> simp

@[simp] theorem execQuireTakeover_tim (q) (s : State) : AllNext (execQuireTakeover q s) (fun t => t.tim = s.tim) := by
  simp only [execQuireTakeover]
  (repeat' split) <;> simp

@[simp] theorem State.copyQuire_tim (s : State) (src dst) : (s.copyQuire src dst).tim = s.tim := rfl

@[simp] theorem execPairResync_tim (primary) (s : State) : AllNext (execPairResync primary s) (fun t => t.tim = s.tim) := by
  simp only [execPairResync]
  (repeat' split) <;> simp

/-! ## Contracts -/

@[simp] theorem State.wrArbs_tim (s : State) (l) : (s.wrArbs l).tim = s.tim := by
  refine State.foldl_tim (fun s p => ?_) _ _
  split <;> simp

@[simp] theorem State.setLimiter_tim (s : State) (e) : (s.setLimiter e).tim = s.tim := by
  simp only [State.setLimiter]
  split
  · rw [State.setRfld_tim, State.setReg_tim, State.setReg_tim]
  · rw [State.modHop_tim, State.setRfld_tim, State.setReg_tim, State.setReg_tim]

@[simp] theorem State.makePairs_tim (s : State) (c qs ps) : (s.makePairs c qs ps).tim = s.tim := by
  simp [State.makePairs]

@[simp] theorem State.conCommit_tim (s : State) (c func home d srcs p) : (s.conCommit c func home d srcs p).tim = s.tim := by
  simp [State.conCommit]

@[simp] theorem State.conSend_tim (s : State) (dev l) : (s.conSend dev l).tim = s.tim := by
  simp [State.conSend]

@[simp] theorem State.conAdmit_tim (s : State) (h d srcs p at_) : (s.conAdmit h d srcs p at_).s.tim = s.tim := by
  unfold State.conAdmit
  (repeat' split) <;> simp

@[simp] theorem execContractAdmit_tim (h d srcs plan) (s : State) : AllNext (execContractAdmit h d srcs plan s) (fun t => t.tim = s.tim) := by
  simp [execContractAdmit]

@[simp] theorem State.conAbort_tim (s : State) (a st det r) : (s.conAbort a st det r).tim = s.tim := by
  unfold State.conAbort
  split <;> simp

@[simp] theorem State.conNotice_tim (s : State) (c tick) : (s.conNotice c tick).tim = s.tim := by
  simp [State.conNotice]

@[simp] theorem State.rxContract_tim (s : State) (m plan) : (s.rxContract m plan).tim = s.tim := by
  simp only [State.rxContract]
  (repeat' split) <;> simp

@[simp] theorem execContractPart_tim (x0 m plan) (s : State) : AllNext (execContractPart x0 m plan s) (fun t => t.tim = s.tim) := by
  simp [execContractPart]

@[simp] theorem State.commitAdmits_tim (s : State) : s.commitAdmits.tim = s.tim := by
  refine State.foldl_tim (fun s a => ?_) _ _
  simp only
  (repeat' split) <;> simp

@[simp] theorem State.conRelease_tim (s : State) (h c arbs) : (s.conRelease h c arbs).s.tim = s.tim := by
  simp [State.conRelease]

@[simp] theorem execContractRelease_tim (h arbs) (s : State) : AllNext (execContractRelease h arbs s) (fun t => t.tim = s.tim) := by
  simp [execContractRelease]

@[simp] theorem State.conQuery_tim (s : State) (h c g) : (s.conQuery h c g).s.tim = s.tim := by
  unfold State.conQuery
  split <;> rfl

@[simp] theorem execContractQuery_tim (h sgl) (s : State) : AllNext (execContractQuery h sgl s) (fun t => t.tim = s.tim) := by
  simp [execContractQuery]

@[simp] theorem State.conPolicy_tim (s : State) (l) : (s.conPolicy l).s.tim = s.tim := by
  simp [State.conPolicy]

@[simp] theorem execContractPolicy_tim (h dram spine host step allow win reserve) (s : State) : AllNext (execContractPolicy h dram spine host step allow win reserve s) (fun t => t.tim = s.tim) := by
  simp [execContractPolicy]

@[simp] theorem State.deadlineMisses_tim (s : State) (n) : (s.deadlineMisses n).tim = s.tim := by
  induction n generalizing s with
  | zero => rfl
  | succ m ih =>
    simp only [State.deadlineMisses]
    split <;> simp [ih]

@[simp] theorem execDeadlineMiss_tim (s : State) : AllNext (execDeadlineMiss s) (fun t => t.tim = s.tim) := by
  simp [execDeadlineMiss]

@[simp] theorem State.revokeN_tim (s : State) (n) : (s.revokeN n).tim = s.tim := by
  induction n generalizing s with
  | zero => rfl
  | succ m ih =>
    simp only [State.revokeN]
    split <;> simp [ih]

@[simp] theorem execContractReplan_tim (n) (s : State) : AllNext (execContractReplan n s) (fun t => t.tim = s.tim) := by
  simp [execContractReplan]

@[simp] theorem execContractRevoked_tim (c arbs) (s : State) : AllNext (execContractRevoked c arbs s) (fun t => t.tim = s.tim) := by
  simp [execContractRevoked]

/-! ## Obs -/

@[simp] theorem State.snapTake_tim (s : State) : s.snapTake.tim = s.tim := by
  unfold State.snapTake
  (repeat' split) <;> simp

@[simp] theorem execSnapshotTick_tim (s : State) : AllNext (execSnapshotTick s) (fun t => t.tim = s.tim) := by
  simp [execSnapshotTick]

@[simp] theorem State.snapRead_tim (s : State) (f id c) : (s.snapRead f id c).s.tim = s.tim := by
  unfold State.snapRead
  (repeat' split) <;> simp

@[simp] theorem execSnapshotRead_tim (h snapId counter) (s : State) : AllNext (execSnapshotRead h snapId counter s) (fun t => t.tim = s.tim) := by
  simp [execSnapshotRead]

@[simp] theorem execAlarmRead_tim (s : State) (h sgl) : AllNext (execAlarmRead h sgl s) (fun t => t.tim = s.tim) := by
  simp only [execAlarmRead, allNext_next]
  refine State.cmd_tim (fun s f => ?_) s _ _ _
  split <;> simp

@[simp] theorem State.alarmAck_tim (s : State) (cause) : (s.alarmAck cause).s.tim = s.tim := by
  simp [State.alarmAck]

@[simp] theorem execAlarmAck_tim (h cause) (s : State) : AllNext (execAlarmAck h cause s) (fun t => t.tim = s.tim) := by
  simp [execAlarmAck]

@[simp] theorem State.logConfig_tim (s : State) (f q logCap traceCap mask) : (s.logConfig f q logCap traceCap mask).s.tim = s.tim := by
  simp [State.logConfig]

@[simp] theorem execLogConfig_tim (h func q logCap traceCap mask) (s : State) : AllNext (execLogConfig h func q logCap traceCap mask s) (fun t => t.tim = s.tim) := by
  simp [execLogConfig]

@[simp] theorem State.capUse_tim (s : State) (c cap) : (s.capUse c cap).tim = s.tim := rfl

@[simp] theorem execAlarmRecordEgress_tim (i) (s : State) : AllNext (execAlarmRecordEgress i s) (fun t => t.tim = s.tim) := by
  simp only [execAlarmRecordEgress]
  (repeat' split) <;> simp

@[simp] theorem State.ringSettle_tim (s : State) : s.ringSettle.tim = s.tim := rfl

@[simp] theorem State.ringOut_tim (s : State) (k log) : (s.ringOut k log).tim = s.tim := by
  unfold State.ringOut
  (repeat' split) <;> simp

@[simp] theorem execLogEgress_tim (s : State) : AllNext (execLogEgress s) (fun t => t.tim = s.tim) := by
  unfold execLogEgress
  split <;> simp

/-! ## Security -/

@[simp] theorem State.colophon_tim (s : State) (h nonce g) : (s.colophon h nonce g).s.tim = s.tim := by
  simp only [State.colophon]
  (repeat' split) <;> simp

@[simp] theorem execColophonGet_tim (h nonce sgl) (s : State) : AllNext (execColophonGet h nonce sgl s) (fun t => t.tim = s.tim) := by
  simp [execColophonGet]

@[simp] theorem State.streamError_tim (s : State) (i) : (s.streamError i).tim = s.tim := by
  simp [State.streamError]

@[simp] theorem State.endSession_tim (s : State) (n) : (s.endSession n).tim = s.tim := by
  simp [State.endSession]

@[simp] theorem State.endSessions_tim (s : State) : s.endSessions.tim = s.tim := by
  simp [State.endSessions]

@[simp] theorem State.seen_tim (s : State) (n) : (s.seen n).tim = s.tim := rfl

@[simp] theorem State.ideProg_tim (s : State) (n st ks fns) : (s.ideProg n st ks fns).tim = s.tim := by
  simp [State.ideProg]

@[simp] theorem State.spdm_tim (s : State) (r) : (s.spdm r).1.tim = s.tim := by
  unfold State.spdm
  (repeat' split) <;> simp

@[simp] theorem State.spdmMessage_tim (s : State) (h req rsp reqBytes r) : (s.spdmMessage h req rsp reqBytes r).s.tim = s.tim := by
  simp only [State.spdmMessage]
  (repeat' split) <;> simp

@[simp] theorem execSpdmMessage_tim (h req rsp reqBytes r) (s : State) : AllNext (execSpdmMessage h req rsp reqBytes r s) (fun t => t.tim = s.tim) := by
  simp [execSpdmMessage]

@[simp] theorem execHeartbeatMissed_tim (s : State) : AllNext (execHeartbeatMissed s) (fun t => t.tim = s.tim) := by
  simp [execHeartbeatMissed]

@[simp] theorem State.eraseKey_tim (s : State) (k) : (s.eraseKey k).tim = s.tim := rfl

@[simp] theorem State.keyGen_tim (s : State) (k) : (s.keyGen k).s.tim = s.tim := by
  simp [State.keyGen]

@[simp] theorem execKeySlotGen_tim (h slot) (s : State) : AllNext (execKeySlotGen h slot s) (fun t => t.tim = s.tim) := by
  simp [execKeySlotGen]

@[simp] theorem State.keyErase_tim (s : State) (h k) : (s.keyErase h k).s.tim = s.tim := by
  simp [State.keyErase]

@[simp] theorem execKeySlotErase_tim (h slot) (s : State) : AllNext (execKeySlotErase h slot s) (fun t => t.tim = s.tim) := by
  simp [execKeySlotErase]

@[simp] theorem State.commitVault_tim (s : State) (v) : (s.commitVault v).tim = s.tim := rfl

@[simp] theorem State.fwStage_tim (s : State) (g i) : (s.fwStage g i).s.tim = s.tim := by
  unfold State.fwStage
  (repeat' split) <;> simp

@[simp] theorem execFwStage_tim (h sgl img) (s : State) : AllNext (execFwStage h sgl img s) (fun t => t.tim = s.tim) := by
  simp [execFwStage]

@[simp] theorem State.runImage_tim (s : State) (i) : (s.runImage i).tim = s.tim := rfl

@[simp] theorem State.fwCommit_tim (s : State) : s.fwCommit.s.tim = s.tim := by
  unfold State.fwCommit
  split <;> simp

@[simp] theorem execFwCommit_tim (h) (s : State) : AllNext (execFwCommit h s) (fun t => t.tim = s.tim) := by
  simp [execFwCommit]

@[simp] theorem execCpRestart_tim (s : State) : AllNext (execCpRestart s) (fun t => t.tim = s.tim) := by
  simp [execCpRestart]

@[simp] theorem State.debugChallenge_tim (s : State) (h g) : (s.debugChallenge h g).s.tim = s.tim := by
  simp only [State.debugChallenge]
  (repeat' split) <;> simp

@[simp] theorem execDebugChallenge_tim (h sgl) (s : State) : AllNext (execDebugChallenge h sgl s) (fun t => t.tim = s.tim) := by
  simp [execDebugChallenge]

@[simp] theorem State.resetSlips_tim (s : State) (h) : (s.resetSlips h).tim = s.tim := by
  simp [State.resetSlips]

@[simp] theorem State.eraseKeys_tim (s : State) : s.eraseKeys.tim = s.tim := by
  simp [State.eraseKeys]

@[simp] theorem State.openDebug_tim (s : State) (h) : (s.openDebug h).tim = s.tim := by
  simp [State.openDebug]

@[simp] theorem State.debugResponse_tim (s : State) (h g sigOk) : (s.debugResponse h g sigOk).s.tim = s.tim := by
  unfold State.debugResponse
  split <;> simp

@[simp] theorem execDebugResponse_tim (h sgl sigOk) (s : State) : AllNext (execDebugResponse h sgl sigOk s) (fun t => t.tim = s.tim) := by
  simp [execDebugResponse]

@[simp] theorem execNonceExpiry_tim (s : State) : AllNext (execNonceExpiry s) (fun t => t.tim = s.tim) := by
  unfold execNonceExpiry
  split <;> simp

@[simp] theorem State.enterRma_tim (s : State) (h) : (s.enterRma h).tim = s.tim := by
  simp [State.enterRma]

@[simp] theorem State.lifeAdvance_tim (s : State) (h target g a) : (s.lifeAdvance h target g a).s.tim = s.tim := by
  unfold State.lifeAdvance
  split <;> simp

@[simp] theorem execLifecycleAdvance_tim (h target sgl auth) (s : State) : AllNext (execLifecycleAdvance h target sgl auth s) (fun t => t.tim = s.tim) := by
  simp [execLifecycleAdvance]

@[simp] theorem execDrbgReseed_tim (s : State) : AllNext (execDrbgReseed s) (fun t => t.tim = s.tim) := by
  simp [execDrbgReseed]

@[simp] theorem execTrngFail_tim (s : State) : AllNext (execTrngFail s) (fun t => t.tim = s.tim) := by
  simp [execTrngFail]

@[simp] theorem execTrngRestart_tim (pass) (s : State) : AllNext (execTrngRestart pass s) (fun t => t.tim = s.tim) := by
  simp [execTrngRestart]

/-! ## HostIf -/

@[simp] theorem execHotReset_tim (s : State) : AllNext (execHotReset s) (fun t => t.tim = s.tim) := by
  simp [execHotReset]

@[simp] theorem execPoisonedTlp_tim (fn off) (s : State) : AllNext (execPoisonedTlp fn off s) (fun t => t.tim = s.tim) := by
  simp [execPoisonedTlp]

@[simp] theorem execUnexpectedCompletion_tim (s : State) : AllNext (execUnexpectedCompletion s) (fun t => t.tim = s.tim) := by
  simp [execUnexpectedCompletion]

@[simp] theorem execDoeRequest_tim (proto len r) (s : State) : AllNext (execDoeRequest proto len r s) (fun t => t.tim = s.tim) := by
  simp only [execDoeRequest]
  (repeat' split) <;> simp

@[simp] theorem execDoeAbort_tim (s : State) : AllNext (execDoeAbort s) (fun t => t.tim = s.tim) := by
  simp [execDoeAbort]

@[simp] theorem execIdeCheckFailed_tim (n) (s : State) : AllNext (execIdeCheckFailed n s) (fun t => t.tim = s.tim) := by
  unfold execIdeCheckFailed
  split <;> simp

@[simp] theorem execLockInterface_tim (fn) (s : State) : AllNext (execLockInterface fn s) (fun t => t.tim = s.tim) := by
  simp [execLockInterface]

@[simp] theorem execStopInterface_tim (fn) (s : State) : AllNext (execStopInterface fn s) (fun t => t.tim = s.tim) := by
  simp [execStopInterface]

@[simp] theorem execEthLinkLoss_clock (e) (s : State) : AllNext (execEthLinkLoss e s) (fun t => t.tim.clock = s.tim.clock) := by
  simp [execEthLinkLoss, Tim.clock]

@[simp] theorem execDelayRequest_clock (e) (s : State) : AllNext (execDelayRequest e s) (fun t => t.tim.clock = s.tim.clock) := by
  simp only [execDelayRequest, allNext_next]
  split <;> rfl

@[simp] theorem execHotJoin_tim (i) (s : State) : AllNext (execHotJoin i s) (fun t => t.tim = s.tim) := by
  simp [execHotJoin]

@[simp] theorem execDramEcsRead_tim (counts) (s : State) : AllNext (execDramEcsRead counts s) (fun t => t.tim = s.tim) := by
  simp [execDramEcsRead]

@[simp] theorem execWck2dqRetraining_tim (c) (s : State) : AllNext (execWck2dqRetraining c s) (fun t => t.tim = s.tim) := by
  simp [execWck2dqRetraining]

@[simp] theorem State.modOut_tim (s : State) (i f) : (s.modOut i f).tim = s.tim := rfl

@[simp] theorem State.driveOut_tim (s : State) (i) : (s.driveOut i).tim = s.tim := rfl

@[simp] theorem State.edge_tim (s : State) (i on t) : (s.edge i on t).tim = s.tim := by
  simp [State.edge]

@[simp] theorem execTrigOut_tim (n k fall) (s : State) : AllNext (execTrigOut n k fall s) (fun t => t.tim = s.tim) := by
  simp [execTrigOut]

@[simp] theorem execSyncOut_tim (fall) (s : State) : AllNext (execSyncOut fall s) (fun t => t.tim = s.tim) := by
  simp [execSyncOut]

@[simp] theorem execOutputContention_tim (i) (s : State) : AllNext (execOutputContention i s) (fun t => t.tim = s.tim) := by
  simp [execOutputContention]

@[simp] theorem State.retryOut_tim (s : State) (n) : (s.retryOut n).tim = s.tim := by
  simp [State.retryOut]

@[simp] theorem execContentionRetry_tim (s : State) : AllNext (execContentionRetry s) (fun t => t.tim = s.tim) := by
  simp [execContentionRetry]

@[simp] theorem State.outRelease_tim (s : State) (m) : (s.outRelease m).s.tim = s.tim := by
  simp [State.outRelease]

@[simp] theorem execOutputRelease_tim (h mask) (s : State) : AllNext (execOutputRelease h mask s) (fun t => t.tim = s.tim) := by
  simp [execOutputRelease]

@[simp] theorem execExtest_tim (pins) (s : State) : AllNext (execExtest pins s) (fun t => t.tim = s.tim) := by
  simp [execExtest]

/-! ## Reset -/

@[simp] theorem State.chooseVault_tim (s : State) : s.chooseVault.tim = s.tim := by
  simp only [State.chooseVault]
  (repeat' split) <;> simp

theorem State.base_law {s : State} (hs : s.tim.law) : s.base.tim.law := by
  by_cases h : s.tim.tickQ = 4 <;> simp_all [State.base, Tim.law]

@[simp] theorem State.ready_tim (s : State) : s.ready.tim = s.tim := rfl

@[simp] theorem State.boot_tim (s : State) : s.boot.tim = s.tim := by
  unfold State.boot
  (repeat' split) <;> simp

@[simp] theorem State.selfTest_tim (s : State) (active retired pass) : (s.selfTest active retired pass).tim = s.tim := by
  unfold State.selfTest
  extract_lets s1
  rw [State.modSi_tim]
  exact State.foldl_tim (fun s _ => s.modQuire_tim _ _) _ _

@[simp] theorem State.start_tim (s : State) (active retired pass) : (s.start active retired pass).tim = s.tim := by
  simp [State.start]

theorem State.resetAll_law {s : State} (hs : s.tim.law) : s.resetAll.tim.law := by
  rw [State.resetAll, State.setRfld_tim, State.bump_tim]
  exact State.base_law (by simpa)

theorem execDeviceResetSequence_law {s : State} (active retired pass) (hs : s.tim.law) :
    AllNext (execDeviceResetSequence active retired pass s) (fun t => t.tim.law) := by
  rw [execDeviceResetSequence, allNext_next]
  split
  · rw [State.start_tim]
    exact State.resetAll_law hs
  · exact hs

@[simp] theorem State.railPin_tim (s : State) (r on) : (s.railPin r on).tim = s.tim := rfl

@[simp] theorem State.railsOff_tim (s : State) : s.railsOff.tim = s.tim := by
  rw [State.railsOff, State.modPwr_tim, State.railPin_tim, State.railPin_tim, State.railPin_tim]

@[simp] theorem State.railsUp_tim (s : State) : s.railsUp.tim = s.tim := by
  rw [State.railsUp, State.modPwr_tim, State.railPin_tim]

@[simp] theorem State.railRetry_tim (s : State) : s.railRetry.tim = s.tim := by
  simp [State.railRetry]

@[simp] theorem execRailTimeout_tim (s : State) : AllNext (execRailTimeout s) (fun t => t.tim = s.tim) := by
  simp [execRailTimeout]

@[simp] theorem State.railGood_tim (s : State) (r active retired pass) : (s.railGood r active retired pass).tim = s.tim := by
  simp [State.railGood]

@[simp] theorem execPwrGood_tim (r active retired pass) (s : State) : AllNext (execPwrGood r active retired pass s) (fun t => t.tim = s.tim) := by
  simp [execPwrGood]

theorem execPowerUp_law (straps) (s : State) : AllNext (execPowerUp straps s) (fun t => t.tim.law) := by
  have h0 : ({} : Tim).law := by simp [Tim.law]
  unfold execPowerUp
  extract_lets p s1 s2 s3 s4
  have h4 : s4.tim = {} := by
    simp only [s4, State.ite_tim, State.orReg_tim, ite_self]
    rfl
  rw [allNext_next, State.railsUp_tim, State.chooseVault_tim, h4]
  exact h0

theorem execVddAonLoss_law {s : State} (cut) (hs : s.tim.law) : AllNext (execVddAonLoss cut s) (fun t => t.tim.law) :=
  allNext_next.mpr (State.base_law (s := s.modSec _) hs)

@[simp] theorem execHostBootImage_tim (img) (s : State) : AllNext (execHostBootImage img s) (fun t => t.tim = s.tim) := by
  simp [execHostBootImage]

/-! ## Power -/

@[simp] theorem State.domLost_tim (s : State) (d) : (s.domLost d).tim = s.tim := by
  simp [State.domLost]

@[simp] theorem execDomainIdle_tim (d idleUs wakeUs) (s : State) : AllNext (execDomainIdle d idleUs wakeUs s) (fun t => t.tim = s.tim) := by
  simp [execDomainIdle]

@[simp] theorem execHopperWake_tim (n) (s : State) : AllNext (execHopperWake n s) (fun t => t.tim = s.tim) := by
  simp [execHopperWake]

@[simp] theorem execTimerWake_tim (tick doms) (s : State) : AllNext (execTimerWake tick doms s) (fun t => t.tim = s.tim) := by
  simp [execTimerWake]

@[simp] theorem execL12Exit_tim (s : State) : AllNext (execL12Exit s) (fun t => t.tim = s.tim) := by
  simp [execL12Exit]

@[simp] theorem execBrew_tim (ns) (s : State) : AllNext (execBrew ns s) (fun t => t.tim = s.tim) := by
  simp [execBrew]

@[simp] theorem State.deepUpdate_tim (s : State) : s.deepUpdate.tim = s.tim := rfl

theorem execWarmerOnlyEntry_law {s : State} (hs : s.tim.law) : AllNext (execWarmerOnlyEntry s) (fun t => t.tim.law) := by
  rw [execWarmerOnlyEntry, allNext_next]
  split
  · rw [State.bump_tim, State.modPwr_tim, State.railsOff_tim]
    exact State.base_law (by simpa)
  · exact hs

theorem State.leaveDeep_law {s : State} (hs : s.tim.law) : s.leaveDeep.tim.law := by
  unfold State.leaveDeep
  split
  · rw [State.railsUp_tim, State.bump_tim]
    exact State.base_law hs
  · exact hs

theorem execWakeIn_law {s : State} (hs : s.tim.law) : AllNext (execWakeIn s) (fun t => t.tim.law) :=
  allNext_next.mpr (State.leaveDeep_law hs)

theorem execPerst_law {s : State} (assert) (hs : s.tim.law) : AllNext (execPerst assert s) (fun t => t.tim.law) := by
  rw [execPerst, allNext_next]
  split
  · exact State.leaveDeep_law hs
  · split <;> exact hs

@[simp] theorem State.raiseGrinds_tim (s : State) (p) : (s.raiseGrinds p).tim = s.tim := by
  simp [State.raiseGrinds]

@[simp] theorem State.limitAct_tim (s : State) (n qs) : (s.limitAct n qs).tim = s.tim := by
  simp [State.limitAct]

@[simp] theorem State.limiterActs_tim (s : State) : s.limiterActs.tim = s.tim := by
  simp [State.limiterActs]

@[simp] theorem State.limiterLifts_tim (s : State) : s.limiterLifts.tim = s.tim := by
  unfold State.limiterLifts
  split <;> simp

@[simp] theorem execLimiterWindow_tim (total clusters) (s : State) : AllNext (execLimiterWindow total clusters s) (fun t => t.tim = s.tim) := by
  simp [execLimiterWindow]

@[simp] theorem State.moveMv_tim (s : State) (qs f) : (s.moveMv qs f).tim = s.tim := by
  simp [State.moveMv]

@[simp] theorem State.govern_tim (s : State) (n) : (s.govern n).tim = s.tim := by
  simp [State.govern]

@[simp] theorem execGovernorWindow_tim (slip) (s : State) : AllNext (execGovernorWindow slip s) (fun t => t.tim = s.tim) := by
  simp [execGovernorWindow]

@[simp] theorem State.windowGrind_tim (s : State) (q excess low) : (s.windowGrind q excess low).tim = s.tim := by
  simp [State.windowGrind]

@[simp] theorem execReplayWindowEnd_tim (q) (s : State) : AllNext (execReplayWindowEnd q s) (fun t => t.tim = s.tim) := by
  simp [execReplayWindowEnd]

@[simp] theorem execCrystalCheck_clock (ppm running timeOk) (s : State) : AllNext (execCrystalCheck ppm running timeOk s) (fun t => t.tim.clock = s.tim.clock) := by
  unfold execCrystalCheck
  extract_lets byp good dropped
  rw [allNext_next]
  split
  · split
    · rfl
    · rw [State.fault_tim]
      rfl
  · simp

@[simp] theorem State.powerPolicy_tim (s : State) (idle) : (s.powerPolicy idle).s.tim = s.tim := by
  simp [State.powerPolicy]

@[simp] theorem execPowerPolicy_tim (h idle) (s : State) : AllNext (execPowerPolicy h idle s) (fun t => t.tim = s.tim) := by
  simp [execPowerPolicy]

@[simp] theorem State.governorSet_tim (s : State) (n mw) : (s.governorSet n mw).s.tim = s.tim := rfl

@[simp] theorem execGovernorSet_tim (h mw) (s : State) : AllNext (execGovernorSet h mw s) (fun t => t.tim = s.tim) := by
  simp [execGovernorSet]

@[simp] theorem execPowerQuery_tim (h) (s : State) : AllNext (execPowerQuery h s) (fun t => t.tim = s.tim) := by
  simp [execPowerQuery]

/-! ## TimeCmd -/

@[simp] theorem execIdentify_tim (h) (s : State) : AllNext (execIdentify h s) (fun t => t.tim = s.tim) := by
  simp [execIdentify]

theorem State.setTick_law {s : State} (q farInUse) (hs : s.tim.law) : (s.setTick q farInUse).s.tim.law := by
  unfold State.setTick
  split
  · exact hs
  · split
    · exact hs
    · split
      · exact hs
      · exact State.newTickLen_law _ _

@[simp] theorem State.stagedDown_tim (s t : State) (tick op) : (s.stagedDown t tick op).tim = t.tim := by
  simp [State.stagedDown]

theorem execTimeSetTick_law {s : State} (h q farInUse) (hs : s.tim.law) : AllNext (execTimeSetTick h q farInUse s) (fun t => t.tim.law) := by
  rw [execTimeSetTick, allNext_next, State.stagedDown_tim]
  exact State.cmd_time _ _ _ hs (fun _ _ hb => State.setTick_law _ _ hb)

theorem State.acceptJump_law {s : State} (rootSys rootTick) (hs : s.tim.law) : (s.acceptJump rootSys rootTick).s.tim.law := by
  unfold State.acceptJump
  extract_lets p root old s1 step s2
  split
  · exact hs
  · split
    · rw [Res.ok_s, State.setTimeState_tim, State.markStreams_tim, State.setRfld_tim, State.setReg_tim]
      exact hs
    · split
      · exact hs
      · rw [Res.ok_s, State.setTimeState_tim, State.setRfld_tim]
        simp [s2, Tim.law]

theorem execTimeAcceptJump_law {s : State} (h rootSys rootTick) (hs : s.tim.law) :
    AllNext (execTimeAcceptJump h rootSys rootTick s) (fun t => t.tim.law) := by
  unfold execTimeAcceptJump
  extract_lets e
  rw [allNext_next, State.stagedDown_tim]
  exact State.cmd_time _ _ _ hs (fun _ _ hb => State.acceptJump_law _ _ hb)

@[simp] theorem execTimeQuery_tim (h) (s : State) : AllNext (execTimeQuery h s) (fun t => t.tim = s.tim) := by
  simp [execTimeQuery]

@[simp] theorem State.keepHot_tim (s : State) (n) : (s.keepHot n).tim = s.tim := by
  simp [State.keepHot]

theorem State.hotStaged_tim {run : State → Res} (hr : ∀ s, (run s).s.tim = s.tim) (s : State) (n) : (s.hotStaged n run).s.tim = s.tim := by
  simp [State.hotStaged, hr]

@[simp] theorem State.hotLoad_tim (s : State) (n g mask) : (s.hotLoad n g mask).s.tim = s.tim := by
  unfold State.hotLoad
  (repeat' split) <;> simp

@[simp] theorem execPortHotmaskLoad_tim (h port sgl mask) (s : State) : AllNext (execPortHotmaskLoad h port sgl mask s) (fun t => t.tim = s.tim) := by
  simp [execPortHotmaskLoad]

@[simp] theorem State.hotEdit1_tim (s : State) (n e) : (s.hotEdit1 n e).tim = s.tim := rfl

@[simp] theorem State.hotEdit_tim (s : State) (n l) : (s.hotEdit n l).s.tim = s.tim := by
  simp [State.hotEdit]

@[simp] theorem execPortHotmaskEdit_tim (h port entries) (s : State) : AllNext (execPortHotmaskEdit h port entries s) (fun t => t.tim = s.tim) := by
  simp [execPortHotmaskEdit]

@[simp] theorem State.evringBind_tim (s : State) (n f q) : (s.evringBind n f q).s.tim = s.tim := by
  simp [State.evringBind]

@[simp] theorem execPortEvringBind_tim (h port func q) (s : State) : AllNext (execPortEvringBind h port func q s) (fun t => t.tim = s.tim) := by
  simp [execPortEvringBind]

@[simp] theorem execTickClosed_tim (g) (s : State) : AllNext (execTickClosed g s) (fun t => t.tim = s.tim) := by
  simp [execTickClosed]

/-! ## Effect -/

/-- A command that is staged leaves the law of time when it takes effect. -/
theorem runStaged_law {c : Instr} {farBad : Bool} {opc : Nat} {run : State → Fetched → Res} (h : runStaged c farBad = some (opc, run))
    {s : State} (f) (hs : s.tim.law) : (run s f).s.tim.law := by
  cases c
  case timeSetTick =>
    obtain ⟨rfl, rfl⟩ := by simpa only [runStaged, Option.some.injEq, Prod.mk.injEq] using h
    exact State.setTick_law _ _ hs
  case timeAcceptJump =>
    obtain ⟨rfl, rfl⟩ := by simpa only [runStaged, Option.some.injEq, Prod.mk.injEq] using h
    exact State.acceptJump_law _ _ hs
  case portHotmaskLoad | portHotmaskEdit =>
    obtain ⟨rfl, rfl⟩ := by simpa only [runStaged, Option.some.injEq, Prod.mk.injEq] using h
    rw [State.hotStaged_tim (fun s => by simp)]
    exact hs
  all_goals simp only [runStaged, Option.some.injEq, Prod.mk.injEq, reduceCtorEq] at h
  all_goals
    obtain ⟨rfl, rfl⟩ := h
    simpa

theorem State.effect_law {s : State} (x farBad) (hs : s.tim.law) : (s.effect x farBad).tim.law := by
  unfold State.effect
  extract_lets s1
  split
  next hr => exact State.staged1_time _ _ hs (fun f => runStaged_law hr f hs)
  · exact hs

theorem execStagedCommandEffect_law {s : State} (farBad) (hs : s.tim.law) : AllNext (execStagedCommandEffect farBad s) (fun t => t.tim.law) := by
  rw [execStagedCommandEffect, allNext_next]
  split
  · exact State.effect_law _ _ hs
  · exact hs

theorem State.leftovers_law {s : State} (fuel) (hs : s.tim.law) : (s.leftovers fuel).tim.law := by
  induction fuel generalizing s with
  | zero => exact hs
  | succ n ih =>
    unfold State.leftovers
    split
    · exact ih (State.effect_law _ _ hs)
    · simpa

@[simp] theorem State.derivedMarks_tim (s : State) (r) : (s.derivedMarks r).tim = s.tim := by
  simp [State.derivedMarks]

@[simp] theorem State.loadFilters_tim (s : State) : s.loadFilters.tim = s.tim := State.foldl_tim (fun s _ => s.modHop_tim _ _) _ _

@[simp] theorem State.slewDone_tim (s : State) : s.slewDone.tim = s.tim := by
  simp [State.slewDone]

@[simp] theorem State.belowCycles_tim (s : State) : s.belowCycles.tim = s.tim := by
  simp [State.belowCycles]

@[simp] theorem State.dropEnded_tim (s : State) : s.dropEnded.tim = s.tim := rfl

theorem State.advance_law {s : State} (hs : s.tim.law) : s.advance.tim.law := by
  obtain ⟨hk, _⟩ := hs
  exact ⟨hk.trans (Nat.le_succ _), rfl⟩

@[simp] theorem State.safeStops_tim (s : State) : s.safeStops.tim = s.tim := by
  simp [State.safeStops]

theorem State.tickBegins_law {s : State} (hs : s.tim.law) : s.tickBegins.tim.law := by
  unfold State.tickBegins
  extract_lets s1 s2 s3 s4 s5
  have h1 : s1.tim.law := State.markersAt_law (by simpa)
  have h5 : s5.tim = s1.tim := by
    simp only [s5, s4, s3, s2, State.commitAdmits_tim, State.castsAt_tim, State.barriersAt_tim]
    refine (State.foldl_tim State.derivedMarks_tim _ _).trans ((State.foldl_tim State.portMarks_tim _ _).trans ?_)
    exact s1.loadFilters_tim
  rwa [State.fusionDues_tim, State.bindResetAt_tim, h5]

theorem State.tickBoundary_law {s : State} (hs : s.tim.law) : s.tickBoundary.tim.law := by
  unfold State.tickBoundary
  split
  · exact hs
  · split
    · rw [State.railRetry_tim]
      exact State.advance_law hs
    · extract_lets s1 s2
      rw [State.deepUpdate_tim, State.dropEnded_tim]
      refine State.tickBegins_law (State.advance_law ?_)
      rw [State.belowCycles_tim]
      exact State.leftovers_law _ hs

theorem execTickBoundary_law {s : State} (hs : s.tim.law) : AllNext (execTickBoundary s) (fun t => t.tim.law) :=
  allNext_next.mpr (State.tickBoundary_law hs)

/-! ## Ethernet -/

@[simp] theorem State.ethDrop_tim (s : State) (e) : (s.ethDrop e).tim = s.tim := rfl

@[simp] theorem execEthFrame_tim (e fcsBad len tag b) (s : State) : AllNext (execEthFrame e fcsBad len tag b s) (fun t => t.tim = s.tim) := by
  unfold execEthFrame
  (repeat' split) <;> simp

@[simp] theorem State.pclDeliver_tim (s : State) (k r arrival) : (s.pclDeliver k r arrival).tim = s.tim := by
  unfold State.pclDeliver
  extract_lets c s1
  have h1 : s1.tim = s.tim := s.brew_tim _
  split
  · rw [State.sampleFault_tim, h1]
  next b _ =>
    extract_lets h
    split
    · rw [State.sampleFault_tim, h1]
    · have hp := s1.samplePut_tim (s1.rfld c 61 56) h.slot.toNat h (b.drop 64) arrival
      split
      next hs => 
        rw [hs] at hp
        exact hp.trans h1
      next hs => 
        rw [hs] at hp
        exact hp.trans h1
      next hs => 
        rw [hs] at hp
        exact hp.trans h1

@[simp] theorem State.dropReasm_tim (s : State) (k seq) : (s.dropReasm k seq).tim = s.tim := rfl

@[simp] theorem State.pclFrag_tim (s : State) (k d arrival) : (s.pclFrag k d arrival).tim = s.tim := by
  simp only [State.pclFrag]
  (repeat' split) <;> simp

@[simp] theorem execPointCloudDatagram_tim (e d arrival) (s : State) : AllNext (execPointCloudDatagram e d arrival s) (fun t => t.tim = s.tim) := by
  simp [execPointCloudDatagram]

@[simp] theorem execPclReasmDrop_tim (s : State) : AllNext (execPclReasmDrop s) (fun t => t.tim = s.tim) := by
  simp [execPclReasmDrop]

@[simp] theorem execEgressDatagram_tim (k) (s : State) : AllNext (execEgressDatagram k s) (fun t => t.tim = s.tim) := by
  simp only [execEgressDatagram]
  (repeat' split) <;> simp

/-! ## Forward -/

theorem State.deliverMsg_law {s : State} (p m) (hs : s.tim.law) : (s.deliverMsg p m).tim.law := by
  unfold State.deliverMsg
  split
  case h_14 => exact State.rxJoin_law _ _ hs
  case h_13 => split <;> simpa
  all_goals simpa

theorem State.forward_law {s : State} (p m) (hs : s.tim.law) : (s.forward p m).tim.law := by
  unfold State.forward
  extract_lets r s1
  clear_value r
  cases r with
  | none =>
    dsimp only
    split <;> simpa [s1]
  | some q =>
    dsimp only
    split
    · exact State.deliverMsg_law _ _ (by simpa)
    · split <;> simpa

theorem execMessageForward_law {s : State} (p m tagOk fieldsOk) (hs : s.tim.law) :
    AllNext (execMessageForward p m tagOk fieldsOk s) (fun t => t.tim.law) := by
  unfold execMessageForward
  extract_lets n s1
  rw [allNext_next]
  split
  · exact hs
  · split
    · simpa
    · split
      · simpa [s1]
      · exact State.forward_law _ _ (by simpa [s1])

@[simp] theorem State.undoRemote_tim (s : State) (h) : (s.undoRemote h).tim = s.tim := by
  simp [State.undoRemote]

@[simp] theorem execRemoteSilent_tim (h) (s : State) : AllNext (execRemoteSilent h s) (fun t => t.tim = s.tim) := by
  unfold execRemoteSilent
  split <;> simp

/-! ## Reg -/

@[simp] theorem State.condErr_tim (s : State) (k d) : (s.condErr k d).tim = s.tim := by
  unfold State.condErr
  split
  iterate 6 exact State.orReg_tim _ _ _
  rfl

@[simp] theorem State.storeReg_tim (s : State) (f k d v) : (s.storeReg f k d v).tim = s.tim := by
  simp [State.storeReg]

@[simp] theorem State.wrSrcCtl_clock (s : State) : s.wrSrcCtl.tim.clock = s.tim.clock := by
  unfold State.wrSrcCtl
  split
  · rfl
  · rw [State.selectSource_clock]
    refine State.foldl_time (P := fun m => m.clock = s.tim.clock) (fun b c hb => ?_) _ rfl
    rw [State.setQualified_tim]
    exact hb

@[simp] theorem State.wrHopBuf_tim (s : State) (n) : (s.wrHopBuf n).tim = s.tim := by
  simp [State.wrHopBuf]

@[simp] theorem State.wrReg_clock (s : State) (f k d ix v) : (s.wrReg f k d ix v).tim.clock = s.tim.clock := by
  simp only [State.wrReg]
  split
  case h_12 | h_18 => rw [State.setRfld_tim]
  all_goals simp

@[simp] theorem State.applyReg_clock (s : State) (f o k d ix v) : (s.applyReg f o k d ix v).tim.clock = s.tim.clock := by
  simp [State.applyReg]

@[simp] theorem State.writeRun_clock (s : State) (f o n v be) : (s.writeRun f o n v be).tim.clock = s.tim.clock := by
  simp only [State.writeRun]
  (repeat' split) <;> simp

@[simp] theorem State.hostWrite_clock (s : State) (f off width be v) : (s.hostWrite f off width be v).tim.clock = s.tim.clock := by
  unfold State.hostWrite
  (repeat' split) <;> simp

@[simp] theorem execRegisterWrite_clock (fn off width be v) (s : State) : AllNext (execRegisterWrite fn off width be v s) (fun t => t.tim.clock = s.tim.clock) := by
  simp [execRegisterWrite]

@[simp] theorem State.abortRead_tim (s : State) (f off) : (s.abortRead f off).tim = s.tim := rfl

@[simp] theorem State.readWin_tim (s : State) (o n w granted eccBad) : (s.readWin o n w granted eccBad).tim = s.tim := by
  simp [State.readWin]

@[simp] theorem State.sample_tim (s : State) (k d ix) : (s.sample k d ix).2.tim = s.tim := by
  unfold State.sample
  split <;> rfl

@[simp] theorem State.readRun_tim (s : State) (f o n) : (s.readRun f o n).tim = s.tim := by
  simp only [State.readRun]
  (repeat' split) <;> simp

@[simp] theorem State.hostRead_tim (s : State) (f off width be granted eccBad) : (s.hostRead f off width be granted eccBad).tim = s.tim := by
  unfold State.hostRead
  (repeat' split) <;> simp

@[simp] theorem execRegisterRead_tim (fn off width be) (s : State) : AllNext (execRegisterRead fn off width be s) (fun t => t.tim = s.tim) := by
  simp [execRegisterRead]

@[simp] theorem execLowHalfRead_tim (fn off) (s : State) : AllNext (execLowHalfRead fn off s) (fun t => t.tim = s.tim) := by
  simp [execLowHalfRead]

@[simp] theorem execDataWindowRead_tim (off width granted eccBad) (s : State) : AllNext (execDataWindowRead off width granted eccBad s) (fun t => t.tim = s.tim) := by
  simp [execDataWindowRead]

@[simp] theorem execUnsupportedRequest_tim (fn off isWrite) (s : State) : AllNext (execUnsupportedRequest fn off isWrite s) (fun t => t.tim = s.tim) := by
  simp [execUnsupportedRequest]


/-! ## Every instruction keeps the law of time -/

/-- An instruction that leaves the registers of the law alone keeps the law. -/
theorem AllNext.law_of_clock {o : Host.Outcome State Fault Refusal} {s : State} (h : AllNext o (fun t => t.tim.clock = s.tim.clock))
    (hs : s.tim.law) : AllNext o (fun t => t.tim.law) := h.imp (fun _ ht => Tim.law_of_clock ht hs)

/-- An instruction that leaves the time alone keeps the law. -/
theorem AllNext.law_of_tim {o : Host.Outcome State Fault Refusal} {s : State} (h : AllNext o (fun t => t.tim = s.tim))
    (hs : s.tim.law) : AllNext o (fun t => t.tim.law) := h.imp (fun _ ht => by rwa [ht])

theorem exec_law (c : Instr) {s : State} (hs : s.tim.law) : AllNext (exec c s) (fun t => t.tim.law) := by
  cases c
  case timeSetTick => exact execTimeSetTick_law _ _ _ hs
  case timeAcceptJump => exact execTimeAcceptJump_law _ _ _ hs
  case stagedCommandEffect => exact execStagedCommandEffect_law _ hs
  case perst => exact execPerst_law _ hs
  case messageForward => exact execMessageForward_law _ _ _ _ hs
  case join => exact execJoin_law _ _ hs
  case deviceResetSequence => exact execDeviceResetSequence_law _ _ _ hs
  case powerUp => exact execPowerUp_law _ s
  case vddAonLoss => exact execVddAonLoss_law _ hs
  case tickBoundary => exact execTickBoundary_law hs
  case warmerOnlyEntry => exact execWarmerOnlyEntry_law hs
  case wakeIn => exact execWakeIn_law hs
  case registerWrite | syncReceived | sourceQualified | sourceLost | timeSync | clockMon | crystalCheck | ethLinkLoss |
      delayRequest | ptmRequest | timeOscillatorReturn =>
    exact AllNext.law_of_clock (by simp [exec]) hs
  all_goals exact AllNext.law_of_tim (by simp [exec]) hs

/-- Settles O4: no instruction moves the registers of the law but `TIME_SET_TICK`, an accepted jump, a join, a reset and the tick boundary,
and each of these sets them by the law. -/
theorem stepsKeepTimeLaw : Obligations.StepsKeepTimeLaw := by
  intro s t hs h
  unfold step at h
  split at h
  · cases h
    exact hs
  next c rest _ => exact exec_law c (s := { s with pending := rest }) hs t h

end Sys2Proof.Machine

/-! SUPPORT. Separations of ETS values (R43), and the state after reset. -/
namespace Sys2Proof.Machine

theorem etsDiff_bounds (a b : Nat) : -2 ^ 31 ≤ etsDiff a b ∧ etsDiff a b < 2 ^ 31 := by
  unfold etsDiff sext
  split <;> omega

theorem etsDiff_congr (a b : Nat) : (etsDiff a b - ((a : Int) - b)) % 2 ^ 32 = 0 := by
  unfold etsDiff sext
  split <;> omega

/-- Two ticks less than 2^31 apart have the separation of their ETS values: both lie in the range, and are congruent. -/
theorem etsDiff_of_close {m n : Nat} (h : ((m : Int) - n).natAbs < 2 ^ 31) : etsDiff (m % 2 ^ 32) (n % 2 ^ 32) = (m : Int) - n := by
  obtain ⟨hlo, hhi⟩ := etsDiff_bounds (m % 2 ^ 32) (n % 2 ^ 32)
  have hc := etsDiff_congr (m % 2 ^ 32) (n % 2 ^ 32)
  omega

/-- Settles O59: the separation is the one value of its range congruent to the difference. -/
theorem etsSeparationIsTheSignedDifference : Obligations.EtsSeparationIsTheSignedDifference := by
  refine ⟨fun a b _ _ => ⟨(etsDiff_bounds a b).1, (etsDiff_bounds a b).2, etsDiff_congr a b⟩, fun m n h => ?_⟩
  rw [etsDiff_of_close h]
  exact ⟨rfl, by omega, by omega⟩

/-- Settles O5, by evaluation of the one state: its maps are empty but for function 0. -/
theorem resetMeetsInvariants : Obligations.ResetMeetsInvariants :=
  ⟨by decide, ⟨Nat.le_refl 0, rfl⟩, rfl, rfl, rfl, rfl⟩

end Sys2Proof.Machine

/-! SUPPORT. An AT_TICK that names no tick from 1 to 2^30 ticks ahead (R59). -/
namespace Sys2Proof.Machine

theorem brewFor_lead (s : State) (f c) (k : BitVec 32) : (s.brewFor f c).lead k = s.lead k := by
  unfold State.lead State.ets
  rw [brewFor_tim]

theorem State.lead_none {s : State} {k : BitVec 32} (h : etsDiff k.toNat s.ets ≤ 0 ∨ 2 ^ 30 < etsDiff k.toNat s.ets) : s.lead k = none := by
  unfold State.lead
  extract_lets d
  rw [if_neg]
  omega

section
variable {s : State} {h : CmdRef} {opc : Nat} {c : Instr} {f : Fetched} (hs : s.startable h opc = some f)
  (ho : (s.brewFor f c).objErr opc h.fn.toNat f.objId.toNat = none) (ha : f.atEn = true) (hl : s.lead f.atTick = none)
include hs

theorem refused_answered : State.Answered (s.brewFor f c) ((s.brewFor f c).complete h 0x102 0xF022) h 0x102 0xF022 0 :=
  State.complete_answered ((s.brewFor_fetchedOf f c h).trans (State.startable_fetched hs)) _ _ _ (by decide)

include ho hl

theorem cmdAt_refusesTick (run) : State.Answered (s.brewFor f c) (s.cmdAt h opc c run) h 0x102 0xF022 0 := by
  rw [cmdAt_lead hs ho (by rwa [brewFor_lead])]
  exact refused_answered hs

include ha

theorem cmd_refusesTick (run) : State.Answered (s.brewFor f c) (s.cmd h opc c run) h 0x102 0xF022 0 := by
  rw [cmd_lead hs ho ha (by rwa [brewFor_lead])]
  exact refused_answered hs

/-- A command that the rest of the binding is told of when it is staged tells nothing when its tick is refused. -/
theorem stagedDown_refusesTick (run k op) :
    State.Answered (s.brewFor f c) (s.stagedDown (s.cmd h opc c run) k op) h 0x102 0xF022 0 := by
  rw [stagedDown_same]
  · exact cmd_refusesTick hs ho ha hl run
  · rw [cmd_lead hs ho ha (by rwa [brewFor_lead]), complete_staged, brewFor_staged]

end

/-- Settles O8: every command row checks AT_TICK before its run, or its run begins with the check. -/
theorem atTickOutOfRangeIsRefused : Obligations.AtTickOutOfRangeIsRefused := by
  intro c h opc f s hp hs ha ho hr
  have hl := State.lead_none hr
  cases c <;> cases hp
  case vframeRead | readoutAt | spikeStateRead | cuppingSchedule | barrier | broadcast | bindingReset =>
    exact ⟨_, rfl, cmdAt_refusesTick hs ho hl _⟩
  case contractAdmit =>
    refine ⟨_, rfl, ?_⟩
    split
    · exact cmdAt_refusesTick hs ho hl _
    · exact cmd_refusesTick hs ho ha hl _
  case auxCoefSwap =>
    refine ⟨_, rfl, ?_⟩
    rw [if_pos (by rw [hs]; exact ha)]
    exact cmdAt_refusesTick hs ho hl _
  case timeSetTick | timeAcceptJump => exact ⟨_, rfl, stagedDown_refusesTick hs ho ha hl _ _ _⟩
  all_goals exact ⟨_, rfl, cmd_refusesTick hs ho ha hl _⟩

end Sys2Proof.Machine

/-! SUPPORT. Fields of registers: what a write of a field leaves in it, in the register's other fields and in other registers. -/
namespace Sys2Proof.Machine

theorem getLsbD_mask {hi lo : Nat} (h : hi < 64) (i : Nat) : (mask hi lo).getLsbD i = decide (lo ≤ i ∧ i ≤ hi) := by
  simp only [mask, BitVec.getLsbD_ofNat, Nat.testBit_shiftLeft, Nat.testBit_two_pow_sub_one]
  by_cases h1 : lo ≤ i <;> by_cases h2 : i ≤ hi <;> simp [h1, h2] <;> omega

/-- A write of a field sets the bits of the field and no other. -/
theorem getLsbD_setFld {hi lo : Nat} (h : hi < 64) (v : Word) (x i : Nat) :
    (setFld v hi lo x).getLsbD i = if lo ≤ i ∧ i ≤ hi then x.testBit (i - lo) else v.getLsbD i := by
  simp only [setFld, BitVec.getLsbD_or, BitVec.getLsbD_and, BitVec.getLsbD_not, getLsbD_mask h, BitVec.getLsbD_ofNat,
    Nat.testBit_shiftLeft, Nat.testBit_mod_two_pow]
  by_cases hi64 : i < 64
  · by_cases h1 : lo ≤ i <;> by_cases h2 : i ≤ hi <;> simp [h1, h2, hi64] <;> omega
  · have hv : v.getLsbD i = false := BitVec.getLsbD_of_ge _ _ (by omega)
    simp [hi64, hv]
    omega

theorem testBit_fld (v : Word) (lo w j : Nat) : ((v.toNat >>> lo) % 2 ^ w).testBit j = (decide (j < w) && v.getLsbD (lo + j)) := by
  rw [Nat.testBit_mod_two_pow, Nat.testBit_shiftRight]
  rfl

theorem fld_setFld_self {hi lo : Nat} (h : hi < 64) (v : Word) (x : Nat) :
    ((setFld v hi lo x).toNat >>> lo) % 2 ^ (hi + 1 - lo) = x % 2 ^ (hi + 1 - lo) := by
  refine Nat.eq_of_testBit_eq fun j => ?_
  rw [testBit_fld, getLsbD_setFld h, Nat.testBit_mod_two_pow]
  by_cases hj : j < hi + 1 - lo
  · rw [if_pos (by omega), Nat.add_sub_cancel_left]
  · simp [hj]

theorem fld_setFld_apart {hi lo hi' lo' : Nat} (h : hi < 64) (hd : hi < lo' ∨ hi' < lo) (v : Word) (x : Nat) :
    ((setFld v hi lo x).toNat >>> lo') % 2 ^ (hi' + 1 - lo') = (v.toNat >>> lo') % 2 ^ (hi' + 1 - lo') := by
  refine Nat.eq_of_testBit_eq fun j => ?_
  rw [testBit_fld, testBit_fld, getLsbD_setFld h]
  by_cases hj : j < hi' + 1 - lo'
  · rw [if_neg (by omega)]
  · simp [hj]

/-- A field of one bit is 1 where its bit is set. -/
theorem fld_bit (v : Word) (i : Nat) : (v.toNat >>> i) % 2 ^ (i + 1 - i) = (v.getLsbD i).toNat := by
  rw [Nat.add_sub_cancel_left, pow_one, Nat.shiftRight_eq_div_pow]
  exact (Nat.toNat_testBit _ _).symm

theorem State.setReg_regs_wf {s : State} (h : SMap.wf none s.regs = true) (k : Nat) (v : Word) : SMap.wf none (s.setReg k v).regs = true :=
  SMap.wf_put h

theorem State.setRfld_regs_wf {s : State} (h : SMap.wf none s.regs = true) (k hi lo x : Nat) :
    SMap.wf none (s.setRfld k hi lo x).regs = true :=
  SMap.wf_put h

theorem State.reg_setRfld_ne (s : State) {k j : Nat} (hi lo x : Nat) (h : j ≠ k) : (s.setRfld k hi lo x).reg j = s.reg j :=
  s.reg_setReg_ne _ h

theorem State.reg_orReg_ne (s : State) {k j : Nat} (m : Word) (h : j ≠ k) : (s.orReg k m).reg j = s.reg j := s.reg_setReg_ne _ h

theorem State.reg_congr {s t : State} (h : t.regs = s.regs) (k : Nat) : t.reg k = s.reg k := by
  rw [State.reg, State.reg, h]

theorem State.rfld_congr {s t : State} {k : Nat} (h : t.reg k = s.reg k) (hi lo : Nat) : t.rfld k hi lo = s.rfld k hi lo := by
  rw [State.rfld, State.rfld, h]

theorem State.rfld_setRfld_self {s : State} (h : SMap.wf none s.regs = true) {hi : Nat} (hh : hi < 64) (k lo x : Nat) :
    (s.setRfld k hi lo x).rfld k hi lo = x % 2 ^ (hi + 1 - lo) := by
  rw [State.rfld, State.setRfld, State.reg_setReg_self k _ h]
  exact fld_setFld_self hh _ _

theorem State.rfld_setRfld_apart {s : State} (h : SMap.wf none s.regs = true) {hi lo hi' lo' : Nat} (hh : hi < 64)
    (hd : hi < lo' ∨ hi' < lo) (k x : Nat) : (s.setRfld k hi lo x).rfld k hi' lo' = s.rfld k hi' lo' := by
  rw [State.rfld, State.setRfld, State.reg_setReg_self k _ h]
  exact fld_setFld_apart hh hd _ _

theorem State.rfld_setReg_ne (s : State) {k j : Nat} (v : Word) (hi lo : Nat) (h : j ≠ k) : (s.setReg k v).rfld j hi lo = s.rfld j hi lo :=
  State.rfld_congr (s.reg_setReg_ne v h) _ _

end Sys2Proof.Machine

/-! SUPPORT. Port and time commands: the hot-pixel masks, staged commands, and the state of the Time Unit. -/
namespace Sys2Proof.Machine

/-! ## Hot-pixel masks -/

theorem State.modHop_hop_self {s : State} (h : SMap.wf {} s.hops = true) (n : Nat) (g : Hopper → Hopper) : (s.modHop n g).hop n = g (s.hop n) :=
  SMap.get_upd_self h

theorem State.modHop_hop_ne (s : State) {n k : Nat} (h : k ≠ n) (g : Hopper → Hopper) : (s.modHop n g).hop k = s.hop k :=
  SMap.get_upd_ne h

theorem State.modHop_wf {s : State} (h : SMap.wf {} s.hops = true) (n : Nat) (g : Hopper → Hopper) : SMap.wf {} (s.modHop n g).hops = true :=
  SMap.wf_upd h

theorem State.canonical_regs {s : State} (h : s.canonical = true) : SMap.wf none s.regs = true := (State.canonical_maps h).1

theorem State.canonical_hops {s : State} (h : s.canonical = true) : SMap.wf {} s.hops = true := by
  simp only [State.canonical, Bool.and_eq_true] at h
  simp only [h]

/-- A mask that lists addresses holds what it held and the addresses. -/
theorem get_foldl_put_true (l : List Nat) (m : SMap Bool) (a : Nat) :
    SMap.get false (l.foldl (fun m a => SMap.put false m a true) m) a = (decide (a ∈ l) || SMap.get false m a) := by
  induction l generalizing m with
  | nil => simp
  | cons b r ih =>
    rw [List.foldl_cons, ih]
    by_cases hb : a = b
    · subst hb
      have hp : SMap.get false (SMap.put false m a true) a = true := SMap.get_ins_self false m a true
      simp [hp]
    · rw [SMap.get_put_ne hb]
      simp [hb]

/-- The port and the address of its mask that an entry of PORT_HOTMASK_EDIT names: the upper half of a pair's backing is the odd port's. -/
def hotSpot (n : Nat) (e : BitVec 32) : Nat × Nat :=
  if e.toNat % 2 ^ 22 < 2097152 then (n, e.toNat % 2 ^ 22) else (n + 1, e.toNat % 2 ^ 22 - 2097152)

theorem State.hotEdit1_eq (s : State) (n : Nat) (e : BitVec 32) :
    s.hotEdit1 n e = s.modHop (hotSpot n e).1 (fun h => { h with hot := SMap.put false h.hot (hotSpot n e).2 (e.getLsbD 31) }) := rfl

/-- Masks in canonical form, in a canonical map of ports. -/
def State.HotWf (s : State) : Prop := SMap.wf {} s.hops = true ∧ ∀ k, SMap.wf false (s.hop k).hot = true

theorem State.hotEdit1_hop {s : State} (h : s.HotWf) (n : Nat) (e : BitVec 32) (k : Nat) :
    ((s.hotEdit1 n e).hop k).hot = if k = (hotSpot n e).1 then SMap.put false (s.hop k).hot (hotSpot n e).2 (e.getLsbD 31) else (s.hop k).hot := by
  rw [State.hotEdit1_eq]
  split
  next hk =>
    subst hk
    rw [State.modHop_hop_self h.1]
  next hk => rw [State.modHop_hop_ne _ hk]

theorem State.hotEdit1_wf {s : State} (h : s.HotWf) (n : Nat) (e : BitVec 32) : (s.hotEdit1 n e).HotWf := by
  refine ⟨State.modHop_wf h.1 _ _, fun k => ?_⟩
  rw [State.hotEdit1_hop h]
  split
  · exact SMap.wf_put (h.2 k)
  · exact h.2 k

theorem State.hotEdit1_get {s : State} (h : s.HotWf) (n : Nat) (e : BitVec 32) (k a : Nat) :
    SMap.get false ((s.hotEdit1 n e).hop k).hot a = if hotSpot n e = (k, a) then e.getLsbD 31 else SMap.get false (s.hop k).hot a := by
  rw [State.hotEdit1_hop h]
  by_cases hk : k = (hotSpot n e).1
  · rw [if_pos hk]
    by_cases ha : a = (hotSpot n e).2
    · rw [ha, SMap.get_put_self (h.2 k), if_pos (by rw [hk])]
    · rw [SMap.get_put_ne ha, if_neg (fun he => ha (by rw [he]))]
  · rw [if_neg hk, if_neg (fun he => hk (by rw [he]))]

/-- After the entries of an edit each address of a mask has the value of the last entry that names it. -/
theorem State.foldl_hotEdit1 (n : Nat) (l : List (BitVec 32)) {s : State} (h : s.HotWf) :
    l.foldl (fun s e => s.hotEdit1 n e) s = { s with hops := (l.foldl (fun s e => s.hotEdit1 n e) s).hops } ∧
    ∀ k a, SMap.get false ((l.foldl (fun s e => s.hotEdit1 n e) s).hop k).hot a =
      ((l.reverse.find? (fun e => decide (hotSpot n e = (k, a)))).map (fun e => e.getLsbD 31)).getD (SMap.get false (s.hop k).hot a) := by
  induction l generalizing s with
  | nil => exact ⟨rfl, fun _ _ => rfl⟩
  | cons e r ih =>
    obtain ⟨hf, hg⟩ := ih (State.hotEdit1_wf h n e)
    refine ⟨hf, fun k a => ?_⟩
    rw [List.foldl_cons, hg, List.reverse_cons, List.find?_append, State.hotEdit1_get h]
    cases r.reverse.find? (fun e => decide (hotSpot n e = (k, a))) with
    | some x => rfl
    | none =>
      rw [Option.none_or, List.find?_singleton]
      by_cases he : hotSpot n e = (k, a) <;> simp [he]

theorem State.hotLoad_ok {s : State} {n : Nat} {g : Sgl} {l : List Nat} (hn : n < 16) (he : s.portEn n = true) (hg : sglErr g 262144 = none) :
    s.hotLoad n g l = .ok (s.modHop n (fun h =>
      { h with hot := (l.filter (fun a => decide (a < 2097152))).foldl (fun m a => SMap.put false m a true) [] })) := by
  unfold State.hotLoad
  rw [if_neg (by simp [he]; omega), hg]

theorem State.hotEdit_ok {s : State} {n : Nat} {l : List (BitVec 32)} (hn : n < 16) (he : s.portEn n = true) (h0 : l ≠ []) (h64 : l.length ≤ 64)
    (hl : ∀ e ∈ l, bitsN e.toNat 30 22 = 0 ∧ e.toNat % 2 ^ 22 < s.backing n) :
    s.hotEdit n l = .ok (l.foldl (fun s e => s.hotEdit1 n e) s) := by
  have h1 : ¬ (l.isEmpty = true ∨ 64 < l.length ∨ l.any (fun e => decide (bitsN e.toNat 30 22 ≠ 0)) = true) := by
    rintro (h | h | h)
    · exact h0 (List.isEmpty_iff.mp h)
    · omega
    · obtain ⟨e, hm, hb⟩ := List.any_eq_true.mp h
      exact of_decide_eq_true hb (hl e hm).1
  have h2 : ¬ l.any (fun e => decide (s.backing n ≤ e.toNat % 2 ^ 22)) = true := by
    intro h
    obtain ⟨e, hm, hb⟩ := List.any_eq_true.mp h
    exact absurd (of_decide_eq_true hb) (Nat.not_le.mpr (hl e hm).2)
  unfold State.hotEdit
  rw [if_neg h1, if_neg (by simp [he]; omega), if_neg h2]

theorem State.evringBind_ok {s : State} {n f q : Nat} (hn : n < 16) (he : s.portEn n = true) (hf : f < 4096)
    (hv : (s.qp (f * 256 + q)).valid = true) (hk : (s.qp (f * 256 + q)).kind = 3) (ho : f = 0 ∨ s.fnSlip f = some (s.portSlip n)) :
    s.evringBind n f q = .ok (s.modHop n (fun x =>
      { x with evq := some (f, q), chans := x.chans.filter (fun c => decide (c.consumer ≠ .evring)) ++ [{ consumer := .evring, endSent := x.nextEnd }] })) := by
  unfold State.evringBind
  rw [if_neg (by simp [he]; omega), if_neg (by tauto), if_neg (by simp [hv, hk]; omega)]

end Sys2Proof.Machine

/-! SUPPORT. Commands that are staged and take effect, messages on their way out, and the status of the Time Unit. -/
namespace Sys2Proof.Machine

/-! ## Messages on their way out -/

/-- Sending what waits at a port writes the ports, their counters and the messages sent. -/
theorem State.pumpN_frame (s : State) (p fuel : Nat) :
    s.pumpN p fuel = { s with sps := (s.pumpN p fuel).sps, ctrs := (s.pumpN p fuel).ctrs, out := (s.pumpN p fuel).out } := by
  induction fuel generalizing s with
  | zero => rfl
  | succ n ih =>
    unfold State.pumpN
    extract_lets t
    split
    · rfl
    · split
      · rfl
      · extract_lets s1 s2 s3
        split
        · rfl
        · rw [ih]
          rfl

theorem State.sendOn_frame (s : State) (p : Nat) (m : SpMsg) :
    s.sendOn p m = { s with sps := (s.sendOn p m).sps, ctrs := (s.sendOn p m).ctrs, out := (s.sendOn p m).out } := by
  unfold State.sendOn State.pump
  rw [State.pumpN_frame]
  rfl

theorem State.foldl_sendOn_frame (g : State → SpMsg) (l : List Nat) (s : State) :
    l.foldl (fun s p => s.sendOn p (g s)) s = { s with
      sps := (l.foldl (fun s p => s.sendOn p (g s)) s).sps, ctrs := (l.foldl (fun s p => s.sendOn p (g s)) s).ctrs,
      out := (l.foldl (fun s p => s.sendOn p (g s)) s).out } := by
  induction l generalizing s with
  | nil => rfl
  | cons p r ih => rw [List.foldl_cons, ih, State.sendOn_frame]

theorem State.sendDown_frame (s : State) (b : SpBody) :
    s.sendDown b = { s with sps := (s.sendDown b).sps, ctrs := (s.sendDown b).ctrs, out := (s.sendDown b).out } :=
  State.foldl_sendOn_frame _ _ _

/-- Markers on the event streams are packets sent, and nothing else. -/
theorem State.markStreams_frame (s : State) (kind : Nat) (data : List Nat) :
    s.markStreams kind data = { s with out := (s.markStreams kind data).out } := by
  have h : ∀ (l : List (Nat × QPair)) (s : State),
      l.foldl (fun s e => s.emit .marker [e.1 / 256, e.1 % 256] ([kind, s.tim.tick] ++ data)) s =
        { s with out := (l.foldl (fun s e => s.emit .marker [e.1 / 256, e.1 % 256] ([kind, s.tim.tick] ++ data)) s).out } := by
    intro l
    induction l with
    | nil => exact fun _ => rfl
    | cons e r ih =>
      intro s
      rw [List.foldl_cons, ih]
      rfl
  exact h _ _

theorem State.markStreams_regs (s : State) (kind : Nat) (data : List Nat) : (s.markStreams kind data).regs = s.regs := by
  rw [State.markStreams_frame]

theorem State.markStreams_qps (s : State) (kind : Nat) (data : List Nat) : (s.markStreams kind data).qps = s.qps := by
  rw [State.markStreams_frame]

/-! ## Commands that are staged, and their effect -/

theorem brewFor_bind (s : State) (f c) : (s.brewFor f c).bind = s.bind := by
  obtain ⟨ds, hd⟩ := s.brewFor_frame f c
  rw [hd, State.brew_frame]

theorem brewFor_sps (s : State) (f c) : (s.brewFor f c).sps = s.sps := by
  obtain ⟨ds, hd⟩ := s.brewFor_frame f c
  rw [hd, State.brew_frame]

/-- A command whose own checks pass d ticks before its tick is staged. -/
theorem State.cmd_stages {s u : State} {h : CmdRef} {opc d : Nat} {c : Instr} {f : Fetched} {run : State → Fetched → Res} {r : BitVec 128}
    (hs : s.startable h opc = some f) (ho : (s.brewFor f c).objErr opc h.fn.toNat f.objId.toNat = none) (ha : f.atEn = true)
    (hl : (s.brewFor f c).lead f.atTick = some d) (hr : run (s.brewFor f c) f = .ok u r) :
    s.cmd h opc c run = (s.brewFor f c).stage h f d c := by
  unfold State.cmd
  simp only [hs, ho, ha, hl, hr, Res.ok]
  rfl

/-- A command that the binding's root also tells its tree of is staged like any other; only the root sends. -/
theorem State.stagedDown_stages {s b u : State} {h : CmdRef} {opc d : Nat} {c : Instr} {f : Fetched} {run : State → Fetched → Res}
    {r : BitVec 128} (hs : s.startable h opc = some f) (hb : b = s.brewFor f c) (ho : b.objErr opc h.fn.toNat f.objId.toNat = none)
    (ha : f.atEn = true) (hl : b.lead f.atTick = some d) (hr : run b f = .ok u r) (k : Nat) (op : MarkerOp) :
    (s.stagedDown (s.cmd h opc c run) k op).tim = s.tim ∧ (s.stagedDown (s.cmd h opc c run) k op).regs = b.regs ∧
      (s.stagedDown (s.cmd h opc c run) k op).staged = s.staged ++ [{ ref := h, tick := s.tim.tick + d, obj := f.objId.toNat, cmd := c }] ∧
      ((b.bind.member && b.bind.isRoot) = false → (s.stagedDown (s.cmd h opc c run) k op).sps = s.sps) := by
  subst hb
  rw [State.cmd_stages hs ho ha hl hr]
  have ht : ((s.brewFor f c).stage h f d c).tim = s.tim := by
    rw [State.stage_tim, State.brewFor_tim]
  have hq : ((s.brewFor f c).stage h f d c).staged = s.staged ++ [{ ref := h, tick := s.tim.tick + d, obj := f.objId.toNat, cmd := c }] := by
    rw [← brewFor_staged s f c, ← brewFor_tim s f c]
    rfl
  unfold State.stagedDown
  split
  next hc =>
    rw [State.sendDown_frame]
    refine ⟨ht, rfl, hq, fun hm => ?_⟩
    rw [brewFor_bind] at hm
    simp [hc] at hm
  · exact ⟨ht, rfl, hq, fun _ => brewFor_sps s f c⟩

/-- The next staged command whose run passes is answered with what its run gives. -/
theorem State.effect_ok {s u : State} {x : Staged} {f : Fetched} {opc : Nat} {run : State → Fetched → Res} {r : BitVec 128} {bad : Bool}
    (hx : s.nextStaged = some x) (hr : runStaged x.cmd bad = some (opc, run)) (hf : s.fetchedOf x.ref = some f)
    (ho : State.objErr { s with staged := s.staged.erase x } opc x.ref.fn.toNat f.objId.toNat = none)
    (hu : run { s with staged := s.staged.erase x } f = .ok u r) (hq : u.fetchedOf x.ref = s.fetchedOf x.ref) :
    ∃ t, exec (.stagedCommandEffect bad) s = .next t ∧ State.Answered u t x.ref 0 0 r := by
  have hf' : State.fetchedOf { s with staged := s.staged.erase x } x.ref = some f := hf
  refine ⟨s.effect x bad, ?_, ?_⟩
  · simp only [exec, execStagedCommandEffect, hx]
  · simp only [State.effect, hr, State.staged1, hf', ho, hu]
    exact State.finish_ok (hq.trans hf)

/-! ## The status of the Time Unit -/

/-- t is s but for registers, of TU_STAT the state is v and the alignment bit may have changed, and no other register has. -/
structure State.TimeSet (s t : State) (v : Nat) : Prop where
  frame : t = { s with regs := t.regs }
  wf : SMap.wf none t.regs = true
  state : t.timeState = v
  field : ∀ hi lo, 2 < lo → hi < 14 ∨ 14 < lo → t.rfld tuStat hi lo = s.rfld tuStat hi lo
  reg : ∀ k, k ≠ tuStat → t.reg k = s.reg k

theorem State.TimeSet.qps {s t : State} {v : Nat} (h : s.TimeSet t v) : t.qps = s.qps := by rw [h.frame]

theorem State.TimeSet.tim {s t : State} {v : Nat} (h : s.TimeSet t v) : t.tim = s.tim := by rw [h.frame]

/-- Without a device misaligned for the first time the alignment bit is updated, and no fault raised. -/
theorem State.alignUpdate_quiet {s : State}
    (h : (s.isRoot = true ∨ s.timeState ≠ 3 ∧ s.timeState ≠ 4) ∧ s.tim.alignRun < 16 ∨ s.rfld tuStat 14 14 = 1) :
    ∃ a, s.alignUpdate = s.setRfld tuStat 14 14 a := by
  unfold State.alignUpdate
  extract_lets a was s1
  refine ⟨a.toNat, if_neg fun hc => ?_⟩
  obtain ⟨ha, hw⟩ := hc
  rcases h with ⟨hr, hn⟩ | h
  · simp only [a, Bool.or_eq_true, Bool.and_eq_true, decide_eq_true_eq] at ha
    rcases ha with ⟨h1, h2⟩ | ha
    · rcases hr with hr | ⟨h3, h4⟩
      · simp [hr] at h1
      · rcases h2 with h2 | h2
        · exact h3 h2
        · exact h4 h2
    · omega
  · simp [was, h] at hw

theorem State.setTimeState_quiet {s : State} {v : Nat} (hw : SMap.wf none s.regs = true) (hv : v < 8)
    (h : (s.isRoot = true ∨ v ≠ 3 ∧ v ≠ 4) ∧ s.tim.alignRun < 16 ∨ s.rfld tuStat 14 14 = 1) : s.TimeSet (s.setTimeState v) v := by
  have hw1 : SMap.wf none (s.setRfld tuStat 2 0 v).regs = true := State.setRfld_regs_wf hw _ _ _ _
  have hs : (s.setRfld tuStat 2 0 v).timeState = v := by
    rw [State.timeState, State.rfld_setRfld_self hw (by omega)]
    exact Nat.mod_eq_of_lt hv
  have ha : ((s.setRfld tuStat 2 0 v).isRoot = true ∨ (s.setRfld tuStat 2 0 v).timeState ≠ 3 ∧ (s.setRfld tuStat 2 0 v).timeState ≠ 4) ∧
      (s.setRfld tuStat 2 0 v).tim.alignRun < 16 ∨ (s.setRfld tuStat 2 0 v).rfld tuStat 14 14 = 1 := by
    rw [hs, State.isRoot, State.rfld_setRfld_apart hw (by omega) (by omega), State.rfld_setRfld_apart hw (by omega) (by omega)]
    exact h
  obtain ⟨a, ha⟩ := State.alignUpdate_quiet ha
  rw [State.setTimeState, ha]
  refine ⟨rfl, State.setRfld_regs_wf hw1 _ _ _ _, ?_, fun hi lo h1 h2 => ?_, fun k hk => ?_⟩
  · rw [State.timeState, State.rfld_setRfld_apart hw1 (by omega) (by omega)]
    exact hs
  · rw [State.rfld_setRfld_apart hw1 (by omega) (by omega), State.rfld_setRfld_apart hw (by omega) (by omega)]
  · rw [State.reg_setRfld_ne _ _ _ _ hk, State.reg_setRfld_ne _ _ _ _ hk]

end Sys2Proof.Machine

/-! SUPPORT. TIME_SET_TICK and TIME_ACCEPT_JUMP. -/
namespace Sys2Proof.Machine

theorem State.setTick_ok {s : State} {q : Nat} {far : Bool} (h1 : 1 ≤ q) (h2 : q ≤ 64) (hf : s.follower = false) (hu : s.tickInUse = false)
    (hm : (far && s.bind.member) = false) : s.setTick q far = .ok (s.newTickLen q) := by
  unfold State.setTick
  rw [if_neg (by omega), if_neg (by simp [hf]), if_neg (by simp [hu, hm])]

/-- With a jump pending TIME_ACCEPT_JUMP passes on a root, and elsewhere while no graph runs. -/
theorem State.acceptJump_passes {s : State} (rs rt : Nat) (hp : s.rfld tuStat 12 12 = 1)
    (hg : s.rfld tuStat 13 13 = 1 ∨ ∀ g ∈ s.graphs, g.2.exist = true → g.2.state ≠ 1) : ∃ u r, s.acceptJump rs rt = .ok u r := by
  have hn : s.rfld tuStat 13 13 ≠ 1 → ¬ s.graphs.any (fun e => e.2.exist && decide (e.2.state = 1)) = true := by
    intro hr h
    obtain ⟨e, hm, he⟩ := List.any_eq_true.mp h
    simp only [Bool.and_eq_true, decide_eq_true_eq] at he
    exact (hg.resolve_left hr) e hm he.1 he.2
  unfold State.acceptJump
  extract_lets p root old s1 step s2
  rw [if_neg (by omega)]
  by_cases hr : root
  · rw [if_pos hr]
    exact ⟨_, _, rfl⟩
  · rw [if_neg hr, if_neg (hn hr)]
    exact ⟨_, _, rfl⟩

theorem tuStat_ne_src : tuStat ≠ tuB + 0x30 := by decide

/-- The state after a root accepts a jump of p: its epoch moved, no jump pending, LOCKED. -/
def State.rootJump (s : State) (p : Word) : State :=
  (((s.setReg (tuB + 0x30) (s.reg (tuB + 0x30) + p)).setRfld tuStat 12 12 0).markStreams 2
    [(s.reg (tuB + 0x30)).toNat, (s.reg (tuB + 0x30) + p).toNat]).setTimeState 1

theorem State.acceptJump_root {s : State} (rs rt : Nat) (hp : s.rfld tuStat 12 12 = 1) (hr : s.isRoot = true) :
    s.acceptJump rs rt = .ok (s.rootJump (s.reg (tuB + 0x38))) (result [((s.reg (tuB + 0x38)).toNat, 8)]) := by
  unfold State.acceptJump
  extract_lets p root old s1 step s2
  rw [if_neg (by omega), if_pos (by simpa [State.isRoot] using hr)]
  rfl

theorem State.rootJump_spec {s : State} (hw : SMap.wf none s.regs = true) (hr : s.isRoot = true) (ha : s.tim.alignRun < 16) (p : Word) :
    (s.rootJump p).qps = s.qps ∧ (s.rootJump p).reg (tuB + 0x30) = s.reg (tuB + 0x30) + p ∧ (s.rootJump p).rfld tuStat 12 12 = 0 ∧
      (s.rootJump p).timeState = 1 ∧ (s.rootJump p).tim = s.tim ∧ ∀ k, k ≠ tuB + 0x30 → k ≠ tuStat → (s.rootJump p).reg k = s.reg k := by
  unfold State.rootJump
  generalize hs1 : s.setReg (tuB + 0x30) (s.reg (tuB + 0x30) + p) = s1
  generalize hs2 : (s1.setRfld tuStat 12 12 0).markStreams 2 _ = s2
  have hw1 : SMap.wf none s1.regs = true := hs1 ▸ State.setReg_regs_wf hw _ _
  have hg2 : s2.regs = (s1.setRfld tuStat 12 12 0).regs := by rw [← hs2, State.markStreams_regs]
  have hk2 : ∀ k, s2.reg k = (s1.setRfld tuStat 12 12 0).reg k := State.reg_congr hg2
  have hr2 : s2.isRoot = true := by
    rw [State.isRoot, State.rfld_congr (hk2 _), State.rfld_setRfld_apart hw1 (by omega) (by omega), ← hs1,
      State.rfld_setReg_ne _ _ _ _ tuStat_ne_src]
    exact hr
  have ht2 : s2.tim = s.tim := by rw [← hs2, State.markStreams_tim, State.setRfld_tim, ← hs1, State.setReg_tim]
  have hq2 : s2.qps = s.qps := by rw [← hs2, State.markStreams_qps, State.setRfld_qps, ← hs1, State.setReg_qps]
  have ht := State.setTimeState_quiet (s := s2) (v := 1) (hg2 ▸ State.setRfld_regs_wf hw1 _ _ _ _) (by omega) (.inl ⟨.inl hr2, ht2 ▸ ha⟩)
  refine ⟨ht.qps.trans hq2, ?_, ?_, ht.state, ht.tim.trans ht2, fun k h1 h2 => ?_⟩
  · rw [ht.reg _ tuStat_ne_src.symm, hk2, State.reg_setRfld_ne _ _ _ _ tuStat_ne_src.symm, ← hs1, State.reg_setReg_self _ _ hw]
  · rw [ht.field 12 12 (by omega) (by omega), State.rfld_congr (hk2 _)]
    exact State.rfld_setRfld_self hw1 (by omega) _ _ _
  · rw [ht.reg k h2, hk2, State.reg_setRfld_ne _ _ _ _ h2, ← hs1, State.reg_setReg_ne _ _ h1]

/-- The state after a device that is not a root accepts a jump to the root's time. -/
def State.stepTime (s : State) (rs rt : Nat) : State :=
  (((s.portsAt rt).modTim (fun t => { t with systime := rs, tick := rt, kTick := rt, bK := rs, bigRun := 0, smallRun := 0 })).setRfld
    tuStat 12 12 0).setTimeState 1

theorem State.acceptJump_steps {s : State} (rs rt : Nat) (hp : s.rfld tuStat 12 12 = 1) (hr : s.isRoot = false)
    (hg : ∀ g ∈ s.graphs, g.2.exist = true → g.2.state ≠ 1) :
    s.acceptJump rs rt = .ok (s.stepTime rs rt) (result [(unsig 64 ((rs : Int) - (s.tim.systime : Int)), 8)]) := by
  have hn : ¬ s.graphs.any (fun e => e.2.exist && decide (e.2.state = 1)) = true := by
    intro h
    obtain ⟨e, hm, he⟩ := List.any_eq_true.mp h
    simp only [Bool.and_eq_true, decide_eq_true_eq] at he
    exact hg e hm he.1 he.2
  unfold State.acceptJump
  extract_lets p root old s1 step s2
  rw [if_neg (by omega), if_neg (by simpa [State.isRoot] using hr), if_neg hn]
  rfl

theorem State.stepTime_spec {s : State} (hw : SMap.wf none s.regs = true) (ha : s.tim.alignRun < 16) (rs rt : Nat) :
    (s.stepTime rs rt).qps = s.qps ∧
      (s.stepTime rs rt).tim = { s.tim with systime := rs, tick := rt, kTick := rt, bK := rs, bigRun := 0, smallRun := 0 } ∧
      (s.stepTime rs rt).rfld tuStat 12 12 = 0 ∧ (s.stepTime rs rt).timeState = 1 := by
  unfold State.stepTime
  generalize hs1 : (s.portsAt rt).modTim _ = s1
  have hw1 : SMap.wf none s1.regs = true := by
    rw [← hs1]
    exact hw
  have ha1 : s1.tim.alignRun < 16 := by
    rw [← hs1]
    exact ha
  have ht := State.setTimeState_quiet (s := s1.setRfld tuStat 12 12 0) (v := 1) (State.setRfld_regs_wf hw1 _ _ _ _) (by omega)
    (.inl ⟨.inr (by omega), ha1⟩)
  refine ⟨?_, ?_, ?_, ht.state⟩
  · rw [ht.qps, State.setRfld_qps, ← hs1]
    rfl
  · rw [ht.tim, State.setRfld_tim, ← hs1]
    rfl
  · rw [ht.field 12 12 (by omega) (by omega)]
    exact State.rfld_setRfld_self hw1 (by omega) _ _ _

/-! ## The statement -/

theorem State.fetchedOf_congr {s t : State} (h : t.qps = s.qps) (r : CmdRef) : t.fetchedOf r = s.fetchedOf r := by
  unfold State.fetchedOf State.qp
  rw [h]

/-- Settles O39: each command by its run's value where its checks pass, and a staged command by its run on the state of its tick. -/
theorem portAndTimeCommandsComplete : Obligations.PortAndTimeCommandsComplete := by
  refine ⟨?_, ?_, ?_, ?_, ?_, ?_, ?_, ?_, ?_⟩
  case refine_1 =>
    rintro h port g l f _ s b hs hc rfl hn he hg
    obtain ⟨t, ht, hans⟩ := State.cmd_ok hs (run := fun s _ => s.hotLoad port.toNat g l) (State.hotLoad_ok hn he hg) rfl
    refine ⟨_, t, ht, hans, rfl, ?_, fun a => ?_, fun k hk => State.modHop_hop_ne b hk _⟩
    · rw [State.modHop_hop_self (State.canonical_hops hc)]
    · rw [State.modHop_hop_self (State.canonical_hops hc), get_foldl_put_true]
      simp
  case refine_2 =>
    rintro h port l f _ s b hs hc hw rfl hn he h0 h64 hl
    obtain ⟨hf, hget⟩ := State.foldl_hotEdit1 port.toNat l ⟨State.canonical_hops hc, hw⟩
    obtain ⟨t, ht, hans⟩ := State.cmd_ok hs (run := fun s _ => s.hotEdit port.toNat l) (State.hotEdit_ok hn he h0 h64 hl)
      (State.fetchedOf_congr (by rw [hf]) h)
    refine ⟨_, t, ht, hans, hf, fun k a => ?_⟩
    rw [hget k a]
    change _ = match l.reverse.find? (fun e => decide (hotSpot port.toNat e = (k, a))) with
      | some e => e.getLsbD 31
      | none => SMap.get false (b.hop k).hot a
    cases l.reverse.find? (fun e => decide (hotSpot port.toNat e = (k, a))) <;> rfl
  case refine_3 =>
    rintro h port q func f _ _ s b hs rfl rfl hn he hf hv hk ho
    refine State.cmd_ok hs (run := fun s _ => s.evringBind port.toNat func.toNat q.toNat) (State.evringBind_ok hn he hf hv hk ?_) rfl
    exact ho.imp_left (fun h0 => by rw [h0]; rfl)
  case refine_4 =>
    intro h f s b hs
    exact State.cmd_ok hs rfl rfl
  case refine_5 =>
    intro h q far f d s b hs hb ho ha hl h1 h2 hf hu hm
    exact ⟨_, rfl, State.stagedDown_stages hs hb ho ha hl (run := fun s _ => s.setTick q.toNat far) (State.setTick_ok h1 h2 hf hu hm) _ _⟩
  case refine_6 =>
    rintro h q far bad x f s _ hx hc hf rfl ho h1 h2 hfo hu hm
    exact State.effect_ok hx (by rw [hc]; rfl) hf ho (State.setTick_ok (s := { s with staged := s.staged.erase x }) h1 h2 hfo hu hm) rfl
  case refine_7 =>
    intro h rs rt f d s b hs hb ho ha hl hp hg
    obtain ⟨u, r, hr⟩ := State.acceptJump_passes rs.toNat rt.toNat hp hg
    exact ⟨_, rfl, State.stagedDown_stages hs hb ho ha hl (run := fun s _ => s.acceptJump rs.toNat rt.toNat) hr _ _⟩
  case refine_8 =>
    rintro h rs rt bad x f _ _ s hc hx hcmd hf ho hp hr ha rfl rfl
    obtain ⟨hq, hsrc, hpend, hlock, htim, hregs⟩ := State.rootJump_spec (s := { s with staged := s.staged.erase x })
      (State.canonical_regs hc) hr ha (s.reg (tuB + 0x38))
    obtain ⟨t, ht, hans⟩ := State.effect_ok hx (bad := bad) (by rw [hcmd]; rfl) hf ho
      (State.acceptJump_root (s := { s with staged := s.staged.erase x }) rs.toNat rt.toNat hp hr) (State.fetchedOf_congr hq _)
    exact ⟨_, t, ht, hans, hsrc, hpend, hlock, htim, hregs⟩
  case refine_9 =>
    intro h rs rt bad x f s hc hx hcmd hf ho hp hr ha hg
    obtain ⟨hq, htim, hpend, hlock⟩ := State.stepTime_spec (s := { s with staged := s.staged.erase x })
      (State.canonical_regs hc) ha rs.toNat rt.toNat
    obtain ⟨t, ht, hans⟩ := State.effect_ok hx (bad := bad) (by rw [hcmd]; rfl) hf ho
      (State.acceptJump_steps (s := { s with staged := s.staged.erase x }) rs.toNat rt.toNat hp hr hg) (State.fetchedOf_congr hq _)
    exact ⟨_, t, ht, hans, htim, hpend, hlock⟩

end Sys2Proof.Machine

/-! SUPPORT. Synchronisation from a source, and the choice of the source (R46 to R54). -/
namespace Sys2Proof.Machine

/-! ## An alarm -/

/-- An alarm is a record, its counters, the OBS_ERR bit and the slipcase's lost records. -/
theorem State.alarm_frame (s : State) (cause source slip : Nat) (present : Bool) : s.alarm cause source slip present =
    { s with regs := (s.alarm cause source slip present).regs, ctrs := (s.alarm cause source slip present).ctrs,
             obs := (s.alarm cause source slip present).obs, slips := (s.alarm cause source slip present).slips } := by
  unfold State.alarm
  extract_lets s1 t held s2 s3
  have h2 : s2 = { s with regs := s2.regs, ctrs := s2.ctrs } := by
    simp only [s2, s1, State.orReg, State.setReg, State.bump]
  have h3 : s3 = { s with regs := s3.regs, ctrs := s3.ctrs, obs := s3.obs } := by
    simp only [s3, State.modObs]
    rw [h2]
  split
  · rfl
  · split
    · rfl
    · split
      · rw [h3]
        rfl
      · exact h3

theorem State.alarm_reg (s : State) (cause source slip : Nat) (present : Bool) {k : Nat} (hk : k ≠ obsB + 4) :
    (s.alarm cause source slip present).reg k = s.reg k := by
  unfold State.alarm
  extract_lets s1 t held s2 s3
  have h2 : s2.reg k = s.reg k := State.reg_orReg_ne _ _ hk
  split
  · rfl
  · split
    · rfl
    · split
      · exact h2
      · exact h2

/-! ## Synchronisation -/

/-- The run of valid synchronisation of a source goes on. -/
def Tim.hear (m : Tim) (src : Nat) : Tim :=
  { m with lastAt := SMap.put 0 m.lastAt src m.systime, runFrom := SMap.upd none m.runFrom src (fun r => some (r.getD m.systime)) }

/-- The state after a valid synchronisation of the followed source, before its offset is looked at. -/
def State.heard (s : State) (src freq : Nat) : State :=
  ((s.modTim (fun m => m.hear src)).setReg (tuB + 0x40) (BitVec.ofNat 64 (freq % 2 ^ 32))).modTim (fun m => { m with locked := true })

theorem State.sync_none (s : State) {src : Nat} (h : src = 0 ∨ 4 < src) (time off freq res) : s.sync src time off freq res = s := if_pos h

theorem State.sync_other {s : State} {src : Nat} (h0 : src ≠ 0) (h4 : src ≤ 4) (hc : src ≠ s.curSrc) (time off freq res) :
    s.sync src time off freq res = s.modTim (fun m => m.hear src) := by
  unfold State.sync
  rw [if_neg (by omega)]
  exact if_pos hc

theorem State.heard_reg (s : State) (src freq : Nat) {k : Nat} (h : k ≠ tuB + 0x40) : (s.heard src freq).reg k = s.reg k :=
  State.reg_setReg_ne _ _ h

theorem State.heard_wf {s : State} (h : SMap.wf none s.regs = true) (src freq : Nat) : SMap.wf none (s.heard src freq).regs = true :=
  State.setReg_regs_wf (s := s.modTim _) h _ _

theorem State.heard_stat (s : State) (src freq hi lo : Nat) : (s.heard src freq).rfld tuStat hi lo = s.rfld tuStat hi lo :=
  State.rfld_congr (s.heard_reg src freq (by decide)) _ _

theorem State.heard_isRoot (s : State) (src freq : Nat) : (s.heard src freq).isRoot = s.isRoot := by
  rw [State.isRoot, State.isRoot, State.heard_stat]

/-- On a root the first synchronisation of the followed source registers the epoch and locks. -/
theorem State.sync_first {s : State} {src : Nat} (h0 : src ≠ 0) (h4 : src ≤ 4) (hc : src = s.curSrc) (hr : s.isRoot = true)
    (he : s.rfld tuStat 15 15 = 0) (time off freq res) : s.sync src time off freq res =
      (((s.heard src freq).setReg (tuB + 0x30) (BitVec.ofNat 64 (time + 2 ^ 64 - s.tim.systime % 2 ^ 64))).setRfld tuStat 15 15 1).setTimeState 1 := by
  unfold State.sync
  extract_lets now s1 s2 s3
  have hs2 : s2 = s.heard src freq := rfl
  have hc1 : ¬ src ≠ s1.curSrc := not_not.mpr hc
  rw [if_neg (by omega), if_neg hc1, hs2, if_pos ⟨(s.heard_isRoot src freq).trans hr, (s.heard_stat src freq 15 15).trans he⟩]

/-- On a root a later synchronisation of the followed source is its offset's, where that leaves it a root. -/
theorem State.sync_later {s u : State} {src freq : Nat} {off : Int} (h0 : src ≠ 0) (h4 : src ≤ 4) (hc : src = s.curSrc)
    (he : s.rfld tuStat 15 15 = 1) (hu : (s.heard src freq).offset off = u) (hr : u.isRoot = true) (time res) :
    s.sync src time off freq res = u := by
  unfold State.sync
  extract_lets now s1 s2 s3
  have hs2 : s2 = s.heard src freq := rfl
  have hc1 : ¬ src ≠ s1.curSrc := not_not.mpr hc
  have hn : ¬ (s2.isRoot = true ∧ s2.rfld tuStat 15 15 = 0) := by
    rw [hs2, State.heard_stat, he]
    omega
  have hs3 : s3 = u := hu
  rw [if_neg (by omega), if_neg hc1, if_neg hn, hs3, if_pos hr]

/-! ## Offsets -/

/-- The state in which an offset has been noted, and what it adds to the runs of small and of large ones. -/
def State.noted (s : State) (off : Int) (big : Bool) : State :=
  (s.setReg (tuB + 0x28) (BitVec.ofInt 64 off)).modTim
    (fun m => { m with bigRun := if big then m.bigRun + 1 else 0, smallRun := if big then 0 else m.smallRun + 1 })

theorem State.noted_reg (s : State) (off : Int) (big : Bool) {k : Nat} (h : k ≠ tuB + 0x28) : (s.noted off big).reg k = s.reg k :=
  State.reg_setReg_ne _ _ h

theorem State.noted_wf {s : State} (h : SMap.wf none s.regs = true) (off : Int) (big : Bool) : SMap.wf none (s.noted off big).regs = true :=
  State.setReg_regs_wf h _ _

theorem State.noted_stat (s : State) (off : Int) (big : Bool) (hi lo : Nat) : (s.noted off big).rfld tuStat hi lo = s.rfld tuStat hi lo :=
  State.rfld_congr (s.noted_reg off big (by decide)) _ _

theorem State.jumpLimit_setReg (s : State) (v : Word) : (s.setReg (tuB + 0x28) v).jumpLimit = s.jumpLimit := by
  unfold State.jumpLimit State.isRoot
  rw [State.rfld_setReg_ne _ _ _ _ (by decide), State.rfld_setReg_ne _ _ _ _ (by decide), State.setReg_bind]

theorem State.offset_within {s : State} {off : Int} (h4 : s.timeState ≠ 4) (hl : off.natAbs ≤ s.jumpLimit) :
    s.offset off = (s.noted off false).slew off := by
  unfold State.offset
  extract_lets u s1 big s2 s3
  have hb : big = false := decide_eq_false (by rw [State.jumpLimit_setReg]; omega)
  have hs2 : s2 = s.noted off false := by rw [← hb]; rfl
  have h42 : ¬ s2.timeState = 4 := by
    rw [hs2, State.timeState, State.noted_stat]
    exact h4
  rw [if_neg h42, if_neg (by rw [hb]; decide), hs2]

/-- The state after the second offset in a row beyond the limit: the jump pending, SYSTIME unmoved. -/
def State.refused (s : State) (off : Int) : State :=
  ((((s.noted off true).setReg (tuB + 0x38) (BitVec.ofInt 64 off)).setRfld tuStat 12 12 1).setTimeState 4).alarm 0x101 0x71 0xFF

theorem State.offset_beyond {s : State} {off : Int} (h4 : s.timeState ≠ 4) (hl : s.jumpLimit < off.natAbs) (hb : 1 ≤ s.tim.bigRun) :
    s.offset off = s.refused off := by
  unfold State.offset
  extract_lets u s1 big s2 s3
  have hbig : big = true := decide_eq_true (by rw [State.jumpLimit_setReg]; omega)
  have hs2 : s2 = s.noted off true := by rw [← hbig]; rfl
  have h42 : ¬ s2.timeState = 4 := by
    rw [hs2, State.timeState, State.noted_stat]
    exact h4
  have hrun : 2 ≤ s2.tim.bigRun := by
    rw [hs2]
    exact Nat.succ_le_succ hb
  rw [if_neg h42, if_pos hbig, if_pos hrun]
  simp only [s3, hs2]
  rfl

end Sys2Proof.Machine

/-! SUPPORT. What a synchronisation and the choice of the source leave (R49 to R54). -/
namespace Sys2Proof.Machine

/-! ## The slew -/

/-- The state in which the end of a slew has been noted. -/
def State.slewing (s : State) (off : Int) : State :=
  if off = 0 then s else s.modTim (fun m => { m with slewEnd := m.systime + off.natAbs * 10000 })

theorem State.slew_eq (s : State) (off : Int) : s.slew off = (s.slewing off).setTimeState (if off = 0 then 1 else 2) := by
  unfold State.slew State.slewing
  split <;> rfl

theorem State.slewing_frame (s : State) (off : Int) : s.slewing off = { s with tim := (s.slewing off).tim } := by
  unfold State.slewing
  split <;> rfl

theorem State.slewing_regs (s : State) (off : Int) : (s.slewing off).regs = s.regs := by
  rw [State.slewing_frame]

theorem State.slewing_alignRun (s : State) (off : Int) : (s.slewing off).tim.alignRun = s.tim.alignRun := by
  unfold State.slewing
  split <;> rfl

theorem State.slewing_systime (s : State) (off : Int) : (s.slewing off).tim.systime = s.tim.systime := by
  unfold State.slewing
  split <;> rfl

theorem State.slewing_slewEnd {s : State} {off : Int} (h : off ≠ 0) : (s.slewing off).tim.slewEnd = s.tim.systime + off.natAbs * 10000 := by
  unfold State.slewing
  rw [if_neg h]
  rfl

theorem State.isRoot_congr {s t : State} (h : t.rfld tuStat 13 13 = s.rfld tuStat 13 13) : t.isRoot = s.isRoot := by
  rw [State.isRoot, State.isRoot, h]

theorem State.slew_timeSet {s : State} (hw : SMap.wf none s.regs = true) (hr : s.isRoot = true) (ha : s.tim.alignRun < 16) (off : Int) :
    (s.slewing off).TimeSet (s.slew off) (if off = 0 then 1 else 2) := by
  rw [State.slew_eq]
  refine State.setTimeState_quiet ((s.slewing_regs off).symm ▸ hw) (by split <;> omega) (.inl ⟨.inl ?_, by rwa [State.slewing_alignRun]⟩)
  rw [State.isRoot_congr (State.rfld_congr (State.reg_congr (s.slewing_regs off) _) _ _)]
  exact hr

/-! ## Sources and their qualification -/

theorem State.mem_candidates {s : State} {c : Nat} (h : c ∈ s.candidates) : 1 ≤ c ∧ c ≤ 4 := by
  unfold State.candidates at h
  split at h
  · have hm := (List.mem_filter.mp (List.mem_eraseDups.mp h)).2
    have := of_decide_eq_true hm
    omega
  · rw [List.mem_singleton.mp h]
    omega

theorem State.qualified_toNat (s : State) (c : Nat) : s.rfld tuStat (7 + c) (7 + c) = (s.qualified c).toNat := fld_bit _ _

theorem toNat_bool_inj {a b : Bool} (h : a.toNat = b.toNat) : a = b := by
  cases a <;> cases b <;> simp_all

theorem State.qualified_congr {s t : State} {c : Nat} (h : t.rfld tuStat (7 + c) (7 + c) = s.rfld tuStat (7 + c) (7 + c)) :
    t.qualified c = s.qualified c := by
  rw [State.qualified_toNat, State.qualified_toNat] at h
  exact toNat_bool_inj h

theorem State.candidates_congr {s t : State} (hr : t.isRoot = s.isRoot) (hk : t.reg (tuB + 0x18) = s.reg (tuB + 0x18)) :
    t.candidates = s.candidates := by
  rw [State.candidates, State.candidates, hr, hk]

theorem State.qualified_setQualified_self {s : State} (hw : SMap.wf none s.regs = true) {c : Nat} (hc : c ≤ 4) (b : Bool) :
    (s.setQualified c b).qualified c = b := by
  rw [State.qualified, State.setQualified, State.setRfld, State.reg_setReg_self _ _ hw, getLsbD_setFld (by omega), if_pos (by omega),
    Nat.sub_self]
  cases b <;> rfl

theorem State.setQualified_stat {s : State} (hw : SMap.wf none s.regs = true) {c hi lo : Nat} (hc : c ≤ 4) (b : Bool)
    (h : hi < 7 + c ∨ 7 + c < lo) : (s.setQualified c b).rfld tuStat hi lo = s.rfld tuStat hi lo :=
  State.rfld_setRfld_apart hw (by omega) (by omega) _ _

theorem State.setQualified_reg (s : State) (c : Nat) (b : Bool) {k : Nat} (h : k ≠ tuStat) : (s.setQualified c b).reg k = s.reg k :=
  State.reg_setRfld_ne _ _ _ _ h

theorem State.setQualified_isRoot {s : State} (hw : SMap.wf none s.regs = true) {c : Nat} (hc : c ≤ 4) (b : Bool) :
    (s.setQualified c b).isRoot = s.isRoot :=
  State.isRoot_congr (State.setQualified_stat hw hc b (.inr (by omega)))

theorem State.setQualified_candidates {s : State} (hw : SMap.wf none s.regs = true) {c : Nat} (hc : c ≤ 4) (b : Bool) :
    (s.setQualified c b).candidates = s.candidates :=
  State.candidates_congr (State.setQualified_isRoot hw hc b) (s.setQualified_reg c b (by decide))

/-! ## The choice of the source -/

theorem State.timeMarker_regs (s : State) (op : MarkerOp) : (s.timeMarker op).regs = s.regs := by
  unfold State.timeMarker
  split
  · rw [State.scheduleMarker, State.sendDown_frame]
    rfl
  · split
    · exact State.markStreams_regs _ _ _
    · exact State.markStreams_regs _ _ _
    · rfl

/-- A change of the time's state raises no misalignment: a root within the alignment, or one misaligned already. -/
def State.Quiet (s : State) : Prop := s.isRoot = true ∧ s.tim.alignRun < 16 ∨ s.rfld tuStat 14 14 = 1

theorem State.Quiet.timeSet {s : State} (h : s.Quiet) (hw : SMap.wf none s.regs = true) {v : Nat} (hv : v < 8) : s.TimeSet (s.setTimeState v) v :=
  State.setTimeState_quiet hw hv (h.imp_left fun ⟨hr, ha⟩ => ⟨.inl hr, ha⟩)

theorem State.curSrc_setRfld {s : State} (hw : SMap.wf none s.regs = true) {c : Nat} (hc : c ≤ 4) : (s.setRfld tuStat 7 4 c).curSrc = c := by
  rw [State.curSrc, State.rfld_setRfld_self hw (by omega)]
  exact Nat.mod_eq_of_lt (by omega)

/-- The first qualified candidate is followed. -/
theorem State.selectSource_some {s : State} {c : Nat}
    (hf : s.candidates.find? (fun c => s.qualified c) = some c) :
    s.selectSource.regs = s.regs ∧ c = s.curSrc ∨ s.selectSource.regs = (s.setRfld tuStat 7 4 c).regs := by
  unfold State.selectSource
  rw [hf]
  dsimp only
  split
  next hc => exact .inl ⟨rfl, hc⟩
  · exact .inr (State.timeMarker_regs _ _)

theorem State.selectSource_curSrc {s : State} (hw : SMap.wf none s.regs = true) {c : Nat}
    (hf : s.candidates.find? (fun c => s.qualified c) = some c) : s.selectSource.curSrc = c := by
  rcases State.selectSource_some hf with ⟨h, hc⟩ | h
  · exact (State.rfld_congr (State.reg_congr h _) _ _).trans hc.symm
  · exact (State.rfld_congr (State.reg_congr h _) _ _).trans
      (State.curSrc_setRfld hw (State.mem_candidates (List.mem_of_find?_eq_some hf)).2)

/-- Without a qualified candidate a device that had locked stays with the lost source, in HOLDOVER. -/
theorem State.selectSource_holdover {s : State} (hf : s.candidates.find? (fun c => s.qualified c) = none) (h0 : s.curSrc ≠ 0)
    (hq : s.qualified s.curSrc = false) (hl : s.tim.locked = true) : s.selectSource = s.setTimeState 3 := by
  unfold State.selectSource
  rw [hf]
  dsimp only
  rw [if_neg (by simp [h0, hq]), if_pos hl]

theorem State.Quiet.unfollow {s : State} (h : s.Quiet) (hw : SMap.wf none s.regs = true) : (s.setRfld tuStat 7 4 0).Quiet := by
  unfold State.Quiet State.isRoot
  rw [State.rfld_setRfld_apart hw (by omega) (by omega), State.rfld_setRfld_apart hw (by omega) (by omega), State.setRfld_tim]
  exact h

/-- The choice of the source writes the source and the state of the time, and no other register or field. -/
theorem State.selectSource_spares {s : State} (hw : SMap.wf none s.regs = true) (hq : s.Quiet) :
    (∀ hi lo, 7 < lo → hi < 14 ∨ 14 < lo → s.selectSource.rfld tuStat hi lo = s.rfld tuStat hi lo) ∧
    ∀ k, k ≠ tuStat → s.selectSource.reg k = s.reg k := by
  have hu : ∀ hi lo, 7 < lo → (s.setRfld tuStat 7 4 0).rfld tuStat hi lo = s.rfld tuStat hi lo :=
    fun hi lo h7 => State.rfld_setRfld_apart hw (by omega) (by omega) _ _
  cases hf : s.candidates.find? (fun c => s.qualified c) with
  | some c =>
    rcases State.selectSource_some hf with ⟨h, -⟩ | h
    · exact ⟨fun hi lo _ _ => State.rfld_congr (State.reg_congr h _) _ _, fun k _ => State.reg_congr h _⟩
    · refine ⟨fun hi lo h7 _ => (State.rfld_congr (State.reg_congr h _) _ _).trans ?_, fun k hk => (State.reg_congr h _).trans ?_⟩
      · exact State.rfld_setRfld_apart hw (by omega) (by omega) _ _
      · exact State.reg_setRfld_ne _ _ _ _ hk
  | none =>
    unfold State.selectSource
    rw [hf]
    dsimp only
    split
    · exact ⟨fun _ _ _ _ => rfl, fun _ _ => rfl⟩
    · split
      · have ht := hq.timeSet hw (v := 3) (by omega)
        exact ⟨fun hi lo h7 h14 => ht.field hi lo (by omega) h14, ht.reg⟩
      · have ht := (hq.unfollow hw).timeSet (State.setRfld_regs_wf hw _ _ _ _) (v := 0) (by omega)
        exact ⟨fun hi lo h7 h14 => (ht.field hi lo (by omega) h14).trans (hu hi lo h7),
          fun k hk => (ht.reg k hk).trans (State.reg_setRfld_ne _ _ _ _ hk)⟩

end Sys2Proof.Machine

/-! SUPPORT. Each synchronisation and each change of a source's qualification. -/
namespace Sys2Proof.Machine

/-- A state that differs in its time and its registers still does so after a change of registers. -/
theorem State.onlyTime_regs {s u t : State} (hu : u = { s with tim := u.tim, regs := u.regs }) (ht : t = { u with regs := t.regs }) :
    t = { s with tim := t.tim, regs := t.regs } := by
  rw [ht, hu]

theorem State.heard_frame (s : State) (src freq : Nat) :
    s.heard src freq = { s with tim := (s.heard src freq).tim, regs := (s.heard src freq).regs } := by
  simp only [State.heard, State.modTim, State.setReg]

theorem State.heard_tim (s : State) (src freq : Nat) : (s.heard src freq).tim = { s.tim.hear src with locked := true } := by
  rw [State.heard, State.modTim_tim, State.setReg_tim, State.modTim_tim]

theorem State.heard_quiet {s : State} (hr : s.isRoot = true) (ha : s.tim.alignRun < 16) (src freq : Nat) :
    (s.heard src freq).isRoot = true ∧ (s.heard src freq).tim.alignRun < 16 := by
  rw [State.heard_isRoot, State.heard_tim]
  exact ⟨hr, ha⟩

theorem State.noted_isRoot (s : State) (off : Int) (big : Bool) : (s.noted off big).isRoot = s.isRoot :=
  State.isRoot_congr (s.noted_stat off big 13 13)

/-- The first synchronisation of the followed source on a root: the epoch is registered and the state LOCKED. -/
theorem State.sync_first_spec {s : State} {src : Nat} (hw : SMap.wf none s.regs = true) (h0 : src ≠ 0) (h4 : src ≤ 4) (hc : src = s.curSrc)
    (hr : s.isRoot = true) (he : s.rfld tuStat 15 15 = 0) (ha : s.tim.alignRun < 16) (time freq : Nat) (off res : Int) :
    ∃ t, s.sync src time off freq res = t ∧ t = { s with tim := t.tim, regs := t.regs } ∧ t.tim.locked = true ∧ t.tim.systime = s.tim.systime ∧
      t.reg (tuB + 0x30) = BitVec.ofNat 64 (time + 2 ^ 64 - s.tim.systime % 2 ^ 64) ∧ t.rfld tuStat 15 15 = 1 ∧ t.timeState = 1 ∧
      ∀ k, k ≠ tuB + 0x30 → k ≠ tuB + 0x40 → k ≠ tuStat → t.reg k = s.reg k := by
  refine ⟨_, State.sync_first h0 h4 hc hr he time off freq res, ?_⟩
  have hwh := State.heard_wf hw src freq
  have hfr := s.heard_frame src freq
  have hsys : (s.heard src freq).tim.systime = s.tim.systime := by
    rw [State.heard_tim]
    rfl
  have hlock : (s.heard src freq).tim.locked = true := by rw [State.heard_tim]
  obtain ⟨hrh, hah⟩ := State.heard_quiet hr ha src freq
  have hregh : ∀ k, k ≠ tuB + 0x40 → (s.heard src freq).reg k = s.reg k := fun k hk => s.heard_reg src freq hk
  generalize s.heard src freq = u at hwh hfr hsys hlock hrh hah hregh
  generalize BitVec.ofNat 64 (time + 2 ^ 64 - s.tim.systime % 2 ^ 64) = epoch
  have hw1 : SMap.wf none (u.setReg (tuB + 0x30) epoch).regs = true := State.setReg_regs_wf hwh _ _
  have hq : ((u.setReg (tuB + 0x30) epoch).setRfld tuStat 15 15 1).Quiet := by
    refine .inl ⟨?_, ?_⟩
    · rw [State.isRoot, State.rfld_setRfld_apart hw1 (by omega) (by omega), State.rfld_setReg_ne _ _ _ _ tuStat_ne_src]
      exact hrh
    · rw [State.setRfld_tim, State.setReg_tim]
      exact hah
  have ht := hq.timeSet (State.setRfld_regs_wf hw1 _ _ _ _) (v := 1) (by omega)
  refine ⟨?_, ?_, ?_, ?_, ?_, ht.state, fun k h1 h2 h3 => ?_⟩
  · exact State.onlyTime_regs (State.onlyTime_regs hfr (by simp only [State.setRfld, State.setReg])) ht.frame
  · rw [ht.tim, State.setRfld_tim, State.setReg_tim]
    exact hlock
  · rw [ht.tim, State.setRfld_tim, State.setReg_tim]
    exact hsys
  · rw [ht.reg _ tuStat_ne_src.symm, State.reg_setRfld_ne _ _ _ _ tuStat_ne_src.symm, State.reg_setReg_self _ _ hwh]
  · rw [ht.field 15 15 (by omega) (by omega)]
    exact State.rfld_setRfld_self hw1 (by omega) _ _ _
  · rw [ht.reg k h3, State.reg_setRfld_ne _ _ _ _ h3, State.reg_setReg_ne _ _ h1, hregh k h2]

/-- An offset within the limit on a root is slewed. -/
theorem State.offset_within_spec {s : State} {off : Int} (hw : SMap.wf none s.regs = true) (hr : s.isRoot = true) (ha : s.tim.alignRun < 16)
    (h4 : s.timeState ≠ 4) (hl : off.natAbs ≤ s.jumpLimit) :
    (s.offset off).isRoot = true ∧ (s.offset off).reg (tuB + 0x28) = BitVec.ofInt 64 off ∧
      (s.offset off).timeState = (if off = 0 then 1 else 2) ∧ (s.offset off).tim.systime = s.tim.systime ∧
      (off ≠ 0 → (s.offset off).tim.slewEnd = s.tim.systime + off.natAbs * 10000) ∧ (s.offset off).ctrs = s.ctrs ∧
      (s.offset off).graphs = s.graphs := by
  rw [State.offset_within h4 hl]
  have hk : (s.noted off false).reg (tuB + 0x28) = BitVec.ofInt 64 off := State.reg_setReg_self _ _ hw
  have hwn := State.noted_wf hw off false
  have hrn : (s.noted off false).isRoot = true := (s.noted_isRoot off false).trans hr
  have ht := State.slew_timeSet hwn hrn ha off
  have hg : ∀ k, ((s.noted off false).slewing off).reg k = (s.noted off false).reg k := State.reg_congr (State.slewing_regs _ _)
  refine ⟨?_, ?_, ht.state, ?_, fun h0 => ?_, ?_, ?_⟩
  · rw [State.isRoot_congr (ht.field 13 13 (by omega) (by omega)), State.isRoot_congr (State.rfld_congr (hg _) _ _)]
    exact hrn
  · rw [ht.reg _ (by decide), hg, hk]
  · rw [ht.tim, State.slewing_systime]
    rfl
  · rw [ht.tim, State.slewing_slewEnd h0]
    rfl
  · rw [ht.frame, State.slewing_frame]
    rfl
  · rw [ht.frame, State.slewing_frame]
    rfl

/-- The second offset in a row beyond the limit on a root is refused. -/
theorem State.offset_beyond_spec {s : State} {off : Int} (hw : SMap.wf none s.regs = true) (hr : s.isRoot = true) (ha : s.tim.alignRun < 16)
    (h4 : s.timeState ≠ 4) (hl : s.jumpLimit < off.natAbs) (hb : 1 ≤ s.tim.bigRun) :
    (s.offset off).isRoot = true ∧ (s.offset off).reg (tuB + 0x38) = BitVec.ofInt 64 off ∧ (s.offset off).rfld tuStat 12 12 = 1 ∧
      (s.offset off).timeState = 4 ∧ (s.offset off).tim.systime = s.tim.systime ∧
      (s.offset off).reg (tuB + 0x30) = s.reg (tuB + 0x30) ∧ (s.offset off).graphs = s.graphs := by
  rw [State.offset_beyond h4 hl hb, State.refused]
  have hgn : (s.noted off true).graphs = s.graphs := rfl
  have hsn : (s.noted off true).tim.systime = s.tim.systime := rfl
  have han : (s.noted off true).tim.alignRun < 16 := ha
  have hkn : (s.noted off true).reg (tuB + 0x30) = s.reg (tuB + 0x30) := s.noted_reg off true (by decide)
  have hwn := State.noted_wf hw off true
  have hrn : (s.noted off true).isRoot = true := (s.noted_isRoot off true).trans hr
  generalize s.noted off true = n at hgn hsn han hkn hwn hrn
  have hw1 : SMap.wf none (n.setReg (tuB + 0x38) (BitVec.ofInt 64 off)).regs = true := State.setReg_regs_wf hwn _ _
  generalize hu : n.setReg (tuB + 0x38) (BitVec.ofInt 64 off) = u at hw1
  have hr1 : u.rfld tuStat 13 13 = n.rfld tuStat 13 13 := by
    rw [← hu, State.rfld_setReg_ne _ _ _ _ (by decide)]
  have hq : (u.setRfld tuStat 12 12 1).Quiet := by
    refine .inl ⟨?_, ?_⟩
    · rw [State.isRoot, State.rfld_setRfld_apart hw1 (by omega) (by omega), hr1]
      exact hrn
    · rw [State.setRfld_tim, ← hu, State.setReg_tim]
      exact han
  have ht := hq.timeSet (State.setRfld_regs_wf hw1 _ _ _ _) (v := 4) (by omega)
  generalize (u.setRfld tuStat 12 12 1).setTimeState 4 = v at ht
  have hal : ∀ hi lo, (v.alarm 0x101 0x71 0xFF).rfld tuStat hi lo = v.rfld tuStat hi lo :=
    fun hi lo => State.rfld_congr (v.alarm_reg _ _ _ _ (by decide)) _ _
  refine ⟨?_, ?_, ?_, ?_, ?_, ?_, ?_⟩
  · rw [State.isRoot_congr (hal 13 13), State.isRoot_congr (ht.field 13 13 (by omega) (by omega)),
      State.isRoot_congr (State.rfld_setRfld_apart hw1 (by omega) (by omega) _ _), State.isRoot_congr hr1]
    exact hrn
  · rw [v.alarm_reg _ _ _ _ (by decide), ht.reg _ (by decide), State.reg_setRfld_ne _ _ _ _ (by decide), ← hu, State.reg_setReg_self _ _ hwn]
  · rw [hal, ht.field 12 12 (by omega) (by omega)]
    exact State.rfld_setRfld_self hw1 (by omega) _ _ _
  · rw [State.timeState, hal]
    exact ht.state
  · rw [State.alarm_tim, ht.tim, State.setRfld_tim, ← hu, State.setReg_tim, hsn]
  · rw [v.alarm_reg _ _ _ _ (by decide), ht.reg _ (by decide), State.reg_setRfld_ne _ _ _ _ (by decide), ← hu,
      State.reg_setReg_ne _ _ (by decide), hkn]
  · rw [State.alarm_frame, ht.frame, ← hu]
    exact hgn

/-! ## Qualified and lost sources -/

theorem State.setQualified_quiet {s : State} (hq : s.Quiet) (hw : SMap.wf none s.regs = true) {c : Nat} (hc : c ≤ 4) (b : Bool) :
    (s.setQualified c b).Quiet := by
  unfold State.Quiet
  rw [State.setQualified_isRoot hw hc, State.setQualified_stat hw hc b (.inr (by omega)), State.setQualified_tim]
  exact hq

theorem State.selectSource_candidates {s : State} (hw : SMap.wf none s.regs = true) (hq : s.Quiet) : s.selectSource.candidates = s.candidates := by
  obtain ⟨hf, hk⟩ := State.selectSource_spares hw hq
  exact State.candidates_congr (State.isRoot_congr (hf 13 13 (by omega) (by omega))) (hk _ (by decide))

theorem State.selectSource_qualified {s : State} (hw : SMap.wf none s.regs = true) (hq : s.Quiet) {c : Nat} (h1 : 1 ≤ c) (h4 : c ≤ 4) :
    s.selectSource.qualified c = s.qualified c :=
  State.qualified_congr ((State.selectSource_spares hw hq).1 _ _ (by omega) (by omega))

theorem State.selectSource_systime (s : State) : s.selectSource.tim.systime = s.tim.systime :=
  congrArg Prod.fst s.selectSource_clock

/-- A candidate that becomes qualified: the first qualified candidate is followed. -/
theorem State.qualify_spec {s : State} {c : Nat} (hw : SMap.wf none s.regs = true) (hq : s.Quiet) (hc : c ∈ s.candidates) :
    ∃ t, (s.setQualified c true).selectSource = t ∧ t.qualified c = true ∧ t.candidates = s.candidates ∧ t.curSrc ∈ s.candidates ∧
      s.candidates.find? (fun x => t.qualified x) = some t.curSrc ∧ t.tim.systime = s.tim.systime := by
  obtain ⟨h1, h4⟩ := State.mem_candidates hc
  have hw' : SMap.wf none (s.setQualified c true).regs = true := State.setRfld_regs_wf hw _ _ _ _
  have hq' := State.setQualified_quiet hq hw h4 true
  have hcand := State.setQualified_candidates hw h4 true
  have hself : (s.setQualified c true).qualified c = true := State.qualified_setQualified_self hw h4 true
  obtain ⟨x, hx⟩ : ∃ x, (s.setQualified c true).candidates.find? (fun x => (s.setQualified c true).qualified x) = some x := by
    rw [hcand]
    exact Option.isSome_iff_exists.mp (List.find?_isSome.mpr ⟨c, hc, hself⟩)
  have hcur := State.selectSource_curSrc hw' hx
  refine ⟨_, rfl, ?_, ?_, ?_, ?_, ?_⟩
  · rw [State.selectSource_qualified hw' hq' h1 h4, hself]
  · rw [State.selectSource_candidates hw' hq', hcand]
  · rw [hcur, ← hcand]
    exact List.mem_of_find?_eq_some hx
  · rw [hcur, ← hx, hcand]
    refine List.find?_congr fun y hy => ?_
    obtain ⟨h1y, h4y⟩ := State.mem_candidates hy
    exact State.selectSource_qualified hw' hq' h1y h4y
  · rw [State.selectSource_systime, State.setQualified_tim]

/-- A source that is lost is qualified no more; the first other qualified candidate is followed, or none is left. -/
theorem State.unqualify_spec {s : State} {c : Nat} (hw : SMap.wf none s.regs = true) (hq : s.Quiet) (h1 : 1 ≤ c) (h4 : c ≤ 4) :
    ∃ t, (s.setQualified c false).selectSource = t ∧ t.qualified c = false ∧
      (∀ x, s.candidates.find? (fun x => x ≠ c && s.qualified x) = some x → t.curSrc = x) ∧
      (s.candidates.find? (fun x => x ≠ c && s.qualified x) = none → s.curSrc = c → s.tim.locked = true → t.timeState = 3 ∧ t.curSrc = s.curSrc) ∧
      t.tim.systime = s.tim.systime := by
  have hw' : SMap.wf none (s.setQualified c false).regs = true := State.setRfld_regs_wf hw _ _ _ _
  have hq' := State.setQualified_quiet hq hw h4 false
  have hself : (s.setQualified c false).qualified c = false := State.qualified_setQualified_self hw h4 false
  have hfind : (s.setQualified c false).candidates.find? (fun x => (s.setQualified c false).qualified x) =
      s.candidates.find? (fun x => x ≠ c && s.qualified x) := by
    rw [State.setQualified_candidates hw h4 false]
    refine List.find?_congr fun y hy => ?_
    by_cases hy' : y = c
    · subst hy'
      simp [hself]
    · have : (s.setQualified c false).qualified y = s.qualified y :=
        State.qualified_congr (State.setQualified_stat hw h4 false (by omega))
      simp [hy', this]
  have hcur' : (s.setQualified c false).curSrc = s.curSrc := State.setQualified_stat hw h4 false (.inl (by omega))
  refine ⟨_, rfl, ?_, fun x hx => ?_, fun hn hcur hl => ?_, ?_⟩
  · rw [State.selectSource_qualified hw' hq' h1 h4, hself]
  · exact State.selectSource_curSrc hw' (hfind.trans hx)
  · rw [State.selectSource_holdover (hfind.trans hn) (by rw [hcur', hcur]; omega) (by rw [hcur', hcur, hself]) (by simpa using hl)]
    have ht := hq'.timeSet hw' (v := 3) (by omega)
    exact ⟨ht.state, (ht.field 7 4 (by omega) (by omega)).trans hcur'⟩
  · rw [State.selectSource_systime, State.setQualified_tim]

end Sys2Proof.Machine

/-! SUPPORT. What faults, completions and the boundary of a tick leave alone: chosen registers, the filters in force at the ports (R80), the
links, the tree's markers and the contracts that wait. -/
namespace Sys2Proof.Machine

/-! ## A map after a change of every entry -/

theorem SMap.mapAll_cons {α : Type} [DecidableEq α] (d : α) (k : Nat) (v : α) (r : SMap α) (f : Nat → α → α) :
    SMap.mapAll d ((k, v) :: r) f = if f k v = d then SMap.mapAll d r f else (k, f k v) :: SMap.mapAll d r f := by
  unfold SMap.mapAll
  by_cases h : f k v = d <;> simp [h]

/-- Where the change leaves what an unlisted key reads as, every key reads as its changed value. -/
theorem SMap.get_mapAll {α : Type} [DecidableEq α] {d : α} {f : Nat → α → α} (hf : ∀ k, f k d = d) {m : SMap α} {a : Nat}
    (h : SMap.wfFrom d a m = true) (j : Nat) : SMap.get d (SMap.mapAll d m f) j = f j (SMap.get d m j) := by
  induction m generalizing a with
  | nil => exact (hf j).symm
  | cons e r ih =>
    obtain ⟨k, v⟩ := e
    simp only [SMap.wfFrom, Bool.and_eq_true] at h
    have hr := ih h.2
    rw [SMap.mapAll_cons, SMap.get]
    by_cases hj : j = k
    · subst hj
      split
      next hd => rw [hr, if_pos rfl, hd, SMap.get_below h.2 (Nat.lt_succ_self j), hf]
      · rw [SMap.get, if_pos rfl, if_pos rfl]
    · rw [if_neg hj]
      split
      · exact hr
      · rw [SMap.get, if_neg hj, hr]

/-! ## The relation -/

/-- The keys of HOP_REFR and HOP_BA of the ports. -/
def filterKey (k : Nat) : Prop := ∃ n o, n < 16 ∧ (o = 0x20 ∨ o = 0x24) ∧ k = hopB n + o

theorem filterKey.range {k : Nat} (h : filterKey k) : 0x100000 ≤ k ∧ k < 0x200000 := by
  obtain ⟨n, o, hn, ho, rfl⟩ := h
  unfold hopB
  omega

/-- t holds the registers K of s, the filters in force, the links, and the markers and admissions that s waits with. -/
structure State.Steady (K : Nat → Prop) (s t : State) : Prop where
  reg : ∀ k, K k → t.reg k = s.reg k
  hops : SMap.wf {} s.hops = true → SMap.wf {} t.hops = true ∧ ∀ n, (t.hop n).refr = (s.hop n).refr ∧ (t.hop n).ba = (s.hop n).ba
  sps : t.sps = s.sps
  markers : t.bind.markers = s.bind.markers
  admits : t.conAdmits = s.conAdmits

/-- No register that faults, records and completions write. -/
structure QuietKeys (K : Nat → Prop) : Prop where
  obs : ¬ K (obsB + 4)
  sim : ¬ K (simB + 0x20)
  stat : ¬ K tuStat
  xio : ¬ K (xioB + 4)
  fn : ∀ f, ¬ K (fnB f + 0xC)

theorem not_filterKey {k : Nat} (h : k < 0x100000 ∨ 0x200000 ≤ k) : ¬ filterKey k := fun hk => by
  have := hk.range
  omega

theorem fnB_cases (f : Nat) : fnB f = 0x60000 ∨ 2 ^ 32 ≤ fnB f := by
  unfold fnB cmdB
  split <;> omega

theorem filterKey_quiet : QuietKeys filterKey where
  obs := not_filterKey (.inl (by decide))
  sim := not_filterKey (.inl (by decide))
  stat := not_filterKey (.inl (by decide))
  xio := not_filterKey (.inr (by decide))
  fn f := not_filterKey (by have := fnB_cases f; omega)

namespace State.Steady

variable {K : Nat → Prop}

theorem of_eq {s t : State} (hr : t.regs = s.regs) (hh : t.hops = s.hops) (hb : t.bind.markers = s.bind.markers)
    (hp : t.sps = s.sps) (ha : t.conAdmits = s.conAdmits) : s.Steady K t where
  reg k _ := State.reg_congr hr k
  hops hw := by
    unfold State.hop
    rw [hh]
    exact ⟨hw, fun _ => ⟨rfl, rfl⟩⟩
  sps := hp
  markers := hb
  admits := ha

theorem refl (s : State) : s.Steady K s := of_eq rfl rfl rfl rfl rfl

theorem trans {s t u : State} (h1 : s.Steady K t) (h2 : t.Steady K u) : s.Steady K u where
  reg k hk := (h2.reg k hk).trans (h1.reg k hk)
  hops hw := by
    obtain ⟨hwt, ht⟩ := h1.hops hw
    obtain ⟨hwu, hu⟩ := h2.hops hwt
    exact ⟨hwu, fun n => ⟨(hu n).1.trans (ht n).1, (hu n).2.trans (ht n).2⟩⟩
  sps := h2.sps.trans h1.sps
  markers := h2.markers.trans h1.markers
  admits := h2.admits.trans h1.admits

theorem ite {s a b : State} {c : Prop} [Decidable c] (ha : s.Steady K a) (hb : s.Steady K b) : s.Steady K (if c then a else b) := by
  split
  · exact ha
  · exact hb

theorem foldl {α : Type} {f : State → α → State} (h : ∀ s a, State.Steady K s (f s a)) (l : List α) (s : State) : s.Steady K (l.foldl f s) := by
  induction l generalizing s with
  | nil => exact refl s
  | cons a r ih => exact (h s a).trans (ih _)

/-- Writes of registers outside the filters. -/
theorem of_regs {s t : State} (h : t = { s with regs := t.regs }) (hr : ∀ k, K k → t.reg k = s.reg k) : s.Steady K t := by
  rw [h]
  exact { reg := fun k hk => (State.reg_congr rfl k).trans (hr k hk), hops := fun hw => ⟨hw, fun _ => ⟨rfl, rfl⟩⟩,
          sps := rfl, markers := rfl, admits := rfl }

theorem setReg (s : State) {k : Nat} (h : ¬ K k) (v : Word) : s.Steady K (s.setReg k v) :=
  of_regs rfl (fun _ hj => State.reg_setReg_ne _ _ (fun e => h (e ▸ hj)))

theorem setRfld (s : State) {k : Nat} (h : ¬ K k) (hi lo x : Nat) : s.Steady K (s.setRfld k hi lo x) := setReg s h _

theorem orReg (s : State) {k : Nat} (h : ¬ K k) (m : Word) : s.Steady K (s.orReg k m) := setReg s h _

theorem bump (s : State) (k n : Nat) : s.Steady K (s.bump k n) := of_eq rfl rfl rfl rfl rfl

theorem emit (s : State) (k : EmitKind) (dst data : List Nat) : s.Steady K (s.emit k dst data) := of_eq rfl rfl rfl rfl rfl

theorem modQp (s : State) (k : Nat) (g : QPair → QPair) : s.Steady K (s.modQp k g) := of_eq rfl rfl rfl rfl rfl

theorem modVec (s : State) (k : Nat) (g : Vec → Vec) : s.Steady K (s.modVec k g) := of_eq rfl rfl rfl rfl rfl

theorem modSi (s : State) (g : Si → Si) : s.Steady K (s.modSi g) := of_eq rfl rfl rfl rfl rfl

theorem modSlip (s : State) (n : Nat) (g : Slip → Slip) : s.Steady K (s.modSlip n g) := of_eq rfl rfl rfl rfl rfl

theorem modObs (s : State) (g : Obs → Obs) : s.Steady K (s.modObs g) := of_eq rfl rfl rfl rfl rfl

theorem modQuire (s : State) (q : Nat) (g : Quire → Quire) : s.Steady K (s.modQuire q g) := of_eq rfl rfl rfl rfl rfl

theorem modGraph (s : State) (n : Nat) (g : Graph → Graph) : s.Steady K (s.modGraph n g) := of_eq rfl rfl rfl rfl rfl

theorem modSfm (s : State) (n : Nat) (g : Sfm → Sfm) : s.Steady K (s.modSfm n g) := of_eq rfl rfl rfl rfl rfl

theorem modHop (s : State) (n : Nat) {g : Hopper → Hopper} (hg : ∀ x, (g x).refr = x.refr ∧ (g x).ba = x.ba) : s.Steady K (s.modHop n g) where
  reg _ _ := rfl
  hops hw := by
    refine ⟨State.modHop_wf hw n g, fun k => ?_⟩
    by_cases hk : k = n
    · subst hk
      rw [State.modHop_hop_self hw]
      exact hg _
    · rw [State.modHop_hop_ne _ hk]
      exact ⟨rfl, rfl⟩
  sps := rfl
  markers := rfl
  admits := rfl

end State.Steady

section
variable {K : Nat → Prop}

/-! ## Records, alarms and completions -/

theorem State.steady_trace (hK : QuietKeys K) (s : State) (source slip point : Nat) (data : List Nat) : s.Steady K (s.trace source slip point data) := by
  obtain ⟨hf, hr, -⟩ := State.trace_traced s source slip point data
  rw [hf]
  refine { reg := fun k hk => ?_, hops := fun hw => ⟨hw, fun _ => ⟨rfl, rfl⟩⟩, sps := rfl, markers := rfl, admits := rfl }
  exact (State.reg_congr rfl k).trans (hr k (fun e => hK.obs (e ▸ hk)))

theorem State.steady_alarm (hK : QuietKeys K) (s : State) (cause source slip : Nat) (present : Bool) : s.Steady K (s.alarm cause source slip present) := by
  have hr : ∀ k, K k → (s.alarm cause source slip present).reg k = s.reg k :=
    fun k hk => s.alarm_reg _ _ _ _ (fun e => hK.obs (e ▸ hk))
  rw [State.alarm_frame]
  exact { reg := fun k hk => (State.reg_congr rfl k).trans (hr k hk), hops := fun hw => ⟨hw, fun _ => ⟨rfl, rfl⟩⟩, sps := rfl, markers := rfl, admits := rfl }

theorem State.steady_log (hK : QuietKeys K) (s : State) (source slip level code : Nat) (data : List Nat) : s.Steady K (s.log source slip level code data) := by
  unfold State.log
  extract_lets t need o first obs s1 s2
  have h1 : s.Steady K s1 := .of_eq rfl rfl rfl rfl rfl
  have h2 : s.Steady K s2 := (h1.trans (.bump _ _ _)).trans (.orReg _ hK.obs _)
  split
  · exact .trans (t := { s with obs := { o with runLog := {} } }) (.of_eq rfl rfl rfl rfl rfl) (.bump _ _ _)
  · exact .ite (h2.trans (State.steady_alarm hK _ _ _ _ _)) h2

theorem State.steady_complete (hK : QuietKeys K) (s : State) (h : CmdRef) (st det : Nat) (r : BitVec 128) : s.Steady K (s.complete h st det r) := by
  unfold State.complete
  split
  · exact .refl s
  · extract_lets c s1 s2
    have h1 : s.Steady K s1 := .modQp _ _ _
    have h2 : s.Steady K s2 := .ite ((h1.trans (.orReg _ hK.xio _)).trans (.bump _ _ _)) h1
    exact h2.trans (State.steady_trace hK _ _ _ _ _)

/-! ## Faults -/

theorem State.steady_conFault (s : State) (p : Graph → Bool) (c : Nat) : s.Steady K (s.conFault p c) := .of_eq rfl rfl rfl rfl rfl

theorem State.steady_fenceSlip (s : State) (n : Nat) : s.Steady K (s.fenceSlip n) := .ite (.modSlip _ _ _) (.refl s)

theorem State.steady_fenceAll (s : State) : s.Steady K s.fenceAll := .foldl State.steady_fenceSlip _ s

theorem State.steady_safeOutputs (s : State) : s.Steady K s.safeOutputs := .foldl (fun s _ => .emit s _ _ _) _ s

theorem State.steady_assertPins (s : State) : s.Steady K s.assertPins :=
  .ite (.refl s) (((State.Steady.modSi s _).trans (.emit _ _ _ _)).trans (.emit _ _ _ _))

theorem State.steady_recoverUnit (s : State) (source cause slip : Nat) : s.Steady K (s.recoverUnit source cause slip) := by
  unfold State.recoverUnit
  have h3 := s.steady_conFault (K := K) (fun g => g.uses source) 3
  have h7 := s.steady_conFault (K := K) (fun g => g.uses source) 7
  refine .ite (.ite h3 ((h3.trans (.modQuire _ _ _)).trans (.modSi _ _))) (.ite (h7.trans (.modSi _ _)) (.ite (h7.trans (.modSi _ _)) h7))

theorem State.steady_writeFault (hK : QuietKeys K) (s : State) (f : FaultRec) : s.Steady K (s.writeFault f) := by
  unfold State.writeFault
  extract_lets s1 s2 s3
  have h1 : s.Steady K s1 := .modSi _ _
  have h2 : s.Steady K s2 := h1.trans (.setReg _ hK.sim _)
  exact (h2.trans (State.steady_log hK _ _ _ _ _ _)).trans (.bump _ _ _)

theorem State.steady_faultFull (hK : QuietKeys K) (s : State) (f : FaultRec) (floor : Nat) : s.Steady K (s.faultFull f floor) := by
  unfold State.faultFull
  split
  · exact .refl s
  · extract_lets r0 fence cp r pins s1 s2 s3 s4 s5 s6 sd ms s7 here s8
    have h1 : s.Steady K s1 := s.steady_writeFault hK _
    have h2 : s.Steady K s2 := .ite (h1.trans ((State.steady_fenceSlip _ _).trans (State.steady_conFault _ _ _))) h1
    have h3 : s.Steady K s3 := .ite (h2.trans (State.steady_recoverUnit _ _ _ _)) h2
    have h4 : s.Steady K s4 := .ite (h3.trans ((State.Steady.bump _ _ _).trans (.modSi _ _))) h3
    have h5 : s.Steady K s5 := .ite (h4.trans (State.steady_assertPins _)) h4
    have h6 : s.Steady K s6 := .ite (h5.trans (State.steady_safeOutputs _)) h5
    have hd : s.Steady K sd := h6.trans (State.steady_fenceAll _)
    have h7 : s.Steady K s7 := .ite (hd.trans (.modSi _ _)) h6
    have h8 : s.Steady K s8 := .ite (h7.trans (.modSi _ _)) h7
    exact h8.trans (State.steady_alarm hK _ _ _ _ _)

theorem State.steady_setTimeState (hK : QuietKeys K) (s : State) (v : Nat) : s.Steady K (s.setTimeState v) := by
  unfold State.setTimeState State.alignUpdate
  extract_lets a was s2
  have h1 : s.Steady K (s.setRfld tuStat 2 0 v) := .setRfld _ hK.stat _ _ _
  have h2 : s.Steady K s2 := h1.trans (.setRfld _ hK.stat _ _ _)
  exact .ite (h2.trans (State.steady_faultFull hK _ _ _)) h2

/-! ## Events of a function -/

theorem State.steady_writeEntry (s : State) (k rtype size : Nat) (buf : Option Nat) (words : List Nat) (urgent : Bool) :
    s.Steady K (s.writeEntry k rtype size buf words urgent) :=
  ((State.Steady.emit s _ _ _).trans (.modQp _ _ _)).trans (.modVec _ _ _)

theorem State.steady_closeEntry (s : State) (k : Nat) : s.Steady K (s.closeEntry k) :=
  .ite (.refl s) ((s.steady_writeEntry _ _ _ _ _ _).trans (.modQp _ _ _))

theorem State.steady_fnEvent (hK : QuietKeys K) (s : State) (f type code q : Nat) (info : List Nat) : s.Steady K (s.fnEvent f type code q info) := by
  unfold State.fnEvent
  split
  · exact .refl s
  · refine .ite (s.steady_writeEntry _ _ _ _ _ _) ?_
    exact ((State.Steady.bump s _ _).trans (.orReg _ (hK.fn f) _)).trans (.modQp _ _ _)

end

/-! ## The end of a tick -/

theorem State.steady_snapTake (s : State) : s.Steady filterKey s.snapTake := by
  unfold State.snapTake
  split
  · extract_lets s1 s2 s3
    have h3 : s.Steady filterKey s3 := ((State.Steady.of_eq rfl rfl rfl rfl rfl : s.Steady filterKey s1).trans (.modObs _ _)).trans (.bump _ _ _)
    split
    · exact .refl s
    · split
      · exact h3.trans (State.steady_complete filterKey_quiet _ _ _ _ _)
      · exact h3
  · exact .refl s

theorem State.steady_belowCycles (s : State) : s.Steady filterKey s.belowCycles :=
  .foldl (fun s _ => (State.Steady.bump s _ _).trans (State.steady_conFault _ _ _)) _ s

theorem State.steady_slewDone (s : State) : s.Steady filterKey s.slewDone := .ite (s.steady_setTimeState filterKey_quiet 1) (.refl s)

/-! ## Graphs that stop -/

theorem State.steady_stopDelta (s : State) (g : Nat) : s.Steady filterKey (s.stopDelta g) := by
  unfold State.stopDelta
  split
  · exact .refl s
  · extract_lets s1 s2
    have h1 : s.Steady filterKey s1 := .foldl (fun s _ => s.steady_complete filterKey_quiet _ _ _ _) _ s
    have h2 : s.Steady filterKey s2 := .ite (h1.trans (.foldl (fun s _ => .modSfm s _ _) _ _)) h1
    exact h2.trans (.modGraph _ _ _)

theorem State.steady_stopReadout (s : State) (g : Nat) : s.Steady filterKey (s.stopReadout g) := by
  unfold State.stopReadout
  extract_lets s1
  exact (State.Steady.of_eq rfl rfl rfl rfl rfl : s.Steady filterKey s1).trans (.modGraph _ _ _)

theorem State.steady_stopSpk (s : State) (slip : Nat) (qs : List Nat) (others : Bool) : s.Steady filterKey (s.stopSpk slip qs others) := by
  unfold State.stopSpk
  extract_lets s1
  have h1 : s.Steady filterKey s1 := by
    refine .foldl (fun s q => ?_) _ s
    exact (State.Steady.foldl (fun s _ => (State.Steady.emit s _ _ _).trans (State.steady_complete filterKey_quiet _ _ _ _ _)) _ s).trans (.modQuire _ _ _)
  exact .ite h1 (h1.trans (.setRfld _ (not_filterKey (.inr (by unfold kxbB; omega))) _ _ _))

theorem State.steady_stopFu (s : State) (g : Nat) : s.Steady filterKey (s.stopFu g) := .of_eq rfl rfl rfl rfl rfl

/-- A port whose channels to a graph are closed. -/
def Hopper.close (x : Hopper) (g : Nat) : Hopper := { x with chans := x.chans.filter (fun c => !c.ofGraph g) }

theorem State.closeChans_hops (s : State) (g : Nat) : (s.closeChans g).hops = SMap.mapAll {} s.hops (fun _ x => x.close g) := rfl

theorem State.steady_closeChans (s : State) (g : Nat) : s.Steady filterKey (s.closeChans g) where
  reg _ _ := rfl
  hops hw := by
    refine ⟨State.closeChans_hops s g ▸ SMap.wf_mapAll hw, fun n => ?_⟩
    rw [State.hop, State.closeChans_hops, SMap.get_mapAll (fun _ => rfl) hw]
    exact ⟨rfl, rfl⟩
  sps := rfl
  markers := rfl
  admits := rfl

theorem State.steady_stopGraph (s : State) (g : Nat) : s.Steady filterKey (s.stopGraph g) := by
  unfold State.stopGraph
  split
  · exact .refl s
  · extract_lets s1 s2
    have h1 : s.Steady filterKey s1 := (s.steady_stopDelta g).trans (State.steady_stopReadout _ g)
    have h2 : s.Steady filterKey s2 := .ite (h1.trans (State.steady_stopSpk _ _ _ _)) h1
    exact ((h2.trans (State.steady_stopFu _ g)).trans (State.steady_closeChans _ g)).trans (.modGraph _ _ _)

theorem State.steady_safeStops (s : State) : s.Steady filterKey s.safeStops := .foldl State.steady_stopGraph _ s

/-! ## The beginning of a tick -/

theorem State.steady_modRing (s : State) (n : Nat) (g : HChan → HChan) : s.Steady filterKey (s.modHop n (fun h => h.modRing g)) :=
  .modHop s n (fun _ => ⟨rfl, rfl⟩)

theorem State.steady_placeRec (s : State) (k : Nat) (r : List Nat) : s.Steady filterKey (s.placeRec k r) := by
  unfold State.placeRec
  extract_lets s1 s2
  have h1 : s.Steady filterKey s1 := .ite (.refl s) (s.steady_closeEntry k)
  have h2 : s.Steady filterKey s2 := h1.trans (.modQp _ _ _)
  exact .ite (h2.trans (State.steady_closeEntry _ k)) h2

theorem State.steady_ringPut (s : State) (n : Nat) (w : BitVec 64) : s.Steady filterKey (s.ringPut n w) := by
  unfold State.ringPut
  split
  · exact .refl s
  · exact s.steady_placeRec _ _

theorem State.steady_ringDrain (s : State) (n fuel : Nat) : s.Steady filterKey (s.ringDrain n fuel) := by
  induction fuel generalizing s with
  | zero => exact .refl s
  | succ m ih =>
    unfold State.ringDrain
    split
    · exact .refl s
    · exact .ite (.refl s) (((s.steady_ringPut _ _).trans (State.steady_modRing _ _ _)).trans (ih _))

theorem State.steady_ringGaps (s : State) (n tick : Nat) : s.Steady filterKey (s.ringGaps n tick) := by
  refine .foldl (fun s cause => ?_) _ s
  split
  · exact .refl s
  · exact .ite (.refl s) ((s.steady_ringPut _ _).trans (State.steady_modRing _ _ _))

theorem State.steady_ringOffer (s : State) (n : Nat) (w : BitVec 64) (tick : Nat) : s.Steady filterKey (s.ringOffer n w tick) := by
  unfold State.ringOffer
  extract_lets sp
  clear_value sp
  cases sp with
  | none => exact .refl s
  | some l => exact .ite (s.steady_ringPut _ _) (.ite (s.steady_modRing _ _) ((State.Steady.bump s _ _).trans (State.steady_modRing _ _ _)))

theorem State.steady_ringClose (s : State) (n tick : Nat) : s.Steady filterKey (s.ringClose n tick) := by
  unfold State.ringClose
  split
  · exact .refl s
  · extract_lets now s1 s2 s3
    have h3 : s.Steady filterKey s3 := ((s.steady_modRing _ _).trans (State.steady_ringDrain _ _ _)).trans (State.steady_ringGaps _ _ _)
    exact h3.trans (.foldl (fun s _ => s.steady_ringOffer _ _ _) _ _)

theorem State.steady_portMarks (s : State) (n : Nat) : s.Steady filterKey (s.portMarks n) := by
  unfold State.portMarks
  extract_lets h h' t s1 e
  have h1 : s.Steady filterKey s1 := .foldl (fun s _ => s.steady_ringClose _ _) _ s
  exact .ite (.refl s) (h1.trans (.modHop _ _ (fun _ => ⟨rfl, rfl⟩)))

theorem State.steady_derivedMarks (s : State) (r : Nat) : s.Steady filterKey (s.derivedMarks r) := .ite (.refl s) (.modSfm s _ _)

theorem State.steady_barriersAt (s : State) : s.Steady filterKey s.barriersAt := by
  unfold State.barriersAt
  extract_lets due s1
  have h1 : s.Steady filterKey s1 := .of_eq rfl rfl rfl rfl rfl
  refine h1.trans (.foldl (fun s x => ?_) _ _)
  split
  · exact s.steady_complete filterKey_quiet _ _ _ _
  · exact .refl s

theorem State.steady_castPlace (s : State) (origin tick : Nat) (l : List Nat) : s.Steady filterKey (s.castPlace origin tick l) := by
  unfold State.castPlace
  extract_lets s1 s2
  have h1 : s.Steady filterKey s1 := .ite (.bump _ _ _) (.refl s)
  have h2 : s1.Steady filterKey s2 := .of_eq rfl rfl rfl rfl rfl
  exact (h1.trans h2).trans (State.steady_fnEvent filterKey_quiet _ _ _ _ _ _)

theorem State.steady_castsAt (s : State) : s.Steady filterKey s.castsAt := by
  unfold State.castsAt
  extract_lets due s1
  have h1 : s.Steady filterKey s1 := .of_eq rfl rfl rfl rfl rfl
  exact h1.trans (.foldl (fun s _ => s.steady_castPlace _ _ _) _ _)

theorem State.steady_bindResetAt (s : State) : s.Steady filterKey s.bindResetAt := by
  unfold State.bindResetAt
  split
  · split
    · extract_lets s1
      have h1 : s.Steady filterKey s1 := by
        simp only [s1]
        split
        · exact s.steady_complete filterKey_quiet _ _ _ _
        · exact .refl s
      exact h1.trans (.of_eq rfl rfl rfl rfl rfl)
    · exact .refl s
  · exact .refl s

theorem State.steady_addDue (s : State) (g : Nat) (kind : RecKind) (layer tref : Nat) : s.Steady filterKey (s.addDue g kind layer tref) :=
  .ite (.of_eq rfl rfl rfl rfl rfl) (.refl s)

theorem State.steady_fusionDues (s : State) (t : Nat) : s.Steady filterKey (s.fusionDues t) := by
  refine .foldl (fun s e => ?_) _ s
  have h1 := s.steady_addDue e.2.graph .fused e.1 t
  exact .ite (.ite h1 (h1.trans (State.steady_addDue _ _ _ _ _))) (.refl s)

theorem State.steady_advance (s : State) : s.Steady filterKey s.advance := .of_eq rfl rfl rfl rfl rfl

/-! ## The boundary -/

/-- With no marker waiting the tree's markers change nothing. -/
theorem State.markersAt_none {s : State} (h : s.bind.markers = []) : s.markersAt.tim = s.tim ∧ s.Steady filterKey s.markersAt := by
  have hm : s.markersAt = s.modBind (fun b => { b with markers := b.markers.filter (fun x => decide (s.tim.tick < x.tick)) }) := by
    simp [State.markersAt, h]
  have hb : (s.modBind (fun b => { b with markers := b.markers.filter (fun x => decide (s.tim.tick < x.tick)) })).bind.markers =
      s.bind.markers := by
    simp [State.modBind, h]
  rw [hm]
  exact ⟨rfl, .of_eq rfl rfl hb rfl rfl⟩

theorem State.commitAdmits_none {s : State} (h : s.conAdmits = []) : s.commitAdmits = s := by
  simp [State.commitAdmits, h]

/-- HOP_REFR and HOP_BA of one port come into force (R80). -/
def State.loadFilter (s : State) (n : Nat) : State :=
  s.modHop n (fun h => { h with
    refr := s.reg (hopB n + 0x20), ba := s.reg (hopB n + 0x24),
    was := h.was.filter (fun e => decide (h.nextEnd < e.1 ∧ e.1 < s.tim.tick)) ++
      (if h.refr = s.reg (hopB n + 0x20) ∧ h.ba = s.reg (hopB n + 0x24) then [] else [(s.tim.tick, h.refr, h.ba)]) })

theorem State.loadFilters_eq (s : State) : s.loadFilters = (List.range 16).foldl State.loadFilter s := rfl

theorem State.foldl_loadFilter (l : List Nat) {s : State} (hw : SMap.wf {} s.hops = true) :
    SMap.wf {} (l.foldl State.loadFilter s).hops = true ∧ l.foldl State.loadFilter s = { s with hops := (l.foldl State.loadFilter s).hops } ∧
    ∀ n, (n ∉ l → (l.foldl State.loadFilter s).hop n = s.hop n) ∧
      (n ∈ l → ((l.foldl State.loadFilter s).hop n).refr = s.reg (hopB n + 0x20) ∧
        ((l.foldl State.loadFilter s).hop n).ba = s.reg (hopB n + 0x24)) := by
  induction l generalizing s with
  | nil => exact ⟨hw, rfl, fun n => ⟨fun _ => rfl, fun h => absurd h (List.not_mem_nil)⟩⟩
  | cons a r ih =>
    obtain ⟨hwr, hf, hn⟩ := ih (s := s.loadFilter a) (State.modHop_wf hw a _)
    refine ⟨hwr, hf, fun n => ⟨fun h => ?_, fun h => ?_⟩⟩
    · rw [List.mem_cons, not_or] at h
      exact ((hn n).1 h.2).trans (State.modHop_hop_ne _ h.1 _)
    · by_cases hr : n ∈ r
      · exact (hn n).2 hr
      · obtain rfl := (List.mem_cons.mp h).resolve_right hr
        have hself : (s.loadFilter n).hop n = _ := State.modHop_hop_self hw n _
        rw [List.foldl_cons, (hn n).1 hr, hself]
        exact ⟨rfl, rfl⟩

theorem State.advance_tim_congr {s t : State} (h : t.tim = s.tim) : t.advance.tim = s.advance.tim := by
  simp only [State.advance, State.modTim, h]

theorem State.loadFilters_spec {s : State} (hw : SMap.wf {} s.hops = true) :
    SMap.wf {} s.loadFilters.hops = true ∧ s.loadFilters.conAdmits = s.conAdmits ∧ ∀ n, n < 16 →
      (s.loadFilters.hop n).refr = s.reg (hopB n + 0x20) ∧ (s.loadFilters.hop n).ba = s.reg (hopB n + 0x24) := by
  obtain ⟨hwl, hf, hn⟩ := State.foldl_loadFilter (List.range 16) hw
  rw [State.loadFilters_eq]
  exact ⟨hwl, by rw [hf], fun n h => (hn n).2 (List.mem_range.mpr h)⟩

/-- The beginning of a tick with no marker due and no admission waiting: the filters of the registers come into force. -/
theorem State.tickBegins_spec {s : State} (hw : SMap.wf {} s.hops = true) (hm : s.bind.markers = []) (ha : s.conAdmits = []) :
    s.tickBegins.tim = s.tim ∧ ∀ n, n < 16 →
      (s.tickBegins.hop n).refr = s.reg (hopB n + 0x20) ∧ (s.tickBegins.hop n).ba = s.reg (hopB n + 0x24) := by
  unfold State.tickBegins
  extract_lets s1 s2 s3 s4 s5
  have h0 : s.Steady filterKey s.slewDone.safeStops := s.steady_slewDone.trans (State.steady_safeStops _)
  obtain ⟨ht1, hk1⟩ := State.markersAt_none (h0.markers.trans hm)
  have h1 : s.Steady filterKey s1 := h0.trans hk1
  obtain ⟨hw2, ha2, hf2⟩ := State.loadFilters_spec (h1.hops hw).1
  have h4 : s2.Steady filterKey s4 := (State.Steady.foldl State.steady_portMarks _ _).trans (.foldl State.steady_derivedMarks _ _)
  have hc : s4.Steady filterKey s4.barriersAt.castsAt := (State.steady_barriersAt _).trans (State.steady_castsAt _)
  have h5 : s4.Steady filterKey s5 := by
    simp only [s5]
    rw [State.commitAdmits_none ((hc.admits.trans h4.admits).trans (ha2.trans (h1.admits.trans ha)))]
    exact hc
  have ht5 : s5.tim = s.tim := by
    simp only [s5, s4, s3, s2, State.commitAdmits_tim, State.castsAt_tim, State.barriersAt_tim]
    refine (State.foldl_tim State.derivedMarks_tim _ _).trans ((State.foldl_tim State.portMarks_tim _ _).trans ?_)
    rw [State.loadFilters_tim, ht1, State.safeStops_tim, State.slewDone_tim]
  have h6 := (h4.trans h5).trans ((State.steady_bindResetAt _).trans (State.steady_fusionDues _ s5.tim.tick))
  refine ⟨by rw [State.fusionDues_tim, State.bindResetAt_tim, ht5], fun n hn => ?_⟩
  obtain ⟨hr, hb⟩ := (h6.hops hw2).2 n
  rw [hr, hb, (hf2 n hn).1, (hf2 n hn).2]
  exact ⟨h1.reg _ ⟨n, 0x20, hn, .inl rfl, rfl⟩, h1.reg _ ⟨n, 0x24, hn, .inr rfl, rfl⟩⟩

theorem State.leftovers_none {s : State} (h : s.staged = []) : s.leftovers (s.staged.length + 1) = s.snapTake := by
  have hn : s.nextStaged = none := by simp [State.nextStaged, h]
  simp only [State.leftovers, hn]

/-- A boundary with nothing staged, no marker and no admission waiting: time moves by one tick, and the filters come into force. -/
theorem State.tickBoundary_spec {s : State} (hw : SMap.wf {} s.hops = true) (hstop : s.tim.stopped = false) (hdown : s.pwr.down = false)
    (hst : s.staged = []) (hm : s.bind.markers = []) (ha : s.conAdmits = []) :
    s.tickBoundary.tim = s.advance.tim ∧ ∀ n, n < 16 →
      (s.tickBoundary.hop n).refr = s.reg (hopB n + 0x20) ∧ (s.tickBoundary.hop n).ba = s.reg (hopB n + 0x24) := by
  unfold State.tickBoundary
  extract_lets s1 s2
  rw [if_neg (by rw [hstop]; decide), if_neg (by rw [hdown]; decide)]
  have hs1 : s1 = s.snapTake := State.leftovers_none hst
  have h1 : s.Steady filterKey s1.belowCycles := hs1 ▸ s.steady_snapTake.trans (State.steady_belowCycles _)
  have h2 : s.Steady filterKey s2 := h1.trans (State.steady_advance _)
  have ht2 : s2.tim = s.advance.tim := State.advance_tim_congr (by rw [State.belowCycles_tim, hs1, State.snapTake_tim])
  obtain ⟨hwt, hs2⟩ := h2.hops hw
  obtain ⟨ht3, hf3⟩ := State.tickBegins_spec hwt (h2.markers.trans hm) (h2.admits.trans ha)
  refine ⟨by rw [State.deepUpdate_tim, State.dropEnded_tim, ht3, ht2], fun n hn => ?_⟩
  obtain ⟨hr, hb⟩ := hf3 n hn
  have hd : ∀ x : State, x.dropEnded.deepUpdate.hop n = x.hop n := fun _ => rfl
  rw [hd]
  exact ⟨hr.trans (h2.reg _ ⟨n, 0x20, hn, .inl rfl, rfl⟩), hb.trans (h2.reg _ ⟨n, 0x24, hn, .inr rfl, rfl⟩)⟩

end Sys2Proof.Machine

/-! SUPPORT. Ticks that close, and the statement about time's sources. -/
namespace Sys2Proof.Machine

/-- A change that leaves something other than what an unlisted key reads as is read back from any map. -/
theorem SMap.get_upd_of_ne {α : Type} [DecidableEq α] {d : α} {m : SMap α} {k : Nat} {f : α → α} (h : f (SMap.get d m k) ≠ d) :
    SMap.get d (SMap.upd d m k f) k = f (SMap.get d m k) := by
  unfold SMap.upd SMap.put
  rw [if_neg h]
  exact SMap.get_ins_self _ _ _ _

theorem State.modGraph_graph_self {s : State} {n : Nat} {g : Graph → Graph} (h : (g (s.graph n)).exist = true) :
    (s.modGraph n g).graph n = g (s.graph n) :=
  SMap.get_upd_of_ne (fun e => by
    have hg : g (s.graph n) = {} := e
    rw [hg] at h
    exact absurd h (by decide))

theorem State.modGraph_graph_ne (s : State) {n k : Nat} (g : Graph → Graph) (h : k ≠ n) : (s.modGraph n g).graph k = s.graph k :=
  SMap.get_upd_ne h

theorem toInt_eq_zero_iff (v : BitVec 64) : v.toInt = 0 ↔ v = 0 := by
  rw [← BitVec.toInt_inj]
  rfl

theorem execSourceQualified_qualifies {s : State} {src : BitVec 4} {r : Nat} (hrun : SMap.get none s.tim.runFrom src.toNat = some r)
    (hc : s.candidates.contains src.toNat = true) (ht : r + s.qualTime ≤ s.tim.systime) :
    exec (.sourceQualified src) s = .next (s.setQualified src.toNat true).selectSource := by
  simp only [exec, execSourceQualified, hrun]
  rw [if_pos ⟨hc, ht⟩]

theorem execSourceQualified_stays {s : State} {src : BitVec 4} (h : ∀ r, SMap.get none s.tim.runFrom src.toNat = some r →
    s.candidates.contains src.toNat = true → ¬ r + s.qualTime ≤ s.tim.systime) : exec (.sourceQualified src) s = .next s := by
  simp only [exec, execSourceQualified]
  cases hrun : SMap.get none s.tim.runFrom src.toNat with
  | none => rfl
  | some r => exact congrArg _ (if_neg fun ⟨hc, ht⟩ => h r hrun hc ht)

/-- A source that has been silent for LOSS_TIME is unqualified, and its run is over. -/
theorem execSourceLost_lost {s : State} {src : BitVec 4} (hl : SMap.get 0 s.tim.lastAt src.toNat + s.lossTime ≤ s.tim.systime)
    (hr : (SMap.get none s.tim.runFrom src.toNat).isSome = true) : exec (.sourceLost src) s =
      .next ((s.modTim (fun m => { m with runFrom := SMap.put none m.runFrom src.toNat none })).setQualified src.toNat false).selectSource :=
  congrArg _ (if_pos ⟨hl, hr⟩)

theorem execTickClosed_closes {s : State} {g : BitVec 32} (he : (s.graph g.toNat).exist = true) (hr : (s.graph g.toNat).state = 1) :
    exec (.tickClosed g) s = .next (s.modGraph g.toNat (fun x => { x with closed := max x.closed ((s.feedMarks g.toNat).foldl min s.tim.tick) })) :=
  congrArg _ (if_pos ⟨he, hr⟩)

theorem State.heard_jumpLimit {s : State} (hr : s.isRoot = true) (src freq : Nat) :
    (s.heard src freq).jumpLimit = s.rfld (tuB + 0x20) 19 0 := by
  rw [State.jumpLimit, State.heard_isRoot, if_pos hr]
  exact State.rfld_congr (s.heard_reg src freq (by decide)) _ _

/-- What an offset looks at is as before the synchronisation it came with. -/
theorem State.heard_state (s : State) (src freq : Nat) : (s.heard src freq).timeState = s.timeState := s.heard_stat src freq 2 0

/-- Settles O40: a synchronisation by the part of it the source and the offset decide, a change of qualification by the choice of the source
after it, and the boundary by what waits at it. -/
theorem timeFollowsItsSource : Obligations.TimeFollowsItsSource := by
  refine ⟨?_, ?_, ?_, ?_, ?_, ?_, ?_, ?_, ?_, ?_, ?_, ?_, ?_⟩
  case refine_1 =>
    intro src time off freq res s h
    exact congrArg _ (s.sync_none (h.imp_left (fun h => by rw [h]; rfl)) _ _ _ _)
  case refine_2 =>
    intro src time off freq res s h0 h4 hc
    exact congrArg _ (State.sync_other (fun h => h0 (BitVec.eq_of_toNat_eq h)) h4 hc _ _ _ _)
  case refine_3 =>
    intro src time off freq res s hs h0 h4 hc hr he ha
    obtain ⟨t, ht, h⟩ := State.sync_first_spec (State.canonical_regs hs) (fun h => h0 (BitVec.eq_of_toNat_eq h)) h4 hc hr he ha
      time.toNat freq.toNat off.toInt res.toInt
    exact ⟨t, congrArg Host.Outcome.next ht, h⟩
  case refine_4 =>
    intro src time off freq res s hs h0 h4 hc hr he ha hn hl
    obtain ⟨hrh, hah⟩ := State.heard_quiet hr ha src.toNat freq.toNat
    obtain ⟨hroot, hoff, hst, hsys, hend, hctr, hgr⟩ := State.offset_within_spec (off := off.toInt)
      (State.heard_wf (State.canonical_regs hs) src.toNat freq.toNat) hrh hah (by rwa [State.heard_state]) (by rwa [State.heard_jumpLimit hr])
    have hsync := State.sync_later (fun h => h0 (BitVec.eq_of_toNat_eq h)) h4 hc he rfl hroot time.toNat res.toInt
    have htim : (s.heard src.toNat freq.toNat).tim.systime = s.tim.systime := by
      rw [State.heard_tim]
      rfl
    refine ⟨_, congrArg Host.Outcome.next hsync, ?_, ?_, hsys.trans htim, fun hne => ?_, ?_, ?_⟩
    · rw [hoff, BitVec.ofInt_toInt]
    · simpa only [toInt_eq_zero_iff] using hst
    · rw [hend (fun h => hne ((toInt_eq_zero_iff off).mp h)), htim]
    · rw [hctr, State.heard_frame]
    · rw [hgr, State.heard_frame]
  case refine_5 =>
    intro src time off freq res s hs h0 h4 hc hr he ha hn hl hb
    obtain ⟨hrh, hah⟩ := State.heard_quiet hr ha src.toNat freq.toNat
    have hbh : 1 ≤ (s.heard src.toNat freq.toNat).tim.bigRun := by
      rw [State.heard_tim]
      exact hb
    obtain ⟨hroot, hjump, hpend, hst, hsys, hsrc, hgr⟩ := State.offset_beyond_spec (off := off.toInt)
      (State.heard_wf (State.canonical_regs hs) src.toNat freq.toNat) hrh hah (by rwa [State.heard_state]) (by rwa [State.heard_jumpLimit hr]) hbh
    have hsync := State.sync_later (fun h => h0 (BitVec.eq_of_toNat_eq h)) h4 hc he rfl hroot time.toNat res.toInt
    refine ⟨_, congrArg Host.Outcome.next hsync, ?_, hpend, hst, ?_, ?_, ?_⟩
    · rw [hjump, BitVec.ofInt_toInt]
    · rw [hsys, State.heard_tim]
      rfl
    · rw [hsrc, s.heard_reg _ _ (by decide)]
    · rw [hgr, State.heard_frame]
  case refine_6 =>
    intro src r s hs hq hrun hc ht
    obtain ⟨t, ht', h⟩ := State.qualify_spec (State.canonical_regs hs) hq (List.contains_iff_mem.mp hc)
    exact ⟨t, (execSourceQualified_qualifies hrun hc ht).trans (congrArg _ ht'), h⟩
  case refine_7 =>
    intro src s h
    refine execSourceQualified_stays fun r hrun hc hle => ?_
    rcases h with h | h | ⟨r', h, hlt⟩
    · rw [h] at hrun
      cases hrun
    · rw [h] at hc
      cases hc
    · rw [h] at hrun
      cases hrun
      omega
  case refine_8 =>
    intro src s hs hq h1 h4 hle hrun
    obtain ⟨t, ht, h⟩ := State.unqualify_spec
      (s := s.modTim (fun m => { m with runFrom := SMap.put none m.runFrom src.toNat none })) (State.canonical_regs hs) hq h1 h4
    exact ⟨t, (execSourceLost_lost hle hrun).trans (congrArg _ ht), h⟩
  case refine_9 =>
    intro src s h
    refine congrArg _ (if_neg ?_)
    rintro ⟨hle, hsome⟩
    rcases h with h | h
    · omega
    · rw [h] at hsome
      cases hsome
  case refine_10 =>
    intro s hs hstop hdown hst hm ha
    obtain ⟨ht, hf⟩ := State.tickBoundary_spec (State.canonical_hops hs) hstop hdown hst hm ha
    refine ⟨_, rfl, ?_, ?_, ?_, hf⟩ <;> rw [ht] <;> rfl
  case refine_11 =>
    intro s h
    exact congrArg _ (if_pos h)
  case refine_12 =>
    intro g s he hr
    exact ⟨_, execTickClosed_closes he hr, rfl, fun k hk => State.modGraph_graph_ne _ _ hk, State.modGraph_graph_self he⟩
  case refine_13 =>
    intro g s h
    refine congrArg _ (if_neg ?_)
    rintro ⟨he, hr⟩
    rcases h with h | h
    · rw [h] at he
      cases he
    · exact h hr

end Sys2Proof.Machine

/-! SUPPORT. Bits of registers, accesses of registers, and the enables of ports, surfaces and their units. -/
namespace Sys2Proof.Machine

/-! ## Bits -/

theorem getLsbD_setBit {i : Nat} (h : i < 64) (v : Word) (b : Bool) (j : Nat) :
    (setBit v i b).getLsbD j = if j = i then b else v.getLsbD j := by
  rw [setBit, getLsbD_setFld h]
  by_cases hj : j = i
  · subst hj
    rw [if_pos ⟨Nat.le_refl _, Nat.le_refl _⟩, if_pos rfl, Nat.sub_self]
    cases b <;> rfl
  · rw [if_neg (by omega), if_neg hj]

/-- The writable bits m of a register take the value written, the others stay. -/
theorem getLsbD_merge (cur v m : Word) {i : Nat} (h : i < 64) :
    ((cur &&& ~~~ m) ||| (v &&& m)).getLsbD i = if m.getLsbD i then v.getLsbD i else cur.getLsbD i := by
  rw [BitVec.getLsbD_or, BitVec.getLsbD_and, BitVec.getLsbD_and, BitVec.getLsbD_not]
  cases hm : m.getLsbD i <;> simp [h]

/-! ## Only registers change -/

/-- t is s but for registers. -/
def State.OnlyRegs (s t : State) : Prop := t = { s with regs := t.regs }

namespace State.OnlyRegs

theorem refl (s : State) : s.OnlyRegs s := rfl

theorem setReg {s t : State} (h : s.OnlyRegs t) (k : Nat) (v : Word) : s.OnlyRegs (t.setReg k v) := by
  unfold State.OnlyRegs at h ⊢
  rw [h]
  rfl

theorem foldl_setReg {α : Type} {s t : State} (h : s.OnlyRegs t) (f : α → Nat) (g : α → Word) (l : List α) :
    s.OnlyRegs (l.foldl (fun s i => s.setReg (f i) (g i)) t) := by
  induction l generalizing t with
  | nil => exact h
  | cons a r ih => exact ih (h.setReg _ _)

theorem ite {s a b : State} {c : Prop} [Decidable c] (ha : s.OnlyRegs a) (hb : s.OnlyRegs b) : s.OnlyRegs (if c then a else b) := by
  split
  · exact ha
  · exact hb

theorem tim {s t : State} (h : s.OnlyRegs t) : t.tim = s.tim := by rw [h]

theorem ctrs {s t : State} (h : s.OnlyRegs t) : t.ctrs = s.ctrs := by rw [h]

theorem hops {s t : State} (h : s.OnlyRegs t) : t.hops = s.hops := by rw [h]

theorem sfms {s t : State} (h : s.OnlyRegs t) : t.sfms = s.sfms := by rw [h]

end State.OnlyRegs

theorem State.reg_foldl_setReg_ne {s : State} (f : Nat → Nat) (g : Nat → Word) {l : List Nat} {k : Nat} (h : ∀ i ∈ l, k ≠ f i) :
    (l.foldl (fun s i => s.setReg (f i) (g i)) s).reg k = s.reg k := by
  induction l generalizing s with
  | nil => rfl
  | cons a r ih =>
    rw [List.foldl_cons, ih (fun i hi => h i (List.mem_cons_of_mem _ hi))]
    exact State.reg_setReg_ne _ _ (h a List.mem_cons_self)

/-- Registers written one after the other at keys of their own hold their values. -/
theorem State.reg_foldl_setReg_mem {s : State} (hw : SMap.wf none s.regs = true) {f : Nat → Nat} (hf : f.Injective) (g : Nat → Word) {l : List Nat}
    {i : Nat} (hi : i ∈ l) : (l.foldl (fun s i => s.setReg (f i) (g i)) s).reg (f i) = g i := by
  induction l generalizing s with
  | nil => cases hi
  | cons a r ih =>
    rw [List.foldl_cons]
    by_cases hr : i ∈ r
    · exact ih (State.setReg_regs_wf hw _ _) hr
    · obtain rfl := (List.mem_cons.mp hi).resolve_right hr
      rw [State.reg_foldl_setReg_ne f g (fun j hj e => hr (by rwa [show i = j from hf e])), State.reg_setReg_self _ _ hw]

/-! ## Accesses -/

/-- A trace point leaves registers and counters in canonical form. -/
theorem State.trace_wf {s : State} (hr : SMap.wf none s.regs = true) (hc : SMap.wf 0 s.ctrs = true) (source slip point : Nat) (data : List Nat) :
    SMap.wf none (s.trace source slip point data).regs = true ∧ SMap.wf 0 (s.trace source slip point data).ctrs = true := by
  unfold State.trace
  split
  · exact ⟨hr, hc⟩
  · extract_lets t need o s1
    split
    · exact ⟨hr, SMap.wf_put hc⟩
    · exact ⟨State.orReg_regs_wf hr _ _, SMap.wf_put hc⟩

theorem State.brew_wf {s : State} (hr : SMap.wf none s.regs = true) (hc : SMap.wf 0 s.ctrs = true) (ds : List Nat) :
    SMap.wf none (s.brew ds).regs = true ∧ SMap.wf 0 (s.brew ds).ctrs = true := by
  unfold State.brew
  extract_lets up
  split
  · exact ⟨hr, hc⟩
  · rw [State.power_frame]
    exact State.trace_wf (s := s.bump (pwrB + 0x200)) hr (State.bump_wf hc _ _) _ _ _ _

theorem State.unstage_frame (s : State) (f k : Nat) : s.unstage f k = { s with stageBuf := (s.unstage f k).stageBuf } := by
  unfold State.unstage
  split
  · split <;> rfl
  · rfl

/-- The maps that the enables read and write, in canonical form. -/
structure State.EnableMaps (s : State) : Prop where
  regs : SMap.wf none s.regs = true
  ctrs : SMap.wf 0 s.ctrs = true
  hops : SMap.wf {} s.hops = true
  sfms : SMap.wf {} s.sfms = true
  sps : SMap.wf {} s.sps = true

/-- An access leaves the maps of a state in canonical form. -/
theorem State.touch_maps {s : State} (h : s.canonical = true) (f o : Nat) : (s.touch f o).EnableMaps := by
  simp only [State.canonical, Bool.and_eq_true] at h
  obtain ⟨hr, hc⟩ := State.brew_wf (s := s) (by simp only [h]) (by simp only [h]) (linkDoms ++ if f = 0 then regDoms o else [])
  unfold State.touch State.access
  rw [State.unstage_frame, State.brew_frame]
  exact { regs := hr, ctrs := hc, hops := by simp only [h], sfms := by simp only [h], sps := by simp only [h] }

end Sys2Proof.Machine

/-! SUPPORT. The enable and the decoder of a port (R61, R71). -/
namespace Sys2Proof.Machine

/-- The bits of HOP_CTL that a write takes at once: PAIR only of the even port of a pair. -/
def hopMask (n : Nat) : Word := if n % 2 = 0 then 0x5E else 0x5C

/-- HOP_CTL after a write, before its EN is looked at. -/
def State.hopCtl (s : State) (n : Nat) (v : Word) : Word := (s.reg (hopB n) &&& ~~~ hopMask n) ||| (v &&& hopMask n)

theorem State.hopCtl_pair (s : State) (n : Nat) (v : Word) : (s.hopCtl n v).getLsbD 1 =
    (decide (n % 2 = 0) && v.getLsbD 1 || decide (n % 2 = 1) && (s.reg (hopB n)).getLsbD 1) := by
  rw [State.hopCtl, getLsbD_merge _ _ _ (by omega)]
  unfold hopMask
  by_cases h : n % 2 = 0
  · simp [h]
  · have h1 : n % 2 = 1 := by omega
    simp [h1]

/-- A port of a Hopper starts, with the limiter that its registers set. -/
def State.startHop (s : State) (p : Nat) : State :=
  s.modHop p (fun h => h.start (s.rfld (hopB p + 0x2C) 23 0) s.tim.tick ((s.reg (hopB p)).getLsbD 5))

/-- What a port that has started holds. -/
def Hopper.Started (x : Hopper) : Prop := x.buf = [] ∧ x.items = [] ∧ x.timeValid = false

theorem Hopper.start_started (x : Hopper) (burst tick : Nat) (lim : Bool) : (x.start burst tick lim).Started := ⟨rfl, rfl, rfl⟩

theorem State.foldl_startHop {s : State} (hw : SMap.wf {} s.hops = true) (l : List Nat) :
    l.foldl State.startHop s = { s with hops := (l.foldl State.startHop s).hops } ∧
    ∀ n, n ∈ l ∨ (s.hop n).Started → ((l.foldl State.startHop s).hop n).Started := by
  induction l generalizing s with
  | nil => exact ⟨rfl, fun n h => h.resolve_left List.not_mem_nil⟩
  | cons a r ih =>
    obtain ⟨hf, hn⟩ := ih (s := s.startHop a) (State.modHop_wf hw _ _)
    refine ⟨hf, fun n h => hn n ?_⟩
    by_cases ha : n = a
    · subst ha
      right
      unfold State.startHop
      rw [State.modHop_hop_self hw]
      exact Hopper.start_started _ _ _ _
    · refine h.imp (fun h => (List.mem_cons.mp h).resolve_left ha) (fun h => ?_)
      unfold State.startHop
      rwa [State.modHop_hop_ne _ ha]

theorem State.foldl_modSfm_frame (g : Sfm → Sfm) (l : List Nat) (s : State) :
    l.foldl (fun s p => s.modSfm p g) s = { s with sfms := (l.foldl (fun s p => s.modSfm p g) s).sfms } := by
  induction l generalizing s with
  | nil => rfl
  | cons a r ih =>
    rw [List.foldl_cons, ih]
    rfl

/-- A port with nothing waiting in its region. -/
def Sfm.idle (f : Sfm) : Sfm := { f with rwb := [], crnItems := [], flwItems := [] }

/-- The ports that EN of a port starts. -/
def startedPorts (n : Nat) (pair : Bool) : List Nat := if pair then [n, n + 1] else [n]

theorem mem_startedPorts (n : Nat) (pair : Bool) : n ∈ startedPorts n pair := by
  unfold startedPorts
  split <;> simp

/-- The state after EN starts its ports. -/
def State.startPorts (s : State) (l : List Nat) : State := l.foldl (fun s p => s.modSfm p Sfm.idle) (l.foldl State.startHop s)

theorem State.startPorts_spec {s : State} (hw : SMap.wf {} s.hops = true) (l : List Nat) :
    s.startPorts l = { s with hops := (s.startPorts l).hops, sfms := (s.startPorts l).sfms } ∧ ∀ n ∈ l, ((s.startPorts l).hop n).Started := by
  obtain ⟨hf, hn⟩ := State.foldl_startHop hw l
  have hh : (s.startPorts l).hops = (l.foldl State.startHop s).hops := by
    rw [State.startPorts, State.foldl_modSfm_frame]
  refine ⟨?_, fun n h => ?_⟩
  · rw [hh, State.startPorts, State.foldl_modSfm_frame, hf]
  · rw [State.hop, hh]
    exact hn n (.inl h)

/-! ## HOP_CTL -/

theorem State.geomOk_setReg (s : State) (n : Nat) (v : Word) (pair : Bool) : (s.setReg (hopB n) v).geomOk n pair = s.geomOk n pair := by
  unfold State.geomOk
  rw [State.rfld_setReg_ne _ _ _ _ (by omega), State.rfld_setReg_ne _ _ _ _ (by omega)]

/-- EN rising on a port that is off: the port starts where its geometry fits, and stays off with HOP_ERR otherwise. -/
theorem State.wrHopCtl_rising {s : State} {n : Nat} {v : Word} (hc : (s.reg (hopB n)).getLsbD 0 = false) (hv : v.getLsbD 0 = true) :
    s.wrHopCtl n v =
      if s.geomOk n ((s.hopCtl n v).getLsbD 1) then
        State.startPorts ((s.setReg (hopB n) (setBit (s.hopCtl n v) 0 false)).setReg (hopB n) (setBit (s.hopCtl n v) 0 true))
          (startedPorts n ((s.hopCtl n v).getLsbD 1))
      else (s.setReg (hopB n) (setBit (s.hopCtl n v) 0 false)).orReg (hopB n + 0x48) 0x10 := by
  unfold State.wrHopCtl
  extract_lets k cur pairBit m cur' bad s1 s2 s3 ps s4
  have hcur : cur' = s.hopCtl n v := rfl
  have hg : s2.geomOk n (cur'.getLsbD 1) = s.geomOk n ((s.hopCtl n v).getLsbD 1) := State.geomOk_setReg _ _ _ _
  have hoff : ¬ cur.getLsbD 0 = true := by
    simp only [cur, k, hc]
    decide
  rw [if_neg hoff, if_neg (by rw [hv]; decide), hg]
  rfl

/-- With EN falling or off only registers change, and the port is off. -/
theorem State.wrHopCtl_off {s : State} (hw : SMap.wf none s.regs = true) (n : Nat) {v : Word} (hv : v.getLsbD 0 = false) :
    ((s.wrHopCtl n v).reg (hopB n)).getLsbD 0 = false ∧ s.OnlyRegs (s.wrHopCtl n v) ∧
      ∀ j, j ≠ hopB n → j ≠ hopB n + 0x48 → (s.wrHopCtl n v).reg j = s.reg j := by
  unfold State.wrHopCtl
  extract_lets k cur pairBit m cur' bad s1 s2 s3 ps s4
  have h1 : (s1.reg k).getLsbD 0 = false := by
    rw [State.reg_setReg_self _ _ hw, getLsbD_setBit (by omega), if_pos rfl, hv]
  have h2 : (s2.reg k).getLsbD 0 = false := by
    rw [State.reg_setReg_self _ _ hw, getLsbD_setBit (by omega), if_pos rfl]
  split
  · split
    · refine ⟨?_, ((State.OnlyRegs.refl s).setReg _ _).setReg _ _, fun j hj hj' => ?_⟩
      · rw [State.reg_orReg_ne _ _ (by omega)]
        exact h1
      · rw [State.reg_orReg_ne _ _ hj', State.reg_setReg_ne _ _ hj]
    · exact ⟨h1, (State.OnlyRegs.refl s).setReg _ _, fun j hj _ => State.reg_setReg_ne _ _ hj⟩
  · rw [if_pos (by rw [hv]; decide)]
    exact ⟨h2, (State.OnlyRegs.refl s).setReg _ _, fun j hj _ => State.reg_setReg_ne _ _ hj⟩

theorem State.wrHopCtl_starts {s : State} (hm : s.EnableMaps) {n : Nat} {v : Word} (hc : (s.reg (hopB n)).getLsbD 0 = false)
    (hv : v.getLsbD 0 = true) (hg : s.geomOk n ((s.hopCtl n v).getLsbD 1) = true) :
    ((s.wrHopCtl n v).reg (hopB n)).getLsbD 0 = true ∧ ((s.wrHopCtl n v).hop n).Started ∧
      (∀ j, j ≠ hopB n → (s.wrHopCtl n v).reg j = s.reg j) ∧ (s.wrHopCtl n v).tim = s.tim ∧ (s.wrHopCtl n v).ctrs = s.ctrs := by
  rw [State.wrHopCtl_rising hc hv, if_pos hg]
  have hw1 := State.setReg_regs_wf hm.regs (hopB n) (setBit (s.hopCtl n v) 0 false)
  have ho : s.OnlyRegs ((s.setReg (hopB n) (setBit (s.hopCtl n v) 0 false)).setReg (hopB n) (setBit (s.hopCtl n v) 0 true)) :=
    ((State.OnlyRegs.refl s).setReg _ _).setReg _ _
  have hself := State.reg_setReg_self (hopB n) (setBit (s.hopCtl n v) 0 true) hw1
  have hne : ∀ j, j ≠ hopB n →
      ((s.setReg (hopB n) (setBit (s.hopCtl n v) 0 false)).setReg (hopB n) (setBit (s.hopCtl n v) 0 true)).reg j = s.reg j :=
    fun j hj => by rw [State.reg_setReg_ne _ _ hj, State.reg_setReg_ne _ _ hj]
  generalize (s.setReg (hopB n) (setBit (s.hopCtl n v) 0 false)).setReg (hopB n) (setBit (s.hopCtl n v) 0 true) = u at ho hself hne
  obtain ⟨hf, hst⟩ := State.startPorts_spec (s := u) (by rw [ho.hops]; exact hm.hops) (startedPorts n ((s.hopCtl n v).getLsbD 1))
  have hreg : ∀ j, (u.startPorts (startedPorts n ((s.hopCtl n v).getLsbD 1))).reg j = u.reg j := State.reg_congr (by rw [hf])
  refine ⟨?_, hst n (mem_startedPorts _ _), fun j hj => (hreg j).trans (hne j hj), ?_, ?_⟩
  · rw [hreg, hself, getLsbD_setBit (by omega), if_pos rfl]
  · rw [hf]
    exact ho.tim
  · rw [hf]
    exact ho.ctrs

theorem State.wrHopCtl_misfit {s : State} (hm : s.EnableMaps) {n : Nat} {v : Word} (hc : (s.reg (hopB n)).getLsbD 0 = false)
    (hv : v.getLsbD 0 = true) (hg : s.geomOk n ((s.hopCtl n v).getLsbD 1) = false) :
    ((s.wrHopCtl n v).reg (hopB n)).getLsbD 0 = false ∧ (s.wrHopCtl n v).reg (hopB n + 0x48) = s.reg (hopB n + 0x48) ||| 0x10 ∧
      s.OnlyRegs (s.wrHopCtl n v) := by
  rw [State.wrHopCtl_rising hc hv, if_neg (by rw [hg]; decide)]
  have hw1 := State.setReg_regs_wf hm.regs (hopB n) (setBit (s.hopCtl n v) 0 false)
  refine ⟨?_, ?_, ((State.OnlyRegs.refl s).setReg _ _).setReg _ _⟩
  · rw [State.reg_orReg_ne _ _ (by omega), State.reg_setReg_self _ _ hm.regs, getLsbD_setBit (by omega), if_pos rfl]
  · rw [State.orReg_reg_self hw1, State.reg_setReg_ne _ _ (by omega)]

/-! ## HOP_DEC_CFG -/

theorem fld_decoder_select (v : BitVec 32) : fld (v.setWidth 64) 1 0 = v.toNat % 4 := by
  have hv := v.isLt
  simp only [fld, BitVec.toNat_setWidth, Nat.shiftRight_zero]
  omega

/-- A preset fills the decoder's registers and its 32 rules. -/
theorem State.wrHopDec_preset {s : State} (hw : SMap.wf none s.regs = true) {n : Nat} {v : Word} (he : s.hopEn n = false) (hv : fld v 1 0 ≠ 3) :
    s.OnlyRegs (s.wrHopDec n v) ∧ (s.wrHopDec n v).reg (hopB n + 0x10) = presetCfg (fld v 1 0) ||| (v &&& 0x83) ∧
      ∀ i, i < 32 → (s.wrHopDec n v).reg (hopB n + 0x100 + 8 * i) = BitVec.ofNat 64 (((presetRules (fld v 1 0))[i]?).getD 0) := by
  unfold State.wrHopDec
  extract_lets k p s1
  rw [if_neg (by rw [he]; decide), if_neg hv]
  refine ⟨((State.OnlyRegs.refl s).setReg _ _).foldl_setReg _ _ _, ?_, fun i hi => ?_⟩
  · rw [State.reg_foldl_setReg_ne (fun i => k + 0x100 + 8 * i) _ (fun i _ => by omega), State.reg_setReg_self _ _ hw]
  · exact State.reg_foldl_setReg_mem (State.setReg_regs_wf hw _ _) (f := fun i => k + 0x100 + 8 * i)
      (fun a b h => by have h' : k + 0x100 + 8 * a = k + 0x100 + 8 * b := h; omega) _ (List.mem_range.mpr hi)

end Sys2Proof.Machine

/-! SUPPORT. The enables of surfaces and of their corner and flow units (R97, R107, R111, R115). -/
namespace Sys2Proof.Machine

/-- Writing a property into every surface of a list. -/
theorem State.foldl_modSfm_holds {P : Sfm → Prop} {g : Sfm → Sfm} (hg : ∀ x, P (g x)) {s : State} (hw : SMap.wf {} s.sfms = true) (l : List Nat)
    {n : Nat} (h : n ∈ l ∨ P (s.sfm n)) : P ((l.foldl (fun s p => s.modSfm p g) s).sfm n) := by
  induction l generalizing s with
  | nil => exact h.resolve_left List.not_mem_nil
  | cons a r ih =>
    refine ih (s := s.modSfm a g) (SMap.wf_upd hw) ?_
    by_cases ha : n = a
    · subst ha
      right
      have hself : (s.modSfm n g).sfm n = g (s.sfm n) := SMap.get_upd_self hw
      rw [hself]
      exact hg _
    · refine h.imp (fun h => (List.mem_cons.mp h).resolve_left ha) (fun h => ?_)
      have hne : (s.modSfm a g).sfm n = s.sfm n := SMap.get_upd_ne ha
      rwa [hne]

/-- The lower region of a pair and a region of its own are among those that a surface covers. -/
theorem State.mem_surfRegions {s : State} {r : Nat} (h : s.cfgPort r = r) : r ∈ s.surfRegions r := by
  unfold State.cfgPort at h
  unfold State.surfRegions
  split
  next hp =>
    rw [if_pos hp] at h
    simp [h]
  · simp

/-- A change of a governed surface holds of the region, where the port governs; and nothing but surfaces changes. -/
theorem State.modGoverned_spec {P : Sfm → Prop} {g : Sfm → Sfm} (hg : ∀ x, P (g x)) {s : State} (hw : SMap.wf {} s.sfms = true) (r : Nat) :
    s.modGoverned r g = { s with sfms := (s.modGoverned r g).sfms } ∧
      if s.cfgPort r = r then P ((s.modGoverned r g).sfm r) else (s.modGoverned r g).sfms = s.sfms := by
  unfold State.modGoverned
  split
  next h => exact ⟨State.foldl_modSfm_frame _ _ _, State.foldl_modSfm_holds hg hw _ (.inl (State.mem_surfRegions h))⟩
  · exact ⟨rfl, rfl⟩

theorem hopB_lt_sfmP {n r : Nat} (h : n < 16) : hopB n < sfmP r := by
  unfold hopB sfmP
  omega

theorem State.paired_congr {s t : State} {n : Nat} (h : t.reg (hopB (n / 2 * 2)) = s.reg (hopB (n / 2 * 2))) : t.paired n = s.paired n := by
  rw [State.paired, State.paired, h]

theorem State.cfgPort_congr {s t : State} {n : Nat} (h : t.reg (hopB (n / 2 * 2)) = s.reg (hopB (n / 2 * 2))) : t.cfgPort n = s.cfgPort n := by
  rw [State.cfgPort, State.cfgPort, State.paired_congr h]

/-- SFM_SURF_CFG after a write, before its EN is looked at. -/
def State.surfCfg (s : State) (r : Nat) (v : Word) : Word := setBit ((s.reg (sfmP r) &&& ~~~ 0xFFFFFF00) ||| (v &&& 0xFFFFFF00)) 31 false

theorem State.wrSurfCfg_again {s : State} {r : Nat} {v : Word} (hc : (s.reg (sfmP r)).getLsbD 31 = true) (hv : v.getLsbD 31 = true) :
    s.wrSurfCfg r v = s.sfmErr r 1 := by
  unfold State.wrSurfCfg
  extract_lets
  rw [if_pos hc, if_pos hv]

theorem State.wrSurfCfg_off {s : State} {r : Nat} {v : Word} (hc : (s.reg (sfmP r)).getLsbD 31 = false) (hv : v.getLsbD 31 = false) :
    s.wrSurfCfg r v = s.setReg (sfmP r) (s.surfCfg r v) := by
  unfold State.wrSurfCfg
  extract_lets k cur new
  rw [if_neg (by simp only [cur, k, hc]; decide), if_pos (by rw [hv]; decide)]
  rfl

theorem State.wrSurfCfg_bad {s : State} {r : Nat} {v : Word} (hc : (s.reg (sfmP r)).getLsbD 31 = false) (hv : v.getLsbD 31 = true)
    (ho : (s.setReg (sfmP r) (s.surfCfg r v)).surfOk r = false) : s.wrSurfCfg r v = (s.setReg (sfmP r) (s.surfCfg r v)).sfmErr r 0 := by
  unfold State.wrSurfCfg
  extract_lets k cur new s1 s2 s3 s4
  have h4 : s4.surfOk r = false := ho
  rw [if_neg (by simp only [cur, k, hc]; decide), if_neg (by rw [hv]; decide), if_neg (by rw [h4]; decide)]
  rfl

/-- What a surface that has started holds. -/
def Sfm.Clearing (f : Sfm) : Prop := f.clearing = true ∧ f.epoch = 0 ∧ f.origin = none ∧ f.entries = []

/-- What a surface that is off holds. -/
def Sfm.Off (f : Sfm) : Prop := f.origin = none ∧ f.clearing = false

theorem State.wrSurfCfg_starts {s : State} (hm : s.EnableMaps) {r : Nat} (hr : r < 16) {v : Word} (hc : (s.reg (sfmP r)).getLsbD 31 = false)
    (hv : v.getLsbD 31 = true) (ho : (s.setReg (sfmP r) (s.surfCfg r v)).surfOk r = true) :
    (s.wrSurfCfg r v).reg (sfmP r) = setBit (s.surfCfg r v) 31 true ∧
      (if s.cfgPort r = r then ((s.wrSurfCfg r v).sfm r).Clearing else (s.wrSurfCfg r v).sfms = s.sfms) ∧
      (∀ j, j ≠ sfmP r → (s.wrSurfCfg r v).reg j = s.reg j) ∧
      s.wrSurfCfg r v = { s with regs := (s.wrSurfCfg r v).regs, sfms := (s.wrSurfCfg r v).sfms } := by
  have he : s.wrSurfCfg r v =
      ((s.setReg (sfmP r) (s.surfCfg r v)).setReg (sfmP r) (setBit (s.surfCfg r v) 31 true)).modGoverned r Sfm.start := by
    unfold State.wrSurfCfg
    extract_lets k cur new s1 s2 s3 s4
    have h4 : s4.surfOk r = true := ho
    rw [if_neg (by simp only [cur, k, hc]; decide), if_neg (by rw [hv]; decide), if_pos h4]
    rfl
  rw [he]
  have hu : s.OnlyRegs ((s.setReg (sfmP r) (s.surfCfg r v)).setReg (sfmP r) (setBit (s.surfCfg r v) 31 true)) :=
    ((State.OnlyRegs.refl s).setReg _ _).setReg _ _
  have hself := State.reg_setReg_self (sfmP r) (setBit (s.surfCfg r v) 31 true) (State.setReg_regs_wf hm.regs (sfmP r) (s.surfCfg r v))
  have hne : ∀ j, j ≠ sfmP r → ((s.setReg (sfmP r) (s.surfCfg r v)).setReg (sfmP r) (setBit (s.surfCfg r v) 31 true)).reg j = s.reg j :=
    fun j hj => by rw [State.reg_setReg_ne _ _ hj, State.reg_setReg_ne _ _ hj]
  generalize (s.setReg (sfmP r) (s.surfCfg r v)).setReg (sfmP r) (setBit (s.surfCfg r v) 31 true) = u at hu hself hne
  obtain ⟨hf, hg⟩ := State.modGoverned_spec (P := Sfm.Clearing) (g := Sfm.start) (fun _ => ⟨rfl, rfl, rfl, rfl⟩) (s := u)
    (by rw [hu.sfms]; exact hm.sfms) r
  rw [State.cfgPort_congr (hne _ (by have := hopB_lt_sfmP (n := r / 2 * 2) (r := r) (by omega); omega)), hu.sfms] at hg
  have hreg : ∀ j, (u.modGoverned r Sfm.start).reg j = u.reg j := State.reg_congr (by rw [hf])
  exact ⟨(hreg _).trans hself, hg, fun j hj => (hreg j).trans (hne j hj), by rw [hf, hu]⟩

/-- The registers that EN falling on a surface writes: its own and those of the region's units. -/
def State.surfDown (s : State) (r : Nat) : State :=
  let s := s.setReg (sfmP r) (setBit (s.reg (sfmP r)) 31 false)
  let s := s.setReg (sfmP r + 0x20) (setBit (s.reg (sfmP r + 0x20)) 31 false)
  s.setReg (sfmP r + 0x28) (setBit (s.reg (sfmP r + 0x28)) 31 false)

theorem State.surfDown_spec {s : State} (hw : SMap.wf none s.regs = true) (r : Nat) :
    s.OnlyRegs (s.surfDown r) ∧ ((s.surfDown r).reg (sfmP r)).getLsbD 31 = false ∧ ((s.surfDown r).reg (sfmP r + 0x20)).getLsbD 31 = false ∧
      ((s.surfDown r).reg (sfmP r + 0x28)).getLsbD 31 = false ∧
      ∀ j, j ≠ sfmP r → j ≠ sfmP r + 0x20 → j ≠ sfmP r + 0x28 → (s.surfDown r).reg j = s.reg j := by
  unfold State.surfDown
  extract_lets s1 s2
  have hw1 : SMap.wf none s1.regs = true := State.setReg_regs_wf hw _ _
  have hw2 : SMap.wf none s2.regs = true := State.setReg_regs_wf hw1 _ _
  refine ⟨(((State.OnlyRegs.refl s).setReg _ _).setReg _ _).setReg _ _, ?_, ?_, ?_, fun j h0 h1 h2 => ?_⟩
  · rw [State.reg_setReg_ne _ _ (by omega), State.reg_setReg_ne _ _ (by omega), State.reg_setReg_self _ _ hw, getLsbD_setBit (by omega), if_pos rfl]
  · rw [State.reg_setReg_ne _ _ (by omega), State.reg_setReg_self _ _ hw1, getLsbD_setBit (by omega), if_pos rfl]
  · rw [State.reg_setReg_self _ _ hw2, getLsbD_setBit (by omega), if_pos rfl]
  · rw [State.reg_setReg_ne _ _ h2, State.reg_setReg_ne _ _ h1, State.reg_setReg_ne _ _ h0]

theorem State.wrSurfCfg_falls {s : State} (hm : s.EnableMaps) {r : Nat} (hr : r < 16) {v : Word} (hc : (s.reg (sfmP r)).getLsbD 31 = true)
    (hv : v.getLsbD 31 = false) :
    ((s.wrSurfCfg r v).reg (sfmP r)).getLsbD 31 = false ∧ ((s.wrSurfCfg r v).reg (sfmP r + 0x20)).getLsbD 31 = false ∧
      ((s.wrSurfCfg r v).reg (sfmP r + 0x28)).getLsbD 31 = false ∧
      (if s.cfgPort r = r then ((s.wrSurfCfg r v).sfm r).Off else (s.wrSurfCfg r v).sfms = s.sfms) ∧
      s.wrSurfCfg r v = { s with regs := (s.wrSurfCfg r v).regs, sfms := (s.wrSurfCfg r v).sfms } := by
  have he : s.wrSurfCfg r v = (s.surfDown r).modGoverned r (fun f => { f with origin := none, clearing := false }) := by
    unfold State.wrSurfCfg
    extract_lets
    rw [if_pos hc, if_neg (by rw [hv]; decide)]
    rfl
  rw [he]
  obtain ⟨hu, h0, h1, h2, hne⟩ := State.surfDown_spec hm.regs r
  generalize s.surfDown r = u at hu h0 h1 h2 hne
  obtain ⟨hf, hg⟩ := State.modGoverned_spec (P := Sfm.Off) (g := fun f => { f with origin := none, clearing := false }) (fun _ => ⟨rfl, rfl⟩) (s := u)
    (by rw [hu.sfms]; exact hm.sfms) r
  have hlt := hopB_lt_sfmP (n := r / 2 * 2) (r := r) (by omega)
  rw [State.cfgPort_congr (hne _ (by omega) (by omega) (by omega)), hu.sfms] at hg
  have hreg : ∀ j, (u.modGoverned r (fun f => { f with origin := none, clearing := false })).reg j = u.reg j := State.reg_congr (by rw [hf])
  exact ⟨by rwa [hreg], by rwa [hreg], by rwa [hreg], hg, by rw [hf, hu]⟩

/-! ## Corner and flow units -/

section
variable {s : State} {r off : Nat} {m v : Word} {ok : State → Bool}

/-- A unit's configuration after a write, before its EN is looked at. -/
def State.unitCfg (s : State) (r off : Nat) (m v : Word) : Word := setBit ((s.reg (sfmP r + off) &&& ~~~ m) ||| (v &&& m)) 31 false

theorem State.wrUnitCfg_again (hc : (s.reg (sfmP r + off)).getLsbD 31 = true) (hv : v.getLsbD 31 = true) :
    s.wrUnitCfg r off m ok v = s.sfmErr r 1 := by
  unfold State.wrUnitCfg
  extract_lets
  rw [if_pos hc, if_pos hv]

theorem State.wrUnitCfg_falls (hc : (s.reg (sfmP r + off)).getLsbD 31 = true) (hv : v.getLsbD 31 = false) :
    s.wrUnitCfg r off m ok v = s.setReg (sfmP r + off) (setBit (s.reg (sfmP r + off)) 31 false) := by
  unfold State.wrUnitCfg
  extract_lets
  rw [if_pos hc, if_neg (by rw [hv]; decide)]

theorem State.wrUnitCfg_off (hc : (s.reg (sfmP r + off)).getLsbD 31 = false) (hv : v.getLsbD 31 = false) :
    s.wrUnitCfg r off m ok v = s.setReg (sfmP r + off) (s.unitCfg r off m v) := by
  unfold State.wrUnitCfg
  extract_lets k cur new
  rw [if_neg (by simp only [cur, k, hc]; decide), if_pos (by rw [hv]; decide)]
  rfl

theorem State.wrUnitCfg_bad (hc : (s.reg (sfmP r + off)).getLsbD 31 = false) (hv : v.getLsbD 31 = true)
    (ho : ok (s.setReg (sfmP r + off) (s.unitCfg r off m v)) = false) :
    s.wrUnitCfg r off m ok v = (s.setReg (sfmP r + off) (s.unitCfg r off m v)).sfmErr r 0 := by
  unfold State.wrUnitCfg
  extract_lets k cur new s1
  have h1 : ok s1 = false := ho
  rw [if_neg (by simp only [cur, k, hc]; decide), if_neg (by rw [hv]; decide), if_neg (by rw [h1]; decide)]
  rfl

theorem State.wrUnitCfg_starts (hc : (s.reg (sfmP r + off)).getLsbD 31 = false) (hv : v.getLsbD 31 = true)
    (ho : ok (s.setReg (sfmP r + off) (s.unitCfg r off m v)) = true) : s.wrUnitCfg r off m ok v =
      (s.setReg (sfmP r + off) (s.unitCfg r off m v)).setReg (sfmP r + off) (setBit (s.unitCfg r off m v) 31 true) := by
  unfold State.wrUnitCfg
  extract_lets k cur new s1
  have h1 : ok s1 = true := ho
  rw [if_neg (by simp only [cur, k, hc]; decide), if_neg (by rw [hv]; decide), if_pos h1]
  rfl

end

end Sys2Proof.Machine

/-! SUPPORT. The enable and the retraining of a link, the routes and the tick lead (R443, R444, R452, R454). -/
namespace Sys2Proof.Machine

/-! ## Links -/

section
variable {K : Nat → Prop}

theorem State.steady_poisonEnd (hK : QuietKeys K) (s : State) (n cause first farTick port : Nat) :
    s.Steady K (s.poisonEnd n cause first farTick port) := by
  unfold State.poisonEnd
  extract_lets t s1 s2 s3 s4
  have h1 : s.Steady K s1 := .of_eq rfl rfl rfl rfl rfl
  have h2 : s1.Steady K s2 := .of_eq rfl rfl rfl rfl rfl
  have h4 : s.Steady K s4 := ((h1.trans h2).trans (State.steady_fnEvent hK _ _ _ _ _ _)).trans (State.steady_alarm hK _ _ _ _ _)
  split
  · exact .refl s
  · split
    · refine (h4.trans ?_).trans (State.steady_complete hK _ _ _ _ _)
      exact .of_eq rfl rfl rfl rfl rfl
    · exact h4

end

/-- The register that enables a link. -/
def linkKey (p : Nat) (k : Nat) : Prop := k = spnB p

theorem linkKey_quiet {p : Nat} (hp : p < 4) : QuietKeys (linkKey p) where
  obs h := by unfold linkKey obsB spnB at h; omega
  sim h := by unfold linkKey simB spnB at h; omega
  stat h := by unfold linkKey tuStat tuB spnB at h; omega
  xio h := by unfold linkKey xioB spnB at h; omega
  fn f h := by
    unfold linkKey spnB at h
    have := fnB_cases f
    omega

theorem State.modPort_port_self {s : State} (h : SMap.wf {} s.sps = true) (p : Nat) (g : SpPort → SpPort) : (s.modPort p g).port p = g (s.port p) :=
  SMap.get_upd_self h

theorem State.modPort_wf {s : State} (h : SMap.wf {} s.sps = true) (p : Nat) (g : SpPort → SpPort) : SMap.wf {} (s.modPort p g).sps = true :=
  SMap.wf_upd h

theorem State.port_congr {s t : State} (h : t.sps = s.sps) (p : Nat) : t.port p = s.port p := by
  rw [State.port, State.port, h]

/-- A link that enters a state is in it, and its enable stays. -/
theorem State.setLink_spec {s : State} (hw : SMap.wf {} s.sps = true) {p : Nat} (hp : p < 4) (v : Nat) :
    SMap.wf {} (s.setLink p v).sps = true ∧ ((s.setLink p v).port p).state = v ∧ (s.setLink p v).reg (spnB p) = s.reg (spnB p) := by
  have hl : (s.modPort p (fun t => { t with state := v })).Steady (linkKey p) (s.setLink p v) := State.steady_log (linkKey_quiet hp) _ _ _ _ _ _
  refine ⟨hl.sps ▸ State.modPort_wf hw _ _, ?_, hl.reg _ rfl⟩
  rw [State.port_congr hl.sps, State.modPort_port_self hw]

/-- A link taken down is DOWN, and its enable stays. -/
theorem State.linkDown_spec {s : State} (hw : SMap.wf {} s.sps = true) {p : Nat} (hp : p < 4) (wait : Nat) :
    SMap.wf {} (s.linkDown p wait []).sps = true ∧ ((s.linkDown p wait []).port p).state = 0 ∧
      (s.linkDown p wait []).reg (spnB p) = s.reg (spnB p) := by
  obtain ⟨hw1, hst1, hr1⟩ := State.setLink_spec hw hp 0
  have hq := linkKey_quiet hp
  unfold State.linkDown
  extract_lets was s1 s2 s3 s4 s5
  have hw2 : SMap.wf {} s2.sps = true := State.modPort_wf hw1 _ _
  have hst2 : (s2.port p).state = 0 := by
    simp only [s2]
    rw [State.modPort_port_self hw1]
    exact hst1
  have h3 : s2.Steady (linkKey p) s3 := .trans (.bump _ _ _) (.orReg _ (by unfold linkKey spErr; omega) _)
  have h4 : s2.Steady (linkKey p) s4 := h3.trans (.foldl (fun s n => s.steady_poisonEnd hq _ _ _ _ _) _ _)
  have ht : ∀ t, s2.Steady (linkKey p) t → SMap.wf {} t.sps = true ∧ (t.port p).state = 0 ∧ t.reg (spnB p) = s.reg (spnB p) :=
    fun t h => ⟨by rw [h.sps]; exact hw2, by rw [State.port_congr h.sps]; exact hst2, (h.reg _ rfl).trans hr1⟩
  refine ht _ ?_
  exact .ite (.refl s2) (.ite (h4.trans (State.steady_setTimeState hq _ _)) h4)

theorem State.spEn_congr {s t : State} {p : Nat} (h : t.reg (spnB p) = s.reg (spnB p)) : t.spEn p = s.spEn p := by
  rw [State.spEn, State.spEn, State.rfld_congr h]

theorem State.spEn_setRfld {s : State} (hw : SMap.wf none s.regs = true) (p : Nat) (b : Bool) : (s.setRfld (spnB p) 0 0 b.toNat).spEn p = b := by
  rw [State.spEn, State.rfld_setRfld_self hw (by omega)]
  cases b <;> rfl

theorem State.wrSpnEn_on {s : State} (hw : SMap.wf none s.regs = true) (p : Nat) :
    (s.wrSpnEn p true).spEn p = true ∧ s.OnlyRegs (s.wrSpnEn p true) ∧ ∀ j, j ≠ spnB p → (s.wrSpnEn p true).reg j = s.reg j :=
  ⟨State.spEn_setRfld hw p true, (State.OnlyRegs.refl s).setReg _ _, fun _ hj => State.reg_setRfld_ne _ _ _ _ hj⟩

theorem State.wrSpnEn_off {s : State} (hm : s.EnableMaps) {p : Nat} (hp : p < 4) :
    (s.wrSpnEn p false).spEn p = false ∧ ((s.wrSpnEn p false).port p).state = 0 ∧
      ((s.port p).state = 0 → s.OnlyRegs (s.wrSpnEn p false)) := by
  unfold State.wrSpnEn
  extract_lets s1
  have hen : s1.spEn p = false := State.spEn_setRfld hm.regs p false
  have hsps : s1.sps = s.sps := State.setRfld_sps _ _ _ _ _
  have hw1 : SMap.wf {} s1.sps = true := by rw [hsps]; exact hm.sps
  have hport : s1.port p = s.port p := State.port_congr hsps p
  by_cases h0 : (s1.port p).state = 0
  · rw [if_pos (.inr h0)]
    exact ⟨hen, h0, fun _ => (State.OnlyRegs.refl s).setReg _ _⟩
  · rw [if_neg (by simp [h0])]
    obtain ⟨hw2, hst, hr⟩ := State.linkDown_spec hw1 hp 0
    refine ⟨?_, ?_, fun h => absurd (by rwa [hport]) h0⟩
    · exact (State.spEn_congr (s := s1) hr).trans hen
    · rw [State.modPort_port_self hw2]
      exact hst

/-- A record of the log counts in the log's and the alarms' counters only. -/
theorem State.log_ctr (s : State) (source slip level code : Nat) (data : List Nat) {k : Nat} (hk : obsB + 0x200 ≤ k) :
    (s.log source slip level code data).ctr k = s.ctr k := by
  have ha : ∀ (s : State) (cause source slip : Nat) (present : Bool), (s.alarm cause source slip present).ctr k = s.ctr k := by
    intro s cause source slip present
    unfold State.alarm
    extract_lets s1 t held s2 s3
    have h1 : s1.ctr k = s.ctr k := State.ctr_bump_ne _ _ (by omega)
    have h3 : s3.ctr k = s.ctr k := (State.ctr_bump_ne s1 (k := obsB + 0x108) 1 (by omega)).trans h1
    split
    · exact h1
    · split
      · exact h1
      · split <;> exact h3
  unfold State.log
  extract_lets t need o first obs s1 s2
  have h2 : s2.ctr k = s.ctr k := State.ctr_bump_ne s1 (k := obsB + 0x118) 1 (by omega)
  split
  · exact State.ctr_bump_ne _ _ (by omega)
  · split
    · exact (ha _ _ _ _ _).trans h2
    · exact h2

theorem State.log_streams (s : State) (source slip level code : Nat) (data : List Nat) :
    (s.log source slip level code data).streams = s.streams := by
  unfold State.log
  extract_lets t need o first obs s1 s2
  split
  · rfl
  · split
    · rw [State.alarm_frame]
      rfl
    · rfl

/-- RETRAIN of a link that is UP: the link is in RETRAIN, and the retraining counts. -/
theorem State.wrSpnRetrain_up {s : State} (hm : s.EnableMaps) {p : Nat} (hp : p < 4) (h : (s.port p).state = 3) :
    ((s.wrSpnRetrain p).port p).state = 4 ∧ (s.wrSpnRetrain p).ctr (spnB p + 0x128) = s.ctr (spnB p + 0x128) + 1 ∧
      (s.wrSpnRetrain p).streams = s.streams := by
  unfold State.wrSpnRetrain
  rw [if_pos h]
  obtain ⟨-, hst, -⟩ := State.setLink_spec hm.sps hp 4
  have hc : (s.setLink p 4).ctr (spnB p + 0x128) = s.ctr (spnB p + 0x128) :=
    State.log_ctr _ _ _ _ _ _ (by unfold obsB spnB; omega)
  have hw : SMap.wf 0 (s.setLink p 4).ctrs = true :=
    (State.keeps_log (s.modPort p (fun t => { t with state := 4 })) _ _ _ _ _).ctrs_wf hm.ctrs
  refine ⟨hst, ?_, State.log_streams _ _ _ _ _ _⟩
  have hb := State.ctr_bump_self (spnB p + 0x128) 1 hw
  rw [hc] at hb
  exact hb

/-! ## Routes -/

theorem State.wrRoute_free {s : State} {w : Nat} {v : Word} (h : ∀ e ∈ s.streams, e.2.state ≠ 0 → e.2.peer / 16 = w →
    fld v (4 * (e.2.peer % 16) + 3) (4 * (e.2.peer % 16)) = s.routeEntry e.2.peer) :
    s.wrRoute w v = s.setReg (spnB 0 + 0x8000 + 8 * w) v := by
  unfold State.wrRoute
  extract_lets used
  refine if_neg fun hu => ?_
  obtain ⟨e, he, hp⟩ := List.any_eq_true.mp hu
  simp only [Bool.and_eq_true, decide_eq_true_eq] at hp
  exact hp.2 (h e he hp.1.1 hp.1.2)

theorem State.wrRoute_used {s : State} {w : Nat} {v : Word} {e : Nat × Strm} (he : e ∈ s.streams) (h0 : e.2.state ≠ 0) (hw : e.2.peer / 16 = w)
    (hv : fld v (4 * (e.2.peer % 16) + 3) (4 * (e.2.peer % 16)) ≠ s.routeEntry e.2.peer) : s.wrRoute w v = s := by
  unfold State.wrRoute
  extract_lets used
  refine if_pos (List.any_eq_true.mpr ⟨e, he, ?_⟩)
  simp only [Bool.and_eq_true, decide_eq_true_eq]
  exact ⟨⟨h0, hw⟩, hv⟩

/-! ## The tick lead -/

/-- The lead that a write of TICK_LEAD_MAX asks for, in microseconds. -/
def leadOf (v : Nat) : Nat := min 2000 (max 1 (v % 2048))

/-- The lead in force after a write: on a binding's root no less than its members need. -/
def State.leadFor (s : State) (v : Nat) : Nat := if s.bind.member && s.bind.isRoot then max (leadOf v) s.bind.maxUs else leadOf v

theorem State.one_le_leadFor (s : State) (v : Nat) : 1 ≤ s.leadFor v := by
  unfold State.leadFor leadOf
  split <;> omega

theorem State.wrTickLead_eq (s : State) (v : Nat) : s.wrTickLead v =
    if (s.bind.member && s.bind.isRoot) = true ∧ s.leadFor v * 1000 ≠ s.bind.leadNs then
      (s.setRfld (tuB + 0x24) 10 0 (s.leadFor v)).scheduleMarker (s.tim.tick + s.leadTicks) (.leadMax (s.leadFor v * 1000))
    else s.setRfld (tuB + 0x24) 10 0 (s.leadFor v) := rfl

theorem State.scheduleMarker_frame (s : State) (tick : Nat) (op : MarkerOp) :
    (s.scheduleMarker tick op).regs = s.regs ∧ (s.scheduleMarker tick op).bind.markers = s.bind.markers ++ [{ tick := tick, what := op }] := by
  rw [State.scheduleMarker, State.sendDown_frame]
  exact ⟨rfl, rfl⟩

/-- What any write of TICK_LEAD_MAX leaves. -/
theorem State.wrTickLead_regs {s : State} (hw : SMap.wf none s.regs = true) (v : Nat) :
    (s.wrTickLead v).rfld (tuB + 0x24) 10 0 = s.leadFor v % 2048 ∧ ∀ j, j ≠ tuB + 0x24 → (s.wrTickLead v).reg j = s.reg j := by
  have hr : (s.wrTickLead v).regs = (s.setRfld (tuB + 0x24) 10 0 (s.leadFor v)).regs := by
    rw [State.wrTickLead_eq]
    split
    · exact (State.scheduleMarker_frame _ _ _).1
    · rfl
  exact ⟨(State.rfld_congr (State.reg_congr hr _) _ _).trans (State.rfld_setRfld_self hw (by omega) _ _ _),
    fun j hj => (State.reg_congr hr j).trans (State.reg_setRfld_ne _ _ _ _ hj)⟩

end Sys2Proof.Machine

/-! SUPPORT. The statement about the enables. -/
namespace Sys2Proof.Machine

theorem getLsbD_word (v : BitVec 32) {i : Nat} (h : i < 64) : (v.setWidth 64).getLsbD i = v.getLsbD i := by
  rw [BitVec.getLsbD_setWidth, decide_eq_true h, Bool.true_and]

/-- The write of a unit's configuration that a row makes on the state after its Brew. -/
theorem exec_unitCfg {c : Instr} {r : BitVec 4} {v : BitVec 32} {off : Nat} {m : Word}
    (h : c = .crnCfgEn r v ∧ off = 0x20 ∧ m = 0xEFFFF000 ∨ c = .flowCfgEn r v ∧ off = 0x28 ∧ m = 0xFFFFE000) (s : State) :
    exec c s = .next ((s.touch 0 (sfmP r.toNat + off)).wrUnitCfg r.toNat off m
      (fun t => if off = 0x20 then t.crnOk r.toNat else t.flwOk r.toNat) (v.setWidth 64)) := by
  rcases h with ⟨rfl, rfl, rfl⟩ | ⟨rfl, rfl, rfl⟩ <;> rfl

/-- Settles O42: each write on the state after its Brew, by what the unit's EN was and becomes. -/
theorem enablesCheckTheirConfiguration : Obligations.EnablesCheckTheirConfiguration := by
  refine ⟨?_, ?_, ?_, ?_, ?_, ?_, ?_⟩
  case refine_1 =>
    rintro n v _ s b hs rfl rfl
    have hm := State.touch_maps hs 0 (hopB n.toNat)
    generalize hb : s.touch 0 (hopB n.toNat) = b at hm
    have he : exec (.hopCtlEn n v) s = .next (b.wrHopCtl n.toNat (v.setWidth 64)) := hb ▸ rfl
    have hv0 := getLsbD_word v (i := 0) (by omega)
    have hpair := b.hopCtl_pair n.toNat (v.setWidth 64)
    rw [getLsbD_word v (by omega)] at hpair
    rw [he, ← hpair]
    refine ⟨fun hc hv hg => ?_, fun hc hv hg => ?_, fun hv => ?_⟩
    · obtain ⟨hen, ⟨hbuf, hit, htv⟩, hreg, htim, hctr⟩ := State.wrHopCtl_starts hm hc (hv0.trans hv) hg
      exact ⟨_, rfl, hen, hbuf, hit, htv, hreg, htim, hctr⟩
    · obtain ⟨hen, herr, honly⟩ := State.wrHopCtl_misfit hm hc (hv0.trans hv) hg
      exact ⟨_, rfl, hen, herr, honly⟩
    · obtain ⟨hen, honly, hreg⟩ := State.wrHopCtl_off hm.regs n.toNat (hv0.trans hv)
      exact ⟨_, rfl, hen, honly, hreg⟩
  case refine_2 =>
    rintro n v s _ hs rfl
    have hm := State.touch_maps hs 0 (hopB n.toNat + 0x10)
    generalize hb : s.touch 0 (hopB n.toNat + 0x10) = b at hm
    have he : exec (.hopDecCfg n v) s = .next (b.wrHopDec n.toNat (v.setWidth 64)) := hb ▸ rfl
    rw [he]
    refine ⟨fun hen => ?_, fun hen hv => ?_, fun hen hv => ?_⟩
    · exact congrArg Host.Outcome.next (if_pos hen)
    · refine congrArg Host.Outcome.next ((if_neg (by rw [hen]; decide)).trans (if_pos ?_))
      rw [fld_decoder_select, hv]
    · obtain ⟨honly, hcfg, hrules⟩ := State.wrHopDec_preset hm.regs hen (v := v.setWidth 64) (by rwa [fld_decoder_select])
      rw [fld_decoder_select] at hcfg hrules
      exact ⟨_, rfl, honly, hcfg, hrules⟩
  case refine_3 =>
    rintro r v _ _ s b hs rfl rfl rfl
    have hm := State.touch_maps hs 0 (sfmP r.toNat)
    generalize hb : s.touch 0 (sfmP r.toNat) = b at hm
    have he : exec (.sfmSurfCfgEn r v) s = .next (b.wrSurfCfg r.toNat (v.setWidth 64)) := hb ▸ rfl
    have hv31 := getLsbD_word v (i := 31) (by omega)
    rw [he]
    refine ⟨fun hc hv => ?_, fun hc hv => ?_, fun hc hv => ?_, fun hc hv ho => ?_, fun hc hv ho => ?_⟩
    · exact congrArg _ (State.wrSurfCfg_again hc (hv31.trans hv))
    · obtain ⟨h0, h1, h2, hsf, hf⟩ := State.wrSurfCfg_falls hm r.isLt hc (hv31.trans hv)
      exact ⟨_, rfl, h0, h1, h2, hsf, hf⟩
    · exact congrArg _ (State.wrSurfCfg_off hc (hv31.trans hv))
    · obtain ⟨hreg, hsf, hne, hf⟩ := State.wrSurfCfg_starts hm r.isLt hc (hv31.trans hv) ho
      exact ⟨_, rfl, hreg, hsf, hne, hf⟩
    · exact congrArg _ (State.wrSurfCfg_bad hc (hv31.trans hv) ho)
  case refine_4 =>
    rintro c r v _ off m _ s _ _ hc rfl rfl rfl
    have hv31 := getLsbD_word v (i := 31) (by omega)
    rw [exec_unitCfg hc]
    refine ⟨fun hc hv => ?_, fun hc hv => ?_, fun hc hv => ?_, fun hc hv ho => ?_, fun hc hv ho => ?_⟩
    · exact congrArg _ (State.wrUnitCfg_again hc (hv31.trans hv))
    · exact congrArg _ (State.wrUnitCfg_falls hc (hv31.trans hv))
    · exact congrArg _ (State.wrUnitCfg_off hc (hv31.trans hv))
    · exact congrArg _ (State.wrUnitCfg_bad hc (hv31.trans hv) ho)
    · exact congrArg _ (State.wrUnitCfg_starts hc (hv31.trans hv) ho)
  case refine_5 =>
    rintro p s _ hs rfl
    have hm := State.touch_maps hs 0 (spnB p.toNat)
    generalize hb : s.touch 0 (spnB p.toNat) = b at hm
    have he : ∀ en, exec (.spnCtlEn p en) s = .next (b.wrSpnEn p.toNat en) := fun _ => hb ▸ rfl
    have hr : exec (.spnCtlRetrain p) s = .next (b.wrSpnRetrain p.toNat) := hb ▸ rfl
    rw [he, he, hr]
    refine ⟨?_, ?_, fun h => ?_, fun h => ?_⟩
    · obtain ⟨hen, honly, hreg⟩ := State.wrSpnEn_on hm.regs p.toNat
      exact ⟨_, rfl, hen, honly, hreg⟩
    · obtain ⟨hen, hst, honly⟩ := State.wrSpnEn_off hm p.isLt
      exact ⟨_, rfl, hen, hst, congrArg Tim.systime (State.wrSpnEn_tim _ _ _), honly⟩
    · obtain ⟨hst, hctr, hstr⟩ := State.wrSpnRetrain_up hm p.isLt h
      exact ⟨_, rfl, hst, hctr, hstr⟩
    · exact congrArg _ (if_neg h)
  case refine_6 =>
    rintro w v _ s _ rfl rfl
    refine ⟨fun h => congrArg _ (State.wrRoute_free h), ?_⟩
    rintro ⟨e, hm, h0, hw, hv⟩
    exact congrArg _ (State.wrRoute_used hm h0 hw hv)
  case refine_7 =>
    rintro v s _ hs rfl
    have hm := State.touch_maps hs 0 (tuB + 0x24)
    generalize hb : s.touch 0 (tuB + 0x24) = b at hm
    have he : exec (.tuTickLead v) s = .next (b.wrTickLead v.toNat) := hb ▸ rfl
    obtain ⟨hfld, hreg⟩ := State.wrTickLead_regs hm.regs v.toNat
    refine ⟨_, b.leadFor v.toNat, he, hfld, b.one_le_leadFor _, fun hroot => ?_, fun hroot => ?_, hreg, State.wrTickLead_tim _ _⟩
    · rw [State.wrTickLead_eq, if_neg (by simp [hroot]), State.leadFor, hroot]
      exact ⟨rfl, rfl⟩
    · rw [State.wrTickLead_eq]
      refine ⟨if_pos hroot, fun hne => ?_, fun heq => ?_⟩
      · rw [if_pos ⟨hroot, hne⟩]
        exact (State.scheduleMarker_frame _ _ _).2
      · rw [if_neg (fun h => h.2 heq)]
        rfl

end Sys2Proof.Machine

/-! SUPPORT. What happens beside the ports: operations that leave every port, the counters of the ports and the times of the surfaces alone. -/
namespace Sys2Proof.Machine

/-- y holds the times of x (R98 to R101): what differs are the waiting items, the channels, and the bits beside the beats. -/
structure Sfm.SameTimes (x y : Sfm) : Prop where
  eq : y = { x with crnChans := y.crnChans, flwChans := y.flwChans, crnItems := y.crnItems, flwItems := y.flwItems, snap := y.snap,
                    snapAt := y.snapAt, slots := y.slots }

namespace Sfm.SameTimes

theorem refl (x : Sfm) : x.SameTimes x := ⟨rfl⟩

theorem trans {x y z : Sfm} (h1 : x.SameTimes y) (h2 : y.SameTimes z) : x.SameTimes z := ⟨h2.eq.trans (by rw [h1.eq])⟩

end Sfm.SameTimes

/-- The keys of the ports' pages (Table 22.2). -/
def hopKey (k : Nat) : Prop := 0x100000 ≤ k ∧ k < 0x200000

theorem hopKey_port {n o : Nat} (hn : n < 16) (ho : o < 0x10000) : hopKey (hopB n + o) := by
  unfold hopKey hopB
  omega

/-- t is s but for what lies beside the ports: the ports, their registers, their counters and the times of the surfaces are those of s. -/
structure State.Beside (s t : State) : Prop where
  hops : t.hops = s.hops
  reg : ∀ k, hopKey k → t.reg k = s.reg k
  ctr : ∀ k, hopKey k → t.ctr k = s.ctr k
  sfms : SMap.wf {} s.sfms = true → SMap.wf {} t.sfms = true ∧ ∀ n, (s.sfm n).SameTimes (t.sfm n)

namespace State.Beside

theorem trans {s t u : State} (h1 : s.Beside t) (h2 : t.Beside u) : s.Beside u where
  hops := h2.hops.trans h1.hops
  reg k hk := (h2.reg k hk).trans (h1.reg k hk)
  ctr k hk := (h2.ctr k hk).trans (h1.ctr k hk)
  sfms hw := by
    obtain ⟨hwt, ht⟩ := h1.sfms hw
    obtain ⟨hwu, hu⟩ := h2.sfms hwt
    exact ⟨hwu, fun n => (ht n).trans (hu n)⟩

/-- A state that writes registers and counts elsewhere, and differs in fields other than the ports and the surfaces. -/
theorem of_page {s t : State} (hh : t.hops = s.hops) (hs : t.sfms = s.sfms) (hr : ∀ k, hopKey k → t.reg k = s.reg k)
    (hc : ∀ k, hopKey k → t.ctr k = s.ctr k) : s.Beside t where
  hops := hh
  reg := hr
  ctr := hc
  sfms hw := by
    unfold State.sfm
    rw [hs]
    exact ⟨hw, fun _ => .refl _⟩

theorem of_eq {s t : State} (hh : t.hops = s.hops) (hs : t.sfms = s.sfms) (hr : t.regs = s.regs) (hc : t.ctrs = s.ctrs) : s.Beside t :=
  of_page hh hs (fun _ _ => State.reg_congr hr _) (fun _ _ => by rw [State.ctr, State.ctr, hc])

theorem refl (s : State) : s.Beside s := of_eq rfl rfl rfl rfl

theorem ite {s a b : State} {c : Prop} [Decidable c] (ha : s.Beside a) (hb : s.Beside b) : s.Beside (if c then a else b) := by
  split
  · exact ha
  · exact hb

theorem foldl {α : Type} {f : State → α → State} (h : ∀ s a, State.Beside s (f s a)) (l : List α) (s : State) : s.Beside (l.foldl f s) := by
  induction l generalizing s with
  | nil => exact refl s
  | cons a r ih => exact (h s a).trans (ih _)

theorem bump (s : State) {k : Nat} (h : ¬ hopKey k) (n : Nat) : s.Beside (s.bump k n) :=
  of_page rfl rfl (fun _ _ => rfl) (fun _ hj => s.ctr_bump_ne n (fun e => h (e ▸ hj)))

theorem setReg (s : State) {k : Nat} (h : ¬ hopKey k) (v : Word) : s.Beside (s.setReg k v) :=
  of_page rfl rfl (fun _ hj => State.reg_setReg_ne _ _ (fun e => h (e ▸ hj))) (fun _ _ => rfl)

theorem orReg (s : State) {k : Nat} (h : ¬ hopKey k) (m : Word) : s.Beside (s.orReg k m) := setReg s h _

theorem setRfld (s : State) {k : Nat} (h : ¬ hopKey k) (hi lo x : Nat) : s.Beside (s.setRfld k hi lo x) := setReg s h _

theorem emit (s : State) (k : EmitKind) (dst data : List Nat) : s.Beside (s.emit k dst data) := of_eq rfl rfl rfl rfl

theorem modQp (s : State) (k : Nat) (g : QPair → QPair) : s.Beside (s.modQp k g) := of_eq rfl rfl rfl rfl

theorem modObs (s : State) (g : Obs → Obs) : s.Beside (s.modObs g) := of_eq rfl rfl rfl rfl

theorem modSi (s : State) (g : Si → Si) : s.Beside (s.modSi g) := of_eq rfl rfl rfl rfl

theorem modSlip (s : State) (n : Nat) (g : Slip → Slip) : s.Beside (s.modSlip n g) := of_eq rfl rfl rfl rfl

theorem modQuire (s : State) (q : Nat) (g : Quire → Quire) : s.Beside (s.modQuire q g) := of_eq rfl rfl rfl rfl

theorem modGraph (s : State) (n : Nat) (g : Graph → Graph) : s.Beside (s.modGraph n g) := of_eq rfl rfl rfl rfl

theorem modBind (s : State) (g : Bind → Bind) : s.Beside (s.modBind g) := of_eq rfl rfl rfl rfl

theorem modTim (s : State) (g : Tim → Tim) : s.Beside (s.modTim g) := of_eq rfl rfl rfl rfl

theorem modSfm (s : State) (n : Nat) {g : Sfm → Sfm} (hg : ∀ x : Sfm, x.SameTimes (g x)) : s.Beside (s.modSfm n g) where
  hops := rfl
  reg _ _ := rfl
  ctr _ _ := rfl
  sfms hw := by
    refine ⟨SMap.wf_upd hw, fun k => ?_⟩
    unfold State.sfm State.modSfm
    by_cases hk : k = n
    · subst hk
      rw [SMap.get_upd_self hw]
      exact hg _
    · rw [SMap.get_upd_ne hk]
      exact .refl _

end State.Beside

/-! ## Records, alarms and faults -/

theorem not_hopKey {k : Nat} (h : k < 0x100000 ∨ 0x200000 ≤ k) : ¬ hopKey k := by
  unfold hopKey
  omega

theorem State.Beside.bump_obs (s : State) {o : Nat} (h : o < 0x200) : s.Beside (s.bump (obsB + o)) :=
  .bump s (not_hopKey (.inl (by unfold obsB; omega))) 1

theorem State.Beside.bump_sim (s : State) {o : Nat} (h : o < 0x1000) : s.Beside (s.bump (simB + o)) :=
  .bump s (not_hopKey (.inl (by unfold simB; omega))) 1

theorem State.Beside.orReg_obs (s : State) (m : Word) : s.Beside (s.orReg (obsB + 4) m) := .orReg s (not_hopKey (.inl (by decide))) m

theorem State.beside_trace (s : State) (source slip point : Nat) (data : List Nat) : s.Beside (s.trace source slip point data) := by
  obtain ⟨hf, hr, hc⟩ := State.trace_traced s source slip point data
  refine .of_page (by rw [hf]) (by rw [hf]) (fun k hk => hr k ?_) (fun k hk => hc k ?_ ?_)
  · exact fun e => not_hopKey (.inl (by decide)) (e ▸ hk)
  · exact fun e => not_hopKey (.inl (by decide)) (e ▸ hk)
  · exact fun e => not_hopKey (.inl (by decide)) (e ▸ hk)

theorem State.beside_alarm (s : State) (cause source slip : Nat) (present : Bool) : s.Beside (s.alarm cause source slip present) := by
  unfold State.alarm
  extract_lets s1 t held s2 s3
  have h1 : s.Beside s1 := .bump_obs _ (by decide)
  have h3 : s.Beside s3 := h1.trans (((State.Beside.bump_obs _ (by decide)).trans (.orReg_obs _ _)).trans (.modObs _ _))
  split
  · exact h1.trans (.modObs _ _)
  · split
    · exact h1.trans (.modObs _ _)
    · exact .ite (h3.trans (.modSlip _ _ _)) h3

theorem State.beside_log (s : State) (source slip level code : Nat) (data : List Nat) : s.Beside (s.log source slip level code data) := by
  unfold State.log
  extract_lets t need o first _ s1 s2
  have h2 : s.Beside s2 := ((State.Beside.of_eq rfl rfl rfl rfl : s.Beside s1).trans (.bump_obs _ (by decide))).trans (.orReg_obs _ _)
  split
  · exact (State.Beside.modObs s (fun _ => { o with runLog := {} })).trans (.bump_obs _ (by decide))
  · exact .ite (h2.trans (State.beside_alarm _ _ _ _ _)) h2

theorem State.beside_conFault (s : State) (p : Graph → Bool) (c : Nat) : s.Beside (s.conFault p c) := .of_eq rfl rfl rfl rfl

theorem State.beside_fenceSlip (s : State) (n : Nat) : s.Beside (s.fenceSlip n) := .ite (.modSlip _ _ _) (.refl s)

theorem State.beside_safeOutputs (s : State) : s.Beside s.safeOutputs := .foldl (fun s _ => .emit s _ _ _) _ s

theorem State.beside_assertPins (s : State) : s.Beside s.assertPins :=
  .ite (.refl s) (((State.Beside.modSi s _).trans (.emit _ _ _ _)).trans (.emit _ _ _ _))

theorem State.beside_recoverUnit (s : State) (source cause slip : Nat) : s.Beside (s.recoverUnit source cause slip) := by
  have hc := fun c => s.beside_conFault (fun g => g.uses source) c
  exact .ite (.ite (hc _) (((hc _).trans (.modQuire _ _ _)).trans (.modSi _ _))) (.ite ((hc _).trans (.modSi _ _)) (.ite ((hc _).trans (.modSi _ _)) (hc _)))

theorem State.beside_writeFault (s : State) (f : FaultRec) : s.Beside (s.writeFault f) := by
  unfold State.writeFault
  extract_lets s1 s2 s3
  have h2 : s.Beside s2 := (State.Beside.modSi s _).trans (.setReg s1 (not_hopKey (.inl (by decide))) _)
  exact (h2.trans (State.beside_log _ _ _ _ _ _)).trans (.bump_sim _ (by decide))

theorem State.beside_faultFull (s : State) (f : FaultRec) (floor : Nat) : s.Beside (s.faultFull f floor) := by
  unfold State.faultFull
  split
  · exact .refl s
  · extract_lets r0 fence cp r pins s1 s2 s3 s4 s5 s6 sd ms s7 here s8
    have h1 : s.Beside s1 := s.beside_writeFault _
    have h2 : s.Beside s2 := .ite (h1.trans ((State.beside_fenceSlip _ _).trans (State.beside_conFault _ _ _))) h1
    have h3 : s.Beside s3 := .ite (h2.trans (State.beside_recoverUnit _ _ _ _)) h2
    have h4 : s.Beside s4 := .ite (h3.trans ((State.Beside.bump_sim _ (by decide)).trans (.modSi _ _))) h3
    have h5 : s.Beside s5 := .ite (h4.trans (State.beside_assertPins _)) h4
    have h6 : s.Beside s6 := .ite (h5.trans (State.beside_safeOutputs _)) h5
    have h7 : s.Beside s7 := .ite ((h6.trans (.foldl State.beside_fenceSlip _ _)).trans (.modSi _ _)) h6
    have h8 : s.Beside s8 := .ite (h7.trans (.modSi _ _)) h7
    exact h8.trans (State.beside_alarm _ _ _ _ _)

theorem State.beside_setTimeState (s : State) (v : Nat) : s.Beside (s.setTimeState v) := by
  unfold State.setTimeState State.alignUpdate
  extract_lets a was s2
  have h2 : s.Beside s2 := (State.Beside.setRfld s (not_hopKey (.inl (by decide))) 2 0 v).trans (.setRfld _ (not_hopKey (.inl (by decide))) _ _ _)
  exact .ite (h2.trans (State.beside_faultFull _ _ _)) h2

/-! ## Completions, function events, Brews and messages -/

theorem State.beside_complete (s : State) (h : CmdRef) (st det : Nat) (r : BitVec 128) : s.Beside (s.complete h st det r) := by
  unfold State.complete
  split
  · exact .refl s
  · extract_lets c s1 s2
    have h1 : s.Beside s1 := .modQp _ _ _
    have h2 : s.Beside s2 := .ite ((h1.trans (.orReg _ (not_hopKey (.inr (by decide))) _)).trans (.bump _ (not_hopKey (.inr (by decide))) _)) h1
    exact h2.trans (State.beside_trace _ _ _ _ _)

theorem State.beside_writeEntry (s : State) (k rtype size : Nat) (buf : Option Nat) (words : List Nat) (urgent : Bool) :
    s.Beside (s.writeEntry k rtype size buf words urgent) := .of_eq rfl rfl rfl rfl

theorem State.beside_closeEntry (s : State) (k : Nat) : s.Beside (s.closeEntry k) :=
  .ite (.refl s) ((s.beside_writeEntry _ _ _ _ _ _).trans (.modQp _ _ _))

theorem State.beside_placeRec (s : State) (k : Nat) (r : List Nat) : s.Beside (s.placeRec k r) := by
  unfold State.placeRec
  extract_lets s1 s2
  have h2 : s.Beside s2 := (State.Beside.ite (.refl s) (s.beside_closeEntry k)).trans (.modQp s1 _ _)
  exact .ite (h2.trans (State.beside_closeEntry _ k)) h2

theorem State.beside_fnEvent (s : State) (f type code q : Nat) (info : List Nat) : s.Beside (s.fnEvent f type code q info) := by
  have hk : ¬ hopKey (fnB f + 0x218) := not_hopKey (by have := fnB_cases f; omega)
  have hr : ¬ hopKey (fnB f + 0xC) := not_hopKey (by have := fnB_cases f; omega)
  unfold State.fnEvent
  split
  · exact .refl s
  · exact .ite (s.beside_writeEntry _ _ _ _ _ _) (((State.Beside.bump s hk _).trans (.orReg _ hr _)).trans (.modQp _ _ _))

theorem State.beside_brew (s : State) (ds : List Nat) : s.Beside (s.brew ds) := by
  have hk : ¬ hopKey (pwrB + 0x200) := not_hopKey (.inl (by decide))
  have hp : ∀ (u : State) (l : List Nat), u.Beside (u.power l) := fun u l => by
    rw [State.power_frame]
    exact .of_eq rfl rfl rfl rfl
  exact .ite (.refl s) (((State.Beside.bump s hk _).trans (State.beside_trace _ _ _ _ _)).trans (hp _ _))

theorem State.Beside.bump_spn (s : State) (p o n : Nat) : s.Beside (s.bump (spnB p + o) n) :=
  .bump s (not_hopKey (.inr (by unfold spnB; omega))) n

theorem State.beside_pumpN (s : State) (p fuel : Nat) : s.Beside (s.pumpN p fuel) := by
  induction fuel generalizing s with
  | zero => exact .refl s
  | succ n ih =>
    unfold State.pumpN
    extract_lets t
    split
    · exact .refl s
    · split
      · exact .refl s
      · extract_lets s1 s2 s3
        have h2 : s1.Beside s2 := (State.Beside.bump_spn _ _ _ _).trans (.bump_spn _ _ _ _)
        have h3 : s2.Beside s3 := .of_eq rfl rfl rfl rfl
        exact .ite (.refl s) (((State.Beside.emit s _ _ _).trans (h2.trans h3)).trans (ih s3))

theorem State.beside_sendTo (s : State) (m : SpMsg) : s.Beside (s.sendTo m) := by
  have hs : ∀ p, s.Beside (s.sendOn p m) := fun p =>
    (State.Beside.of_eq rfl rfl rfl rfl : s.Beside (s.modPort p _)).trans (State.beside_pumpN _ _ _)
  unfold State.sendTo
  split
  · exact .ite (hs _) (.refl s)
  · exact .refl s

/-! ## Graphs that stop -/

theorem State.beside_stopDelta (s : State) (g : Nat) : s.Beside (s.stopDelta g) := by
  unfold State.stopDelta
  split
  · exact .refl s
  · extract_lets s1 s2
    have h1 : s.Beside s1 := .foldl (fun s _ => s.beside_complete _ _ _ _) _ s
    have h2 : s.Beside s2 := .ite (h1.trans (.foldl (fun s _ => .modSfm s _ (fun _ => ⟨rfl⟩)) _ _)) h1
    exact h2.trans (.modGraph _ _ _)

theorem State.beside_stopReadout (s : State) (g : Nat) : s.Beside (s.stopReadout g) := by
  unfold State.stopReadout
  extract_lets s1
  have h1 : s.Beside s1 := {
    hops := rfl
    reg := fun _ _ => rfl
    ctr := fun _ _ => rfl
    sfms := fun hw => by
      have hd : ∀ f : SampSlot → SampSlot, f {} = {} → ({ ({} : Sfm) with slots := ({} : Sfm).slots.map f } : Sfm) = {} := fun f hf => by simp [hf]
      simp only [State.sfm, s1]
      refine ⟨SMap.wf_mapAll hw, fun n => ?_⟩
      rw [SMap.get_mapAll (fun _ => hd _ (ite_self _)) hw]
      exact ⟨rfl⟩ }
  exact h1.trans (.modGraph _ _ _)

theorem State.beside_stopSpk (s : State) (slip : Nat) (qs : List Nat) (others : Bool) : s.Beside (s.stopSpk slip qs others) := by
  have hk : ¬ hopKey (kxbB + 0x100 + 4 * slip) := not_hopKey (.inr (by unfold kxbB; omega))
  unfold State.stopSpk
  extract_lets s1
  have h1 : s.Beside s1 :=
    .foldl (fun s _ => (State.Beside.foldl (fun s _ => (State.Beside.emit s _ _ _).trans (State.beside_complete _ _ _ _ _)) _ s).trans (.modQuire _ _ _)) _ s
  exact .ite h1 (h1.trans (.setRfld _ hk _ _ _))

/-! ## What begins with a tick -/

theorem State.beside_belowCycles (s : State) : s.Beside s.belowCycles := by
  refine .foldl (fun s e => ?_) _ s
  have hk : ¬ hopKey (qrB e.1 + 0x628) := not_hopKey (.inr (by unfold qrB; omega))
  exact (State.Beside.bump s hk _).trans (State.beside_conFault _ _ _)

theorem State.beside_slewDone (s : State) : s.Beside s.slewDone := .ite (s.beside_setTimeState 1) (.refl s)

theorem State.beside_markersAt (s : State) : s.Beside s.markersAt := by
  unfold State.markersAt
  extract_lets due s1 pick
  refine (State.Beside.modBind s _).trans (.foldl (fun s x => ?_) _ s1)
  have hm : ∀ k d, s.Beside (s.markStreams k d) := fun k d => .foldl (fun s _ => .emit s _ _ _) _ s
  cases x.what with
  | sourceChange a b => exact hm _ _
  | epochChange a b => exact hm _ _
  | tickLen q => exact .ite (.refl s) (.modTim s _)
  | leadMax n => exact .modBind s _

theorem State.beside_barriersAt (s : State) : s.Beside s.barriersAt := by
  unfold State.barriersAt
  extract_lets due s1
  refine (State.Beside.modBind s _).trans (.foldl (fun s x => ?_) _ s1)
  split
  · exact s.beside_complete _ _ _ _
  · exact .refl s

theorem State.beside_castsAt (s : State) : s.Beside s.castsAt := by
  unfold State.castsAt
  extract_lets due s1
  refine (State.Beside.modBind s _).trans (.foldl (fun s x => ?_) _ s1)
  unfold State.castPlace
  extract_lets s2 s3
  have h3 : s2.Beside s3 := (State.Beside.modBind _ _).trans (.bump_spn _ 0 _ _)
  exact ((State.Beside.ite (.bump_spn s 0 _ _) (.refl s)).trans h3).trans (State.beside_fnEvent _ _ _ _ _ _)

theorem State.beside_bindResetAt (s : State) : s.Beside s.bindResetAt := by
  unfold State.bindResetAt
  split
  · extract_lets s1
    have h1 : s.Beside s1 := by
      simp only [s1]
      split
      · exact s.beside_complete _ _ _ _
      · exact .refl s
    exact .ite (h1.trans (.of_eq rfl rfl rfl rfl)) (.refl s)
  · exact .refl s

theorem State.beside_addDue (s : State) (g : Nat) (kind : RecKind) (layer tref : Nat) : s.Beside (s.addDue g kind layer tref) :=
  .ite (.of_eq rfl rfl rfl rfl) (.refl s)

theorem State.beside_fusionDues (s : State) (t : Nat) : s.Beside (s.fusionDues t) := by
  refine .foldl (fun s e => ?_) _ s
  have h1 := s.beside_addDue e.2.graph .fused e.1 t
  exact .ite (.ite h1 (h1.trans (State.beside_addDue _ _ _ _ _))) (.refl s)

/-! ## Before a write to a surface -/

theorem State.Beside.bump_sfm (s : State) (r o n : Nat) : s.Beside (s.bump (sfmP r + o) n) :=
  .bump s (not_hopKey (.inr (by unfold sfmP; omega))) n

theorem State.Beside.bump_qr (s : State) (q o n : Nat) : s.Beside (s.bump (qrB q + o) n) :=
  .bump s (not_hopKey (.inr (by unfold qrB; omega))) n

theorem State.beside_beginRebase (s : State) (g : Nat) (rb : Rebase) : s.Beside (s.beginRebase g rb) := by
  unfold State.beginRebase
  split
  · exact .refl s
  · extract_lets r s1 s2
    have h2 : s.Beside s2 := (State.Beside.modGraph s g _).trans (.foldl (fun s _ => .modSfm s _ (fun _ => ⟨rfl⟩)) _ s1)
    exact (h2.trans (.bump_sfm _ _ _ _)).trans (State.beside_trace _ _ _ _ _)

theorem State.beside_beginStart (s : State) (g : Nat) (kind : RebKind) (boundary : Nat) : s.Beside (s.beginStart g kind boundary) := by
  unfold State.beginStart
  split
  · exact .refl s
  · extract_lets r lead u j late s1
    exact (State.Beside.modGraph s g _).trans (State.beside_beginRebase s1 _ _)

theorem State.beside_rebaseDue (s : State) (g k : Nat) : s.Beside (s.rebaseDue g k) := by
  unfold State.rebaseDue
  extract_lets x
  split
  · exact .refl s
  · extract_lets r lead bound
    refine .ite (.refl s) (.ite (.ite (s.beside_beginStart _ _ _) (.refl s)) ?_)
    split
    · exact .ite (.ite (.refl s) (.ite (s.beside_beginStart _ _ _) (s.beside_beginRebase _ _))) (.ite (s.beside_beginStart _ _ _) (.refl s))
    · exact .ite (.refl s) (.ite (.modGraph s _ _) ((State.Beside.modGraph s g _).trans (State.beside_beginRebase _ _ _)))

theorem State.beside_graphConFault (s : State) (g c : Nat) : s.Beside (s.graphConFault g c) := .ite (.refl s) (.of_eq rfl rfl rfl rfl)

theorem State.beside_skipInstant (s : State) (g : Nat) : s.Beside (s.skipInstant g) :=
  ((State.Beside.modGraph s g _).trans (.bump_qr _ _ _ _)).trans (State.beside_graphConFault _ _ _)

theorem State.beside_readoutDues (s : State) (g t : Nat) : s.Beside (s.readoutDues g t) := by
  unfold State.readoutDues
  split
  · exact .refl s
  · extract_lets s1
    have h1 : s.Beside s1 := .foldl (fun s _ => .ite (.refl s) (s.beside_addDue _ _ _ _)) _ s
    exact h1.trans (.foldl (fun s _ => s.beside_addDue _ _ _ _) _ _)

theorem State.beside_beginInstant (s : State) (g t : Nat) : s.Beside (s.beginInstant g t) := by
  unfold State.beginInstant
  extract_lets x s1 hold
  split
  · exact .refl s
  · have h1 : s.Beside s1 := s.beside_readoutDues g t
    have hh : ∀ u : State, u.Beside (hold u) := fun u =>
      ((State.Beside.modGraph u g _).trans (.bump_qr _ _ _ _)).trans (State.beside_trace _ _ _ _ _)
    refine .ite (h1.trans (State.beside_skipInstant _ _)) (h1.trans ?_)
    split
    · exact hh _
    · split
      · exact (State.Beside.bump_sfm _ _ _ _).trans (State.beside_skipInstant _ _)
      · exact ((State.Beside.foldl (fun s _ => .modSfm s _ (fun _ => ⟨rfl⟩)) _ _).trans (hh _)).trans (.bump_sfm _ _ _ _)

theorem State.beside_takeInstant (s : State) (g k : Nat) : s.Beside (s.takeInstant g k) := by
  unfold State.takeInstant
  split
  · exact .refl s
  · exact (State.Beside.modGraph s g _).trans (State.beside_beginInstant _ _ _)

theorem State.beside_locPut (s : State) (slip : Nat) (qs : List Nat) (l : Loc) (off : Nat) (b : List (BitVec 8)) :
    s.Beside (s.locPut slip qs l off b) := by
  unfold State.locPut
  split
  · split
    · exact .of_eq rfl rfl rfl rfl
    · exact .refl s
  · exact .foldl (fun s _ => .modQuire s _ _) _ s

theorem State.beside_emitSnap (s : State) (r b : Nat) (first : Bool) : s.Beside (s.emitSnap r b first) := by
  unfold State.emitSnap
  extract_lets s1 s2 s3
  have h2 : s.Beside s2 := (State.Beside.modSfm s r (fun _ => ⟨rfl⟩)).trans (.bump_sfm _ _ _ _)
  have h3 : s.Beside s3 := .ite (h2.trans (.bump_sfm _ _ _ _)) h2
  split
  · exact h3
  · extract_lets x
    split
    · exact h3
    · split
      · exact h3
      · exact h3.trans (.foldl (fun s _ => .ite (.refl s) (s.beside_locPut _ _ _ _ _)) _ _)

theorem State.beside_emitSample (s : State) (r i b : Nat) (first : Bool) : s.Beside (s.emitSample r i b first) := by
  unfold State.emitSample
  extract_lets f x s1 s2 s3 g
  have h2 : s.Beside s2 := (State.Beside.modSfm s r (fun _ => ⟨rfl⟩)).trans (.bump_sfm _ _ _ _)
  have h3 : s.Beside s3 := .ite (h2.trans (.bump_sfm _ _ _ _)) h2
  split
  · exact h3
  · exact h3.trans (State.beside_locPut _ _ _ _ _ _)

/-- What leaves a beat before it is written changes no time and no port (R186, R204, R205). -/
theorem State.beside_preWrite (s : State) (r b k : Nat) : s.Beside (s.preWrite r b k) := by
  unfold State.preWrite
  extract_lets gs s1 s2 s3
  have h1 : s.Beside s1 := .foldl (fun s _ => .ite (.refl s) ((s.beside_rebaseDue _ _).trans (State.beside_takeInstant _ _ _))) _ s
  have h2 : s.Beside s2 := h1.trans (.modSfm _ _ (fun _ => ⟨rfl⟩))
  have h3 : s.Beside s3 := .ite (h2.trans (State.beside_emitSnap _ _ _ _)) h2
  exact h3.trans (.foldl (fun s _ => .ite (s.beside_emitSample _ _ _ _) (.refl s)) _ _)

end Sys2Proof.Machine

/-! SUPPORT. The settings that the items of each tick see (R80): which operations leave them alone, and the boundary that changes them. -/
namespace Sys2Proof.Machine

theorem State.hop_congr {s t : State} (h : t.hops = s.hops) (k : Nat) : t.hop k = s.hop k := by
  rw [State.hop, State.hop, h]

/-- Every port of t shows what it shows in s, seen through v. -/
def State.SeenSame {α : Type} (v : Hopper → α) (s t : State) : Prop :=
  SMap.wf {} s.hops = true → SMap.wf {} t.hops = true ∧ ∀ n, v (t.hop n) = v (s.hop n)

namespace State.SeenSame

variable {α : Type} {v : Hopper → α}

theorem of_hops {s t : State} (h : t.hops = s.hops) : s.SeenSame v t :=
  fun hw => ⟨h ▸ hw, fun n => congrArg v (State.hop_congr h n)⟩

theorem refl (s : State) : s.SeenSame v s := of_hops rfl

theorem trans {s t u : State} (h1 : s.SeenSame v t) (h2 : t.SeenSame v u) : s.SeenSame v u := fun hw => by
  obtain ⟨hwt, ht⟩ := h1 hw
  obtain ⟨hwu, hu⟩ := h2 hwt
  exact ⟨hwu, fun n => (hu n).trans (ht n)⟩

theorem ite {s a b : State} {c : Prop} [Decidable c] (ha : s.SeenSame v a) (hb : s.SeenSame v b) : s.SeenSame v (if c then a else b) := by
  split
  · exact ha
  · exact hb

theorem foldl {β : Type} {f : State → β → State} (h : ∀ s a, State.SeenSame v s (f s a)) (l : List β) (s : State) :
    s.SeenSame v (l.foldl f s) := by
  induction l generalizing s with
  | nil => exact refl s
  | cons a r ih => exact (h s a).trans (ih _)

theorem modHop (s : State) (n : Nat) {g : Hopper → Hopper} (hg : ∀ x, v (g x) = v x) : s.SeenSame v (s.modHop n g) := fun hw => by
  refine ⟨State.modHop_wf hw n g, fun k => ?_⟩
  by_cases hk : k = n
  · subst hk
    rw [State.modHop_hop_self hw]
    exact hg _
  · rw [State.modHop_hop_ne _ hk]

theorem setReg (s : State) (k : Nat) (x : Word) : s.SeenSame v (s.setReg k x) := of_hops (State.setReg_hops _ _ _)

theorem setRfld (s : State) (k hi lo x : Nat) : s.SeenSame v (s.setRfld k hi lo x) := setReg s _ _

end State.SeenSame

theorem State.Beside.seenSame {α : Type} {s t : State} (h : s.Beside t) (v : Hopper → α) : s.SeenSame v t := .of_hops h.hops

/-! ## Before the settings come into force -/

/-- What the settings in force and their change at a boundary depend on. -/
def Hopper.settings (h : Hopper) : (Word × Word × List (Nat × Word × Word)) × Nat := ((h.refr, h.ba, h.was), h.nextEnd)

/-- The settings in force, and those of the ticks before. -/
def Hopper.inForce (h : Hopper) : Word × Word × List (Nat × Word × Word) := (h.refr, h.ba, h.was)

theorem State.filters_congr {s t : State} {n k : Nat} (hh : (t.hop n).inForce = (s.hop n).inForce) (ht : t.tim = s.tim) :
    t.filters n k = s.filters n k := by
  simp only [Hopper.inForce, Prod.mk.injEq] at hh
  unfold State.filters
  rw [hh.1, hh.2.1, hh.2.2, ht]

theorem State.settings_closeChans (s : State) (g : Nat) : s.SeenSame Hopper.settings (s.closeChans g) := fun hw => by
  refine ⟨State.closeChans_hops s g ▸ SMap.wf_mapAll hw, fun n => ?_⟩
  rw [State.hop, State.closeChans_hops, SMap.get_mapAll (fun _ => rfl) hw]
  rfl

theorem State.settings_stopGraph (s : State) (g : Nat) : s.SeenSame Hopper.settings (s.stopGraph g) := by
  unfold State.stopGraph
  split
  · exact .refl s
  · extract_lets s1 s2
    have h1 : s.Beside s1 := (s.beside_stopDelta g).trans (State.beside_stopReadout _ g)
    have h2 : s.Beside s2 := .ite (h1.trans (State.beside_stopSpk _ _ _ _)) h1
    have h3 : s.Beside (s2.stopFu g) := h2.trans (.of_eq rfl rfl rfl rfl)
    exact ((h3.seenSame _).trans (State.settings_closeChans _ g)).trans (.of_hops rfl)

/-- The end of the old tick leaves the settings in force and the registers behind them. -/
theorem State.settings_tickEnds (s : State) : s.SeenSame Hopper.settings s.belowCycles.advance.slewDone.safeStops.markersAt := by
  have h1 : s.Beside s.belowCycles.advance.slewDone := (s.beside_belowCycles.trans (.modTim _ _)).trans (State.beside_slewDone _)
  have h2 : State.SeenSame Hopper.settings s.belowCycles.advance.slewDone s.belowCycles.advance.slewDone.safeStops :=
    .foldl State.settings_stopGraph _ _
  exact ((h1.seenSame _).trans h2).trans ((State.beside_markersAt _).seenSame _)

/-- Markers of the tree may change the length of the tick, not its number, and no register. -/
theorem State.markersAt_tick_regs (s : State) : s.markersAt.tim.tick = s.tim.tick ∧ s.markersAt.regs = s.regs := by
  unfold State.markersAt
  extract_lets due s1 pick
  refine List.foldlRecOn (motive := fun (u : State) => u.tim.tick = s.tim.tick ∧ u.regs = s.regs) _ _ ⟨rfl, rfl⟩ (fun u hu x _ => ?_)
  cases x.what with
  | sourceChange a b | epochChange a b => exact ⟨(congrArg Tim.tick (State.markStreams_tim _ _ _)).trans hu.1, (State.markStreams_regs _ _ _).trans hu.2⟩
  | tickLen q =>
    dsimp only
    split
    · exact hu
    · exact hu
  | leadMax n => exact hu

/-- HOP_REFR and HOP_BA hold at the end of a tick what they held before it. -/
theorem State.reg_tickEnds (s : State) {k : Nat} (hk : filterKey k) : s.belowCycles.advance.slewDone.safeStops.markersAt.reg k = s.reg k := by
  have h : s.Steady filterKey s.belowCycles.advance.slewDone.safeStops :=
    (((State.steady_belowCycles s).trans (State.steady_advance _)).trans (State.steady_slewDone _)).trans (State.steady_safeStops _)
  exact (State.reg_congr (State.markersAt_tick_regs _).2 k).trans (h.reg k hk)

theorem State.tick_tickEnds (s : State) : s.belowCycles.advance.slewDone.safeStops.markersAt.tim.tick = s.tim.tick + 1 := by
  rw [(State.markersAt_tick_regs _).1, State.safeStops_tim, State.slewDone_tim]
  show s.belowCycles.tim.tick + 1 = s.tim.tick + 1
  rw [State.belowCycles_tim]

/-! ## The settings come into force -/

/-- The port with new settings in force from a tick on. -/
def Hopper.load (h : Hopper) (a b : Word) (tick : Nat) : Hopper :=
  { h with
    refr := a, ba := b,
    was := h.was.filter (fun e => decide (h.nextEnd < e.1 ∧ e.1 < tick)) ++ (if h.refr = a ∧ h.ba = b then [] else [(tick, h.refr, h.ba)]) }

theorem State.loadFilter_eq (s : State) (n : Nat) :
    s.loadFilter n = s.modHop n (fun h => h.load (s.reg (hopB n + 0x20)) (s.reg (hopB n + 0x24)) s.tim.tick) := rfl

theorem State.foldl_loadFilter_hop {s : State} (hw : SMap.wf {} s.hops = true) {l : List Nat} (hl : l.Nodup) {n : Nat} (hn : n ∈ l) :
    (l.foldl State.loadFilter s).hop n = (s.hop n).load (s.reg (hopB n + 0x20)) (s.reg (hopB n + 0x24)) s.tim.tick := by
  induction l generalizing s with
  | nil => cases hn
  | cons a r ih =>
    obtain ⟨ha, hr⟩ := List.nodup_cons.mp hl
    have hwa : SMap.wf {} (s.loadFilter a).hops = true := State.modHop_wf hw _ _
    rw [List.foldl_cons]
    by_cases hna : n = a
    · subst hna
      rw [((State.foldl_loadFilter r hwa).2.2 n).1 ha, State.loadFilter_eq, State.modHop_hop_self hw]
    · rw [ih hwa hr ((List.mem_cons.mp hn).resolve_left hna), State.loadFilter_eq, State.modHop_hop_ne _ hna]
      rfl

theorem State.loadFilters_hop {s : State} (hw : SMap.wf {} s.hops = true) {n : Nat} (hn : n < 16) :
    s.loadFilters.hop n = (s.hop n).load (s.reg (hopB n + 0x20)) (s.reg (hopB n + 0x24)) s.tim.tick :=
  State.foldl_loadFilter_hop hw List.nodup_range (List.mem_range.mpr hn)

/-- The settings that the items of tick k see at a port, in the tick `now`. -/
def Hopper.seen (h : Hopper) (now k : Nat) : Word × Word :=
  match h.was.find? (fun e => decide (k < e.1 ∧ e.1 ≤ now)) with
  | some e => e.2
  | none => (h.refr, h.ba)

theorem State.filters_eq_seen (s : State) (n k : Nat) : s.filters n k = (s.hop n).seen s.tim.tick k := rfl

theorem Hopper.seen_congr {x y : Hopper} (h : y.inForce = x.inForce) (now k : Nat) : y.seen now k = x.seen now k := by
  simp only [Hopper.inForce, Prod.mk.injEq] at h
  obtain ⟨hr, hb, hw⟩ := h
  simp only [Hopper.seen, hr, hb, hw]

theorem Hopper.seen_now (h : Hopper) (now : Nat) : h.seen now now = (h.refr, h.ba) := by
  have hf : h.was.find? (fun e => decide (now < e.1 ∧ e.1 ≤ now)) = none := by
    rw [List.find?_eq_none]
    intro e _
    simp
  simp only [Hopper.seen, hf]

/-- A change of the settings leaves what the items of earlier ticks see, while their ends have not been sent. -/
theorem Hopper.seen_load {h : Hopper} {now k : Nat} (a b : Word) (he : h.nextEnd ≤ k) (hk : k ≤ now) :
    (h.load a b (now + 1)).seen (now + 1) k = h.seen now k := by
  have hp : (fun e : Nat × Word × Word => decide (decide (h.nextEnd < e.1 ∧ e.1 < now + 1) = true ∧ decide (k < e.1 ∧ e.1 ≤ now + 1) = true)) =
      fun e => decide (k < e.1 ∧ e.1 ≤ now) := by
    funext e
    rw [decide_eq_decide, decide_eq_true_eq, decide_eq_true_eq]
    omega
  have hfind : (h.load a b (now + 1)).was.find? (fun e => decide (k < e.1 ∧ e.1 ≤ now + 1)) =
      (h.was.find? (fun e => decide (k < e.1 ∧ e.1 ≤ now))).or
        (if h.refr = a ∧ h.ba = b then none else some (now + 1, h.refr, h.ba)) := by
    have hk1 : k < now + 1 := by omega
    simp only [Hopper.load, List.find?_append, List.find?_filter, hp]
    split
    · rfl
    · rw [List.find?_singleton, if_pos (decide_eq_true ⟨hk1, Nat.le_refl _⟩)]
  unfold Hopper.seen
  rw [hfind]
  cases h.was.find? (fun e => decide (k < e.1 ∧ e.1 ≤ now)) with
  | some e => rfl
  | none =>
    rw [Option.none_or]
    split
    next h0 => 
      split at h0
      next hab => cases h0
      · cases h0
        rfl
    next h0 =>
      split at h0
      next hab => rw [hab.1, hab.2]; rfl
      · cases h0

/-! ## After the settings have come into force -/

theorem State.inForce_modRing (s : State) (n : Nat) (g : HChan → HChan) : s.SeenSame Hopper.inForce (s.modHop n (fun h => h.modRing g)) :=
  .modHop s n (fun _ => rfl)

theorem State.beside_ringPut (s : State) (n : Nat) (w : BitVec 64) : s.Beside (s.ringPut n w) := by
  unfold State.ringPut
  split
  · exact .refl s
  · exact s.beside_placeRec _ _

theorem State.inForce_ringPut (s : State) (n : Nat) (w : BitVec 64) : s.SeenSame Hopper.inForce (s.ringPut n w) := (s.beside_ringPut n w).seenSame _

theorem State.inForce_ringDrain (s : State) (n fuel : Nat) : s.SeenSame Hopper.inForce (s.ringDrain n fuel) := by
  induction fuel generalizing s with
  | zero => exact .refl s
  | succ m ih =>
    unfold State.ringDrain
    split
    · exact .refl s
    · exact .ite (.refl s) (((s.inForce_ringPut _ _).trans (State.inForce_modRing _ _ _)).trans (ih _))

theorem State.inForce_ringGaps (s : State) (n tick : Nat) : s.SeenSame Hopper.inForce (s.ringGaps n tick) := by
  refine .foldl (fun s cause => ?_) _ s
  split
  · exact .refl s
  · exact .ite (.refl s) ((s.inForce_ringPut _ _).trans (State.inForce_modRing _ _ _))

theorem State.inForce_ringOffer (s : State) (n : Nat) (w : BitVec 64) (tick : Nat) : s.SeenSame Hopper.inForce (s.ringOffer n w tick) := by
  unfold State.ringOffer
  extract_lets sp
  clear_value sp
  cases sp with
  | none => exact .refl s
  | some l =>
    have hb : s.SeenSame Hopper.inForce (s.bump (hopB n + 0x278)) := .of_hops rfl
    exact .ite (s.inForce_ringPut _ _) (.ite (s.inForce_modRing _ _) (hb.trans (State.inForce_modRing _ _ _)))

theorem State.inForce_ringClose (s : State) (n tick : Nat) : s.SeenSame Hopper.inForce (s.ringClose n tick) := by
  unfold State.ringClose
  split
  · exact .refl s
  · extract_lets now s1 s2 s3
    have h3 : s.SeenSame Hopper.inForce s3 := ((s.inForce_modRing _ _).trans (State.inForce_ringDrain _ _ _)).trans (State.inForce_ringGaps _ _ _)
    exact h3.trans (.foldl (fun s _ => s.inForce_ringOffer _ _ _) _ _)

theorem State.inForce_portMarks (s : State) (n : Nat) : s.SeenSame Hopper.inForce (s.portMarks n) := by
  unfold State.portMarks
  extract_lets h h' t s1 e
  have h1 : s.SeenSame Hopper.inForce s1 := .foldl (fun s _ => s.inForce_ringClose _ _) _ s
  exact .ite (.refl s) (h1.trans (.modHop _ _ (fun _ => rfl)))

theorem State.inForce_derivedMarks (s : State) (r : Nat) : s.SeenSame Hopper.inForce (s.derivedMarks r) := .ite (.refl s) (.of_hops rfl)

/-! ## Admissions -/

theorem State.inForce_setLimiter (s : State) (e : ConSrc) : s.SeenSame Hopper.inForce (s.setLimiter e) := by
  unfold State.setLimiter
  extract_lets n on s1
  have h1 : s.SeenSame Hopper.inForce s1 := ((State.SeenSame.setReg s _ _).trans (.setReg _ _ _)).trans (.setRfld _ _ _ _ _)
  exact .ite h1 (h1.trans (.modHop _ _ (fun _ => rfl)))

theorem State.inForce_markContracted (s : State) : s.SeenSame Hopper.inForce s.markContracted := fun hw => by
  unfold State.markContracted
  extract_lets gs upd
  simp only [State.hop]
  refine ⟨SMap.wf_mapAll hw, fun n => ?_⟩
  rw [SMap.get_mapAll (fun _ => rfl) hw]
  rfl

theorem State.inForce_recordWake (s : State) : s.SeenSame Hopper.inForce s.recordWake := by
  unfold State.recordWake
  extract_lets cs
  refine .foldl (fun u n => ?_) _ s
  exact .modHop u n (fun _ => rfl)

theorem State.inForce_wrArbs (s : State) (l : List (Nat × Nat)) : s.SeenSame Hopper.inForce (s.wrArbs l) := by
  refine .foldl (fun s p => ?_) _ s
  split
  · exact .ite (.setReg s _ _) (.refl s)
  · exact .refl s

theorem State.inForce_conCommit (s : State) (c func : Nat) (home : Option (Nat × Nat)) (d : ConDesc) (srcs : List ConSrc) (p : AdmitPlan) :
    s.SeenSame Hopper.inForce (s.conCommit c func home d srcs p) := by
  unfold State.conCommit
  extract_lets g x paired warm con s1 s2 s3 s4 s5 s6 s7 s8
  have h2 : s.Beside s2 := (State.Beside.of_eq rfl rfl rfl rfl : s.Beside s1).trans (.modGraph _ _ _)
  have h3 : s.SeenSame Hopper.inForce s3 := (h2.seenSame _).trans (.foldl State.inForce_setLimiter _ _)
  have h5 : s3.SeenSame Hopper.inForce s5 := (s3.inForce_wrArbs _).trans
    (.foldl (fun s _ => ((State.Beside.modQuire s _ _).seenSame _).trans (.setReg _ _ _)) _ _)
  have h6 : s5.Beside s6 := .foldl (fun s _ => (.of_eq rfl rfl rfl rfl : s.Beside (s.modStrm _ _))) _ _
  have h7 : s6.Beside s7 := .ite ((State.Beside.of_eq rfl rfl rfl rfl : s6.Beside (s6.modPwr _)).trans (State.beside_brew _ _)) (.refl _)
  have h8 : s7.Beside s8 := .ite (.foldl (fun s _ => (State.Beside.modQuire s _ _).trans (.modSi _ _)) _ _) (.refl _)
  have h9 : s.SeenSame Hopper.inForce s8 := (h3.trans h5).trans (((h6.trans h7).trans h8).seenSame _)
  exact ((h9.trans (State.inForce_markContracted _)).trans (State.inForce_recordWake _)).trans ((State.beside_log _ _ _ _ _ _).seenSame _)

theorem State.beside_conAbort (s : State) (a : ConAdmit) (st det : Nat) (r : BitVec 128) : s.Beside (s.conAbort a st det r) := by
  unfold State.conAbort
  extract_lets s1 s2
  have h2 : s.Beside s2 := (State.Beside.of_eq rfl rfl rfl rfl : s.Beside s1).trans (.foldl (fun s _ => s.beside_sendTo _) _ _)
  split
  · exact h2.trans (State.beside_complete _ _ _ _ _)
  · exact h2

theorem State.inForce_commitAdmits (s : State) : s.SeenSame Hopper.inForce s.commitAdmits := by
  refine .foldl (fun s a => ?_) _ s
  extract_lets s1
  have h1 : s.SeenSame Hopper.inForce s1 := .of_hops rfl
  refine h1.trans ?_
  split
  · have h2 := s1.inForce_conCommit a.id a.func a.home a.desc a.srcs a.plan
    split
    · exact h2.trans ((State.beside_complete _ _ _ _ _).seenSame _)
    · exact h2
  · split
    · exact (s1.beside_sendTo _).seenSame _
    · exact (s1.beside_conAbort _ _ _ _).seenSame _

/-! ## The boundary -/

/-- What begins with a tick after the settings have come into force leaves them alone. -/
theorem State.inForce_tickBegins (s : State) : s.slewDone.safeStops.markersAt.loadFilters.SeenSame Hopper.inForce s.tickBegins := by
  unfold State.tickBegins
  extract_lets s1 s2 s3 s4 s5
  have h4 : s2.SeenSame Hopper.inForce s4 :=
    (State.SeenSame.foldl State.inForce_portMarks _ _).trans (.foldl State.inForce_derivedMarks _ _)
  have h5 : s4.SeenSame Hopper.inForce s5 :=
    ((s4.beside_barriersAt.trans (State.beside_castsAt _)).seenSame _).trans (State.inForce_commitAdmits _)
  exact (h4.trans h5).trans (((State.beside_bindResetAt _).trans (State.beside_fusionDues _ _)).seenSame _)

theorem State.tickBegins_tim (s : State) : s.tickBegins.tim = s.slewDone.safeStops.markersAt.tim := by
  unfold State.tickBegins
  extract_lets s1 s2 s3 s4 s5
  simp only [State.fusionDues_tim, State.bindResetAt_tim, s5, s4, s3, s2, State.commitAdmits_tim, State.castsAt_tim, State.barriersAt_tim]
  exact (State.foldl_tim State.derivedMarks_tim _ _).trans ((State.foldl_tim State.portMarks_tim _ _).trans (State.loadFilters_tim _))

/-- The boundary after what is left of the old tick is done. -/
def State.boundary (u : State) : State := u.belowCycles.advance.tickBegins.dropEnded.deepUpdate

theorem State.tickBoundary_eq_boundary {s : State} (hstop : s.tim.stopped = false) (hdown : s.pwr.down = false) :
    s.tickBoundary = (s.leftovers (s.staged.length + 1)).boundary := by
  unfold State.tickBoundary
  rw [if_neg (by rw [hstop]; decide), if_neg (by rw [hdown]; decide)]
  rfl

theorem State.boundary_tick (u : State) : u.boundary.tim.tick = u.tim.tick + 1 := by
  unfold State.boundary
  rw [State.deepUpdate_tim, State.dropEnded_tim, State.tickBegins_tim, State.tick_tickEnds]

theorem State.boundary_hop (u : State) (n : Nat) : u.boundary.hop n = u.belowCycles.advance.tickBegins.hop n := by
  have hd : ∀ x : State, x.dropEnded.deepUpdate.hop n = x.hop n := fun _ => rfl
  exact hd _

/-- At the boundary HOP_REFR and HOP_BA come into force at a port; what was in force is kept for the ticks before (R80). -/
theorem State.boundary_inForce {u : State} (hw : SMap.wf {} u.hops = true) {n : Nat} (hn : n < 16) :
    ∃ h : Hopper, h.settings = (u.hop n).settings ∧
      (u.boundary.hop n).inForce = (h.load (u.reg (hopB n + 0x20)) (u.reg (hopB n + 0x24)) (u.tim.tick + 1)).inForce := by
  obtain ⟨hwe, hset⟩ := u.settings_tickEnds hw
  have hwl : SMap.wf {} u.belowCycles.advance.slewDone.safeStops.markersAt.loadFilters.hops = true := (State.foldl_loadFilter (List.range 16) hwe).1
  refine ⟨_, hset n, ?_⟩
  rw [State.boundary_hop, (State.inForce_tickBegins _ hwl).2 n, State.loadFilters_hop hwe hn, State.tick_tickEnds,
    State.reg_tickEnds u ⟨n, 0x20, hn, .inl rfl, rfl⟩, State.reg_tickEnds u ⟨n, 0x24, hn, .inr rfl, rfl⟩]

theorem Hopper.seen_congr_settings {x y : Hopper} (h : y.settings = x.settings) (now k : Nat) : y.seen now k = x.seen now k :=
  Hopper.seen_congr (congrArg Prod.fst h) now k

theorem State.boundary_filters {u : State} (hw : SMap.wf {} u.hops = true) {n : Nat} (hn : n < 16) :
    u.boundary.filters n u.boundary.tim.tick = (u.reg (hopB n + 0x20), u.reg (hopB n + 0x24)) ∧
      ∀ k, (u.hop n).nextEnd ≤ k → k ≤ u.tim.tick → u.boundary.filters n k = u.filters n k := by
  obtain ⟨h, hset, hin⟩ := State.boundary_inForce hw hn
  have hseen : ∀ k, u.boundary.filters n k =
      (h.load (u.reg (hopB n + 0x20)) (u.reg (hopB n + 0x24)) (u.tim.tick + 1)).seen (u.tim.tick + 1) k := fun k => by
    rw [State.filters_eq_seen, State.boundary_tick, Hopper.seen_congr hin]
  refine ⟨?_, fun k he hk => ?_⟩
  · rw [hseen, State.boundary_tick, Hopper.seen_now]
    rfl
  · have hend : h.nextEnd = (u.hop n).nextEnd := congrArg Prod.snd hset
    rw [hseen, Hopper.seen_load _ _ (hend.trans_le he) hk, Hopper.seen_congr_settings hset, State.filters_eq_seen]

end Sys2Proof.Machine

/-! SUPPORT. Writes of HOP_REFR and HOP_BA, and the statement about them (R80). -/
namespace Sys2Proof.Machine

/-! ## The bytes of an access (R562) -/

/-- The run of bytes of an access lies within its width, and is aligned. -/
theorem accessOf_run {off width be o n lo : Nat} (h : accessOf off width be = .run o n lo) :
    o = off + lo ∧ lo + n ≤ width ∧ o % n = 0 ∧ (n = 1 ∨ n = 2 ∨ n = 4 ∨ n = 8) := by
  unfold accessOf at h
  dsimp only at h
  generalize hl : (List.range width).filter (fun i => be.testBit i) = l at h
  cases l with
  | nil => cases h
  | cons lo' r =>
    dsimp only at h
    split at h
    · cases h
    next hgood =>
      obtain ⟨rfl, rfl, rfl⟩ := by simpa only [Access.run.injEq] using h
      simp only [not_or, not_not, Bool.not_eq_true', Bool.not_eq_false] at hgood
      obtain ⟨-, hrun, hsize, hal⟩ := hgood
      have hlast : r.length + lo' ∈ lo' :: r := by
        rw [hrun]
        exact List.mem_map.mpr ⟨r.length, List.mem_range.mpr (Nat.lt_succ_self _), rfl⟩
      have hw : r.length + lo' < width := List.mem_range.mp (List.mem_of_mem_filter (hl ▸ hlast))
      exact ⟨rfl, by rw [List.length_cons]; omega, hal, by simpa using hsize⟩

/-! ## Registers of a port that are only stored -/

theorem pfPage_hop {n o : Nat} (hn : n < 16) (ho : o < 0x10000) : pfPage (hopB n + o) = some (hopB n, hopDefs) := by
  have hb : (hopB n + o) / 0x10000 * 0x10000 = hopB n := by
    unfold hopB
    omega
  have h1 : 0x100000 ≤ hopB n + o ∧ hopB n + o < 0x200000 := hopKey_port hn ho
  unfold pfPage
  rw [if_neg (by omega), if_neg (by omega), if_neg (by omega), if_neg (by omega), if_neg (by omega), if_neg (by omega), if_neg (by omega),
    if_neg (by omega), if_pos (by omega), hb]

theorem locate_hop {n o : Nat} (hn : n < 16) (ho : o < 0x10000) :
    locate 0 (hopB n + o) = (findDef hopDefs o).map (fun p => (hopB n + o, p.1, p.2)) := by
  simp only [locate, page, if_pos, pfPage_hop hn ho, Option.map_some, Nat.add_sub_cancel_left]

/-- A register of 32 bits that a write stores and does nothing else with. -/
def RegDef.plain (d : RegDef) : Bool := !d.wide && decide (d.kind ≠ .doorbell) && decide (d.act = .none ∨ d.act = .hopRefr ∨ d.act = .hopBa)

/-- Offsets of HOP_REFR, HOP_BA and the register behind them. -/
def filterOff (o : Nat) : Prop := o = 0x20 ∨ o = 0x24 ∨ o = 0x28

theorem findDef_filterOff {o : Nat} (ho : filterOff o) : ∃ d ix, findDef hopDefs o = some (d, ix) ∧ d.plain = true := by
  obtain rfl | rfl | rfl := ho <;> exact ⟨_, _, rfl, rfl⟩

theorem locate_filterOff {n o : Nat} (hn : n < 16) (ho : filterOff o) : ∃ d ix, locate 0 (hopB n + o) = some (hopB n + o, d, ix) ∧ d.plain = true := by
  obtain ⟨d, ix, hf, hp⟩ := findDef_filterOff ho
  refine ⟨d, ix, ?_, hp⟩
  rw [locate_hop hn (by unfold filterOff at ho; omega), hf]
  rfl

theorem wideAt_filterOff {n o : Nat} (hn : n < 16) (ho : filterOff o) : wideAt 0 (hopB n + o) = none := by
  obtain ⟨d, ix, hl, hp⟩ := locate_filterOff hn ho
  have hw : d.wide = false := by
    simp only [RegDef.plain, Bool.and_eq_true, Bool.not_eq_true'] at hp
    exact hp.1.1
  simp [wideAt, hl, hw]

theorem halfAt_plain {n o k : Nat} {d : RegDef} {ix : List Nat} (hn : n < 16) (ho : filterOff o) (h : halfAt 0 (hopB n + o) = some (k, d, ix)) :
    d.plain = true := by
  obtain ⟨e, jx, hl, hp⟩ := locate_filterOff hn ho
  unfold halfAt at h
  rw [hl] at h
  obtain ⟨he, -⟩ := Option.filter_eq_some_iff.mp h
  cases he
  exact hp

/-! ## What such a write leaves alone -/

/-- t has the ports and the time of s. -/
def State.SamePorts (s t : State) : Prop := t.hops = s.hops ∧ t.tim = s.tim

namespace State.SamePorts

theorem refl (s : State) : s.SamePorts s := ⟨rfl, rfl⟩

theorem trans {s t u : State} (h1 : s.SamePorts t) (h2 : t.SamePorts u) : s.SamePorts u := ⟨h2.1.trans h1.1, h2.2.trans h1.2⟩

end State.SamePorts

theorem State.beside_refuseWrite (s : State) (f cause off q data be : Nat) : s.Beside (s.refuseWrite f cause off q data be) := by
  have hk : ∀ o, o < 0x10000 → ¬ hopKey (fnB f + o) := fun o ho => not_hopKey (by have := fnB_cases f; omega)
  have h1 := s.beside_log 0x6A ((s.fn f).slip.getD 0xFF) 1 4 [f, cause, off]
  unfold State.refuseWrite
  extract_lets s1 s2 errBit s3 s4 s5
  have h2 : s.Beside s2 := h1.trans (.emit s1 _ _ _)
  have h3 : s2.Beside s3 := .orReg s2 (hk _ (by decide)) _
  have h4 : s3.Beside s4 := .setReg s3 (hk _ (by decide)) _
  have h5 : s.Beside s5 := ((h2.trans h3).trans h4).trans (.bump s4 (hk _ (by decide)) 1)
  exact .ite h5 (h5.trans (State.beside_fnEvent _ _ _ _ _ _))

theorem State.samePorts_refuseWrite (s : State) (f cause off q data be : Nat) : s.SamePorts (s.refuseWrite f cause off q data be) :=
  ⟨(s.beside_refuseWrite f cause off q data be).hops, s.refuseWrite_tim f cause off q data be⟩

theorem State.samePorts_touch (s : State) (f o : Nat) : s.SamePorts (s.touch f o) := by
  refine ⟨?_, s.touch_tim f o⟩
  unfold State.touch
  rw [State.unstage_frame]
  exact (s.beside_brew _).hops

theorem State.storeReg_hops (s : State) (f k : Nat) (d : RegDef) (v : Word) : (s.storeReg f k d v).hops = s.hops := by
  unfold State.storeReg State.condErr
  split
  · rw [State.setReg_hops]
  · split
    iterate 6 rw [State.orReg_hops]
    rfl

theorem State.samePorts_applyReg (s : State) (f o k : Nat) {d : RegDef} (hd : d.plain = true) (ix : List Nat) (v : Word) :
    s.SamePorts (s.applyReg f o k d ix v) := by
  simp only [RegDef.plain, Bool.and_eq_true, Bool.not_eq_true', decide_eq_true_eq] at hd
  obtain ⟨⟨-, hkind⟩, hact⟩ := hd
  have hwr : ∀ u : State, u.wrReg f k d ix v = u.storeReg f k d v := fun u => by
    unfold State.wrReg
    obtain h | h | h := hact <;> rw [h]
  unfold State.applyReg
  rw [if_neg hkind, hwr]
  exact (s.samePorts_touch f o).trans ⟨State.storeReg_hops _ _ _ _ _, State.storeReg_tim _ _ _ _ _⟩

/-- A write of 4 or 8 aligned bytes to plain registers of 32 bits. -/
theorem State.samePorts_writeRun {s : State} {f o n v be : Nat} (hwide : 4 ≤ n → wideAt f (o / 8 * 8) = none)
    (hlow : ∀ k d ix, 4 ≤ n → o = o / 8 * 8 → halfAt f (o / 8 * 8) = some (k, d, ix) → d.plain = true)
    (hhigh : ∀ k d ix, 4 ≤ n → o + n = o / 8 * 8 + 8 → halfAt f (o / 8 * 8 + 4) = some (k, d, ix) → d.plain = true) :
    s.SamePorts (s.writeRun f o n v be) := by
  unfold State.writeRun
  extract_lets u w _ s1
  split
  · exact s.samePorts_refuseWrite _ _ _ _ _ _
  · split
    · exact s.samePorts_refuseWrite _ _ _ _ _ _
    next hn =>
      have hn4 : 4 ≤ n := by omega
      rw [hwide hn4]
      have h1 : s.SamePorts s1 := by
        simp only [s1]
        split
        next k d ix h =>
          split at h
          next hou => exact s.samePorts_applyReg _ _ _ (hlow k d ix hn4 hou h) _ _
          · cases h
        · exact .refl s
      refine h1.trans ?_
      dsimp only
      split
      next k d ix h =>
        split at h
        next hou => exact State.samePorts_applyReg _ _ _ _ (hhigh k d ix hn4 hou h) _ _
        · cases h
      · exact .refl _

theorem State.samePorts_hostWrite {s : State} {n : Nat} {off width be v : Nat} (hn : n < 16) (hw : width ≤ 8)
    (ho : off = hopB n + 0x20 ∨ off = hopB n + 0x24) : s.SamePorts (s.hostWrite 0 off width be v) := by
  have hal : hopB n % 8 = 0 := by
    unfold hopB
    omega
  unfold State.hostWrite
  split
  · exact .refl s
  · split
    · exact .refl s
    · split
      · exact s.samePorts_refuseWrite _ _ _ _ _ _
      · exact s.samePorts_refuseWrite _ _ _ _ _ _
    next o m lo h =>
      obtain ⟨rfl, hlo, hdiv, hm⟩ := accessOf_run h
      split
      · exact s.samePorts_refuseWrite _ _ _ _ _ _
      · have hu : 4 ≤ m → ∃ j, filterOff j ∧ (off + lo) / 8 * 8 = hopB n + j := fun hm4 => by
          refine ⟨(off + lo) / 8 * 8 - hopB n, ?_, ?_⟩
          · unfold filterOff
            omega
          · omega
        refine State.samePorts_writeRun (fun hm4 => ?_) (fun k d ix hm4 _ hat => ?_) (fun k d ix hm4 hend hat => ?_)
        · obtain ⟨j, hj, he⟩ := hu hm4
          rw [he]
          exact wideAt_filterOff hn hj
        · obtain ⟨j, hj, he⟩ := hu hm4
          rw [he] at hat
          exact halfAt_plain hn hj hat
        · clear hu
          have he : (off + lo) / 8 * 8 + 4 = hopB n + 0x24 := by omega
          rw [he] at hat
          exact halfAt_plain hn (.inr (.inl rfl)) hat

/-- Settles O60: such a write reaches registers that are only stored, and a boundary brings the two registers into force. -/
theorem filterSettingsChangeAtTickBoundaries : Obligations.FilterSettingsChangeAtTickBoundaries := by
  unfold Obligations.FilterSettingsChangeAtTickBoundaries
  refine ⟨fun n off width be v s _ hn hw ho => ?_, fun s u hstop hdown hu hc => ?_⟩
  · obtain ⟨hh, ht⟩ : s.SamePorts (s.hostWrite 0 off.toNat width be.toNat v.toNat) := State.samePorts_hostWrite hn hw ho
    have he : exec (.registerWrite 0 off width be v) s = .next (s.hostWrite 0 off.toNat width be.toNat v.toNat) := rfl
    refine ⟨_, he, hh, ht, fun m k => State.filters_congr ?_ ht⟩
    rw [State.hop_congr hh]
  · have he : exec .tickBoundary s = .next s.tickBoundary := rfl
    refine ⟨u.boundary, ?_, State.boundary_tick u, fun n hn => State.boundary_filters (State.canonical_hops hc) hn⟩
    rw [he, State.tickBoundary_eq_boundary hstop hdown, hu]

end Sys2Proof.Machine

/-! SUPPORT. Losses and the hold signal of a port (R83, R85, R90): what they count and mark, and what they leave alone. -/
namespace Sys2Proof.Machine

/-- y is the port x but for its channels, the log of its markers and its hold signal. -/
structure Hopper.Passed (x y : Hopper) : Prop where
  eq : y = { x with chans := y.chans, gapLog := y.gapLog, hold := y.hold }

namespace Hopper.Passed

theorem refl (x : Hopper) : x.Passed x := ⟨rfl⟩

theorem trans {x y z : Hopper} (h1 : x.Passed y) (h2 : y.Passed z) : x.Passed z := ⟨h2.eq.trans (by rw [h1.eq])⟩

variable {x y : Hopper} (h : x.Passed y)
include h

theorem buf : y.buf = x.buf := by rw [h.eq]

theorem items : y.items = x.items := by rw [h.eq]

theorem link : y.link = x.link := by rw [h.eq]

theorem resyncWait : y.resyncWait = x.resyncWait := by rw [h.eq]

theorem timeValid : y.timeValid = x.timeValid := by rw [h.eq]

theorem addrValid : y.addrValid = x.addrValid := by rw [h.eq]

theorem stime : y.stime = x.stime := by rw [h.eq]

theorem yCur : y.yCur = x.yCur := by rw [h.eq]

theorem xBase : y.xBase = x.xBase := by rw [h.eq]

theorem level : y.level = x.level := by rw [h.eq]

end Hopper.Passed

/-- The counters of what a port loses, and of its hold signal (Table 3.16). -/
def lossKey (n k : Nat) : Prop := (hopB n + 0x200 ≤ k ∧ k < hopB n + 0x300) ∨ k = hopB n + 0x350

/-- t is s after losses at the port n, marked in the channels of the port p, and after its hold signal has been driven. -/
structure State.Passing (p n : Nat) (s t : State) : Prop where
  wf : SMap.wf {} s.hops = true → SMap.wf {} t.hops = true
  hop : SMap.wf {} s.hops = true → ∀ k, (s.hop k).Passed (t.hop k)
  other : ∀ k, k ≠ p → t.hop k = s.hop k
  tim : t.tim = s.tim
  graphs : t.graphs = s.graphs
  ctl : ∀ m, m < 16 → t.reg (hopB m) = s.reg (hopB m)
  ctr : ∀ k, hopKey k → ¬ lossKey n k → t.ctr k = s.ctr k

namespace State.Passing

variable {p n : Nat}

theorem of_ports {s t : State} (hh : t.hops = s.hops) (ht : t.tim = s.tim) (hg : t.graphs = s.graphs)
    (hr : ∀ m, m < 16 → t.reg (hopB m) = s.reg (hopB m)) (hc : ∀ k, hopKey k → ¬ lossKey n k → t.ctr k = s.ctr k) : s.Passing p n t where
  wf hw := by rwa [hh]
  hop _ k := by
    rw [State.hop_congr hh]
    exact .refl _
  other k _ := State.hop_congr hh k
  tim := ht
  graphs := hg
  ctl := hr
  ctr := hc

theorem refl (s : State) : s.Passing p n s := of_ports rfl rfl rfl (fun _ _ => rfl) (fun _ _ _ => rfl)

theorem trans {s t u : State} (h1 : s.Passing p n t) (h2 : t.Passing p n u) : s.Passing p n u where
  wf hw := h2.wf (h1.wf hw)
  hop hw k := (h1.hop hw k).trans (h2.hop (h1.wf hw) k)
  other k hk := (h2.other k hk).trans (h1.other k hk)
  tim := h2.tim.trans h1.tim
  graphs := h2.graphs.trans h1.graphs
  ctl m hm := (h2.ctl m hm).trans (h1.ctl m hm)
  ctr k hk hl := (h2.ctr k hk hl).trans (h1.ctr k hk hl)

theorem ite {s a b : State} {c : Prop} [Decidable c] (ha : s.Passing p n a) (hb : s.Passing p n b) : s.Passing p n (if c then a else b) := by
  split
  · exact ha
  · exact hb

theorem foldl {α : Type} {f : State → α → State} {l : List α} (h : ∀ a ∈ l, ∀ s, State.Passing p n s (f s a)) (s : State) :
    s.Passing p n (l.foldl f s) := by
  induction l generalizing s with
  | nil => exact refl s
  | cons a r ih => exact (h a List.mem_cons_self s).trans (ih (fun b hb => h b (List.mem_cons_of_mem _ hb)) _)

theorem bump (s : State) {k : Nat} (h : lossKey n k) (m : Nat) : s.Passing p n (s.bump k m) :=
  of_ports rfl rfl rfl (fun _ _ => rfl) (fun _ _ hl => s.ctr_bump_ne m (fun e => hl (e ▸ h)))

theorem orReg (s : State) {k : Nat} (h : ∀ m, k ≠ hopB m) (w : Word) : s.Passing p n (s.orReg k w) :=
  of_ports rfl rfl rfl (fun m _ => State.reg_setReg_ne _ _ (h m).symm) (fun _ _ _ => rfl)

theorem modSlip (s : State) (k : Nat) (g : Slip → Slip) : s.Passing p n (s.modSlip k g) := of_ports rfl rfl rfl (fun _ _ => rfl) (fun _ _ _ => rfl)

theorem modSfm (s : State) (k : Nat) (g : Sfm → Sfm) : s.Passing p n (s.modSfm k g) := of_ports rfl rfl rfl (fun _ _ => rfl) (fun _ _ _ => rfl)

theorem emit (s : State) (k : EmitKind) (dst data : List Nat) : s.Passing p n (s.emit k dst data) := of_ports rfl rfl rfl (fun _ _ => rfl) (fun _ _ _ => rfl)

theorem of_beside {s t : State} (h : s.Beside t) (ht : t.tim = s.tim) (hg : t.graphs = s.graphs) : s.Passing p n t :=
  of_ports h.hops ht hg (fun m hm => h.reg _ (hopKey_port (o := 0) hm (by decide))) (fun k hk _ => h.ctr k hk)

theorem trace (s : State) (source slip point : Nat) (data : List Nat) : s.Passing p n (s.trace source slip point data) :=
  of_beside (s.beside_trace _ _ _ _) (s.trace_tim _ _ _ _) (by rw [(s.trace_traced source slip point data).1])

theorem alarm (s : State) (cause source slip : Nat) (present : Bool) : s.Passing p n (s.alarm cause source slip present) :=
  of_beside (s.beside_alarm _ _ _ _) (s.alarm_tim _ _ _ _) (by rw [s.alarm_frame])

theorem modHop (s : State) {g : Hopper → Hopper} (hg : ∀ x : Hopper, x.Passed (g x)) : s.Passing p n (s.modHop p g) where
  wf hw := State.modHop_wf hw p g
  hop hw k := by
    by_cases hk : k = p
    · subst hk
      rw [State.modHop_hop_self hw]
      exact hg _
    · rw [State.modHop_hop_ne _ hk]
      exact .refl _
  other k hk := State.modHop_hop_ne _ hk _
  tim := rfl
  graphs := rfl
  ctl _ _ := rfl
  ctr _ _ _ := rfl

theorem cfgPort {s t : State} (h : s.Passing p n t) {m : Nat} (hm : m < 16) : t.cfgPort m = s.cfgPort m := State.cfgPort_congr (h.ctl _ (by omega))

end State.Passing

/-! ## Losses -/

theorem lossKey_cause (n : Nat) {cause : Nat} (h : cause < 32) : lossKey n (hopB n + 0x200 + 8 * cause) := by
  unfold lossKey
  omega

/-- A loss that no GAP marker reports is counted, and nothing else. -/
theorem State.portLoss_uncounted {cause : Nat} (h : gapCause cause = false) (s : State) (n tick : Nat) {cnt : Nat} (hc : cnt ≠ 0) :
    s.portLoss n cause cnt tick = s.bump (hopB n + 0x200 + 8 * cause) cnt := by
  unfold State.portLoss
  rw [if_neg hc]
  extract_lets s1
  rw [if_pos (by rw [h]; rfl)]

theorem State.passing_portLoss (s : State) (n : Nat) {cause : Nat} (h : cause < 32) (cnt tick : Nat) :
    s.Passing (s.cfgPort n) n (s.portLoss n cause cnt tick) := by
  unfold State.portLoss
  split
  · exact .refl s
  · extract_lets s1 k g s2 s3
    have h1 : s.Passing (s.cfgPort n) n s1 := .bump s (lossKey_cause n h) cnt
    have h2 : s1.Passing (s.cfgPort n) n s2 := .modHop s1 (fun _ => ⟨rfl⟩)
    exact .ite h1 (((h1.trans h2).trans (.modSfm s2 _ _)).trans (.trace s3 _ _ _ _))

theorem State.portLoss_ctr {s : State} (hw : SMap.wf 0 s.ctrs = true) {n : Nat} (hn : n < 16) {cause : Nat} (h : cause < 32) (cnt tick : Nat) :
    (s.portLoss n cause cnt tick).ctr (hopB n + 0x200 + 8 * cause) = s.ctr (hopB n + 0x200 + 8 * cause) + BitVec.ofNat 48 cnt := by
  have hk : hopKey (hopB n + 0x200 + 8 * cause) := Nat.add_assoc _ _ _ ▸ hopKey_port hn (by omega)
  unfold State.portLoss
  split
  next h0 => rw [h0]; exact (BitVec.add_zero _).symm
  · extract_lets s1 k g s2 s3
    have h1 : s1.ctr (hopB n + 0x200 + 8 * cause) = s.ctr (hopB n + 0x200 + 8 * cause) + BitVec.ofNat 48 cnt := State.ctr_bump_self _ _ hw
    split
    · exact h1
    · exact ((s3.beside_trace _ _ _ _).ctr _ hk).trans h1

/-! ## The hold signal (R83) -/

theorem State.holdPin_regs_sfms (s : State) (n : Nat) : (s.holdPin n).regs = s.regs ∧ (s.holdPin n).sfms = s.sfms := by
  unfold State.holdPin
  extract_lets c occ pin
  have hpin : ∀ u : State, (pin u).regs = u.regs ∧ (pin u).sfms = u.sfms := fun u => by
    simp only [pin]
    split <;> exact ⟨rfl, rfl⟩
  split
  · exact ⟨rfl, rfl⟩
  · split
    · exact hpin _
    · split
      · exact hpin _
      · exact ⟨rfl, rfl⟩

theorem State.passing_holdPin (s : State) (n : Nat) : s.Passing n n (s.holdPin n) := by
  unfold State.holdPin
  extract_lets c occ pin
  have hpin : ∀ u : State, u.Passing n n (pin u) := fun u => .ite (.emit u _ _ _) (.refl u)
  have hset : ∀ b, s.Passing n n (s.modHop n (fun h => { h with hold := b })) := fun b => .modHop s (fun _ => ⟨rfl⟩)
  exact .ite (.refl s) (.ite (((hset true).trans (.bump _ (.inr rfl) _)).trans (hpin _)) (.ite ((hset false).trans (hpin _)) (.refl s)))

end Sys2Proof.Machine

/-! SUPPORT. The arrival of packets and the events of a link (R66, R67, R72, R83, R90, Table 3.17), and the statement about them. -/
namespace Sys2Proof.Machine

/-! ## Settings of a port -/

/-- The counter of the latest arrival is no setting of a port. -/
theorem hopB_add_ne {m n o : Nat} (h : o < 0x10000) (ho : o ≠ 0x38) : hopB m + o ≠ hopB n + 0x38 := by
  unfold hopB
  omega

theorem State.canonical_ctrs {s : State} (h : s.canonical = true) : SMap.wf 0 s.ctrs = true := by
  simp only [State.canonical, Bool.and_eq_true] at h
  simp only [h]

/-! ## A packet that is dropped -/

/-- t is s with a packet of port n dropped under a cause. -/
structure State.Dropped (n cause : Nat) (s t : State) : Prop where
  buf : ∀ j, (t.hop j).buf = (s.hop j).buf
  timeValid : (t.hop n).timeValid = false
  addrValid : (t.hop n).addrValid = false
  link : (t.hop n).link = (s.hop n).link
  resyncWait : (t.hop n).resyncWait = (s.hop n).resyncWait
  tim : t.tim = s.tim
  graphs : t.graphs = s.graphs
  counted : t.ctr (hopB n + 0x200 + 8 * cause) = s.ctr (hopB n + 0x200 + 8 * cause) + 1
  ctr : ∀ k, hopKey k → ¬ lossKey n k → t.ctr k = s.ctr k

theorem State.dropPacket_dropped {s : State} (hw : SMap.wf {} s.hops = true) (hc : SMap.wf 0 s.ctrs = true) {n cause : Nat} (hn : n < 16)
    (hcause : cause < 32) (tick : Nat) : s.Dropped n cause (s.dropPacket n cause tick) := by
  have hp : (s.modHop n Hopper.lostPacket).Passing (s.cfgPort n) n (s.dropPacket n cause tick) :=
    State.passing_portLoss (s.modHop n Hopper.lostPacket) n hcause 1 tick
  have hself : ((s.modHop n Hopper.lostPacket).hop n).Passed ((s.dropPacket n cause tick).hop n) := hp.hop (State.modHop_wf hw _ _) n
  have hb : s.SeenSame Hopper.buf (s.modHop n Hopper.lostPacket) := .modHop s n (fun _ => rfl)
  rw [State.modHop_hop_self hw] at hself
  exact {
    buf := fun j => ((hp.hop (State.modHop_wf hw _ _) j).buf).trans ((hb hw).2 j)
    timeValid := hself.timeValid, addrValid := hself.addrValid, link := hself.link, resyncWait := hself.resyncWait
    tim := hp.tim, graphs := hp.graphs
    counted := State.portLoss_ctr (s := s.modHop n Hopper.lostPacket) hc hn hcause 1 tick
    ctr := hp.ctr }

/-! ## A packet arrives -/

/-- The port before a packet's checks: the lanes have stopped, the arrival is noted, and what was corrected is counted. -/
def State.land (s : State) (n : Nat) (p : LinkPkt) : State :=
  let s := s.modHop n (fun h => { h with link := 0 })
  let s := if p.short then s else s.setReg (hopB n + 0x38) p.arrival
  let s := if p.sot = 1 then s.bump (hopB n + 0x318) else s
  if p.hdr = 1 then s.bump (hopB n + 0x328) else s

/-- A whole packet of the port's own stream, as far as it fits (R67, R83, R90). -/
def State.takeOwn (s : State) (n : Nat) (p : LinkPkt) (t : Nat) : State :=
  if s.pktMax n < p.wordCount.toNat then s.dropPacket n 3 t
  else if 4096 < (s.hop n).occ + pktUnits p.wordCount.toNat then s.dropPacket n 5 t
  else if p.short then s.dropPacket n 4 t
  else if p.crcBad then s.dropPacket n 2 t
  else ((s.modHop n (fun h => { h with buf := h.buf ++ [{ payload := p.payload, tick := t }] })).bump (hopB n + 0x300)).holdPin n

/-- The checks of a packet that has arrived, under the port's HOP_LINK c. -/
def State.examine (s : State) (n : Nat) (p : LinkPkt) (c : Word) (t : Nat) : State :=
  if 2 ≤ p.sot then ((s.bump (hopB n + 0x320)).modHop n (fun h => { h with resyncWait := true })).dropPacket n 1 t
  else if 2 ≤ p.hdr then (s.modHop n (fun h => { h with resyncWait := true })).dropPacket n 1 t
  else if (s.hop n).resyncWait ∧ !(s.reg (hopB (s.cfgPort n))).getLsbD 2 then s.dropPacket n 1 t
  else
    let s := s.modHop n (fun h => { h with resyncWait := false })
    if p.dt.toNat ≠ fld c 19 14 ∨ p.vc.toNat ≠ fld c 13 10 then s.bump (hopB n + 0x330) else s.takeOwn n p t

theorem State.stamp_link {s : State} (hw : SMap.wf {} s.hops = true) (n ns : Nat) :
    (s.modHop n (fun h => { h with link := 0 })).stamp n ns = s.stamp n ns := by
  unfold State.stamp
  rw [State.modHop_hop_self hw]
  rfl

theorem State.receive_eq_examine {s : State} (hw : SMap.wf {} s.hops = true) {n : Nat} {p : LinkPkt} (hst : p.stale = false) (hen : s.portEn n = true) :
    s.receive n p = (s.land n p).examine n p (s.reg (hopB (s.cfgPort n) + 0xC)) (s.stamp n p.arrival.toNat) := by
  unfold State.receive
  rw [if_neg (by rw [hst]; decide), if_neg (by rw [hen]; decide), ← State.stamp_link hw]
  rfl

/-- What the arrival of a packet leaves. -/
structure State.Landed (n : Nat) (p : LinkPkt) (s t : State) : Prop where
  frame : t = { s with hops := t.hops, regs := t.regs, ctrs := t.ctrs }
  wf : SMap.wf {} t.hops = true
  ctrs_wf : SMap.wf 0 t.ctrs = true
  self : t.hop n = { s.hop n with link := 0 }
  other : ∀ k, k ≠ n → t.hop k = s.hop k
  reg : ∀ k, k ≠ hopB n + 0x38 → t.reg k = s.reg k
  arrival : p.short = false → t.reg (hopB n + 0x38) = p.arrival
  ctr : ∀ k, k ≠ hopB n + 0x318 → k ≠ hopB n + 0x328 → t.ctr k = s.ctr k

theorem State.land_landed {s : State} (hs : s.canonical = true) (n : Nat) (p : LinkPkt) : s.Landed n p (s.land n p) := by
  have hw := State.canonical_hops hs
  have hr := State.canonical_regs hs
  have hc := State.canonical_ctrs hs
  unfold State.land
  extract_lets s1 s2 s3
  have h1 : s.Landed n { p with short := true } s1 := {
    frame := rfl, wf := State.modHop_wf hw _ _, ctrs_wf := hc, self := State.modHop_hop_self hw _ _
    other := fun k hk => State.modHop_hop_ne _ hk _, reg := fun _ _ => rfl, arrival := nofun, ctr := fun _ _ _ => rfl }
  have h2 : s.Landed n p s2 := by
    simp only [s2]
    split
    next hp => exact { h1 with arrival := fun h => absurd (hp.symm.trans h) (by decide) }
    · exact { h1 with
        frame := by rw [h1.frame]; rfl
        reg := fun k hk => (State.reg_setReg_ne _ _ hk).trans (h1.reg k hk)
        arrival := fun _ => State.reg_setReg_self _ _ (by rw [State.modHop_regs]; exact hr) }
  have hbump : ∀ (u : State) (k : Nat), (k = hopB n + 0x318 ∨ k = hopB n + 0x328) → s.Landed n p u → s.Landed n p (u.bump k) :=
    fun u k hk h => { h with
      frame := by
        have := h.frame
        rw [this]; rfl
      ctrs_wf := SMap.wf_put h.ctrs_wf
      ctr := fun j h1 h2 => (State.ctr_bump_ne _ _ (by omega)).trans (h.ctr j h1 h2) }
  have h3 : s.Landed n p s3 := by
    simp only [s3]
    split
    · exact hbump _ _ (.inl rfl) h2
    · exact h2
  split
  · exact hbump _ _ (.inr rfl) h3
  · exact h3

namespace State.Landed

variable {n : Nat} {p : LinkPkt} {s t : State} (h : s.Landed n p t)
include h

theorem tim : t.tim = s.tim := by rw [h.frame]

theorem sfms : t.sfms = s.sfms := by rw [h.frame]

theorem graphs : t.graphs = s.graphs := by rw [h.frame]

theorem buf (j : Nat) : (t.hop j).buf = (s.hop j).buf := by
  by_cases hj : j = n
  · rw [hj, h.self]
  · rw [h.other j hj]

theorem setting (m : Nat) {o : Nat} (ho : o < 0x10000) (hne : o ≠ 0x38) : t.reg (hopB m + o) = s.reg (hopB m + o) := h.reg _ (hopB_add_ne ho hne)

theorem cfgPort (m : Nat) : t.cfgPort m = s.cfgPort m := State.cfgPort_congr (h.setting _ (o := 0) (by decide) (by decide))

theorem pktMax (m : Nat) : t.pktMax m = s.pktMax m := by
  have hr : t.rfld (hopB (t.cfgPort m) + 0x30) 5 0 = s.rfld (hopB (s.cfgPort m) + 0x30) 5 0 := by
    rw [h.cfgPort]
    exact State.rfld_congr (h.setting _ (by decide) (by decide)) _ _
  simp only [State.pktMax, hr]

/-- A packet of the port's own stream, with SoT and header good or corrected, that waits for nothing. -/
theorem examine_own {c : Word} (tick : Nat) (hsot : p.sot.toNat < 2) (hhdr : p.hdr.toNat < 2)
    (hwait : (s.hop n).resyncWait = true → (s.reg (hopB (s.cfgPort n))).getLsbD 2 = true) (hdt : p.dt.toNat = fld c 19 14)
    (hvc : p.vc.toNat = fld c 13 10) : t.examine n p c tick = (t.modHop n (fun h => { h with resyncWait := false })).takeOwn n p tick := by
  have h2 : ∀ x : BitVec 2, x.toNat < 2 → ¬ 2 ≤ x := fun x hx hle => absurd (BitVec.le_def.mp hle) (Nat.not_le.mpr hx)
  have hw : ¬ ((t.hop n).resyncWait = true ∧ (!(t.reg (hopB (t.cfgPort n))).getLsbD 2) = true) := by
    have hany : t.reg (hopB (s.cfgPort n)) = s.reg (hopB (s.cfgPort n)) := h.setting _ (o := 0) (by decide) (by decide)
    rw [h.self, h.cfgPort, hany]
    rintro ⟨h1, h2⟩
    rw [hwait h1] at h2
    exact absurd h2 (by decide)
  unfold State.examine
  rw [if_neg (h2 _ hsot), if_neg (h2 _ hhdr), if_neg hw, if_neg (by simp [hdt, hvc])]

end State.Landed

/-- The end of the wait for a frame leaves the buffer as full as it was. -/
theorem State.Landed.occ {n : Nat} {p : LinkPkt} {s t : State} (h : s.Landed n p t) :
    ((t.modHop n (fun h => { h with resyncWait := false })).hop n).occ = (s.hop n).occ := by
  rw [State.modHop_hop_self h.wf, h.self]
  rfl

/-- A whole packet that fits enters the buffer. -/
theorem State.takeOwn_accept {s : State} {n : Nat} {p : LinkPkt} (tick : Nat) (hmax : p.wordCount.toNat ≤ s.pktMax n)
    (hocc : (s.hop n).occ + pktUnits p.wordCount.toNat ≤ 4096) (hshort : p.short = false) (hcrc : p.crcBad = false) :
    s.takeOwn n p tick =
      ((s.modHop n (fun h => { h with buf := h.buf ++ [{ payload := p.payload, tick := tick }] })).bump (hopB n + 0x300)).holdPin n := by
  unfold State.takeOwn
  rw [if_neg (by omega), if_neg (by omega), hshort, hcrc]
  rfl

/-- The cause under which a packet of the port's own stream is dropped, 0 where it is not (R90). -/
def State.dropCause (s : State) (n : Nat) (p : LinkPkt) : Nat :=
  if s.pktMax n < p.wordCount.toNat then 3 else if 4096 < (s.hop n).occ + pktUnits p.wordCount.toNat then 5
  else if p.short then 4 else if p.crcBad then 2 else 0

theorem State.takeOwn_drop {s : State} {n : Nat} {p : LinkPkt} (tick : Nat) (h : s.dropCause n p ≠ 0) :
    s.takeOwn n p tick = s.dropPacket n (s.dropCause n p) tick := by
  unfold State.dropCause at h ⊢
  unfold State.takeOwn
  split
  · rfl
  · split
    · rfl
    · split
      · rfl
      · split
        · rfl
        · simp_all

theorem State.dropCause_lt (s : State) (n : Nat) (p : LinkPkt) : s.dropCause n p < 32 := by
  unfold State.dropCause
  split
  · decide
  · split
    · decide
    · split
      · decide
      · split <;> decide

/-! ## Short packets and events of the link -/

/-- The port after a short packet that it takes, before its type is looked at. -/
def State.landShort (s : State) (n : Nat) (hdr : BitVec 2) : State :=
  let s := s.modHop n (fun h => { h with link := 0 })
  let s := if hdr = 1 then s.bump (hopB n + 0x328) else s
  s.modHop n (fun h => { h with resyncWait := false })

/-- Frame Start or Frame End, out of sequence where `bad` (R66). -/
def State.frame (s : State) (n : Nat) (bad isOpen : Bool) : State :=
  (if bad then s.bump (hopB n + 0x338) else s).modHop n (fun h => { h with frameOpen := isOpen })

theorem State.ctr_ite_bump {s : State} (hc : SMap.wf 0 s.ctrs = true) (k : Nat) (b : Bool) :
    (if b then s.bump k else s).ctr k = s.ctr k + BitVec.ofNat 48 b.toNat := by
  cases b
  · exact (BitVec.add_zero _).symm
  · exact State.ctr_bump_self k 1 hc

/-- What a short packet that is taken does (R66): Frame Start, Frame End, and the types that are ignored. -/
def State.shortTaken (s : State) (n : Nat) (dt : BitVec 6) : State :=
  if !shortType dt.toNat then s.bump (hopB n + 0x330)
  else if dt = 0 then s.frame n (s.hop n).frameOpen true
  else if dt = 1 then s.frame n (!(s.hop n).frameOpen) false
  else s

/-- A short packet of the port's own channel, with its header good or corrected, that waits for nothing is taken. -/
theorem execShortPacket_own {n vc : BitVec 4} {dt : BitVec 6} {hdr : BitVec 2} {s : State} (hw : SMap.wf {} s.hops = true)
    (hen : s.portEn n.toNat = true) (hhdr : hdr.toNat < 2) (hvc : vc.toNat = s.rfld (hopB (s.cfgPort n.toNat) + 0xC) 13 10)
    (hwait : dt ≠ 0 → (s.hop n.toNat).resyncWait = true → (s.reg (hopB (s.cfgPort n.toNat))).getLsbD 2 = true) :
    execShortPacket n dt vc hdr s = .next ((s.landShort n.toNat hdr).shortTaken n.toNat dt) := by
  have hh : ¬ (2 : BitVec 2) ≤ hdr := fun hle => absurd (BitVec.le_def.mp hle) (Nat.not_le.mpr hhdr)
  unfold execShortPacket
  extract_lets k s1 s2 own any wait s3 s4 s5
  have hen1 : s1.portEn n.toNat = true := hen
  have hreg : ∀ j, s2.reg j = s.reg j := State.reg_congr (by simp only [s2]; split <;> rfl)
  have hcfg : s2.cfgPort n.toNat = s.cfgPort n.toNat := State.cfgPort_congr (hreg _)
  have hself : (s2.hop n.toNat).resyncWait = (s.hop n.toNat).resyncWait := by
    have hops : s2.hops = s1.hops := by
      simp only [s2]
      split <;> rfl
    rw [State.hop_congr hops, State.modHop_hop_self hw]
  have hnot : ¬ (wait = true ∧ (!any) = true ∧ dt ≠ 0) := by
    rintro ⟨h1, h2, h3⟩
    have hany : any = true := by
      simp only [any, hcfg, hreg]
      exact hwait h3 (hself.symm.trans h1)
    rw [hany] at h2
    exact absurd h2 (by decide)
  have hown : own := by
    simp only [own, hcfg]
    rw [State.rfld_congr (hreg _)]
    exact hvc
  have hforeign : ((!decide own) = true ∨ (!shortType dt.toNat) = true) ↔ (!shortType dt.toNat) = true := by simp [hown]
  have h5 : s5 = if (!(s3.hop n.toNat).frameOpen) then s3.bump (k + 0x338) else s3 := by
    simp only [s5]
    cases (s3.hop n.toNat).frameOpen <;> rfl
  rw [if_neg (by rw [hen1]; decide), if_neg hh, if_neg hnot, if_congr hforeign rfl rfl, h5]
  rfl

/-- What a short packet that is taken leaves, before its type is looked at. -/
structure State.ShortLanded (n : Nat) (s t : State) : Prop where
  frame : t = { s with hops := t.hops, ctrs := t.ctrs }
  wf : SMap.wf {} t.hops = true
  ctrs_wf : SMap.wf 0 t.ctrs = true
  self : t.hop n = { s.hop n with link := 0, resyncWait := false }
  other : ∀ k, k ≠ n → t.hop k = s.hop k
  ctr : ∀ k, k ≠ hopB n + 0x328 → t.ctr k = s.ctr k

theorem State.landShort_landed {s : State} (hw : SMap.wf {} s.hops = true) (hc : SMap.wf 0 s.ctrs = true) (n : Nat) (hdr : BitVec 2) :
    s.ShortLanded n (s.landShort n hdr) := by
  have hw1 : SMap.wf {} (s.modHop n (fun h => { h with link := 0 })).hops = true := State.modHop_wf hw _ _
  unfold State.landShort
  extract_lets s1 s2
  have h2 : s2 = { s1 with ctrs := s2.ctrs } := by
    simp only [s2]
    split <;> rfl
  have hops : s2.hops = s1.hops := by rw [h2]
  have hw2 : SMap.wf {} s2.hops = true := by
    rw [hops]
    exact hw1
  have hhop : ∀ k, s2.hop k = s1.hop k := State.hop_congr hops
  have hcs : SMap.wf 0 s2.ctrs = true := by
    simp only [s2]
    split
    · exact SMap.wf_put hc
    · exact hc
  have hctr : ∀ k, k ≠ hopB n + 0x328 → s2.ctr k = s.ctr k := fun k hk => by
    simp only [s2]
    split
    · exact State.ctr_bump_ne _ _ hk
    · rfl
  exact {
    frame := by
      unfold State.modHop
      rw [h2]
      rfl
    wf := State.modHop_wf hw2 _ _, ctrs_wf := hcs
    self := by
      rw [State.modHop_hop_self hw2, hhop, State.modHop_hop_self hw]
    other := fun k hk => by rw [State.modHop_hop_ne _ hk, hhop, State.modHop_hop_ne _ hk]
    ctr := hctr }

/-- Frame Start and Frame End open or close the frame, and count what is out of sequence. -/
theorem State.ShortLanded.frame_spec {n : Nat} {s t : State} (h : s.ShortLanded n t) (bad isOpen : Bool) :
    t.frame n bad isOpen = { s with hops := (t.frame n bad isOpen).hops, ctrs := (t.frame n bad isOpen).ctrs } ∧
    (t.frame n bad isOpen).hop n = { s.hop n with link := 0, resyncWait := false, frameOpen := isOpen } ∧
    (∀ k, k ≠ n → (t.frame n bad isOpen).hop k = s.hop k) ∧
    (t.frame n bad isOpen).ctr (hopB n + 0x338) = s.ctr (hopB n + 0x338) + BitVec.ofNat 48 bad.toNat := by
  have hb : (if bad then t.bump (hopB n + 0x338) else t) = { t with ctrs := (if bad then t.bump (hopB n + 0x338) else t).ctrs } := by
    split <;> rfl
  have hops : (if bad then t.bump (hopB n + 0x338) else t).hops = t.hops := by rw [hb]
  have hwb : SMap.wf {} (if bad then t.bump (hopB n + 0x338) else t).hops = true := by
    rw [hops]
    exact h.wf
  have hhop : ∀ k, (if bad then t.bump (hopB n + 0x338) else t).hop k = t.hop k := State.hop_congr hops
  refine ⟨?_, ?_, fun k hk => ?_, ?_⟩
  · unfold State.frame State.modHop
    rw [hb, h.frame]
  · rw [State.frame, State.modHop_hop_self hwb, hhop, h.self]
  · rw [State.frame, State.modHop_hop_ne _ hk, hhop, h.other k hk]
  · exact (State.ctr_ite_bump h.ctrs_wf _ bad).trans (by rw [h.ctr _ (by omega)])

/-! ## The statement -/

theorem exec_packetReceive (n : BitVec 4) (p : LinkPkt) (s : State) : exec (.packetReceive n p) s = .next (s.receive n.toNat p) := rfl

theorem exec_shortPacket (n vc : BitVec 4) (dt : BitVec 6) (hdr : BitVec 2) (s : State) :
    exec (.shortPacket n dt vc hdr) s = execShortPacket n dt vc hdr s := rfl

theorem exec_linkErr (n vc : BitVec 4) (dt : BitVec 6) (wc : BitVec 16) (s : State) : exec (.linkErr n dt vc wc) s = execLinkErr n dt vc wc s := rfl

theorem exec_escErr (n : BitVec 4) (s : State) :
    exec (.escErr n) s = .next (if s.portEn n.toNat then s.bump (hopB n.toNat + 0x340) else s) := rfl

theorem exec_ulpsEntry (n : BitVec 4) (s : State) : exec (.ulpsEntry n) s = .next (s.modHop n.toNat (fun h => { h with link := 1 })) := rfl

/-- The state after a whole packet of the port's own stream that fits has entered the buffer, before the hold signal is driven. -/
def State.buffer (s : State) (n : Nat) (p : LinkPkt) (tick : Nat) : State :=
  ((s.modHop n (fun h => { h with resyncWait := false })).modHop n
    (fun h => { h with buf := h.buf ++ [{ payload := p.payload, tick := tick }] })).bump (hopB n + 0x300)

theorem State.buffer_hop_self {s : State} (hw : SMap.wf {} s.hops = true) (n : Nat) (p : LinkPkt) (tick : Nat) :
    (s.buffer n p tick).hop n = { s.hop n with resyncWait := false, buf := (s.hop n).buf ++ [{ payload := p.payload, tick := tick }] } := by
  rw [State.buffer, State.hop_congr (State.bump_hops _ _ _), State.modHop_hop_self (State.modHop_wf hw _ _), State.modHop_hop_self hw]

theorem State.buffer_hop_ne (s : State) {n k : Nat} (hk : k ≠ n) (p : LinkPkt) (tick : Nat) : (s.buffer n p tick).hop k = s.hop k := by
  rw [State.buffer, State.hop_congr (State.bump_hops _ _ _), State.modHop_hop_ne _ hk, State.modHop_hop_ne _ hk]

/-- A whole packet of the port's own stream that fits is in the buffer with its tick (R67, R72, R83). -/
theorem State.Landed.accept_spec {n : Nat} {p : LinkPkt} {s t u : State} (hn : n < 16) (h : s.Landed n p t) (tick : Nat)
    (hshort : p.short = false) (hu : u = (t.buffer n p tick).holdPin n) :
    (u.hop n).buf = (s.hop n).buf ++ [{ payload := p.payload, tick := tick }] ∧ (u.hop n).link = 0 ∧ (u.hop n).resyncWait = false ∧
      (u.hop n).items = (s.hop n).items ∧ u.reg (hopB n + 0x38) = p.arrival ∧ u.ctr (hopB n + 0x300) = s.ctr (hopB n + 0x300) + 1 ∧
      (∀ k, k ≠ n → u.hop k = s.hop k) ∧ (∀ k, k ≠ hopB n + 0x38 → u.reg k = s.reg k) ∧ u.sfms = s.sfms ∧ u.tim = s.tim ∧ u.graphs = s.graphs := by
  have hw : SMap.wf {} (t.buffer n p tick).hops = true := by
    rw [State.buffer, State.bump_hops]
    exact State.modHop_wf (State.modHop_wf h.wf _ _) _ _
  have hp : (t.buffer n p tick).Passing n n u := hu ▸ State.passing_holdPin _ n
  have hself : ((t.buffer n p tick).hop n).Passed (u.hop n) := hp.hop hw n
  rw [State.buffer_hop_self h.wf, h.self] at hself
  obtain ⟨hregs, hsfms⟩ : u.regs = t.regs ∧ u.sfms = t.sfms := hu ▸ State.holdPin_regs_sfms _ n
  have hkey : hopKey (hopB n + 0x300) ∧ ¬ lossKey n (hopB n + 0x300) := ⟨hopKey_port hn (by decide), by unfold lossKey; omega⟩
  have hctr : (t.buffer n p tick).ctr (hopB n + 0x300) = t.ctr (hopB n + 0x300) + 1 := State.ctr_bump_self (k := hopB n + 0x300) 1 h.ctrs_wf
  refine ⟨hself.buf, hself.link, hself.resyncWait, hself.items, ?_, ?_, fun k hk => ?_, fun k hk => ?_, hsfms.trans h.sfms, hp.tim.trans h.tim,
    hp.graphs.trans h.graphs⟩
  · rw [State.reg_congr hregs, h.arrival hshort]
  · rw [hp.ctr _ hkey.1 hkey.2, hctr, h.ctr _ (by omega) (by omega)]
  · rw [hp.other k hk, State.buffer_hop_ne _ hk, h.other k hk]
  · rw [State.reg_congr hregs, h.reg k hk]

/-- The drop of a packet, with the port's wait for a frame set or ended (R90). -/
theorem State.waitDropped {n cause : Nat} {t u : State} (hw : SMap.wf {} t.hops = true) (hc : SMap.wf 0 t.ctrs = true) (hn : n < 16)
    (hcause : cause < 32) (tick : Nat) (wait : Bool) (hu : u = (t.modHop n (fun h => { h with resyncWait := wait })).dropPacket n cause tick) :
    (t.modHop n (fun h => { h with resyncWait := wait })).Dropped n cause u ∧ (∀ j, (u.hop j).buf = (t.hop j).buf) ∧
      (u.hop n).resyncWait = wait ∧ (u.hop n).link = (t.hop n).link := by
  have hc1 : SMap.wf 0 (t.modHop n (fun h => { h with resyncWait := wait })).ctrs = true := hc
  have hd := State.dropPacket_dropped (State.modHop_wf hw n (fun x => { x with resyncWait := wait })) hc1 hn hcause tick
  have hb : t.SeenSame Hopper.buf (t.modHop n (fun h => { h with resyncWait := wait })) := .modHop t n (fun _ => rfl)
  rw [← hu] at hd
  refine ⟨hd, fun j => (hd.buf j).trans ((hb hw).2 j), ?_, ?_⟩
  · rw [hd.resyncWait, State.modHop_hop_self hw]
  · rw [hd.link, State.modHop_hop_self hw]

/-- The drop of a packet that has landed (R90). -/
theorem State.Landed.dropped {n cause : Nat} {p : LinkPkt} {s t u : State} (hn : n < 16) (hcause : cause < 32) (h : s.Landed n p t) (tick : Nat)
    (wait : Bool) (hu : u = (t.modHop n (fun h => { h with resyncWait := wait })).dropPacket n cause tick) :
    (∀ j, (u.hop j).buf = (s.hop j).buf) ∧ (u.hop n).timeValid = false ∧ (u.hop n).addrValid = false ∧
      u.ctr (hopB n + 0x200 + 8 * cause) = s.ctr (hopB n + 0x200 + 8 * cause) + 1 ∧
      u.ctr (hopB n + 0x300) = s.ctr (hopB n + 0x300) ∧ u.tim = s.tim ∧ u.graphs = s.graphs := by
  obtain ⟨hd, hbuf, -, -⟩ := State.waitDropped h.wf h.ctrs_wf hn hcause tick wait hu
  refine ⟨fun j => (hbuf j).trans (h.buf j), hd.timeValid, hd.addrValid, ?_, ?_, hd.tim.trans h.tim, hd.graphs.trans h.graphs⟩
  · have hk : t.ctr (hopB n + 0x200 + 8 * cause) = s.ctr (hopB n + 0x200 + 8 * cause) := h.ctr _ (by omega) (by omega)
    exact hd.counted.trans (hk ▸ rfl)
  · exact (hd.ctr _ (hopKey_port hn (by decide)) (by unfold lossKey; omega)).trans (h.ctr _ (by omega) (by omega))

/-- LINK_ERR on a port that waits for nothing drops the packet of its own stream (R63, R90). -/
theorem execLinkErr_own {n vc : BitVec 4} {dt : BitVec 6} {wc : BitVec 16} {c : Word} {s : State} (hw : SMap.wf {} s.hops = true)
    (hen : s.portEn n.toNat = true)
    (hwait : (s.hop n.toNat).resyncWait = true → (s.reg (hopB (s.cfgPort n.toNat))).getLsbD 2 = true)
    (hc : c = s.reg (hopB (s.cfgPort n.toNat) + 0xC)) (hdt : dt.toNat = fld c 19 14) (hvc : vc.toNat = fld c 13 10) :
    execLinkErr n dt vc wc s = .next (((s.modHop n.toNat (fun h => { h with link := 3 })).modHop n.toNat (fun h => { h with resyncWait := false })).dropPacket
      n.toNat (if s.pktMax n.toNat < wc.toNat then 3 else if 4096 < (s.hop n.toNat).occ + pktUnits wc.toNat then 5 else 6) s.tim.tick) := by
  subst hc
  unfold execLinkErr
  extract_lets c s1 s2
  have hen1 : s1.portEn n.toNat = true := hen
  have hself : s1.hop n.toNat = { s.hop n.toNat with link := 3 } := State.modHop_hop_self hw _ _
  have hocc : (s2.hop n.toNat).occ = (s.hop n.toNat).occ := by
    rw [State.modHop_hop_self (State.modHop_wf hw _ _), hself]
    rfl
  have hnot : ¬ ((s1.hop n.toNat).resyncWait = true ∧ (!(s1.reg (hopB (s1.cfgPort n.toNat))).getLsbD 2) = true) := by
    rw [hself]
    rintro ⟨h1, h2⟩
    have hany : (s1.reg (hopB (s1.cfgPort n.toNat))).getLsbD 2 = true := hwait h1
    rw [hany] at h2
    exact absurd h2 (by decide)
  rw [if_neg (by rw [hen1]; decide), if_neg hnot, if_neg (by simp [c, hdt, hvc]), hocc]
  rfl

/-- Settles O46: a packet on the state in which it has landed, by its checks in order; a short packet by its type. -/
theorem packetsAreReceivedOrDropped : Obligations.PacketsAreReceivedOrDropped := by
  unfold Obligations.PacketsAreReceivedOrDropped
  refine ⟨?_, ?_, ?_, ?_, ?_, ?_, ?_⟩
  case refine_1 =>
    rintro n p c s hs hst hen hsot hhdr hwait rfl hdt hvc hmax hocc hshort hcrc
    have hl := State.land_landed hs n.toNat p
    rw [exec_packetReceive, State.receive_eq_examine (State.canonical_hops hs) hst hen, hl.examine_own _ hsot hhdr hwait hdt hvc,
      State.takeOwn_accept _ (hl.pktMax _ ▸ hmax) (hl.occ.symm ▸ hocc) hshort hcrc]
    exact ⟨_, rfl, hl.accept_spec n.isLt _ hshort rfl⟩
  case refine_2 =>
    rintro n p c k s hs hst hen hsot hhdr hwait rfl hdt hvc hk hk0
    have hl := State.land_landed hs n.toNat p
    have hcause : ((s.land n.toNat p).modHop n.toNat (fun h => { h with resyncWait := false })).dropCause n.toNat p = k := by
      have hmax : ((s.land n.toNat p).modHop n.toNat (fun h => { h with resyncWait := false })).pktMax n.toNat = s.pktMax n.toNat := hl.pktMax _
      rw [hk, State.dropCause, hl.occ, hmax]
    rw [exec_packetReceive, State.receive_eq_examine (State.canonical_hops hs) hst hen, hl.examine_own _ hsot hhdr hwait hdt hvc,
      State.takeOwn_drop _ (hcause.trans_ne hk0), hcause]
    obtain ⟨hbuf, htime, haddr, hcnt, h300, htim, hgraphs⟩ :=
      hl.dropped n.isLt (hcause ▸ State.dropCause_lt _ _ _) (s.stamp n.toNat p.arrival.toNat) false rfl
    exact ⟨_, rfl, hbuf _, htime, haddr, hcnt, h300, hbuf, htim, hgraphs⟩
  case refine_3 =>
    intro n p s hs hst hen hsot
    have hl := State.land_landed hs n.toNat p
    have hle : (2 : BitVec 2) ≤ p.sot := BitVec.le_def.mpr hsot
    have hexamine : ∀ c tick, (s.land n.toNat p).examine n.toNat p c tick =
        (((s.land n.toNat p).bump (hopB n.toNat + 0x320)).modHop n.toNat (fun h => { h with resyncWait := true })).dropPacket n.toNat 1 tick := fun c tick =>
      if_pos hle
    have hc : SMap.wf 0 ((s.land n.toNat p).bump (hopB n.toNat + 0x320)).ctrs = true := SMap.wf_put hl.ctrs_wf
    obtain ⟨hd, hbuf, hwait, -⟩ := State.waitDropped (t := (s.land n.toNat p).bump (hopB n.toNat + 0x320)) hl.wf hc n.isLt (cause := 1) (by decide)
      (s.stamp n.toNat p.arrival.toNat) true rfl
    have hsot1 : ((s.land n.toNat p).bump (hopB n.toNat + 0x320)).ctr (hopB n.toNat + 0x320) = s.ctr (hopB n.toNat + 0x320) + 1 := by
      rw [State.ctr_bump_self _ _ hl.ctrs_wf, hl.ctr _ (by omega) (by omega)]
      rfl
    have hloss : ((s.land n.toNat p).bump (hopB n.toNat + 0x320)).ctr (hopB n.toNat + 0x208) = s.ctr (hopB n.toNat + 0x208) := by
      rw [State.ctr_bump_ne _ _ (by omega), hl.ctr _ (by omega) (by omega)]
    rw [exec_packetReceive, State.receive_eq_examine (State.canonical_hops hs) hst hen, hexamine]
    refine ⟨_, rfl, (hbuf _).trans (hl.buf _), hwait, hd.timeValid, ?_, ?_, hd.tim.trans hl.tim⟩
    · exact (hd.ctr _ (hopKey_port n.isLt (by decide)) (by unfold lossKey; omega)).trans hsot1
    · exact hd.counted.trans (hloss ▸ rfl)
  case refine_4 =>
    intro n p s hs hst hen
    have hw := State.canonical_hops hs
    have he : s.receive n.toNat p = s.modHop n.toNat (fun h => { h with link := 0 }) := by
      unfold State.receive
      rw [if_neg (by rw [hst]; decide), if_pos (by rw [hen]; decide)]
    rw [exec_packetReceive, he]
    exact ⟨_, rfl, rfl, State.modHop_hop_self hw _ _, fun k hk => State.modHop_hop_ne _ hk _⟩
  case refine_5 =>
    intro n vc dt hdr s hs hen hhdr hvc
    have hw := State.canonical_hops hs
    have hl := State.landShort_landed hw (State.canonical_ctrs hs) n.toNat hdr
    have hopen : ((s.landShort n.toNat hdr).hop n.toNat).frameOpen = (s.hop n.toNat).frameOpen := by rw [hl.self]
    refine ⟨?_, ?_⟩
    · rintro rfl
      rw [exec_shortPacket, execShortPacket_own hw hen hhdr hvc (fun h => absurd rfl h)]
      exact ⟨_, rfl, hopen ▸ hl.frame_spec _ true⟩
    · rintro rfl hwait
      rw [exec_shortPacket, execShortPacket_own hw hen hhdr hvc (fun _ => hwait)]
      exact ⟨_, rfl, hopen ▸ hl.frame_spec _ false⟩
  case refine_6 =>
    rintro n vc dt wc c k s hs hen hwait rfl hdt hvc hk
    have hw := State.canonical_hops hs
    have hk32 : k < 32 := by
      rw [hk]
      split
      · decide
      · split <;> decide
    have hw1 : SMap.wf {} (s.modHop n.toNat (fun h => { h with link := 3 })).hops = true := State.modHop_wf hw _ _
    have hc := State.canonical_ctrs hs
    have hc1 : SMap.wf 0 (s.modHop n.toNat (fun h => { h with link := 3 })).ctrs = true := hc
    obtain ⟨hd, hbuf, -, hlink⟩ := State.waitDropped (t := s.modHop n.toNat (fun h => { h with link := 3 })) hw1 hc1 n.isLt hk32
      s.tim.tick false rfl
    have hb : s.SeenSame Hopper.buf (s.modHop n.toNat (fun h => { h with link := 3 })) := .modHop s _ (fun _ => rfl)
    rw [exec_linkErr, execLinkErr_own hw hen hwait rfl hdt hvc, ← hk]
    refine ⟨_, rfl, hlink.trans ?_, hd.timeValid, hd.addrValid, hd.counted, fun j => (hbuf j).trans ((hb hw).2 j), hd.tim⟩
    rw [State.modHop_hop_self hw]
  case refine_7 =>
    intro n s hs
    have hw := State.canonical_hops hs
    refine ⟨fun hen => ?_, fun hen => ?_, _, exec_ulpsEntry n s, rfl, State.modHop_hop_self hw _ _, fun k hk => State.modHop_hop_ne _ hk _⟩
    · rw [exec_escErr, if_pos hen]
      exact ⟨_, rfl, rfl, State.ctr_bump_self _ _ (State.canonical_ctrs hs), fun k hk => State.ctr_bump_ne _ _ hk⟩
    · rw [exec_escErr, if_neg (by rw [hen]; decide)]

end Sys2Proof.Machine

/-! SUPPORT. The front end (R63, R68 to R85): what a packet's words leave, and what becomes of it in the port. -/
namespace Sys2Proof.Machine

/-! ## Keys of a map -/

theorem SMap.forall_key_ins {α : Type} {P : Nat → Prop} {m : SMap α} {k : Nat} {v : α} (hk : P k) (h : ∀ e ∈ m, P e.1) :
    ∀ e ∈ SMap.ins m k v, P e.1 := by
  induction m with
  | nil => simpa [SMap.ins] using hk
  | cons a r ih =>
    have ha := h a List.mem_cons_self
    have hr := fun e he => h e (List.mem_cons_of_mem _ he)
    rw [SMap.ins]
    split
    · exact List.forall_mem_cons.mpr ⟨hk, h⟩
    · split
      · exact List.forall_mem_cons.mpr ⟨hk, hr⟩
      · exact List.forall_mem_cons.mpr ⟨ha, ih hr⟩

theorem SMap.forall_key_del {α : Type} {P : Nat → Prop} {m : SMap α} {k : Nat} (h : ∀ e ∈ m, P e.1) : ∀ e ∈ SMap.del m k, P e.1 := by
  induction m with
  | nil => exact h
  | cons a r ih =>
    have hr := fun e he => h e (List.mem_cons_of_mem _ he)
    rw [SMap.del]
    split
    · exact hr
    · exact List.forall_mem_cons.mpr ⟨h a List.mem_cons_self, ih hr⟩

theorem SMap.forall_key_upd {α : Type} [DecidableEq α] {P : Nat → Prop} {d : α} {m : SMap α} {k : Nat} {f : α → α} (hk : P k)
    (h : ∀ e ∈ m, P e.1) : ∀ e ∈ SMap.upd d m k f, P e.1 := by
  unfold SMap.upd SMap.put
  split
  · exact SMap.forall_key_del h
  · exact SMap.forall_key_ins hk h

/-! ## Words and events -/

theorem Hopper.action_items (h : Hopper) (rule : Word) (w timeBits thi : Nat) : (h.action rule w timeBits thi).1.items = h.items := by
  unfold Hopper.action
  extract_lets a b c aw cw pol low
  split
  case h_2 g _ _ =>
    simp only [g]
    split <;> rfl
  all_goals rfl

theorem Hopper.decode_items (h : Hopper) (rules : List Word) (bitsW w timeBits thi : Nat) :
    (h.decode rules bitsW w timeBits thi).1.items = h.items := by
  unfold Hopper.decode
  extract_lets top
  split
  · rfl
  · exact h.action_items _ _ _ _

theorem Hopper.timeCheck_items (h : Hopper) (c : FeCfg) : (h.timeCheck c).1.items = h.items := by
  unfold Hopper.timeCheck
  split
  · rfl
  · split
    · rfl
    · extract_lets d st
      split
      · rfl
      · split
        · rfl
        · split <;> rfl

theorem Hopper.limit_items (h : Hopper) (c : FeCfg) : (h.limit c).1.items = h.items := by
  unfold Hopper.limit
  split
  · rfl
  · extract_lets lv
    split <;> rfl

/-- What the front end has made of a packet so far: the port's waiting items are untouched, what it gives lies on the sensor and
carries the packet's tick, and what it drops has a cause of Table 3.14. -/
structure FeSt.Sound (c : FeCfg) (h : Hopper) (f : FeSt) : Prop where
  waiting : f.h.items = h.items
  inside : ∀ i ∈ f.items, i.tick = c.tick ∧ i.x < c.w ∧ i.y < c.hgt
  causes : ∀ d ∈ f.drops, d.1 < 32

namespace FeSt.Sound

variable {c : FeCfg} {h : Hopper}

theorem start : FeSt.Sound c h { h := h } := ⟨rfl, nofun, nofun⟩

theorem drop {f : FeSt} (hf : f.Sound c h) {cause : Nat} (hc : cause < 32) (n : Nat) : (f.drop cause n).Sound c h :=
  
  ⟨hf.waiting, hf.inside, fun d hd => SMap.forall_key_upd (P := (· < 32)) (d := 0) (f := (· + n)) hc hf.causes d hd⟩

/-- A change of the port's decoder state and of the counts. -/
theorem port {f : FeSt} (hf : f.Sound c h) {g : Hopper} (hg : g.items = f.h.items) (evs ext rest : Nat) :
    FeSt.Sound c h { f with h := g, evs := evs, ext := ext, rest := rest } := ⟨hg.trans hf.waiting, hf.inside, hf.causes⟩

theorem event {f : FeSt} (hf : f.Sound c h) (e : Nat × Nat × Bool) : (FeSt.event c f e).Sound c h := by
  unfold FeSt.event
  extract_lets f1 t f2 l f3
  have h1 : f1.Sound c h := hf.port rfl _ _ _
  have h2 : f2.Sound c h := h1.port (Hopper.timeCheck_items _ _) _ _ _
  have h3 : f3.Sound c h := h2.port (Hopper.limit_items _ _) _ _ _
  split
  · exact h1.drop (by decide) 1
  next hin =>
    split
    · exact h2.drop (by decide) 1
    · split
      · exact h2.drop (by decide) 1
      · split
        · refine ⟨h3.waiting, fun i hi => ?_, h3.causes⟩
          obtain hi | hi := List.mem_append.mp hi
          · exact h3.inside i hi
          · rw [List.mem_singleton.mp hi]
            exact ⟨rfl, Nat.lt_of_not_le (not_or.mp hin).1, Nat.lt_of_not_le (not_or.mp hin).2⟩
        · exact h3.drop (by decide) 1

theorem foldl {α : Type} {g : FeSt → α → FeSt} (hg : ∀ f a, FeSt.Sound c h f → (g f a).Sound c h) (l : List α) {f : FeSt} (hf : f.Sound c h) :
    (l.foldl g f).Sound c h := by
  induction l generalizing f with
  | nil => exact hf
  | cons a r ih => exact ih (hg f a hf)

theorem word (rules : List Word) (bitsW thi : Nat) {f : FeSt} (hf : f.Sound c h) (w : Nat) : (FeSt.word c rules bitsW thi f w).Sound c h := by
  unfold FeSt.word
  extract_lets d f1
  have h1 : f1.Sound c h := hf.port (Hopper.decode_items _ _ _ _ _ _) _ _ _
  split
  · exact h1.drop (by decide) 1
  · split
    · exact h1.drop (by decide) _
    · exact foldl (fun _ e hf => hf.event e) _ h1

end FeSt.Sound

/-! ## A decoded packet in its port -/

/-- Items in order to the ports that hold their addresses (R75). -/
def State.placeItems (s : State) (n w : Nat) (l : List HItem) : State :=
  l.foldl (fun s i => s.modHop (s.place n (i.y * w + i.x)).1 (fun h => { h with items := h.items ++ [i] })) s

/-- On a port that is not paired they all wait at the port itself. -/
theorem State.placeItems_spec {n : Nat} (w : Nat) (l : List HItem) {s : State} (hp : s.paired n = false) (hw : SMap.wf {} s.hops = true) :
    s.placeItems n w l = { s with hops := (s.placeItems n w l).hops } ∧ SMap.wf {} (s.placeItems n w l).hops = true ∧
      (s.placeItems n w l).hop n = { s.hop n with items := (s.hop n).items ++ l } ∧ ∀ k, k ≠ n → (s.placeItems n w l).hop k = s.hop k := by
  induction l generalizing s with
  | nil => exact ⟨rfl, hw, by rw [List.append_nil]; rfl, fun _ _ => rfl⟩
  | cons i r ih =>
    have hplace : ∀ a, s.place n a = (n, a) := fun a => by rw [State.place, hp]; rfl
    have hstep : s.placeItems n w (i :: r) = (s.modHop n (fun h => { h with items := h.items ++ [i] })).placeItems n w r := by
      unfold State.placeItems
      rw [List.foldl_cons, hplace]
    obtain ⟨hf, hwf, hself, hne⟩ := ih (s := s.modHop n (fun h => { h with items := h.items ++ [i] })) hp (State.modHop_wf hw _ _)
    rw [hstep]
    refine ⟨hf.trans ?_, hwf, ?_, fun k hk => ?_⟩
    · rfl
    · rw [hself, State.modHop_hop_self hw, List.append_assoc, List.singleton_append]
    · rw [hne k hk, State.modHop_hop_ne _ hk]

theorem State.passing_toRing (s : State) (n : Nat) (l : List HItem) : s.Passing n n (s.toRing n l) := by
  unfold State.toRing
  exact .ite (.refl s) (.modHop s (fun _ => ⟨rfl⟩))

theorem ringStatus_ne_ctl (n m : Nat) : hopB n + 0x48 ≠ hopB m := by
  unfold hopB
  omega

/-- The port after what its words gave has been placed, before the losses are marked. -/
def State.decoded (s : State) (n : Nat) (rest : List BufPkt) (f : FeSt) : State :=
  (((s.modHop n (fun _ => { f.h with buf := rest })).bump (hopB n + 0x308) f.evs).bump (hopB n + 0x348) f.ext).placeItems n (s.geomW n) f.items

/-- Losses, counts of the slipcase and the hold signal of a port, after a packet of that tick has been decoded (R47, R74, R85). -/
def State.afterDecode (s : State) (n tick : Nat) (f : FeSt) : State :=
  let s := if (s.reg (hopB (s.cfgPort n))).getLsbD 6 then s.toRing (s.cfgPort n) f.items else s
  let s := if f.rest = 0 then s else ((s.portLoss n 0x11 f.rest tick).orReg (hopB n + 0x48) 8).alarm 0x102 (0x44 + n) (s.portSlip n)
  let s := f.drops.foldl (fun s d => s.portLoss n d.1 d.2 tick) s
  let s := if s.portSlip n < 64 then
      s.modSlip (s.portSlip n) (fun x => (x.count 0 f.items.length).count 1 ((f.drops.map (·.2)).foldl (· + ·) 0))
    else s
  s.holdPin n

theorem State.passing_afterDecode {s : State} {n : Nat} (hn : n < 16) (hg : s.cfgPort n = n) (tick : Nat) {f : FeSt} (hf : ∀ d ∈ f.drops, d.1 < 32) :
    s.Passing n n (s.afterDecode n tick f) := by
  have hloss : ∀ {u : State} {cause : Nat}, u.cfgPort n = n → cause < 32 → ∀ cnt, u.Passing n n (u.portLoss n cause cnt tick) :=
      fun {u} {cause} hu hc cnt => by
    have h := u.passing_portLoss n hc cnt tick
    rwa [hu] at h
  unfold State.afterDecode
  extract_lets s1 s2 s3 s4
  have h1 : s.Passing n n s1 := by
    simp only [s1]
    rw [hg]
    exact .ite (s.passing_toRing n _) (.refl s)
  have h2 : s.Passing n n s2 := by
    have hl := hloss ((h1.cfgPort hn).trans hg) (cause := 0x11) (by decide) f.rest
    exact .ite h1 (((h1.trans hl).trans (.orReg _ (ringStatus_ne_ctl n) 8)).trans (.alarm _ _ _ _ _))
  have h3 : s.Passing n n s3 := by
    have hd : ∀ (l : List (Nat × Nat)) (u : State), (∀ d ∈ l, d.1 < 32) → s.Passing n n u → s.Passing n n (l.foldl (fun s d => s.portLoss n d.1 d.2 tick) u) := by
      intro l
      induction l with
      | nil => exact fun u _ hu => hu
      | cons d r ih =>
        exact fun u hl hu => ih _ (fun e he => hl e (List.mem_cons_of_mem _ he))
          (hu.trans (hloss ((hu.cfgPort hn).trans hg) (hl d List.mem_cons_self) d.2))
    exact hd f.drops s2 hf h2
  exact (State.Passing.ite (h3.trans (.modSlip _ _ _)) h3).trans (State.passing_holdPin _ n)

/-- What the words of a packet give (R68 to R81). -/
def State.decodeWords (s : State) (n : Nat) (p : BufPkt) : FeSt :=
  (words (s.wordBits n / 8) ((s.reg (hopB (s.cfgPort n) + 0x10)).getLsbD 7) p.payload.length p.payload).foldl
    (FeSt.word (s.feCfg n p.tick) (s.rules n) (s.wordBits n) (s.rfld (hopB (s.cfgPort n) + 0x10) 17 12)) { h := s.hop n }

/-- The same with the packet's trailing bytes dropped (R68). -/
def State.decodePacket (s : State) (n : Nat) (p : BufPkt) : FeSt :=
  if p.payload.length % (s.wordBits n / 8) = 0 then s.decodeWords n p else (s.decodeWords n p).drop 7

theorem State.decodeWords_sound (s : State) (n : Nat) (p : BufPkt) : (s.decodeWords n p).Sound (s.feCfg n p.tick) (s.hop n) :=
  FeSt.Sound.foldl (fun _ w hf => hf.word _ _ _ w) _ .start

/-- Trailing bytes are counted; what the words gave stays. -/
theorem State.decodePacket_eq (s : State) (n : Nat) (p : BufPkt) :
    s.decodePacket n p = { s.decodeWords n p with drops := (s.decodePacket n p).drops } := by
  unfold State.decodePacket
  split <;> rfl

theorem State.decodePacket_causes (s : State) (n : Nat) (p : BufPkt) : ∀ d ∈ (s.decodePacket n p).drops, d.1 < 32 := by
  unfold State.decodePacket
  split
  · exact (s.decodeWords_sound n p).causes
  · exact ((s.decodeWords_sound n p).drop (by decide) 1).causes

theorem State.frontEnd_eq {s : State} {n : Nat} {p : BufPkt} {rest : List BufPkt} (hbuf : (s.hop n).buf = p :: rest) :
    s.frontEnd n = (s.decoded n rest (s.decodePacket n p)).afterDecode n p.tick (s.decodePacket n p) := by
  unfold State.frontEnd
  rw [hbuf]
  rfl

/-- What placing a packet's items leaves at a port that is not paired. -/
theorem State.decoded_spec {s : State} {n : Nat} (hs : s.canonical = true) (hp : s.paired n = false) (rest : List BufPkt) (f : FeSt) :
    SMap.wf {} (s.decoded n rest f).hops = true ∧ (s.decoded n rest f).regs = s.regs ∧
      (s.decoded n rest f).hop n = { f.h with buf := rest, items := f.h.items ++ f.items } ∧ (∀ k, k ≠ n → (s.decoded n rest f).hop k = s.hop k) ∧
      (s.decoded n rest f).tim = s.tim ∧ (s.decoded n rest f).graphs = s.graphs ∧
      (s.decoded n rest f).ctr (hopB n + 0x308) = s.ctr (hopB n + 0x308) + BitVec.ofNat 48 f.evs ∧
      (s.decoded n rest f).ctr (hopB n + 0x348) = s.ctr (hopB n + 0x348) + BitVec.ofNat 48 f.ext := by
  have hw := State.canonical_hops hs
  have hc := State.canonical_ctrs hs
  have hw1 : SMap.wf {} (s.modHop n (fun _ => { f.h with buf := rest })).hops = true := State.modHop_wf hw _ _
  have hc1 : SMap.wf 0 (s.modHop n (fun _ => { f.h with buf := rest })).ctrs = true := hc
  have hctr1 : ∀ k, (s.modHop n (fun _ => { f.h with buf := rest })).ctr k = s.ctr k := fun _ => rfl
  have hp1 : (s.modHop n (fun _ => { f.h with buf := rest })).paired n = false := hp
  have hself1 : (s.modHop n (fun _ => { f.h with buf := rest })).hop n = { f.h with buf := rest } := State.modHop_hop_self hw _ _
  have hne1 : ∀ k, k ≠ n → (s.modHop n (fun _ => { f.h with buf := rest })).hop k = s.hop k := fun k hk => State.modHop_hop_ne _ hk _
  have hrest1 : (s.modHop n (fun _ => { f.h with buf := rest })).regs = s.regs ∧ (s.modHop n (fun _ => { f.h with buf := rest })).tim = s.tim ∧
    (s.modHop n (fun _ => { f.h with buf := rest })).graphs = s.graphs := ⟨rfl, rfl, rfl⟩
  unfold State.decoded
  generalize s.modHop n (fun _ => { f.h with buf := rest }) = u at *
  obtain ⟨hregs, htim, hgraphs⟩ := hrest1
  have hcb : SMap.wf 0 (u.bump (hopB n + 0x308) f.evs).ctrs = true := SMap.wf_put hc1
  have hhop : ∀ k, ((u.bump (hopB n + 0x308) f.evs).bump (hopB n + 0x348) f.ext).hop k = u.hop k := State.hop_congr rfl
  obtain ⟨hf, hwf, hself, hne⟩ := State.placeItems_spec (s := (u.bump (hopB n + 0x308) f.evs).bump (hopB n + 0x348) f.ext) (s.geomW n) f.items hp1 hw1
  have hctr : ∀ k, (((u.bump (hopB n + 0x308) f.evs).bump (hopB n + 0x348) f.ext).placeItems n (s.geomW n) f.items).ctr k =
      ((u.bump (hopB n + 0x308) f.evs).bump (hopB n + 0x348) f.ext).ctr k := fun k => by rw [hf]; rfl
  refine ⟨hwf, ?_, ?_, fun k hk => ?_, ?_, ?_, ?_, ?_⟩
  · rw [hf]
    exact hregs
  · rw [hself, hhop, hself1]
  · rw [hne k hk, hhop, hne1 k hk]
  · rw [hf]
    exact htim
  · rw [hf]
    exact hgraphs
  · rw [hctr, State.ctr_bump_ne _ _ (by omega), State.ctr_bump_self _ _ hc1, hctr1]
  · rw [hctr, State.ctr_bump_self _ _ hcb, State.ctr_bump_ne _ _ (by omega), hctr1]

theorem State.cfgPort_of_unpaired {s : State} {n : Nat} (h : s.paired n = false) : s.cfgPort n = n := by
  rw [State.cfgPort, h]
  rfl

/-- The oldest packet leaves the buffer, and what its words gave is in the port (R63, R69, R70). -/
theorem State.frontEnd_spec {s t : State} {n : Nat} {p : BufPkt} {rest : List BufPkt} {f : FeSt} (hn : n < 16) (hs : s.canonical = true)
    (hp : s.paired n = false) (hbuf : (s.hop n).buf = p :: rest) (hf : f = s.decodeWords n p) (ht : t = s.frontEnd n) :
    (t.hop n).buf = rest ∧ (t.hop n).items = (s.hop n).items ++ f.items ∧ (t.hop n).stime = f.h.stime ∧
      (t.hop n).timeValid = f.h.timeValid ∧ (t.hop n).yCur = f.h.yCur ∧ (t.hop n).xBase = f.h.xBase ∧ (t.hop n).level = f.h.level ∧
      t.ctr (hopB n + 0x308) = s.ctr (hopB n + 0x308) + BitVec.ofNat 48 f.evs ∧ t.ctr (hopB n + 0x348) = s.ctr (hopB n + 0x348) + BitVec.ofNat 48 f.ext ∧
      (∀ i ∈ f.items, i.tick = p.tick ∧ i.x < s.geomW n ∧ i.y < s.geomH n) ∧ (∀ k, k ≠ n → t.hop k = s.hop k) ∧ t.tim = s.tim ∧ t.graphs = s.graphs := by
  have hsound := s.decodeWords_sound n p
  have hkey : ∀ o, 0x300 ≤ o → o < 0x350 → hopKey (hopB n + o) ∧ ¬ lossKey n (hopB n + o) := fun o h1 h2 =>
    ⟨hopKey_port hn (by omega), by unfold lossKey; omega⟩
  obtain ⟨hw, hregs, hself, hne, htim, hgraphs, hevs, hext⟩ := State.decoded_spec hs hp rest (s.decodePacket n p)
  have hg : (s.decoded n rest (s.decodePacket n p)).cfgPort n = n :=
    (State.cfgPort_congr (State.reg_congr hregs _)).trans (State.cfgPort_of_unpaired hp)
  have hpass : (s.decoded n rest (s.decodePacket n p)).Passing n n t := by
    rw [ht, State.frontEnd_eq hbuf]
    exact State.passing_afterDecode hn hg p.tick (s.decodePacket_causes n p)
  have hpassed := hpass.hop hw n
  rw [hself, State.decodePacket_eq, ← hf] at hpassed
  have hcounts : (s.decodePacket n p).evs = f.evs ∧ (s.decodePacket n p).ext = f.ext := by
    rw [State.decodePacket_eq, ← hf]
    exact ⟨rfl, rfl⟩
  rw [hcounts.1] at hevs
  rw [hcounts.2] at hext
  rw [← hf] at hsound
  refine ⟨hpassed.buf, hpassed.items.trans (hsound.waiting ▸ rfl), hpassed.stime, hpassed.timeValid, hpassed.yCur, hpassed.xBase, hpassed.level, ?_, ?_,
    hsound.inside, fun k hk => (hpass.other k hk).trans (hne k hk), hpass.tim.trans htim, hpass.graphs.trans hgraphs⟩
  · obtain ⟨h1, h2⟩ := hkey 0x308 (by decide) (by decide)
    exact (hpass.ctr _ h1 h2).trans hevs
  · obtain ⟨h1, h2⟩ := hkey 0x348 (by decide) (by decide)
    exact (hpass.ctr _ h1 h2).trans hext

theorem exec_frontEndDecode (n : BitVec 4) (s : State) : exec (.frontEndDecode n) s = .next (s.frontEnd n.toNat) := rfl

theorem State.frontEnd_empty {s : State} {n : Nat} (h : (s.hop n).buf = []) : s.frontEnd n = s := by
  unfold State.frontEnd
  rw [h]

end Sys2Proof.Machine

/-! SUPPORT. The item pipeline (R78, R79, R85, R86, R98, R100), the spill queues and the cell map, and the statement about items in a Hopper. -/
namespace Sys2Proof.Machine

/-! ## Surface entries (R98, R100, R101) -/

namespace Sfm

theorem rwb_epochs (x : Sfm) (l n : Nat) : (x.epochs l n).rwb = x.rwb := by
  induction n generalizing x with
  | zero => rfl
  | succ m ih => exact ih _

theorem convertBeat_current (f : Sfm) (b : Nat) : (f.convertBeat b).current b = true := by
  unfold Sfm.convertBeat
  split
  next hc => simp [Sfm.current, hc]
  next d hc =>
    split
    next hd => simp [Sfm.current, hc, hd]
    · exact SMap.get_ins_self _ _ _ _

theorem convertBeat_clearing (f : Sfm) (b : Nat) : (f.convertBeat b).clearing = f.clearing := by
  unfold Sfm.convertBeat
  split
  · rfl
  · split <;> rfl

theorem convertBeat_entries_wf {f : Sfm} (h : SMap.wf 0x7FFF f.entries = true) (b : Nat) : SMap.wf 0x7FFF (f.convertBeat b).entries = true := by
  unfold Sfm.convertBeat
  split
  · exact h
  · split
    · exact h
    · dsimp only
      exact SMap.wf_mapAll h

/-- An entry that has been written reads as what was written. -/
theorem read_write_self {f : Sfm} (hc : f.clearing = false) (hw : SMap.wf 0x7FFF f.entries = true) (i : Nat) (v : BitVec 16) :
    (f.write i v).read i = v := by
  have hclear : (f.write i v).clearing = false := (f.convertBeat_clearing (i / 16)).trans hc
  have hcur : (f.write i v).current (i / 16) = true := f.convertBeat_current (i / 16)
  have hget : SMap.get 0x7FFF (f.write i v).entries i = v := SMap.get_put_self (convertBeat_entries_wf hw _)
  unfold Sfm.read Sfm.stored
  rw [if_neg (by rw [hclear]; decide), if_pos hcur, hget]

namespace SameTimes

variable {x y : Sfm} (h : x.SameTimes y)
include h

theorem clearing : y.clearing = x.clearing := by rw [h.eq]

theorem entries : y.entries = x.entries := by rw [h.eq]

theorem epoch : y.epoch = x.epoch := by rw [h.eq]

theorem read (i : Nat) : y.read i = x.read i := by
  rw [h.eq]
  rfl

end SameTimes

end Sfm

theorem State.canonical_sfms {s : State} (h : s.canonical = true) : SMap.wf {} s.sfms = true := by
  simp only [State.canonical, Bool.and_eq_true] at h
  simp only [h]

/-- The regions' epochs are brought up to a tick (R99): nothing else changes, and no record of a recent write. -/
theorem State.surfAt_frame (s : State) (r k : Nat) : s.surfAt r k = { s with sfms := (s.surfAt r k).sfms } := by
  unfold State.surfAt
  split
  · rfl
  · extract_lets l f e
    split <;> exact State.foldl_modSfm_frame _ _ _

theorem State.surfAt_rwb {s : State} (hw : SMap.wf {} s.sfms = true) (r k : Nat) :
    SMap.wf {} (s.surfAt r k).sfms = true ∧ ∀ j, ((s.surfAt r k).sfm j).rwb = (s.sfm j).rwb := by
  have hmod : ∀ {g : Sfm → Sfm}, (∀ x, (g x).rwb = x.rwb) → ∀ (l : List Nat) {u : State}, SMap.wf {} u.sfms = true →
      SMap.wf {} (l.foldl (fun s i => s.modSfm i g) u).sfms = true ∧ ∀ j, ((l.foldl (fun s i => s.modSfm i g) u).sfm j).rwb = (u.sfm j).rwb := by
    intro g hg l
    induction l with
    | nil => exact fun hu => ⟨hu, fun _ => rfl⟩
    | cons i r ih =>
      intro u hu
      obtain ⟨h1, h2⟩ := ih (u := u.modSfm i g) (SMap.wf_upd hu)
      refine ⟨h1, fun j => (h2 j).trans ?_⟩
      unfold State.sfm State.modSfm
      by_cases hj : j = i
      · subst hj
        rw [SMap.get_upd_self hu]
        exact hg _
      · rw [SMap.get_upd_ne hj]
  unfold State.surfAt
  split
  · exact ⟨hw, fun _ => rfl⟩
  · extract_lets l f e
    split
    · exact hmod (fun x => x.rwb_epochs _ _) _ hw
    · exact hmod (g := fun x => { x with pendEpochs := e - f.epoch }) (fun _ => rfl) _ hw

/-! ## The entry of an item -/

/-- The entry of an item whose surface time lies r after the base, over an old entry (R98). -/
def entryWord (pol : Bool) (old : BitVec 16) (r : Nat) : BitVec 16 :=
  BitVec.ofNat 16 ((pol || (!dtStale old && decide (old.toNat % 2 ^ 15 = r) && old.getLsbD 15)).toNat * 2 ^ 15 + r % 2 ^ 15)

theorem State.modSfm_wf {s : State} (hw : SMap.wf {} s.sfms = true) (n : Nat) (g : Sfm → Sfm) : SMap.wf {} (s.modSfm n g).sfms = true :=
  SMap.wf_upd hw

theorem State.modSfm_sfm_self {s : State} (hw : SMap.wf {} s.sfms = true) (n : Nat) (g : Sfm → Sfm) : (s.modSfm n g).sfm n = g (s.sfm n) :=
  SMap.get_upd_self hw

/-- An entry is not written, the early item is counted, or a region is changed after what leaves the beat has left it. -/
theorem State.writeEntryDt_cases (s : State) (n : Nat) (i : HItem) :
    s.writeEntryDt n i = s ∨ s.writeEntryDt n i = s.bump (sfmP (s.cfgPort n) + 0x148) ∨
      ∃ p b g, s.writeEntryDt n i = (s.preWrite p b i.tick).modSfm p g := by
  unfold State.writeEntryDt
  dsimp only
  split
  · exact .inl rfl
  · split
    · exact .inr (.inl rfl)
    · exact .inr (.inr ⟨_, _, _, rfl⟩)

/-- The write of an entry touches no port, and no register or counter of one. -/
theorem State.writeEntryDt_ports (s : State) (n : Nat) (i : HItem) :
    (s.writeEntryDt n i).hops = s.hops ∧ (∀ k, hopKey k → (s.writeEntryDt n i).reg k = s.reg k) ∧
      (∀ k, hopKey k → (s.writeEntryDt n i).ctr k = s.ctr k) := by
  obtain h | h | ⟨p, b, g, h⟩ := s.writeEntryDt_cases n i
  · rw [h]
    exact ⟨rfl, fun _ _ => rfl, fun _ _ => rfl⟩
  · have hb := State.Beside.bump_sfm s (s.cfgPort n) 0x148 1
    rw [h]
    exact ⟨hb.hops, hb.reg, hb.ctr⟩
  · have hb := s.beside_preWrite p b i.tick
    generalize s.preWrite p b i.tick = u at h hb
    rw [h]
    exact ⟨hb.hops, hb.reg, hb.ctr⟩

/-- While the surface is enabled, the item's entry is written (R98, R100). -/
theorem State.writeEntryDt_read {s : State} {n u : Nat} {i : HItem} (hp : s.paired n = false) (hw : SMap.wf {} s.sfms = true)
    (hen : s.surfEn n = true) (hu : s.surfTick n i.tick = some u) (hcl : (s.sfm n).clearing = false)
    (he : SMap.wf 0x7FFF (s.sfm n).entries = true) :
    SMap.wf {} (s.writeEntryDt n i).sfms = true ∧ ((s.writeEntryDt n i).sfm n).read (i.y * s.geomW n + i.x) =
      entryWord i.pol ((s.sfm n).read (i.y * s.geomW n + i.x)) ((u : Int) - epochBase (s.surfL n) (s.sfm n).epoch).toNat := by
  have hg : s.cfgPort n = n := State.cfgPort_of_unpaired hp
  have hplace : s.place n (i.y * s.geomW n + i.x) = (n, i.y * s.geomW n + i.x) := by rw [State.place, hp]; rfl
  unfold State.writeEntryDt
  dsimp only
  rw [hg, hu, hplace, if_neg (by rw [hen]; decide)]
  dsimp only
  obtain ⟨hw1, hsame⟩ := (s.beside_preWrite n ((i.y * s.geomW n + i.x) / 16) i.tick).sfms hw
  have hn := hsame n
  generalize s.preWrite n ((i.y * s.geomW n + i.x) / 16) i.tick = t at hw1 hn ⊢
  have hwrite : ∀ v, ((t.sfm n).write (i.y * s.geomW n + i.x) v).read (i.y * s.geomW n + i.x) = v :=
    Sfm.read_write_self (hn.clearing.trans hcl) (hn.entries ▸ he) _
  refine ⟨State.modSfm_wf hw1 _ _, ?_⟩
  rw [State.modSfm_sfm_self hw1, hn.read, hn.epoch]
  split
  · exact hwrite _
  · exact hwrite _

/-! ## The channels of a port (R85, R86) -/

/-- A channel after an item has been handed to it: the event ring's are handed over when the tick closes. -/
def HChan.given (c : HChan) (i : HItem) : HChan :=
  let p := if c.consumer = .evring then (c, false) else (c.placeGaps i.tick).offer (eventWord i) i.tick
  if p.2 then p.1.lose 0xE 1 i.tick else p.1

theorem HChan.placeGaps_clean {c : HChan} (h : c.lost = []) (t : Nat) : c.placeGaps t = c := by
  unfold HChan.placeGaps HChan.gapKeys
  rw [h]
  rfl

/-- A channel with room takes the item at its back. -/
theorem HChan.given_room {c : HChan} {i : HItem} (hc : c.consumer ≠ .evring) (hl : c.lost = []) (hs : c.spill = []) (hr : 2 ≤ c.ribbon.credits) :
    c.given i = { c with ribbon := c.ribbon.write (eventWord i), lastTick := max c.lastTick i.tick } := by
  have hroom : c.spill.isEmpty = true ∧ 2 ≤ c.ribbon.credits := ⟨by rw [hs]; rfl, hr⟩
  have ho : c.offer (eventWord i) i.tick = ({ c with ribbon := c.ribbon.write (eventWord i), lastTick := max c.lastTick i.tick }, false) :=
    if_pos hroom
  unfold HChan.given
  rw [if_neg hc, HChan.placeGaps_clean hl, ho]
  rfl

/-- Waiting items move into the ribbon in order, as far as credits last. -/
theorem HChan.drainSpill_spec (c : HChan) :
    c.drainSpill.ribbon.items ++ c.drainSpill.spill = c.ribbon.items ++ c.spill ∧ c.drainSpill.consumer = c.consumer ∧
      (c.drainSpill.spill = [] ∨ c.drainSpill.ribbon.credits ≤ 1) := by
  have hitems : c.drainSpill.ribbon.items = c.ribbon.items ++ c.spill.take (min c.spill.length (c.ribbon.credits - 1)) := rfl
  have hspill : c.drainSpill.spill = c.spill.drop (min c.spill.length (c.ribbon.credits - 1)) := rfl
  refine ⟨?_, rfl, ?_⟩
  · rw [hitems, hspill, List.append_assoc, List.take_append_drop]
  · by_cases h : c.spill.length ≤ c.ribbon.credits - 1
    · left
      rw [hspill, Nat.min_eq_left h, List.drop_length]
    · right
      rw [Ribbon.credits, hitems, List.length_append, List.length_take]
      unfold Ribbon.credits at h ⊢
      omega

/-! ## What is beside a port and its losses -/

/-- t is s but for what lies beside the ports, and for the counts and the error bits of the losses of the port n. -/
structure State.Apart (n : Nat) (s t : State) : Prop where
  hops : t.hops = s.hops
  ctr : ∀ k, hopKey k → ¬ lossKey n k → t.ctr k = s.ctr k
  sfms : SMap.wf {} s.sfms = true → SMap.wf {} t.sfms = true ∧ ∀ j, (s.sfm j).SameTimes (t.sfm j)

namespace State.Apart

variable {n : Nat}

theorem of_beside {s t : State} (h : s.Beside t) : s.Apart n t := ⟨h.hops, fun k hk _ => h.ctr k hk, h.sfms⟩

theorem trans {s t u : State} (h1 : s.Apart n t) (h2 : t.Apart n u) : s.Apart n u where
  hops := h2.hops.trans h1.hops
  ctr k hk hl := (h2.ctr k hk hl).trans (h1.ctr k hk hl)
  sfms hw := by
    obtain ⟨hwt, ht⟩ := h1.sfms hw
    obtain ⟨hwu, hu⟩ := h2.sfms hwt
    exact ⟨hwu, fun j => (ht j).trans (hu j)⟩

theorem ite {s a b : State} {c : Prop} [Decidable c] (ha : s.Apart n a) (hb : s.Apart n b) : s.Apart n (if c then a else b) := by
  split
  · exact ha
  · exact hb

theorem bump (s : State) {k : Nat} (h : lossKey n k) (m : Nat) : s.Apart n (s.bump k m) where
  hops := rfl
  ctr _ _ hl := s.ctr_bump_ne m (fun e => hl (e ▸ h))
  sfms hw := ⟨hw, fun _ => .refl _⟩

theorem orReg (s : State) (k : Nat) (m : Word) : s.Apart n (s.orReg k m) where
  hops := State.orReg_hops _ _ _
  ctr _ _ _ := rfl
  sfms hw := by
    unfold State.sfm
    rw [State.orReg_sfms]
    exact ⟨hw, fun _ => .refl _⟩

end State.Apart

theorem State.beside_fault (s : State) (source cause slip info : Nat) : s.Beside (s.fault source cause slip info) := s.beside_faultFull _ _

/-- An item is handed to the channels of a port that is its own (R86): beside them, losses are counted and the derived units take it. -/
theorem State.fanOut_spec {s : State} {n : Nat} (hg : s.cfgPort n = n) (i : HItem) :
    ∃ g : Hopper → Hopper, (∀ x : Hopper, x.Passed (g x)) ∧ (g (s.hop n)).chans = (s.hop n).chans.map (·.given i) ∧
      (s.modHop n g).Apart n (s.fanOut n i) := by
  unfold State.fanOut
  rw [hg]
  extract_lets p res chans drops bad s1 s2 s3
  have hchans : chans = (s.hop n).chans.map (·.given i) := by
    simp only [chans, res, List.map_map]
    rfl
  have h1 : s1.Apart n s2 := .bump s1 (lossKey_cause n (cause := 0xE) (by decide)) drops
  have h3 : s1.Apart n s3 := .ite h1 (h1.trans ((State.Apart.orReg s2 _ _).trans (.of_beside (State.beside_fault _ _ _ _ _))))
  exact ⟨_, fun x => ⟨rfl⟩, hchans, h3.trans (.of_beside (.modSfm s3 _ (fun _ => ⟨rfl⟩)))⟩

/-- Items for the event ring wait in its channel alone (R47). -/
theorem State.toRing_chans {s : State} (hw : SMap.wf {} s.hops = true) (n : Nat) (l : List HItem) {j : Nat} {c : HChan}
    (hj : (s.hop n).chans[j]? = some c) (hc : c.consumer ≠ .evring) : ((s.toRing n l).hop n).chans[j]? = some c := by
  unfold State.toRing
  split
  · exact hj
  · extract_lets w add
    rw [State.modHop_hop_self hw]
    simp only [List.getElem?_map, hj, Option.map_some, if_neg hc]

theorem State.toRing_sfms (s : State) (n : Nat) (l : List HItem) : (s.toRing n l).sfms = s.sfms := by
  unfold State.toRing
  split <;> rfl

/-! ## The pipeline -/

/-- The state in which the entry of a passing item has been written. -/
def State.entered (s : State) (n : Nat) (i : HItem) : State := (s.bump (hopB n + 0x310)).writeEntryDt n i

/-- A passing item is counted, written and handed to every channel (R78, R86, R98). -/
def State.handOut (s : State) (n : Nat) (i : HItem) : State :=
  let t := (s.entered n i).fanOut n i
  if (t.reg (hopB n)).getLsbD 6 then t else t.toRing n [i]

theorem State.handOut_spec {s t : State} {n : Nat} (hn : n < 16) (hp : s.paired n = false) (hw : SMap.wf {} s.hops = true)
    (hc : SMap.wf 0 s.ctrs = true) (i : HItem) (ht : t = s.handOut n i) :
    (t.hop n).items = (s.hop n).items ∧ (∀ k, k ≠ n → t.hop k = s.hop k) ∧ t.ctr (hopB n + 0x310) = s.ctr (hopB n + 0x310) + 1 ∧
      (∀ (j : Nat) (c : HChan), (s.hop n).chans[j]? = some c → (c.given i).consumer ≠ .evring → (t.hop n).chans[j]? = some (c.given i)) ∧
      (SMap.wf {} (s.entered n i).sfms = true → ∀ j a, (t.sfm j).read a = ((s.entered n i).sfm j).read a) := by
  have hkey : hopKey (hopB n + 0x310) ∧ ¬ lossKey n (hopB n + 0x310) := ⟨hopKey_port hn (by decide), by unfold lossKey; omega⟩
  obtain ⟨hhops, hreg, hctr⟩ := (s.bump (hopB n + 0x310)).writeEntryDt_ports n i
  have hcount : (s.entered n i).ctr (hopB n + 0x310) = s.ctr (hopB n + 0x310) + 1 := (hctr _ hkey.1).trans (State.ctr_bump_self (k := hopB n + 0x310) 1 hc)
  have hhop : ∀ k, (s.entered n i).hop k = s.hop k := State.hop_congr hhops
  have hg : (s.entered n i).cfgPort n = n :=
    (State.cfgPort_congr (hreg _ (hopKey_port (o := 0) (by omega) (by decide)))).trans (State.cfgPort_of_unpaired hp)
  have hwe : SMap.wf {} (s.entered n i).hops = true := hhops ▸ hw
  unfold State.handOut at ht
  generalize s.entered n i = w at *
  obtain ⟨g, hpassed, hchans, hapart⟩ := State.fanOut_spec hg i
  have hwf : SMap.wf {} (w.fanOut n i).hops = true := hapart.hops ▸ State.modHop_wf hwe n g
  have hself : (w.fanOut n i).hop n = g (s.hop n) := by rw [State.hop_congr hapart.hops, State.modHop_hop_self hwe, hhop]
  have hring : (w.fanOut n i).Passing n n t := by
    rw [ht]
    exact .ite (.refl _) (State.passing_toRing _ n _)
  have hsfms : t.sfms = (w.fanOut n i).sfms := by
    rw [ht]
    dsimp only
    split
    · rfl
    · exact State.toRing_sfms _ _ _
  refine ⟨?_, fun k hk => ?_, ?_, fun j c hj hne => ?_, fun hs j a => ?_⟩
  · rw [(hring.hop hwf n).items, hself, (hpassed _).items]
  · rw [hring.other k hk, State.hop_congr hapart.hops, State.modHop_hop_ne _ hk, hhop]
  · exact ((hring.ctr _ hkey.1 hkey.2).trans (hapart.ctr _ hkey.1 hkey.2)).trans hcount
  · have hgiven : ((w.fanOut n i).hop n).chans[j]? = some (c.given i) := by
      rw [hself, ← hhop, hchans, List.getElem?_map, hhop, hj]
      rfl
    rw [ht]
    dsimp only
    split
    · exact hgiven
    · exact State.toRing_chans hwf n [i] hgiven hne
  · have hsame := (hapart.sfms hs).2 j
    have hsfm : t.sfm j = (w.fanOut n i).sfm j := by rw [State.sfm, State.sfm, hsfms]
    rw [hsfm, hsame.read]
    rfl

/-- Stages 6 to 8 on the oldest item, where stage 8 does not wait (R78, R79, R105). -/
theorem State.pipeline_eq {s v : State} {n : Nat} {i : HItem} {rest : List HItem} (hs : s.canonical = true) (hp : s.paired n = false)
    (hitems : (s.hop n).items = i :: rest) (hrwb : (s.crnEn n || s.flwEn n) = true → (s.sfm n).rwb.length < 4096)
    (hv : v = (s.surfAt n i.tick).modHop n (fun h => { h with items := rest })) :
    s.pipeline n = if v.refractory n i then v.bump (hopB n + 0x260)
      else if !(v.rankFilter n i).2 then (v.rankFilter n i).1.bump (hopB n + 0x268) else (v.rankFilter n i).1.handOut n i := by
  have hg : s.cfgPort n = n := State.cfgPort_of_unpaired hp
  have hen : (s.surfAt n i.tick).crnEn n = s.crnEn n ∧ (s.surfAt n i.tick).flwEn n = s.flwEn n := by
    rw [s.surfAt_frame]
    exact ⟨rfl, rfl⟩
  have hfull : ¬ (((s.surfAt n i.tick).crnEn n = true ∨ (s.surfAt n i.tick).flwEn n = true) ∧ 4096 ≤ ((s.surfAt n i.tick).sfm n).rwb.length) := by
    rw [hen.1, hen.2, (State.surfAt_rwb (State.canonical_sfms hs) n i.tick).2 n]
    rintro ⟨hor, hle⟩
    exact absurd (hrwb ((Bool.or_eq_true _ _).mpr hor)) (Nat.not_lt.mpr hle)
  have hcount : ∀ (u : State) (cause : Nat), gapCause cause = false → u.portLoss n cause 1 i.tick = u.bump (hopB n + 0x200 + 8 * cause) := fun u cause h =>
    State.portLoss_uncounted h u n i.tick (by decide)
  have hrefr : hopB n + 0x260 = hopB n + 0x200 + 8 * 0xC := by omega
  have hba : hopB n + 0x268 = hopB n + 0x200 + 8 * 0xD := by omega
  unfold State.pipeline
  rw [hitems, hg, hrefr, hba, ← hcount _ 0xC rfl, ← hcount _ 0xD rfl, hv]
  dsimp only
  rw [if_neg hfull]
  rfl

/-! ## The statement -/

theorem exec_itemPipeline (n : BitVec 4) (s : State) : exec (.itemPipeline n) s = .next (s.pipeline n.toNat) := rfl

theorem exec_spillQueueDrain (n : BitVec 4) (s : State) : exec (.spillQueueDrain n) s =
    .next (s.modHop n.toNat (fun h => { h with chans := h.chans.map (fun c => if c.consumer = .evring then c else c.drainSpill) })) := rfl

theorem exec_cellMapSweep (n : BitVec 4) (s : State) : exec (.cellMapSweep n) s =
    .next (s.modHop n.toNat (fun h => { h with cells := SMap.mapAll {} h.cells (fun _ c => c.sweep s.tim.tick) })) := rfl

theorem State.pipeline_empty {s : State} {n : Nat} (h : (s.hop n).items = []) : s.pipeline n = s := by
  unfold State.pipeline
  rw [h]

theorem State.surface_congr {s t : State} (h : t.regs = s.regs) (n : Nat) :
    t.surfEn n = s.surfEn n ∧ t.geomW n = s.geomW n ∧ t.surfL n = s.surfL n := by
  have hg : t.cfgPort n = s.cfgPort n := State.cfgPort_congr (State.reg_congr h _)
  refine ⟨?_, ?_, ?_⟩
  · rw [State.surfEn, State.surfEn, hg, State.reg_congr h]
  · rw [State.geomW, State.geomW, hg, State.rfld_congr (State.reg_congr h _)]
  · rw [State.surfL, State.surfL, State.surfMult, State.surfMult, State.surfTau, State.surfTau, hg, State.rfld_congr (State.reg_congr h _),
      State.rfld_congr (State.reg_congr h _)]

/-- An item that passes the filters (R78, R79, R86, R98, R100). -/
theorem State.handOut_passed {s v t : State} {n : Nat} {i : HItem} {rest : List HItem} (hn : n < 16) (hs : s.canonical = true)
    (hp : s.paired n = false) (hv : v = (s.surfAt n i.tick).modHop n (fun h => { h with items := rest })) (ht : t = (v.rankFilter n i).1.handOut n i) :
    (t.hop n).items = rest ∧ t.ctr (hopB n + 0x310) = s.ctr (hopB n + 0x310) + 1 ∧ (∀ k, k ≠ n → t.hop k = s.hop k) ∧
      (∀ (j : Nat) (c : HChan), (s.hop n).chans[j]? = some c → (c.given i).consumer ≠ .evring → (t.hop n).chans[j]? = some (c.given i)) ∧
      (∀ u, s.surfEn n = true → v.surfTick n i.tick = some u → (v.sfm n).clearing = false → SMap.wf 0x7FFF (v.sfm n).entries = true →
        (t.sfm n).read (i.y * s.geomW n + i.x) =
          entryWord i.pol ((v.sfm n).read (i.y * s.geomW n + i.x)) ((u : Int) - epochBase (s.surfL n) (v.sfm n).epoch).toNat) := by
  have hw := State.canonical_hops hs
  have hc := State.canonical_ctrs hs
  obtain ⟨hregs, hctrs, hhops⟩ : v.regs = s.regs ∧ v.ctrs = s.ctrs ∧ v.hops = (s.modHop n (fun h => { h with items := rest })).hops := by
    rw [hv, s.surfAt_frame]
    exact ⟨rfl, rfl, rfl⟩
  have hsfms : SMap.wf {} v.sfms = true := by
    rw [hv]
    exact (State.surfAt_rwb (State.canonical_sfms hs) n i.tick).1
  clear hv
  have hwv : SMap.wf {} v.hops = true := hhops ▸ State.modHop_wf hw n _
  have hself : v.hop n = { s.hop n with items := rest } := by rw [State.hop_congr hhops, State.modHop_hop_self hw]
  have hne : ∀ k, k ≠ n → v.hop k = s.hop k := fun k hk => by rw [State.hop_congr hhops, State.modHop_hop_ne _ hk]
  have hpv : v.paired n = false := (State.paired_congr (State.reg_congr hregs _)).trans hp
  obtain ⟨cells, hr⟩ : ∃ cells : Hopper → SMap Cell, (v.rankFilter n i).1 = v.modHop n (fun h => { h with cells := cells h }) := by
    unfold State.rankFilter
    rw [State.cfgPort_of_unpaired hpv]
    exact ⟨_, rfl⟩
  rw [hr] at ht
  have hcr : SMap.wf 0 (v.modHop n (fun h => { h with cells := cells h })).ctrs = true := hctrs ▸ hc
  obtain ⟨h1, h2, h3, h4, h5⟩ := State.handOut_spec (s := v.modHop n (fun h => { h with cells := cells h })) hn hpv (State.modHop_wf hwv _ _) hcr i ht
  rw [State.modHop_hop_self hwv, hself] at h1 h4
  refine ⟨h1, h3.trans ?_, fun k hk => ?_, h4, fun u hen hu hcl he => ?_⟩
  · have hctr : v.ctr (hopB n + 0x310) = s.ctr (hopB n + 0x310) := by rw [State.ctr, State.ctr, hctrs]
    exact hctr ▸ rfl
  · rw [h2 k hk, State.modHop_hop_ne _ hk, hne k hk]
  · obtain ⟨hsurf, hgeom, hlen⟩ : v.surfEn n = s.surfEn n ∧ v.geomW n = s.geomW n ∧ v.surfL n = s.surfL n := State.surface_congr hregs n
    have hread := State.writeEntryDt_read (s := (v.modHop n (fun h => { h with cells := cells h })).bump (hopB n + 0x310)) hpv hsfms (hsurf.trans hen) hu hcl he
    rw [← hgeom, ← hlen]
    exact (h5 hread.1 _ _).trans hread.2

/-- Settles O47: the decoder by its words, the pipeline by its two filters, the channels one by one. -/
theorem itemsPassTheHopper : Obligations.ItemsPassTheHopper := by
  unfold Obligations.ItemsPassTheHopper
  refine ⟨?_, ?_, ?_, ?_, ?_⟩
  case refine_1 =>
    intro n p rest f s hs hp hbuf hf
    have hwords : f = s.decodeWords n.toNat p := by
      rw [hf, State.decodeWords, State.cfgPort_of_unpaired hp]
    rw [exec_frontEndDecode]
    exact ⟨_, rfl, State.frontEnd_spec n.isLt hs hp hbuf hwords rfl⟩
  case refine_2 =>
    refine fun n s => ⟨fun h => ?_, fun h => ?_⟩
    · rw [exec_frontEndDecode, State.frontEnd_empty h]
    · rw [exec_itemPipeline, State.pipeline_empty h]
  case refine_3 =>
    intro n i rest s v hs hp hitems hrwb hv
    have hpipe := State.pipeline_eq hs hp hitems hrwb hv
    rw [exec_itemPipeline, hpipe]
    refine ⟨fun hr => ?_, fun hr hb => ?_, fun hr hb => ?_⟩
    · rw [if_pos hr]
    · rw [if_neg (by rw [hr]; decide), if_pos (by rw [hb]; decide)]
    · rw [if_neg (by rw [hr]; decide), if_neg (by rw [hb]; decide)]
      have htim : (s.pipeline n.toNat).tim = s.tim := State.pipeline_tim s n.toNat
      rw [hpipe, if_neg (by rw [hr]; decide), if_neg (by rw [hb]; decide)] at htim
      obtain ⟨hit, hctr, hne, hchan, hread⟩ := State.handOut_passed n.isLt hs hp hv rfl
      refine ⟨_, rfl, hit, hctr, htim, hne, fun j c hj hc hl hsp hcr => ?_, fun u old r a hen hu hcl he ha hold hr => ?_⟩
      · have hgiven := HChan.given_room (i := i) hc hl hsp hcr
        have hj' := hchan j c hj (by rw [hgiven]; exact hc)
        rw [hgiven] at hj'
        exact ⟨_, hj', rfl, rfl, hsp⟩
      · subst ha hold hr
        exact hread u hen hu hcl he
  case refine_4 =>
    intro n s hs
    have hw := State.canonical_hops hs
    rw [exec_spillQueueDrain]
    refine ⟨_, rfl, rfl, fun k hk => State.modHop_hop_ne _ hk _, ?_, ?_, fun j c hj => ?_⟩
    · rw [State.modHop_hop_self hw]
    · rw [State.modHop_hop_self hw, List.length_map]
    · rw [State.modHop_hop_self hw]
      simp only [List.getElem?_map, hj, Option.map_some, Option.some.injEq, exists_eq_left']
      split
      next he => exact ⟨rfl, rfl, fun h => absurd he h⟩
      · obtain ⟨h1, h2, h3⟩ := c.drainSpill_spec
        exact ⟨h1, h2, fun _ => h3⟩
  case refine_5 =>
    intro n s hs hcells
    have hw := State.canonical_hops hs
    rw [exec_cellMapSweep]
    refine ⟨_, rfl, rfl, fun k hk => State.modHop_hop_ne _ hk _, ?_, fun k c hc => ?_⟩
    · rw [State.modHop_hop_self hw]
    · rw [State.modHop_hop_self hw, hc]
      exact SMap.get_mapAll (f := fun _ c => c.sweep s.tim.tick) (fun _ => rfl) hcells k

end Sys2Proof.Machine

/-! SUPPORT. Surfaces (R97 to R101): what a change of the regions of a surface leaves, sweeps and epoch changes, and the times that entries
hold. -/
namespace Sys2Proof.Machine

/-! ## Changes of the regions of a surface -/

theorem State.modSfm_sfm {s : State} (hw : SMap.wf {} s.sfms = true) (n : Nat) (g : Sfm → Sfm) (i : Nat) :
    (s.modSfm n g).sfm i = if i = n then g (s.sfm i) else s.sfm i := by
  split
  next h => rw [h, State.modSfm_sfm_self hw]
  next h => exact SMap.get_upd_ne h

theorem State.foldl_modSfm_sfm {l : List Nat} (hl : l.Nodup) (g : Sfm → Sfm) {s : State} (hw : SMap.wf {} s.sfms = true) (i : Nat) :
    (l.foldl (fun s p => s.modSfm p g) s).sfm i = if i ∈ l then g (s.sfm i) else s.sfm i := by
  induction l generalizing s with
  | nil => rfl
  | cons a r ih =>
    obtain ⟨ha, hr⟩ := List.nodup_cons.mp hl
    rw [List.foldl_cons, ih hr (State.modSfm_wf hw a g), State.modSfm_sfm hw]
    by_cases hi : i = a
    · rw [if_pos hi, hi, if_neg ha, if_pos List.mem_cons_self]
    · rw [if_neg hi]
      simp only [List.mem_cons, hi, false_or]

theorem State.surfRegions_nodup (s : State) (r : Nat) : (s.surfRegions r).Nodup := by
  unfold State.surfRegions
  split <;> simp

/-- A change of a surface reaches every region of it, and nothing else (R93). -/
theorem State.modSurf_sfm {s : State} (hw : SMap.wf {} s.sfms = true) (r : Nat) (g : Sfm → Sfm) (i : Nat) :
    (s.modSurf r g).sfm i = if i ∈ s.surfRegions r then g (s.sfm i) else s.sfm i :=
  State.foldl_modSfm_sfm (s.surfRegions_nodup r) g hw i

theorem State.modSurf_frame (s : State) (r : Nat) (g : Sfm → Sfm) : s.modSurf r g = { s with sfms := (s.modSurf r g).sfms } :=
  State.foldl_modSfm_frame _ _ _

/-! ## A surface is brought up to a tick (R99, R101) -/

theorem State.surfAt_none {s : State} {r k : Nat} (h : s.surfTick r k = none) : s.surfAt r k = s := by
  unfold State.surfAt
  rw [h]

theorem State.surfAt_on {s : State} {r k u : Nat} (h : s.surfTick r k = some u) (hd : s.dom (21 + r / 4) = 2) :
    s.surfAt r k = s.modSurf r (fun x => x.epochs (s.surfL r) (epochOf (s.surfL r) u - (s.sfm (s.cfgPort r)).epoch)) := by
  unfold State.surfAt
  rw [h]
  exact if_pos hd

theorem State.surfAt_retain {s : State} {r k u : Nat} (h : s.surfTick r k = some u) (hd : s.dom (21 + r / 4) ≠ 2) :
    s.surfAt r k = s.modSurf r (fun x => { x with pendEpochs := epochOf (s.surfL r) u - (s.sfm (s.cfgPort r)).epoch }) := by
  unfold State.surfAt
  rw [h]
  exact if_neg hd

/-! ## Entries and their times (R98 to R101) -/

/-- An entry that lies before the new base goes stale. -/
theorem dtConvert_early {l : Nat} {v : BitVec 16} (h : v.toNat % 2 ^ 15 = 0x7FFF ∨ v.toNat % 2 ^ 15 < l) : dtConvert l v = 0x7FFF := if_pos h

/-- Any other entry lies closer to the new base, by as much as the base has moved, and keeps its polarity. -/
theorem dtConvert_late {l : Nat} {v : BitVec 16} (hl : l ≤ 16383) (hs : v.toNat % 2 ^ 15 ≠ 0x7FFF) (h : l ≤ v.toNat % 2 ^ 15) :
    (dtConvert l v).toNat % 2 ^ 15 = v.toNat % 2 ^ 15 - l ∧ (dtConvert l v).getLsbD 15 = v.getLsbD 15 := by
  have hv := v.isLt
  have hsub : (dtConvert l v).toNat = v.toNat - l := by
    rw [dtConvert, if_neg (by omega), BitVec.toNat_sub, BitVec.toNat_ofNat]
    omega
  refine ⟨by omega, ?_⟩
  have hdiv : (v.toNat - l) / 2 ^ 15 = v.toNat / 2 ^ 15 := by omega
  rw [BitVec.getLsbD, BitVec.getLsbD, Nat.testBit_eq_decide_div_mod_eq, Nat.testBit_eq_decide_div_mod_eq, hsub, hdiv]

theorem epochBase_succ (l e : Nat) : epochBase l (e + 1) = epochBase l e + l := by
  unfold epochBase
  push_cast
  ring

theorem epochBase_add (l e n : Nat) : epochBase l e ≤ epochBase l (e + n) := by
  induction n with
  | zero => exact le_refl _
  | succ n ih =>
    rw [← Nat.add_assoc, epochBase_succ]
    omega

namespace Sfm

theorem time_stale {f : Sfm} {l : Nat} {v : BitVec 16} (h : v.toNat % 2 ^ 15 = 0x7FFF) : f.time l v = none := if_pos (decide_eq_true h)

theorem time_live {f : Sfm} {l : Nat} {v : BitVec 16} (h : v.toNat % 2 ^ 15 ≠ 0x7FFF) :
    f.time l v = some (epochBase l f.epoch + (v.toNat % 2 ^ 15 : Nat), v.getLsbD 15) := if_neg (by simpa [dtStale] using h)

/-- No entry lies before the base of its epoch. -/
theorem time_filter_base (f : Sfm) (l : Nat) (v : BitVec 16) :
    (f.time l v).filter (fun p => decide (epochBase l f.epoch ≤ p.1)) = f.time l v := by
  by_cases hs : v.toNat % 2 ^ 15 = 0x7FFF
  · rw [time_stale hs, Option.filter_none]
  · rw [time_live hs, Option.filter_some, if_pos (decide_eq_true (by omega))]

/-- An entry that is converted to the next epoch holds its time, where that lies no earlier than the new base (R99). -/
theorem time_dtConvert {f g : Sfm} {l : Nat} (hl : l ≤ 16383) (he : g.epoch = f.epoch + 1) (v : BitVec 16) :
    g.time l (dtConvert l v) = (f.time l v).filter (fun p => decide (epochBase l g.epoch ≤ p.1)) := by
  have hb : epochBase l g.epoch = epochBase l f.epoch + l := by rw [he, epochBase_succ]
  by_cases hs : v.toNat % 2 ^ 15 = 0x7FFF
  · rw [dtConvert_early (.inl hs), time_stale hs, time_stale rfl]
    rfl
  · rw [time_live hs, hb]
    by_cases hlt : v.toNat % 2 ^ 15 < l
    · rw [dtConvert_early (.inr hlt), time_stale rfl, Option.filter_some, if_neg (by rw [decide_eq_true_eq]; omega)]
    · obtain ⟨ht, hp⟩ := dtConvert_late hl hs (by omega)
      rw [time_live (by omega), ht, hp, hb, Option.filter_some, if_pos (decide_eq_true (by omega))]
      congr 2
      omega

/-- The sweep changes no entry's reading (R101). -/
theorem stored_sweepAll {f : Sfm} (hw : SMap.wf 0x7FFF f.entries = true) (k : Nat) : f.sweepAll.stored k = f.stored k := by
  have hstale : ∀ i, (if f.current (i / 16) then (0x7FFF : BitVec 16) else dtConvert f.shift 0x7FFF) = 0x7FFF := fun i => by
    rw [dtConvert_early (.inl rfl), ite_self]
  exact SMap.get_mapAll (f := fun i v => if f.current (i / 16) then v else dtConvert f.shift v) hstale hw k

theorem sweepAll_entries_wf {f : Sfm} (hw : SMap.wf 0x7FFF f.entries = true) : SMap.wf 0x7FFF f.sweepAll.entries = true :=
  SMap.wf_mapAll (f := fun i v => if f.current (i / 16) then v else dtConvert f.shift v) hw

/-- After a change of epoch every entry reads as converted by the shift (R101). -/
theorem stored_toEpoch {f : Sfm} (hw : SMap.wf 0x7FFF f.entries = true) (l n k : Nat) :
    (f.toEpoch l n).stored k = dtConvert (n * l) (f.stored k) := by
  rw [← stored_sweepAll hw]
  rfl

theorem epochs_epoch (f : Sfm) (l n : Nat) : (f.epochs l n).epoch = f.epoch + n := by
  induction n generalizing f with
  | zero => rfl
  | succ n ih =>
    have hone : (f.toEpoch l 1).epoch = f.epoch + 1 := rfl
    rw [Sfm.epochs, ih, hone]
    omega

/-- Over any number of epochs an entry reads the same time, or is stale where that lies before the new base (R99). -/
theorem time_epochs {f : Sfm} {l : Nat} (hl : l ≤ 16383) (hw : SMap.wf 0x7FFF f.entries = true) (n k : Nat) :
    (f.epochs l n).time l ((f.epochs l n).stored k) =
      (f.time l (f.stored k)).filter (fun p => decide (epochBase l (f.epoch + n) ≤ p.1)) := by
  induction n generalizing f with
  | zero => exact (time_filter_base _ _ _).symm
  | succ n ih =>
    have he : (f.toEpoch l 1).epoch = f.epoch + 1 := rfl
    have hsum : f.epoch + 1 + n = f.epoch + (n + 1) := by omega
    have hlater := epochBase_add l (f.epoch + 1) n
    rw [hsum] at hlater
    rw [Sfm.epochs, ih (f := f.toEpoch l 1) (sweepAll_entries_wf hw), stored_toEpoch hw, Nat.one_mul, time_dtConvert hl he, Option.filter_filter, he, hsum]
    congr 1
    funext p
    rw [← Bool.decide_and, decide_eq_decide]
    omega

end Sfm
end Sys2Proof.Machine

/-! SUPPORT. What a fault leaves of the surfaces and their counters, and what the issue of a derived record leaves (R112, R113). -/
namespace Sys2Proof.Machine

/-! ## Faults -/

/-- t holds the surfaces of s, and the counters of their pages and of the pages above them (Table 22.2). -/
structure State.OffSurfaces (s t : State) : Prop where
  sfms : t.sfms = s.sfms
  ctr : ∀ k, sfmB ≤ k → t.ctr k = s.ctr k

namespace State.OffSurfaces

theorem of_eq {s t : State} (hs : t.sfms = s.sfms) (hc : t.ctrs = s.ctrs) : s.OffSurfaces t := ⟨hs, fun _ _ => by rw [State.ctr, State.ctr, hc]⟩

theorem refl (s : State) : s.OffSurfaces s := of_eq rfl rfl

theorem trans {s t u : State} (h1 : s.OffSurfaces t) (h2 : t.OffSurfaces u) : s.OffSurfaces u :=
  ⟨h2.sfms.trans h1.sfms, fun k hk => (h2.ctr k hk).trans (h1.ctr k hk)⟩

theorem ite {s a b : State} {c : Prop} [Decidable c] (ha : s.OffSurfaces a) (hb : s.OffSurfaces b) : s.OffSurfaces (if c then a else b) := by
  split
  · exact ha
  · exact hb

theorem foldl {α : Type} {f : State → α → State} (h : ∀ s a, State.OffSurfaces s (f s a)) (l : List α) (s : State) : s.OffSurfaces (l.foldl f s) := by
  induction l generalizing s with
  | nil => exact refl s
  | cons a r ih => exact (h s a).trans (ih _)

theorem bump (s : State) {k : Nat} (h : k < sfmB) (n : Nat) : s.OffSurfaces (s.bump k n) := ⟨rfl, fun _ hj => s.ctr_bump_ne n (by omega)⟩

theorem bump_obs (s : State) {o : Nat} (h : o < 0x200) : s.OffSurfaces (s.bump (obsB + o)) := bump s (by unfold obsB sfmB; omega) 1

theorem orReg (s : State) (k : Nat) (m : Word) : s.OffSurfaces (s.orReg k m) := of_eq rfl rfl

theorem modSi (s : State) (g : Si → Si) : s.OffSurfaces (s.modSi g) := of_eq rfl rfl

theorem emit (s : State) (k : EmitKind) (dst data : List Nat) : s.OffSurfaces (s.emit k dst data) := of_eq rfl rfl

end State.OffSurfaces

theorem State.offSurfaces_alarm (s : State) (cause source slip : Nat) (present : Bool) : s.OffSurfaces (s.alarm cause source slip present) := by
  unfold State.alarm
  extract_lets s1 t held s2 s3
  have h1 : s.OffSurfaces s1 := .bump_obs s (by decide)
  have h2 : s.OffSurfaces s2 := (h1.trans (.bump_obs s1 (by decide))).trans (.orReg _ _ _)
  have h3 : s.OffSurfaces s3 := h2.trans (.of_eq rfl rfl)
  split
  · exact h1.trans (.of_eq rfl rfl)
  · split
    · exact h1.trans (.of_eq rfl rfl)
    · exact .ite (h3.trans (.of_eq rfl rfl)) h3

theorem State.offSurfaces_log (s : State) (source slip level code : Nat) (data : List Nat) : s.OffSurfaces (s.log source slip level code data) := by
  unfold State.log
  extract_lets t need o first _ s1 s2
  have h1 : s.OffSurfaces s1 := .of_eq rfl rfl
  have h2 : s.OffSurfaces s2 := (h1.trans (.bump_obs s1 (by decide))).trans (.orReg _ _ _)
  split
  · exact (State.OffSurfaces.of_eq rfl rfl : s.OffSurfaces { s with obs := { o with runLog := {} } }).trans (.bump_obs _ (by decide))
  · exact .ite (h2.trans (s2.offSurfaces_alarm _ _ _ _)) h2

theorem State.offSurfaces_writeFault (s : State) (f : FaultRec) : s.OffSurfaces (s.writeFault f) := by
  unfold State.writeFault
  extract_lets s1 s2 s3
  have h2 : s.OffSurfaces s2 := .of_eq rfl rfl
  exact (h2.trans (s2.offSurfaces_log _ _ _ _ _)).trans (.bump s3 (by decide) 1)

theorem State.offSurfaces_fenceSlip (s : State) (n : Nat) : s.OffSurfaces (s.fenceSlip n) := .ite (.of_eq rfl rfl) (.refl s)

theorem State.offSurfaces_recoverUnit (s : State) (source cause slip : Nat) : s.OffSurfaces (s.recoverUnit source cause slip) :=
  .ite (.ite (.of_eq rfl rfl) (.of_eq rfl rfl)) (.ite (.of_eq rfl rfl) (.ite (.of_eq rfl rfl) (.of_eq rfl rfl)))

theorem State.offSurfaces_assertPins (s : State) : s.OffSurfaces s.assertPins := .ite (.refl s) (.of_eq rfl rfl)

theorem State.offSurfaces_safeOutputs (s : State) : s.OffSurfaces s.safeOutputs := .foldl (fun s _ => .emit s _ _ _) _ s

theorem State.offSurfaces_fenceAll (s : State) : s.OffSurfaces s.fenceAll := .foldl State.offSurfaces_fenceSlip _ s

/-- Whatever its reaction, a fault leaves the surfaces and their counters alone (Table 18.4). -/
theorem State.offSurfaces_faultFull (s : State) (f : FaultRec) (floor : Nat) : s.OffSurfaces (s.faultFull f floor) := by
  unfold State.faultFull
  split
  · exact .refl s
  · extract_lets r0 fence cp r pins s1 s2 s3 s4 s5 s6 sd ms s7 here s8
    have h1 : s.OffSurfaces s1 := s.offSurfaces_writeFault _
    have h2 : s.OffSurfaces s2 := .ite ((h1.trans (s1.offSurfaces_fenceSlip _)).trans (.of_eq rfl rfl)) h1
    have h3 : s.OffSurfaces s3 := .ite (h2.trans (s2.offSurfaces_recoverUnit _ _ _)) h2
    have h4 : s.OffSurfaces s4 := .ite ((h3.trans (.bump s3 (by decide) 1)).trans (.modSi _ _)) h3
    have h5 : s.OffSurfaces s5 := .ite (h4.trans s4.offSurfaces_assertPins) h4
    have h6 : s.OffSurfaces s6 := .ite (h5.trans s5.offSurfaces_safeOutputs) h5
    have h7 : s.OffSurfaces s7 := .ite ((h6.trans s6.offSurfaces_fenceAll).trans (.modSi _ _)) h6
    have h8 : s.OffSurfaces s8 := .ite (h7.trans (.modSi s7 _)) h7
    exact h8.trans (s8.offSurfaces_alarm _ _ _ _)

theorem State.offSurfaces_fault (s : State) (source cause slip : Nat) : s.OffSurfaces (s.fault source cause slip) := s.offSurfaces_faultFull _ 0

/-! ## The issue of a derived record -/

/-- A channel after a derived record has been handed to it (R113). -/
def HChan.issued (w0 w1 : BitVec 64) (tick : Nat) (c : HChan) : HChan :=
  let p := (c.placeGaps tick).offer2 w0 w1 tick
  if p.2 then p.1.lose 0xE 1 tick else p.1

/-- A region after a unit's record has been handed to its channels. -/
def Sfm.issued (corner : Bool) (w0 w1 : BitVec 64) (tick : Nat) (f : Sfm) : Sfm :=
  if corner then { f with crnChans := f.crnChans.map (HChan.issued w0 w1 tick) } else { f with flwChans := f.flwChans.map (HChan.issued w0 w1 tick) }

/-- A channel with room takes both words at its back. -/
theorem HChan.issued_room {c : HChan} (w0 w1 : BitVec 64) (tick : Nat) (hl : c.lost = []) (hs : c.spill = []) (hr : 3 ≤ c.ribbon.credits) :
    (c.issued w0 w1 tick).ribbon.items = c.ribbon.items ++ [w0, w1] := by
  have ho : c.offer2 w0 w1 tick = ({ c with ribbon := (c.ribbon.write w0).write w1, lastTick := max c.lastTick tick }, false) :=
    if_pos ⟨by rw [hs]; rfl, hr⟩
  have hitems : ((c.ribbon.write w0).write w1).items = c.ribbon.items ++ [w0, w1] := List.append_assoc _ _ _
  unfold HChan.issued
  rw [HChan.placeGaps_clean hl, ho]
  exact hitems

theorem HChan.issued_room_at {l : List HChan} {j : Nat} {c : HChan} (w0 w1 : BitVec 64) (tick : Nat) (hj : l[j]? = some c) (hl : c.lost = [])
    (hs : c.spill = []) (hr : 3 ≤ c.ribbon.credits) :
    ∃ c', (l.map (HChan.issued w0 w1 tick))[j]? = some c' ∧ c'.ribbon.items = c.ribbon.items ++ [w0, w1] :=
  ⟨c.issued w0 w1 tick, by rw [List.getElem?_map, hj]; rfl, c.issued_room w0 w1 tick hl hs hr⟩

theorem State.modSfm_congr {s : State} {n : Nat} {g g' : Sfm → Sfm} (h : g (s.sfm n) = g' (s.sfm n)) : s.modSfm n g = s.modSfm n g' :=
  congrArg (fun x => { s with sfms := SMap.put {} s.sfms n x }) h

/-- The record is in the channels of its unit; beside them the issue counts, marks and reports drops. -/
theorem State.issueDer_spec {s : State} {r : Nat} (hg : s.cfgPort r = r) (corner : Bool) (w0 w1 : BitVec 64) (tick : Nat) :
    (s.issueDer r corner w0 w1 tick).sfms = (s.modSfm r (Sfm.issued corner w0 w1 tick)).sfms ∧
      (s.issueDer r corner w0 w1 tick).hops = s.hops ∧ (s.issueDer r corner w0 w1 tick).tim = s.tim ∧
      ∀ k, sfmB ≤ k → k ≠ sfmP r + 0x138 → (s.issueDer r corner w0 w1 tick).ctr k = s.ctr k := by
  unfold State.issueDer
  extract_lets p f res chans drops s1
  have hp : p = r := hg
  have hchans : chans = (if corner then f.crnChans else f.flwChans).map (HChan.issued w0 w1 tick) := List.map_map
  have h1 : s1 = s.modSfm r (Sfm.issued corner w0 w1 tick) := by
    simp only [s1, hchans, hp]
    refine State.modSfm_congr ?_
    simp only [f, hp]
    cases corner <;> rfl
  rw [h1, hp]
  split
  · exact ⟨rfl, rfl, rfl, fun _ _ _ => rfl⟩
  · exact ⟨(State.offSurfaces_fault _ _ _ _).sfms, (State.beside_fault _ _ _ _ _).hops, State.fault_tim _ _ _ _ _,
      fun k hk hne => ((State.offSurfaces_fault _ _ _ _).ctr k hk).trans (State.ctr_bump_ne _ _ hne)⟩

end Sys2Proof.Machine

/-! SUPPORT. The Corner and Flow Units (R104 to R114): the item a unit takes, what it evaluates, and what a test leaves. -/
namespace Sys2Proof.Machine

/-! ## What an evaluation reads -/

namespace Sfm.SameTimes

variable {x y : Sfm} (h : x.SameTimes y)
include h

theorem rwb : y.rwb = x.rwb := by rw [h.eq]

theorem origin : y.origin = x.origin := by rw [h.eq]

theorem time (l : Nat) (v : BitVec 16) : y.time l v = x.time l v := by
  rw [h.eq]
  rfl

end Sfm.SameTimes

section
variable {s : State} {m : Nat} {g : Sfm → Sfm} (hw : SMap.wf {} s.sfms = true) (hg : ∀ x : Sfm, x.SameTimes (g x))
include hw hg

theorem State.sameTimes_modSfm (j : Nat) : (s.sfm j).SameTimes ((s.modSfm m g).sfm j) := ((State.Beside.modSfm s m hg).sfms hw).2 j

theorem State.surfTick_modSfm (r k : Nat) : (s.modSfm m g).surfTick r k = s.surfTick r k := by
  have ho : ((s.modSfm m g).sfm ((s.modSfm m g).cfgPort r)).origin = (s.sfm (s.cfgPort r)).origin := (State.sameTimes_modSfm hw hg _).origin
  unfold State.surfTick
  rw [ho]
  rfl

theorem State.view_modSfm (n k : Nat) (x y : Int) : (s.modSfm m g).view n k x y = s.view n k x y := by
  have hsame := fun j => State.sameTimes_modSfm hw hg j (m := m)
  unfold State.view
  simp only [(hsame _).rwb, (hsame _).time, (hsame _).read]
  rfl

theorem State.corner_modSfm (n : Nat) (i : HItem) (u0 : Nat) : (s.modSfm m g).corner n i u0 = s.corner n i u0 := by
  have ht : ∀ x y, (s.modSfm m g).crnTime n i.tick u0 i.pol x y = s.crnTime n i.tick u0 i.pol x y := fun x y => by
    unfold State.crnTime
    rw [State.view_modSfm hw hg]
    rfl
  unfold State.corner
  simp only [ht]
  rfl

theorem State.flow_modSfm (n : Nat) (i : HItem) (u0 : Nat) : (s.modSfm m g).flow n i u0 = s.flow n i u0 := by
  have hp : (s.modSfm m g).flowPoints n i u0 = s.flowPoints n i u0 := by
    unfold State.flowPoints
    simp only [State.view_modSfm hw hg]
    rfl
  unfold State.flow
  rw [hp]
  rfl

end

/-! ## What a test leaves -/

theorem State.cfgPort_cfgPort (s : State) (n : Nat) : s.cfgPort (s.cfgPort n) = s.cfgPort n := by
  have hp : n / 2 * 2 / 2 * 2 = n / 2 * 2 := by omega
  unfold State.cfgPort State.paired
  split
  next h => rw [hp, if_pos h]
  next h => rfl

theorem State.sfm_congr {s t : State} (h : t.sfms = s.sfms) (k : Nat) : t.sfm k = s.sfm k := by rw [State.sfm, State.sfm, h]

/-- A test is counted in the page of its region, and so is its outcome, where that has a counter (Table 4.8). -/
def State.tallied (s : State) (r test : Nat) : Option Nat → State
  | none => s.bump (sfmP r + test)
  | some outcome => (s.bump (sfmP r + test)).bump (sfmP r + outcome)

/-- A unit's record, if it has one, is issued. -/
def State.issueSome (s : State) (r : Nat) (corner : Bool) (tick : Nat) : Option (BitVec 64 × BitVec 64) → State
  | none => s
  | some w => s.issueDer r corner w.1 w.2 tick

/-- A region after a unit's record, if it has one, has been handed to its channels. -/
def Sfm.issuedSome (f : Sfm) (corner : Bool) (tick : Nat) : Option (BitVec 64 × BitVec 64) → Sfm
  | none => f
  | some w => f.issued corner w.1 w.2 tick

theorem State.tallied_frame (s : State) (r test : Nat) (b : Option Nat) : s.tallied r test b = { s with ctrs := (s.tallied r test b).ctrs } := by
  cases b <;> rfl

theorem State.tallied_ctr {s : State} (hc : SMap.wf 0 s.ctrs = true) (r test : Nat) (b : Option Nat) (o : Nat) :
    (s.tallied r test b).ctr (sfmP r + o) =
      s.ctr (sfmP r + o) + BitVec.ofNat 48 (if o = test then 1 else 0) + BitVec.ofNat 48 (if b = some o then 1 else 0) := by
  cases b with
  | none =>
    rw [State.tallied, State.ctr_bump hc]
    simp only [Nat.add_left_cancel_iff, reduceCtorEq, if_false, BitVec.add_zero]
  | some k =>
    rw [State.tallied, State.ctr_bump (State.bump_wf hc _ _), State.ctr_bump hc]
    simp only [Nat.add_left_cancel_iff, Option.some.injEq, eq_comm (a := k)]

theorem State.issueSome_spec {s : State} {r : Nat} (hg : s.cfgPort r = r) (hw : SMap.wf {} s.sfms = true) (corner : Bool) (tick : Nat)
    (rec : Option (BitVec 64 × BitVec 64)) :
    SMap.wf {} (s.issueSome r corner tick rec).sfms = true ∧ (s.issueSome r corner tick rec).sfm r = (s.sfm r).issuedSome corner tick rec ∧
      (s.issueSome r corner tick rec).hops = s.hops ∧ (s.issueSome r corner tick rec).tim = s.tim ∧
      ∀ k, sfmB ≤ k → k ≠ sfmP r + 0x138 → (s.issueSome r corner tick rec).ctr k = s.ctr k := by
  cases rec with
  | none => exact ⟨hw, rfl, rfl, rfl, fun _ _ _ => rfl⟩
  | some w =>
    obtain ⟨hs, hrest⟩ := State.issueDer_spec hg corner w.1 w.2 tick
    refine ⟨?_, ?_, hrest⟩
    · exact hs ▸ State.modSfm_wf hw _ _
    · exact (State.sfm_congr hs r).trans (State.modSfm_sfm_self hw r (Sfm.issued corner w.1 w.2 tick))

theorem State.pruneRwb_frame (s : State) (r : Nat) : s.pruneRwb r = { s with sfms := (s.pruneRwb r).sfms } := State.modSurf_frame _ _ _

theorem State.pruneRwb_sfm {s : State} (hw : SMap.wf {} s.sfms = true) (r j : Nat) : ∃ l, (s.pruneRwb r).sfm j = { s.sfm j with rwb := l } := by
  unfold State.pruneRwb
  extract_lets f ts m
  rw [State.modSurf_sfm hw]
  split
  · exact ⟨_, rfl⟩
  · exact ⟨_, rfl⟩

/-- A unit of the region r has taken an item: g takes it out of the unit's queue. What its test leaves is the count of the test and its
outcome and the record in the channels; drops and the records of recent writes apart, nothing else of the region's page (R105, R112, R113). -/
theorem State.tested_spec {s t : State} {r : Nat} {g : Sfm → Sfm} (hs : s.canonical = true) (hg : s.cfgPort r = r) (test : Nat) (b : Option Nat)
    (corner : Bool) (tick : Nat) (rec : Option (BitVec 64 × BitVec 64))
    (ht : t = (((s.modSfm r g).tallied r test b).issueSome r corner tick rec).pruneRwb r) :
    (∃ l, t.sfm r = { (g (s.sfm r)).issuedSome corner tick rec with rwb := l }) ∧ t.hops = s.hops ∧ t.tim = s.tim ∧
      ∀ o, o ≠ 0x138 → t.ctr (sfmP r + o) =
        s.ctr (sfmP r + o) + BitVec.ofNat 48 (if o = test then 1 else 0) + BitVec.ofNat 48 (if b = some o then 1 else 0) := by
  have hw := State.canonical_sfms hs
  have hself : (s.modSfm r g).sfm r = g (s.sfm r) := State.modSfm_sfm_self hw r g
  have hc : SMap.wf 0 (s.modSfm r g).ctrs = true := State.canonical_ctrs (s := s) hs
  have hcount := State.tallied_ctr hc r test b
  have hframe := (s.modSfm r g).tallied_frame r test b
  generalize (s.modSfm r g).tallied r test b = u at *
  have hgu : u.cfgPort r = r := by rw [hframe]; exact hg
  have hwu : SMap.wf {} u.sfms = true := by rw [hframe]; exact State.modSfm_wf hw r g
  have hself' : u.sfm r = g (s.sfm r) := by rw [hframe]; exact hself
  obtain ⟨hwv, hv, hhops, htim, hctr⟩ := State.issueSome_spec hgu hwu corner tick rec
  generalize u.issueSome r corner tick rec = v at *
  rw [hself'] at hv
  refine ⟨ht ▸ hv ▸ State.pruneRwb_sfm hwv r r, ?_, ?_, fun o ho => ?_⟩
  · rw [ht, State.pruneRwb_frame, hhops, hframe]
    rfl
  · rw [ht, State.pruneRwb_frame, htim, hframe]
    rfl
  · rw [ht, State.pruneRwb_frame]
    exact (hctr _ (by unfold sfmP sfmB; omega) (by omega)).trans (hcount o)

/-- A unit of the region r has taken an item and does not test it. -/
theorem State.untested_spec {s : State} {r : Nat} {g : Sfm → Sfm} (hw : SMap.wf {} s.sfms = true) :
    (s.modSfm r g).pruneRwb r = { s with sfms := ((s.modSfm r g).pruneRwb r).sfms } ∧
      ∃ l, ((s.modSfm r g).pruneRwb r).sfm r = { g (s.sfm r) with rwb := l } :=
  ⟨State.pruneRwb_frame _ _, State.modSfm_sfm_self hw r g ▸ State.pruneRwb_sfm (State.modSfm_wf hw r g) r r⟩

end Sys2Proof.Machine

/-! SUPPORT. CORNER_TEST, FLOW_FIT and DERIVED_SPILL_DRAIN (R104 to R114), and the statement about surfaces and their units. -/
namespace Sys2Proof.Machine

/-! ## The Corner Unit -/

/-- The state in which the Corner Unit of a region has taken an item. -/
def State.cornerTaken (s : State) (r : Nat) (rest : List HItem) : State := s.modSfm r (fun f => { f with crnItems := rest })

/-- The Corner Unit tests the item it has taken (R106). -/
def State.cornerTested (s : State) (r : Nat) (i : HItem) (u0 : Nat) : State :=
  let s1 := s.bump (sfmP r + 0x100)
  match s.corner r i u0 with
  | none => s1
  | some (w0, w1) => (s1.bump (sfmP r + 0x108)).issueDer r true w0 w1 i.tick

/-- What CORNER_TEST does with the item it has taken: nothing while the unit is off, before ORIGIN, or near the edge where that is
excluded. -/
def State.cornerEval (s : State) (r : Nat) (i : HItem) : State :=
  match s.surfTick r i.tick with
  | none => s
  | some u0 => if !s.crnEn r ∨ ((s.reg (sfmP r + 0x20)).getLsbD 29 ∧ s.nearEdge r i) then s else s.cornerTested r i u0

/-- CORNER_TEST for the port whose settings govern (R106, R112 to R114). -/
def State.cornerStep (s : State) (r : Nat) : State :=
  match firstItem (s.geomW r) (s.sfm r).crnItems with
  | none => s
  | some (i, rest) => if !s.viewReady r i.tick then s else ((s.cornerTaken r rest).cornerEval r i).pruneRwb r

theorem exec_cornerTest (n : BitVec 4) (s : State) : exec (.cornerTest n) s = .next (s.cornerStep (s.cfgPort n.toNat)) := rfl

theorem State.cornerStep_none {s : State} {r : Nat} (h : (s.sfm r).crnItems = []) : s.cornerStep r = s := by
  unfold State.cornerStep
  rw [h]
  rfl

section
variable {s : State} {r : Nat} {i : HItem} {rest : List HItem} (hi : firstItem (s.geomW r) (s.sfm r).crnItems = some (i, rest))
include hi

theorem State.cornerStep_waits (hv : s.viewReady r i.tick = false) : s.cornerStep r = s := by
  unfold State.cornerStep
  rw [hi]
  exact if_pos (by rw [hv]; rfl)

theorem State.cornerStep_takes (hv : s.viewReady r i.tick = true) : s.cornerStep r = ((s.cornerTaken r rest).cornerEval r i).pruneRwb r := by
  unfold State.cornerStep
  rw [hi]
  exact if_neg (by rw [hv]; decide)

end

theorem State.cornerEval_skips {s : State} {r : Nat} {i : HItem}
    (h : s.surfTick r i.tick = none ∨ s.crnEn r = false ∨ ((s.reg (sfmP r + 0x20)).getLsbD 29 = true ∧ s.nearEdge r i = true)) :
    s.cornerEval r i = s := by
  unfold State.cornerEval
  obtain hu | h := h
  · rw [hu]
  · split
    · rfl
    · exact if_pos (h.imp_left (fun he => by rw [he]; rfl))

theorem State.cornerEval_tests {s : State} {r : Nat} {i : HItem} {u0 : Nat} (hu : s.surfTick r i.tick = some u0) (he : s.crnEn r = true)
    (hn : ((s.reg (sfmP r + 0x20)).getLsbD 29 && s.nearEdge r i) = false) : s.cornerEval r i = s.cornerTested r i u0 := by
  unfold State.cornerEval
  rw [hu]
  refine if_neg ?_
  rw [he, ← Bool.and_eq_true, hn]
  decide

theorem State.cornerTested_eq (s : State) (r : Nat) (i : HItem) (u0 : Nat) : s.cornerTested r i u0 =
    (s.tallied r 0x100 ((s.corner r i u0).map (fun _ => 0x108))).issueSome r true i.tick (s.corner r i u0) := by
  unfold State.cornerTested
  cases s.corner r i u0 <;> rfl

/-- A test is counted with its outcome, and a corner's record is handed to the unit's channels (R106, R112, R113). -/
theorem State.cornerTested_spec {s t : State} {r u0 : Nat} {i : HItem} {rest : List HItem} (hs : s.canonical = true) (hg : s.cfgPort r = r)
    (ht : t = ((s.cornerTaken r rest).cornerTested r i u0).pruneRwb r) :
    (t.sfm r).crnItems = rest ∧ (t.sfm r).entries = (s.sfm r).entries ∧ t.ctr (sfmP r + 0x100) = s.ctr (sfmP r + 0x100) + 1 ∧ t.tim = s.tim ∧
      t.hops = s.hops ∧ t.ctr (sfmP r + 0x108) = s.ctr (sfmP r + 0x108) + BitVec.ofNat 48 (s.corner r i u0).isSome.toNat ∧
      ∀ (w0 w1 : BitVec 64) (j : Nat) (c : HChan), s.corner r i u0 = some (w0, w1) → (s.sfm r).crnChans[j]? = some c → c.lost = [] → c.spill = [] →
        3 ≤ c.ribbon.credits → ∃ c', (t.sfm r).crnChans[j]? = some c' ∧ c'.ribbon.items = c.ribbon.items ++ [w0, w1] := by
  have hcorner : (s.cornerTaken r rest).corner r i u0 = s.corner r i u0 := State.corner_modSfm (State.canonical_sfms hs) (fun _ => ⟨rfl⟩) r i u0
  rw [State.cornerTested_eq, hcorner] at ht
  obtain ⟨⟨l, hl⟩, hhops, htim, hctr⟩ := State.tested_spec hs hg _ _ _ _ _ ht
  rw [hl]
  refine ⟨?_, ?_, ?_, htim, hhops, ?_, fun w0 w1 j c h hj hlost hsp hcr => ?_⟩
  · cases s.corner r i u0 <;> rfl
  · cases s.corner r i u0 <;> rfl
  · simpa using hctr 0x100 (by decide)
  · cases hc : s.corner r i u0 <;> simpa [hc] using hctr 0x108 (by decide)
  · rw [h]
    exact HChan.issued_room_at w0 w1 i.tick hj hlost hsp hcr

/-! ## The Flow Unit -/

/-- The state in which the Flow Unit of a region has taken an item. -/
def State.flowTaken (s : State) (r : Nat) (rest : List HItem) : State := s.modSfm r (fun f => { f with flwItems := rest })

/-- The counter of an outcome (Table 4.8). -/
def FlowOut.counter : FlowOut → Nat
  | .few => 0x120
  | .sing => 0x128
  | .conf => 0x130
  | .issue _ _ => 0x118

theorem FlowOut.counter_few (o : FlowOut) : o.counter = 0x120 ↔ o = .few := by cases o <;> simp [FlowOut.counter]

theorem FlowOut.counter_sing (o : FlowOut) : o.counter = 0x128 ↔ o = .sing := by cases o <;> simp [FlowOut.counter]

theorem FlowOut.counter_conf (o : FlowOut) : o.counter = 0x130 ↔ o = .conf := by cases o <;> simp [FlowOut.counter]

theorem FlowOut.counter_ne_tests (o : FlowOut) : o.counter ≠ 0x110 := by cases o <;> simp [FlowOut.counter]

/-- The record of an outcome. -/
def FlowOut.record : FlowOut → Option (BitVec 64 × BitVec 64)
  | .issue w0 w1 => some (w0, w1)
  | _ => none

/-- The Flow Unit fits the item it has taken (R108, R109). -/
def State.flowFitted (s : State) (r : Nat) (i : HItem) (u0 : Nat) : State :=
  let s1 := s.bump (sfmP r + 0x110)
  match s.flow r i u0 with
  | .few => s1.bump (sfmP r + 0x120)
  | .sing => s1.bump (sfmP r + 0x128)
  | .conf => s1.bump (sfmP r + 0x130)
  | .issue w0 w1 => (s1.bump (sfmP r + 0x118)).issueDer r false w0 w1 i.tick

/-- What FLOW_FIT does with the item it has taken: nothing while the unit is off or before ORIGIN. -/
def State.flowEval (s : State) (r : Nat) (i : HItem) : State :=
  match s.surfTick r i.tick with
  | none => s
  | some u0 => if !s.flwEn r then s else s.flowFitted r i u0

/-- FLOW_FIT for the port whose settings govern (R108 to R114). -/
def State.flowStep (s : State) (r : Nat) : State :=
  match firstItem (s.geomW r) (s.sfm r).flwItems with
  | none => s
  | some (i, rest) => if !s.viewReady r i.tick then s else ((s.flowTaken r rest).flowEval r i).pruneRwb r

theorem exec_flowFit (n : BitVec 4) (s : State) : exec (.flowFit n) s = .next (s.flowStep (s.cfgPort n.toNat)) := rfl

theorem State.flowStep_none {s : State} {r : Nat} (h : (s.sfm r).flwItems = []) : s.flowStep r = s := by
  unfold State.flowStep
  rw [h]
  rfl

section
variable {s : State} {r : Nat} {i : HItem} {rest : List HItem} (hi : firstItem (s.geomW r) (s.sfm r).flwItems = some (i, rest))
include hi

theorem State.flowStep_waits (hv : s.viewReady r i.tick = false) : s.flowStep r = s := by
  unfold State.flowStep
  rw [hi]
  exact if_pos (by rw [hv]; rfl)

theorem State.flowStep_takes (hv : s.viewReady r i.tick = true) : s.flowStep r = ((s.flowTaken r rest).flowEval r i).pruneRwb r := by
  unfold State.flowStep
  rw [hi]
  exact if_neg (by rw [hv]; decide)

end

theorem State.flowEval_skips {s : State} {r : Nat} {i : HItem} (h : s.surfTick r i.tick = none ∨ s.flwEn r = false) : s.flowEval r i = s := by
  unfold State.flowEval
  obtain hu | he := h
  · rw [hu]
  · split
    · rfl
    · exact if_pos (by rw [he]; rfl)

theorem State.flowEval_fits {s : State} {r : Nat} {i : HItem} {u0 : Nat} (hu : s.surfTick r i.tick = some u0) (he : s.flwEn r = true) :
    s.flowEval r i = s.flowFitted r i u0 := by
  unfold State.flowEval
  rw [hu]
  exact if_neg (by rw [he]; decide)

theorem State.flowFitted_eq (s : State) (r : Nat) (i : HItem) (u0 : Nat) : s.flowFitted r i u0 =
    (s.tallied r 0x110 (some (s.flow r i u0).counter)).issueSome r false i.tick (s.flow r i u0).record := by
  unfold State.flowFitted
  cases s.flow r i u0 <;> rfl

/-- A fit is counted with its outcome, and a flow's record is handed to the unit's channels (R110 to R113). -/
theorem State.flowFitted_spec {s t : State} {r u0 : Nat} {i : HItem} {rest : List HItem} (hs : s.canonical = true) (hg : s.cfgPort r = r)
    (ht : t = ((s.flowTaken r rest).flowFitted r i u0).pruneRwb r) :
    (t.sfm r).flwItems = rest ∧ (t.sfm r).entries = (s.sfm r).entries ∧ t.ctr (sfmP r + 0x110) = s.ctr (sfmP r + 0x110) + 1 ∧ t.tim = s.tim ∧
      t.hops = s.hops ∧ t.ctr (sfmP r + 0x120) = s.ctr (sfmP r + 0x120) + (if s.flow r i u0 = .few then 1 else 0) ∧
      t.ctr (sfmP r + 0x128) = s.ctr (sfmP r + 0x128) + (if s.flow r i u0 = .sing then 1 else 0) ∧
      t.ctr (sfmP r + 0x130) = s.ctr (sfmP r + 0x130) + (if s.flow r i u0 = .conf then 1 else 0) ∧
      ∀ (w0 w1 : BitVec 64) (j : Nat) (c : HChan), s.flow r i u0 = .issue w0 w1 → (s.sfm r).flwChans[j]? = some c → c.lost = [] → c.spill = [] →
        3 ≤ c.ribbon.credits → ∃ c', (t.sfm r).flwChans[j]? = some c' ∧ c'.ribbon.items = c.ribbon.items ++ [w0, w1] := by
  have hflow : (s.flowTaken r rest).flow r i u0 = s.flow r i u0 := State.flow_modSfm (State.canonical_sfms hs) (fun _ => ⟨rfl⟩) r i u0
  rw [State.flowFitted_eq, hflow] at ht
  obtain ⟨⟨l, hl⟩, hhops, htim, hctr⟩ := State.tested_spec hs hg _ _ _ _ _ ht
  rw [hl]
  refine ⟨?_, ?_, ?_, htim, hhops, ?_, ?_, ?_, fun w0 w1 j c h hj hlost hsp hcr => ?_⟩
  · cases s.flow r i u0 <;> rfl
  · cases s.flow r i u0 <;> rfl
  · simpa [FlowOut.counter_ne_tests] using hctr 0x110 (by decide)
  · simpa [FlowOut.counter_few, apply_ite (BitVec.ofNat 48)] using hctr 0x120 (by decide)
  · simpa [FlowOut.counter_sing, apply_ite (BitVec.ofNat 48)] using hctr 0x128 (by decide)
  · simpa [FlowOut.counter_conf, apply_ite (BitVec.ofNat 48)] using hctr 0x130 (by decide)
  · rw [h]
    exact HChan.issued_room_at w0 w1 i.tick hj hlost hsp hcr

/-! ## The spill queues of the units -/

/-- A region after the spill queues of one of its units have been drained. -/
def Sfm.drained (corner : Bool) (f : Sfm) : Sfm :=
  if corner then { f with crnChans := f.crnChans.map (·.drainSpill2) } else { f with flwChans := f.flwChans.map (·.drainSpill2) }

theorem exec_derivedSpillDrain (n : BitVec 4) (corner : Bool) (s : State) : exec (.derivedSpillDrain n corner) s =
    .next (s.modSfm (s.cfgPort n.toNat) (Sfm.drained corner)) := rfl

theorem Sfm.drained_frame (corner : Bool) (f : Sfm) :
    f.drained corner = { f with crnChans := (f.drained corner).crnChans, flwChans := (f.drained corner).flwChans } := by
  cases corner <;> rfl

theorem Sfm.drained_chans (corner : Bool) (f : Sfm) : (if corner then (f.drained corner).crnChans else (f.drained corner).flwChans) =
    (if corner then f.crnChans else f.flwChans).map HChan.drainSpill2 := by
  cases corner <;> rfl

/-- Waiting records move into the ribbon in order. -/
theorem HChan.drainSpill2_order (c : HChan) : c.drainSpill2.ribbon.items ++ c.drainSpill2.spill = c.ribbon.items ++ c.spill :=
  (List.append_assoc _ _ _).trans (congrArg (c.ribbon.items ++ ·) (List.take_append_drop _ _))

/-! ## The statement -/

theorem exec_regionClear (r : BitVec 4) (s : State) : exec (.regionClear r) s = .next (if (s.sfm r.toNat).clearing then
    s.modSurf r.toNat (fun f => { f with clearing := false, origin := some (s.tim.tick + 1) }) else s) := rfl

theorem exec_epochChange (r : BitVec 4) (s : State) : exec (.epochChange r) s = .next (s.surfAt r.toNat s.tim.tick) := rfl

theorem exec_generationSweep (r : BitVec 4) (s : State) : exec (.generationSweep r) s =
    .next (if s.surfEn r.toNat ∧ s.dom (21 + r.toNat / 4) = 2 then s.modSfm r.toNat Sfm.sweepAll else s) := rfl

/-- Settles O48: the surface's commands entry by entry, the units by the item they take. -/
theorem surfacesKeepTheirTimes : Obligations.SurfacesKeepTheirTimes := by
  unfold Obligations.SurfacesKeepTheirTimes
  refine ⟨?_, ?_, ?_, ?_, ?_, ?_, ?_, ?_⟩
  case refine_1 =>
    intro r s hs
    rw [exec_regionClear]
    refine ⟨fun hc => ?_, fun hc => by rw [hc]; rfl⟩
    rw [if_pos hc]
    exact ⟨_, rfl, State.modSurf_frame _ _ _, fun i => State.modSurf_sfm (State.canonical_sfms hs) _ _ i⟩
  case refine_2 =>
    intro r u s hs hent hu hl
    have hw := State.canonical_sfms hs
    rw [exec_epochChange]
    refine ⟨fun hd => ?_, fun hd => ?_⟩
    · rw [State.surfAt_on hu hd]
      refine ⟨_, rfl, State.modSurf_frame _ _ _, fun i hi => ?_, fun i hi => ?_⟩
      · rw [State.modSurf_sfm hw, if_neg hi]
      · rw [State.modSurf_sfm hw, if_pos hi]
        refine ⟨Sfm.epochs_epoch _ _ _, fun k => ?_⟩
        rw [Sfm.epochs_epoch]
        exact Sfm.time_epochs hl (hent i) _ k
    · rw [State.surfAt_retain hu hd]
      exact ⟨_, rfl, State.modSurf_frame _ _ _, fun i => State.modSurf_sfm hw _ _ i⟩
  case refine_3 =>
    intro r s hu
    rw [exec_epochChange, State.surfAt_none hu]
  case refine_4 =>
    intro r s hs hent
    rw [exec_generationSweep]
    refine ⟨fun he hd => ?_, fun h => ?_⟩
    · rw [if_pos ⟨he, hd⟩]
      refine ⟨_, rfl, rfl, fun i hi => ?_, ?_⟩
      · rw [State.modSfm_sfm (State.canonical_sfms hs), if_neg hi]
      · rw [State.modSfm_sfm_self (State.canonical_sfms hs)]
        exact ⟨rfl, rfl, fun k => Sfm.stored_sweepAll hent k⟩
    · rw [if_neg]
      rintro ⟨he, hd⟩
      exact h.elim (fun h => by rw [h] at he; cases he) (fun h => h hd)
  case refine_5 =>
    intro n i rest r s hs hr hi
    have hw := State.canonical_sfms hs
    have hg : s.cfgPort r = r := by rw [hr, State.cfgPort_cfgPort]
    have htick : (s.cornerTaken r rest).surfTick r i.tick = s.surfTick r i.tick := State.surfTick_modSfm hw (fun _ => ⟨rfl⟩) r i.tick
    rw [exec_cornerTest, ← hr]
    refine ⟨fun hv => by rw [State.cornerStep_waits hi hv], fun hv => ?_⟩
    rw [State.cornerStep_takes hi hv]
    refine ⟨fun h => ?_, fun u0 hu he hn => ?_⟩
    · rw [State.cornerEval_skips (htick ▸ h)]
      obtain ⟨hf, l, hl⟩ := State.untested_spec (r := r) (g := fun f => { f with crnItems := rest }) hw
      exact ⟨_, rfl, hf, congrArg Sfm.crnItems hl⟩
    · rw [State.cornerEval_tests (htick.trans hu) he hn]
      exact ⟨_, rfl, State.cornerTested_spec hs hg rfl⟩
  case refine_6 =>
    intro n i rest r s hs hr hi
    have hw := State.canonical_sfms hs
    have hg : s.cfgPort r = r := by rw [hr, State.cfgPort_cfgPort]
    have htick : (s.flowTaken r rest).surfTick r i.tick = s.surfTick r i.tick := State.surfTick_modSfm hw (fun _ => ⟨rfl⟩) r i.tick
    rw [exec_flowFit, ← hr]
    refine ⟨fun hv => by rw [State.flowStep_waits hi hv], fun hv => ?_⟩
    rw [State.flowStep_takes hi hv]
    refine ⟨fun h => ?_, fun u0 hu he => ?_⟩
    · rw [State.flowEval_skips (htick ▸ h)]
      obtain ⟨hf, l, hl⟩ := State.untested_spec (r := r) (g := fun f => { f with flwItems := rest }) hw
      exact ⟨_, rfl, hf, congrArg Sfm.flwItems hl⟩
    · rw [State.flowEval_fits (htick.trans hu) he]
      exact ⟨_, rfl, State.flowFitted_spec hs hg rfl⟩
  case refine_7 =>
    refine fun n s => ⟨fun h => ?_, fun h => ?_⟩
    · rw [exec_cornerTest, State.cornerStep_none h]
    · rw [exec_flowFit, State.flowStep_none h]
  case refine_8 =>
    intro n corner r s hs hr
    have hw := State.canonical_sfms hs
    rw [exec_derivedSpillDrain, ← hr]
    refine ⟨_, rfl, rfl, fun k hk => ?_, ?_⟩
    · rw [State.modSfm_sfm hw, if_neg hk]
    · rw [State.modSfm_sfm_self hw]
      refine ⟨Sfm.drained_frame _ _, fun h => by subst h; rfl, fun h => by subst h; rfl, fun j c hj => ⟨c.drainSpill2, ?_, c.drainSpill2_order⟩⟩
      rw [Sfm.drained_chans, List.getElem?_map, hj]
      rfl

end Sys2Proof.Machine

/-! SUPPORT. Blocks of bytes in a map, and what a fault does to the quires (R130, R486). -/
namespace Sys2Proof.Machine

/-! ## Blocks of bytes -/

/-- What lies outside a written block is unchanged. -/
theorem SMap.get_putAll_outside {α : Type} [DecidableEq α] {d : α} {l : List α} {m : SMap α} {k j : Nat} (h : j < k ∨ k + l.length ≤ j) :
    SMap.get d (SMap.putAll d m k l) j = SMap.get d m j := by
  induction l generalizing m k with
  | nil => rfl
  | cons v r ih =>
    rw [List.length_cons] at h
    exact (ih (by omega)).trans (SMap.get_put_ne (by omega))

/-- A written block is read back. -/
theorem SMap.get_putAll_inside {α : Type} [DecidableEq α] {d : α} {l : List α} {m : SMap α} {k j : Nat} (hm : SMap.wf d m = true)
    (h : j < l.length) : SMap.get d (SMap.putAll d m k l) (k + j) = l[j] := by
  induction l generalizing m k j with
  | nil => exact absurd h (Nat.not_lt_zero j)
  | cons v r ih =>
    cases j with
    | zero => exact (SMap.get_putAll_outside (.inl (Nat.lt_succ_self k))).trans (SMap.get_put_self hm)
    | succ j =>
      have hr := ih (k := k + 1) (SMap.wf_put (k := k) (v := v) hm) (Nat.lt_of_succ_lt_succ h)
      rw [Nat.add_right_comm] at hr
      exact hr

@[simp] theorem length_bytesAt (m : SMap (BitVec 8)) (a n : Nat) : (bytesAt m a n).length = n := by
  simp [bytesAt]

/-- A block copied from one memory to another. -/
theorem SMap.get_putAll_bytesAt {m src : SMap (BitVec 8)} (hm : SMap.wf 0 m = true) {a b n j : Nat} (hj : j < n) :
    SMap.get 0 (SMap.putAll 0 m a (bytesAt src b n)) (a + j) = SMap.get 0 src (b + j) := by
  rw [SMap.get_putAll_inside hm (by simpa using hj)]
  simp [bytesAt]

theorem SMap.get_putAll_bytesAt_outside {m src : SMap (BitVec 8)} {a b n j : Nat} (h : j < a ∨ a + n ≤ j) :
    SMap.get 0 (SMap.putAll 0 m a (bytesAt src b n)) j = SMap.get 0 m j :=
  SMap.get_putAll_outside (by simpa using h)

/-! ## The quires after a fault -/

/-- A loop whose passes keep a part of the state keeps it. -/
theorem State.foldl_same {α β : Type} (g : State → β) {f : State → α → State} (h : ∀ s a, g (f s a) = g s) (l : List α) (s : State) :
    g (l.foldl f s) = g s := by
  induction l generalizing s with
  | nil => rfl
  | cons a r ih => exact (ih _).trans (h s a)

theorem State.ite_quires {s a : State} {c : Prop} [Decidable c] (h : a.quires = s.quires) : (if c then a else s).quires = s.quires := by
  split
  · exact h
  · rfl

theorem State.alarm_quires (s : State) (cause source slip : Nat) (present : Bool) :
    (s.alarm cause source slip present).quires = s.quires := by
  rw [State.alarm_frame]

theorem State.log_quires (s : State) (source slip level code : Nat) (data : List Nat) :
    (s.log source slip level code data).quires = s.quires := by
  unfold State.log
  extract_lets t need o first obs s1 s2
  split
  · rfl
  · exact (State.ite_quires (s2.alarm_quires _ _ _ _)).trans rfl

theorem State.writeFault_quires (s : State) (f : FaultRec) : (s.writeFault f).quires = s.quires := by
  unfold State.writeFault
  exact State.log_quires _ _ _ _ _ _

theorem State.fenceSlip_quires (s : State) (n : Nat) : (s.fenceSlip n).quires = s.quires := State.ite_quires rfl

theorem State.conFault_quires (s : State) (p : Graph → Bool) (cause : Nat) : (s.conFault p cause).quires = s.quires := rfl

theorem State.fenceAll_quires (s : State) : s.fenceAll.quires = s.quires := State.foldl_same _ State.fenceSlip_quires _ s

theorem State.safeOutputs_quires (s : State) : s.safeOutputs.quires = s.quires := by
  unfold State.safeOutputs
  exact State.foldl_same State.quires (fun _ _ => by rfl) _ s

theorem State.assertPins_quires (s : State) : s.assertPins.quires = s.quires := by
  unfold State.assertPins
  split <;> rfl

/-- Recovery fences the reporting quire or none (R486). -/
theorem State.recoverUnit_quires (s : State) (source cause slip : Nat) :
    (s.recoverUnit source cause slip).quires = s.quires ∨ (s.recoverUnit source cause slip).quires = (s.modQuire source Quire.fence).quires := by
  unfold State.recoverUnit
  split
  · extract_lets s1 s2
    split
    · exact .inl rfl
    · exact .inr rfl
  · extract_lets s1
    split
    · exact .inl rfl
    · exact .inl (State.ite_quires rfl)

/-- Of the quires a fault writes at most its source's, which it fences (Table 18.4). -/
theorem State.faultFull_quires (s : State) (f : FaultRec) (floor : Nat) :
    (s.faultFull f floor).quires = s.quires ∨ (s.faultFull f floor).quires = (s.modQuire f.source Quire.fence).quires := by
  unfold State.faultFull
  split
  · exact .inl rfl
  · extract_lets r fence cp r' pins s1 s2 s3 s4 s5 s6 ms s7 s8 here s9
    have h1 : s1.quires = s.quires := s.writeFault_quires _
    have h2 : s2.quires = s.quires := (State.ite_quires ((State.conFault_quires _ _ _).trans (s1.fenceSlip_quires _))).trans h1
    have h3 : s3.quires = s2.quires ∨ s3.quires = (s2.modQuire f.source Quire.fence).quires := by
      simp only [s3]
      split
      · exact s2.recoverUnit_quires _ _ _
      · exact .inl rfl
    have h4 : s4.quires = s3.quires := State.ite_quires rfl
    have h5 : s5.quires = s3.quires := (State.ite_quires s4.assertPins_quires).trans h4
    have h6 : s6.quires = s3.quires := (State.ite_quires s5.safeOutputs_quires).trans h5
    have h8 : s8.quires = s3.quires := (State.ite_quires ((State.modSi_quires _ _).trans s6.fenceAll_quires)).trans h6
    have h9 : s9.quires = s3.quires := (State.ite_quires (State.modSi_quires _ _)).trans h8
    rw [State.alarm_quires, h9]
    rw [State.modQuire, h2] at h3
    exact h3

theorem State.fault_quires (s : State) (source cause slip : Nat) :
    (s.fault source cause slip).quires = s.quires ∨ (s.fault source cause slip).quires = (s.modQuire source Quire.fence).quires :=
  s.faultFull_quires _ 0

end Sys2Proof.Machine

/-! SUPPORT. The start of a descriptor (R126 to R130): an Access Engine and its quire, and what a start leaves. -/
namespace Sys2Proof.Machine

/-! ## Access Engines of a quire -/

@[simp] theorem Quire.setAe_ae (x : Quire) (e : Bool) (a : Ae) : (x.setAe e.toNat a).ae e.toNat = a := by
  cases e <;> rfl

@[simp] theorem Quire.setAe_ae_not (x : Quire) (e : Bool) (a : Ae) : (x.setAe e.toNat a).ae (!e).toNat = x.ae (!e).toNat := by
  cases e <;> rfl

@[simp] theorem Quire.setAe_qsp (x : Quire) (e : Nat) (a : Ae) : (x.setAe e a).qsp = x.qsp := by
  unfold Quire.setAe
  split <;> rfl

@[simp] theorem Quire.setAe_chans (x : Quire) (e : Nat) (a : Ae) : (x.setAe e a).chans = x.chans := by
  unfold Quire.setAe
  split <;> rfl

@[simp] theorem Quire.setAe_aeFault (x : Quire) (e : Nat) (a : Ae) : (x.setAe e a).aeFault = x.aeFault := by
  unfold Quire.setAe
  split <;> rfl

@[simp] theorem Quire.setAe_chan (x : Quire) (e c : Nat) (a : Ae) : (x.setAe e a).chan c = x.chan c := by
  rw [Quire.chan, Quire.setAe_chans, Quire.chan]

@[simp] theorem Quire.modChan_qsp (x : Quire) (c : Nat) (f : QChan → QChan) : (x.modChan c f).qsp = x.qsp := rfl

@[simp] theorem Quire.modChan_ae (x : Quire) (c e : Nat) (f : QChan → QChan) : (x.modChan c f).ae e = x.ae e := rfl

/-- A stopped engine stays stopped through a fence. -/
theorem Quire.fence_ae_stopped (x : Quire) (e : Nat) : (x.fence.ae e).stopped = (x.ae e).stopped := by
  unfold Quire.ae
  split <;> rfl

theorem Quire.SameWork.aeFault {x y : Quire} (h : x.SameWork y) : y.aeFault = x.aeFault := by rw [h.eq]

/-! ## A descriptor fault -/

/-- The quire whose engine a descriptor fault has stopped (R130). -/
def Quire.aeStopped (x : Quire) (e : Bool) (cause : Nat) : Quire :=
  ({ x with aeFault := e.toNat * 2 ^ 31 + (x.ae e.toNat).start * 2 ^ 16 + cause }).setAe e.toNat { x.ae e.toNat with stopped := true }

theorem Quire.aeStopped_fields (x : Quire) (e : Bool) (cause : Nat) :
    ((x.aeStopped e cause).ae e.toNat).stopped = true ∧ (x.aeStopped e cause).aeFault = e.toNat * 2 ^ 31 + (x.ae e.toNat).start * 2 ^ 16 + cause ∧
      (x.aeStopped e cause).qsp = x.qsp ∧ (x.aeStopped e cause).chans = x.chans := by
  simp [Quire.aeStopped]

theorem State.aeFault_eq (s : State) (q : Nat) (e : Bool) (slip cause : Nat) : s.aeFault q e.toNat slip cause =
    (let u := (s.modQuire q (fun _ => (s.quire q).aeStopped e cause)).orReg (qrB q + 0xC) 0x40
     if cause = 6 then u.bump (mcB + 0x3010) else u).fault q 8 slip := rfl

/-- A descriptor fault stops the engine and names the descriptor; the quire's work is as it was. -/
theorem State.aeFault_spec {s : State} (hq : SMap.wf {} s.quires = true) (q : Nat) (e : Bool) (slip cause : Nat) :
    (((s.aeFault q e.toNat slip cause).quire q).ae e.toNat).stopped = true ∧
      ((s.aeFault q e.toNat slip cause).quire q).aeFault = e.toNat * 2 ^ 31 + ((s.quire q).ae e.toNat).start * 2 ^ 16 + cause ∧
      ((s.aeFault q e.toNat slip cause).quire q).qsp = (s.quire q).qsp ∧ ((s.aeFault q e.toNat slip cause).quire q).chans = (s.quire q).chans ∧
      (s.aeFault q e.toNat slip cause).dram = s.dram ∧ (s.aeFault q e.toNat slip cause).tim = s.tim := by
  rw [State.aeFault_eq]
  extract_lets u
  generalize hv : (if cause = 6 then u.bump (mcB + 0x3010) else u) = v
  obtain ⟨hstop, hcode, hqsp, hchans⟩ := (s.quire q).aeStopped_fields e cause
  have huq : u.quires = (s.modQuire q (fun _ => (s.quire q).aeStopped e cause)).quires := rfl
  have hwu : SMap.wf {} u.quires = true := huq ▸ State.modQuire_wf hq q _
  have hu : u.quire q = (s.quire q).aeStopped e cause := by
    rw [State.quire, huq]
    exact State.modQuire_quire_self hq q _
  have hvu : v.quires = u.quires := hv ▸ State.ite_quires rfl
  have hkeep : u.Keeps (v.fault q 8 slip) _ :=
    (hv ▸ .ite (.bump u 1 (by unfold quietCtr mcB; omega) (by decide)) : u.Keeps v).comp (v.keeps_fault q 8 slip)
  have hwork := hkeep.work hwu q
  rw [hu] at hwork
  refine ⟨?_, hwork.aeFault.trans hcode, hwork.qsp.trans hqsp, hwork.chans.trans hchans, hkeep.dram, hkeep.tim⟩
  obtain h | h := v.fault_quires q 8 slip
  · rw [State.quire, h, hvu, ← State.quire, hu, hstop]
  · rw [State.modQuire, hvu] at h
    rw [State.quire, h, SMap.get_upd_self hwu, Quire.fence_ae_stopped, ← State.quire, hu, hstop]

/-! ## DESCRIPTOR_START -/

/-- The words of the descriptor that an engine starts next (R126). -/
def Quire.nextWords (x : Quire) (e : Nat) : List (BitVec 64) :=
  (List.range 4).map (fun i => wordAt x.qsp ((x.ae e).base + 32 * (x.ae e).start + 8 * i))

/-- The engine produces the channel (R127). -/
def Quire.produces (x : Quire) (e c : Nat) : Bool := decide (c < 64) && (x.chan c).valid && decide ((x.chan c).prod = 7 + e)

theorem Quire.produces_iff (x : Quire) (e c : Nat) :
    x.produces e c = true ↔ c < 64 ∧ (x.chan c).valid = true ∧ (x.chan c).prod = 7 + e := by
  simp [Quire.produces, and_assoc]

/-- The entry in flight of a descriptor that an engine starts: its words, and the RULE_EPOCH it was checked under (R403). -/
def State.newFlight (s : State) (x : Quire) (e : Bool) (slip : Nat) (d : Desc) : AeFlight :=
  { words := x.nextWords e.toNat, epoch := (s.slip slip).epoch, freed := d.chan = 0xFF, qaddr := x.descAddr e.toNat d }

/-- A slot of a channel is taken: its credit is spent, the next slot follows. -/
def QChan.takeSlot (y : QChan) : QChan := { y with credits := y.credits - 1, slot := (y.slot + 1) % max 1 y.cap }

/-- The quire whose engine has started a descriptor for a channel: its slot's credit is spent, START advanced (R128). -/
def Quire.started (x : Quire) (e : Bool) (c : Nat) (f : AeFlight) : Quire :=
  (if x.produces e.toNat c then x.modChan c QChan.takeSlot else x).setAe
    e.toNat { x.ae e.toNat with start := ((x.ae e.toNat).start + 1) % 2 ^ (x.ae e.toNat).log2n, flight := (x.ae e.toNat).flight ++ [f] }

theorem Quire.started_ae (x : Quire) (e : Bool) (c : Nat) (f : AeFlight) : (x.started e c f).ae e.toNat =
    { x.ae e.toNat with start := ((x.ae e.toNat).start + 1) % 2 ^ (x.ae e.toNat).log2n, flight := (x.ae e.toNat).flight ++ [f] } :=
  Quire.setAe_ae _ _ _

theorem Quire.started_other (x : Quire) (e : Bool) (c : Nat) (f : AeFlight) :
    (x.started e c f).ae (!e).toNat = x.ae (!e).toNat ∧ (x.started e c f).qsp = x.qsp := by
  unfold Quire.started
  split <;> simp

/-- A slot of a channel that the engine produces costs one credit; no token moves. -/
theorem Quire.started_chan (x : Quire) (e : Bool) (c : Nat) (f : AeFlight) :
    ((x.started e c f).chan c).credits = (x.chan c).credits - (if x.produces e.toNat c then 1 else 0) ∧
      ((x.started e c f).chan c).tokens = (x.chan c).tokens := by
  unfold Quire.started
  rw [Quire.setAe_chan]
  split
  next h =>
    have hv : (x.chan c).valid = true := ((x.produces_iff _ _).1 h).2.1
    have hne : (x.chan c).takeSlot ≠ {} := fun h => Bool.noConfusion (hv.symm.trans (congrArg QChan.valid h : (x.chan c).takeSlot.valid = false))
    have hc : (x.modChan c QChan.takeSlot).chan c = (x.chan c).takeSlot := SMap.get_upd_of_ne hne
    rw [hc]
    exact ⟨rfl, rfl⟩
  next => exact ⟨rfl, rfl⟩

theorem execDescriptorStart_idle {q : BitVec 7} {e : Bool} {s : State}
    (h : (s.quire q.toNat).slip = none ∨ s.qState q.toNat ≠ 1 ∨ ((s.quire q.toNat).ae e.toNat).stopped = true ∨
      ((s.quire q.toNat).ae e.toNat).start = ((s.quire q.toNat).ae e.toNat).tail) : execDescriptorStart q e s = .next s := by
  unfold execDescriptorStart
  extract_lets n x a
  obtain hn | h := h
  · rw [show x.slip = none from hn]
  · split
    · rfl
    · rw [if_pos]
      obtain h | h | h := h
      · exact .inl h
      · exact .inr (.inl h)
      · exact .inr (.inr (.inl h))

section
variable {q : BitVec 7} {e : Bool} {slip : Nat} {x : Quire} {d : Desc} {s : State} (hx : x = s.quire q.toNat) (hslip : x.slip = some slip)
  (hact : s.qState q.toNat = 1) (hrun : (x.ae e.toNat).stopped = false) (hnext : (x.ae e.toNat).start ≠ (x.ae e.toNat).tail)
  (hroom : (x.ae e.toNat).flight.length < 64) (hd : d = descOf (x.nextWords e.toNat))
include hx hslip hact hrun hnext hroom hd

theorem execDescriptorStart_bad {cause : Nat} (hf : s.descFault q.toNat e.toNat slip d = some cause) :
    execDescriptorStart q e s = .next (s.aeFault q.toNat e.toNat slip cause) := by
  subst hx hd
  have hgo : ¬ (s.qState q.toNat ≠ 1 ∨ ((s.quire q.toNat).ae e.toNat).stopped = true ∨
      ((s.quire q.toNat).ae e.toNat).start = ((s.quire q.toNat).ae e.toNat).tail ∨ 64 ≤ ((s.quire q.toNat).ae e.toNat).flight.length) := by
    simp [hact, hrun, hnext, hroom]
  unfold Quire.nextWords at hf
  simp only [execDescriptorStart, hslip, if_neg hgo, hf]

/-- A good descriptor that need not wait, and whose slot has a credit, is in flight. -/
theorem execDescriptorStart_good (hf : s.descFault q.toNat e.toNat slip d = none)
    (hwait : d.wait = true → ∀ f ∈ (x.ae e.toNat).flight, f.done = true) (hcredit : x.produces e.toNat d.chan = true → (x.chan d.chan).credits ≠ 0) :
    execDescriptorStart q e s = .next (s.modQuire q.toNat (fun _ => x.started e d.chan (s.newFlight x e slip d))) := by
  have hgo : ¬ (s.qState q.toNat ≠ 1 ∨ (x.ae e.toNat).stopped = true ∨ (x.ae e.toNat).start = (x.ae e.toNat).tail ∨
      64 ≤ (x.ae e.toNat).flight.length) := by
    simp [hact, hrun, hnext, hroom]
  have hready : ¬ ((d.wait = true ∧ (x.ae e.toNat).flight.any (fun f => !f.done) = true) ∨
      (x.produces e.toNat d.chan = true ∧ (x.chan d.chan).credits = 0)) := by
    rintro (⟨hw, hu⟩ | ⟨hm, hc⟩)
    · obtain ⟨f, hmem, hundone⟩ := List.any_eq_true.1 hu
      rw [hwait hw f hmem] at hundone
      exact absurd hundone (by decide)
    · exact hcredit hm hc
  subst hx hd
  unfold Quire.produces at hready
  unfold Quire.nextWords at hf hready
  simp only [execDescriptorStart, hslip, if_neg hgo, hf, if_neg hready]
  rfl

end

end Sys2Proof.Machine

/-! SUPPORT. The completion of a descriptor (R128, R131): what moving its data and reporting poison leave alone, and what it moves. -/
namespace Sys2Proof.Machine

/-! ## What the move of a block leaves alone -/

/-- The counters of completed descriptors (Table 5.12): of both engines of every quire. -/
def descCtr (k : Nat) : Prop := qrB 0 ≤ k ∧ k < spnB 0 ∧ (k % 0x4000 = 0x630 ∨ k % 0x4000 = 0x638)

theorem descCtr_quire (q : BitVec 7) (e : Bool) : descCtr (qrB q.toNat + (if e then 0x638 else 0x630)) := by
  have := q.isLt
  unfold descCtr qrB spnB
  cases e <;> simp <;> omega

theorem descCtr.quiet {k : Nat} (h : descCtr k) : quietCtr k := by
  unfold descCtr at h
  unfold quietCtr
  omega

/-- t keeps of s the time, the counters of completed descriptors, and the part g of every quire; its maps stay canonical. -/
structure State.KeepsPart {α : Type} (g : Quire → α) (s t : State) : Prop where
  tim : t.tim = s.tim
  quires_wf : SMap.wf {} s.quires = true → SMap.wf {} t.quires = true
  ctrs_wf : SMap.wf 0 s.ctrs = true → SMap.wf 0 t.ctrs = true
  part : SMap.wf {} s.quires = true → ∀ k, g (t.quire k) = g (s.quire k)
  ctr : ∀ k, descCtr k → t.ctr k = s.ctr k

namespace State.KeepsPart

variable {α : Type} {g : Quire → α}

theorem trans {s t u : State} (h1 : s.KeepsPart g t) (h2 : t.KeepsPart g u) : s.KeepsPart g u where
  tim := h2.tim.trans h1.tim
  quires_wf h := h2.quires_wf (h1.quires_wf h)
  ctrs_wf h := h2.ctrs_wf (h1.ctrs_wf h)
  part h k := (h2.part (h1.quires_wf h) k).trans (h1.part h k)
  ctr k hk := (h2.ctr k hk).trans (h1.ctr k hk)

theorem of_eq {s t : State} (h1 : t.tim = s.tim) (h2 : t.quires = s.quires) (h3 : t.ctrs = s.ctrs) : s.KeepsPart g t where
  tim := h1
  quires_wf h := h2 ▸ h
  ctrs_wf h := h3 ▸ h
  part _ k := by rw [State.quire, h2, State.quire]
  ctr k _ := by rw [State.ctr, h3, State.ctr]

theorem refl (s : State) : s.KeepsPart g s := of_eq rfl rfl rfl

theorem foldl {β : Type} {f : State → β → State} (h : ∀ s b, State.KeepsPart g s (f s b)) (l : List β) (s : State) :
    s.KeepsPart g (l.foldl f s) := by
  induction l generalizing s with
  | nil => exact refl s
  | cons b r ih => exact (h s b).trans (ih _)

theorem bump (s : State) {k : Nat} (h : ¬ descCtr k) (n : Nat) : s.KeepsPart g (s.bump k n) where
  tim := rfl
  quires_wf h := h
  ctrs_wf h := SMap.wf_put h
  part _ _ := rfl
  ctr _ hj := State.ctr_bump_ne s n (fun e => h (e ▸ hj))

theorem modQuire {f : Quire → Quire} {s : State} {q : Nat} (hf : ∀ x, g (f x) = g x) : s.KeepsPart g (s.modQuire q f) where
  tim := rfl
  quires_wf h := State.modQuire_wf h q f
  ctrs_wf h := h
  part h k := by
    by_cases hk : k = q
    · rw [hk, State.modQuire_quire_self h, hf]
    · rw [State.modQuire_quire_ne s hk]
  ctr _ _ := rfl

/-- What a fault keeps. -/
theorem of_keeps {s t : State} {n : Nat} (hg : ∀ {x y : Quire}, x.SameWork y → g y = g x) (h : s.Keeps t n) : s.KeepsPart g t where
  tim := h.tim
  quires_wf := h.quires_wf
  ctrs_wf := h.ctrs_wf
  part hw k := hg (h.work hw k)
  ctr k hk := h.ctr k hk.quiet

end State.KeepsPart

/-! ## A write to a stream -/

section
variable {α : Type} (g : Quire → α)

theorem State.keepsPart_pumpN (s : State) (p fuel : Nat) : s.KeepsPart g (s.pumpN p fuel) := by
  have hb : ∀ (u : State) (o n : Nat), u.KeepsPart g (u.bump (spnB p + o) n) := fun u o n =>
    .bump u (by unfold descCtr spnB; omega) n
  induction fuel generalizing s with
  | zero => exact .refl s
  | succ n ih =>
    unfold State.pumpN
    extract_lets t
    split
    · exact .refl s
    · split
      · exact .refl s
      · extract_lets s1 s2 s3
        split
        · exact .refl s
        · have h1 : s.KeepsPart g s1 := .of_eq rfl rfl rfl
          have h2 : s1.KeepsPart g s2 := (hb s1 _ _).trans (hb _ _ _)
          have h3 : s2.KeepsPart g s3 := .of_eq rfl rfl rfl
          exact ((h1.trans h2).trans h3).trans (ih s3)

theorem State.keepsPart_sendTo (s : State) (m : SpMsg) : s.KeepsPart g (s.sendTo m) := by
  unfold State.sendTo
  split
  · split
    next p _ _ => exact (.of_eq rfl rfl rfl : s.KeepsPart g (s.modPort p _)).trans (State.keepsPart_pumpN g _ _ _)
    next => exact .refl s
  · exact .refl s

theorem State.keepsPart_strmPumpN (s : State) (n fuel : Nat) : s.KeepsPart g (s.strmPumpN n fuel) := by
  induction fuel generalizing s with
  | zero => exact .refl s
  | succ m ih =>
    unfold State.strmPumpN
    extract_lets t
    split
    · exact .refl s
    · split
      · exact .refl s
      · extract_lets s1
        have h1 : s.KeepsPart g s1 := .of_eq rfl rfl rfl
        exact (h1.trans (s1.keepsPart_sendTo g _)).trans (ih _)

theorem State.keepsPart_strmWrite (s : State) (n : Nat) (b : SpBody) : s.KeepsPart g (s.strmWrite n b) := by
  unfold State.strmWrite
  extract_lets t
  split
  · exact (.of_eq rfl rfl rfl : s.KeepsPart g (s.modStrm n _)).trans (State.keepsPart_strmPumpN g _ _ _)
  · exact .of_eq rfl rfl rfl

end

/-! ## The move of a block -/

/-- Moving data leaves the channels alone, whatever the descriptor. -/
theorem State.descMove_chans (s : State) (q slip : Nat) (d : Desc) (a : Nat) (bad : List Nat) :
    s.KeepsPart Quire.chans (s.descMove q slip d a bad) := by
  unfold State.descMove
  extract_lets rows
  split
  · exact .foldl (fun _ _ => by exact .modQuire (fun _ => rfl)) _ s
  · exact .foldl (fun _ _ => by exact .modQuire (fun _ => rfl)) _ s
  · exact .foldl (fun _ _ => by exact .modQuire (fun _ => rfl)) _ s
  · refine .foldl (fun s i => ?_) _ s
    extract_lets b base ws
    split
    · exact .of_eq rfl rfl rfl
    · exact .modQuire (fun _ => rfl)
    · split
      · exact s.keepsPart_strmWrite _ _ _
      · exact .of_eq rfl rfl rfl
  · exact .refl s

/-- Where a window of a slipcase begins in DRAM (R402). -/
def State.winBase (s : State) (slip win : Nat) : Nat := (((s.slip slip).rules.find? (fun w => w.win = win)).map (fun w => w.base)).getD 0

theorem Desc.farRow_zero (d : Desc) : (d.farRow 0).toNat = d.far := by
  simp [Desc.farRow]

/-- A read of one row of DRAM puts the row at the QSP address. -/
theorem State.descMove_read {s : State} {q slip : Nat} {d : Desc} (a : Nat) (h1 : d.op = 1) (h2 : d.space = 0) (h3 : d.rows = 1) :
    s.descMove q slip d a [] =
      s.modQuire q (fun x => { x with qsp := SMap.putAll 0 x.qsp a (bytesAt s.dram (s.winBase slip d.qual + d.far) d.rowBytes) }) := by
  have hrow : s.farRead slip d [] 0 = bytesAt s.dram (s.winBase slip d.qual + d.far) d.rowBytes := by
    simp only [State.farRead, h2, Desc.farRow_zero]
    rfl
  simp only [State.descMove, h1, h3, List.range_one, List.foldl_cons, List.foldl_nil, hrow, Nat.mul_zero, Nat.add_zero]

/-- A write of one row puts the QSP bytes into DRAM. -/
theorem State.descMove_write {s : State} {q slip : Nat} {d : Desc} (a : Nat) (bad : List Nat) (h1 : d.op = 2) (h2 : d.space = 0)
    (h3 : d.rows = 1) : s.descMove q slip d a bad =
      { s with dram := SMap.putAll 0 s.dram (s.winBase slip d.qual + d.far) (bytesAt (s.quire q).qsp a d.rowBytes) } := by
  simp only [State.descMove, h1, h2, h3, List.range_one, List.foldl_cons, List.foldl_nil, Desc.farRow_zero, Nat.mul_zero, Nat.add_zero]
  rfl

/-! ## DESCRIPTOR_COMPLETE -/

/-- A channel with one token more. -/
def QChan.gained (y : QChan) : QChan := { y with tokens := y.tokens + 1 }

/-- The quire in which the descriptor of an engine at place i has completed and posted its token (R128). -/
def Quire.completed (x : Quire) (e : Bool) (i : Nat) (f : AeFlight) (c : Nat) : Quire :=
  let y := x.setAe e.toNat { x.ae e.toNat with flight := (x.ae e.toNat).flight.set i { f with done := true } }
  let z := if c < 64 then y.modChan c QChan.gained else y
  z.setAe e.toNat (z.ae e.toNat).settle

theorem Quire.completed_qsp (x : Quire) (e : Bool) (i : Nat) (f : AeFlight) (c : Nat) : (x.completed e i f c).qsp = x.qsp := by
  unfold Quire.completed
  extract_lets a y z
  have hz : z.qsp = y.qsp := by
    simp only [z]
    split <;> rfl
  rw [Quire.setAe_qsp, hz, Quire.setAe_qsp]

/-- A completed descriptor posts one token to its channel and none to another. -/
theorem Quire.completed_chan {x : Quire} (h : SMap.wf {} x.chans = true) (e : Bool) (i : Nat) (f : AeFlight) (c j : Nat) :
    (x.completed e i f c).chan j = if c < 64 ∧ j = c then (x.chan c).gained else x.chan j := by
  unfold Quire.completed
  extract_lets a y z
  have hy : SMap.wf {} y.chans = true := by
    simpa only [y, Quire.setAe_chans] using h
  have hyx : ∀ k, y.chan k = x.chan k := fun k => x.setAe_chan _ k _
  rw [Quire.setAe_chan]
  by_cases hc : c < 64
  · simp only [z, hc, if_true, true_and, Quire.chan_modChan hy, hyx]
  · simp only [z, hc, if_false, false_and, hyx]

/-- The far offsets of a descriptor's poison: a write has only what was cancelled (R131, R404). -/
def Desc.poison (d : Desc) (f : AeFlight) (bad : List Nat) : List Nat := if d.op = 1 ∨ d.op = 4 then f.poison ++ bad else f.poison

/-- Poison is marked, counted and reported (R131). -/
def State.reportPoison (s : State) (n slip : Nat) (bad : List Nat) : State :=
  if bad.isEmpty then s
  else bad.foldl (fun s _ => (s.bump (qrB n + 0x640)).fault n 0xC slip) (s.orReg (qrB n + 0xC) 0x20)

theorem State.reportPoison_dram (s : State) (n slip : Nat) (bad : List Nat) : (s.reportPoison n slip bad).dram = s.dram := by
  unfold State.reportPoison
  split
  · rfl
  · exact State.foldl_same State.dram (fun u _ => ((u.bump (qrB n + 0x640)).keeps_fault n 0xC slip).dram) _ _

/-- A report of poison leaves the part of a quire that a fence leaves. -/
theorem State.keepsPart_reportPoison {α : Type} {g : Quire → α} (hg : ∀ {x y : Quire}, x.SameWork y → g y = g x) (s : State) (n slip : Nat)
    (bad : List Nat) : s.KeepsPart g (s.reportPoison n slip bad) := by
  unfold State.reportPoison
  split
  · exact .refl s
  · refine (.of_eq rfl rfl rfl : s.KeepsPart g (s.orReg (qrB n + 0xC) 0x20)).trans (.foldl (fun u _ => ?_) _ _)
    exact (State.KeepsPart.bump u (by unfold descCtr qrB; omega) 1).trans (.of_keeps hg (State.keeps_fault _ _ _ _))

/-- DESCRIPTOR_COMPLETE without a descriptor that has not completed. -/
theorem execDescriptorComplete_none {q : BitVec 7} {e : Bool} {bad : List Nat} {s : State}
    (h : ∀ f ∈ ((s.quire q.toNat).ae e.toNat).flight, f.done = true) : execDescriptorComplete q e bad s = .next s := by
  have hi : ((s.quire q.toNat).ae e.toNat).flight.findIdx? (fun f => !f.done) = none :=
    List.findIdx?_eq_none_iff.2 (fun f hf => by rw [h f hf]; rfl)
  unfold execDescriptorComplete
  extract_lets n a
  rw [show a.flight.findIdx? (fun f => !f.done) = none from hi]

section
variable {q : BitVec 7} {e : Bool} {slip i : Nat} {f : AeFlight} {s : State} (hslip : (s.quire q.toNat).slip = some slip)
  (hi : ((s.quire q.toNat).ae e.toNat).flight.findIdx? (fun y => !y.done) = some i)
  (hf : ((s.quire q.toNat).ae e.toNat).flight[i]? = some f)
include hslip hi hf

/-- The oldest unfinished descriptor moves its data, is counted against its slipcase and its engine, completes, and its poison is reported. -/
theorem execDescriptorComplete_eq (bad : List Nat) : execDescriptorComplete q e bad s =
    .next ((((((s.descMove q.toNat slip (descOf f.words) f.qaddr ((descOf f.words).poison f bad)).modSlip slip
      (fun p => p.count 5 (descOf f.words).dramBytes)).modQuire q.toNat (fun x => x.completed e i f (descOf f.words).chan)).bump
      (qrB q.toNat + (if e then 0x638 else 0x630)))).reportPoison q.toNat slip ((descOf f.words).poison f bad)) := by
  simp only [execDescriptorComplete, hslip, hi, hf]
  rfl

/-- What the completion of a descriptor leaves, in terms of the state in which its data has moved. -/
theorem descriptorComplete_effects (hs : s.canonical = true) (hw : SMap.wf {} (s.quire q.toNat).chans = true) (bad : List Nat) {d : Desc}
    (hd : d = descOf f.words) {m : State} (hm : m = s.descMove q.toNat slip d f.qaddr (d.poison f bad)) :
    ∃ t, execDescriptorComplete q e bad s = .next t ∧
      (d.chan < 64 → ((t.quire q.toNat).chan d.chan).tokens = ((s.quire q.toNat).chan d.chan).tokens + 1) ∧
      (∀ c, c ≠ d.chan → (t.quire q.toNat).chan c = (s.quire q.toNat).chan c) ∧
      t.ctr (qrB q.toNat + (if e then 0x638 else 0x630)) = s.ctr (qrB q.toNat + (if e then 0x638 else 0x630)) + 1 ∧ t.tim = s.tim ∧
      (t.quire q.toNat).qsp = (m.quire q.toNat).qsp ∧ t.dram = m.dram := by
  obtain ⟨-, hctrs, hquires, -⟩ := State.canonical_maps hs
  have hmove : s.KeepsPart Quire.chans m := hm ▸ s.descMove_chans _ _ _ _ _
  refine ⟨_, execDescriptorComplete_eq hslip hi hf bad, ?_⟩
  rw [← hd, ← hm]
  generalize hc : qrB q.toNat + (if e then 0x638 else 0x630) = c
  generalize hu : ((m.modSlip slip (fun p => p.count 5 d.dramBytes)).modQuire q.toNat (fun x => x.completed e i f d.chan)).bump c = u
  have hus : u.quires = (m.modQuire q.toNat (fun x => x.completed e i f d.chan)).quires := hu ▸ rfl
  have huw : SMap.wf {} u.quires = true := hus ▸ State.modQuire_wf (hmove.quires_wf hquires) _ _
  have huq : u.quire q.toNat = (m.quire q.toNat).completed e i f d.chan := by
    rw [State.quire, hus]
    exact State.modQuire_quire_self (hmove.quires_wf hquires) _ _
  have hreport : u.KeepsPart (fun x => (x.chans, x.qsp)) (u.reportPoison q.toNat slip (d.poison f bad)) :=
    u.keepsPart_reportPoison (fun h => by rw [h.chans, h.qsp]) _ _ _
  obtain ⟨hchans, hqsp⟩ := Prod.mk.inj (hreport.part huw q.toNat)
  have hmw : SMap.wf {} (m.quire q.toNat).chans = true := hmove.part hquires q.toNat ▸ hw
  have hchan : ∀ j, ((u.reportPoison q.toNat slip (d.poison f bad)).quire q.toNat).chan j =
      if d.chan < 64 ∧ j = d.chan then ((s.quire q.toNat).chan d.chan).gained else (s.quire q.toNat).chan j := fun j => by
    have hms : ∀ k, (m.quire q.toNat).chan k = (s.quire q.toNat).chan k := fun k => by
      rw [Quire.chan, hmove.part hquires, Quire.chan]
    rw [Quire.chan, hchans, huq, ← Quire.chan, Quire.completed_chan hmw, hms, hms]
  have hcount : u.ctr c = m.ctr c + 1 := hu ▸ State.ctr_bump_self c 1 (hmove.ctrs_wf hctrs)
  have hkey : descCtr c := hc ▸ descCtr_quire q e
  refine ⟨fun h => ?_, fun j hj => ?_, ?_, ?_, ?_, ?_⟩
  · rw [hchan, if_pos ⟨h, rfl⟩]
    rfl
  · rw [hchan, if_neg (fun h => hj h.2)]
  · rw [hreport.ctr c hkey, hcount, hmove.ctr c hkey]
  · rw [hreport.tim, ← hmove.tim, ← hu]; rfl
  · rw [hqsp, huq, Quire.completed_qsp]
  · rw [State.reportPoison_dram, ← hu]; rfl

end

/-! ## The statement -/

theorem exec_descriptorStart (q : BitVec 7) (e : Bool) (s : State) : exec (.descriptorStart q e) s = execDescriptorStart q e s := rfl

theorem exec_descriptorComplete (q : BitVec 7) (e : Bool) (bad : List Nat) (s : State) :
    exec (.descriptorComplete q e bad) s = execDescriptorComplete q e bad s := rfl

theorem State.canonical_dram {s : State} (h : s.canonical = true) : SMap.wf 0 s.dram = true := by
  simp only [State.canonical, Bool.and_eq_true] at h
  exact h.2

/-- Settles O52: a start is its equation for a bad and for a good descriptor, a completion the move of its block followed by what leaves
memory alone. -/
theorem accessEnginesMoveBlocks : Obligations.AccessEnginesMoveBlocks := by
  unfold Obligations.AccessEnginesMoveBlocks
  refine ⟨?_, ?_, ?_, ?_⟩
  · rintro q e n slip x a ws d s hs rfl hx rfl hslip hact hrun hnext hroom hws hd
    obtain ⟨-, -, hquires, -⟩ := State.canonical_maps hs
    have hd' : d = descOf (x.nextWords e.toNat) := hd.trans (congrArg descOf hws)
    rw [exec_descriptorStart]
    refine ⟨fun cause hf => ⟨_, execDescriptorStart_bad hx hslip hact hrun hnext hroom hd' hf, ?_⟩, fun hf hwait hcredit => ?_⟩
    · rw [hx]
      exact State.aeFault_spec hquires _ _ _ _
    · have hcr : x.produces e.toNat d.chan = true → (x.chan d.chan).credits ≠ 0 := fun h => by
        obtain ⟨h1, h2, h3⟩ := (x.produces_iff _ _).1 h
        exact hcredit h1 h2 h3
      refine ⟨_, s.newFlight x e slip d, execDescriptorStart_good hx hslip hact hrun hnext hroom hd' hf hwait hcr, rfl,
        fun k hk => State.modQuire_quire_ne s hk _, ?_⟩
      rw [State.modQuire_quire_self hquires]
      obtain ⟨hother, hqsp⟩ := x.started_other e d.chan _
      have hchan := x.started_chan e d.chan (s.newFlight x e slip d)
      simp only [Quire.produces_iff] at hchan
      exact ⟨x.started_ae e d.chan _, hws.symm, rfl, rfl, hother, hqsp, hchan⟩
  · exact fun q e s h => execDescriptorStart_idle h
  · rintro q e bad n slip i base x f d s hs rfl rfl hslip hi hf hd hw hqsp rfl
    obtain ⟨-, -, hquires, -⟩ := State.canonical_maps hs
    obtain ⟨t, ht, htok, hother, hctr, htim, htq, htd⟩ := descriptorComplete_effects hslip hi hf hs hw bad hd rfl
    refine ⟨t, ht, htok, hother, hctr, htim, fun h1 h2 h3 hb hp => ?_, fun h1 h2 h3 => ?_⟩
    · have hpoison : d.poison f bad = [] := by simp [Desc.poison, hb, hp]
      rw [hpoison, State.descMove_read _ h1 h2 h3] at htq htd
      rw [State.modQuire_quire_self hquires] at htq
      rw [htq]
      exact ⟨htd, fun j hj => SMap.get_putAll_bytesAt (hqsp _) hj, fun j hj => SMap.get_putAll_bytesAt_outside hj⟩
    · rw [State.descMove_write _ _ h1 h2 h3] at htq htd
      rw [htd]
      exact ⟨htq, fun j hj => SMap.get_putAll_bytesAt (State.canonical_dram hs) hj, fun j hj => SMap.get_putAll_bytesAt_outside hj⟩
  · exact fun q e bad s h => execDescriptorComplete_none h

end Sys2Proof.Machine

/-! SUPPORT. Delta parts of graphs (07): a graph after a change of its delta part, the fields of the banks, and work on one delta part that
also writes quires, DRAM and counters. -/
namespace Sys2Proof.Machine

/-! ## Graphs -/

theorem State.canonical_graphs {s : State} (h : s.canonical = true) : SMap.wf {} s.graphs = true := by
  simp only [State.canonical, Bool.and_eq_true] at h
  simp only [h]

theorem State.graph_congr {s t : State} (h : t.graphs = s.graphs) (k : Nat) : t.graph k = s.graph k := by
  unfold State.graph
  rw [h]

theorem State.modGraph_graph {s : State} (hw : SMap.wf {} s.graphs = true) (n : Nat) (f : Graph → Graph) :
    (s.modGraph n f).graph n = f (s.graph n) := SMap.get_upd_self hw

theorem State.modGraph_wf {s : State} (hw : SMap.wf {} s.graphs = true) (n : Nat) (f : Graph → Graph) :
    SMap.wf {} (s.modGraph n f).graphs = true := SMap.wf_upd hw

theorem State.modDelta_wf {s : State} (hw : SMap.wf {} s.graphs = true) (n : Nat) (f : Delta → Delta) :
    SMap.wf {} (s.modDelta n f).graphs = true := State.modGraph_wf hw n _

theorem State.modDelta_graph_ne (s : State) {n k : Nat} (h : k ≠ n) (f : Delta → Delta) : (s.modDelta n f).graph k = s.graph k :=
  s.modGraph_graph_ne _ h

theorem State.modDelta_graph {s : State} (hw : SMap.wf {} s.graphs = true) {n : Nat} {d : Delta} (hd : (s.graph n).delta = some d)
    (f : Delta → Delta) : (s.modDelta n f).graph n = { s.graph n with delta := some (f d) } := by
  rw [State.modDelta, State.modGraph_graph hw, hd]
  rfl

theorem State.modDelta_delta {s : State} (hw : SMap.wf {} s.graphs = true) {n : Nat} {d : Delta} (hd : (s.graph n).delta = some d)
    (f : Delta → Delta) : ((s.modDelta n f).graph n).delta = some (f d) := by
  rw [State.modDelta_graph hw hd]

@[simp] theorem State.modDelta_quires (s : State) (n : Nat) (f : Delta → Delta) : (s.modDelta n f).quires = s.quires := rfl

/-- A delta part that runs is that of its graph, which is RUNNING. -/
theorem State.deltaRuns_delta {s : State} {n : Nat} {d : Delta} (h : s.deltaRuns n = some d) :
    (s.graph n).delta = some d ∧ (s.graph n).state = 1 := by
  simp only [State.deltaRuns] at h
  split at h
  next hc => exact ⟨h, hc.1⟩
  next => exact absurd h (by simp)

/-! ## Banks -/

/-- The users of a layer are those that the descriptors name. -/
theorem Delta.users_congr {d e : Delta} (h : e.layers = d.layers) (l : Nat) : e.users l = d.users l := by
  unfold Delta.users Delta.layer
  rw [h]

section
variable (d : Delta) (b : Nat) (f : DBank → DBank)

theorem Delta.modBank_eq : d.modBank b f = { d with bankA := (d.modBank b f).bankA, bankB := (d.modBank b f).bankB } := by
  unfold Delta.modBank
  split <;> rfl

@[simp] theorem Delta.modBank_bank : (d.modBank b f).bank b = f (d.bank b) := by
  unfold Delta.modBank Delta.bank
  split <;> rfl

@[simp] theorem Delta.modBank_layers : (d.modBank b f).layers = d.layers := by rw [Delta.modBank_eq]

@[simp] theorem Delta.modBank_bands : (d.modBank b f).bands = d.bands := by rw [Delta.modBank_eq]

@[simp] theorem Delta.modBank_grinds : (d.modBank b f).grinds = d.grinds := by rw [Delta.modBank_eq]

@[simp] theorem Delta.modBank_layer (l : Nat) : (d.modBank b f).layer l = d.layer l := by
  unfold Delta.layer
  rw [Delta.modBank_layers]

@[simp] theorem Delta.modBank_recOff (l x y c : Nat) : (d.modBank b f).recOff l x y c = d.recOff l x y c := by
  simp only [Delta.recOff, Delta.modBank_layer]

theorem Delta.modBank_rowQuires (g : Graph) (l y : Nat) : g.rowQuires (d.modBank b f) l y = g.rowQuires d l y := by
  simp only [Graph.rowQuires, Delta.modBank_bands, Delta.modBank_layer]

end

@[simp] theorem DBank.mark_queue (k : DBank) (l y x grp : Nat) : (k.mark l y x grp).queue = k.queue := by
  unfold DBank.mark
  split <;> rfl

theorem DBank.mem_mark (k : DBank) (l y x grp : Nat) : (l, y, x, grp) ∈ (k.mark l y x grp).dirty := by
  unfold DBank.mark
  split
  next h => simpa using h
  next => simp

/-! ## Work on one delta part -/

/-- t is s but for quires, DRAM, counters and the delta part of graph n, which has P. -/
structure State.Worked (n : Nat) (s : State) (P : Delta → Prop) (t : State) : Prop where
  frame : t = { s with graphs := t.graphs, quires := t.quires, dram := t.dram, ctrs := t.ctrs }
  wf : SMap.wf {} t.graphs = true
  other : ∀ k, k ≠ n → t.graph k = s.graph k
  own : ∃ d, (t.graph n).delta = some d ∧ P d

namespace State.Worked

variable {n : Nat} {s t : State} {P Q : Delta → Prop}

theorem start (hw : SMap.wf {} s.graphs = true) {d : Delta} (hd : (s.graph n).delta = some d) (hP : P d) : Worked n s P s :=
  ⟨rfl, hw, fun _ _ => rfl, d, hd, hP⟩

theorem imp (h : Worked n s P t) (hQ : ∀ d, P d → Q d) : Worked n s Q t := by
  obtain ⟨d, hd, hP⟩ := h.own
  exact ⟨h.frame, h.wf, h.other, d, hd, hQ d hP⟩

theorem tim (h : Worked n s P t) : t.tim = s.tim := by rw [h.frame]

theorem hops (h : Worked n s P t) : t.hops = s.hops := by rw [h.frame]

theorem sfms (h : Worked n s P t) : t.sfms = s.sfms := by rw [h.frame]

theorem slips (h : Worked n s P t) : t.slips = s.slips := by rw [h.frame]

/-- A step that writes quires, DRAM and counters only. -/
theorem beside (h : Worked n s P t) {u : State} (hu : u = { t with quires := u.quires, dram := u.dram, ctrs := u.ctrs }) : Worked n s P u := by
  have hg : u.graphs = t.graphs := by rw [hu]
  obtain ⟨d, hd, hP⟩ := h.own
  refine ⟨?_, hg ▸ h.wf, fun k hk => (State.graph_congr hg k).trans (h.other k hk), d, ?_, hP⟩
  · rw [hu, h.frame]
  · rw [State.graph_congr hg, hd]

theorem bump (h : Worked n s P t) (k m : Nat) : Worked n s P (t.bump k m) := h.beside rfl

theorem modDelta (h : Worked n s P t) {f : Delta → Delta} (hf : ∀ d, P d → Q (f d)) : Worked n s Q (t.modDelta n f) := by
  obtain ⟨d, hd, hP⟩ := h.own
  refine ⟨?_, State.modDelta_wf h.wf n f, fun k hk => (t.modDelta_graph_ne hk f).trans (h.other k hk), f d, State.modDelta_delta h.wf hd f, hf d hP⟩
  conv_lhs => rw [State.modDelta, State.modGraph, h.frame]
  rfl

theorem ite {a b : State} {c : Prop} [Decidable c] (ha : c → Worked n s P a) (hb : ¬ c → Worked n s P b) : Worked n s P (if c then a else b) := by
  split
  next h => exact ha h
  next h => exact hb h

theorem foldl {α : Type} {f : State → α → State} (hf : ∀ t a, Worked n s P t → Worked n s P (f t a)) (l : List α) (h : Worked n s P t) :
    Worked n s P (l.foldl f t) := by
  induction l generalizing t with
  | nil => exact h
  | cons a r ih => exact ih (hf t a h)

end State.Worked

/-- A write to a location reaches quires or DRAM only. -/
theorem State.locPut_frame (s : State) (slip : Nat) (qs : List Nat) (l : Loc) (off : Nat) (b : List (BitVec 8)) :
    s.locPut slip qs l off b = { s with quires := (s.locPut slip qs l off b).quires, dram := (s.locPut slip qs l off b).dram } := by
  have hq : ∀ (a : Nat) (qs : List Nat) (s : State), qs.foldl (fun s q => s.modQuire q (fun x => { x with qsp := SMap.putAll 0 x.qsp a b })) s =
      { s with quires := (qs.foldl (fun s q => s.modQuire q (fun x => { x with qsp := SMap.putAll 0 x.qsp a b })) s).quires } := by
    intro a qs
    induction qs with
    | nil => exact fun _ => rfl
    | cons q r ih =>
      intro s
      rw [List.foldl_cons, ih]
      rfl
  unfold State.locPut
  split
  · split <;> rfl
  · rw [hq]

theorem State.Worked.locPut {n : Nat} {s t : State} {P : Delta → Prop} (h : Worked n s P t) (slip : Nat) (qs : List Nat) (l : Loc) (off : Nat)
    (b : List (BitVec 8)) : Worked n s P (t.locPut slip qs l off b) := by
  refine h.beside ?_
  rw [State.locPut_frame]

end Sys2Proof.Machine

/-! SUPPORT. The delivery of a delta (R178, R179): the words of records (Table 7.4), and what a delivery adds and marks. -/
namespace Sys2Proof.Machine

/-! ## Words in QSP -/

theorem leVal_leBytes_four (v : Nat) : leVal (leBytes 4 v) = v % 2 ^ 32 := by
  simp only [leVal, leBytes, List.range, List.range.loop, List.map_cons, List.map_nil, packLE, BitVec.toNat_ofNat]
  omega

theorem sext_mod (n v : Nat) : sext n (v % 2 ^ n) = sext n v := by
  unfold sext
  rw [Nat.mod_mod]

@[simp] theorem length_leBytes (n v : Nat) : (leBytes n v).length = n := by
  simp [leBytes]

/-- A block written to each of some quires is read back from every one of them. -/
theorem State.foldl_putAll_get (a : Nat) (b : List (BitVec 8)) {q j : Nat} (hj : j < b.length) {qs : List Nat} {s : State}
    (hq : SMap.wf {} s.quires = true) (hw : SMap.wf 0 (s.quire q).qsp = true)
    (hm : q ∈ qs ∨ SMap.get 0 (s.quire q).qsp (a + j) = b[j]) :
    SMap.get 0 ((qs.foldl (fun s q => s.modQuire q (fun x => { x with qsp := SMap.putAll 0 x.qsp a b })) s).quire q).qsp (a + j) = b[j] := by
  induction qs generalizing s with
  | nil => exact hm.resolve_left (by simp)
  | cons p r ih =>
    rw [List.foldl_cons]
    by_cases hp : q = p
    · subst hp
      refine ih (State.modQuire_wf hq _ _) ?_ (.inr ?_)
      · rw [State.modQuire_quire_self hq]
        exact SMap.wf_putAll hw
      · rw [State.modQuire_quire_self hq]
        exact SMap.get_putAll_inside hw hj
    · refine ih (State.modQuire_wf hq _ _) ?_ (hm.imp (fun h => (List.mem_cons.1 h).resolve_left hp) ?_)
      · rw [State.modQuire_quire_ne s hp]
        exact hw
      · rw [State.modQuire_quire_ne s hp]
        exact id

/-- What is written to a place in QSP that does not reach past its end is read back. -/
theorem State.locGet_locPut {s : State} {q off : Nat} {l : Loc} {b : List (BitVec 8)} (hq : SMap.wf {} s.quires = true)
    (hw : SMap.wf 0 (s.quire q).qsp = true) (hl : l.dram = false) (hfit : (l.enc + off) % 2 ^ 20 + b.length ≤ 2 ^ 20) (slip : Nat) (qs : List Nat) :
    (s.locPut slip (q :: qs) l off b).locGet slip (q :: qs) l off b.length = b := by
  simp only [State.locPut, State.locGet, hl, Bool.false_eq_true, if_false, List.headD_cons]
  refine List.ext_getElem (by simp) (fun j hj1 hj => ?_)
  have hplace : (l.enc + off + j) % 2 ^ 20 = (l.enc + off) % 2 ^ 20 + j := by omega
  rw [List.getElem_map, List.getElem_range, hplace]
  exact State.foldl_putAll_get _ b hj hq hw (.inl List.mem_cons_self)

theorem State.getI32_putI32 {s : State} {q off : Nat} {l : Loc} (hq : SMap.wf {} s.quires = true) (hw : SMap.wf 0 (s.quire q).qsp = true)
    (hl : l.dram = false) (hfit : (l.enc + off) % 2 ^ 20 + 4 ≤ 2 ^ 20) (slip : Nat) (qs : List Nat) (v : Int) :
    (s.putI32 slip (q :: qs) l off v).getI32 slip (q :: qs) l off = sext 32 (unsig 32 v) := by
  have h := State.locGet_locPut (b := leBytes 4 (unsig 32 v)) hq hw hl (by simpa using hfit) slip qs
  rw [length_leBytes] at h
  rw [State.getI32, State.putI32, h, leVal_leBytes_four, sext_mod]

/-! ## Accumulators -/

/-- An accumulator of a record in QSP grows by v modulo 2^32, and its record is dirty. -/
theorem State.accAdd_spec {s : State} (hg : SMap.wf {} s.graphs = true) (hq : SMap.wf {} s.quires = true) (hw : ∀ k, SMap.wf 0 (s.quire k).qsp = true)
    {g b l x y o q off : Nat} {qs : List Nat} {d : Delta} (hd : (s.graph g).delta = some d) (hqs : (s.graph g).rowQuires d l y = q :: qs)
    (hdram : (dlBank (d.layer l) b).dram = false) (hoff : off = d.recOff l x y o + 4 * (o % 16))
    (hfit : ((dlBank (d.layer l) b).enc + off) % 2 ^ 20 + 4 ≤ 2 ^ 20) (v : Int) :
    ∃ d', ((s.accAdd g b l x y o v).graph g).delta = some d' ∧ (l, y, x, o / 16) ∈ (d'.bank b).dirty ∧
      (s.accAdd g b l x y o v).getI32 (s.graph g).slip (q :: qs) (dlBank (d.layer l) b) off =
        sext 32 (unsig 32 (s.getI32 (s.graph g).slip (q :: qs) (dlBank (d.layer l) b) off + v)) := by
  have heq : s.accAdd g b l x y o v =
      ((s.putI32 (s.graph g).slip (q :: qs) (dlBank (d.layer l) b) off (s.getI32 (s.graph g).slip (q :: qs) (dlBank (d.layer l) b) off + v)).modDelta g
        (fun d => d.modBank b (fun k => k.mark l y x (o / 16)))).bump (qrB q + 0x668) := by
    simp only [State.accAdd, hd, hqs, hoff, List.headD_cons]
  generalize hu : s.putI32 (s.graph g).slip (q :: qs) (dlBank (d.layer l) b) off (s.getI32 (s.graph g).slip (q :: qs) (dlBank (d.layer l) b) off + v) = u at heq
  have hug : u.graphs = s.graphs := by
    rw [← hu, State.putI32, State.locPut_frame]
  have hud : (u.graph g).delta = some d := by
    rw [State.graph_congr hug, hd]
  rw [heq]
  refine ⟨_, State.modDelta_delta (hug ▸ hg) hud _, ?_, ?_⟩
  · rw [Delta.modBank_bank]
    exact DBank.mem_mark _ _ _ _ _
  · rw [← State.getI32_putI32 hq (hw q) hdram hfit (s.graph g).slip qs, hu]
    rfl

theorem DBank.foldl_queue {α : Type} {f : DBank → α → DBank} (h : ∀ k a, (f k a).queue = k.queue) (l : List α) (k : DBank) :
    (l.foldl f k).queue = k.queue := by
  induction l generalizing k with
  | nil => rfl
  | cons a r ih => exact (ih _).trans (h k a)

/-! ## Deliveries -/

/-- What an ADD layer adds for a delta of a source (Table 7.1): the weight of each of its sources that this is. -/
def ewiseWeight (e : Desc64) (src : Nat) : Int := (if dlSrcA e = src then dlWA e else 0) + (if dlSrcB e = src then dlWB e else 0)

theorem State.deliver_ewise {s : State} {g : Nat} {d : Delta} (hd : (s.graph g).delta = some d) {l : Nat} (hop : dlOp (d.layer l) = 7) (b : Nat)
    (i : DItem) : s.deliver g b l i = s.accAdd g b l i.x i.y i.c (ewiseWeight (d.layer l) i.src * i.d) := by
  simp only [State.deliver, hd, hop, ewiseWeight]

namespace State.Worked

variable {n b : Nat} {s t : State} {P : Delta → Prop} (hP : ∀ d f, (∀ k : DBank, (f k).queue = k.queue) → P d → P (d.modBank b f))
include hP

theorem accAdd (h : Worked n s P t) (l x y o : Nat) (v : Int) : Worked n s P (t.accAdd n b l x y o v) := by
  unfold State.accAdd
  extract_lets gr
  split
  · exact h
  · exact ((h.locPut _ _ _ _ _).modDelta (fun d => hP d _ (fun k => k.mark_queue _ _ _ _))).bump _ _

omit hP in
theorem copyAdd (h : Worked n s P t) (l x y c : Nat) (v : Int) (rows : List Nat) : Worked n s P (t.copyAdd n b l x y c v rows) := by
  unfold State.copyAdd
  extract_lets gr
  split
  · exact h
  · exact .foldl (fun u _ hu => (hu.locPut _ _ _ _ _).bump _ _) _ h

/-- A delivery writes records of one layer and marks them, whatever the layer's operation: it takes no delta and sends none. -/
theorem deliver (h : Worked n s P t) (l : Nat) (i : DItem) : Worked n s P (t.deliver n b l i) := by
  have hrow : ∀ (c : List Nat) (v : State → Nat → Int) (px py : Nat) {u : State}, Worked n s P u →
      Worked n s P (c.foldl (fun s o => s.accAdd n b l px py o (v s o)) u) := fun c v px py u hu => .foldl (fun _ _ hw => hw.accAdd hP _ _ _ _ _) c hu
  unfold State.deliver
  extract_lets gr
  split
  · exact h
  · extract_lets e a xs ys
    have hmark : ∀ k : DBank, (ys.foldl (fun k py => xs.foldl (fun k px => k.mark l py.1 px.1 (i.c / 16)) k) k).queue = k.queue :=
      DBank.foldl_queue (fun k py => DBank.foldl_queue (fun k px => k.mark_queue _ _ _ _) xs k) ys
    split
    · exact .foldl (fun _ _ hu => .foldl (fun _ _ hv => hrow _ _ _ _ hv) _ hu) _ h
    · exact .foldl (fun _ _ hu => .foldl (fun _ _ hv => hrow _ _ _ _ hv) _ hu) _ h
    · exact hrow _ _ _ _ h
    · exact .foldl (fun _ _ hu => .foldl (fun _ _ hv => hv.accAdd hP _ _ _ _ _) _ hu) _ h
    · exact h.accAdd hP _ _ _ _ _
    · exact (h.copyAdd _ _ _ _ _ _).modDelta (fun d => hP d _ hmark)
    · exact h

end State.Worked

end Sys2Proof.Machine

/-! SUPPORT. DXE_INPUT (R173, R179, R181): the next delta of a layer, and the next live item of the INPUT layer. -/
namespace Sys2Proof.Machine

/-! ## The next delta of a layer -/

theorem exec_dxeInput (g : BitVec 32) (layer : BitVec 6) (bank : Bool) (s : State) : exec (.dxeInput g layer bank) s = execDxeInput g layer bank s := rfl

/-- A layer whose queue holds no delta of an open tick takes nothing. -/
theorem execDxeInput_idle {g : BitVec 32} {layer : BitVec 6} {bank : Bool} {d : Delta} {s : State} (hrun : s.deltaRuns g.toNat = some d)
    (hl : layer.toNat ≠ 0)
    (hi : (d.bank bank.toNat).queue.findIdx? (fun x => decide (x.1 = layer.toNat ∧ x.2.tick ≤ (d.bank bank.toNat).settledTo layer.toNat)) = none) :
    execDxeInput g layer bank s = .next s := by
  simp only [execDxeInput, hrun, if_neg hl, hi]

/-- The bank after the delta at place i has left its queue. -/
def DBank.without (i : Nat) (k : DBank) : DBank := { k with queue := k.queue.eraseIdx i }

/-- A layer takes its first delta of an open tick, which is delivered. -/
theorem execDxeInput_takes {g : BitVec 32} {layer : BitVec 6} {bank : Bool} {d : Delta} {i : Nat} {p : Nat × DItem} {s : State}
    (hrun : s.deltaRuns g.toNat = some d) (hl : layer.toNat ≠ 0)
    (hi : (d.bank bank.toNat).queue.findIdx? (fun x => decide (x.1 = layer.toNat ∧ x.2.tick ≤ (d.bank bank.toNat).settledTo layer.toNat)) = some i)
    (hp : (d.bank bank.toNat).queue[i]? = some p) :
    execDxeInput g layer bank s =
      .next ((s.modDelta g.toNat (fun d => d.modBank bank.toNat (DBank.without i))).deliver g.toNat bank.toNat layer.toNat p.2) := by
  simp only [execDxeInput, hrun, if_neg hl, hi, hp]
  rfl

/-! ## Live items -/

theorem State.liveItems_congr {s t : State} (h : t.hops = s.hops) (g r : Nat) : t.liveItems g r = s.liveItems g r := by
  rw [State.liveItems, State.hop_congr h, State.liveItems]

/-- The first item of a graph's channel has been taken. -/
theorem State.liveItems_liveDrop {s : State} (hw : SMap.wf {} s.hops = true) (g r : Nat) :
    (s.liveDrop g r).liveItems g r = (s.liveItems g r).drop 1 := by
  have hf : ((fun c : HChan => decide (c.consumer = .graph g)) ∘ fun c : HChan =>
      if c.consumer = .graph g then { c with ribbon := { c.ribbon with items := c.ribbon.items.drop 1 } } else c) =
      fun c => decide (c.consumer = .graph g) := by
    funext c
    simp only [Function.comp_apply]
    split <;> rfl
  simp only [State.liveItems, State.liveDrop, State.modHop_hop_self hw, List.find?_map, hf]
  cases hc : (s.hop r).chans.find? (fun c => decide (c.consumer = .graph g)) with
  | none => rfl
  | some c =>
    have hg : c.consumer = .graph g := by simpa using List.find?_some hc
    simp only [Option.map_some, Option.getD_some, if_pos hg]

/-! ## GAP markers -/

theorem SMap.get_foldl_count {ls : List Nat} (hn : ls.Nodup) (m : SMap Nat) (j : Nat) :
    SMap.get 0 (ls.foldl (fun m l => SMap.upd 0 m l (· + 1)) m) j = SMap.get 0 m j + if j ∈ ls then 1 else 0 := by
  induction ls generalizing m with
  | nil => rfl
  | cons l r ih =>
    obtain ⟨hl, hr⟩ := List.nodup_cons.1 hn
    rw [List.foldl_cons, ih hr]
    by_cases hj : j = l
    · subst hj
      have hput : SMap.upd 0 m j (· + 1) = SMap.ins m j (SMap.get 0 m j + 1) := by
        unfold SMap.upd SMap.put
        exact if_neg (Nat.succ_ne_zero _)
      simp [hl, hput, SMap.get_ins_self]
    · simp [hj, SMap.get_upd_ne hj]

/-- The read points of a delta part. -/
def Delta.readPoints (d : Delta) : List Nat := (List.range d.layers.length).filter (fun l => dlReadPoint (d.layer l))

/-- One more loss for each of some read points (R181). -/
def Delta.countGaps (ls : List Nat) (d : Delta) : Delta := { d with gaps := ls.foldl (fun m l => SMap.upd 0 m l (· + 1)) d.gaps }

theorem Delta.get_countGaps (d : Delta) (l : Nat) : SMap.get 0 (d.countGaps d.readPoints).gaps l =
    SMap.get 0 d.gaps l + if l < d.layers.length ∧ dlReadPoint (d.layer l) = true then 1 else 0 := by
  have h := SMap.get_foldl_count (ls := d.readPoints) (List.nodup_range.filter _) d.gaps l
  simp only [Delta.readPoints, List.mem_filter, List.mem_range] at h
  exact h

/-! ## The next live item -/

/-- The first item of a graph's channel of a port has been taken and counted in the quire of an INPUT row. -/
def State.takeLive (s : State) (n r q o : Nat) : State := (s.liveDrop n r).bump (qrB q + o)

theorem State.liveItems_takeLive {s : State} (hw : SMap.wf {} s.hops = true) {n r : Nat} {w : BitVec 64} {rest : List (BitVec 64)}
    (hl : s.liveItems n r = w :: rest) (q o : Nat) : (s.takeLive n r q o).liveItems n r = rest := by
  rw [State.takeLive, State.liveItems_congr (State.bump_hops _ _ _), State.liveItems_liveDrop hw, hl]
  rfl

section
variable {s : State} {n r : Nat} {d : Delta} {w : BitVec 64} {rest : List (BitVec 64)} (hr : r = dlRegion (d.layer 0)) (hl : s.liveItems n r = w :: rest)
include hr hl

theorem State.inputLive_gap (hgap : fld w 63 61 = 1) :
    s.inputLive n d = (s.takeLive n r ((s.graph n).rowQuire d 0 0) 0x690).modDelta n (Delta.countGaps d.readPoints) := by
  subst hr
  simp only [State.inputLive, hl, if_pos hgap]
  rfl

/-- A live item of a tick that nothing holds goes to the one bank that serves it, and to the log of a rebase (R179, R185). -/
theorem State.inputLive_item {k b : Nat} (hgap : fld w 63 61 ≠ 1) (hk : k = s.fullTick (fld w 31 0)) (ho : s.originOf r ≤ k)
    (hs : (s.graph n).startTick ≤ k) (hlive : k ≤ d.live) (hhold : ∀ x ∈ d.holdAt, k < x) (hb : d.liveBanks k = [b]) :
    s.inputLive n d =
      if d.logging k then
        ((s.takeLive n r ((s.graph n).rowQuire d 0 (fld w 59 48)) 0x660).inputItem n b w k).logPut n r (.item w k) (dlLogCap (d.layer 0))
      else (s.takeLive n r ((s.graph n).rowQuire d 0 (fld w 59 48)) 0x660).inputItem n b w k := by
  subst hr hk
  have hpass : ¬ (d.live < s.fullTick (fld w 31 0) ∨ d.holdAt.any (fun t => decide (t ≤ s.fullTick (fld w 31 0))) = true) := by
    rintro (h | h)
    · omega
    · obtain ⟨x, hx, hle⟩ := List.any_eq_true.1 h
      exact absurd (hhold x hx) (Nat.not_lt.2 (of_decide_eq_true hle))
  simp only [State.inputLive, hl, if_neg hgap, if_neg (Nat.not_lt.2 ho), if_neg (Nat.not_lt.2 hs), if_neg hpass, hb, List.foldl_cons, List.foldl_nil]
  rfl

end

/-! ## An item at the INPUT layer of a bank -/

/-- The deltas that the changes of a pixel's channels send to the users of the INPUT layer (R173, R179). -/
def Delta.inputDeltas (d : Delta) (ds : List Int) (x y k c : Nat) : List (Nat × DItem) :=
  if (ds[c]?).getD 0 = 0 then [] else (d.users 0).map (fun m => (m, { src := 0, x := x, y := y, c := c, d := (ds[c]?).getD 0, tick := k }))

/-- The changes of a pixel's channels that an event of age `age` makes to an entry (R173). -/
def inputChanges (e : Desc64) (pol : Bool) (age tau : Nat) (old : InEntry) : List Int :=
  List.zipWith (fun x y => x - y) (inChans e pol (inValue e pol age tau)) (inChans e old.pol old.x)

theorem State.Worked.sendChanges {n b : Nat} {s t : State} {d : Delta} (ds : List Int) (x y k : Nat) (cs : List Nat) {q : List (Nat × DItem)}
    (h : Worked n s (fun d' => d'.layers = d.layers ∧ (d'.bank b).queue = q) t) :
    Worked n s (fun d' => d'.layers = d.layers ∧ (d'.bank b).queue = q ++ cs.flatMap (d.inputDeltas ds x y k))
      (cs.foldl (fun s c => if (ds[c]?).getD 0 = 0 then s else s.sendDelta n b { src := 0, x := x, y := y, c := c, d := (ds[c]?).getD 0, tick := k }) t) := by
  induction cs generalizing t q with
  | nil => simpa using h
  | cons c r ih =>
    rw [List.foldl_cons, List.flatMap_cons, ← List.append_assoc]
    refine ih ?_
    unfold Delta.inputDeltas
    split
    · simpa using h
    · refine h.modDelta ?_
      rintro d' ⟨hlay, hq⟩
      rw [Delta.modBank_layers, Delta.modBank_bank, hlay, hq, Delta.users_congr hlay]
      exact ⟨rfl, rfl⟩

/-- An item at the INPUT layer of a bank changes nothing where a positive event of its age is held and it is negative; else it sends the
changes of its pixel's channels. -/
theorem State.inputItem_worked {s : State} {n b k age : Nat} {d : Delta} {w : BitVec 64} {old : InEntry} {ds : List Int}
    (hg : SMap.wf {} s.graphs = true) (hd : (s.graph n).delta = some d) (hage : age = (d.bank b).anchor - s.surfOfTick (dlRegion (d.layer 0)) k)
    (hold : old = s.getEntry (s.graph n) d b (fld w 47 36) (fld w 59 48))
    (hds : ds = inputChanges (d.layer 0) (bit w 60) age (s.surfTau (dlRegion (d.layer 0))) old) :
    Worked n s (fun d' => (d'.bank b).queue = (d.bank b).queue ++
      if old.age = age ∧ old.pol = true ∧ bit w 60 = false then [] else (List.range ds.length).flatMap (d.inputDeltas ds (fld w 47 36) (fld w 59 48) k))
      (s.inputItem n b w k) := by
  subst hage hold hds
  simp only [State.inputItem, hd]
  by_cases hsame : (s.getEntry (s.graph n) d b (fld w 47 36) (fld w 59 48)).age = (d.bank b).anchor - s.surfOfTick (dlRegion (d.layer 0)) k ∧
      (s.getEntry (s.graph n) d b (fld w 47 36) (fld w 59 48)).pol = true ∧ bit w 60 = false
  · rw [if_pos hsame, if_pos (by simpa using hsame)]
    exact .start hg hd (by simp)
  · rw [if_neg hsame, if_neg (by simpa using hsame)]
    exact (Worked.sendChanges _ _ _ _ _ (.start hg hd ⟨rfl, rfl⟩)).locPut _ _ _ _ _ |>.imp (fun d' h => h.2)

/-! ## The rebase log -/

/-- A rebase after an entry has been appended to its log (R187). -/
def Rebase.logged (e : LogEnt) (cap : Nat) (rb : Rebase) : Rebase :=
  if cap ≤ rb.log.length then { rb with full := true } else { rb with log := rb.log ++ [e] }

/-- The log of a rebase, written where one logs, reaches the rebase of its graph and a surface's LOG_PEAK. -/
theorem State.logged_spec {s t : State} {n : Nat} {d : Delta} (hg : SMap.wf {} s.graphs = true) (hd : (s.graph n).delta = some d) (c : Prop)
    [Decidable c] (r : Nat) (e : LogEnt) (cap : Nat) (ht : t = if c then s.logPut n r e cap else s) :
    t = { s with graphs := t.graphs, sfms := t.sfms } ∧ SMap.wf {} t.graphs = true ∧ (∀ k, k ≠ n → t.graph k = s.graph k) ∧
      ∃ rb, (t.graph n).delta = some { d with reb := rb } := by
  subst ht
  split
  · refine ⟨rfl, State.modDelta_wf hg _ _, fun k hk => s.modDelta_graph_ne hk _, d.reb.map (Rebase.logged e cap), ?_⟩
    exact State.modDelta_delta hg hd _
  · exact ⟨rfl, hg, fun _ _ => rfl, d.reb, hd⟩

end Sys2Proof.Machine

/-! SUPPORT. DXE_SETTLE (R179, R181, R182, R189): a layer settles its next closed tick, and the INPUT layer passes the ticks that close. -/
namespace Sys2Proof.Machine

/-! ## The records of a tick -/

/-- d' is d while layer l of bank b settles tick k: no record of the layer that is left is dirty but those of d, and what has been queued
are changes of the layer in that tick which reach its threshold (R179, R182). -/
structure Delta.Settling (d : Delta) (b l k : Nat) (d' : Delta) : Prop where
  layers : d'.layers = d.layers
  grinds : d'.grinds = d.grinds
  settled : (d'.bank b).settled = (d.bank b).settled
  base : (d'.bank b).base = (d.bank b).base
  dirty : ∀ r ∈ (d'.bank b).dirty, r ∈ (d.bank b).dirty ∧ r.1 ≠ l
  queue : ∀ p ∈ (d'.bank b).queue, p ∈ (d.bank b).queue ∨ (p.2.src = l ∧ p.2.tick = k ∧ p.1 ∈ d.users l ∧ thr (d.grindAt l k) ≤ p.2.d.natAbs)

theorem Delta.grindAt_congr {d e : Delta} (hl : e.layers = d.layers) (hg : e.grinds = d.grinds) (l k : Nat) : e.grindAt l k = d.grindAt l k := by
  unfold Delta.grindAt Delta.layer
  rw [hl, hg]

/-- A change that reaches the threshold is sent to every user of its layer. -/
theorem Delta.Settling.send {d d' : Delta} {b l k : Nat} (h : d.Settling b l k d') {i : DItem} (hsrc : i.src = l) (htick : i.tick = k)
    (hthr : thr (d.grindAt l k) ≤ i.d.natAbs) :
    d.Settling b l k (d'.modBank b (fun x => { x with queue := x.queue ++ (d'.users i.src).map (fun m => (m, i)) })) where
  layers := by rw [Delta.modBank_layers, h.layers]
  grinds := by rw [Delta.modBank_grinds, h.grinds]
  settled := by rw [Delta.modBank_bank]; exact h.settled
  base := by rw [Delta.modBank_bank]; exact h.base
  dirty := by rw [Delta.modBank_bank]; exact h.dirty
  queue := by
    rw [Delta.modBank_bank]
    intro p hp
    obtain hp | hp := List.mem_append.1 hp
    · exact h.queue p hp
    · obtain ⟨m, hm, rfl⟩ := List.mem_map.1 hp
      rw [hsrc, Delta.users_congr h.layers] at hm
      exact .inr ⟨hsrc, htick, hm, hthr⟩

/-- The layer starts to settle: its records are clean. -/
theorem Delta.settling_clean (d : Delta) (b l k : Nat) :
    d.Settling b l k (d.modBank b (fun n => { n with dirty := n.dirty.filter (fun r => decide (r.1 ≠ l)) })) where
  layers := d.modBank_layers b _
  grinds := d.modBank_grinds b _
  settled := by rw [Delta.modBank_bank]
  base := by rw [Delta.modBank_bank]
  dirty := by
    rw [Delta.modBank_bank]
    intro r hr
    simpa using hr
  queue := by
    rw [Delta.modBank_bank]
    exact fun p hp => .inl hp

/-- A layer without a dirty record has nothing to settle. -/
theorem Delta.settling_idle {d : Delta} {b l : Nat} (h : (d.bank b).dirty.any (fun r => decide (r.1 = l)) = false) (k : Nat) : d.Settling b l k d where
  layers := rfl
  grinds := rfl
  settled := rfl
  base := rfl
  dirty r hr := ⟨hr, by simpa using List.any_eq_false.1 h r hr⟩
  queue _ hp := .inl hp

section
variable {n b l k : Nat} {d : Delta} {s t : State}

theorem State.Worked.settleRec (h : Worked n s (d.Settling b l k) t) (rc : Nat × Nat × Nat) : Worked n s (d.Settling b l k) (t.settleRec n b l k rc) := by
  obtain ⟨d', hd', hset⟩ := h.own
  simp only [State.settleRec, hd']
  refine .foldl (fun u o hu => ?_) _ (h.bump _ _)
  refine .ite (fun hthr => ?_) (fun _ => .ite (fun _ => hu) (fun _ => hu.bump _ _))
  rw [Delta.grindAt_congr hset.layers hset.grinds] at hthr
  have hsend := hu.modDelta (Q := d.Settling b l k) (fun e he => he.send (i := { src := l, x := rc.2.1, y := rc.1, c := o, d := _, tick := k }) rfl rfl hthr)
  exact ((hsend.modDelta (fun e he => ⟨he.layers, he.grinds, he.settled, he.base, he.dirty, he.queue⟩)).bump _ _).locPut _ _ _ _ _

theorem State.settleTick_worked (hg : SMap.wf {} s.graphs = true) (hd : (s.graph n).delta = some d) :
    Worked n s (d.Settling b l k) (s.settleTick n b l k) := by
  have hclean := (Worked.start (P := fun e => e = d) hg hd rfl).modDelta (Q := d.Settling b l k)
    (f := fun d => d.modBank b (fun n => { n with dirty := n.dirty.filter (fun r => decide (r.1 ≠ l)) })) (fun e he => he ▸ d.settling_clean b l k)
  simp only [State.settleTick, hd]
  exact .foldl (fun u rc hu => hu.settleRec rc) _ hclean

end

/-! ## Copies -/

theorem State.takeCopies_frame (s : State) (g b l t : Nat) : s.takeCopies g b l t = { s with graphs := (s.takeCopies g b l t).graphs } := by
  unfold State.takeCopies
  extract_lets gr
  split
  · rfl
  · extract_lets
    split <;> rfl

/-- The copies that a layer takes are noted beside its banks (R192). -/
theorem State.Worked.takeCopies {n : Nat} {s t : State} {P : Delta → Prop}
    (hP : ∀ (d : Delta) rs cs (m : SMap Nat), P d → P { d with reads := rs, scopies := cs, sched := m }) (h : Worked n s P t) (b l k : Nat) :
    Worked n s P (t.takeCopies n b l k) := by
  unfold State.takeCopies
  extract_lets gr
  split
  · exact h
  · extract_lets mine sch
    exact .ite (fun _ => h) (fun _ => h.modDelta (fun e he => hP e _ _ _ he))

theorem Delta.dropOld_eq (d : Delta) : d.dropOld = { d with old := d.dropOld.old } := by
  unfold Delta.dropOld
  split
  · split <;> rfl
  · rfl

/-! ## A layer settles -/

/-- d' is d after layer l of bank b, settled up to k, has settled up to `upTo`. -/
structure Delta.Settled (d : Delta) (b l k upTo : Nat) (d' : Delta) : Prop where
  own : (d'.bank b).settledTo l = upTo
  others : ∀ m, m ≠ l → (d'.bank b).settledTo m = (d.bank b).settledTo m
  dirty : ∀ r ∈ (d'.bank b).dirty, r ∈ (d.bank b).dirty ∧ r.1 ≠ l
  queue : ∀ p ∈ (d'.bank b).queue, p ∈ (d.bank b).queue ∨ (p.2.src = l ∧ p.2.tick = k ∧ p.1 ∈ d.users l ∧ thr (d.grindAt l k) ≤ p.2.d.natAbs)

theorem Delta.Settling.settled_to {d d' : Delta} {b l k : Nat} (h : d.Settling b l k d') (upTo : Nat) :
    d.Settled b l k upTo (d'.modBank b (fun x => { x with settled := SMap.ins x.settled l upTo })) where
  own := by
    rw [Delta.modBank_bank]
    exact SMap.get_ins_self _ _ _ _
  others m hm := by
    rw [Delta.modBank_bank, DBank.settledTo, DBank.settledTo, ← h.settled, ← h.base]
    exact SMap.get_ins_ne _ _ _ hm
  dirty := by rw [Delta.modBank_bank]; exact h.dirty
  queue := by rw [Delta.modBank_bank]; exact h.queue

/-- What changes beside the banks leaves a layer settled. -/
theorem Delta.Settled.of_banks {d d' e : Delta} {b l k upTo : Nat} (h : d.Settled b l k upTo d') (hb : e.bank b = d'.bank b) :
    d.Settled b l k upTo e where
  own := by rw [hb, h.own]
  others m hm := by rw [hb, h.others m hm]
  dirty := by rw [hb]; exact h.dirty
  queue := by rw [hb]; exact h.queue

theorem Delta.dropOld_bank (d : Delta) (b : Nat) : d.dropOld.bank b = d.bank b := by
  rw [Delta.dropOld_eq]
  rfl

section
variable {n b l : Nat} {d : Delta} {s : State} (hd : (s.graph n).delta = some d)
include hd

/-- A layer that may settle nothing further changes nothing. -/
theorem State.settleLayer_waits (hlim : d.settleLimit b l ((d.bank b).settledTo l) ≤ (d.bank b).settledTo l) : s.settleLayer n b l = s := by
  simp only [State.settleLayer, hd, if_pos hlim]

/-- A layer settles its next tick, or passes the ticks in which nothing reached it. -/
theorem State.settleLayer_worked (hg : SMap.wf {} s.graphs = true) {now lim : Nat} (hnow : now = (d.bank b).settledTo l)
    (hlim : lim = d.settleLimit b l now) (hlt : now < lim) :
    Worked n s (d.Settled b l now (if (d.bank b).dirty.any (fun r => decide (r.1 = l)) then now + 1 else lim)) (s.settleLayer n b l) := by
  subst hnow hlim
  simp only [State.settleLayer, hd, if_neg (Nat.not_le.2 hlt)]
  generalize hu : (if (d.bank b).dirty.any (fun r => decide (r.1 = l)) then (d.bank b).settledTo l + 1 else d.settleLimit b l ((d.bank b).settledTo l)) = upTo
  have htick : Worked n s (d.Settling b l ((d.bank b).settledTo l))
      (if (d.bank b).dirty.any (fun r => decide (r.1 = l)) then s.settleTick n b l ((d.bank b).settledTo l) else s) :=
    .ite (fun _ => State.settleTick_worked hg hd) (fun h => .start hg hd (Delta.settling_idle (Bool.eq_false_iff.2 h) _))
  have hset := htick.modDelta (fun e he => he.settled_to upTo)
  exact (hset.takeCopies (fun e _ _ _ he => he.of_banks rfl) b l (upTo - 1)).modDelta (fun e he => he.of_banks (e.dropOld_bank b))

end

/-! ## The INPUT layer -/

theorem exec_dxeSettle (g : BitVec 32) (layer : BitVec 6) (bank : Bool) (s : State) : exec (.dxeSettle g layer bank) s = execDxeSettle g layer bank s := rfl

theorem execDxeSettle_layer {g : BitVec 32} {layer : BitVec 6} {bank : Bool} {d : Delta} {s : State} (hrun : s.deltaRuns g.toNat = some d)
    (hl : layer.toNat ≠ 0) (hlen : layer.toNat < d.layers.length) :
    execDxeSettle g layer bank s = .next (s.settleLayer g.toNat bank.toNat layer.toNat) := by
  simp only [execDxeSettle, hrun, if_neg (Nat.not_le.2 hlen), if_neg hl]

section
variable {g : BitVec 32} {bank : Bool} {d : Delta} {s : State} (hrun : s.deltaRuns g.toNat = some d) (hlay : d.layers ≠ [])
include hrun hlay

theorem execDxeSettle_pass (hreb : (d.rebOf bank.toNat).filter (fun x => decide (x.phase = 3)) = none) :
    execDxeSettle g 0 bank s = .next (s.passLive g.toNat d) := by
  have hlen : ¬ d.layers.length ≤ (0 : BitVec 6).toNat := by simpa using hlay
  simp only [execDxeSettle, hrun, if_neg hlen, hreb]
  rfl

/-- The rebase after the mark of tick k has been taken from the head of its log. -/
def Rebase.passMark (k : Nat) (rest : List LogEnt) (rb : Rebase) : Rebase := { rb with log := rest, closed := max rb.closed (k + 1) }

theorem execDxeSettle_mark {rb : Rebase} {k : Nat} {rest : List LogEnt}
    (hreb : (d.rebOf bank.toNat).filter (fun x => decide (x.phase = 3)) = some rb) (hlog : rb.log = .mark k :: rest) :
    execDxeSettle g 0 bank s = .next (s.modDelta g.toNat (fun d => { d with reb := d.reb.map (Rebase.passMark k rest) })) := by
  have hlen : ¬ d.layers.length ≤ (0 : BitVec 6).toNat := by simpa using hlay
  simp only [execDxeSettle, hrun, if_neg hlen, hreb, hlog]
  rfl

end

/-- The INPUT layer has passed every tick below k. -/
def Delta.passedTo (k : Nat) (d : Delta) : Delta := { d with live := k }

/-- With nothing waiting and nothing held, the INPUT layer passes every tick that its graph has closed (R181). -/
theorem State.passLive_spec {s : State} {n : Nat} {d : Delta} (hg : SMap.wf {} s.graphs = true) (hd : (s.graph n).delta = some d)
    (hitems : s.liveItems n (dlRegion (d.layer 0)) = []) (hhold : d.holdAt = []) (hread : d.readLimit ((d.bankFor d.live).getD 2) 0 d.live = []) :
    ∃ d', ((s.passLive n d).graph n).delta = some d' ∧ d'.live = max d.live (s.graph n).closed ∧ d'.bankA.queue = d.bankA.queue ∧
      d'.bankB.queue = d.bankB.queue ∧ (∀ k, k ≠ n → (s.passLive n d).graph k = s.graph k) ∧ (s.passLive n d).tim = s.tim ∧
      (s.passLive n d).quires = s.quires := by
  simp only [State.passLive, hitems, hhold, hread, List.filter_nil, List.map_nil, List.append_nil, List.foldl_nil]
  split
  next h => exact ⟨d, hd, (Nat.max_eq_left h).symm, rfl, rfl, fun _ _ => rfl, rfl, rfl⟩
  next h =>
    have hmax : max d.live (s.graph n).closed = (s.graph n).closed := Nat.max_eq_right (Nat.le_of_not_le h)
    rw [hmax]
    generalize hu : s.modDelta n (fun d => { d with live := (s.graph n).closed }) = u
    have hug : (u.graph n).delta = some (d.passedTo (s.graph n).closed) := by
      rw [← hu, State.modDelta_delta hg hd]
      rfl
    have huo : ∀ k, k ≠ n → u.graph k = s.graph k := fun k hk => by rw [← hu, State.modDelta_graph_ne _ hk]
    generalize hv : (if d.logging ((s.graph n).closed - 1) = true then _ else u) = v
    obtain ⟨hvf, hvw, hvo, rb, hvd⟩ := State.logged_spec (hu ▸ State.modDelta_wf hg n _) hug _ _ _ _ hv.symm
    have hw : Worked n v (fun e => e.live = (s.graph n).closed ∧ e.bankA.queue = d.bankA.queue ∧ e.bankB.queue = d.bankB.queue)
        ((v.takeCopies n ((d.bankFor d.live).getD 2) 0 ((s.graph n).closed - 1)).modDelta n Delta.dropOld) :=
      ((State.Worked.start (P := fun e => e.live = (s.graph n).closed ∧ e.bankA.queue = d.bankA.queue ∧ e.bankB.queue = d.bankB.queue) hvw
        hvd ⟨rfl, rfl, rfl⟩).takeCopies (fun _ _ _ _ h => h) _ _ _).modDelta (fun e he => by rwa [Delta.dropOld_eq])
    obtain ⟨d', hd', hlive, hA, hB⟩ := hw.own
    refine ⟨d', hd', hlive, hA, hB, fun k hk => ?_, ?_, ?_⟩
    · rw [hw.other k hk, hvo k hk, huo k hk]
    · rw [hw.frame, hvf, ← hu]
      rfl
    · rw [State.modDelta_quires, State.takeCopies_frame, hvf, ← hu]
      rfl

end Sys2Proof.Machine

/-! PROOF. The statement about deltas (O49). -/
namespace Sys2Proof.Machine

/-- What a layer leaves that takes a delta: its queue without it, and, in QSP at an ADD layer, the accumulator grown and its record dirty
(R178, R179). -/
theorem execDxeInput_takes_spec {g : BitVec 32} {layer : BitVec 6} {bank : Bool} {d : Delta} {i : Nat} {p : Nat × DItem} {n l b : Nat} {s : State}
    (hs : s.canonical = true) (hn : n = g.toNat) (hl : l = layer.toNat) (hb : b = bank.toNat) (hrun : s.deltaRuns n = some d) (hl0 : l ≠ 0)
    (hi : (d.bank b).queue.findIdx? (fun x => decide (x.1 = l ∧ x.2.tick ≤ (d.bank b).settledTo l)) = some i) (hp : (d.bank b).queue[i]? = some p) :
    ∃ t d', exec (.dxeInput g layer bank) s = .next t ∧ (t.graph n).delta = some d' ∧ (d'.bank b).queue = (d.bank b).queue.eraseIdx i ∧
      (∀ k, k ≠ n → t.graph k = s.graph k) ∧ t.tim = s.tim ∧ t.hops = s.hops ∧ t.sfms = s.sfms ∧ t.slips = s.slips ∧
      ∀ (e : Desc64) (q : Nat) (qs : List Nat) (off : Nat), e = d.layer l → dlOp e = 7 → (dlBank e b).dram = false → (∀ k, SMap.wf 0 (s.quire k).qsp = true) →
        (s.graph n).rowQuires d l p.2.y = q :: qs → off = d.recOff l p.2.x p.2.y p.2.c + 4 * (p.2.c % 16) → ((dlBank e b).enc + off) % 2 ^ 20 + 4 ≤ 2 ^ 20 →
        (l, p.2.y, p.2.x, p.2.c / 16) ∈ (d'.bank b).dirty ∧ t.getI32 (s.graph n).slip (q :: qs) (dlBank e b) off =
          sext 32 (unsig 32 (s.getI32 (s.graph n).slip (q :: qs) (dlBank e b) off +
            ((if dlSrcA e = p.2.src then dlWA e else 0) + (if dlSrcB e = p.2.src then dlWB e else 0)) * p.2.d)) := by
  subst hn hl hb
  obtain ⟨hd, -⟩ := State.deltaRuns_delta hrun
  obtain ⟨-, -, hquires, -⟩ := State.canonical_maps hs
  have hg := State.canonical_graphs hs
  generalize hu : s.modDelta g.toNat (fun d => d.modBank bank.toNat (DBank.without i)) = u
  have hud : u.graph g.toNat = { s.graph g.toNat with delta := some (d.modBank bank.toNat (DBank.without i)) } := by
    rw [← hu, State.modDelta_graph hg hd]
  have hw : State.Worked g.toNat s (fun e => (e.bank bank.toNat).queue = (d.bank bank.toNat).queue.eraseIdx i) (u.deliver g.toNat bank.toNat layer.toNat p.2) := by
    refine .deliver (fun e f hf he => ?_) ?_ _ _
    · rw [Delta.modBank_bank, hf, he]
    · rw [← hu]
      refine (State.Worked.start (P := fun e => e = d) hg hd rfl).modDelta (fun e he => ?_)
      rw [he, Delta.modBank_bank]
      rfl
  obtain ⟨d', hd', hq⟩ := hw.own
  refine ⟨_, d', (exec_dxeInput _ _ _ _).trans (by rw [execDxeInput_takes hrun hl0 hi hp, hu]), hd', hq, hw.other, hw.tim, hw.hops, hw.sfms, hw.slips, ?_⟩
  rintro e q qs off rfl hop hdram hqsp hrow hoff hfit
  have hlay : (d.modBank bank.toNat (DBank.without i)).layer layer.toNat = d.layer layer.toNat := d.modBank_layer _ _ _
  have hadd := State.accAdd_spec (s := u) (g := g.toNat) (b := bank.toNat) (l := layer.toNat) (x := p.2.x) (y := p.2.y) (o := p.2.c) (q := q) (off := off) (qs := qs)
    (hu ▸ State.modDelta_wf hg _ _) (hu ▸ hquires) (hu ▸ hqsp) (d := d.modBank bank.toNat (DBank.without i)) (by rw [hud])
    (by rw [hud, Delta.modBank_rowQuires, ← hrow]; rfl) (by rw [hlay, hdram]) (by rw [hoff, Delta.modBank_recOff]) (by rw [hlay]; exact hfit)
    (ewiseWeight (d.layer layer.toNat) p.2.src * p.2.d)
  rw [State.deliver_ewise (by rw [hud]) (by rw [hlay, hop]), hlay] at hd' ⊢
  obtain ⟨d'', hd'', hmark, hval⟩ := hadd
  cases (hd'.symm.trans hd'')
  rw [hlay, hud] at hval
  exact ⟨hmark, hval.trans (by rw [← hu]; rfl)⟩

/-- What the INPUT layer leaves that takes a live item: the deltas of the item's changes behind the queue of the bank that serves it
(R173, R179). -/
theorem State.inputLive_spec {d : Delta} {w : BitVec 64} {rest : List (BitVec 64)} {ds : List Int} {old : InEntry} {n r k b age : Nat} {s : State}
    (hs : s.canonical = true) (hd : (s.graph n).delta = some d) (hr : r = dlRegion (d.layer 0)) (hl : s.liveItems n r = w :: rest)
    (hgap : fld w 63 61 ≠ 1) (hk : k = s.fullTick (fld w 31 0)) (ho : s.originOf r ≤ k) (hstart : (s.graph n).startTick ≤ k) (hlive : k ≤ d.live)
    (hhold : ∀ x ∈ d.holdAt, k < x) (hb : d.liveBanks k = [b]) (hage : age = (d.bank b).anchor - s.surfOfTick r k)
    (hold : old = s.getEntry (s.graph n) d b (fld w 47 36) (fld w 59 48))
    (hds : ds = inputChanges (d.layer 0) (bit w 60) age (s.surfTau r) old) :
    ∃ d', ((s.inputLive n d).graph n).delta = some d' ∧ (s.inputLive n d).liveItems n r = rest ∧
      (d'.bank b).queue = (d.bank b).queue ++ (if old.age = age ∧ old.pol = true ∧ bit w 60 = false then [] else
        (List.range ds.length).flatMap (d.inputDeltas ds (fld w 47 36) (fld w 59 48) k)) ∧
      (∀ j, j ≠ n → (s.inputLive n d).graph j = s.graph j) ∧ (s.inputLive n d).tim = s.tim ∧ (s.inputLive n d).slips = s.slips := by
  have hg := State.canonical_graphs hs
  generalize ht : s.inputLive n d = t
  rw [State.inputLive_item hr hl hgap hk ho hstart hlive hhold hb] at ht
  generalize hu : s.takeLive n r ((s.graph n).rowQuire d 0 (fld w 59 48)) 0x660 = u at ht
  have hul : u.liveItems n r = rest := hu ▸ State.liveItems_takeLive (State.canonical_hops hs) hl _ _
  subst hr
  have hw := State.inputItem_worked (s := u) (n := n) (b := b) (k := k) (age := age) (d := d) (w := w) (old := old) (ds := ds) (hu ▸ hg) (hu ▸ hd)
    (hu ▸ hage) (hu ▸ hold) (hu ▸ hds)
  obtain ⟨d', hd', hq⟩ := hw.own
  obtain ⟨htf, -, hto, rb, htd⟩ := State.logged_spec hw.wf hd' _ _ _ _ ht.symm
  refine ⟨_, htd, ?_, hq, fun j hj => ?_, ?_, ?_⟩
  · rw [State.liveItems_congr (t := t) (s := u) (by rw [htf]; exact hw.hops), hul]
  · rw [hto j hj, hw.other j hj, ← hu]
    rfl
  · rw [htf]
    exact hw.tim.trans (hu ▸ rfl)
  · rw [htf]
    exact hw.slips.trans (hu ▸ rfl)

/-- What a GAP marker leaves at the INPUT layer (R181). -/
theorem State.inputLive_gap_spec {d : Delta} {w : BitVec 64} {rest : List (BitVec 64)} {n r : Nat} {s : State}
    (hs : s.canonical = true) (hd : (s.graph n).delta = some d) (hr : r = dlRegion (d.layer 0)) (hl : s.liveItems n r = w :: rest)
    (hgap : fld w 63 61 = 1) :
    ((s.inputLive n d).graph n).delta = some (d.countGaps d.readPoints) ∧ (s.inputLive n d).liveItems n r = rest ∧
      (∀ k, k ≠ n → (s.inputLive n d).graph k = s.graph k) ∧ (s.inputLive n d).quires = s.quires ∧ (s.inputLive n d).dram = s.dram ∧
      (s.inputLive n d).tim = s.tim := by
  rw [State.inputLive_gap hr hl hgap]
  exact ⟨State.modDelta_delta (State.canonical_graphs hs) hd _,
    (State.liveItems_congr rfl _ _).trans (State.liveItems_takeLive (State.canonical_hops hs) hl ((s.graph n).rowQuire d 0 0) 0x690),
    fun k hk => State.modDelta_graph_ne _ hk _, rfl, rfl, rfl⟩

/-- At the INPUT layer, where its bank is not being replayed, the next live item is taken. -/
theorem execDxeInput_live {g : BitVec 32} {bank : Bool} {d : Delta} {s : State} (hrun : s.deltaRuns g.toNat = some d)
    (hreb : (d.rebOf bank.toNat).filter (fun x => decide (x.phase = 3)) = none) : exec (.dxeInput g 0 bank) s = .next (s.inputLive g.toNat d) := by
  rw [exec_dxeInput]
  simp only [execDxeInput, hrun, hreb]
  rfl

/-- Settles O49: each input and each settlement is its equation, followed by what it leaves of the one delta part. -/
theorem deltasPropagateAndSettle : Obligations.DeltasPropagateAndSettle := by
  unfold Obligations.DeltasPropagateAndSettle
  refine ⟨?_, ?_, ?_, ?_, ?_, ?_, ?_⟩
  · exact fun g layer bank d i p n l b s hs hn hl hb hrun hl0 hi hp => execDxeInput_takes_spec hs hn hl hb hrun hl0 hi hp
  · exact fun g layer bank d s hrun hl hi => execDxeInput_idle hrun hl hi
  · rintro g bank d w rest n r s hs rfl hrun hreb hr hl hgap
    obtain ⟨hd, hitems, hother, hq, hdram, htim⟩ := State.inputLive_gap_spec hs (State.deltaRuns_delta hrun).1 hr hl hgap
    exact ⟨_, _, execDxeInput_live hrun hreb, hd, hitems, rfl, d.get_countGaps, hother, hq, hdram, htim⟩
  · rintro g bank d w rest ds old n r k b age s hs rfl hrun hreb hr hl hgap hk ho hstart hlive hhold hb hage hold hds
    obtain ⟨d', hd', h⟩ := State.inputLive_spec hs (State.deltaRuns_delta hrun).1 hr hl hgap hk ho hstart hlive hhold hb hage hold hds
    exact ⟨_, d', execDxeInput_live hrun hreb, hd', h⟩
  · rintro g layer bank d n l b now lim s hs rfl rfl rfl hrun hl hlen hnow hlim
    obtain ⟨hd, -⟩ := State.deltaRuns_delta hrun
    rw [exec_dxeSettle, execDxeSettle_layer hrun hl hlen]
    refine ⟨fun hle => ?_, fun hlt => ?_⟩
    · subst hnow hlim
      rw [State.settleLayer_waits hd hle]
    · have hw := State.settleLayer_worked hd (State.canonical_graphs hs) hnow hlim hlt
      obtain ⟨d', hd', hset⟩ := hw.own
      exact ⟨_, d', rfl, hd', hset.own, hset.dirty, hset.others, hset.queue, hw.other, hw.tim, hw.hops, hw.slips⟩
  · rintro g bank d n s hs rfl hrun hlay hreb hitems hhold hread
    obtain ⟨d', h⟩ := State.passLive_spec (State.canonical_graphs hs) (State.deltaRuns_delta hrun).1 hitems hhold hread
    exact ⟨_, d', execDxeSettle_pass hrun hlay hreb, h⟩
  · rintro g bank d rb k n rest s hs rfl hrun hlay hreb hlog
    have hrb : d.reb = some rb := by
      simp only [Delta.rebOf, Option.filter_eq_some_iff] at hreb
      exact hreb.1.1
    refine ⟨_, _, execDxeSettle_mark hrun hlay hreb hlog, rfl,
      State.modDelta_delta (State.canonical_graphs hs) (State.deltaRuns_delta hrun).1 _, rfl, ?_, fun j hj => State.modDelta_graph_ne _ hj _⟩
    simp only [hrb]
    rfl

end Sys2Proof.Machine

/-! SUPPORT. The beginning of rebases (R185, R186, R190, R191, R588): what a trace record, a change of the regions of a surface, and a write of
memory leave alone, and what a rebase that begins leaves. -/
namespace Sys2Proof.Machine

/-! ## After a trace record -/

section
variable {s t : State} (h : State.Traced s t)
include h

theorem State.Traced.graphs : t.graphs = s.graphs := by rw [h.1]

theorem State.Traced.sfms : t.sfms = s.sfms := by rw [h.1]

theorem State.Traced.tim : t.tim = s.tim := by rw [h.1]

theorem State.Traced.quires : t.quires = s.quires := by rw [h.1]

theorem State.Traced.dram : t.dram = s.dram := by rw [h.1]

/-- A trace record counts in no page of a surface. -/
theorem State.Traced.sfm_ctr (r o : Nat) : t.ctr (sfmP r + o) = s.ctr (sfmP r + o) :=
  h.2.2 _ (by unfold sfmP obsB; omega) (by unfold sfmP obsB; omega)

end

theorem State.tracePhase_traced (s : State) (g r phase : Nat) : State.Traced s (s.tracePhase g r phase) := s.trace_traced _ _ _ _

/-! ## Each region of a surface -/

section
variable {g : State → Nat → Sfm → Sfm} (hg : ∀ s i f, g (State.modSfm s i f) = g s)

theorem State.foldl_modSfm_each_frame (l : List Nat) (s : State) : l.foldl (fun s i => s.modSfm i (g s i)) s =
    { s with sfms := (l.foldl (fun s i => s.modSfm i (g s i)) s).sfms } := by
  induction l generalizing s with
  | nil => rfl
  | cons a r ih =>
    rw [List.foldl_cons, ih]
    rfl

include hg

/-- A change of each of some regions that does not depend on the regions. -/
theorem State.foldl_modSfm_each {l : List Nat} (hl : l.Nodup) {s : State} (hw : SMap.wf {} s.sfms = true) (i : Nat) :
    (l.foldl (fun s i => s.modSfm i (g s i)) s).sfm i = if i ∈ l then g s i (s.sfm i) else s.sfm i := by
  induction l generalizing s with
  | nil => rfl
  | cons a r ih =>
    obtain ⟨ha, hr⟩ := List.nodup_cons.1 hl
    rw [List.foldl_cons, ih hr (State.modSfm_wf hw a _), State.modSfm_sfm hw, hg]
    by_cases hi : i = a
    · rw [if_pos hi, hi, if_neg ha, if_pos List.mem_cons_self]
    · rw [if_neg hi]
      simp only [List.mem_cons, hi, false_or]

end

/-! ## A rebase begins -/

/-- The delta part with a rebase that begins: its bank is fresh (R185). -/
def Delta.rebased (rb : Rebase) (d : Delta) : Delta :=
  { (d.modBank rb.bank (fun _ => { anchor := rb.anchor, base := rb.boundary })) with
    reb := some { rb with phase := 1, closed := rb.boundary }, startDue := false, old := d.old.filter (fun o => decide (o.1 ≠ rb.bank)) }

/-- A region with the SNAP bits of every beat of its sensor set, for a boundary (R185). -/
def State.snapAll (boundary : Nat) (s : State) (i : Nat) (f : Sfm) : Sfm := { f with snap := { hi := (s.regionPix i + 15) / 16 }, snapAt := boundary }

/-- t is s in which a rebase of graph n on surface r has begun, that leaves the delta part d. -/
structure State.Begun (n r : Nat) (d : Delta) (s t : State) : Prop where
  own : (t.graph n).delta = some d
  other : ∀ k, k ≠ n → t.graph k = s.graph k
  snap : ∀ i ∈ s.surfRegions r, (t.sfm i).snap = { hi := (s.regionPix i + 15) / 16 } ∧ (t.sfm i).entries = (s.sfm i).entries
  rest : ∀ i, i ∉ s.surfRegions r → t.sfm i = s.sfm i
  count : t.ctr (sfmP r + 0x168) = s.ctr (sfmP r + 0x168) + 1
  tim : t.tim = s.tim
  quires : t.quires = s.quires

/-- A rebase begins in a state whose graph n has the delta part d, on the surface of its INPUT layer. -/
theorem State.beginRebase_begun {s : State} {n r : Nat} {d : Delta} (hg : SMap.wf {} s.graphs = true) (hf : SMap.wf {} s.sfms = true)
    (hc : SMap.wf 0 s.ctrs = true) (hd : (s.graph n).delta = some d) (hr : r = dlRegion (d.layer 0)) (rb : Rebase) :
    State.Begun n r (d.rebased rb) s (s.beginRebase n rb) := by
  subst hr
  generalize hu : s.modDelta n (Delta.rebased rb) = u
  generalize hv : (u.surfRegions (dlRegion (d.layer 0))).foldl (fun s i => s.modSfm i (State.snapAll rb.boundary s i)) u = v
  have heq : s.beginRebase n rb = (v.bump (sfmP (dlRegion (d.layer 0)) + 0x168)).tracePhase n (dlRegion (d.layer 0)) 1 := by
    rw [← hv, ← hu]
    simp only [State.beginRebase, hd]
    rfl
  have hvf : v = { u with sfms := v.sfms } := by
    rw [← hv]
    exact State.foldl_modSfm_each_frame _ _
  have hsfm : ∀ i, v.sfm i = if i ∈ s.surfRegions (dlRegion (d.layer 0)) then State.snapAll rb.boundary s i (s.sfm i) else s.sfm i := fun i => by
    rw [← hv, ← hu]
    exact State.foldl_modSfm_each (g := State.snapAll rb.boundary) (fun _ _ _ => rfl) (State.surfRegions_nodup _ _)
      (s := s.modDelta n (Delta.rebased rb)) hf i
  have htr := (v.bump (sfmP (dlRegion (d.layer 0)) + 0x168)).tracePhase_traced n (dlRegion (d.layer 0)) 1
  have hgr : ∀ k, (s.beginRebase n rb).graph k = u.graph k := fun k => State.graph_congr (by rw [heq, htr.graphs, State.bump_graphs, hvf]) k
  have hsf : ∀ i, (s.beginRebase n rb).sfm i = v.sfm i := fun i => by
    rw [heq, State.sfm, htr.sfms]
    rfl
  exact {
    own := by rw [hgr, ← hu, State.modDelta_delta hg hd]
    other := fun k hk => by rw [hgr, ← hu, State.modDelta_graph_ne _ hk]
    snap := fun i hi => by
      rw [hsf, hsfm, if_pos hi]
      exact ⟨rfl, rfl⟩
    rest := fun i hi => by rw [hsf, hsfm, if_neg hi]
    count := by
      have hcv : v.ctrs = s.ctrs := by rw [hvf, ← hu]; rfl
      rw [heq, htr.sfm_ctr, State.ctr_bump_self _ _ (hcv ▸ hc), State.ctr, hcv]
      rfl
    tim := State.beginRebase_tim _ _ _
    quires := by
      rw [heq, htr.quires, State.bump_quires, hvf, ← hu]
      rfl }

/-- A rebase that begins after a change of the delta part. -/
theorem State.Begun.after_modDelta {n r : Nat} {d : Delta} {f : Delta → Delta} {s t : State} (h : State.Begun n r d (s.modDelta n f) t) :
    State.Begun n r d s t where
  own := h.own
  other k hk := (h.other k hk).trans (s.modDelta_graph_ne hk f)
  snap := h.snap
  rest := h.rest
  count := h.count
  tim := h.tim
  quires := h.quires

end Sys2Proof.Machine

/-! SUPPORT. REBASE_START, START_REBASE and WAKE_REBASE (R185, R191, R588). -/
namespace Sys2Proof.Machine

theorem exec_rebaseStart (g : BitVec 32) (s : State) : exec (.rebaseStart g) s = execRebaseStart g s := rfl

theorem exec_startRebase (g : BitVec 32) (s : State) : exec (.startRebase g) s = execStartRebase g s := rfl

theorem exec_wakeRebase (g : BitVec 32) (s : State) : exec (.wakeRebase g) s = execWakeRebase g s := rfl

/-- A rebase that begins after a change of the delta part. -/
theorem State.beginRebase_after {s : State} {n r : Nat} {d : Delta} (hs : s.canonical = true) (hd : (s.graph n).delta = some d) (f : Delta → Delta)
    (hr : r = dlRegion ((f d).layer 0)) (rb : Rebase) : State.Begun n r ((f d).rebased rb) s ((s.modDelta n f).beginRebase n rb) := by
  have hg := State.canonical_graphs hs
  have hf := State.canonical_sfms hs
  have hc := State.canonical_ctrs hs
  exact (State.beginRebase_begun (State.modDelta_wf hg n f) hf hc (State.modDelta_delta hg hd f) hr rb).after_modDelta

/-! ## The rebase of a new surface epoch -/

/-- The end of the epoch after the present one begins the next rebase. -/
def Delta.nextEpoch (d : Delta) : Delta := { d with epoch := d.epoch + 1 }

/-- The rebase that the end of epoch `d.epoch` begins (R185). -/
def State.normalRebase (s : State) (r bound : Nat) (d : Delta) : Rebase :=
  { kind := .normal, phase := 1, boundary := bound, bank := d.target, anchor := s.anchorOf r (dlG (d.layer 0)) (d.epoch + 1),
    switchAt := some (s.tickOfSurf r (s.anchorOf r (dlG (d.layer 0)) d.epoch)) }

section
variable {s : State} {n r k bound : Nat} {d : Delta} (hd : (s.graph n).delta = some d) (hdue : d.startDue = false) (hrun : (s.graph n).state = 1)
  (hreb : d.reb = none) (hr : r = dlRegion (d.layer 0)) (hbound : bound = s.tickOfSurf r (s.epochEnd r d.epoch + 1))
include hd hdue hrun hreb hr hbound

theorem State.rebaseDue_early (hk : k < bound) : s.rebaseDue n k = s := by
  subst hr hbound
  simp only [State.rebaseDue, hd, hrun, hdue, hreb, if_pos hk, ne_eq, not_true_eq_false, if_false, Bool.false_eq_true]

theorem State.rebaseDue_normal (hk : bound ≤ k) (hon : s.quiresOn (s.graph n) = true) :
    s.rebaseDue n k = (s.modDelta n Delta.nextEpoch).beginRebase n (s.normalRebase r bound d) := by
  subst hr hbound
  simp only [State.rebaseDue, hd, hrun, hdue, hreb, if_neg (Nat.not_lt.2 hk), hon, ne_eq, not_true_eq_false, if_false, Bool.false_eq_true, Bool.not_true]
  rfl

end

theorem execRebaseStart_eq {g : BitVec 32} {d : Delta} {s : State} (hd : (s.graph g.toNat).delta = some d) (hdue : d.startDue = false) :
    execRebaseStart g s = .next (s.rebaseDue g.toNat (min s.tim.tick (s.hop (s.cfgPort (dlRegion (d.layer 0)))).nextEnd)) := by
  simp only [execRebaseStart, hd, hdue, Bool.false_eq_true, if_false]

/-- REBASE_START at or past the end of the epoch begins a normal rebase. -/
theorem State.rebaseDue_normal_begun {s : State} {n r k bound : Nat} {d : Delta} (hs : s.canonical = true) (hd : (s.graph n).delta = some d)
    (hdue : d.startDue = false) (hrun : (s.graph n).state = 1) (hreb : d.reb = none) (hr : r = dlRegion (d.layer 0))
    (hbound : bound = s.tickOfSurf r (s.epochEnd r d.epoch + 1)) (hk : bound ≤ k) (hon : s.quiresOn (s.graph n) = true) :
    State.Begun n r (d.nextEpoch.rebased (s.normalRebase r bound d)) s (s.rebaseDue n k) := by
  rw [State.rebaseDue_normal hd hdue hrun hreb hr hbound hk hon]
  exact State.beginRebase_after hs hd Delta.nextEpoch hr _

/-! ## The start rebase and its like -/

/-- The delta part with epoch e named as the one whose end begins the next rebase. -/
def Delta.atEpoch (e : Nat) (d : Delta) : Delta := { d with epoch := e }

/-- A rebase that begins at a boundary with nothing in service (R588): to the anchor of the epoch that serves the boundary, or, where that
epoch has ended, to the next one's, not to switch before the former. -/
def State.startRebaseAt (s : State) (r : Nat) (kind : RebKind) (boundary : Nat) (d : Delta) : Rebase :=
  let u := s.surfOfTick r boundary
  let j := s.servingEpoch r (dlG (d.layer 0)) u
  let late := s.epochEnd r j < u
  { kind := kind, phase := 1, boundary := boundary, bank := d.target, anchor := s.anchorOf r (dlG (d.layer 0)) (if late then j + 1 else j),
    notBefore := if late then s.tickOfSurf r (s.anchorOf r (dlG (d.layer 0)) j) else 0 }

theorem State.beginStart_begun {s : State} {n r : Nat} {d : Delta} (hs : s.canonical = true) (hd : (s.graph n).delta = some d)
    (hr : r = dlRegion (d.layer 0)) (kind : RebKind) (boundary : Nat) :
    State.Begun n r ((d.atEpoch (epochOf (s.surfL r) (s.surfOfTick r boundary))).rebased (s.startRebaseAt r kind boundary d)) s
      (s.beginStart n kind boundary) := by
  generalize he : epochOf (s.surfL r) (s.surfOfTick r boundary) = e
  have heq : s.beginStart n kind boundary = (s.modDelta n (Delta.atEpoch e)).beginRebase n (s.startRebaseAt r kind boundary d) := by
    subst hr he
    simp only [State.beginStart, hd]
    rfl
  rw [heq]
  exact State.beginRebase_after hs hd (Delta.atEpoch e) hr _

theorem execStartRebase_waits {g : BitVec 32} {d : Delta} {s : State} (hd : (s.graph g.toNat).delta = some d) (hdue : d.startDue = true)
    (hrun : (s.graph g.toNat).state = 1) (hk : s.tim.tick < (s.graph g.toNat).startTick) : execStartRebase g s = .next s := by
  simp only [execStartRebase, State.rebaseDue, hd, hdue, hrun, if_neg (Nat.not_le.2 hk), if_true, ne_eq, not_true_eq_false, if_false]

theorem execStartRebase_begins {g : BitVec 32} {d : Delta} {s : State} (hd : (s.graph g.toNat).delta = some d) (hdue : d.startDue = true)
    (hrun : (s.graph g.toNat).state = 1) (hk : (s.graph g.toNat).startTick ≤ s.tim.tick) :
    execStartRebase g s = .next (s.beginStart g.toNat .start (s.graph g.toNat).startTick) := by
  simp only [execStartRebase, State.rebaseDue, hd, hdue, hrun, if_pos hk, if_true, ne_eq, not_true_eq_false, if_false]

/-! ## The wake rebase -/

/-- The delta part whose bank in service has served its last tick (R191). -/
def State.woken (s : State) (r b u : Nat) (d : Delta) : Delta :=
  { d with deadFrom := some (d.deadFrom.getD (s.tickOfSurf r (d.bank b).anchor)), epoch := epochOf (s.surfL r) u }

def State.wakeRebaseAt (s : State) (r u : Nat) (d : Delta) : Rebase :=
  { kind := .wake, phase := 1, boundary := s.tickOfSurf r u, bank := d.target,
    anchor := s.anchorOf r (dlG (d.layer 0)) (s.servingEpoch r (dlG (d.layer 0)) u) }

section
variable {g : BitVec 32} {d : Delta} {r b f u : Nat} {s : State} (hrun : s.deltaRuns g.toNat = some d) (hr : r = dlRegion (d.layer 0))
  (hserv : d.service = some (b, f)) (hreb : d.reb = none)
  (hu : u = s.surfOfTick r ((((s.liveItems g.toNat r).head?).map (fun w => s.fullTick (fld w 31 0))).getD s.tim.tick))
include hrun hr hserv hreb hu

theorem execWakeRebase_early (hlt : u < (d.bank b).anchor) : execWakeRebase g s = .next s := by
  subst hr hu
  simp only [execWakeRebase, hrun, hserv, hreb, if_pos hlt]

theorem execWakeRebase_begins (hle : (d.bank b).anchor ≤ u) :
    execWakeRebase g s = .next ((s.modDelta g.toNat (s.woken r b u)).beginRebase g.toNat (s.wakeRebaseAt r u d)) := by
  subst hr hu
  simp only [execWakeRebase, hrun, hserv, hreb, if_neg (Nat.not_lt.2 hle)]
  rfl

end

end Sys2Proof.Machine

/-! SUPPORT. SNAPSHOT_SWEEP, REBASE_PHASE_END and REBASE_SWITCH (R186, R188, R189): what a copy and a dense evaluation write, the end of a
phase, and the banks after a switch. -/
namespace Sys2Proof.Machine

theorem exec_snapshotSweep (r : BitVec 4) (s : State) : exec (.snapshotSweep r) s = execSnapshotSweep r s := rfl

theorem exec_rebasePhaseEnd (g : BitVec 32) (s : State) : exec (.rebasePhaseEnd g) s = execRebasePhaseEnd g s := rfl

theorem exec_rebaseSwitch (g : BitVec 32) (s : State) : exec (.rebaseSwitch g) s = execRebaseSwitch g s := rfl

/-! ## Writes of banks -/

/-- t is s but for what quires and DRAM hold. -/
def State.Stored (s t : State) : Prop := t = { s with quires := t.quires, dram := t.dram }

namespace State.Stored

variable {s t : State}

theorem refl (s : State) : Stored s s := rfl

theorem ite {a b : State} {c : Prop} [Decidable c] (ha : Stored s a) (hb : Stored s b) : Stored s (if c then a else b) := by
  split
  · exact ha
  · exact hb

theorem locPut (h : Stored s t) (slip : Nat) (qs : List Nat) (l : Loc) (off : Nat) (b : List (BitVec 8)) :
    Stored s (t.locPut slip qs l off b) := by
  unfold Stored at h ⊢
  rw [State.locPut_frame, h]

theorem foldl {α : Type} {f : State → α → State} (hf : ∀ t a, Stored s t → Stored s (f t a)) (l : List α) (h : Stored s t) :
    Stored s (l.foldl f t) := by
  induction l generalizing t with
  | nil => exact h
  | cons a r ih => exact ih (hf t a h)

theorem denseRec (h : Stored s t) (gr : Graph) (d : Delta) (b l x y grp : Nat) : Stored s (t.denseRec gr d b l x y grp) := by
  unfold State.denseRec
  exact .foldl (fun _ _ hu => .ite (.locPut (.ite hu (hu.locPut _ _ _ _ _)) _ _ _ _ _) (.locPut (.ite hu (hu.locPut _ _ _ _ _)) _ _ _ _ _)) _ h

theorem denseCopies (h : Stored s t) (gr : Graph) (d : Delta) (b l : Nat) : Stored s (t.denseCopies gr d b l) := by
  unfold State.denseCopies
  exact .foldl (fun _ _ hu => .foldl (fun _ _ hu => .foldl (fun _ _ hu => .foldl (fun _ _ hu => hu.locPut _ _ _ _ _) _ hu) _ hu) _ hu) _ h

theorem graph (h : Stored s t) (n : Nat) : t.graph n = s.graph n := State.graph_congr (by rw [h]) n

end State.Stored

/-- The dense evaluation of a bank writes records (R188). -/
theorem State.rebuild_stored (s : State) (g b : Nat) : State.Stored s (s.rebuild g b) := by
  unfold State.rebuild
  extract_lets gr
  split
  · exact .refl s
  · exact .foldl (fun u l hu => .ite hu (.foldl (fun _ _ hv => .foldl (fun _ _ hv => .foldl (fun _ _ hv => hv.denseRec _ _ _ _ _ _ _) _ hv) _ hv) _
      (.ite (hu.denseCopies _ _ _ _) hu))) _ (.refl s)

/-! ## A SNAP beat -/

/-- A region without the SNAP bit of a beat. -/
def Sfm.copied (b : Nat) (f : Sfm) : Sfm := { f with snap := f.snap.clear b }

/-- The emission of a beat's boundary contents clears its SNAP bit, counts it, and writes entries of the target bank (R186). -/
theorem State.emitSnap_stored (s : State) (r b : Nat) :
    State.Stored ((s.modSfm r (Sfm.copied b)).bump (sfmP (s.cfgPort r) + 0x150)) (s.emitSnap r b false) := by
  unfold State.emitSnap
  extract_lets _ _ w
  have hw : w = (s.modSfm r (Sfm.copied b)).bump (sfmP (s.cfgPort r) + 0x150) := rfl
  rw [← hw]
  clear_value w
  split
  · exact .refl w
  · extract_lets x
    split
    · exact .refl w
    · split
      · exact .refl w
      · exact .foldl (fun t _ ht => .ite ht (ht.locPut _ _ _ _ _)) _ (.refl w)

theorem execSnapshotSweep_idle {r : BitVec 4} {s : State}
    (h : (s.sfm r.toNat).snap.any = false ∨ (s.sfm r.toNat).conv ≠ none ∨ s.dom (21 + r.toNat / 4) ≠ 2) : execSnapshotSweep r s = .next s := by
  simp only [execSnapshotSweep]
  rw [if_neg]
  rintro ⟨h1, h2, h3⟩
  rcases h with h | h | h
  · simp [h] at h1
  · exact h (Option.isNone_iff_eq_none.1 h2)
  · exact h h3

/-! ## The end of a phase -/

theorem State.modReb_delta {s : State} (hg : SMap.wf {} s.graphs = true) {n : Nat} {d : Delta} (hd : (s.graph n).delta = some d) {rb : Rebase}
    (hrb : d.reb = some rb) (f : Rebase → Rebase) : ((s.modReb n f).graph n).delta = some { d with reb := some (f rb) } := by
  rw [State.modReb, State.modDelta_delta hg hd, hrb]
  rfl

/-- A state in which the rebase of graph n has passed to a phase, after the writes of a dense evaluation. -/
theorem State.modReb_traced {s u t : State} (hg : SMap.wf {} s.graphs = true) {n : Nat} {d : Delta} (hd : (s.graph n).delta = some d) {rb : Rebase}
    (hrb : d.reb = some rb) (hu : State.Stored s u) (f : Rebase → Rebase) (ht : State.Traced (u.modReb n f) t) :
    (t.graph n).delta = some { d with reb := some (f rb) } ∧ (∀ j, j ≠ n → t.graph j = s.graph j) ∧ t.quires = u.quires ∧ t.dram = u.dram ∧
      t.tim = s.tim ∧ t.sfms = s.sfms := by
  have hug : u.graphs = s.graphs := by rw [hu]
  refine ⟨?_, fun j hj => ?_, ht.quires, ht.dram, ?_, ?_⟩
  · rw [State.graph_congr ht.graphs, State.modReb_delta (hug ▸ hg) ((hu.graph n).symm ▸ hd) hrb]
  · rw [State.graph_congr ht.graphs, State.modReb, State.modDelta_graph_ne _ hj, hu.graph]
  · rw [ht.tim, hu]
    rfl
  · rw [ht.sfms, hu]
    rfl

section
variable {g : BitVec 32} {s : State} {d : Delta} {rb : Rebase} (hrun : s.deltaRuns g.toNat = some d) (hrb : d.reb = some rb) (hfull : rb.full = false)
include hrun hrb hfull

theorem execRebasePhaseEnd_copying (hp : rb.phase = 1) (hex : ∃ i ∈ s.surfRegions (dlRegion (d.layer 0)), (s.sfm i).snap.any = true) :
    execRebasePhaseEnd g s = .next s := by
  simp only [execRebasePhaseEnd, hrun, hrb, hfull, hp, Bool.false_eq_true, if_false, if_true, List.any_eq_true, hex]

theorem execRebasePhaseEnd_copied (hp : rb.phase = 1) (hall : ∀ i ∈ s.surfRegions (dlRegion (d.layer 0)), (s.sfm i).snap.any = false) :
    execRebasePhaseEnd g s = .next ((s.modReb g.toNat (fun b => { b with phase := 2 })).tracePhase g.toNat (dlRegion (d.layer 0)) 2) := by
  have hno : ¬ ∃ i ∈ s.surfRegions (dlRegion (d.layer 0)), (s.sfm i).snap.any = true := fun ⟨i, hi, h⟩ => by simp [hall i hi] at h
  simp only [execRebasePhaseEnd, hrun, hrb, hfull, hp, Bool.false_eq_true, if_false, if_true, List.any_eq_true, hno]

theorem execRebasePhaseEnd_rebuilt (hp : rb.phase = 2) : execRebasePhaseEnd g s =
    .next (((s.rebuild g.toNat rb.bank).modReb g.toNat (fun b => { b with phase := 3 })).tracePhase g.toNat (dlRegion (d.layer 0)) 3) := by
  simp only [execRebasePhaseEnd, hrun, hrb, hfull, hp, Bool.false_eq_true, if_false, if_true, OfNat.ofNat_ne_one]

theorem execRebasePhaseEnd_replayed (hp : rb.phase = 3) (hlog : rb.log = []) : execRebasePhaseEnd g s =
    .next ((s.modReb g.toNat (fun b => { b with phase := 4, switchAt := some (rb.switchAt.getD (max rb.notBefore (s.nextSurf (dlRegion (d.layer 0)) s.tim.tick))) })).tracePhase
      g.toNat (dlRegion (d.layer 0)) 4) := by
  simp only [execRebasePhaseEnd, hrun, hrb, hfull, hp, hlog, Bool.false_eq_true, if_false, List.isEmpty_nil, and_self, if_true, OfNat.ofNat_ne_one, Nat.reduceEqDiff]

end

/-! ## The switch -/

/-- The delta part with a target in service from a tick on (R189): the bank before it serves the ticks before. -/
def Delta.switched (rb : Rebase) (t0 : Nat) (d : Delta) : Delta :=
  { d with
    old := match d.service, d.deadFrom with | some (b, f), none => some (b, f, t0) | _, _ => none,
    service := some (rb.bank, t0), deadFrom := none, reb := none }

section
variable (rb : Rebase) (t0 : Nat) (d : Delta)

/-- The target serves the ticks from the switch. -/
theorem Delta.switched_bankFor {k : Nat} (hk : t0 ≤ k) : (d.switched rb t0).bankFor k = some rb.bank := by
  have hold : (d.switched rb t0).old.filter (fun o => decide (o.2.1 ≤ k ∧ k < o.2.2)) = none := by
    unfold Delta.switched
    split
    next b f _ _ =>
      have hno : ¬ (f ≤ k ∧ k < t0) := fun h => absurd h.2 (Nat.not_lt.2 hk)
      exact if_neg (by simpa using hno)
    next => rfl
  simp only [Delta.bankFor, hold]
  simp [Delta.switched, hk]

/-- The bank before it serves the ticks before. -/
theorem Delta.switched_bankFor_old {b f k : Nat} (hserv : d.service = some (b, f)) (hdead : d.deadFrom = none) (hf : f ≤ k) (hk : k < t0) :
    (d.switched rb t0).bankFor k = some b := by
  have hold : (d.switched rb t0).old.filter (fun o => decide (o.2.1 ≤ k ∧ k < o.2.2)) = some (b, f, t0) := by
    simp [Delta.switched, hserv, hdead, Option.filter, hf, hk]
  simp only [Delta.bankFor, hold]

variable {rb t0 d} {g : BitVec 32} {s : State} (hd : (s.graph g.toNat).delta = some d) (hrb : d.reb = some rb) (hsw : rb.switchAt = some t0)
include hd hrb hsw

theorem execRebaseSwitch_waits (h : rb.phase ≠ 4 ∨ s.tim.tick < t0) : execRebaseSwitch g s = .next s := by
  simp only [execRebaseSwitch, hd, hrb, hsw, if_pos h]

theorem execRebaseSwitch_switches (hp : rb.phase = 4) (hle : t0 ≤ s.tim.tick) :
    execRebaseSwitch g s = .next ((s.modDelta g.toNat (Delta.switched rb t0)).tracePhase g.toNat (dlRegion (d.layer 0)) 0) := by
  have hno : ¬ (rb.phase ≠ 4 ∨ s.tim.tick < t0) := by omega
  simp only [execRebaseSwitch, hd, hrb, hsw, if_neg hno]
  rfl

end

end Sys2Proof.Machine

/-! SUPPORT. REBASE_FAIL (R190): the graphs after a fault, the surface ticks of a state, and a rebase that fails. -/
namespace Sys2Proof.Machine

theorem exec_rebaseFail (g : BitVec 32) (s : State) : exec (.rebaseFail g) s = execRebaseFail g s := rfl

/-! ## The graphs after a fault -/

theorem State.ite_graphs {s a : State} {c : Prop} [Decidable c] (h : a.graphs = s.graphs) : (if c then a else s).graphs = s.graphs := by
  split
  · exact h
  · rfl

theorem State.alarm_graphs (s : State) (cause source slip : Nat) (present : Bool) : (s.alarm cause source slip present).graphs = s.graphs := by
  rw [State.alarm_frame]

theorem State.log_graphs (s : State) (source slip level code : Nat) (data : List Nat) : (s.log source slip level code data).graphs = s.graphs := by
  unfold State.log
  extract_lets t need o first obs s1 s2
  split
  · rfl
  · exact (State.ite_graphs (s2.alarm_graphs _ _ _ _)).trans rfl

theorem State.writeFault_graphs (s : State) (f : FaultRec) : (s.writeFault f).graphs = s.graphs := by
  unfold State.writeFault
  exact State.log_graphs _ _ _ _ _ _

theorem State.fenceSlip_graphs (s : State) (n : Nat) : (s.fenceSlip n).graphs = s.graphs := State.ite_graphs rfl

theorem State.fenceAll_graphs (s : State) : s.fenceAll.graphs = s.graphs := State.foldl_same _ State.fenceSlip_graphs _ s

theorem State.safeOutputs_graphs (s : State) : s.safeOutputs.graphs = s.graphs := by
  unfold State.safeOutputs
  exact State.foldl_same State.graphs (fun _ _ => by rfl) _ s

theorem State.assertPins_graphs (s : State) : s.assertPins.graphs = s.graphs := by
  unfold State.assertPins
  split <;> rfl

theorem State.recoverUnit_graphs (s : State) (source cause slip : Nat) : (s.recoverUnit source cause slip).graphs = s.graphs := by
  unfold State.recoverUnit
  split
  · extract_lets s1 s2
    split <;> rfl
  · extract_lets s1
    split
    · rfl
    · exact State.ite_graphs rfl

/-- A fault changes no graph (Table 18.4). -/
theorem State.fault_graphs (s : State) (source cause slip info : Nat) : (s.fault source cause slip info).graphs = s.graphs := by
  unfold State.fault State.faultFull
  split
  · rfl
  · extract_lets r fence cp r' pins s1 s2 s3 s4 s5 s6 ms s7 s8 here s9
    have h1 : s1.graphs = s.graphs := s.writeFault_graphs _
    have h2 : s2.graphs = s1.graphs := State.ite_graphs (s1.fenceSlip_graphs _)
    have h3 : s3.graphs = s2.graphs := State.ite_graphs (s2.recoverUnit_graphs _ _ _)
    have h4 : s4.graphs = s3.graphs := State.ite_graphs rfl
    have h5 : s5.graphs = s4.graphs := State.ite_graphs s4.assertPins_graphs
    have h6 : s6.graphs = s5.graphs := State.ite_graphs s5.safeOutputs_graphs
    have h8 : s8.graphs = s6.graphs := State.ite_graphs ((State.modSi_graphs _ _).trans s6.fenceAll_graphs)
    have h9 : s9.graphs = s8.graphs := State.ite_graphs rfl
    rw [State.alarm_graphs, h9, h8, h6, h5, h4, h3, h2, h1]

/-! ## Surface ticks -/

theorem State.surfD_congr {s t : State} (h : t.regs = s.regs) (n : Nat) : t.surfD n = s.surfD n := by
  rw [State.surfD, State.surfD, State.cfgPort_congr (State.reg_congr h _), State.rfld_congr (State.reg_congr h _)]

theorem State.originOf_congr {s t : State} (h : t.regs = s.regs) (hor : ∀ i, (t.sfm i).origin = (s.sfm i).origin) (n : Nat) :
    t.originOf n = s.originOf n := by
  rw [State.originOf, State.originOf, State.cfgPort_congr (State.reg_congr h _), hor]

theorem State.nextSurf_congr {s t : State} (h : t.regs = s.regs) (hor : ∀ i, (t.sfm i).origin = (s.sfm i).origin) (r k : Nat) :
    t.nextSurf r k = s.nextSurf r k := by
  simp only [State.nextSurf, State.tickOfSurf, State.surfOfTick, State.surfD_congr h, State.originOf_congr h hor]

/-! ## A rebase fails -/

theorem State.graphConFault_frame (s : State) (g cause : Nat) :
    s.graphConFault g cause = { s with contracts := (s.graphConFault g cause).contracts } := by
  unfold State.graphConFault
  extract_lets c
  split <;> rfl

/-- The ticks that the bank in service no longer serves once its rebase has failed (R190). -/
def Delta.deadAt (rb : Rebase) (d : Delta) : Delta := { d with deadFrom := if rb.kind = .normal then rb.switchAt else d.deadFrom }

/-- A rebase that has failed, to begin again at a tick (R190). -/
def Rebase.failed (k : Nat) (rb : Rebase) : Rebase := { rb with phase := 5, boundary := k, log := [], full := false, switchAt := none }

/-- No SNAP bit. -/
def Sfm.noSnap (f : Sfm) : Sfm := { f with snap := {} }

/-- The rebase of a graph has failed and its surface's SNAP bits are clear; nothing is counted or reported yet. -/
def State.rebaseFailed (s : State) (n r k : Nat) (rb : Rebase) : State :=
  (((s.modDelta n (Delta.deadAt rb)).modSurf r Sfm.noSnap).modReb n (Rebase.failed k)).tracePhase n r 5

section
variable {g : BitVec 32} {s : State} {d : Delta} {rb : Rebase} (hd : (s.graph g.toNat).delta = some d) (hrb : d.reb = some rb)
include hd hrb

theorem execRebaseFail_goes_on (h : rb.phase = 5 ∨ (rb.full = false ∧ (4 ≤ rb.phase ∨ ∀ t0, rb.switchAt = some t0 → s.tim.tick < t0))) :
    execRebaseFail g s = .next s := by
  have hlate : rb.full = false → (4 ≤ rb.phase ∨ ∀ t0, rb.switchAt = some t0 → s.tim.tick < t0) →
      (decide (rb.phase < 4) && rb.switchAt.any (fun t => decide (t ≤ s.tim.tick))) = false := by
    rintro - (h | h)
    · simp [Nat.not_lt.2 h]
    · cases hsw : rb.switchAt with
      | none => simp
      | some t0 => simp [h t0 hsw]
  simp only [execRebaseFail, hd, hrb]
  rw [if_pos]
  refine h.imp id (fun ⟨hf, hl⟩ => ?_)
  simp only [hlate hf hl, hf, Bool.not_false, and_self]

theorem execRebaseFail_fails (hs : s.canonical = true) (hp : rb.phase ≠ 5)
    (h : rb.full = true ∨ (rb.phase < 4 ∧ ∃ t0, rb.switchAt = some t0 ∧ t0 ≤ s.tim.tick)) {r : Nat} (hr : r = dlRegion (d.layer 0)) :
    execRebaseFail g s = .next (
      let u := s.rebaseFailed g.toNat r (s.nextSurf r s.tim.tick) rb
      if rb.kind = .start then u else ((u.bump (sfmP r + 0x170)).graphConFault g.toNat 4).fault (0x54 + r) 0x0E (u.graph g.toNat).slip g.toNat) := by
  subst hr
  have hno : ¬ (rb.phase = 5 ∨ ((!(decide (rb.phase < 4) && rb.switchAt.any (fun t => decide (t ≤ s.tim.tick)))) = true ∧ (!rb.full) = true)) := by
    rintro (hc | ⟨hl, hf⟩)
    · exact hp hc
    · rcases h with h | ⟨h4, t0, hsw, ht⟩
      · simp [h] at hf
      · simp [h4, hsw, ht] at hl
  have hnext : ((s.modDelta g.toNat (Delta.deadAt rb)).modSurf (dlRegion (d.layer 0)) Sfm.noSnap).nextSurf (dlRegion (d.layer 0))
      ((s.modDelta g.toNat (Delta.deadAt rb)).modSurf (dlRegion (d.layer 0)) Sfm.noSnap).tim.tick = s.nextSurf (dlRegion (d.layer 0)) s.tim.tick := by
    rw [show ((s.modDelta g.toNat (Delta.deadAt rb)).modSurf (dlRegion (d.layer 0)) Sfm.noSnap).tim = s.tim by rw [State.modSurf_frame]; rfl]
    refine State.nextSurf_congr (by rw [State.modSurf_frame]; rfl) (fun i => ?_) _ _
    have hw : SMap.wf {} (s.modDelta g.toNat (Delta.deadAt rb)).sfms = true := State.canonical_sfms (s := s) hs
    rw [State.modSurf_sfm hw]
    split <;> rfl
  simp only [execRebaseFail, hd, hrb]
  rw [if_neg hno, State.rebaseFailed, ← hnext]
  rfl

end

theorem State.rebaseFailed_spec {s : State} (hs : s.canonical = true) {n : Nat} {d : Delta} (hd : (s.graph n).delta = some d) {rb : Rebase}
    (hrb : d.reb = some rb) (r k : Nat) {u : State} (hu : s.rebaseFailed n r k rb = u) :
    (u.graph n).delta = some { d.deadAt rb with reb := some (rb.failed k) } ∧ (∀ j, j ≠ n → u.graph j = s.graph j) ∧
      (∀ i ∈ s.surfRegions r, (u.sfm i).snap = {}) ∧ u.ctr (sfmP r + 0x170) = s.ctr (sfmP r + 0x170) ∧ u.tim = s.tim ∧
      SMap.wf 0 u.ctrs = true := by
  subst hu
  have hg := State.canonical_graphs hs
  have hf := State.canonical_sfms hs
  generalize hv : (s.modDelta n (Delta.deadAt rb)).modSurf r Sfm.noSnap = v
  have hvf : v = { s.modDelta n (Delta.deadAt rb) with sfms := v.sfms } := by
    rw [← hv, State.modSurf_frame]
  have hvs : ∀ i ∈ s.surfRegions r, v.sfm i = (s.sfm i).noSnap := fun i hi => by
    rw [← hv, State.modSurf_sfm (s := s.modDelta n (Delta.deadAt rb)) hf r _ i]
    exact if_pos hi
  have hvg : v.graphs = (s.modDelta n (Delta.deadAt rb)).graphs := by rw [hvf]
  have hvd : (v.graph n).delta = some (d.deadAt rb) := by rw [State.graph_congr hvg, State.modDelta_delta hg hd]
  have hvc : v.ctrs = s.ctrs := by rw [hvf]; rfl
  have htr := (v.modReb n (Rebase.failed k)).tracePhase_traced n r 5
  rw [State.rebaseFailed, hv]
  refine ⟨?_, fun j hj => ?_, fun i hi => ?_, ?_, ?_, ?_⟩
  · rw [State.graph_congr htr.graphs, State.modReb_delta (hvg ▸ State.modDelta_wf hg n _) hvd hrb]
  · rw [State.graph_congr htr.graphs, State.modReb, State.modDelta_graph_ne _ hj, State.graph_congr hvg, State.modDelta_graph_ne _ hj]
  · have hsf : (v.modReb n (Rebase.failed k)).sfm i = v.sfm i := rfl
    rw [State.sfm_congr htr.sfms, hsf, hvs i hi]
    rfl
  · have hct : (v.modReb n (Rebase.failed k)).ctr (sfmP r + 0x170) = v.ctr (sfmP r + 0x170) := rfl
    rw [htr.sfm_ctr, hct, State.ctr, State.ctr, hvc]
  · rw [htr.tim, State.modReb, State.modDelta_tim, hvf]
    rfl
  · have hr : SMap.wf none v.regs = true := by
      rw [hvf]
      exact (State.canonical_maps hs).1
    exact (State.trace_wf (s := v.modReb n (Rebase.failed k)) hr (hvc ▸ State.canonical_ctrs hs) _ _ _ _).2

/-- The fault of a failed rebase changes no graph and no region, and the failure is counted. -/
theorem State.rebaseFault_spec {u : State} (hc : SMap.wf 0 u.ctrs = true) (n r source cause slip info : Nat) {t : State}
    (ht : ((u.bump (sfmP r + 0x170)).graphConFault n 4).fault source cause slip info = t) :
    t.graphs = u.graphs ∧ t.sfms = u.sfms ∧ t.ctr (sfmP r + 0x170) = u.ctr (sfmP r + 0x170) + 1 ∧ t.tim = u.tim := by
  subst ht
  have hoff := State.offSurfaces_faultFull ((u.bump (sfmP r + 0x170)).graphConFault n 4)
    { source := source, cause := cause, slip := slip, info := info, partner := 0xFF, recoveryUs := 0xFFFFFFFF } 0
  have hcf := (u.bump (sfmP r + 0x170)).graphConFault_frame n 4
  refine ⟨?_, ?_, ?_, ?_⟩
  · rw [State.fault_graphs, hcf]
    rfl
  · rw [State.fault, hoff.sfms, hcf]
    rfl
  · rw [State.fault, hoff.ctr _ (by unfold sfmP sfmB; omega), State.ctr, hcf]
    exact State.ctr_bump_self _ 1 hc
  · rw [State.fault_tim, hcf]
    rfl

end Sys2Proof.Machine

/-! PROOF. The statement about rebases (O50), a clause at a time. -/
namespace Sys2Proof.Machine

/-- A rebase that begins names its phase, its boundary and its bank, and leaves the rest of the delta part. -/
theorem Delta.rebased_fields (rb : Rebase) (d : Delta) :
    (d.rebased rb).reb = some { rb with phase := 1, closed := rb.boundary } ∧ (d.rebased rb).startDue = false ∧ (d.rebased rb).service = d.service ∧
      (d.rebased rb).epoch = d.epoch ∧ (d.rebased rb).deadFrom = d.deadFrom := by
  unfold Delta.rebased
  rw [Delta.modBank_eq]
  exact ⟨rfl, rfl, rfl, rfl, rfl⟩

theorem execSnapshotSweep_emits {r : BitVec 4} {s t : State} (hs : s.canonical = true) (hany : (s.sfm r.toNat).snap.any = true)
    (hconv : (s.sfm r.toNat).conv = none) (hdom : s.dom (21 + r.toNat / 4) = 2) (ht : s.emitSnap r.toNat (s.sfm r.toNat).snap.pos false = t) :
    execSnapshotSweep r s = .next t ∧
      t.sfm r.toNat = { s.sfm r.toNat with snap := (s.sfm r.toNat).snap.clear (s.sfm r.toNat).snap.pos } ∧ (∀ i, i ≠ r.toNat → t.sfm i = s.sfm i) ∧
      t.ctr (sfmP (s.cfgPort r.toNat) + 0x150) = s.ctr (sfmP (s.cfgPort r.toNat) + 0x150) + 1 ∧ t.graphs = s.graphs ∧ t.tim = s.tim ∧
      t.hops = s.hops := by
  have hst := s.emitSnap_stored r.toNat (s.sfm r.toNat).snap.pos
  rw [ht] at hst
  have hw := State.canonical_sfms hs
  have hc := State.canonical_ctrs hs
  have hsf : t.sfms = (s.modSfm r.toNat (Sfm.copied (s.sfm r.toNat).snap.pos)).sfms := by
    rw [hst]
    rfl
  refine ⟨?_, ?_, fun i hi => ?_, ?_, ?_, ?_, ?_⟩
  · simp only [execSnapshotSweep, hany, hconv, hdom, Option.isNone_none, and_self, if_true, ht]
  · rw [State.sfm_congr hsf, State.modSfm_sfm_self hw]
    rfl
  · rw [State.sfm_congr hsf, State.modSfm_sfm hw, if_neg hi]
  · rw [hst]
    exact State.ctr_bump_self _ 1 hc
  all_goals
    rw [hst]
    rfl

theorem execRebasePhaseEnd_passes {g : BitVec 32} {d : Delta} {rb : Rebase} {s : State} (hs : s.canonical = true) (hrun : s.deltaRuns g.toNat = some d)
    (hrb : d.reb = some rb) (hfull : rb.full = false) {r : Nat} (hr : r = dlRegion (d.layer 0))
    (h : (rb.phase = 1 ∧ ∀ i ∈ s.surfRegions r, (s.sfm i).snap.any = false) ∨ rb.phase = 2 ∨ (rb.phase = 3 ∧ rb.log = [])) :
    ∃ t d', execRebasePhaseEnd g s = .next t ∧ (t.graph g.toNat).delta = some d' ∧ d' = { d with reb := d'.reb } ∧
      d'.reb = some { rb with phase := rb.phase + 1, switchAt := if rb.phase = 3 then some (rb.switchAt.getD (max rb.notBefore (s.nextSurf r s.tim.tick))) else rb.switchAt } ∧
      (∀ j, j ≠ g.toNat → t.graph j = s.graph j) ∧ (rb.phase ≠ 2 → t.quires = s.quires ∧ t.dram = s.dram) ∧ t.tim = s.tim ∧ t.sfms = s.sfms := by
  subst hr
  have hg := State.canonical_graphs hs
  have hd := (State.deltaRuns_delta hrun).1
  rcases h with ⟨hp, hall⟩ | hp | ⟨hp, hlog⟩
  · obtain ⟨hown, hother, hq, hm, htim, hsf⟩ := State.modReb_traced hg hd hrb (.refl s) _ (State.tracePhase_traced _ _ (dlRegion (d.layer 0)) 2)
    exact ⟨_, _, execRebasePhaseEnd_copied hrun hrb hfull hp hall, hown, rfl, by simp [hp], hother, fun _ => ⟨hq, hm⟩, htim, hsf⟩
  · obtain ⟨hown, hother, -, -, htim, hsf⟩ := State.modReb_traced hg hd hrb (s.rebuild_stored g.toNat rb.bank) _
      (State.tracePhase_traced _ _ (dlRegion (d.layer 0)) 3)
    exact ⟨_, _, execRebasePhaseEnd_rebuilt hrun hrb hfull hp, hown, rfl, by simp [hp], hother, fun h => absurd hp h, htim, hsf⟩
  · obtain ⟨hown, hother, hq, hm, htim, hsf⟩ := State.modReb_traced hg hd hrb (.refl s) _ (State.tracePhase_traced _ _ (dlRegion (d.layer 0)) 4)
    exact ⟨_, _, execRebasePhaseEnd_replayed hrun hrb hfull hp hlog, hown, rfl, by simp [hp], hother, fun _ => ⟨hq, hm⟩, htim, hsf⟩

theorem execRebaseSwitch_spec {g : BitVec 32} {d : Delta} {rb : Rebase} {t0 : Nat} {s : State} (hs : s.canonical = true)
    (hd : (s.graph g.toNat).delta = some d) (hrb : d.reb = some rb) (hsw : rb.switchAt = some t0) (hp : rb.phase = 4) (hle : t0 ≤ s.tim.tick) :
    ∃ t, execRebaseSwitch g s = .next t ∧ (t.graph g.toNat).delta = some (d.switched rb t0) ∧ (∀ j, j ≠ g.toNat → t.graph j = s.graph j) ∧
      t.quires = s.quires ∧ t.dram = s.dram ∧ t.tim = s.tim := by
  have htr := (s.modDelta g.toNat (Delta.switched rb t0)).tracePhase_traced g.toNat (dlRegion (d.layer 0)) 0
  refine ⟨_, execRebaseSwitch_switches hd hrb hsw hp hle, ?_, fun j hj => ?_, htr.quires, htr.dram, htr.tim⟩
  · rw [State.graph_congr htr.graphs, State.modDelta_delta (State.canonical_graphs hs) hd]
  · rw [State.graph_congr htr.graphs, State.modDelta_graph_ne _ hj]

theorem execRebaseFail_spec {g : BitVec 32} {d : Delta} {rb : Rebase} {s : State} (hs : s.canonical = true) (hd : (s.graph g.toNat).delta = some d)
    (hrb : d.reb = some rb) (hp : rb.phase ≠ 5) (h : rb.full = true ∨ (rb.phase < 4 ∧ ∃ t0, rb.switchAt = some t0 ∧ t0 ≤ s.tim.tick)) {r : Nat}
    (hr : r = dlRegion (d.layer 0)) :
    ∃ t, execRebaseFail g s = .next t ∧ (t.graph g.toNat).delta = some { d.deadAt rb with reb := some (rb.failed (s.nextSurf r s.tim.tick)) } ∧
      (∀ i ∈ s.surfRegions r, (t.sfm i).snap = {}) ∧ t.ctr (sfmP r + 0x170) = s.ctr (sfmP r + 0x170) + (if rb.kind = .start then 0 else 1) ∧
      (∀ j, j ≠ g.toNat → t.graph j = s.graph j) ∧ t.tim = s.tim := by
  obtain ⟨hown, hother, hsnap, hctr, htim, hwf⟩ := State.rebaseFailed_spec hs hd hrb r (s.nextSurf r s.tim.tick) rfl
  refine ⟨_, execRebaseFail_fails hd hrb hs hp h hr, ?_⟩
  extract_lets u
  by_cases hk : rb.kind = .start
  · simp only [if_pos hk]
    exact ⟨hown, hsnap, by simpa using hctr, hother, htim⟩
  · simp only [if_neg hk]
    obtain ⟨hfg, hfs, hfc, hft⟩ := State.rebaseFault_spec hwf g.toNat r (0x54 + r) 0x0E (u.graph g.toNat).slip g.toNat rfl
    exact ⟨by rw [State.graph_congr hfg, hown], fun i hi => by rw [State.sfm_congr hfs, hsnap i hi], by rw [hfc, hctr],
      fun j hj => by rw [State.graph_congr hfg, hother j hj], hft.trans htim⟩

/-- Settles O50: each command of a rebase, from the delta part that it finds to the one that it leaves. -/
theorem rebasesBuildAndSwitchBanks : Obligations.RebasesBuildAndSwitchBanks := by
  unfold Obligations.RebasesBuildAndSwitchBanks
  simp only [exec_rebaseStart, exec_startRebase, exec_wakeRebase, exec_snapshotSweep, exec_rebasePhaseEnd, exec_rebaseSwitch, exec_rebaseFail]
  refine ⟨?_, ?_, ?_, ?_, ?_, ?_, ?_⟩
  · rintro g d n r k bound s hs rfl hd hdue hrun hreb hr hk hbound
    have heq : execRebaseStart g s = .next (s.rebaseDue g.toNat k) := by rw [execRebaseStart_eq hd hdue, hk, hr]
    refine ⟨fun hlt => by rw [heq, State.rebaseDue_early hd hdue hrun hreb hr hbound hlt], fun hle hon => ?_⟩
    have hbg := State.rebaseDue_normal_begun hs hd hdue hrun hreb hr hbound hle hon
    obtain ⟨hfreb, -, hfserv, hfepoch, -⟩ := Delta.rebased_fields (s.normalRebase r bound d) d.nextEpoch
    exact ⟨_, _, heq, hbg.own, hfepoch, hfreb, hfserv, hbg.snap, hbg.rest, hbg.count, hbg.other, hbg.tim, hbg.quires⟩
  · rintro g d n r s hs rfl hd hdue hrun hr
    refine ⟨execStartRebase_waits hd hdue hrun, fun hle => ?_⟩
    have hbg := State.beginStart_begun hs hd hr .start (s.graph g.toNat).startTick
    obtain ⟨hfreb, hfdue, -, hfepoch, -⟩ := Delta.rebased_fields (s.startRebaseAt r .start (s.graph g.toNat).startTick d)
      (d.atEpoch (epochOf (s.surfL r) (s.surfOfTick r (s.graph g.toNat).startTick)))
    exact ⟨_, _, _, execStartRebase_begins hd hdue hrun hle, hbg.own, hfdue, hfepoch, hfreb, rfl, rfl, rfl, rfl, rfl, hbg.count, hbg.other, hbg.tim⟩
  · rintro g d n r b f u s hs rfl hrun hr hserv hreb hu
    refine ⟨execWakeRebase_early hrun hr hserv hreb hu, fun hle => ?_⟩
    have hbg := State.beginRebase_after hs (State.deltaRuns_delta hrun).1 (s.woken r b u) hr (s.wakeRebaseAt r u d)
    obtain ⟨hfreb, -, -, hfepoch, hfdead⟩ := Delta.rebased_fields (s.wakeRebaseAt r u d) (s.woken r b u d)
    exact ⟨_, _, _, execWakeRebase_begins hrun hr hserv hreb hu hle, hbg.own, hfreb, rfl, rfl, rfl, rfl, hfepoch, hfdead, hbg.other, hbg.tim⟩
  · intro r s hs
    exact ⟨fun hany hconv hdom => ⟨_, execSnapshotSweep_emits hs hany hconv hdom rfl⟩, execSnapshotSweep_idle⟩
  · rintro g d rb n r s hs rfl hrun hrb hfull hr
    exact ⟨fun hp hex => execRebasePhaseEnd_copying hrun hrb hfull hp (hr ▸ hex), execRebasePhaseEnd_passes hs hrun hrb hfull hr⟩
  · rintro g d rb n t0 s hs rfl hd hrb hsw
    refine ⟨execRebaseSwitch_waits hd hrb hsw, fun hp hle => ?_⟩
    obtain ⟨t, hx, hown, hrest⟩ := execRebaseSwitch_spec hs hd hrb hsw hp hle
    exact ⟨t, _, hx, hown, rfl, rfl, fun k hk => d.switched_bankFor rb t0 hk, fun b f k hserv hdead hf hk => d.switched_bankFor_old rb t0 hserv hdead hf hk,
      hrest⟩
  · rintro g d rb n r s hs rfl hd hrb hr
    refine ⟨execRebaseFail_goes_on hd hrb, fun hp h => ?_⟩
    obtain ⟨t, hx, hown, hrest⟩ := execRebaseFail_spec hs hd hrb hp h hr
    exact ⟨t, _, hx, hown, rfl, rfl, rfl, hrest⟩

end Sys2Proof.Machine

/-! SUPPORT. Virtual-frame reads (R192, R193): the start of a read, its copy, and a scheduled read. -/
namespace Sys2Proof.Machine

theorem exec_vframeRead (h : CmdRef) (layer form : BitVec 8) (sgl : Sgl) (s : State) :
    exec (.vframeRead h layer form sgl) s = execVframeRead h layer form sgl s := rfl

theorem exec_vframeCopy (h : CmdRef) (s : State) : exec (.vframeCopy h) s = execVframeCopy h s := rfl

theorem exec_scheduledRead (g : BitVec 32) (layer : BitVec 6) (s : State) : exec (.scheduledRead g layer) s = execScheduledRead g layer s := rfl

/-! ## A command that answers later -/

/-- A command that answers later stands as a staged one. -/
theorem cmdOpen_later {s u : State} {h : CmdRef} {opc : Nat} {c : Instr} {run : State → Fetched → Res} {f : Fetched} (hs : s.startable h opc = some f)
    (ho : (s.brewFor f c).objErr opc h.fn.toNat f.objId.toNat = none) (hr : run (s.brewFor f c) f = .later u) :
    s.cmdOpen h opc c run = u.setCmdPhase h .staged := by
  unfold State.cmdOpen
  rw [hs]
  simp only
  rw [ho]
  simp only
  rw [hr]
  rfl

/-- The same for a command that starts at its AT_TICK. -/
theorem cmdAt_later {s u : State} {h : CmdRef} {opc : Nat} {c : Instr} {run : State → Fetched → Nat → Res} {f : Fetched} {k : Nat}
    (hs : s.startable h opc = some f) (ho : (s.brewFor f c).objErr opc h.fn.toNat f.objId.toNat = none)
    (hl : (s.brewFor f c).lead f.atTick = some k) (hr : run (s.brewFor f c) f k = .later u) : s.cmdAt h opc c run = u.setCmdPhase h .staged := by
  refine cmdOpen_later hs ho ?_
  rw [hl]
  exact hr

theorem find?_setPhase {t : BitVec 32} (p : CmdPhase) (now : Nat) {l : List Fetched} {f : Fetched} (h : l.find? (fun x => x.tag = t) = some f) :
    (setPhase t p now l).find? (fun x => x.tag = t) = some { f with phase := p, since := now } := by
  induction l with
  | nil => simp at h
  | cons a r ih =>
    by_cases ha : a.tag = t
    · obtain rfl : a = f := by simpa [ha] using h
      simp [setPhase, ha]
    · have hr : r.find? (fun x => x.tag = t) = some f := by simpa [ha] using h
      simpa [setPhase, ha] using ih hr

theorem State.setCmdPhase_fetchedOf {s : State} (hq : SMap.wf {} s.qps = true) {h : CmdRef} {f : Fetched} (hf : s.fetchedOf h = some f) (p : CmdPhase) :
    (s.setCmdPhase h p).fetchedOf h = some { f with phase := p, since := s.tim.systime } := by
  have hqp : ((s.setCmdPhase h p).qp h.key).fetched = setPhase h.tag p s.tim.systime (s.qp h.key).fetched := by
    rw [State.setCmdPhase, State.modQp_qp_self _ _ hq]
  rw [State.fetchedOf, hqp]
  exact find?_setPhase p _ hf

/-! ## The start of a read -/

theorem State.addDue_frame (s : State) (g : Nat) (kind : RecKind) (layer tref : Nat) :
    s.addDue g kind layer tref = { s with dues := (s.addDue g kind layer tref).dues } := by
  unfold State.addDue
  extract_lets c
  split <;> rfl

/-- The delta part with a read more. -/
def Delta.withRead (r : VRead) (d : Delta) : Delta := { d with reads := d.reads ++ [r] }

theorem State.vframeRead_noted {s : State} {h : CmdRef} {g layer form tau bytes : Nat} {sgl : Sgl} {d : Delta} (hd : (s.graph g).delta = some d)
    (hsealed : s.sealedFor h (s.graph g).slip = false) (hform : form < 3) (hlayer : layer < d.layers.length)
    (hpoint : dlReadPoint (d.layer layer) = true) (hrun : (s.graph g).state = 1)
    (hopen : ∀ x, d.bankFor tau = some x → (if layer = 0 then d.inClosed x else (d.bank x).settledTo layer) ≤ tau)
    (hsgl : sglBytes sgl = .ok bytes)
    (hroom : 64 + dlW (d.layer layer) * dlH (d.layer layer) * dlC (d.layer layer) * vfBytes (d.layer layer) form ≤ bytes) :
    s.vframeRead h g layer form sgl tau =
      .later ((s.modDelta g (Delta.withRead { ref := h, layer := layer, form := form, tick := tau })).addDue g .vframe layer tau) := by
  have hany : (d.bankFor tau).any (fun b => decide (tau < (if layer = 0 then d.inClosed b else (d.bank b).settledTo layer))) = false := by
    cases hb : d.bankFor tau with
    | none => rfl
    | some x => exact decide_eq_false (Nat.not_lt.2 (hopen x hb))
  have hl : ¬ (d.layers.length ≤ layer ∨ (!dlReadPoint (d.layer layer)) = true) := by
    simp only [hpoint, Bool.not_true, Bool.false_eq_true, or_false]
    omega
  simp only [State.vframeRead, hd, hsealed, hany, hrun, hsgl, if_neg (Nat.not_le.2 hform), if_neg hl, if_neg (Nat.not_lt.2 hroom), Bool.false_eq_true,
    if_false, ne_eq, not_true_eq_false]
  rfl

/-! ## The end of a read -/

/-- The delta part without the read of a command. -/
def Delta.withoutRead (h : CmdRef) (d : Delta) : Delta := { d with reads := d.reads.filter (fun r => decide (r.ref ≠ h)) }

theorem State.endRead_eq (s : State) (g : Nat) (h : CmdRef) : s.endRead g h = s.modDelta g (Delta.withoutRead h) := rfl

theorem Delta.mem_withoutRead {h : CmdRef} {d : Delta} {x : VRead} : x ∈ (d.withoutRead h).reads ↔ x ∈ d.reads ∧ x.ref ≠ h := by
  simp [Delta.withoutRead]

theorem execVframeCopy_none {h : CmdRef} {s : State} (hr : s.readOf h = none) : execVframeCopy h s = .next s := by
  simp only [execVframeCopy, hr]

section
variable {h : CmdRef} {s : State} {g : Nat} {r : VRead} {d : Delta} (hr : s.readOf h = some (g, r)) (hd : (s.graph g).delta = some d)
include hr hd

section
variable (hc : r.copy = none)
include hc

theorem execVframeCopy_waits (hw : s.tim.tick < r.tick ∨ d.bankFor r.tick ≠ none) : execVframeCopy h s = .next s := by
  have hcond : s.tim.tick < r.tick ∨ (d.bankFor r.tick).isSome ∨ d.holdAt.any (fun t => decide (t ≤ r.tick)) :=
    hw.imp id (fun hb => .inl (Option.isSome_iff_ne_none.2 hb))
  simp only [execVframeCopy, hr, hd, hc, if_pos hcond]

theorem execVframeCopy_unserved (hle : r.tick ≤ s.tim.tick) (hb : d.bankFor r.tick = none) (hh : ∀ x ∈ d.holdAt, r.tick < x) :
    execVframeCopy h s = .next ((s.endRead g h).complete h 0x700 3) := by
  have hhold : d.holdAt.any (fun t => decide (t ≤ r.tick)) = false :=
    List.any_eq_false.2 (fun x hx => by simpa using hh x hx)
  have hcond : ¬ (s.tim.tick < r.tick ∨ (d.bankFor r.tick).isSome ∨ d.holdAt.any (fun t => decide (t ≤ r.tick))) := by
    rw [hb, hhold]
    simpa using hle
  simp only [execVframeCopy, hr, hd, hc, if_neg hcond]
  rfl

end

/-- The delta part whose gaps of a layer are counted anew (R181). -/
def Delta.recounted (l : Nat) (d : Delta) : Delta := { d with gaps := SMap.put 0 d.gaps l 0 }

/-- A contract counts the record of a read (R324). -/
def Contract.recorded (c : Contract) : Contract := { c with records := c.records + 1 }

/-- The bit of a record that its contract's deadline was missed (R324). -/
def State.readLate (s : State) (g : Nat) (r : VRead) : Bool :=
  decide (((s.graph g).contract ≠ 0 ∧ (s.contract (s.graph g).contract).exist) ∧ (s.contract (s.graph g).contract).effTick ≤ r.tick ∧
    ((s.contract (s.graph g).contract).deadline < s.tim.tick - r.tick ∨
      s.dues.any (fun (x : Due) => decide (x.graph = g ∧ x.kind = RecKind.vframe ∧ x.layer = r.layer ∧ x.tref = r.tick) && x.missed)))

/-- The state in which a copied read has left its graph: its gaps are counted anew, and its contract counts the record. -/
def State.readDone (s : State) (g : Nat) (h : CmdRef) (r : VRead) : State :=
  let u := (s.endRead g h).modDelta g (Delta.recounted r.layer)
  let v := if (s.graph g).contract ≠ 0 ∧ (s.contract (s.graph g).contract).exist then u.modContract (s.graph g).contract Contract.recorded else u
  { v with dues := v.dues.filter (fun (x : Due) => decide (¬(x.graph = g ∧ x.kind = RecKind.vframe ∧ x.layer = r.layer ∧ x.tref = r.tick))) }

omit hr hd in
theorem State.readDone_frame (s : State) (g : Nat) (h : CmdRef) (r : VRead) :
    s.readDone g h r =
      { ((s.endRead g h).modDelta g (Delta.recounted r.layer)) with
        contracts := (s.readDone g h r).contracts, dues := (s.readDone g h r).dues } := by
  unfold State.readDone
  extract_lets u v
  have hv : v = { u with contracts := v.contracts } := by
    simp only [v]
    split <;> rfl
  rw [hv]

theorem execVframeCopy_copied {c : DCopy} (hc : r.copy = some c) {bs : List (BitVec 8)}
    (hbs : s.vfRecord g d c r.form (if s.readLate g r then 0x80 else 0) = bs) :
    execVframeCopy h s = .next (((s.readDone g h r).sglWrite h (bs.map (fun x => x.toNat))).complete h 0 0 (result [(bs.length - 64, 8)])) := by
  subst hbs
  simp only [execVframeCopy, hr, hd, hc, State.readLate, decide_eq_true_eq]
  rfl

end

/-! ## Scheduled reads -/

theorem execScheduledRead_waits {g : BitVec 32} {layer : BitVec 6} {d : Delta} {s : State} (hrun : s.deltaRuns g.toNat = some d)
    (hno : ∀ c ∈ d.scopies, c.layer ≠ layer.toNat)
    (hw : dlReadPeriod (d.layer layer.toNat) = 0 ∨ s.tim.tick < SMap.get 0 d.sched layer.toNat) : execScheduledRead g layer s = .next s := by
  have hfind : d.scopies.find? (fun c => decide (c.layer = layer.toNat)) = none := List.find?_eq_none.2 (fun c hc => by simpa using hno c hc)
  simp only [execScheduledRead, hrun, hfind]
  rw [if_pos]
  exact hw.imp id (fun h => .inr (.inl h))

/-- An item in the next slot of a channel that holds a credit, with its token. -/
def Quire.chanItem (b : List (BitVec 8)) (c : Nat) (ch : QChan) (x : Quire) : Quire :=
  { x with qsp := SMap.putAll 0 x.qsp (ch.base + ch.slot * ch.isize * 32) (b.take (ch.isize * 32)) }.post c 1 []

section
variable {x : Quire} {b : List (BitVec 8)} {c : Nat} {ch : QChan}

theorem Quire.chanItem_chan (hc : SMap.wf {} x.chans = true) :
    ((x.chanItem b c ch).chan c).tokens = (x.chan c).tokens + 1 ∧ ((x.chanItem b c ch).chan c).credits = (x.chan c).credits - 1 ∧
      ∀ j, j ≠ c → (x.chanItem b c ch).chan j = x.chan j := by
  have hch := Quire.chan_modChan (x := { x with qsp := SMap.putAll 0 x.qsp (ch.base + ch.slot * ch.isize * 32) (b.take (ch.isize * 32)) }) hc c
  refine ⟨?_, ?_, fun j hj => ?_⟩
  · rw [Quire.chanItem, Quire.post, hch, if_pos rfl]
    rfl
  · rw [Quire.chanItem, Quire.post, hch, if_pos rfl]
    rfl
  · rw [Quire.chanItem, Quire.post, hch, if_neg hj]
    rfl

theorem Quire.chanItem_qsp (hw : SMap.wf 0 x.qsp = true) {j : Nat} {y : BitVec 8} (hj : (b.take (ch.isize * 32))[j]? = some y) :
    SMap.get 0 (x.chanItem b c ch).qsp (ch.base + ch.slot * ch.isize * 32 + j) = y := by
  obtain ⟨hlt, rfl⟩ := List.getElem?_eq_some_iff.1 hj
  exact SMap.get_putAll_inside hw hlt

end

section
variable {s : State} {q c : Nat} {ch : QChan} (hch : ch = (s.quire q).chan c) (hv : ch.valid = true) (b : List (BitVec 8))
include hch hv

theorem State.chanItem_stalls (h0 : ch.credits = 0) : s.chanItem q c b = (s.bump (qrB q + 0x400 + 8 * c), false) := by
  subst hch
  simp only [State.chanItem, hv, h0, Bool.not_true, Bool.false_eq_true, if_false, if_true]

theorem State.chanItem_takes (hpos : 0 < ch.credits) : s.chanItem q c b = (s.modQuire q (Quire.chanItem b c ch), true) := by
  subst hch
  simp only [State.chanItem, hv, Nat.ne_of_gt hpos, Bool.not_true, Bool.false_eq_true, if_false]
  rfl

end

/-- The delta part whose scheduled copy of a layer has been delivered. -/
def Delta.delivered (c : DCopy) (l : Nat) (d : Delta) : Delta :=
  { d with scopies := d.scopies.filter (fun x => decide (x ≠ c)), gaps := SMap.put 0 d.gaps l 0 }

theorem Delta.mem_delivered {c x : DCopy} {l : Nat} {d : Delta} : x ∈ (d.delivered c l).scopies ↔ x ∈ d.scopies ∧ x ≠ c := by
  simp [Delta.delivered]

section
variable {g : BitVec 32} {layer : BitVec 6} {d : Delta} {c : DCopy} {ch : QChan} {q k : Nat} {s : State} (hrun : s.deltaRuns g.toNat = some d)
  (hc : d.scopies.find? (fun x => decide (x.layer = layer.toNat)) = some c) (hq : q = (s.graph g.toNat).schedQuire d layer.toNat)
  (hk : k = dlReadChan (d.layer layer.toNat)) (hch : ch = (s.quire q).chan k) (hv : ch.valid = true)
include hrun hc hq hk hch hv

theorem execScheduledRead_stalls (h0 : ch.credits = 0) : execScheduledRead g layer s = .next (s.bump (qrB q + 0x400 + 8 * k)) := by
  have hit := State.chanItem_stalls hch hv (s.vfRecord g.toNat d c 0 0) h0
  subst hq hk
  simp only [execScheduledRead, hrun, hc, hit, Bool.false_eq_true, if_false]

theorem execScheduledRead_delivers (hpos : 0 < ch.credits) :
    execScheduledRead g layer s =
      .next ((s.modQuire q (Quire.chanItem (s.vfRecord g.toNat d c 0 0) k ch)).modDelta g.toNat (Delta.delivered c layer.toNat)) := by
  have hit := State.chanItem_takes hch hv (s.vfRecord g.toNat d c 0 0) hpos
  subst hq hk
  simp only [execScheduledRead, hrun, hc, hit, if_true]
  rfl

end

end Sys2Proof.Machine

/-! PROOF. The statement about virtual frames (O51), a clause at a time. -/
namespace Sys2Proof.Machine

theorem State.canonical_qps {s : State} (h : s.canonical = true) : SMap.wf {} s.qps = true := by
  simp only [State.canonical, Bool.and_eq_true] at h
  simp only [h]

/-- VFRAME_READ of a read point that has not settled the tick. -/
theorem execVframeRead_spec {h : CmdRef} {layer form : BitVec 8} {sg : Sgl} {f : Fetched} {d : Delta} {k : Nat} {r : VRead} {s b u : State}
    (hs : s.startable h 0x0206 = some f) (hcan : b.canonical = true) (hb : b = s.brewFor f (.vframeRead h layer form sg))
    (ho : b.objErr 0x0206 h.fn.toNat f.objId.toNat = none) (hl : b.lead f.atTick = some k) (hd : (b.graph f.objId.toNat).delta = some d)
    (hu : u = (b.modDelta f.objId.toNat (Delta.withRead r)).addDue f.objId.toNat .vframe layer.toNat (b.tim.tick + k))
    (hread : b.vframeRead h f.objId.toNat layer.toNat form.toNat sg (b.tim.tick + k) = .later u) :
    ∃ t d', execVframeRead h layer form sg s = .next t ∧ (t.graph f.objId.toNat).delta = some d' ∧ d' = d.withRead r ∧
      (∀ j, j ≠ f.objId.toNat → t.graph j = b.graph j) ∧ t.tim = b.tim ∧ t.quires = b.quires ∧ (∃ x, t.fetchedOf h = some x ∧ x.phase = .staged) := by
  have huf := (b.modDelta f.objId.toNat (Delta.withRead r)).addDue_frame f.objId.toNat .vframe layer.toNat (b.tim.tick + k)
  rw [← hu] at huf
  have hug : (u.setCmdPhase h .staged).graphs = (b.modDelta f.objId.toNat (Delta.withRead r)).graphs := by
    rw [State.setCmdPhase, State.modQp_graphs, huf]
  have huq : u.qps = b.qps := by
    rw [huf]
    rfl
  have hfu : u.fetchedOf h = some f := by
    rw [State.fetchedOf_congr huq, hb, State.brewFor_fetchedOf, State.startable_fetched hs]
  refine ⟨u.setCmdPhase h .staged, _, ?_, ?_, rfl, fun j hj => ?_, ?_, ?_, _, State.setCmdPhase_fetchedOf (huq ▸ State.canonical_qps hcan) hfu _, rfl⟩
  · subst hb
    rw [execVframeRead, cmdAt_later hs ho hl hread]
  · rw [State.graph_congr hug, State.modDelta_delta (State.canonical_graphs hcan) hd]
  · rw [State.graph_congr hug, State.modDelta_graph_ne _ hj]
  · rw [State.setCmdPhase_tim, huf]
    rfl
  · rw [State.setCmdPhase, State.modQp_quires, huf]
    rfl

/-- VFRAME_COPY of a read whose elements are copied. -/
theorem State.readDone_spec {s : State} (hs : s.canonical = true) {g : Nat} {d : Delta} (hd : (s.graph g).delta = some d) (h : CmdRef) (r : VRead) :
    ∃ d', ((s.readDone g h r).graph g).delta = some d' ∧ (∀ x, x ∈ d'.reads ↔ x ∈ d.reads ∧ x.ref ≠ h) ∧
      (∀ j, j ≠ g → (s.readDone g h r).graph j = s.graph j) ∧ (s.readDone g h r).tim = s.tim ∧ (s.readDone g h r).quires = s.quires ∧
      (s.readDone g h r).qps = s.qps := by
  have hg := State.canonical_graphs hs
  have hfr := s.readDone_frame g h r
  have hgr : (s.readDone g h r).graphs = ((s.endRead g h).modDelta g (Delta.recounted r.layer)).graphs := by rw [hfr]
  refine ⟨(d.withoutRead h).recounted r.layer, ?_, fun x => Delta.mem_withoutRead, fun j hj => ?_, ?_, ?_, ?_⟩
  · rw [State.graph_congr hgr, State.endRead_eq, State.modDelta_delta (State.modDelta_wf hg g _) (State.modDelta_delta hg hd _)]
  · rw [State.graph_congr hgr, State.modDelta_graph_ne _ hj, State.endRead_eq, State.modDelta_graph_ne _ hj]
  all_goals
    rw [hfr]
    rfl

theorem execVframeCopy_spec {h : CmdRef} {d : Delta} {g : Nat} {r : VRead} {c : DCopy} {f : Fetched} {s : State} (hs : s.canonical = true)
    (hr : s.readOf h = some (g, r)) (hd : (s.graph g).delta = some d) (hc : r.copy = some c) (hf : s.fetchedOf h = some f) :
    ∃ (v t : State) (d' : Delta) (bs : List (BitVec 8)), execVframeCopy h s = .next t ∧
      (bs = s.vfRecord g d c r.form 0 ∨ bs = s.vfRecord g d c r.form 0x80) ∧ ((s.graph g).contract = 0 → bs = s.vfRecord g d c r.form 0) ∧
      State.Answered (v.sglWrite h (bs.map (fun x => x.toNat))) t h 0 0 (result [(bs.length - 64, 8)]) ∧ (v.graph g).delta = some d' ∧
      (∀ x, x ∈ d'.reads ↔ x ∈ d.reads ∧ x.ref ≠ h) ∧ (∀ j, j ≠ g → v.graph j = s.graph j) ∧ v.tim = s.tim ∧ v.quires = s.quires := by
  obtain ⟨d', hown, hreads, hother, htim, hquires, hqps⟩ := State.readDone_spec hs hd h r
  have hrec := execVframeCopy_copied hr hd hc rfl
  generalize hbs : s.vfRecord g d c r.form (if s.readLate g r then 0x80 else 0) = bs at hrec
  have hfv : ((s.readDone g h r).sglWrite h (bs.map (fun x => x.toNat))).fetchedOf h = some f := (State.fetchedOf_congr hqps h).trans hf
  refine ⟨s.readDone g h r, _, d', bs, hrec, ?_, fun h0 => ?_, State.complete_answered hfv 0 0 _ (by decide), hown, hreads, hother, htim, hquires⟩
  · rw [← hbs]
    split
    · exact .inr rfl
    · exact .inl rfl
  · have hlate : s.readLate g r = false := by simp [State.readLate, h0]
    rw [← hbs, hlate]
    rfl

theorem execVframeCopy_unserved_spec {h : CmdRef} {d : Delta} {g : Nat} {r : VRead} {f : Fetched} {s : State} (hr : s.readOf h = some (g, r))
    (hd : (s.graph g).delta = some d) (hc : r.copy = none) (hf : s.fetchedOf h = some f) (hle : r.tick ≤ s.tim.tick)
    (hb : d.bankFor r.tick = none) (hh : ∀ x ∈ d.holdAt, r.tick < x) :
    ∃ (v t : State), execVframeCopy h s = .next t ∧ State.Answered v t h 0x700 3 0 ∧ v = { s with graphs := v.graphs } ∧
      (∀ j, j ≠ g → v.graph j = s.graph j) := by
  have hfe : (s.endRead g h).fetchedOf h = some f := hf
  exact ⟨s.endRead g h, _, execVframeCopy_unserved hr hd hc hle hb hh, State.complete_answered hfe 0x700 3 0 (by decide), rfl,
    fun _ hj => s.modDelta_graph_ne hj _⟩

/-- SCHEDULED_READ of a copied read into a channel that holds a credit. -/
theorem execScheduledRead_spec {g : BitVec 32} {layer : BitVec 6} {d : Delta} {c : DCopy} {ch : QChan} {q k : Nat} {s : State}
    (hs : s.canonical = true) (hrun : s.deltaRuns g.toNat = some d) (hc : d.scopies.find? (fun x => decide (x.layer = layer.toNat)) = some c)
    (hq : q = (s.graph g.toNat).schedQuire d layer.toNat) (hk : k = dlReadChan (d.layer layer.toNat)) (hch : ch = (s.quire q).chan k)
    (hv : ch.valid = true) (hqsp : SMap.wf 0 (s.quire q).qsp = true) (hchans : SMap.wf {} (s.quire q).chans = true) (hpos : 0 < ch.credits) :
    ∃ t d', execScheduledRead g layer s = .next t ∧ (t.graph g.toNat).delta = some d' ∧ (∀ x, x ∈ d'.scopies ↔ x ∈ d.scopies ∧ x ≠ c) ∧
      ((t.quire q).chan k).tokens = ch.tokens + 1 ∧ ((t.quire q).chan k).credits = ch.credits - 1 ∧
      (∀ j, j ≠ k → (t.quire q).chan j = (s.quire q).chan j) ∧
      (∀ j x, ((s.vfRecord g.toNat d c 0 0).take (ch.isize * 32))[j]? = some x → SMap.get 0 (t.quire q).qsp (ch.base + ch.slot * ch.isize * 32 + j) = x) ∧
      (∀ j, j ≠ g.toNat → t.graph j = s.graph j) ∧ (∀ j, j ≠ q → t.quire j = s.quire j) ∧ t.tim = s.tim := by
  have hg := State.canonical_graphs hs
  have hquires := (State.canonical_maps hs).2.2.1
  obtain ⟨htok, hcred, hothers⟩ := Quire.chanItem_chan (b := s.vfRecord g.toNat d c 0 0) (ch := ch) hchans (c := k)
  have hx := execScheduledRead_delivers hrun hc hq hk hch hv hpos
  generalize ht : (s.modQuire q (Quire.chanItem (s.vfRecord g.toNat d c 0 0) k ch)).modDelta g.toNat (Delta.delivered c layer.toNat) = t at hx
  have htq : t.quire q = (s.quire q).chanItem (s.vfRecord g.toNat d c 0 0) k ch := by
    rw [← ht]
    exact State.modQuire_quire_self hquires _ _
  refine ⟨t, d.delivered c layer.toNat, hx, ?_, fun x => Delta.mem_delivered, ?_, ?_, ?_, ?_, fun j hj => ?_, fun j hj => ?_, ?_⟩
  · rw [← ht]
    exact State.modDelta_delta (s := s.modQuire q _) hg (State.deltaRuns_delta hrun).1 _
  · rw [htq, htok, hch]
  · rw [htq, hcred, hch]
  · rw [htq]
    exact hothers
  · rw [htq]
    exact fun j x hj => Quire.chanItem_qsp hqsp hj
  · rw [← ht, State.modDelta_graph_ne _ hj]
    rfl
  · rw [← ht]
    exact State.modQuire_quire_ne s hj _
  · rw [← ht]
    rfl

/-- Settles O51: a read from its command to its record, and a scheduled read to its channel. -/
theorem virtualFramesAreReadAndCopied : Obligations.VirtualFramesAreReadAndCopied := by
  unfold Obligations.VirtualFramesAreReadAndCopied
  simp only [exec_vframeRead, exec_vframeCopy, exec_scheduledRead]
  refine ⟨?_, ?_, ?_, ?_, ?_, ?_⟩
  · rintro h layer form sg f d g k bytes s b hs hcan hb ho hl rfl hd hsealed hform hlayer hpoint hrun hopen hsgl hroom
    exact execVframeRead_spec hs hcan hb ho hl hd rfl (State.vframeRead_noted hd hsealed hform hlayer hpoint hrun hopen hsgl hroom)
  · intro h d g r c f s hs hr hd hc hf
    exact execVframeCopy_spec hs hr hd hc hf
  · intro h d g r f s hs hr hd hc hf
    exact ⟨execVframeCopy_unserved_spec hr hd hc hf, execVframeCopy_waits hr hd hc⟩
  · intro h s hr
    exact execVframeCopy_none hr
  · rintro g layer d c ch n l q k s hs rfl rfl hrun hc hq hk hch hv hqsp hchans
    exact ⟨execScheduledRead_stalls hrun hc hq hk hch hv, execScheduledRead_spec hs hrun hc hq hk hch hv hqsp hchans⟩
  · intro g layer d s hrun hno hw
    exact execScheduledRead_waits hrun hno hw

end Sys2Proof.Machine

/-! SUPPORT. Tiles and their routers (R234 to R249): a change of one tile, what a lost spike counts, and what a router finds for a key. -/
namespace Sys2Proof.Machine

/-! ## One tile -/

section
variable {s : State} (hw : SMap.wf {} s.quires = true) (q : Nat) (g : Tile → Tile)

include hw in
theorem State.modTile_quire : (s.modTile q g).quire q = { s.quire q with spk := g (s.quire q).spk } := State.modQuire_quire_self hw q _

include hw in
theorem State.modTile_wf : SMap.wf {} (s.modTile q g).quires = true := State.modQuire_wf hw q _

end

theorem State.modTile_quire_ne (s : State) {q k : Nat} (h : k ≠ q) (g : Tile → Tile) : (s.modTile q g).quire k = s.quire k :=
  s.modQuire_quire_ne h _

theorem State.quire_congr {s t : State} (h : t.quires = s.quires) (k : Nat) : t.quire k = s.quire k := by
  rw [State.quire, h, State.quire]

/-- From s to t no quire but k has changed, and the tile of k has P. -/
structure State.TileIs (k : Nat) (s : State) (P : Tile → Prop) (t : State) : Prop where
  wf : SMap.wf {} t.quires = true
  other : ∀ j, j ≠ k → t.quire j = s.quire j
  own : P (t.quire k).spk

namespace State.TileIs

variable {k : Nat} {s t : State} {P Q : Tile → Prop}

theorem start (hw : SMap.wf {} s.quires = true) (hP : P (s.quire k).spk) : TileIs k s P s := ⟨hw, fun _ _ => rfl, hP⟩

theorem imp (h : TileIs k s P t) (hQ : ∀ y, P y → Q y) : TileIs k s Q t := ⟨h.wf, h.other, hQ _ h.own⟩

/-- A step that leaves the quires alone. -/
theorem same (h : TileIs k s P t) {u : State} (hu : u.quires = t.quires) : TileIs k s P u where
  wf := hu ▸ h.wf
  other j hj := (State.quire_congr hu j).trans (h.other j hj)
  own := by rw [State.quire_congr hu]; exact h.own

theorem bump (h : TileIs k s P t) (c n : Nat) : TileIs k s P (t.bump c n) := h.same rfl

theorem xbarIn (h : TileIs k s P t) (word group slip : Nat) : TileIs k s P (t.xbarIn word group slip) := h.same rfl

theorem modTile (h : TileIs k s P t) {g : Tile → Tile} (hg : ∀ y, P y → Q (g y)) : TileIs k s Q (t.modTile k g) where
  wf := State.modTile_wf h.wf k g
  other j hj := (t.modTile_quire_ne hj g).trans (h.other j hj)
  own := by rw [State.modTile_quire h.wf]; exact hg _ h.own

/-- A change of the quire that leaves its tile alone. -/
theorem modQuire (h : TileIs k s P t) {g : Quire → Quire} (hg : ∀ x, (g x).spk = x.spk) : TileIs k s P (t.modQuire k g) where
  wf := State.modQuire_wf h.wf k g
  other j hj := (t.modQuire_quire_ne hj g).trans (h.other j hj)
  own := by rw [State.modQuire_quire_self h.wf, hg]; exact h.own

/-- A fault fences its quire at most, and the tile stays (Table 18.4). -/
theorem fault (h : TileIs k s P t) (cause slip info : Nat) : TileIs k s P (t.fault k cause slip info) := by
  obtain hq | hq := t.faultFull_quires { source := k, cause := cause, slip := slip, info := info, partner := 0xFF, recoveryUs := 0xFFFFFFFF } 0
  · exact h.same hq
  · exact (h.modQuire (fun x => by rfl)).same hq

theorem foldl {α : Type} {f : State → α → State} (hf : ∀ t a, TileIs k s P t → TileIs k s P (f t a)) (l : List α) (h : TileIs k s P t) :
    TileIs k s P (l.foldl f t) := by
  induction l generalizing t with
  | nil => exact h
  | cons a r ih => exact ih (hf t a h)

end State.TileIs

/-! ## Lost spikes -/

theorem State.spkDrop_ctrs (s : State) (slip k n : Nat) : (s.spkDrop slip k n).ctrs = (s.bump k n).ctrs := by
  unfold State.spkDrop
  extract_lets s1
  split <;> rfl

theorem State.spkDrop_frame (s : State) (slip k n : Nat) :
    s.spkDrop slip k n = { s with ctrs := (s.spkDrop slip k n).ctrs, slips := (s.spkDrop slip k n).slips } := by
  unfold State.spkDrop
  extract_lets s1
  split <;> rfl

@[simp] theorem State.spkDrop_quires (s : State) (slip k n : Nat) : (s.spkDrop slip k n).quires = s.quires := by rw [State.spkDrop_frame]

@[simp] theorem State.spkDrop_kxb (s : State) (slip k n : Nat) : (s.spkDrop slip k n).kxb = s.kxb := by rw [State.spkDrop_frame]

theorem State.spkDrop_ctr (s : State) (slip k n j : Nat) : (s.spkDrop slip k n).ctr j = (s.bump k n).ctr j := by
  rw [State.ctr, State.spkDrop_ctrs, State.ctr]

/-- The counters of a tile lie one beside the other (Table 9.7). -/
theorem spkCtr_ne (q : Nat) {i j : Nat} (h : i ≠ j) : spkCtr q i ≠ spkCtr q j := by
  unfold spkCtr
  omega

/-! ## What a router finds -/

/-- A lookup reads the route entries, their changes, the staged commands and the graphs (R245, R249). -/
theorem State.matches_congr {s t : State} {q : Nat} (htable : (t.quire q).spk.table = (s.quire q).spk.table)
    (hpend : (t.quire q).spk.pend = (s.quire q).spk.pend) (hstaged : t.staged = s.staged) (hgraphs : t.graphs = s.graphs)
    (key tick : Nat) (egress : Bool) : t.matches q key tick egress = s.matches q key tick egress := by
  have hr : t.stagedRoutes q = s.stagedRoutes q := by
    unfold State.stagedRoutes State.graph
    rw [hstaged, hgraphs]
  simp only [State.matches, Tile.entry, htable, hpend, hr]

/-- The deliveries that an ingress lookup of a spike makes: the rows of its first sixteen matches (R245). -/
def State.found (s : State) (q w : Nat) : List (Nat × Nat) :=
  ((s.matches q (w / 2 ^ 32) (w % 2 ^ 32) false).take 16).map (fun e =>
    (bitsN e 40 24 + (w / 2 ^ 32 &&& (2 ^ 32 - 1 - bitsN e 95 64)) * bitsN e 23 16, w % 2 ^ 32))

theorem State.found_length (s : State) (q w : Nat) : (s.found q w).length = min 16 (s.matches q (w / 2 ^ 32) (w % 2 ^ 32) false).length := by
  simp [State.found]

theorem State.found_congr {s t : State} {q : Nat} (h : ∀ key tick, t.matches q key tick false = s.matches q key tick false) (w : Nat) :
    t.found q w = s.found q w := by
  rw [State.found, h, State.found]

/-- An ingress lookup counts itself and what it loses; where it finds anything, its deliveries go behind those that fly (R245). -/
theorem State.ingress_cases (s : State) (q w : Nat) : ∃ u : State, u = { s with ctrs := u.ctrs, slips := u.slips } ∧
    (SMap.wf 0 s.ctrs = true → u.ctr (spkCtr q 9) = s.ctr (spkCtr q 9) + 1) ∧
    (s.ingress q w = u ∧ s.found q w = [] ∨ s.ingress q w = u.modTile q (fun t => { t with flight := t.flight ++ s.found q w })) := by
  unfold State.ingress State.found
  extract_lets key tick m s1 s2
  rw [show s.matches q (w / 2 ^ 32) (w % 2 ^ 32) false = m from rfl]
  clear_value m
  have h1 : SMap.wf 0 s.ctrs = true → s1.ctr (spkCtr q 9) = s.ctr (spkCtr q 9) + 1 := State.ctr_bump_self _ 1
  have hdrop : ∀ slip i n, i ≠ 9 → SMap.wf 0 s.ctrs = true → (s1.spkDrop slip (spkCtr q i) n).ctr (spkCtr q 9) = s.ctr (spkCtr q 9) + 1 :=
    fun slip i n hi hw => by rw [State.spkDrop_ctr, State.ctr_bump_ne _ _ (spkCtr_ne q hi.symm), h1 hw]
  have hlost : ∀ slip k n, s1.spkDrop slip k n = { s with ctrs := (s1.spkDrop slip k n).ctrs, slips := (s1.spkDrop slip k n).slips } :=
    s1.spkDrop_frame
  split
  next hm =>
    refine ⟨_, hlost _ _ _, hdrop _ _ _ (by decide), .inl ⟨rfl, ?_⟩⟩
    rw [List.isEmpty_iff.1 hm]
    rfl
  next =>
    refine ⟨s2, ?_, ?_, .inr rfl⟩
    · simp only [s2]
      split
      · exact hlost _ _ _
      · rfl
    · simp only [s2]
      split
      · exact hdrop _ _ _ (by decide)
      · exact h1

theorem State.ingress_frame (s : State) (q w : Nat) :
    s.ingress q w = { s with quires := (s.ingress q w).quires, ctrs := (s.ingress q w).ctrs, slips := (s.ingress q w).slips } := by
  obtain ⟨u, hu, -, ⟨h, -⟩ | h⟩ := s.ingress_cases q w
  · rw [h, hu]
  · rw [h, hu]
    rfl

theorem State.TileIs.ingress {k : Nat} {s t : State} {P Q : Tile → Prop} (h : TileIs k s P t) (w : Nat)
    (hQ : ∀ y, P y → Q { y with flight := y.flight ++ t.found k w }) : TileIs k s Q (t.ingress k w) := by
  obtain ⟨u, hu, -, hc⟩ := t.ingress_cases k w
  have hP : TileIs k s P u := h.same (by rw [hu])
  obtain ⟨hi, hf⟩ | hi := hc
  · rw [hi]
    refine hP.imp (fun y hy => ?_)
    have hy := hQ y hy
    rwa [hf, List.append_nil] at hy
  · rw [hi]
    exact hP.modTile hQ

theorem State.ingress_lookups {s : State} (hw : SMap.wf 0 s.ctrs = true) (q w : Nat) :
    (s.ingress q w).ctr (spkCtr q 9) = s.ctr (spkCtr q 9) + 1 := by
  obtain ⟨u, -, hc, ⟨h, -⟩ | h⟩ := s.ingress_cases q w
  all_goals
    rw [h]
    exact hc hw

end Sys2Proof.Machine

/-! SUPPORT. The commands of the Spiking class (R239, R243, R248): SPIKE_ROUTE_SET, SPIKE_WEIGHTS and SPIKE_STATE_READ. -/
namespace Sys2Proof.Machine

theorem exec_spikeRouteSet (h : CmdRef) (qi : BitVec 8) (ents : List (BitVec 16 × BitVec 128)) (s : State) :
    exec (.spikeRouteSet h qi ents) s = execSpikeRouteSet h qi ents s := rfl

theorem exec_spikeWeights (h : CmdRef) (qi : BitVec 8) (addr n : BitVec 32) (sgl : Sgl) (data : List (BitVec 8)) (s : State) :
    exec (.spikeWeights h qi addr n sgl data) s = execSpikeWeights h qi addr n sgl data s := rfl

theorem exec_spikeStateRead (h : CmdRef) (qi : BitVec 8) (first cnt : BitVec 16) (sgl : Sgl) (s : State) :
    exec (.spikeStateRead h qi first cnt sgl) s = execSpikeStateRead h qi first cnt sgl s := rfl

/-! ## Commands -/

/-- A row whose run fails on the state after its Brew is answered with that status. -/
theorem State.cmd_err {s b : State} {h : CmdRef} {opc : Nat} {c : Instr} {f : Fetched} {st det : Nat} {r : BitVec 128} {run : State → Fetched → Res}
    (hs : s.Starts h opc c f b) (hr : run b f = .err b st det r) (hd : det ≠ 0xF007) : State.Answered b (s.cmd h opc c run) h st det r := by
  rw [State.cmd_starts hs, hr, State.finish_err]
  exact State.complete_answered hs.fetched st det r hd

/-- A command whose operation ends as it starts. -/
theorem cmdOpen_ok {s u : State} {h : CmdRef} {opc : Nat} {c : Instr} {run : State → Fetched → Res} {f : Fetched} {r : BitVec 128}
    (hs : s.startable h opc = some f) (ho : (s.brewFor f c).objErr opc h.fn.toNat f.objId.toNat = none) (hr : run (s.brewFor f c) f = .ok u r) :
    s.cmdOpen h opc c run = u.complete h 0 0 r := by
  unfold State.cmdOpen
  rw [hs]
  simp only
  rw [ho]
  simp only
  rw [hr]
  rfl

/-- The same for a command that starts at its AT_TICK. -/
theorem cmdAt_ok {s u : State} {h : CmdRef} {opc : Nat} {c : Instr} {run : State → Fetched → Nat → Res} {f : Fetched} {k : Nat} {r : BitVec 128}
    (hs : s.startable h opc = some f) (ho : (s.brewFor f c).objErr opc h.fn.toNat f.objId.toNat = none)
    (hl : (s.brewFor f c).lead f.atTick = some k) (hr : run (s.brewFor f c) f k = .ok u r) (hu : u.fetchedOf h = (s.brewFor f c).fetchedOf h) :
    State.Answered u (s.cmdAt h opc c run) h 0 0 r := by
  have he : s.cmdAt h opc c run = u.complete h 0 0 r := by
    refine cmdOpen_ok hs ho ?_
    rw [hl]
    exact hr
  rw [he]
  exact State.complete_answered (hu.trans ((s.brewFor_fetchedOf f c h).trans (State.startable_fetched hs))) 0 0 r (by decide)

/-! ## SPIKE_ROUTE_SET -/

/-- After a list of writes each key has the value of the last that names it. -/
theorem SMap.get_foldl_put {α β : Type} [DecidableEq α] {d : α} (key : β → Nat) (val : β → α) (l : List β) {m : SMap α} (hm : SMap.wf d m = true)
    (i : Nat) : SMap.get d (l.foldl (fun m e => SMap.put d m (key e) (val e)) m) i =
      ((l.reverse.find? (fun e => decide (key e = i))).map val).getD (SMap.get d m i) := by
  induction l generalizing m with
  | nil => rfl
  | cons e r ih =>
    rw [List.foldl_cons, ih (SMap.wf_put hm), List.reverse_cons, List.find?_append]
    cases r.reverse.find? (fun e => decide (key e = i)) with
    | some x => rfl
    | none =>
      rw [Option.none_or, List.find?_singleton]
      by_cases he : key e = i
      · subst he
        simp [SMap.get_put_self hm]
      · simp [he, SMap.get_put_ne (Ne.symm he)]

/-- The tile with route entries written. -/
def Tile.routed (ents : List (BitVec 16 × BitVec 128)) (t : Tile) : Tile :=
  { t with table := ents.foldl (fun m e => SMap.put 0 m e.1.toNat e.2.toNat) t.table }

section
variable {b : State} {h : CmdRef} {f : Fetched} {qi q : Nat} {ents : List (BitVec 16 × BitVec 128)}
  (hsealed : b.sealedFor h (b.graph f.objId.toNat).slip = false) (hne : ents ≠ []) (hlen : ents.length ≤ 16) (hidx : ∀ e ∈ ents, e.1.toNat < 4096)
  (hq : b.spkQuire f.objId.toNat qi = some q)
include hsealed hne hlen hidx hq

/-- Entries that pass the checks of the body meet the graph's state next, then the owner of their groups (R248, R249). -/
theorem State.spikeRoute_checked : b.spikeRoute h f qi ents =
    if (b.graph f.objId.toNat).state = 1 ∧ !f.atEn then .err b stTransition 2
    else if ents.any (fun e => e.2.getLsbD 63 && e.2.getLsbD 62 && e.2.getLsbD 61 && !b.ownsGroup (b.graph f.objId.toNat).slip (bitsN e.2.toNat 58 49)) then
      .err b stNotPermitted 0xB
    else if (b.graph f.objId.toNat).state ≠ 1 then .ok (b.modTile q (Tile.routed ents))
    else if 64 < (b.quire q).spk.pend.length + (b.stagedRoutes q).length + ents.length then .err b stNoResource 1
    else .ok (b.modTile q (fun t => { t with pend := t.pend ++ ents.map (fun e => { idx := e.1.toNat, tick := f.atTick.toNat, ent := e.2.toNat }) })) := by
  have hbody : ¬ (ents.isEmpty ∨ 16 < ents.length ∨ ents.any (fun e => decide (4096 ≤ e.1.toNat))) := by
    simp only [List.isEmpty_iff, List.any_eq_true, decide_eq_true_eq, not_or, not_exists, not_and, not_le, not_lt]
    exact ⟨hne, hlen, hidx⟩
  simp only [State.spikeRoute, hsealed, Bool.false_eq_true, if_false, if_neg hbody, hq]
  rfl

theorem State.spikeRoute_running (hrun : (b.graph f.objId.toNat).state = 1) (hat : f.atEn = false) :
    b.spikeRoute h f qi ents = .err b 0x700 2 := by
  rw [State.spikeRoute_checked hsealed hne hlen hidx hq, if_pos ⟨hrun, by rw [hat]; rfl⟩]
  rfl

theorem State.spikeRoute_set (hrun : (b.graph f.objId.toNat).state ≠ 1)
    (hown : ∀ e ∈ ents, e.2.getLsbD 63 = true → e.2.getLsbD 62 = true → e.2.getLsbD 61 = true →
      b.ownsGroup (b.graph f.objId.toNat).slip (bitsN e.2.toNat 58 49) = true) :
    b.spikeRoute h f qi ents = .ok (b.modTile q (Tile.routed ents)) := by
  have hany : ents.any (fun e => e.2.getLsbD 63 && e.2.getLsbD 62 && e.2.getLsbD 61 &&
      !b.ownsGroup (b.graph f.objId.toNat).slip (bitsN e.2.toNat 58 49)) = false := by
    refine List.any_eq_false.2 (fun e he => ?_)
    simp only [Bool.and_eq_true, Bool.not_eq_true', not_and, Bool.not_eq_false]
    exact fun h => hown e he h.1.1 h.1.2 h.2
  rw [State.spikeRoute_checked hsealed hne hlen hidx hq, if_neg (fun h => hrun h.1), hany, if_neg Bool.false_ne_true, if_pos hrun]

end

/-! ## SPIKE_WEIGHTS -/

/-- The quire with bytes written to SYS. -/
def Quire.sysPut (addr : Nat) (l : List (BitVec 8)) (x : Quire) : Quire := { x with sys := SMap.putAll 0 x.sys addr l }

theorem State.spikeWeights_put {b : State} {h : CmdRef} {f : Fetched} {qi q addr n : Nat} {sg : Sgl} {data : List (BitVec 8)}
    (hsealed : b.sealedFor h (b.graph f.objId.toNat).slip = false) (hq : b.spkQuire f.objId.toNat qi = some q) (haddr : addr % 8 = 0) (hn : n % 8 = 0)
    (hend : addr + n ≤ 2 ^ 20) (hrun : (b.graph f.objId.toNat).state ≠ 1) (hsg : sglErr sg n = none) :
    b.spikeWeights h f qi addr n sg data = .ok (b.modQuire q (Quire.sysPut addr (data.take n))) := by
  have hbody : ¬ (addr % 8 ≠ 0 ∨ n % 8 ≠ 0 ∨ 2 ^ 20 < addr + n) := by omega
  simp only [State.spikeWeights, hsealed, hq, hsg, if_neg hbody, if_neg (fun h : _ ∧ _ => hrun h.1), if_neg hrun, Bool.false_eq_true, if_false]
  rfl

/-! ## SPIKE_STATE_READ -/

/-- The tile with a state read noted (R239). -/
def Tile.withRead (r : SpkRead) (t : Tile) : Tile := { t with reads := t.reads ++ [r] }

/-- A read that passes the checks is noted by a tile that settles, and answered by one that does not. -/
theorem State.spikeRead_checked {b : State} {h : CmdRef} {f : Fetched} {qi q first cnt tau : Nat} {sg : Sgl}
    (hsealed : b.sealedFor h (b.graph f.objId.toNat).slip = false) (hq : b.spkQuire f.objId.toNat qi = some q) (hcnt : cnt ≠ 0)
    (hlast : first + cnt ≤ 8192) (htau : (b.quire q).spk.next ≤ tau + 1) (hsg : sglErr sg (12 * cnt) = none) :
    b.spikeRead h f qi first cnt sg tau =
      if (b.quire q).spk.en then .later (b.modTile q (Tile.withRead { ref := h, tick := tau % 2 ^ 32, first := first, count := cnt }))
      else .ok (b.sglWrite h (((b.quire q).spk.stateBytes first cnt).map (fun x => x.toNat))) := by
  have hbody : ¬ (cnt = 0 ∨ 8192 < first + cnt) := by omega
  simp only [State.spikeRead, hsealed, hq, hsg, if_neg hbody, if_neg (Nat.not_lt.2 htau), Bool.false_eq_true, if_false]
  rfl

end Sys2Proof.Machine

/-! SUPPORT. What the commands of the Spiking class leave behind them (R239, R243, R248). -/
namespace Sys2Proof.Machine

theorem execSpikeRouteSet_running {h : CmdRef} {qi : BitVec 8} {ents : List (BitVec 16 × BitVec 128)} {f : Fetched} {q : Nat} {s b : State}
    (hs : s.Starts h 0x0701 (.spikeRouteSet h qi ents) f b) (hsealed : b.sealedFor h (b.graph f.objId.toNat).slip = false) (hne : ents ≠ [])
    (hlen : ents.length ≤ 16) (hidx : ∀ e ∈ ents, e.1.toNat < 4096) (hq : b.spkQuire f.objId.toNat qi.toNat = some q)
    (hrun : (b.graph f.objId.toNat).state = 1) : ∃ t, execSpikeRouteSet h qi ents s = .next t ∧ State.Answered b t h 0x700 2 0 :=
  ⟨_, rfl, State.cmd_err hs (State.spikeRoute_running hsealed hne hlen hidx hq hrun hs.2.1) (by decide)⟩

/-- SPIKE_ROUTE_SET of a graph that does not run (R248). -/
theorem execSpikeRouteSet_spec {h : CmdRef} {qi : BitVec 8} {ents : List (BitVec 16 × BitVec 128)} {f : Fetched} {q : Nat} {s b : State}
    (hs : s.Starts h 0x0701 (.spikeRouteSet h qi ents) f b) (hb : b.canonical = true) (hsealed : b.sealedFor h (b.graph f.objId.toNat).slip = false)
    (hne : ents ≠ []) (hlen : ents.length ≤ 16) (hidx : ∀ e ∈ ents, e.1.toNat < 4096) (hq : b.spkQuire f.objId.toNat qi.toNat = some q)
    (htable : SMap.wf 0 (b.quire q).spk.table = true) (hrun : (b.graph f.objId.toNat).state ≠ 1)
    (hown : ∀ e ∈ ents, e.2.getLsbD 63 = true → e.2.getLsbD 62 = true → e.2.getLsbD 61 = true →
      b.ownsGroup (b.graph f.objId.toNat).slip (bitsN e.2.toNat 58 49) = true) :
    ∃ (u t : State), execSpikeRouteSet h qi ents s = .next t ∧ State.Answered u t h 0 0 0 ∧ u = { b with quires := u.quires } ∧
      (∀ k, k ≠ q → u.quire k = b.quire k) ∧ u.quire q = { b.quire q with spk := { (b.quire q).spk with table := (u.quire q).spk.table } } ∧
      ∀ i, SMap.get 0 (u.quire q).spk.table i =
        ((ents.reverse.find? (fun e => decide (e.1.toNat = i))).map (fun e => e.2.toNat)).getD (SMap.get 0 (b.quire q).spk.table i) := by
  obtain ⟨-, -, hw, -⟩ := State.canonical_maps hb
  obtain ⟨t, ht, ha⟩ := State.cmd_ok (run := fun s f => s.spikeRoute h f qi.toNat ents) hs
    (State.spikeRoute_set hsealed hne hlen hidx hq hrun hown) rfl
  have hself : (b.modTile q (Tile.routed ents)).quire q = { b.quire q with spk := (b.quire q).spk.routed ents } := State.modTile_quire hw q _
  refine ⟨_, t, ht, ha, rfl, fun k hk => b.modTile_quire_ne hk _, ?_, fun i => ?_⟩
  · rw [hself]
    rfl
  · rw [hself]
    exact SMap.get_foldl_put _ _ ents htable i

/-- SPIKE_WEIGHTS of a graph that does not run (R243). -/
theorem execSpikeWeights_spec {h : CmdRef} {qi : BitVec 8} {addr n : BitVec 32} {sg : Sgl} {data : List (BitVec 8)} {f : Fetched} {q : Nat}
    {s b : State} (hs : s.Starts h 0x0702 (.spikeWeights h qi addr n sg data) f b) (hb : b.canonical = true)
    (hsealed : b.sealedFor h (b.graph f.objId.toNat).slip = false) (hq : b.spkQuire f.objId.toNat qi.toNat = some q)
    (hsys : SMap.wf 0 (b.quire q).sys = true) (haddr : addr.toNat % 8 = 0) (hn : n.toNat % 8 = 0) (hend : addr.toNat + n.toNat ≤ 2 ^ 20)
    (hrun : (b.graph f.objId.toNat).state ≠ 1) (hsg : sglErr sg n.toNat = none) :
    ∃ (u t : State), execSpikeWeights h qi addr n sg data s = .next t ∧ State.Answered u t h 0 0 0 ∧ u = { b with quires := u.quires } ∧
      (∀ k, k ≠ q → u.quire k = b.quire k) ∧ u.quire q = { b.quire q with sys := (u.quire q).sys } ∧
      (∀ (i : Nat) x, (data.take n.toNat)[i]? = some x → SMap.get 0 (u.quire q).sys (addr.toNat + i) = x) ∧
      ∀ j, j < addr.toNat ∨ addr.toNat + n.toNat ≤ j → SMap.get 0 (u.quire q).sys j = SMap.get 0 (b.quire q).sys j := by
  obtain ⟨-, -, hw, -⟩ := State.canonical_maps hb
  obtain ⟨t, ht, ha⟩ := State.cmd_ok (run := fun s f => s.spikeWeights h f qi.toNat addr.toNat n.toNat sg data) hs
    (State.spikeWeights_put hsealed hq haddr hn hend hrun hsg) rfl
  have hself := State.modQuire_quire_self hw q (Quire.sysPut addr.toNat (data.take n.toNat))
  refine ⟨_, t, ht, ha, rfl, fun k hk => b.modQuire_quire_ne hk _, ?_, fun i x hx => ?_, fun j hj => ?_⟩
  · rw [hself]
    rfl
  · obtain ⟨hi, rfl⟩ := List.getElem?_eq_some_iff.1 hx
    rw [hself]
    exact SMap.get_putAll_inside hsys hi
  · rw [hself]
    exact SMap.get_putAll_outside (hj.imp_right (Nat.le_trans (Nat.add_le_add_left (List.length_take_le _ _) _)))

section
variable {h : CmdRef} {qi : BitVec 8} {first cnt : BitVec 16} {sg : Sgl} {f : Fetched} {q d : Nat} {s b : State}
  (hs : s.startable h 0x0703 = some f) (hb : b = s.brewFor f (.spikeStateRead h qi first cnt sg))
  (ho : b.objErr 0x0703 h.fn.toNat f.objId.toNat = none) (hl : b.lead f.atTick = some d)
  (hsealed : b.sealedFor h (b.graph f.objId.toNat).slip = false) (hq : b.spkQuire f.objId.toNat qi.toNat = some q) (hcnt : cnt ≠ 0)
  (hlast : first.toNat + cnt.toNat ≤ 8192) (htau : (b.quire q).spk.next ≤ b.tim.tick + d + 1) (hsg : sglErr sg (12 * cnt.toNat) = none)
include hs hb ho hl hsealed hq hcnt hlast htau hsg

/-- SPIKE_STATE_READ of a tile that does not settle is answered with the states it has (R239). -/
theorem execSpikeStateRead_idle (hen : (b.quire q).spk.en = false) : ∃ t, execSpikeStateRead h qi first cnt sg s = .next t ∧
    State.Answered (b.sglWrite h (((b.quire q).spk.stateBytes first.toNat cnt.toNat).map (fun x => x.toNat))) t h 0 0 0 := by
  subst hb
  refine ⟨_, rfl, cmdAt_ok hs ho hl ?_ rfl⟩
  rw [State.spikeRead_checked hsealed hq (fun e => hcnt (BitVec.eq_of_toNat_eq e)) hlast htau hsg, hen]
  rfl

/-- SPIKE_STATE_READ of a tile that settles waits in the tile (R239). -/
theorem execSpikeStateRead_waits (hcan : b.canonical = true) (hen : (b.quire q).spk.en = true) :
    ∃ t, execSpikeStateRead h qi first cnt sg s = .next t ∧ (t.quire q).spk =
      (b.quire q).spk.withRead { ref := h, tick := (b.tim.tick + d) % 2 ^ 32, first := first.toNat, count := cnt.toNat } ∧
      (∀ k, k ≠ q → t.quire k = b.quire k) ∧ t.tim = b.tim := by
  obtain ⟨-, -, hw, -⟩ := State.canonical_maps hcan
  subst hb
  have hread := State.spikeRead_checked (h := h) hsealed hq (fun e => hcnt (BitVec.eq_of_toNat_eq e)) hlast htau hsg
  rw [if_pos hen] at hread
  have hrun : execSpikeStateRead h qi first cnt sg s = .next _ := congrArg Host.Outcome.next (cmdAt_later hs ho hl hread)
  refine ⟨_, hrun, ?_, fun k hk => State.modTile_quire_ne _ hk _, rfl⟩
  exact congrArg Quire.spk (State.modTile_quire hw q _)

end

end Sys2Proof.Machine

/-! SUPPORT. Settlement of a tile (R232 to R239): the stages of a tick, and what each leaves of the tile. -/
namespace Sys2Proof.Machine

theorem exec_settlement (q : BitVec 7) (bad : List Nat) (s : State) : exec (.settlement q bad) s = execSettlement q bad s := rfl

/-! ## The stages -/

/-- The tile without the deliveries and writes of a tick. -/
def Tile.taken (e : Nat) (t : Tile) : Tile :=
  { t with buf := t.buf.filter (fun d => decide (d.2 ≠ e)), writes := t.writes.filter (fun w => decide (w.tick ≠ e)) }

/-- The tile at the end of a tick. -/
def Tile.settled (n : Nat) (t : Tile) : Tile :=
  Tile.mergeRoutes { t with reads := t.reads.filter (fun r => decide (r.tick ≠ n % 2 ^ 32)), next := n + 1, sweepDue := decide (n % 2 ^ 28 = 0) }

/-- The writes of a tick stand in SYS, and its deliveries have left the buffer (R243). -/
def State.settleIn (s : State) (q e : Nat) : State :=
  (((s.quire q).spk.writes.filter (fun w => decide (w.tick = e))).foldl
    (fun s w => s.modQuire q (fun x => { x with sys := SMap.putAll 0 x.sys w.addr w.bytes })) s).modTile q (Tile.taken e)

/-- The rows of a tick's deliveries. -/
def Tile.rowsAt (e : Nat) (t : Tile) : List Nat := (t.buf.filter (fun d => decide (d.2 = e))).map (fun d => d.1)

/-- The contributions of a tick's deliveries are summed (R240, R241). -/
def State.settleRows (s : State) (q e : Nat) (bad : List Nat) : State × SMap (Option Int) :=
  ((s.quire q).spk.rowsAt e).foldl (fun p row => p.1.takeRow q bad p.2 row) (s.settleIn q e, [])

/-- Each neuron with a sum takes it (R236). -/
def State.settleNeurons (s : State) (q n : Nat) (m : SMap (Option Int)) : State := m.foldl (fun s x => s.applyOne q n x.1 (x.2.getD 0)) s

/-- The reads of a tick are answered (R239). -/
def State.settleReads (s : State) (q e : Nat) : State :=
  ((s.quire q).spk.reads.filter (fun r => decide (r.tick = e))).foldl (fun s r =>
    (s.sglWrite r.ref (((s.quire q).spk.stateBytes r.first r.count).map (fun x => x.toNat))).complete r.ref 0 0) s

theorem State.spkSettle_eq (s : State) (q n : Nat) (bad : List Nat) : s.spkSettle q n bad =
    (((s.settleRows q (n % 2 ^ 32) bad).1.settleNeurons q n (s.settleRows q (n % 2 ^ 32) bad).2).settleReads q (n % 2 ^ 32)).modTile q (Tile.settled n) := rfl

/-! ## What each stage leaves -/

theorem State.complete_quires (s : State) (h : CmdRef) (st det : Nat) (r : BitVec 128) : (s.complete h st det r).quires = s.quires := by
  unfold State.complete
  split
  · rfl
  · extract_lets c s1 s2
    have h2 : s2.quires = s.quires := State.ite_quires (s := s1) rfl
    rw [(State.trace_traced _ _ _ _ _).1]
    exact h2

/-- y is x but for neurons and the spikes they fired. -/
def Tile.OnlyNeurons (x y : Tile) : Prop := y = { x with neurons := y.neurons, fires := y.fires }

theorem Tile.OnlyNeurons.put {x y : Tile} (h : x.OnlyNeurons y) (m : SMap Neuron) (l : List Fire) :
    x.OnlyNeurons { y with neurons := m, fires := l } := by
  rw [Tile.OnlyNeurons, h]

namespace State.TileIs

variable {k : Nat} {s t : State} {P : Tile → Prop}

theorem settleIn (hw : SMap.wf {} s.quires = true) (k e : Nat) : TileIs k s (· = (s.quire k).spk.taken e) (s.settleIn k e) := by
  refine State.TileIs.modTile (P := (· = (s.quire k).spk)) (.foldl (fun t w h => ?_) _ (.start hw rfl)) (fun y hy => congrArg _ hy)
  exact h.modQuire (fun _ => rfl)

theorem rowFault (h : TileIs k s P t) (row : Nat) (ecc : Bool) : TileIs k s P (t.rowFault k row ecc) := by
  unfold State.rowFault
  extract_lets u
  have hu : u.quires = t.quires := (t.spkDrop_quires _ _ _ :)
  exact (h.same hu).fault _ _ _

/-- A delivery leaves the tile alone, row fault or not (R242). -/
theorem takeRow (h : TileIs k s P t) (bad : List Nat) (m : SMap (Option Int)) (row : Nat) : TileIs k s P (t.takeRow k bad m row).1 := by
  unfold State.takeRow
  extract_lets sys
  split
  · exact h.rowFault _ _
  · split
    · exact h.rowFault _ _
    · exact h.same rfl

theorem foldl_takeRow (bad rows : List Nat) {p : State × SMap (Option Int)} (h : TileIs k s P p.1) :
    TileIs k s P (rows.foldl (fun p row => p.1.takeRow k bad p.2 row) p).1 := by
  induction rows generalizing p with
  | nil => exact h
  | cons row r ih => exact ih (h.takeRow bad p.2 row)

theorem settleRows (hw : SMap.wf {} s.quires = true) (k e : Nat) (bad : List Nat) :
    TileIs k s (· = (s.quire k).spk.taken e) (s.settleRows k e bad).1 :=
  .foldl_takeRow bad _ (.settleIn hw k e)

theorem applyOne {x : Tile} (h : TileIs k s x.OnlyNeurons t) (n j : Nat) (p : Int) : TileIs k s x.OnlyNeurons (t.applyOne k n j p) := by
  unfold State.applyOne
  extract_lets y z
  split
  · exact h.bump _ _
  · exact h.bump _ _
  · extract_lets u
    have hu : TileIs k s x.OnlyNeurons u := by
      refine State.TileIs.modTile (P := x.OnlyNeurons) (h.bump _ _) (fun w hw => ?_)
      exact hw.put _ w.fires
    split
    · exact hu
    · refine State.TileIs.modTile (P := x.OnlyNeurons) (hu.bump _ _) (fun w hw => ?_)
      exact hw.put w.neurons _

theorem settleNeurons {x : Tile} (h : TileIs k s x.OnlyNeurons t) (n : Nat) (m : SMap (Option Int)) :
    TileIs k s x.OnlyNeurons (t.settleNeurons k n m) :=
  .foldl (fun _ _ hu => hu.applyOne n _ _) _ h

theorem settleReads (h : TileIs k s P t) (e : Nat) : TileIs k s P (t.settleReads k e) := by
  refine .foldl (fun u r hu => ?_) _ h
  exact hu.same (State.complete_quires _ _ _ _ _)

end State.TileIs

/-! ## One neuron (R236) -/

/-- The neuron after an input. -/
def Applied.left (y : Neuron) : Applied → Neuron
  | .updated z _ => z
  | _ => y

/-- y has the neurons of x, but that neuron j has taken an input by the rule of R236. -/
def Tile.Took (n j : Nat) (p : Int) (x y : Tile) : Prop :=
  y.neuron j = ((x.neuron j).apply (x.cls (x.neuron j).cls) (sext 32 (unsig 32 p)) n).left (x.neuron j) ∧ ∀ i, i ≠ j → y.neuron i = x.neuron i

/-- An input reaches its neuron and no other. -/
theorem State.TileIs.applyOne_neuron {k : Nat} {s t : State} {x : Tile} (h : State.TileIs k s (· = x) t) (hx : SMap.wf {} x.neurons = true)
    (n j : Nat) (p : Int) : State.TileIs k s (x.Took n j p) (t.applyOne k n j p) := by
  unfold State.applyOne Tile.Took
  extract_lets y z
  obtain rfl : y = x := h.own
  split
  next ha =>
    rw [ha]
    refine (h.bump _ _).imp (fun w hw => ?_)
    rw [hw]
    exact ⟨rfl, fun _ _ => rfl⟩
  next ha =>
    rw [ha]
    refine (h.bump _ _).imp (fun w hw => ?_)
    rw [hw]
    exact ⟨rfl, fun _ _ => rfl⟩
  next v f ha =>
    extract_lets u
    rw [ha]
    have hu : State.TileIs k s (fun w => w.neuron j = v ∧ ∀ i, i ≠ j → w.neuron i = y.neuron i) u := by
      refine State.TileIs.modTile (P := (· = y)) (h.bump _ _) (fun w hw => ?_)
      subst hw
      exact ⟨SMap.get_put_self hx, fun i hi => SMap.get_put_ne hi⟩
    split
    · exact hu
    · refine State.TileIs.modTile (hu.bump _ _) (fun w hw => ?_)
      exact hw

end Sys2Proof.Machine

/-! SUPPORT. SETTLEMENT, SPIKE_DELIVERY and RENEWAL_SWEEP (R232, R234, R236, R238, R256). -/
namespace Sys2Proof.Machine

theorem exec_spikeDelivery (q : BitVec 7) (s : State) : exec (.spikeDelivery q) s = execSpikeDelivery q s := rfl

theorem exec_renewalSweep (q : BitVec 7) (s : State) : exec (.renewalSweep q) s = execRenewalSweep q s := rfl

/-! ## SETTLEMENT -/

/-- Settling a tick changes, of the quires, one tile: its neurons and fired spikes, and what the end of the tick writes. -/
theorem State.TileIs.spkSettle {s : State} (hw : SMap.wf {} s.quires = true) (k n : Nat) (bad : List Nat) :
    State.TileIs k s (fun y => ∃ z, ((s.quire k).spk.taken (n % 2 ^ 32)).OnlyNeurons z ∧ y = z.settled n) (s.spkSettle k n bad) := by
  have h1 := State.TileIs.settleRows hw k (n % 2 ^ 32) bad
  have h2 : State.TileIs k s ((s.quire k).spk.taken (n % 2 ^ 32)).OnlyNeurons _ := h1.imp (fun y (hy : y = _) => by rw [hy]; rfl)
  rw [State.spkSettle_eq]
  exact ((h2.settleNeurons n _).settleReads _).modTile (fun z hz => ⟨z, hz, rfl⟩)

/-- A tick without deliveries fires nothing. -/
theorem State.spkSettle_quiet {s : State} (hw : SMap.wf {} s.quires = true) (k n : Nat) (bad : List Nat)
    (hbuf : ∀ d ∈ (s.quire k).spk.buf, d.2 ≠ n % 2 ^ 32) : ((s.spkSettle k n bad).quire k).spk.neurons = (s.quire k).spk.neurons ∧
      ((s.spkSettle k n bad).quire k).spk.fires = (s.quire k).spk.fires := by
  have hrows : (s.quire k).spk.rowsAt (n % 2 ^ 32) = [] := by
    rw [Tile.rowsAt, List.filter_eq_nil_iff.2 (fun d hd => by simpa using hbuf d hd)]
    rfl
  have h1 : s.settleRows k (n % 2 ^ 32) bad = (s.settleIn k (n % 2 ^ 32), []) := by
    rw [State.settleRows, hrows]
    rfl
  have h2 := ((State.TileIs.settleIn hw k (n % 2 ^ 32)).settleReads (n % 2 ^ 32)).modTile (g := Tile.settled n)
    (Q := fun y => y.neurons = (s.quire k).spk.neurons ∧ y.fires = (s.quire k).spk.fires) (fun y hy => by rw [hy]; exact ⟨rfl, rfl⟩)
  rw [State.spkSettle_eq, h1]
  exact h2.own

/-- A tick with one delivery of a row of one synapse changes that synapse's neuron (R236, R240). -/
theorem State.spkSettle_single {s : State} (hw : SMap.wf {} s.quires = true) {k n row j : Nat} {p : Int}
    (hbuf : (s.quire k).spk.buf.filter (fun d => decide (d.2 = n % 2 ^ 32)) = [(row, n % 2 ^ 32)])
    (hwrites : ∀ w ∈ (s.quire k).spk.writes, w.tick ≠ n % 2 ^ 32) (hrow : rowOf (s.quire k).sys row = some [(j, p)]) {x : Tile}
    (hx : x = (s.quire k).spk) (hneurons : SMap.wf {} x.neurons = true) :
    x.Took n j p ((s.spkSettle k n []).quire k).spk := by
  have hin : s.settleIn k (n % 2 ^ 32) = s.modTile k (Tile.taken (n % 2 ^ 32)) := by
    rw [State.settleIn, List.filter_eq_nil_iff.2 (fun w hmem => by simpa using hwrites w hmem)]
    rfl
  have hsys : ((s.settleIn k (n % 2 ^ 32)).quire k).sys = (s.quire k).sys := by
    rw [hin, State.modTile_quire hw]
  have h1 : s.settleRows k (n % 2 ^ 32) [] = ((s.settleIn k (n % 2 ^ 32)).bump (spkCtr k 1) 1, [(j, some p)]) := by
    have htake : (s.settleIn k (n % 2 ^ 32)).takeRow k [] [] row =
        ((s.settleIn k (n % 2 ^ 32)).bump (spkCtr k 1) 1, addRow [] [(j, p)]) := by
      simp only [State.takeRow, List.any_nil, Bool.false_eq_true, if_false, hsys, hrow]
      rfl
    have hsum : addRow [] [(j, p)] = [(j, some p)] := by
      simp [addRow, SMap.put, SMap.ins]
    rw [State.settleRows, Tile.rowsAt, hbuf]
    simp only [List.map_cons, List.map_nil, List.foldl_cons, List.foldl_nil, htake, hsum]
  have h2 := ((State.TileIs.settleIn hw k (n % 2 ^ 32)).bump (spkCtr k 1) 1).applyOne_neuron (by rw [← hx]; exact hneurons) n j p
  have h3 := (h2.settleReads (n % 2 ^ 32)).modTile (g := Tile.settled n) (Q := x.Took n j p) (fun y hy => by subst hx; exact hy)
  rw [State.spkSettle_eq, h1]
  exact h3.own

theorem execSettlement_waits {q : BitVec 7} {bad : List Nat} {k : Nat} {x : Tile} {s : State} (hk : k = q.toNat) (hx : x = (s.quire k).spk)
    (h : x.en = false ∨ x.sweepDue = true ∨ s.tim.tick < x.next + s.slipLag (s.tileSlip k)) : execSettlement q bad s = .next s := by
  subst hk hx
  unfold execSettlement
  exact congrArg Host.Outcome.next (if_pos (h.imp (fun he => by rw [he]; rfl) id))

theorem execSettlement_settles {q : BitVec 7} {bad : List Nat} {k n : Nat} {x : Tile} {s : State} (hk : k = q.toNat) (hx : x = (s.quire k).spk)
    (hen : x.en = true) (hsweep : x.sweepDue = false) (hle : x.next + s.slipLag (s.tileSlip k) ≤ s.tim.tick)
    (hn : n = x.nextDue (s.tim.tick - s.slipLag (s.tileSlip k))) : execSettlement q bad s = .next (s.spkSettle k n bad) := by
  subst hk hx hn
  unfold execSettlement
  refine congrArg Host.Outcome.next (if_neg ?_)
  simp only [hen, hsweep, Bool.not_true, Bool.false_eq_true, false_or]
  exact Nat.not_lt.2 hle

/-! ## SPIKE_DELIVERY -/

/-- The tile whose oldest delivery has arrived: it is in the buffer, or dropped where it is late or the buffer is full. -/
def Tile.delivered (d : Nat × Nat) (rest : List (Nat × Nat)) (x : Tile) : Tile :=
  { x with flight := rest, buf := if x.en = true ∧ 0 ≤ etsDiff d.2 (x.next % 2 ^ 32) ∧ x.buf.length < 16384 then x.buf ++ [d] else x.buf }

theorem State.deliver1_none {s : State} {q : Nat} (h : (s.quire q).spk.flight = []) : s.deliver1 q = s := by
  simp only [State.deliver1, h]

theorem State.TileIs.deliver1 {s : State} (hw : SMap.wf {} s.quires = true) {k : Nat} {x : Tile} (hx : x = (s.quire k).spk) {d : Nat × Nat}
    {rest : List (Nat × Nat)} (h : x.flight = d :: rest) : State.TileIs k s (· = x.delivered d rest) (s.deliver1 k) := by
  unfold State.deliver1
  extract_lets t
  obtain rfl : x = t := hx
  rw [h]
  simp only
  generalize hu : s.modTile k (fun t => { t with flight := rest }) = u
  have hfly : State.TileIs k s (· = { t with flight := rest }) u := by
    rw [← hu]
    exact State.TileIs.modTile (P := (· = t)) (.start hw rfl) (fun y hy => by rw [hy])
  have hdrop : ¬ (t.en = true ∧ 0 ≤ etsDiff d.2 (t.next % 2 ^ 32) ∧ t.buf.length < 16384) → State.TileIs k s (· = t.delivered d rest) u := fun hc =>
    hfly.imp (fun y hy => by rw [hy, Tile.delivered, if_neg hc])
  split
  next hlate =>
    have hq : ∀ slip c, (((u.spkDrop slip c).orReg (qrB k + 0x2208) 2).conFault (fun g => g.quires.contains k) 5).quires = u.quires :=
      fun slip c => u.spkDrop_quires slip c 1
    refine (hdrop ?_).same (hq _ _)
    rintro ⟨hen, hle, -⟩
    exact hlate.elim (fun he => by simp [hen] at he) (fun hlt => Int.not_le.2 hlt hle)
  next hearly =>
    simp only [not_or, Bool.not_eq_true', Bool.not_eq_false, Int.not_lt] at hearly
    split
    next hfull => exact (hdrop (fun hc => Nat.not_lt.2 hfull hc.2.2)).same (u.spkDrop_quires _ _ _)
    next hroom =>
      refine State.TileIs.modTile (hfly.bump _ _) (fun y hy => ?_)
      rw [hy, Tile.delivered, if_pos ⟨hearly.1, hearly.2, Nat.not_le.1 hroom⟩]

/-! ## RENEWAL_SWEEP -/

/-- The tile whose neurons have been renewed (R238). -/
def Tile.renewed (x : Tile) : Tile :=
  { x with sweepDue := false, neurons := SMap.mapAll {} x.neurons (fun _ y => y.renew (x.cls y.cls) (x.next - 1)) }

/-- A renewal leaves a neuron that is not enabled as it is. -/
theorem Neuron.renew_default (c n : Nat) : ({} : Neuron).renew c n = {} := rfl

theorem Tile.renewed_neuron {x : Tile} (hx : SMap.wf {} x.neurons = true) (i : Nat) :
    x.renewed.neuron i = (x.neuron i).renew (x.cls (x.neuron i).cls) (x.next - 1) :=
  SMap.get_mapAll (f := fun _ (y : Neuron) => y.renew (x.cls y.cls) (x.next - 1)) (fun _ => Neuron.renew_default _ _) hx i

theorem execRenewalSweep_waits {q : BitVec 7} {k : Nat} {x : Tile} {s : State} (hk : k = q.toNat) (hx : x = (s.quire k).spk)
    (h : x.en = false ∨ x.sweepDue = false) : execRenewalSweep q s = .next s := by
  subst hk hx
  unfold execRenewalSweep
  exact congrArg Host.Outcome.next (if_pos (h.imp (fun he => by rw [he]; rfl) (fun he => by rw [he]; rfl)))

theorem execRenewalSweep_sweeps {q : BitVec 7} {k : Nat} {x : Tile} {s : State} (hk : k = q.toNat) (hx : x = (s.quire k).spk)
    (hen : x.en = true) (hsweep : x.sweepDue = true) : execRenewalSweep q s = .next (s.modTile k Tile.renewed) := by
  subst hk hx
  unfold execRenewalSweep
  refine congrArg Host.Outcome.next (if_neg ?_)
  simp [hen, hsweep]

end Sys2Proof.Machine

/-! SUPPORT. ROUTER_LOOKUP and DELAY_QUEUE_RELEASE (R233, R245, R246, R249). -/
namespace Sys2Proof.Machine

theorem exec_routerLookup (q : BitVec 7) (fromTile : Bool) (hops : List (BitVec 8)) (s : State) :
    exec (.routerLookup q fromTile hops) s = execRouterLookup q fromTile hops s := rfl

theorem exec_delayQueueRelease (q : BitVec 7) (loop : Bool) (s : State) : exec (.delayQueueRelease q loop) s = execDelayQueueRelease q loop s := rfl

/-- A change of a tile that leaves its route entries and their changes leaves what its router finds. -/
theorem State.matches_modTile {s : State} (hw : SMap.wf {} s.quires = true) {q : Nat} {g : Tile → Tile}
    (hg : ∀ y, (g y).table = y.table ∧ (g y).pend = y.pend) (key tick : Nat) (egress : Bool) :
    (s.modTile q g).matches q key tick egress = s.matches q key tick egress := by
  refine State.matches_congr (s := s) (t := s.modTile q g) ?_ ?_ rfl rfl key tick egress
  · rw [State.modTile_quire hw]
    exact (hg _).1
  · rw [State.modTile_quire hw]
    exact (hg _).2

/-- An ingress lookup of a spike that has left one of its tile's queues. -/
theorem State.TileIs.ingress_taken {s : State} (hw : SMap.wf {} s.quires = true) {k : Nat} {g : Tile → Tile}
    (hg : ∀ y, (g y).table = y.table ∧ (g y).pend = y.pend ∧ (g y).flight = y.flight) (w : Nat) :
    State.TileIs k s (· = { g (s.quire k).spk with flight := (s.quire k).spk.flight ++ s.found k w }) ((s.modTile k g).ingress k w) := by
  have h1 : State.TileIs k s (· = g (s.quire k).spk) (s.modTile k g) :=
    State.TileIs.modTile (P := (· = (s.quire k).spk)) (.start hw rfl) (fun y hy => congrArg g hy)
  have hf : (s.modTile k g).found k w = s.found k w :=
    State.found_congr (fun key tick => State.matches_modTile hw (fun y => ⟨(hg y).1, (hg y).2.1⟩) key tick false) w
  refine h1.ingress w (fun y hy => ?_)
  rw [hy, hf, (hg _).2.2]

/-! ## The two inputs of a router -/

/-- The tile whose router has taken a spike from the crossbar. -/
def Tile.xbarTaken (rest : List Nat) (t : Tile) : Tile := { t with xbarQ := rest }

/-- The tile whose router has taken a spike that the tile fired. -/
def Tile.fireTaken (rest : List Fire) (t : Tile) : Tile := { t with tileQ := rest }

section
variable {q : BitVec 7} {hops : List (BitVec 8)} {k : Nat} {s u : State} (hu : u = hops.foldl (fun s d => s.kMove d.toNat) s) (hk : k = q.toNat)
include hu hk

theorem execRouterLookup_xbarEmpty (h : (u.quire k).spk.xbarQ = []) : execRouterLookup q false hops s = .next u := by
  subst hu hk
  simp only [execRouterLookup, h, Bool.false_eq_true, if_false]

theorem execRouterLookup_tileEmpty (h : (u.quire k).spk.tileQ = []) : execRouterLookup q true hops s = .next u := by
  subst hu hk
  simp only [execRouterLookup, h, if_true]

theorem execRouterLookup_xbar {w : Nat} {rest : List Nat} (h : (u.quire k).spk.xbarQ = w :: rest) :
    execRouterLookup q false hops s = .next ((u.modTile k (Tile.xbarTaken rest)).ingress k w) := by
  subst hu hk
  simp only [execRouterLookup, h, Bool.false_eq_true, if_false]
  rfl

theorem execRouterLookup_tile {f : Fire} {rest : List Fire} (h : (u.quire k).spk.tileQ = f :: rest) :
    execRouterLookup q true hops s = .next (((u.modTile k (Tile.fireTaken rest)).egress k f).modTile k Tile.mergeRoutes) := by
  subst hu hk
  simp only [execRouterLookup, h, if_true]
  rfl

end

/-! ## Egress lookups -/

theorem State.egress_none {s : State} {q : Nat} {f : Fire} (h : s.matches q f.key f.tick true = []) :
    s.egress q f = (s.bump (spkCtr q 9)).spkDrop (s.tileSlip q) (spkCtr q 10) := by
  simp only [State.egress, h, List.isEmpty_nil, if_true]
  rfl

theorem State.egress_one {s : State} {q : Nat} {f : Fire} {e : Nat} (h : s.matches q f.key f.tick true = [e]) :
    s.egress q f = (s.bump (spkCtr q 9)).egressAct q f e := by
  simp only [State.egress, h]
  rfl

/-- An entry that names a group and nothing else sends the spike to the crossbar at once (R233, R246). -/
theorem State.egressAct_xbar {e : Nat} (hxbar : e.testBit 61 = true) (hloop : e.testBit 60 = false) (hrec : e.testBit 59 = false)
    (hdelay : bitsN e 48 41 = 0) (s : State) (q : Nat) (f : Fire) : s.egressAct q f e =
      s.xbarIn (spkWord f.key (f.tick + s.slipLag (s.tileSlip q) + 1)) (bitsN e 58 49) (s.tileSlip q) := by
  simp only [State.egressAct, hxbar, hloop, hrec, hdelay, Bool.not_true, Bool.not_false, Bool.false_eq_true, if_false, if_true, Nat.zero_mul, Nat.add_zero]

theorem State.tileSlip_modTile {s : State} (hw : SMap.wf {} s.quires = true) (q : Nat) (g : Tile → Tile) :
    (s.modTile q g).tileSlip q = s.tileSlip q := by
  rw [State.tileSlip, State.modTile_quire hw, State.tileSlip]

/-- A fired spike that finds nothing is counted as lost (R245). -/
theorem State.egress_none_spec {s : State} (hs : s.canonical = true) {k : Nat} {f : Fire} {rest : List Fire}
    (h : s.matches k f.key f.tick true = []) {t : State} (ht : t = ((s.modTile k (Tile.fireTaken rest)).egress k f).modTile k Tile.mergeRoutes) :
    State.TileIs k s (fun y => y.tileQ = rest ∧ y.flight = (s.quire k).spk.flight) t ∧
      t.ctr (spkCtr k 10) = s.ctr (spkCtr k 10) + 1 ∧ t.kxb = s.kxb := by
  obtain ⟨-, hc, hw, -⟩ := State.canonical_maps hs
  have hm := State.matches_modTile hw (q := k) (g := Tile.fireTaken rest) (fun _ => ⟨rfl, rfl⟩) f.key f.tick true
  rw [State.egress_none (hm.trans h)] at ht
  have h1 : State.TileIs k s (fun y => y.tileQ = rest ∧ y.flight = (s.quire k).spk.flight) (s.modTile k (Tile.fireTaken rest)) :=
    State.TileIs.modTile (P := (· = (s.quire k).spk)) (.start hw rfl) (fun y hy => ⟨rfl, by rw [← hy]; rfl⟩)
  subst ht
  refine ⟨((h1.bump _ _).same (State.spkDrop_quires _ _ _ _)).modTile (fun y hy => hy), ?_, State.spkDrop_kxb _ _ _ _⟩
  change (State.spkDrop _ _ _ _).ctr _ = _
  have hne : spkCtr k 10 ≠ spkCtr k 9 := spkCtr_ne k (by decide)
  rw [State.spkDrop_ctr, State.ctr_bump_self _ _ (State.bump_wf (s := s.modTile k _) hc _ _), State.ctr_bump_ne _ _ hne]
  rfl

/-- A fired spike whose only entry names a group reaches the crossbar (R246). -/
theorem State.egress_xbar_spec {s : State} (hs : s.canonical = true) {k e : Nat} {f : Fire} {rest : List Fire}
    (h : s.matches k f.key f.tick true = [e]) (hxbar : e.testBit 61 = true) (hloop : e.testBit 60 = false) (hrec : e.testBit 59 = false)
    (hdelay : bitsN e 48 41 = 0) {t : State} (ht : t = ((s.modTile k (Tile.fireTaken rest)).egress k f).modTile k Tile.mergeRoutes) :
    State.TileIs k s (fun y => y.tileQ = rest) t ∧ t.kxb = { s.kxb with src := s.kxb.src ++
      [{ word := spkWord f.key (f.tick + s.slipLag (s.tileSlip k) + 1), group := bitsN e 58 49, slip := s.tileSlip k }] } := by
  obtain ⟨-, -, hw, -⟩ := State.canonical_maps hs
  have hm := State.matches_modTile hw (q := k) (g := Tile.fireTaken rest) (fun _ => ⟨rfl, rfl⟩) f.key f.tick true
  have hslip : ((s.modTile k (Tile.fireTaken rest)).bump (spkCtr k 9)).tileSlip k = s.tileSlip k := State.tileSlip_modTile hw k _
  rw [State.egress_one (hm.trans h), State.egressAct_xbar hxbar hloop hrec hdelay, hslip] at ht
  have h1 : State.TileIs k s (fun y => y.tileQ = rest) (s.modTile k (Tile.fireTaken rest)) :=
    State.TileIs.modTile (P := fun _ => True) (.start hw trivial) (fun y _ => rfl)
  subst ht
  exact ⟨((h1.bump _ _).xbarIn _ _ _).modTile (fun y hy => hy), rfl⟩

/-! ## The delay queues (R246) -/

/-- The tile whose delay queue of loops has released a spike. -/
def Tile.loopReleased (i : Nat) (t : Tile) : Tile := { t with loopQ := t.loopQ.eraseIdx i }

/-- The tile whose delay queue to the crossbar has released a spike. -/
def Tile.delayReleased (i : Nat) (t : Tile) : Tile := { t with delayQ := t.delayQ.eraseIdx i }

section
variable {q : BitVec 7} {k : Nat} {x : Tile} {s : State} (hk : k = q.toNat) (hx : x = (s.quire k).spk)
include hk hx

theorem execDelayQueueRelease_loopEmpty (h : x.loopQ = []) : execDelayQueueRelease q true s = .next s := by
  subst hk hx
  simp only [execDelayQueueRelease, h, if_true]
  rfl

theorem execDelayQueueRelease_delayEmpty (h : x.delayQ = []) : execDelayQueueRelease q false s = .next s := by
  subst hk hx
  simp only [execDelayQueueRelease, h, Bool.false_eq_true, if_false]
  rfl

theorem execDelayQueueRelease_loop {i w : Nat} (hi : earliest s.ets x.loopQ 0 none = some i) (hw : x.loopQ[i]? = some w) :
    execDelayQueueRelease q true s =
      .next (if etsDiff (w % 2 ^ 32) s.ets ≤ 1 then (s.modTile k (Tile.loopReleased i)).ingress k w else s) := by
  subst hk hx
  simp only [execDelayQueueRelease, hi, hw, if_true, Option.bind_some, Option.map_some, decide_eq_true_eq]
  rfl

theorem execDelayQueueRelease_delay {i : Nat} {w : Nat × Nat} (hi : earliest s.ets (x.delayQ.map (fun y => y.1)) 0 none = some i)
    (hw : x.delayQ[i]? = some w) : execDelayQueueRelease q false s =
      .next (if etsDiff (w.1 % 2 ^ 32) s.ets ≤ 1 then (s.modTile k (Tile.delayReleased i)).xbarIn w.1 w.2 (s.tileSlip k) else s) := by
  subst hk hx
  simp only [execDelayQueueRelease, hi, hw, Bool.false_eq_true, if_false, Option.bind_some, Option.map_some, decide_eq_true_eq]
  rfl

end

end Sys2Proof.Machine

/-! SUPPORT. The parts of the state a fault can reach (Table 18.4): registers, counters, slipcases, observability, the Safety Island, contracts,
quires and what is sent. -/
namespace Sys2Proof.Machine

/-- t is s but for the parts of the state that a fault can reach. -/
structure State.Reacts (s t : State) : Prop where
  eq : t = { s with regs := t.regs, ctrs := t.ctrs, slips := t.slips, obs := t.obs, si := t.si, contracts := t.contracts, quires := t.quires, out := t.out }

namespace State.Reacts

theorem refl (s : State) : s.Reacts s := ⟨rfl⟩

theorem trans {s t u : State} (h1 : s.Reacts t) (h2 : t.Reacts u) : s.Reacts u := ⟨h2.eq.trans (by rw [h1.eq])⟩

theorem ite {s a b : State} {c : Prop} [Decidable c] (ha : s.Reacts a) (hb : s.Reacts b) : s.Reacts (if c then a else b) := by
  split
  · exact ha
  · exact hb

theorem foldl {α : Type} {f : State → α → State} (h : ∀ s a, State.Reacts s (f s a)) (l : List α) (s : State) : s.Reacts (l.foldl f s) := by
  induction l generalizing s with
  | nil => exact refl s
  | cons a r ih => exact (h s a).trans (ih _)

theorem bump (s : State) (k n : Nat) : s.Reacts (s.bump k n) := ⟨rfl⟩

theorem modSi (s : State) (g : Si → Si) : s.Reacts (s.modSi g) := ⟨rfl⟩

theorem kxb {s t : State} (h : s.Reacts t) : t.kxb = s.kxb := by rw [h.eq]

end State.Reacts

theorem State.reacts_alarm (s : State) (cause source slip : Nat) (present : Bool) : s.Reacts (s.alarm cause source slip present) :=
  ⟨by rw [State.alarm_frame]⟩

theorem State.reacts_log (s : State) (source slip level code : Nat) (data : List Nat) : s.Reacts (s.log source slip level code data) := by
  unfold State.log
  extract_lets t need o first obs s1 s2
  have h2 : s.Reacts s2 := ⟨rfl⟩
  exact .ite ⟨rfl⟩ (.ite (h2.trans (s2.reacts_alarm _ _ _ _)) h2)

theorem State.reacts_writeFault (s : State) (f : FaultRec) : s.Reacts (s.writeFault f) := by
  unfold State.writeFault
  extract_lets s1 s2 s3
  have h2 : s.Reacts s2 := ⟨rfl⟩
  exact (h2.trans (s2.reacts_log _ _ _ _ _)).trans ⟨rfl⟩

theorem State.reacts_fenceSlip (s : State) (n : Nat) : s.Reacts (s.fenceSlip n) := .ite ⟨rfl⟩ (.refl s)

theorem State.reacts_recoverUnit (s : State) (source cause slip : Nat) : s.Reacts (s.recoverUnit source cause slip) :=
  .ite (.ite ⟨rfl⟩ ⟨rfl⟩) (.ite ⟨rfl⟩ (.ite ⟨rfl⟩ ⟨rfl⟩))

theorem State.reacts_assertPins (s : State) : s.Reacts s.assertPins := .ite (.refl s) ⟨rfl⟩

theorem State.reacts_safeOutputs (s : State) : s.Reacts s.safeOutputs := .foldl (fun _ _ => ⟨rfl⟩) _ s

theorem State.reacts_fenceAll (s : State) : s.Reacts s.fenceAll := .foldl State.reacts_fenceSlip _ s

theorem State.reacts_faultFull (s : State) (f : FaultRec) (floor : Nat) : s.Reacts (s.faultFull f floor) := by
  unfold State.faultFull
  split
  · exact .refl s
  · extract_lets r0 fence cp r pins s1 s2 s3 s4 s5 s6 sd ms s7 here s8
    have h1 : s.Reacts s1 := s.reacts_writeFault _
    have h2 : s.Reacts s2 := .ite ((h1.trans (s1.reacts_fenceSlip _)).trans ⟨rfl⟩) h1
    have h3 : s.Reacts s3 := .ite (h2.trans (s2.reacts_recoverUnit _ _ _)) h2
    have h4 : s.Reacts s4 := .ite ((h3.trans (.bump _ _ _)).trans (.modSi _ _)) h3
    have h5 : s.Reacts s5 := .ite (h4.trans s4.reacts_assertPins) h4
    have h6 : s.Reacts s6 := .ite (h5.trans s5.reacts_safeOutputs) h5
    have h7 : s.Reacts s7 := .ite ((h6.trans s6.reacts_fenceAll).trans (.modSi _ _)) h6
    have h8 : s.Reacts s8 := .ite (h7.trans (.modSi _ _)) h7
    exact h8.trans (s8.reacts_alarm _ _ _ _)

end Sys2Proof.Machine

/-! SUPPORT. The crossbar and its attach ports (R247, R251, R252). -/
namespace Sys2Proof.Machine

theorem exec_kxbCopy (hops : List (BitVec 8)) (s : State) : exec (.kxbCopy hops) s = execKxbCopy hops s := rfl

theorem exec_attachSpike (n : BitVec 4) (s : State) : exec (.attachSpike n) s = execAttachSpike n s := rfl

/-! ## A copy -/

/-- A destination FIFO after a copy: the copy, where there is room (R247). -/
def fifoAfter (c : Nat × Nat) (l : List (Nat × Nat)) : List (Nat × Nat) := if l.length < 64 then l ++ [c] else l

/-- A copy to one destination changes its FIFO and no other, and else counters and slipcases only. -/
theorem State.xbarPut_spec (s : State) (slip d w st : Nat) :
    s.xbarPut slip d w st = { s with kxb := { s.kxb with dst := (s.xbarPut slip d w st).kxb.dst },
                                     ctrs := (s.xbarPut slip d w st).ctrs, slips := (s.xbarPut slip d w st).slips } ∧
    ∀ j, SMap.get [] (s.xbarPut slip d w st).kxb.dst j = if j = d then fifoAfter (w, st) (SMap.get [] s.kxb.dst j) else SMap.get [] s.kxb.dst j := by
  unfold State.xbarPut fifoAfter
  split
  next hfull =>
    rw [State.spkDrop_frame]
    refine ⟨rfl, fun j => ?_⟩
    split
    next hj => rw [if_neg (by rw [hj]; omega)]
    next => rfl
  next hroom =>
    refine ⟨rfl, fun j => ?_⟩
    change SMap.get [] (SMap.upd [] s.kxb.dst d (fun l => l ++ [(w, st)])) j = _
    split
    next hj =>
      subst hj
      rw [if_pos (Nat.not_le.1 hroom)]
      exact SMap.get_upd_of_ne (List.append_ne_nil_of_right_ne_nil _ (List.cons_ne_nil _ _))
    next hj => exact SMap.get_upd_ne hj

/-- Copies to several destinations reach the FIFO of each once. -/
theorem State.foldl_xbarPut (slip w st : Nat) {ds : List Nat} (hn : ds.Nodup) (s : State) :
    let t := ds.foldl (fun s d => s.xbarPut slip d w st) s
    t = { s with kxb := { s.kxb with dst := t.kxb.dst }, ctrs := t.ctrs, slips := t.slips } ∧
    ∀ j, SMap.get [] t.kxb.dst j = if j ∈ ds then fifoAfter (w, st) (SMap.get [] s.kxb.dst j) else SMap.get [] s.kxb.dst j := by
  induction ds generalizing s with
  | nil => exact ⟨rfl, fun _ => rfl⟩
  | cons d r ih =>
    obtain ⟨hd, hr⟩ := List.nodup_cons.1 hn
    obtain ⟨hf1, hg1⟩ := s.xbarPut_spec slip d w st
    obtain ⟨hf2, hg2⟩ := ih hr (s.xbarPut slip d w st)
    refine ⟨?_, fun j => ?_⟩
    · rw [List.foldl_cons]
      exact hf2.trans (by rw [hf1])
    · rw [List.foldl_cons, hg2, hg1]
      by_cases hj : j = d
      · subst hj
        simp [hd]
      · simp [hj]

/-- The destinations of a group word (Table 9.8): routers 0 to 67, then Spine ports. -/
def groupDsts (g : Nat) : List Nat := bitsSet 68 (bitsN g 67 0) ++ (bitsSet 4 (bitsN g 71 68)).map (fun d => d + 68)

theorem mem_bitsSet {n v i : Nat} : i ∈ bitsSet n v ↔ i < n ∧ v.testBit i = true := by
  simp [bitsSet]

theorem testBit_bitsN (v hi lo i : Nat) : (bitsN v hi lo).testBit i = (decide (i < hi + 1 - lo) && v.testBit (lo + i)) := by
  rw [bitsN, Nat.testBit_mod_two_pow, Nat.testBit_shiftRight]

theorem mem_groupDsts {g d : Nat} : d ∈ groupDsts g ↔ d < 72 ∧ g.testBit d = true := by
  simp only [groupDsts, List.mem_append, List.mem_map, mem_bitsSet, testBit_bitsN, Bool.and_eq_true, decide_eq_true_eq]
  constructor
  · rintro (⟨hd, -, hb⟩ | ⟨i, ⟨hi, -, hb⟩, rfl⟩)
    · exact ⟨by omega, by rwa [Nat.zero_add] at hb⟩
    · exact ⟨by omega, by rwa [Nat.add_comm] at hb⟩
  · rintro ⟨hd, hb⟩
    by_cases h : d < 68
    · exact .inl ⟨h, by omega, by rwa [Nat.zero_add]⟩
    · refine .inr ⟨d - 68, ⟨by omega, by omega, ?_⟩, by omega⟩
      rwa [Nat.add_sub_cancel' (Nat.not_lt.1 h)]

theorem groupDsts_nodup (g : Nat) : (groupDsts g).Nodup := by
  have hset : ∀ n v, (bitsSet n v).Nodup := fun n v => List.nodup_range.filter _
  refine List.nodup_append'.2 ⟨hset _ _, (hset _ _).map (fun a b h => by simpa using h), ?_⟩
  intro d hd hd'
  obtain ⟨i, -, rfl⟩ := List.mem_map.1 hd'
  exact absurd (mem_bitsSet.1 hd).1 (by omega)

/-! ## KXB_COPY -/

/-- The crossbar whose source port has handed over its spike. -/
def Kxb.srcTaken (rest : List XSpike) (x : Kxb) : Kxb := { x with src := rest }

section
variable {hops : List (BitVec 8)} {s u : State} (hu : u = hops.foldl (fun s d => s.kMove d.toNat) s)
include hu

theorem execKxbCopy_empty (h : u.kxb.src = []) : execKxbCopy hops s = .next u := by
  subst hu
  simp only [execKxbCopy, h]

theorem execKxbCopy_takes {x : XSpike} {rest : List XSpike} (h : u.kxb.src = x :: rest) :
    execKxbCopy hops s = .next ((u.modKxb (Kxb.srcTaken rest)).xbarCopy x) := by
  subst hu
  simp only [execKxbCopy, h]
  rfl

end

/-- A spike whose group is not its slipcase's is lost with a fault (R247). -/
theorem State.xbarCopy_refused {s : State} (hs : SMap.wf 0 s.ctrs = true) {x : XSpike} {g : Nat} (hg : g = SMap.get 0 s.kxb.groups x.group)
    (h : g.testBit 127 = false ∨ bitsN g 126 121 ≠ x.slip) :
    (s.xbarCopy x).kxb = s.kxb ∧ (s.xbarCopy x).ctr (kxbB + 0x5488) = s.ctr (kxbB + 0x5488) + 1 := by
  have hcond : !g.testBit 127 ∨ bitsN g 126 121 ≠ x.slip := h.imp (fun e => by rw [e]; rfl) id
  unfold State.xbarCopy
  rw [← hg]
  simp only
  rw [if_pos hcond]
  generalize hd : (s.spkDrop x.slip (kxbB + 0x5488)).orReg (kxbB + 4) 1 = u
  constructor
  · rw [State.fault, (State.reacts_faultFull _ _ _).kxb, ← hd]
    exact s.spkDrop_kxb _ _ _
  · rw [(u.offSurfaces_fault _ _ _).ctr _ (by decide), ← hd]
    exact (s.spkDrop_ctr _ _ _ _).trans (State.ctr_bump_self _ 1 hs)

/-- A spike of its slipcase's group goes to every destination (R247). -/
theorem State.xbarCopy_copied {s : State} {x : XSpike} {g : Nat} (hg : g = SMap.get 0 s.kxb.groups x.group) (hv : g.testBit 127 = true)
    (hslip : bitsN g 126 121 = x.slip) : s.xbarCopy x = (groupDsts g).foldl (fun s d => s.xbarPut x.slip d x.word (bitsN g 120 109)) s := by
  have hcond : ¬ (!g.testBit 127 ∨ bitsN g 126 121 ≠ x.slip) := by simp [hv, hslip]
  unfold State.xbarCopy
  rw [← hg]
  simp only
  rw [if_neg hcond]
  rfl

/-! ## ATTACH_SPIKE -/

/-- An attach port's channel after its oldest item was taken and its credit returned (R251). -/
def HChan.attTaken (c : HChan) : HChan :=
  if c.consumer = .attach then ({ c with ribbon := ((c.ribbon.read).2).release 1 } : HChan).drainSpill else c

theorem HChan.attTaken_consumer (c : HChan) : c.attTaken.consumer = c.consumer := by
  unfold HChan.attTaken
  split <;> rfl

theorem HChan.drainSpill_items (c : HChan) : c.drainSpill.ribbon.items ++ c.drainSpill.spill = c.ribbon.items ++ c.spill := by
  simp [HChan.drainSpill]

/-- The items that wait are those that waited, but the oldest. -/
theorem HChan.attTaken_items {c : HChan} (hc : c.consumer = .attach) {w : BitVec 64} {rest : List (BitVec 64)} (hi : c.ribbon.items = w :: rest)
    (hrp : c.ribbon.rp = 0) : c.attTaken.ribbon.items ++ c.attTaken.spill = rest ++ c.spill := by
  have hread : c.ribbon.read.2 = { c.ribbon with rp := 1, last := w } := by
    simp [Ribbon.read, hi, hrp]
  have hrel : (c.ribbon.read.2.release 1).items = rest := by
    rw [hread]
    simp [Ribbon.release, hi]
  rw [HChan.attTaken, if_pos hc, HChan.drainSpill_items, hrel]

/-- The port whose attach channel has handed over an item. -/
def Hopper.attTaken (x : Hopper) : Hopper := { x with chans := x.chans.map HChan.attTaken }

theorem Hopper.attTaken_find {x : Hopper} {c : HChan} (h : x.chans.find? (fun c => decide (c.consumer = .attach)) = some c) :
    x.attTaken.chans.find? (fun c => decide (c.consumer = .attach)) = some c.attTaken := by
  have hp : (fun c : HChan => decide (c.consumer = .attach)) ∘ HChan.attTaken = fun c => decide (c.consumer = .attach) :=
    funext (fun c => by rw [Function.comp, HChan.attTaken_consumer])
  rw [Hopper.attTaken, List.find?_map, hp, h]
  rfl

theorem State.attach_none {s : State} {n : Nat} (h : ∀ c ∈ (s.hop n).chans, c.consumer ≠ .attach) : s.attach n = s := by
  unfold State.attach
  rw [List.find?_eq_none.2 (fun c hc => by simpa using h c hc)]

/-- An event that its slipcase may spike and its port has a key for reaches the crossbar (R251, R252). -/
theorem State.attach_event {s : State} {n : Nat} {c : HChan} {w : BitVec 64} {rest : List (BitVec 64)} {a key : Nat}
    (hc : (s.hop n).chans.find? (fun c => decide (c.consumer = .attach)) = some c) (hi : c.ribbon.items = w :: rest)
    (ha : a = SMap.get 0 s.kxb.att n) (hev : bitsN w.toNat 63 61 ≠ 1) (hen : a.testBit 31 = true)
    (hslip : s.rfld (kxbB + 0x100 + 4 * s.portSlip n) 8 8 ≠ 0)
    (hkey : attKey a (s.geomW n) (bitsN w.toNat 47 36) (bitsN w.toNat 59 48) (w.getLsbD 60) = some key) :
    s.attach n = (s.modHop n Hopper.attTaken).xbarIn (spkWord key (w.toNat % 2 ^ 32)) (bitsN a 19 10) (s.portSlip n) := by
  subst ha
  have hcond : ¬ (!(SMap.get 0 s.kxb.att n).testBit 31 ∨ s.rfld (kxbB + 0x100 + 4 * s.portSlip n) 8 8 = 0) := by
    simp [hen, hslip]
  unfold State.attach
  rw [hc]
  simp only
  rw [hi]
  simp only
  rw [if_neg hev]
  split
  next h => exact absurd h hcond
  next =>
    split
    next hk => exact absurd (hkey.symm.trans hk) (Option.some_ne_none key)
    next key' hk =>
      obtain rfl : key = key' := Option.some.inj (hkey.symm.trans hk)
      rfl

end Sys2Proof.Machine

/-! PROOF. The statement about the spiking fabric (O55), a clause at a time. -/
namespace Sys2Proof.Machine

/-- SETTLEMENT of an enabled tile whose tick has come (R232 to R239). -/
theorem execSettlement_spec {q : BitVec 7} {bad : List Nat} {k n : Nat} {x : Tile} {s : State} (hs : s.canonical = true) (hk : k = q.toNat)
    (hx : x = (s.quire k).spk) (hen : x.en = true) (hsweep : x.sweepDue = false) (hle : x.next + s.slipLag (s.tileSlip k) ≤ s.tim.tick)
    (hn : n = x.nextDue (s.tim.tick - s.slipLag (s.tileSlip k))) :
    ∃ t, execSettlement q bad s = .next t ∧ (t.quire k).spk.next = n + 1 ∧ (t.quire k).spk.sweepDue = decide (n % 2 ^ 28 = 0) ∧
      (t.quire k).spk.buf = x.buf.filter (fun d => decide (d.2 ≠ n % 2 ^ 32)) ∧
      (t.quire k).spk.reads = x.reads.filter (fun r => decide (r.tick ≠ n % 2 ^ 32)) ∧
      (∀ j, j ≠ k → t.quire j = s.quire j) ∧ t.tim = s.tim ∧
      ((∀ d ∈ x.buf, d.2 ≠ n % 2 ^ 32) → (t.quire k).spk.neurons = x.neurons ∧ (t.quire k).spk.fires = x.fires) ∧
      ∀ (row j : Nat) (p : Int), x.buf.filter (fun d => decide (d.2 = n % 2 ^ 32)) = [(row, n % 2 ^ 32)] → bad = [] →
        (∀ w ∈ x.writes, w.tick ≠ n % 2 ^ 32) → rowOf (s.quire k).sys row = some [(j, p)] → SMap.wf {} x.neurons = true →
        x.Took n j p (t.quire k).spk := by
  obtain ⟨-, -, hw, -⟩ := State.canonical_maps hs
  have hrun := execSettlement_settles (bad := bad) hk hx hen hsweep hle hn
  subst hx
  obtain ⟨-, hother, z, hz, hown⟩ := State.TileIs.spkSettle hw k n bad
  refine ⟨_, hrun, ?_, ?_, ?_, ?_, hother, s.spkSettle_tim _ _ _, State.spkSettle_quiet hw k n bad, ?_⟩
  · rw [hown]
    rfl
  · rw [hown]
    rfl
  · rw [hown, hz]
    rfl
  · rw [hown, hz]
    rfl
  · rintro row j p hbuf rfl hwrites hrow hneurons
    exact State.spkSettle_single hw hbuf hwrites hrow rfl hneurons

/-- SPIKE_DELIVERY of a tile that a delivery flies to (R234, R256). -/
theorem execSpikeDelivery_spec {q : BitVec 7} {k : Nat} {x : Tile} {s : State} (hs : s.canonical = true) (hk : k = q.toNat)
    (hx : x = (s.quire k).spk) {d : Nat × Nat} {rest : List (Nat × Nat)} (h : x.flight = d :: rest) :
    ∃ t, execSpikeDelivery q s = .next t ∧ (∀ j, j ≠ k → t.quire j = s.quire j) ∧ t.tim = s.tim ∧ (t.quire k).spk = x.delivered d rest := by
  obtain ⟨-, -, hw, -⟩ := State.canonical_maps hs
  obtain ⟨-, hother, hown⟩ := State.TileIs.deliver1 hw hx h
  subst hk
  exact ⟨_, rfl, hother, s.deliver1_tim _, hown⟩

/-- RENEWAL_SWEEP of a tile for which one is due (R238). -/
theorem execRenewalSweep_spec {q : BitVec 7} {k : Nat} {x : Tile} {s : State} (hs : s.canonical = true) (hk : k = q.toNat)
    (hx : x = (s.quire k).spk) (hen : x.en = true) (hsweep : x.sweepDue = true) (hneurons : SMap.wf {} x.neurons = true) :
    ∃ t, execRenewalSweep q s = .next t ∧ t = { s with quires := t.quires } ∧ (∀ j, j ≠ k → t.quire j = s.quire j) ∧
      (t.quire k).spk = { x with sweepDue := false, neurons := (t.quire k).spk.neurons } ∧
      ∀ i, (t.quire k).spk.neuron i = (x.neuron i).renew (x.cls (x.neuron i).cls) (x.next - 1) := by
  obtain ⟨-, -, hw, -⟩ := State.canonical_maps hs
  have hrun := execRenewalSweep_sweeps hk hx hen hsweep
  subst hx
  have hself := State.modTile_quire hw k Tile.renewed
  refine ⟨_, hrun, rfl, fun j hj => s.modTile_quire_ne hj _, ?_, fun i => ?_⟩
  · rw [hself]
    rfl
  · rw [hself]
    exact Tile.renewed_neuron hneurons i

/-- ROUTER_LOOKUP of a spike from the crossbar (R245). -/
theorem execRouterLookup_xbar_spec {q : BitVec 7} {hops : List (BitVec 8)} {k : Nat} {s u : State}
    (hu : u = hops.foldl (fun s d => s.kMove d.toNat) s) (hcan : u.canonical = true) (hk : k = q.toNat) {w : Nat} {rest : List Nat}
    (h : (u.quire k).spk.xbarQ = w :: rest) :
    ∃ t, execRouterLookup q false hops s = .next t ∧ (t.quire k).spk.xbarQ = rest ∧
      (t.quire k).spk = { (u.quire k).spk with xbarQ := rest, flight := (t.quire k).spk.flight } ∧
      (t.quire k).spk.flight = (u.quire k).spk.flight ++ u.found k w ∧
      t.ctr (spkCtr k 9) = u.ctr (spkCtr k 9) + 1 ∧ (∀ j, j ≠ k → t.quire j = u.quire j) ∧ t.kxb = u.kxb ∧ t.tim = u.tim := by
  obtain ⟨-, hc, hw, -⟩ := State.canonical_maps hcan
  obtain ⟨-, hother, hown⟩ := State.TileIs.ingress_taken hw (k := k) (g := Tile.xbarTaken rest) (fun _ => ⟨rfl, rfl, rfl⟩) w
  refine ⟨_, execRouterLookup_xbar hu hk h, ?_, ?_, ?_, State.ingress_lookups (s := u.modTile k _) hc k w, hother, ?_, State.ingress_tim _ _ _⟩
  · rw [hown]
    rfl
  · rw [hown]
    rfl
  · rw [hown]
  · rw [State.ingress_frame]
    rfl

/-- ROUTER_LOOKUP of a fired spike that finds nothing (R245). -/
theorem execRouterLookup_none_spec {q : BitVec 7} {hops : List (BitVec 8)} {k : Nat} {s u : State}
    (hu : u = hops.foldl (fun s d => s.kMove d.toNat) s) (hcan : u.canonical = true) (hk : k = q.toNat) {f : Fire} {rest : List Fire}
    (h : (u.quire k).spk.tileQ = f :: rest) (hm : u.matches k f.key f.tick true = []) :
    ∃ t, execRouterLookup q true hops s = .next t ∧ (t.quire k).spk.tileQ = rest ∧ (t.quire k).spk.flight = (u.quire k).spk.flight ∧
      t.ctr (spkCtr k 10) = u.ctr (spkCtr k 10) + 1 ∧ t.kxb = u.kxb ∧ (∀ j, j ≠ k → t.quire j = u.quire j) := by
  obtain ⟨⟨-, hother, htile, hfly⟩, hctr, hkxb⟩ := State.egress_none_spec hcan hm (rest := rest) rfl
  exact ⟨_, execRouterLookup_tile hu hk h, htile, hfly, hctr, hkxb, hother⟩

/-- ROUTER_LOOKUP of a fired spike that goes to one group (R233, R246). -/
theorem execRouterLookup_group_spec {q : BitVec 7} {hops : List (BitVec 8)} {k e : Nat} {s u : State}
    (hu : u = hops.foldl (fun s d => s.kMove d.toNat) s) (hcan : u.canonical = true) (hk : k = q.toNat) {f : Fire} {rest : List Fire}
    (h : (u.quire k).spk.tileQ = f :: rest) (hm : u.matches k f.key f.tick true = [e]) (hxbar : e.testBit 61 = true)
    (hloop : e.testBit 60 = false) (hrec : e.testBit 59 = false) (hdelay : bitsN e 48 41 = 0) :
    ∃ t, execRouterLookup q true hops s = .next t ∧ (t.quire k).spk.tileQ = rest ∧ (∀ j, j ≠ k → t.quire j = u.quire j) ∧ t.kxb =
      { u.kxb with src := u.kxb.src ++ [{ word := spkWord f.key (f.tick + u.slipLag (u.tileSlip k) + 1), group := bitsN e 58 49, slip := u.tileSlip k }] } := by
  obtain ⟨⟨-, hother, htile⟩, hkxb⟩ := State.egress_xbar_spec hcan hm hxbar hloop hrec hdelay (rest := rest) rfl
  exact ⟨_, execRouterLookup_tile hu hk h, htile, hother, hkxb⟩

/-- DELAY_QUEUE_RELEASE of a spike that loops back to its tile (R246). -/
theorem execDelayQueueRelease_loop_spec {q : BitVec 7} {k i w : Nat} {x : Tile} {s : State} (hs : s.canonical = true) (hk : k = q.toNat)
    (hx : x = (s.quire k).spk) (hi : earliest s.ets x.loopQ 0 none = some i) (hw : x.loopQ[i]? = some w) :
    (1 < etsDiff (w % 2 ^ 32) s.ets → execDelayQueueRelease q true s = .next s) ∧
    (etsDiff (w % 2 ^ 32) s.ets ≤ 1 → ∃ t, execDelayQueueRelease q true s = .next t ∧ (t.quire k).spk.loopQ = x.loopQ.eraseIdx i ∧
      (t.quire k).spk.flight.length = x.flight.length + min 16 (s.matches k (w / 2 ^ 32) (w % 2 ^ 32) false).length ∧
      (∀ j, j ≠ k → t.quire j = s.quire j)) := by
  obtain ⟨-, -, hwf, -⟩ := State.canonical_maps hs
  have hrun := execDelayQueueRelease_loop hk hx hi hw
  refine ⟨fun h => by rw [hrun, if_neg (Int.not_le.2 h)], fun h => ?_⟩
  rw [if_pos h] at hrun
  obtain ⟨-, hother, hown⟩ := State.TileIs.ingress_taken hwf (k := k) (g := Tile.loopReleased i) (fun _ => ⟨rfl, rfl, rfl⟩) w
  refine ⟨_, hrun, ?_, ?_, hother⟩
  · rw [hown, hx]
    rfl
  · rw [hown, hx, ← State.found_length]
    exact List.length_append

/-- DELAY_QUEUE_RELEASE of a spike for the crossbar (R246). -/
theorem execDelayQueueRelease_delay_spec {q : BitVec 7} {k i : Nat} {w : Nat × Nat} {x : Tile} {s : State} (hs : s.canonical = true) (hk : k = q.toNat)
    (hx : x = (s.quire k).spk) (hi : earliest s.ets (x.delayQ.map (fun y => y.1)) 0 none = some i) (hw : x.delayQ[i]? = some w) :
    (1 < etsDiff (w.1 % 2 ^ 32) s.ets → execDelayQueueRelease q false s = .next s) ∧
    (etsDiff (w.1 % 2 ^ 32) s.ets ≤ 1 → ∃ t, execDelayQueueRelease q false s = .next t ∧ (t.quire k).spk = x.delayReleased i ∧
      t.kxb = { s.kxb with src := s.kxb.src ++ [{ word := w.1, group := w.2, slip := s.tileSlip k }] } ∧ (∀ j, j ≠ k → t.quire j = s.quire j)) := by
  obtain ⟨-, -, hwf, -⟩ := State.canonical_maps hs
  have hrun := execDelayQueueRelease_delay hk hx hi hw
  refine ⟨fun h => by rw [hrun, if_neg (Int.not_le.2 h)], fun h => ?_⟩
  rw [if_pos h] at hrun
  refine ⟨_, hrun, ?_, rfl, fun j hj => State.modTile_quire_ne s hj _⟩
  rw [hx]
  exact congrArg Quire.spk (State.modTile_quire hwf k _)

section
variable {hops : List (BitVec 8)} {s u : State} (hu : u = hops.foldl (fun s d => s.kMove d.toNat) s) {x : XSpike} {rest : List XSpike}
  (hsrc : u.kxb.src = x :: rest) {g : Nat} (hg : g = SMap.get 0 u.kxb.groups x.group)
include hu hsrc hg

/-- KXB_COPY of a spike whose group is not its slipcase's (R247). -/
theorem execKxbCopy_refused_spec (hcan : u.canonical = true) (h : g.testBit 127 = false ∨ bitsN g 126 121 ≠ x.slip) :
    ∃ t, execKxbCopy hops s = .next t ∧ t.kxb = { u.kxb with src := rest } ∧ t.ctr (kxbB + 0x5488) = u.ctr (kxbB + 0x5488) + 1 ∧ t.tim = u.tim := by
  obtain ⟨-, hc, -⟩ := State.canonical_maps hcan
  obtain ⟨hkxb, hctr⟩ := State.xbarCopy_refused (s := u.modKxb (Kxb.srcTaken rest)) hc hg h
  exact ⟨_, execKxbCopy_takes hu hsrc, hkxb, hctr, State.xbarCopy_tim _ _⟩

/-- KXB_COPY of a spike of its slipcase's group (R247). -/
theorem execKxbCopy_copied_spec (hv : g.testBit 127 = true) (hslip : bitsN g 126 121 = x.slip) :
    ∃ t, execKxbCopy hops s = .next t ∧ t.kxb = { u.kxb with src := rest, dst := t.kxb.dst } ∧ t.quires = u.quires ∧
      ∀ d, SMap.get [] t.kxb.dst d = if d < 72 ∧ g.testBit d = true ∧ (SMap.get [] u.kxb.dst d).length < 64 then
        SMap.get [] u.kxb.dst d ++ [(x.word, bitsN g 120 109)] else SMap.get [] u.kxb.dst d := by
  have hrun := execKxbCopy_takes hu hsrc
  rw [State.xbarCopy_copied (s := u.modKxb (Kxb.srcTaken rest)) hg hv hslip] at hrun
  obtain ⟨hf, hd⟩ := State.foldl_xbarPut x.slip x.word (bitsN g 120 109) (groupDsts_nodup g) (u.modKxb (Kxb.srcTaken rest))
  refine ⟨_, hrun, ?_, ?_, fun d => ?_⟩
  · rw [hf]
    rfl
  · rw [hf]
    rfl
  · refine (hd d).trans ?_
    by_cases h : d < 72 ∧ g.testBit d = true
    · rw [if_pos (mem_groupDsts.2 h), fifoAfter]
      simp only [h, true_and]
      rfl
    · rw [if_neg (mt mem_groupDsts.1 h), if_neg (fun hc => h ⟨hc.1, hc.2.1⟩)]
      rfl

end

/-- ATTACH_SPIKE of an event that makes a spike (R251, R252). -/
theorem execAttachSpike_spec {n : BitVec 4} {m : Nat} {c : HChan} {w : BitVec 64} {rest : List (BitVec 64)} {a key : Nat} {s : State}
    (hs : s.canonical = true) (hm : m = s.cfgPort n.toNat) (hc : (s.hop m).chans.find? (fun c => decide (c.consumer = .attach)) = some c)
    (hi : c.ribbon.items = w :: rest) (hrp : c.ribbon.rp = 0) (ha : a = SMap.get 0 s.kxb.att m) (hev : bitsN w.toNat 63 61 ≠ 1)
    (hen : a.testBit 31 = true) (hslip : s.rfld (kxbB + 0x100 + 4 * s.portSlip m) 8 8 ≠ 0)
    (hkey : attKey a (s.geomW m) (bitsN w.toNat 47 36) (bitsN w.toNat 59 48) (w.getLsbD 60) = some key) :
    ∃ t c', execAttachSpike n s = .next t ∧ t = { s with hops := t.hops, kxb := t.kxb } ∧
      (t.hop m).chans.find? (fun c => decide (c.consumer = .attach)) = some c' ∧ c'.ribbon.items ++ c'.spill = rest ++ c.spill ∧
      (∀ k, k ≠ m → t.hop k = s.hop k) ∧
      t.kxb = { s.kxb with src := s.kxb.src ++ [{ word := spkWord key (w.toNat % 2 ^ 32), group := bitsN a 19 10, slip := s.portSlip m }] } := by
  subst hm
  have hrun : execAttachSpike n s = .next _ := congrArg Host.Outcome.next (State.attach_event hc hi ha hev hen hslip hkey)
  have hself := State.modHop_hop_self (State.canonical_hops hs) (s.cfgPort n.toNat) Hopper.attTaken
  have hcons : c.consumer = .attach := by simpa using List.find?_some hc
  refine ⟨_, _, hrun, rfl, ?_, HChan.attTaken_items hcons hi hrp, fun k hk => State.modHop_hop_ne s hk _, rfl⟩
  exact (congrArg (fun x : Hopper => x.chans.find? (fun c => decide (c.consumer = .attach))) hself).trans (Hopper.attTaken_find hc)

/-- Settles O55: the commands of the class, the tile's own steps, its router, the crossbar and its attach ports. -/
theorem spikesAreDeliveredSettledAndRouted : Obligations.SpikesAreDeliveredSettledAndRouted := by
  unfold Obligations.SpikesAreDeliveredSettledAndRouted
  simp only [exec_spikeRouteSet, exec_spikeWeights, exec_spikeStateRead, exec_settlement, exec_spikeDelivery, exec_renewalSweep, exec_routerLookup,
    exec_delayQueueRelease, exec_kxbCopy, exec_attachSpike]
  refine ⟨?_, ?_, ?_, ?_, ?_, ?_, ?_, ?_, ?_, ?_⟩
  · rintro h qi ents f g q s b hs hb rfl hsealed hne hlen hidx hq htable
    refine ⟨execSpikeRouteSet_running hs hsealed hne hlen hidx hq, fun hrun hown => ?_⟩
    obtain ⟨u, t, ht, ha, hu, hother, hself, hent⟩ := execSpikeRouteSet_spec hs hb hsealed hne hlen hidx hq htable hrun hown
    refine ⟨u, t, ht, ha, hu, hother, hself, fun i => (hent i).trans ?_⟩
    cases ents.reverse.find? (fun e => decide (e.1.toNat = i)) <;> rfl
  · rintro h qi addr n sg data f g q s b hs hb rfl hsealed hq hsys haddr hn hend hrun hsg
    exact execSpikeWeights_spec hs hb hsealed hq hsys haddr hn hend hrun hsg
  · rintro h qi first cnt sg f g q d s b hs hcan hb ho hl rfl hsealed hq hcnt hlast htau hsg
    exact ⟨execSpikeStateRead_idle hs hb ho hl hsealed hq hcnt hlast htau hsg,
      execSpikeStateRead_waits hs hb ho hl hsealed hq hcnt hlast htau hsg hcan⟩
  · intro q bad k n x s hs hk hx
    refine ⟨execSettlement_waits hk hx, fun hen hsweep hle hn => ?_⟩
    obtain ⟨t, ht, hnext, hdue, hbuf, hreads, hother, htim, hquiet, hone⟩ := execSettlement_spec (bad := bad) hs hk hx hen hsweep hle hn
    refine ⟨t, ht, hnext, hdue, hbuf, hreads, hother, htim, hquiet, ?_⟩
    rintro row j p y hrow hbad hwrites hsyn hneurons rfl
    obtain ⟨hj, hi⟩ := hone row j p hrow hbad hwrites hsyn hneurons
    refine ⟨hj.trans ?_, hi⟩
    cases (x.neuron j).apply (x.cls (x.neuron j).cls) (sext 32 (unsig 32 p)) n <;> rfl
  · intro q k x s hs hk hx
    refine ⟨fun h => ?_, fun d rest h => execSpikeDelivery_spec hs hk hx h, execRenewalSweep_waits hk hx, execRenewalSweep_spec hs hk hx⟩
    subst hk hx
    exact congrArg Host.Outcome.next (State.deliver1_none h)
  · intro q hops k s u hu hcan hk
    refine ⟨execRouterLookup_xbarEmpty hu hk, execRouterLookup_tileEmpty hu hk, fun w rest h => ?_, fun f rest h => ?_⟩
    · have hx := execRouterLookup_xbar_spec hu hcan hk h
      rw [State.found] at hx
      exact hx
    · exact ⟨execRouterLookup_none_spec hu hcan hk h, fun e => execRouterLookup_group_spec hu hcan hk h⟩
  · intro q k x s hs hk hx
    exact ⟨execDelayQueueRelease_loopEmpty hk hx, execDelayQueueRelease_delayEmpty hk hx, fun i w => execDelayQueueRelease_loop_spec hs hk hx,
      fun i w => execDelayQueueRelease_delay_spec hs hk hx⟩
  · intro hops s u hu hcan
    refine ⟨execKxbCopy_empty hu, fun x rest g hsrc hg => ?_⟩
    exact ⟨execKxbCopy_refused_spec hu hsrc hg hcan, execKxbCopy_copied_spec hu hsrc hg⟩
  · intro n m c w rest a key s hs hm hc hi hrp ha hev hen hslip hkey
    exact execAttachSpike_spec hs hm hc hi hrp ha hev hen hslip hkey
  · intro n s h
    exact congrArg Host.Outcome.next (State.attach_none h)

end Sys2Proof.Machine

/-! SUPPORT. Channels and fetches of the ASCU (R262 to R265): one channel after a change of it, the channels of a fetch, and loops over them. -/
namespace Sys2Proof.Machine

/-! ## One channel -/

/-- A change of a channel that leaves it other than it is at reset. -/
theorem State.modAux_aux_of_ne {s : State} {c : Nat} {g : AuxChan → AuxChan} (h : g (s.aux c) ≠ {}) : (s.modAux c g).aux c = g (s.aux c) :=
  SMap.get_upd_of_ne h

theorem State.modAux_aux_self {s : State} (hw : SMap.wf {} s.ascu.chans = true) (c : Nat) (g : AuxChan → AuxChan) :
    (s.modAux c g).aux c = g (s.aux c) := SMap.get_upd_self hw

theorem State.modAux_aux_ne (s : State) {c k : Nat} (h : k ≠ c) (g : AuxChan → AuxChan) : (s.modAux c g).aux k = s.aux k := SMap.get_upd_ne h

theorem State.aux_congr {s t : State} (h : t.ascu = s.ascu) (c : Nat) : t.aux c = s.aux c := by
  rw [State.aux, h, State.aux]

/-- No channel is enabled at reset. -/
theorem AuxChan.ne_default_of_en {x : AuxChan} (h : x.en = true) : x ≠ {} := fun he => by rw [he] at h; cases h

/-- The channel with a sample missed. -/
def AuxChan.missed (x : AuxChan) : AuxChan := { x with lost := true }

theorem AuxChan.missed_ne (x : AuxChan) : x.missed ≠ {} := fun h => Bool.noConfusion (congrArg AuxChan.lost h : true = false)

/-! ## Loops over channels -/

/-- A loop that does the same with each channel of a list: one channel afterwards, where the list names it once or doing it twice is doing it
once. -/
theorem State.foldl_aux {f : State → Nat → State} {g : AuxChan → AuxChan} (hself : ∀ s k, (f s k).aux k = g (s.aux k))
    (hne : ∀ s k j, j ≠ k → (f s k).aux j = s.aux j) {l : List Nat} (hl : l.Nodup ∨ ∀ x, g (g x) = g x) (s : State) (c : Nat) :
    (l.foldl f s).aux c = if c ∈ l then g (s.aux c) else s.aux c := by
  induction l generalizing s with
  | nil => rfl
  | cons a r ih =>
    rw [List.foldl_cons, ih (hl.imp_left List.Nodup.of_cons)]
    by_cases hc : c = a
    · subst hc
      rw [hself, if_pos List.mem_cons_self]
      by_cases hr : c ∈ r
      · rw [if_pos hr]
        exact hl.elim (fun hn => absurd hr (List.nodup_cons.1 hn).1) (fun hid => hid _)
      · rw [if_neg hr]
    · simp only [hne s a c hc, List.mem_cons, hc, false_or]

/-- A loop that changes nothing but channels. -/
theorem State.foldl_onlyAux {α : Type} {f : State → α → State} (h : ∀ s a, f s a = { s with ascu := { s.ascu with chans := (f s a).ascu.chans } })
    (l : List α) (s : State) : l.foldl f s = { s with ascu := { s.ascu with chans := (l.foldl f s).ascu.chans } } := by
  induction l generalizing s with
  | nil => rfl
  | cons a r ih =>
    rw [List.foldl_cons, ih, h s a]

/-! ## The channels of a fetch -/

section
variable {α : Type} [DecidableEq α] {d : α} {p : Nat → α → Bool} (hp : ∀ k, p k d = false) {m : SMap α} {a : Nat} (h : SMap.wfFrom d a m = true)
include hp h

/-- The keys whose values pass a test that the value of unlisted keys fails. -/
theorem SMap.mem_keysWhere (k : Nat) : k ∈ SMap.keysWhere m p ↔ p k (SMap.get d m k) = true := by
  induction m generalizing a with
  | nil => simp [SMap.keysWhere, hp]
  | cons e r ih =>
    simp only [SMap.wfFrom, Bool.and_eq_true] at h
    have hr : k ∈ SMap.keysWhere r p ↔ p k (SMap.get d r k) = true := ih h.2
    have hcons : k ∈ SMap.keysWhere (e :: r) p ↔ (p e.1 e.2 = true ∧ k = e.1) ∨ k ∈ SMap.keysWhere r p := by
      by_cases he : p e.1 e.2 = true <;> simp [SMap.keysWhere, he]
    rw [hcons, hr, SMap.get]
    by_cases hk : k = e.1
    · rw [hk, SMap.get_below h.2 (Nat.lt_succ_self _), hp]
      simp
    · simp [hk]

theorem SMap.keysWhere_nodup : (SMap.keysWhere m p).Nodup := by
  induction m generalizing a with
  | nil => exact List.nodup_nil
  | cons e r ih =>
    simp only [SMap.wfFrom, Bool.and_eq_true] at h
    by_cases he : p e.1 e.2 = true
    · have hnot : e.1 ∉ SMap.keysWhere r p := by
        rw [SMap.mem_keysWhere hp h.2, SMap.get_below h.2 (Nat.lt_succ_self _), hp]
        exact Bool.false_ne_true
      simpa [SMap.keysWhere, he] using ⟨by simpa [SMap.keysWhere] using hnot, ih h.2⟩
    · simpa [SMap.keysWhere, he] using ih h.2

end

theorem State.mem_fetchChans {s : State} (hw : SMap.wf {} s.ascu.chans = true) (f c : Nat) :
    c ∈ s.fetchChans f ↔ (s.aux c).en = true ∧ (s.aux c).fetch = f := by
  refine (SMap.mem_keysWhere (fun _ => rfl) hw c).trans ?_
  simp [State.aux]

theorem State.fetchChans_nodup {s : State} (hw : SMap.wf {} s.ascu.chans = true) (f : Nat) : (s.fetchChans f).Nodup :=
  SMap.keysWhere_nodup (fun _ => rfl) hw

/-! ## A missed sample -/

theorem State.missed_frame (s : State) (f : Nat) : s.missed f = { s with ascu := { s.ascu with chans := (s.missed f).ascu.chans } } :=
  State.foldl_onlyAux (fun _ _ => rfl) _ s

theorem State.missed_aux (s : State) (f c : Nat) : (s.missed f).aux c = if c ∈ s.fetchChans f then (s.aux c).missed else s.aux c :=
  State.foldl_aux (g := AuxChan.missed) (fun _ _ => State.modAux_aux_of_ne (AuxChan.missed_ne _)) (fun s _ _ h => s.modAux_aux_ne h _)
    (.inr fun _ => rfl) s c

theorem State.foldl_modAux_wf {g : AuxChan → AuxChan} (l : List Nat) {s : State} (h : SMap.wf {} s.ascu.chans = true) :
    SMap.wf {} (l.foldl (fun s c => s.modAux c g) s).ascu.chans = true := by
  induction l generalizing s with
  | nil => exact h
  | cons a r ih => exact ih (SMap.wf_upd h)

theorem State.missed_wf {s : State} (h : SMap.wf {} s.ascu.chans = true) (f : Nat) : SMap.wf {} (s.missed f).ascu.chans = true :=
  State.foldl_modAux_wf _ h

/-! ## An abandoned fetch (R279) -/

/-- The counters and the error register of a fetch that is abandoned. -/
def State.acqCounted (s : State) (f : Nat) : State :=
  ((if feBus (s.fetchEnt f) < 2 then s.bump (xioB + 0x458) else s).bump (feCnt f 1)).orReg (ascuB + 4) 1

theorem State.acqFail_eq (s : State) (f : Nat) : s.acqFail f = (s.acqCounted f).missed f := rfl

theorem State.acqCounted_frame (s : State) (f : Nat) : s.acqCounted f = { s with ctrs := (s.acqCounted f).ctrs, regs := (s.acqCounted f).regs } := by
  unfold State.acqCounted
  split <;> rfl

theorem State.acqCounted_ascu (s : State) (f : Nat) : (s.acqCounted f).ascu = s.ascu := by rw [State.acqCounted_frame]

theorem State.acqFail_frame (s : State) (f : Nat) : s.acqFail f =
    { s with ctrs := (s.acqFail f).ctrs, regs := (s.acqFail f).regs, ascu := { s.ascu with chans := (s.acqFail f).ascu.chans } } := by
  rw [State.acqFail_eq, State.missed_frame, State.acqCounted_frame]

theorem State.acqFail_aux (s : State) (f c : Nat) : (s.acqFail f).aux c = if c ∈ s.fetchChans f then (s.aux c).missed else s.aux c := by
  have ha := s.acqCounted_ascu f
  rw [State.acqFail_eq, State.missed_aux, State.aux_congr ha, State.fetchChans, ha, State.fetchChans]

theorem State.acqFail_wf {s : State} (h : SMap.wf {} s.ascu.chans = true) (f : Nat) : SMap.wf {} (s.acqFail f).ascu.chans = true := by
  rw [State.acqFail_eq]
  exact State.missed_wf (by rw [State.acqCounted_ascu]; exact h) f

theorem State.acqFail_fault {s : State} (h : SMap.wf none s.regs = true) (f : Nat) : ((s.acqFail f).reg (ascuB + 4)).getLsbD 0 = true := by
  have hw : SMap.wf none ((if feBus (s.fetchEnt f) < 2 then s.bump (xioB + 0x458) else s).bump (feCnt f 1)).regs = true := by split <;> exact h
  have hreg : (s.acqFail f).reg (ascuB + 4) = (s.acqCounted f).reg (ascuB + 4) := by
    rw [State.acqFail_eq, State.missed_frame]
    rfl
  rw [hreg, State.acqCounted, State.orReg, State.reg_setReg_self _ _ hw]
  simp

/-- The failure counter of a fetch lies behind the counters of the I3C controllers. -/
theorem State.acqFail_ctr {s : State} (h : SMap.wf 0 s.ctrs = true) {f : Nat} (hf : f < 16) :
    (s.acqFail f).ctr (feCnt f 1) = s.ctr (feCnt f 1) + 1 := by
  have hne : feCnt f 1 ≠ xioB + 0x458 := by
    unfold feCnt ascuB xioB
    omega
  have hctr : (s.acqFail f).ctr (feCnt f 1) = ((if feBus (s.fetchEnt f) < 2 then s.bump (xioB + 0x458) else s).bump (feCnt f 1)).ctr (feCnt f 1) := by
    rw [State.acqFail_eq, State.missed_frame]
    rfl
  rw [hctr]
  split
  · rw [State.ctr_bump_self _ _ (State.bump_wf h _ _), State.ctr_bump_ne _ _ hne]
    rfl
  · exact State.ctr_bump_self _ _ h

end Sys2Proof.Machine

/-! SUPPORT. FETCH_TRIGGER, IBI, FETCH_COMPLETE and I3C_STUCK (R263, R264, R265, R268, R279, R553). -/
namespace Sys2Proof.Machine

theorem exec_fetchTrigger (f : BitVec 4) (t : BitVec 64) (s : State) : exec (.fetchTrigger f t) s = execFetchTrigger f t s := rfl

theorem exec_ibi (i : BitVec 1) (addr : BitVec 7) (t : BitVec 64) (s : State) : exec (.ibi i addr t) s = execIbi i addr t s := rfl

theorem exec_fetchComplete (bus : BitVec 2) (ok : Bool) (data : List (BitVec 8)) (s : State) :
    exec (.fetchComplete bus ok data) s = execFetchComplete bus ok data s := rfl

theorem exec_i3cStuck (i : BitVec 1) (s : State) : exec (.i3cStuck i) s = execI3cStuck i s := rfl

/-! ## The queues of the buses (R265) -/

/-- The state with the queue of a bus set. -/
def State.setBusq (s : State) (b : Nat) (l : List (Nat × Nat)) : State := { s with ascu := { s.ascu with busq := SMap.put [] s.ascu.busq b l } }

/-- A state whose queues are those of s but for one bus. -/
theorem State.busq_of_setBusq {s u : State} (hq : SMap.wf [] s.ascu.busq = true) {b : Nat} {l : List (Nat × Nat)}
    (hu : u.ascu.busq = (s.setBusq b l).ascu.busq) :
    SMap.get [] u.ascu.busq b = l ∧ ∀ k, k ≠ b → SMap.get [] u.ascu.busq k = SMap.get [] s.ascu.busq k := by
  rw [hu]
  exact ⟨SMap.get_put_self hq, fun k hk => SMap.get_put_ne hk⟩

theorem State.setBusq_ne (s : State) {b k : Nat} (h : k ≠ b) (l : List (Nat × Nat)) :
    SMap.get [] (s.setBusq b l).ascu.busq k = SMap.get [] s.ascu.busq k := SMap.get_put_ne h

theorem insTrig_ne_nil (x : Nat × Nat) (l : List (Nat × Nat)) : insTrig x l ≠ [] := by
  cases l with
  | nil => exact List.cons_ne_nil _ _
  | cons y r =>
    rw [insTrig]
    split <;> exact List.cons_ne_nil _ _

/-- A fetch that is queued is read back from any map of queues. -/
theorem State.setBusq_insTrig (s : State) (b : Nat) (x : Nat × Nat) (l : List (Nat × Nat)) :
    SMap.get [] (s.setBusq b (insTrig x l)).ascu.busq b = insTrig x l :=
  SMap.get_upd_of_ne (f := fun _ => insTrig x l) (insTrig_ne_nil x l)

/-! ## Triggers (R263, R265) -/

section
variable {s : State} {f t : Nat}

theorem State.trigger_invalid (h : feValid (s.fetchEnt f) = false) : s.trigger f t = s := by
  simp [State.trigger, h]

variable (h : feValid (s.fetchEnt f) = true)
include h

theorem State.trigger_queued (hl : (SMap.get [] s.ascu.busq (feBus (s.fetchEnt f))).length < 16) :
    s.trigger f t = s.setBusq (feBus (s.fetchEnt f)) (insTrig (t, f) (SMap.get [] s.ascu.busq (feBus (s.fetchEnt f)))) := by
  simp only [State.trigger, h, Bool.not_true, Bool.false_eq_true, if_false, if_neg (Nat.not_le.2 hl)]
  rfl

theorem State.trigger_lost (hl : 16 ≤ (SMap.get [] s.ascu.busq (feBus (s.fetchEnt f))).length) :
    s.trigger f t = (s.bump (feCnt f 2)).missed f := by
  simp only [State.trigger, h, Bool.not_true, Bool.false_eq_true, if_false, if_pos hl]

end

section
variable {f : BitVec 4} {t : BitVec 64} {e : Nat} {l : List (Nat × Nat)} {s : State} (he : e = s.fetchEnt f.toNat)
include he

/-- A trigger of a fetch that is not valid, outside the present tick or off the fetch's grid (R263). -/
theorem execFetchTrigger_none (h : feValid e = false ∨ s.tickAt t.toNat ≠ s.tim.tick ∨ (feTrig e = 2 ∧ t.toNat % fePeriod e ≠ 0)) :
    execFetchTrigger f t s = .next s := by
  subst he
  refine congrArg Host.Outcome.next ?_
  split
  · rfl
  · next hno =>
    obtain hv | ht | hg := h
    · exact State.trigger_invalid hv
    · exact absurd (Or.inr (Or.inl ht)) hno
    · exact absurd (Or.inl ⟨hg.1, Or.inr hg.2⟩) hno

theorem execFetchTrigger_due (ht : s.tickAt t.toNat = s.tim.tick) (hg : feTrig e = 2 → 1024 ≤ fePeriod e ∧ t.toNat % fePeriod e = 0)
    (hp : feTrig e = 1 → s.gpioServes (32 + f.toNat) (bitsN e 56 51) = true) : execFetchTrigger f t s = .next (s.trigger f.toNat t.toNat) := by
  subst he
  refine congrArg Host.Outcome.next (if_neg ?_)
  rintro (⟨h2, hbad⟩ | hne | ⟨h1, hno⟩)
  · have := hg h2
    omega
  · exact hne ht
  · rw [hp h1] at hno
    exact Bool.false_ne_true hno

/-- A trigger that is due queues its fetch, or loses it where the queue is full (R265). -/
theorem execFetchTrigger_spec (hs : s.canonical = true) (hl : l = SMap.get [] s.ascu.busq (feBus e)) (hv : feValid e = true)
    (ht : s.tickAt t.toNat = s.tim.tick) (hg : feTrig e = 2 → 1024 ≤ fePeriod e ∧ t.toNat % fePeriod e = 0)
    (hp : feTrig e = 1 → s.gpioServes (32 + f.toNat) (bitsN e 56 51) = true) : ∃ t', execFetchTrigger f t s = .next t' ∧
      (l.length < 16 → t' = { s with ascu := { s.ascu with busq := t'.ascu.busq } } ∧ SMap.get [] t'.ascu.busq (feBus e) = insTrig (t.toNat, f.toNat) l ∧
        ∀ b, b ≠ feBus e → SMap.get [] t'.ascu.busq b = SMap.get [] s.ascu.busq b) ∧
      (16 ≤ l.length → t'.ctr (feCnt f.toNat 2) = s.ctr (feCnt f.toNat 2) + 1 ∧ t'.ascu.busq = s.ascu.busq ∧
        ∀ c ∈ s.fetchChans f.toNat, (t'.aux c).lost = true) := by
  refine ⟨_, execFetchTrigger_due he ht hg hp, fun h => ?_, fun h => ?_⟩ <;> subst he hl
  · rw [State.trigger_queued hv h]
    exact ⟨rfl, s.setBusq_insTrig _ _ _, fun b hb => s.setBusq_ne hb _⟩
  · rw [State.trigger_lost hv h]
    refine ⟨?_, ?_, fun c hc => ?_⟩
    · rw [State.missed_frame]
      exact State.ctr_bump_self _ _ (State.canonical_ctrs hs)
    · rw [State.missed_frame]
      rfl
    · rw [State.missed_aux]
      exact congrArg AuxChan.lost (if_pos hc)

end

/-! ## In-band interrupts (R553) -/

/-- The fetches that an IBI triggers: those that name its address on its bus. -/
def State.ibiFetches (s : State) (i addr : Nat) : List Nat :=
  (List.range 16).filter (fun f => feValid (s.fetchEnt f) && feTrig (s.fetchEnt f) = 0 && feBus (s.fetchEnt f) = i && feAddr (s.fetchEnt f) = addr)

section
variable {i : BitVec 1} {addr : BitVec 7} {t : BitVec 64} {s : State}

theorem execIbi_off (h : s.rfld (xioB + 0x390 + 4 * i.toNat) 31 31 = 0) : execIbi i addr t s = .next s :=
  congrArg Host.Outcome.next (if_pos h)

theorem execIbi_on (h : s.rfld (xioB + 0x390 + 4 * i.toNat) 31 31 ≠ 0) : execIbi i addr t s = .next (
    if (s.ibiFetches i.toNat addr.toNat).isEmpty then (s.emit .bus [i.toNat] [1, addr.toNat]).bump (xioB + 0x460)
    else (s.ibiFetches i.toNat addr.toNat).foldl (fun s f => s.trigger f t.toNat) (s.emit .bus [i.toNat] [1, addr.toNat])) :=
  congrArg Host.Outcome.next (if_neg h)

theorem State.trigger_out (s : State) (f t : Nat) : (s.trigger f t).out = s.out := by
  simp only [State.trigger]
  split
  · rfl
  · split
    · rw [State.missed_frame]
      rfl
    · rfl

theorem State.foldl_trigger_out (t : Nat) (l : List Nat) (s : State) : (l.foldl (fun s f => s.trigger f t) s).out = s.out := by
  induction l generalizing s with
  | nil => rfl
  | cons a r ih => exact (ih _).trans (s.trigger_out a t)

/-- An enabled controller acknowledges an IBI, and triggers the one fetch that names its address, or counts it. -/
theorem execIbi_spec (hs : s.canonical = true) (h : s.rfld (xioB + 0x390 + 4 * i.toNat) 31 31 ≠ 0) : ∃ t', execIbi i addr t s = .next t' ∧
    t'.out = ⟨.bus, [i.toNat], [1, addr.toNat]⟩ :: s.out ∧
    (s.ibiFetches i.toNat addr.toNat = [] → t'.ctr (xioB + 0x460) = s.ctr (xioB + 0x460) + 1 ∧ t'.ascu = s.ascu) ∧
    ∀ f, s.ibiFetches i.toNat addr.toNat = [f] → (SMap.get [] s.ascu.busq i.toNat).length < 16 →
      SMap.get [] t'.ascu.busq i.toNat = insTrig (t.toNat, f) (SMap.get [] s.ascu.busq i.toNat) ∧ t'.ascu.chans = s.ascu.chans ∧ t'.ctrs = s.ctrs := by
  refine ⟨_, execIbi_on h, ?_, fun hfs => ?_, fun f hfs hl => ?_⟩
  · split
    · rfl
    · exact State.foldl_trigger_out _ _ _
  · rw [hfs]
    exact ⟨State.ctr_bump_self _ _ (State.canonical_ctrs hs), rfl⟩
  · have hf : f ∈ s.ibiFetches i.toNat addr.toNat := hfs ▸ List.mem_singleton_self f
    simp only [State.ibiFetches, List.mem_filter, Bool.and_eq_true, decide_eq_true_eq] at hf
    obtain ⟨-, ⟨⟨hv, -⟩, hb⟩, -⟩ := hf
    rw [hfs]
    have htrig := State.trigger_queued (s := s.emit .bus [i.toNat] [1, addr.toNat]) (f := f) (t := t.toNat) hv
      (by rw [show (s.emit .bus [i.toNat] [1, addr.toNat]).fetchEnt f = s.fetchEnt f from rfl, hb]; exact hl)
    rw [show (s.emit .bus [i.toNat] [1, addr.toNat]).fetchEnt f = s.fetchEnt f from rfl, hb] at htrig
    simp only [List.isEmpty_cons, Bool.false_eq_true, if_false, List.foldl_cons, List.foldl_nil, htrig]
    exact ⟨State.setBusq_insTrig _ _ _ _, rfl, rfl⟩

end

/-! ## The end of a transaction (R264, R268, R279) -/

/-- The channel after an input is offered to its queue. -/
def AuxChan.offered (ts : Int) (data : List (BitVec 8)) (x : AuxChan) : AuxChan :=
  if 16 ≤ x.q.length then { x with lost := true }
  else { x with q := x.q ++ [{ t := ts + sext 18 (bitsN x.src 49 32), v := x.value data, gap := x.lost }], lost := false }

theorem State.auxInput_full {s : State} {c : Nat} (h : 16 ≤ (s.aux c).q.length) (ts : Int) (data : List (BitVec 8)) :
    s.auxInput c ts data = (s.bump (chCnt c 8)).modAux c AuxChan.missed := if_pos h

theorem State.auxInput_room {s : State} {c : Nat} (h : ¬ 16 ≤ (s.aux c).q.length) (ts : Int) (data : List (BitVec 8)) :
    s.auxInput c ts data = s.modAux c (fun x => { x with q := x.q ++ [{ t := ts + sext 18 (bitsN x.src 49 32), v := x.value data, gap := x.lost }], lost := false }) :=
  if_neg h

theorem State.auxInput_aux_self (s : State) (c : Nat) (ts : Int) (data : List (BitVec 8)) :
    (s.auxInput c ts data).aux c = (s.aux c).offered ts data := by
  by_cases h : 16 ≤ (s.aux c).q.length
  · rw [State.auxInput_full h, AuxChan.offered, if_pos h]
    exact State.modAux_aux_of_ne (AuxChan.missed_ne _)
  · rw [State.auxInput_room h, AuxChan.offered, if_neg h]
    exact State.modAux_aux_of_ne (fun he => List.append_ne_nil_of_right_ne_nil _ (List.cons_ne_nil _ _) (congrArg AuxChan.q he))

theorem State.auxInput_frame (s : State) (c : Nat) (ts : Int) (data : List (BitVec 8)) :
    s.auxInput c ts data = { s with ctrs := (s.auxInput c ts data).ctrs, ascu := { s.ascu with chans := (s.auxInput c ts data).ascu.chans } } := by
  by_cases h : 16 ≤ (s.aux c).q.length
  · rw [State.auxInput_full h]
    rfl
  · rw [State.auxInput_room h]
    rfl

theorem State.auxInput_aux_ne (s : State) {c k : Nat} (hk : k ≠ c) (ts : Int) (data : List (BitVec 8)) : (s.auxInput c ts data).aux k = s.aux k := by
  by_cases h : 16 ≤ (s.aux c).q.length
  · rw [State.auxInput_full h]
    exact State.modAux_aux_ne _ hk _
  · rw [State.auxInput_room h]
    exact State.modAux_aux_ne _ hk _

/-- The channels of a list take a block that was read. -/
def State.takeBlock (s : State) (l : List Nat) (ts : Int) (data : List (BitVec 8)) : State := l.foldl (fun s c => s.auxInput c ts data) s

theorem State.takeBlock_frame (s : State) (l : List Nat) (ts : Int) (data : List (BitVec 8)) :
    s.takeBlock l ts data = { s with ctrs := (s.takeBlock l ts data).ctrs, ascu := { s.ascu with chans := (s.takeBlock l ts data).ascu.chans } } := by
  unfold State.takeBlock
  induction l generalizing s with
  | nil => rfl
  | cons a r ih => rw [List.foldl_cons, ih, s.auxInput_frame]

theorem State.takeBlock_aux {l : List Nat} (hl : l.Nodup) (s : State) (ts : Int) (data : List (BitVec 8)) (c : Nat) :
    (s.takeBlock l ts data).aux c = if c ∈ l then (s.aux c).offered ts data else s.aux c :=
  State.foldl_aux (fun s k => s.auxInput_aux_self k ts data) (fun s _ _ h => s.auxInput_aux_ne h ts data) (.inl hl) s c

/-- Where every queue has room nothing is counted. -/
theorem State.takeBlock_ctrs {l : List Nat} (hl : l.Nodup) {s : State} (ts : Int) (data : List (BitVec 8)) (h : ∀ c ∈ l, (s.aux c).q.length < 16) :
    (s.takeBlock l ts data).ctrs = s.ctrs := by
  unfold State.takeBlock
  induction l generalizing s with
  | nil => rfl
  | cons a r ih =>
    obtain ⟨har, hr⟩ := List.nodup_cons.1 hl
    have hroom : (s.auxInput a ts data).ctrs = s.ctrs := by
      rw [State.auxInput_room (Nat.not_le.2 (h a List.mem_cons_self))]
      rfl
    refine (ih hr fun c hc => ?_).trans hroom
    rw [s.auxInput_aux_ne (fun e : c = a => har (e ▸ hc))]
    exact h c (List.mem_cons_of_mem _ hc)

section
variable {bus : BitVec 2} {ok : Bool} {data : List (BitVec 8)} {s : State}

theorem execFetchComplete_idle (h : SMap.get [] s.ascu.busq bus.toNat = []) : execFetchComplete bus ok data s = .next s := by
  simp only [execFetchComplete, h]

variable {t f : Nat} {rest : List (Nat × Nat)} (h : SMap.get [] s.ascu.busq bus.toNat = (t, f) :: rest)
include h

theorem execFetchComplete_failed (hf : ok = false ∨ data.length < feLen (s.fetchEnt f)) :
    execFetchComplete bus ok data s = .next ((s.setBusq bus.toNat rest).acqFail f) := by
  simp only [execFetchComplete, h]
  exact congrArg Host.Outcome.next (if_pos (hf.imp_left fun e => by rw [e]; rfl))

theorem execFetchComplete_read (hok : ok = true) (hlen : feLen (s.fetchEnt f) ≤ data.length) :
    execFetchComplete bus ok data s = .next (((s.setBusq bus.toNat rest).bump (feCnt f 0)).takeBlock (s.fetchChans f)
      ((t : Int) - feLat (s.fetchEnt f)) (data.take (feLen (s.fetchEnt f)))) := by
  simp only [execFetchComplete, h]
  refine congrArg Host.Outcome.next (if_neg ?_)
  rw [hok]
  rintro (hno | hlt)
  · exact Bool.false_ne_true hno
  · exact Nat.not_lt.2 hlen hlt

end

/-- FETCH_COMPLETE of a bus with a fetch that waits (R265, R279). -/
theorem execFetchComplete_spec {bus : BitVec 2} {ok : Bool} {data : List (BitVec 8)} {s : State} {t f : Nat} {rest : List (Nat × Nat)}
    (hs : s.canonical = true) (hq : SMap.wf [] s.ascu.busq = true) (hw : SMap.wf {} s.ascu.chans = true)
    (h : SMap.get [] s.ascu.busq bus.toNat = (t, f) :: rest) : ∃ t', execFetchComplete bus ok data s = .next t' ∧
      SMap.get [] t'.ascu.busq bus.toNat = rest ∧ (∀ b, b ≠ bus.toNat → SMap.get [] t'.ascu.busq b = SMap.get [] s.ascu.busq b) ∧
      t'.ascu.fetch = s.ascu.fetch ∧ t'.tim = s.tim ∧ (∀ c, c ∉ s.fetchChans f → t'.aux c = s.aux c) ∧
      (ok = true → feLen (s.fetchEnt f) ≤ data.length → ∀ c ∈ s.fetchChans f,
        t'.aux c = (s.aux c).offered ((t : Int) - feLat (s.fetchEnt f)) (data.take (feLen (s.fetchEnt f)))) ∧
      (ok = true → feLen (s.fetchEnt f) ≤ data.length → (∀ c ∈ s.fetchChans f, (s.aux c).q.length < 16) →
        t'.ctr (feCnt f 0) = s.ctr (feCnt f 0) + 1 ∧ t'.regs = s.regs) ∧
      (ok = false ∨ data.length < feLen (s.fetchEnt f) → (∀ c ∈ s.fetchChans f, t'.aux c = (s.aux c).missed) ∧
        (t'.reg (ascuB + 4)).getLsbD 0 = true ∧ (f < 16 → t'.ctr (feCnt f 1) = s.ctr (feCnt f 1) + 1)) := by
  by_cases hf : ok = false ∨ data.length < feLen (s.fetchEnt f)
  · have hnot : ¬ (ok = true ∧ feLen (s.fetchEnt f) ≤ data.length) := by
      rintro ⟨hok, hlen⟩
      rw [hok] at hf
      exact hf.elim (fun e => Bool.false_ne_true e.symm) (Nat.not_lt.2 hlen)
    have haux := fun c => (s.setBusq bus.toNat rest).acqFail_aux f c
    have hfr := (s.setBusq bus.toNat rest).acqFail_frame f
    obtain ⟨hbus, hother⟩ := State.busq_of_setBusq hq (congrArg (fun t => t.ascu.busq) hfr)
    exact ⟨_, execFetchComplete_failed h hf, hbus, hother, congrArg (fun t => t.ascu.fetch) hfr, congrArg (fun t => t.tim) hfr, fun c hc => (haux c).trans (if_neg hc),
      fun h1 h2 => absurd ⟨h1, h2⟩ hnot, fun h1 h2 => absurd ⟨h1, h2⟩ hnot, fun _ => ⟨fun c hc => (haux c).trans (if_pos hc),
      State.acqFail_fault (s := s.setBusq bus.toNat rest) (State.canonical_regs hs) f,
      State.acqFail_ctr (s := s.setBusq bus.toNat rest) (State.canonical_ctrs hs)⟩⟩
  · have hok : ok = true := by
      cases ok with
      | true => rfl
      | false => exact absurd (Or.inl rfl) hf
    have hlen : feLen (s.fetchEnt f) ≤ data.length := Nat.not_lt.1 fun hlt => hf (.inr hlt)
    have hn := State.fetchChans_nodup hw f
    have haux := State.takeBlock_aux hn ((s.setBusq bus.toNat rest).bump (feCnt f 0)) ((t : Int) - feLat (s.fetchEnt f))
      (data.take (feLen (s.fetchEnt f)))
    have hfr := ((s.setBusq bus.toNat rest).bump (feCnt f 0)).takeBlock_frame (s.fetchChans f) ((t : Int) - feLat (s.fetchEnt f))
      (data.take (feLen (s.fetchEnt f)))
    obtain ⟨hbus, hother⟩ := State.busq_of_setBusq hq (congrArg (fun t => t.ascu.busq) hfr)
    refine ⟨_, execFetchComplete_read h hok hlen, hbus, hother, congrArg (fun t => t.ascu.fetch) hfr, congrArg (fun t => t.tim) hfr, fun c hc => (haux c).trans (if_neg hc),
      fun _ _ c hc => (haux c).trans (if_pos hc), fun _ _ hroom => ⟨?_, congrArg (fun t => t.regs) hfr⟩, fun h => absurd h hf⟩
    rw [State.ctr, State.takeBlock_ctrs (s := (s.setBusq bus.toNat rest).bump (feCnt f 0)) hn _ _ hroom]
    exact State.ctr_bump_self (s := s.setBusq bus.toNat rest) _ _ (State.canonical_ctrs hs)

/-! ## A stuck bus (R553) -/

/-- The channel after the fetches of a list are abandoned. -/
def AuxChan.abandoned (l : List (Nat × Nat)) (x : AuxChan) : AuxChan := { x with lost := x.lost || (x.en && l.any (fun p => decide (p.2 = x.fetch))) }

theorem AuxChan.abandoned_nil (x : AuxChan) : x.abandoned [] = x := by
  unfold AuxChan.abandoned
  simp

theorem AuxChan.abandoned_cons (p : Nat × Nat) (l : List (Nat × Nat)) (x : AuxChan) :
    (if x.en = true ∧ x.fetch = p.2 then x.missed else x).abandoned l = x.abandoned (p :: l) := by
  by_cases h : x.en = true ∧ x.fetch = p.2
  · rw [if_pos h]
    simp [AuxChan.abandoned, AuxChan.missed, h.1, h.2]
  · rw [if_neg h]
    have hd : (x.en && decide (p.2 = x.fetch)) = false := Bool.eq_false_iff.2 fun e => by
      obtain ⟨hen, hf⟩ := Bool.and_eq_true_iff.1 e
      exact h ⟨hen, (of_decide_eq_true hf).symm⟩
    simp [AuxChan.abandoned, Bool.and_or_distrib_left, hd]

theorem State.foldl_acqFail_aux (l : List (Nat × Nat)) {s : State} (hw : SMap.wf {} s.ascu.chans = true) (c : Nat) :
    (l.foldl (fun s p => s.acqFail p.2) s).aux c = (s.aux c).abandoned l := by
  induction l generalizing s with
  | nil => exact (AuxChan.abandoned_nil _).symm
  | cons a r ih =>
    rw [List.foldl_cons, ih (State.acqFail_wf hw _), State.acqFail_aux, ← AuxChan.abandoned_cons]
    simp only [State.mem_fetchChans hw]

theorem State.foldl_acqFail_frame (l : List (Nat × Nat)) (s : State) : l.foldl (fun s p => s.acqFail p.2) s =
    { s with
      ctrs := (l.foldl (fun s p => s.acqFail p.2) s).ctrs, regs := (l.foldl (fun s p => s.acqFail p.2) s).regs,
      ascu := { s.ascu with chans := (l.foldl (fun s p => s.acqFail p.2) s).ascu.chans } } := by
  induction l generalizing s with
  | nil => rfl
  | cons a r ih => rw [List.foldl_cons, ih, s.acqFail_frame]

/-- I3C_STUCK recovers the bus and abandons the fetches that wait for it. -/
theorem execI3cStuck_spec {i : BitVec 1} {l : List (Nat × Nat)} {s : State} (hs : s.canonical = true) (hq : SMap.wf [] s.ascu.busq = true)
    (hw : SMap.wf {} s.ascu.chans = true) (hl : l = SMap.get [] s.ascu.busq i.toNat) :
    ∃ t', execI3cStuck i s = .next t' ∧ t'.out = ⟨.bus, [i.toNat], [3, 16]⟩ :: s.out ∧ SMap.get [] t'.ascu.busq i.toNat = [] ∧
      (∀ b, b ≠ i.toNat → SMap.get [] t'.ascu.busq b = SMap.get [] s.ascu.busq b) ∧ (l = [] → t'.ctr (xioB + 0x470) = s.ctr (xioB + 0x470) + 1) ∧
      ∀ c, t'.aux c = (s.aux c).abandoned l := by
  have hrun : execI3cStuck i s =
      .next (l.foldl (fun s p => s.acqFail p.2) (((s.setBusq i.toNat []).bump (xioB + 0x470)).emit .bus [i.toNat] [3, 16])) := by
    rw [hl]
    rfl
  have hfr := State.foldl_acqFail_frame l (((s.setBusq i.toNat []).bump (xioB + 0x470)).emit .bus [i.toNat] [3, 16])
  obtain ⟨hbus, hother⟩ := State.busq_of_setBusq hq (b := i.toNat) (l := []) (congrArg (fun t => t.ascu.busq) hfr)
  refine ⟨_, hrun, congrArg (fun t => t.out) hfr, hbus, hother, fun hnil => ?_, State.foldl_acqFail_aux l hw⟩
  rw [hnil]
  exact State.ctr_bump_self (s := s.setBusq i.toNat []) _ _ (State.canonical_ctrs hs)

end Sys2Proof.Machine

/-! SUPPORT. The stages of a channel (R269 to R273): what an input changes of it, and its way through a chain whose stages are all bypassed. -/
namespace Sys2Proof.Machine

/-! ## What the stages change -/

/-- y is the channel x after its stages have worked: its filters alone may differ. -/
def AuxChan.Filtered (x y : AuxChan) : Prop :=
  y = { x with win := y.win, ints := y.ints, combs := y.combs, phase := y.phase, f1 := y.f1, f2 := y.f2 }

theorem AuxChan.Filtered.trans {x y z : AuxChan} (h1 : x.Filtered y) (h2 : y.Filtered z) : x.Filtered z := by
  unfold AuxChan.Filtered at h1 h2 ⊢
  rw [h1] at h2
  exact h2

theorem AuxChan.pre_filtered (x : AuxChan) (v : Int) : x.Filtered (x.pre v).2.2 := rfl

theorem AuxChan.cic_filtered (x : AuxChan) (v : Int) : x.Filtered (x.cic v).2 := by
  unfold AuxChan.cic
  split
  · rfl
  · extract_lets n ints y
    split <;> rfl

theorem AuxChan.run_filtered (x : AuxChan) (v : Int) (tick : Nat) : x.Filtered (x.run v tick).2 := by
  unfold AuxChan.run
  extract_lets a c
  have hc : x.Filtered c.2 := (x.pre_filtered v).trans (AuxChan.cic_filtered _ _)
  split
  · exact hc
  · extract_lets y
    split
    · exact hc.trans rfl
    · exact hc.trans rfl

/-! ## A chain of bypassed stages -/

theorem AuxChan.pre_chain_zero {x : AuxChan} (h : x.chain = 0) (v : Int) : x.pre v = ((sat32 v).1, (sat32 v).2, { x with win := [v] }) := by
  simp [AuxChan.pre, AuxChan.k, h, bitsN, insInt]

theorem AuxChan.cic_chain_zero {x : AuxChan} (h : x.chain = 0) (v : Int) : x.cic v = (some (v, false), x) := by
  simp [AuxChan.cic, AuxChan.cicN, h, bitsN]

/-- The stage after a sample with decimation 1: a swap that is due has taken effect (R272). -/
def FirStage.pushed (f : FirStage) (max_ : Nat) (v : Int) (tick : Nat) : FirStage :=
  { f with line := (v :: f.line).take max_, phase := 0, useB := f.useB != f.swapDue tick, pend := if f.swapDue tick then none else f.pend }

theorem FirStage.push_one (f : FirStage) (max_ : Nat) (v : Int) (tick : Nat) :
    ∃ o, f.push max_ 1 v tick = (some o, f.swapDue tick, f.pushed max_ v tick) := by
  unfold FirStage.push
  extract_lets f1 sw f2 b sum
  rw [if_neg (show ¬ f.phase + 1 < 1 by omega)]
  split
  · exact ⟨_, rfl⟩
  · exact ⟨_, rfl⟩

theorem AuxChan.run_chain_zero {x : AuxChan} (h : x.chain = 0) (v : Int) (tick : Nat) : ∃ w : Int,
    (x.run v tick).1.f2.isSome = true ∧
    (x.run v tick).2 = { x with win := [v], f1 := x.f1.pushed 64 (sat32 v).1 tick, f2 := x.f2.pushed 128 w tick } := by
  have hr1 : ∀ y : AuxChan, y.chain = 0 → y.r1 = 1 := fun y hy => by simp [AuxChan.r1, hy, bitsN]
  have hr2 : ∀ y : AuxChan, y.chain = 0 → y.r2 = 1 := fun y hy => by simp [AuxChan.r2, hy, bitsN]
  obtain ⟨o1, h1⟩ := x.f1.push_one 64 (sat32 v).1 tick
  obtain ⟨o2, h2⟩ := x.f2.push_one 128 o1.1 tick
  refine ⟨o1.1, ?_⟩
  simp only [AuxChan.run, AuxChan.pre_chain_zero h, AuxChan.cic_chain_zero (x := { x with win := [v] }) h, hr1 { x with win := [v] } h,
    hr2 { x with win := [v] } h, h1, h2, Option.map_some, Option.isSome_some, and_self]

end Sys2Proof.Machine

/-! SUPPORT. The outputs of a channel (R273 to R278): what an output changes of the ASCU, and what taking an input leaves. -/
namespace Sys2Proof.Machine

/-! ## What is beside the ASCU -/

theorem State.closeEntry_ascu (s : State) (k : Nat) : (s.closeEntry k).ascu = s.ascu := by
  unfold State.closeEntry
  extract_lets q
  split <;> rfl

theorem State.placeRec_ascu (s : State) (k : Nat) (rec : List Nat) : (s.placeRec k rec).ascu = s.ascu := by
  unfold State.placeRec
  extract_lets s1 s2
  have h1 : s1.ascu = s.ascu := by
    simp only [s1]
    split
    · rfl
    · exact s.closeEntry_ascu k
  have h2 : s2.ascu = s.ascu := h1
  split
  · exact (s2.closeEntry_ascu k).trans h2
  · exact h2

theorem State.dropRec_ascu (s : State) (k slip : Nat) : (s.dropRec k slip).ascu = s.ascu := by
  unfold State.dropRec
  extract_lets s1
  split <;> rfl

theorem State.hold_ascu (s : State) (slip : Nat) (r : HeldRec) : (s.hold slip r).1.ascu = s.ascu := by
  unfold State.hold
  split
  · rfl
  · exact s.dropRec_ascu r.queue slip

theorem State.packed_ascu (s : State) (k kind slip : Nat) (rec : List Nat) : (s.packed k kind slip rec).1.ascu = s.ascu := by
  unfold State.packed
  extract_lets q
  split
  · exact s.placeRec_ascu k rec
  · exact s.hold_ascu slip _

theorem State.complete_ascu (s : State) (h : CmdRef) (st det : Nat) (r : BitVec 128) : (s.complete h st det r).ascu = s.ascu := by
  unfold State.complete
  split
  · rfl
  · simp only
    rw [(State.trace_traced _ _ _ _ _).1]
    split <;> rfl

theorem State.fault_ascu (s : State) (source cause slip info : Nat) : (s.fault source cause slip info).ascu = s.ascu := by
  rw [State.fault, (s.reacts_faultFull _ _).eq]

theorem State.foldl_ascu {α : Type} {f : State → α → State} (h : ∀ s a, (f s a).ascu = s.ascu) (l : List α) (s : State) :
    (l.foldl f s).ascu = s.ascu := by
  induction l generalizing s with
  | nil => rfl
  | cons a r ih => exact (ih _).trans (h s a)

theorem State.tickOfNs_congr {s t : State} (h : t.tim = s.tim) (i : Int) : t.tickOfNs i = s.tickOfNs i := by
  simp only [State.tickOfNs, State.tickLen, h]

/-! ## One channel at work -/

/-- From s to t the ASCU has changed in channel c alone, which is enabled and has P, and time has not moved. -/
structure State.ChanIs (c : Nat) (s : State) (P : AuxChan → Prop) (t : State) : Prop where
  other : ∀ k, k ≠ c → t.aux k = s.aux k
  fetch : t.ascu.fetch = s.ascu.fetch
  busq : t.ascu.busq = s.ascu.busq
  tim : t.tim = s.tim
  en : (t.aux c).en = true
  own : P (t.aux c)

namespace State.ChanIs

variable {c : Nat} {s t : State} {P Q : AuxChan → Prop}

theorem start (he : (s.aux c).en = true) (hP : P (s.aux c)) : ChanIs c s P s := ⟨fun _ _ => rfl, rfl, rfl, rfl, he, hP⟩

theorem imp (h : ChanIs c s P t) (hQ : ∀ y, P y → Q y) : ChanIs c s Q t := { h with own := hQ _ h.own }

/-- A step beside the ASCU. -/
theorem beside (h : ChanIs c s P t) {u : State} (ha : u.ascu = t.ascu) (ht : u.tim = t.tim) : ChanIs c s P u where
  other k hk := (State.aux_congr ha k).trans (h.other k hk)
  fetch := (congrArg Ascu.fetch ha).trans h.fetch
  busq := (congrArg Ascu.busq ha).trans h.busq
  tim := ht.trans h.tim
  en := by rw [State.aux_congr ha]; exact h.en
  own := by rw [State.aux_congr ha]; exact h.own

theorem bump (h : ChanIs c s P t) (k n : Nat) : ChanIs c s P (t.bump k n) := h.beside rfl rfl

theorem ite {p : Prop} [Decidable p] {u v : State} (hu : ChanIs c s P u) (hv : ChanIs c s P v) : ChanIs c s P (if p then u else v) := by
  split
  · exact hu
  · exact hv

/-- A change of the channel that leaves it enabled is read back, whatever else the map of channels holds. -/
theorem modAux (h : ChanIs c s P t) {g : AuxChan → AuxChan} (hg : ∀ y, P y → (g y).en = y.en ∧ Q (g y)) : ChanIs c s Q (t.modAux c g) := by
  obtain ⟨hen, hQ⟩ := hg _ h.own
  have hself : (t.modAux c g).aux c = g (t.aux c) := State.modAux_aux_of_ne (AuxChan.ne_default_of_en (hen.trans h.en))
  exact ⟨fun k hk => (t.modAux_aux_ne hk g).trans (h.other k hk), h.fetch, h.busq, h.tim, by rw [hself]; exact hen.trans h.en, by rw [hself]; exact hQ⟩

/-- A change of the channel that is known. -/
theorem modTo {x : AuxChan} (h : ChanIs c s (· = x) t) {g : AuxChan → AuxChan} (hg : (g x).en = x.en) : ChanIs c s (· = g x) (t.modAux c g) :=
  h.modAux fun y hy => by
    rw [show y = x from hy]
    exact ⟨hg, rfl⟩

end State.ChanIs

/-! ## An output leaves (R275 to R278) -/

/-- y is the channel x after outputs have left it: its sinks, what it keeps of each output kind and the commands that wait for a swap may
differ, and Lungo's next sequence number is n. -/
def AuxChan.Sent (x : AuxChan) (n : Nat) (y : AuxChan) : Prop :=
  y = { x with lungo := y.lungo, rist := y.rist, sinks := y.sinks, swaps := y.swaps } ∧ y.lungo.seq = n

/-- A change of the fields in which a channel may differ after an output. -/
theorem AuxChan.Sent.change {x y z : AuxChan} {n m : Nat} (h : x.Sent n y)
    (hz : z = { y with lungo := z.lungo, rist := z.rist, sinks := z.sinks, swaps := z.swaps }) (hm : z.lungo.seq = m) : x.Sent m z := by
  refine ⟨?_, hm⟩
  rw [h.1] at hz
  exact hz

namespace State.ChanIs

variable {c : Nat} {s t : State} {x : AuxChan} {n : Nat}

theorem toSinks (h : ChanIs c s (x.Sent n) t) (rist : Bool) (w0 w1 : BitVec 64) : ChanIs c s (x.Sent n) (t.toSinks c rist w0 w1) := by
  unfold State.toSinks
  extract_lets full hit t1
  have h1 : ChanIs c s (x.Sent n) t1 := h.modAux fun y hy => ⟨rfl, hy.change rfl hy.2⟩
  refine h1.beside (State.foldl_ascu (fun u k => ?_) _ _) ((State.foldl_tim fun u k => ?_) _ _)
  · exact State.fault_ascu _ _ _ _ _
  · exact State.fault_tim _ _ _ _ _

theorem auxIssue (h : ChanIs c s (x.Sent n) t) (rist : Bool) (tap : Nat) (v tNew : Int) :
    ChanIs c s (x.Sent (if rist then n else (n + 1) % 2 ^ 32)) (t.auxIssue c rist tap v tNew) := by
  unfold State.auxIssue
  extract_lets y o reach tOut raw clamped tick warm gap sub bank vf w0 w1 late t1 t2 upd t3 t4 age flags
  have h2 : ChanIs c s (x.Sent n) t2 := .ite ((h.bump _ _).bump _ _) (h.bump _ _)
  have h3 : ChanIs c s (x.Sent (if rist then n else (n + 1) % 2 ^ 32)) t3 := h2.modAux fun z hz => by
    cases rist with
    | true => exact ⟨rfl, hz.change rfl hz.2⟩
    | false => exact ⟨rfl, hz.change rfl (by rw [← hz.2]; rfl)⟩
  have h4 : ChanIs c s (x.Sent (if rist then n else (n + 1) % 2 ^ 32)) t4 := .ite (h3.bump _ _) (h3.toSinks _ _ _)
  cases t4.auxRing (t4.auxSlip c) with
  | none => exact h4
  | some k => exact .ite (h4.beside (State.packed_ascu _ _ _ _ _) (State.packed_tim _ _ _ _ _)) h4

theorem swapsDone (h : ChanIs c s (x.Sent n) t) : ChanIs c s (x.Sent n) (t.swapsDone c) := by
  unfold State.swapsDone
  extract_lets y open_ done t1
  have h1 : ChanIs c s (x.Sent n) t1 := h.modAux fun y hy => ⟨rfl, hy.change rfl hy.2⟩
  exact h1.beside (State.foldl_ascu (fun u p => u.complete_ascu _ _ _ _) _ _) ((State.foldl_tim fun u p => u.complete_tim _ _ _ _) _ _)

end State.ChanIs

/-! ## An input or substitute is taken (R266, R267, R268) -/

/-- The channel with an input or substitute noted, before its stages work on it. -/
def AuxChan.noted (x : AuxChan) (t v : Int) (sub gap : Bool) : AuxChan :=
  { x with
    tLast := some t, vLast := v, ring := (t :: x.ring).take 257, nIn := x.nIn + 1,
    lastSub := if sub then x.nIn + 1 else x.lastSub, lastGap := if gap then x.nIn + 1 else x.lastGap }

/-- What the slot of a channel computes for an input, and the channel then. -/
def AuxChan.worked (x : AuxChan) (t v : Int) (sub gap : Bool) (tick : Nat) : SlotOut × AuxChan := (x.noted t v sub gap).run v tick

/-- Lungo's next sequence number once an input has been worked on. -/
def AuxChan.seqAfter (x : AuxChan) (o : SlotOut) : Nat := if o.f2.isSome then (x.lungo.seq + 1) % 2 ^ 32 else x.lungo.seq

theorem State.ChanIs.auxTake {c : Nat} {s t : State} {x : AuxChan} (h : s.ChanIs c (· = x) t) (i v : Int) (sub gap : Bool) :
    s.ChanIs c ((x.worked i v sub gap (s.tickOfNs i)).2.Sent (x.seqAfter (x.worked i v sub gap (s.tickOfNs i)).1)) (t.auxTake c i v sub gap) := by
  unfold State.auxTake
  extract_lets t1 r o satTo y lt lungo rist z t2 t3 tapped t4
  have h1 : s.ChanIs c (· = x.noted i v sub gap) t1 := h.modTo (g := fun x => x.noted i v sub gap) rfl
  have hr : r = x.worked i v sub gap (s.tickOfNs i) := by
    show (t1.aux c).run v (t1.tickOfNs i) = _
    rw [h1.own, State.tickOfNs_congr h1.tim]
    rfl
  rw [← hr]
  have hfil : (x.noted i v sub gap).Filtered y := by
    show (x.noted i v sub gap).Filtered r.2
    rw [hr]
    exact AuxChan.run_filtered _ _ _
  have hseq : y.lungo.seq = x.lungo.seq := by rw [hfil]; rfl
  have h2 : s.ChanIs c (y.Sent x.lungo.seq) t2 := h1.modAux fun w hw => by
    rw [show w = x.noted i v sub gap from hw]
    exact ⟨show y.en = _ by rw [hfil], rfl, hseq⟩
  have h3 : s.ChanIs c (y.Sent (x.seqAfter o)) t3 := by
    simp only [t3, AuxChan.seqAfter]
    cases o.f2 with
    | none => exact h2
    | some w => exact h2.auxIssue false lt w i
  have h4 : s.ChanIs c (y.Sent (x.seqAfter o)) t4 := by
    simp only [t4]
    cases tapped with
    | none => exact h3
    | some w =>
      refine State.ChanIs.auxIssue (x := y) (n := x.seqAfter o) ?_ true _ _ i
      split
      · exact h3.modAux fun y hy => ⟨rfl, hy.change rfl hy.2⟩
      · exact h3
  exact .ite h4.swapsDone h4

/-- The channel with the input at the head of its queue gone, and no substitutes to insert. -/
def AuxChan.popped (x : AuxChan) : AuxChan := { x with q := x.q.drop 1, subs := none }

theorem State.ChanIs.auxAccept {c : Nat} {s t : State} {x : AuxChan} (h : s.ChanIs c (· = x) t) (i : AuxIn) :
    s.ChanIs c ((x.popped.worked i.t i.v false i.gap (s.tickOfNs i.t)).2.Sent
      (x.seqAfter (x.popped.worked i.t i.v false i.gap (s.tickOfNs i.t)).1)) (t.auxAccept c i) :=
  ((h.modTo (g := AuxChan.popped) rfl).bump (chCnt c 0) 1).auxTake i.t i.v false i.gap

/-- The channel with substitute k of m inserted (R266). -/
def AuxChan.substituted (x : AuxChan) (k m : Nat) (base : Int) (p : Nat) : AuxChan := { x with subs := some (k, m, base, p) }

theorem State.ChanIs.auxSubst {c : Nat} {s t : State} {x : AuxChan} (h : s.ChanIs c (· = x) t) (k m : Nat) (base : Int) (p : Nat) (gap : Bool) :
    s.ChanIs c (((x.substituted k m base p).worked (base + rneDivI (k * p) 256) x.vLast true gap (s.tickOfNs (base + rneDivI (k * p) 256))).2.Sent
      (x.seqAfter ((x.substituted k m base p).worked (base + rneDivI (k * p) 256) x.vLast true gap (s.tickOfNs (base + rneDivI (k * p) 256))).1))
      (t.auxSubst c k m base p gap) := by
  have h1 := (h.modTo (g := fun x => x.substituted k m base p) rfl).bump (chCnt c 3) 1
  have hv : (((t.modAux c (fun x => x.substituted k m base p)).bump (chCnt c 3)).aux c).vLast = x.vLast := by
    rw [h1.own]
    rfl
  have h2 := h1.auxTake (base + rneDivI (k * p) 256) x.vLast true gap
  rw [← hv] at h2
  rw [← hv]
  exact h2

end Sys2Proof.Machine

/-! SUPPORT. CHANNEL_SLOT and AUX_TICK_END (R266, R268, R277). -/
namespace Sys2Proof.Machine

theorem exec_channelSlot (c : BitVec 5) (s : State) : exec (.channelSlot c) s = execChannelSlot c s := rfl

theorem exec_auxTickEnd (s : State) : exec .auxTickEnd s = execAuxTickEnd s := rfl

/-! ## The choice of a slot (R266) -/

/-- The channel with its sinks drained. -/
def AuxChan.drained (x : AuxChan) : AuxChan := { x with sinks := x.sinks.map AuxSink.drain }

/-- An input is in turn: the first, or after the one before it by no more than 1.5 P. -/
def AuxChan.inTurn (x : AuxChan) (i : AuxIn) : Prop :=
  x.tLast = none ∨ ∃ tl, x.tLast = some tl ∧ 0 < i.t - tl ∧ 512 * (i.t - tl) ≤ 3 * x.p

/-- The samples missing before an input, by the period. -/
def AuxChan.missing (x : AuxChan) (d : Int) : Nat := rneDiv (d.toNat * 256) (max 1 x.p) - 1

theorem State.auxSlot_disabled {s : State} {c : Nat} (h : (s.aux c).en = false) : s.auxSlot c = s := by
  simp [State.auxSlot, h]

section
variable {s : State} {c : Nat} {x : AuxChan} (hx : x = s.aux c) (he : x.en = true)
include hx he

theorem State.drainSinks_chanIs : s.ChanIs c (· = x.drained) (s.drainSinks c) := by
  subst hx
  exact State.ChanIs.modTo (.start he rfl) (g := AuxChan.drained) rfl

theorem State.auxSlot_empty (hq : x.q = []) : s.auxSlot c = s.drainSinks c := by
  have hd : (s.drainSinks c).aux c = x.drained := (State.drainSinks_chanIs hx he).own
  have hq' : x.drained.q = [] := hq
  subst hx
  simp only [State.auxSlot, he, Bool.not_true, Bool.false_eq_true, if_false, hd, hq']

variable {i : AuxIn} {rest : List AuxIn} (hq : x.q = i :: rest) (hsub : x.subs = none)
include hq hsub

/-- An enabled channel with an input and no substitutes to insert. -/
theorem State.auxSlot_input : s.auxSlot c = match x.tLast with
    | none => (s.drainSinks c).auxAccept c i
    | some tl =>
      if i.t - tl ≤ 0 then ((s.drainSinks c).modAux c (fun x => { x with q := rest })).bump (chCnt c 9)
      else if ((i.t - tl).toNat * 256) * 2 ≤ 3 * x.p then (s.drainSinks c).auxAccept c i
      else if 8 < x.missing (i.t - tl) then
        ((((s.drainSinks c).modAux c AuxChan.restart).orReg (ascuB + 4) 4).bump (chCnt c 4)).auxAccept c i
      else if x.missing (i.t - tl) = 0 then (s.drainSinks c).auxAccept c i
      else (s.drainSinks c).auxSubst c 1 (x.missing (i.t - tl)) tl x.p i.gap := by
  have hd : (s.drainSinks c).aux c = x.drained := (State.drainSinks_chanIs hx he).own
  have hq' : x.drained.q = i :: rest := hq
  have hsub' : x.drained.subs = none := hsub
  have hlast : x.drained.tLast = x.tLast := rfl
  have hp : x.drained.p = x.p := rfl
  subst hx
  simp only [State.auxSlot, he, Bool.not_true, Bool.false_eq_true, if_false, hd, hq', hsub', hlast, hp, AuxChan.missing]
  cases (s.aux c).tLast <;> rfl

theorem State.auxSlot_inTurn (h : x.inTurn i) : s.auxSlot c = (s.drainSinks c).auxAccept c i := by
  rw [State.auxSlot_input hx he hq hsub]
  obtain hn | ⟨tl, ht, hpos, hle⟩ := h
  · rw [hn]
  · rw [ht]
    exact (if_neg (by omega)).trans (if_pos (by omega))

variable {tl : Int} (ht : x.tLast = some tl)
include ht

theorem State.auxSlot_late (h : i.t ≤ tl) :
    s.auxSlot c = ((s.drainSinks c).modAux c (fun x => { x with q := rest })).bump (chCnt c 9) := by
  rw [State.auxSlot_input hx he hq hsub, ht]
  exact if_pos (by omega)

variable (hgap : 3 * (x.p : Int) < 512 * (i.t - tl))
include hgap

theorem State.auxSlot_restart (hm : 8 < x.missing (i.t - tl)) : s.auxSlot c =
    ((((s.drainSinks c).modAux c AuxChan.restart).orReg (ascuB + 4) 4).bump (chCnt c 4)).auxAccept c i := by
  rw [State.auxSlot_input hx he hq hsub, ht]
  exact (if_neg (by omega)).trans ((if_neg (by omega)).trans (if_pos hm))

theorem State.auxSlot_gap (h1 : 1 ≤ x.missing (i.t - tl)) (h8 : x.missing (i.t - tl) ≤ 8) : s.auxSlot c =
    (s.drainSinks c).auxSubst c 1 (x.missing (i.t - tl)) tl x.p i.gap := by
  rw [State.auxSlot_input hx he hq hsub, ht]
  exact (if_neg (by omega)).trans ((if_neg (by omega)).trans ((if_neg (Nat.not_lt.2 h8)).trans (if_neg (Nat.pos_iff_ne_zero.1 h1))))

end

/-! ## What a slot leaves -/

/-- A slot changes its channel alone. -/
theorem State.auxSlot_chanIs {s : State} {c : Nat} (he : (s.aux c).en = true) : s.ChanIs c (fun _ => True) (s.auxSlot c) := by
  have h0 := State.drainSinks_chanIs (s := s) (c := c) rfl he
  have taken : ∀ {t : State} {y : AuxChan}, s.ChanIs c (· = y) t → ∀ j, s.ChanIs c (fun _ => True) (t.auxAccept c j) :=
    fun h j => (h.auxAccept j).imp fun _ _ => trivial
  have added : ∀ k m base p gap, s.ChanIs c (fun _ => True) ((s.drainSinks c).auxSubst c k m base p gap) :=
    fun k m base p gap => (h0.auxSubst k m base p gap).imp fun _ _ => trivial
  have dropped : ∀ l, s.ChanIs c (fun _ => True) (((s.drainSinks c).modAux c (fun x => { x with q := l })).bump (chCnt c 9)) :=
    fun l => ((h0.modTo (g := fun x => { x with q := l }) rfl).bump _ _).imp fun _ _ => trivial
  have restarted : s.ChanIs c (· = ((s.aux c).drained).restart) ((((s.drainSinks c).modAux c AuxChan.restart).orReg (ascuB + 4) 4).bump (chCnt c 4)) :=
    ((h0.modTo (g := AuxChan.restart) rfl).beside (u := ((s.drainSinks c).modAux c AuxChan.restart).orReg (ascuB + 4) 4) rfl rfl).bump _ _
  simp only [State.auxSlot, he, Bool.not_true, Bool.false_eq_true, if_false]
  split
  · exact h0.imp fun _ _ => trivial
  · split
    · exact .ite (added _ _ _ _ _) (taken h0 _)
    · exact taken h0 _
    · exact .ite (dropped _) (.ite (taken h0 _) (.ite (taken restarted _) (.ite (taken h0 _) (added _ _ _ _ _))))

/-- What a channel keeps of an input or substitute, once outputs have left it. -/
theorem AuxChan.Sent.inputs {z y : AuxChan} {t v : Int} {sub gap : Bool} {tick n : Nat} (h : (z.worked t v sub gap tick).2.Sent n y) :
    y.q = z.q ∧ y.subs = z.subs ∧ y.tLast = some t ∧ y.vLast = v ∧ y.nIn = z.nIn + 1 ∧ y.ring = (t :: z.ring).take 257 := by
  rw [h.1, AuxChan.worked, (z.noted t v sub gap).run_filtered v tick]
  exact ⟨rfl, rfl, rfl, rfl, rfl, rfl⟩

/-- The same of its filters, where every stage is bypassed. -/
theorem AuxChan.Sent.filters {z y : AuxChan} {t v : Int} {sub gap : Bool} {tick : Nat}
    (h : (z.worked t v sub gap tick).2.Sent (z.seqAfter (z.worked t v sub gap tick).1) y) (hc : z.chain = 0) :
    y.win = [v] ∧ y.f1.useB = (z.f1.useB != z.f1.swapDue tick) ∧ y.f2.useB = (z.f2.useB != z.f2.swapDue tick) ∧
      y.f1.line = (sat32 v).1 :: z.f1.line.take 63 ∧ y.lungo.seq = (z.lungo.seq + 1) % 2 ^ 32 := by
  obtain ⟨w, hout, hrun⟩ := AuxChan.run_chain_zero (x := z.noted t v sub gap) hc v tick
  refine ⟨?_, ?_, ?_, ?_, h.2.trans (if_pos hout)⟩ <;> rw [h.1, AuxChan.worked, hrun] <;> rfl

section
variable {s : State} {c : Nat} {x : AuxChan} (hx : x = s.aux c) (he : x.en = true) {i : AuxIn} {rest : List AuxIn} (hq : x.q = i :: rest)
  (hsub : x.subs = none)
include hx he hq hsub

theorem State.auxSlot_inTurn_spec (h : x.inTurn i) : ((s.auxSlot c).aux c).q = rest ∧ ((s.auxSlot c).aux c).tLast = some i.t ∧
    ((s.auxSlot c).aux c).vLast = i.v ∧ ((s.auxSlot c).aux c).nIn = x.nIn + 1 ∧ ((s.auxSlot c).aux c).ring = (i.t :: x.ring).take 257 ∧
    (x.chain = 0 → ((s.auxSlot c).aux c).win = [i.v] ∧ ((s.auxSlot c).aux c).f1.useB = (x.f1.useB != x.f1.swapDue (s.tickOfNs i.t)) ∧
      ((s.auxSlot c).aux c).f2.useB = (x.f2.useB != x.f2.swapDue (s.tickOfNs i.t)) ∧
      ((s.auxSlot c).aux c).f1.line = (sat32 i.v).1 :: x.f1.line.take 63 ∧ ((s.auxSlot c).aux c).lungo.seq = (x.lungo.seq + 1) % 2 ^ 32) := by
  have hown := ((State.drainSinks_chanIs hx he).auxAccept i).own
  rw [← State.auxSlot_inTurn hx he hq hsub h] at hown
  obtain ⟨hq', -, ht, hv, hn, hr⟩ := hown.inputs
  exact ⟨hq'.trans (congrArg (List.drop 1) hq), ht, hv, hn, hr, fun hc => AuxChan.Sent.filters (z := x.drained.popped) hown hc⟩

variable {tl : Int} (ht : x.tLast = some tl)
include ht

theorem State.auxSlot_late_spec (hs : SMap.wf 0 s.ctrs = true) (h : i.t ≤ tl) :
    (s.auxSlot c).aux c = { x with q := rest, sinks := x.sinks.map AuxSink.drain } ∧ (s.auxSlot c).ctr (chCnt c 9) = s.ctr (chCnt c 9) + 1 := by
  have hown := ((State.drainSinks_chanIs hx he).modTo (g := fun x => { x with q := rest }) rfl).own
  rw [State.auxSlot_late hx he hq hsub ht h]
  exact ⟨hown, State.ctr_bump_self _ _ hs⟩

variable (hgap : 3 * (x.p : Int) < 512 * (i.t - tl))
include hgap

theorem State.auxSlot_gap_spec (h1 : 1 ≤ x.missing (i.t - tl)) (h8 : x.missing (i.t - tl) ≤ 8) : ((s.auxSlot c).aux c).q = x.q ∧
    ((s.auxSlot c).aux c).subs = some (1, x.missing (i.t - tl), tl, x.p) ∧ ((s.auxSlot c).aux c).tLast = some (tl + rneDivI x.p 256) ∧
    ((s.auxSlot c).aux c).vLast = x.vLast := by
  have hown := ((State.drainSinks_chanIs hx he).auxSubst 1 (x.missing (i.t - tl)) tl x.p i.gap).own
  rw [← State.auxSlot_gap hx he hq hsub ht hgap h1 h8] at hown
  obtain ⟨hq', hs', ht', hv, -, -⟩ := hown.inputs
  rw [Nat.cast_one, one_mul] at ht'
  exact ⟨hq', hs', ht', hv⟩

theorem State.auxSlot_restart_spec (hm : 8 < x.missing (i.t - tl)) : ((s.auxSlot c).aux c).q = rest ∧ ((s.auxSlot c).aux c).subs = none ∧
    ((s.auxSlot c).aux c).nIn = 1 ∧ ((s.auxSlot c).aux c).tLast = some i.t := by
  have h1 := ((State.drainSinks_chanIs hx he).modTo (g := AuxChan.restart) rfl).beside
    (u := ((s.drainSinks c).modAux c AuxChan.restart).orReg (ascuB + 4) 4) rfl rfl
  have hown := ((h1.bump (chCnt c 4) 1).auxAccept i).own
  rw [← State.auxSlot_restart hx he hq hsub ht hgap hm] at hown
  obtain ⟨hq', hs', ht', -, hn, -⟩ := hown.inputs
  exact ⟨hq'.trans (congrArg (List.drop 1) hq), hs', hn, ht'⟩

end

/-- CHANNEL_SLOT of an enabled channel. -/
theorem execChannelSlot_spec {n : BitVec 5} {c : Nat} {x : AuxChan} {s : State} (hs : s.canonical = true) (hc : c = n.toNat) (hx : x = s.aux c)
    (he : x.en = true) : ∃ t', execChannelSlot n s = .next t' ∧ (∀ k, k ≠ c → t'.aux k = s.aux k) ∧ t'.ascu.fetch = s.ascu.fetch ∧
      t'.ascu.busq = s.ascu.busq ∧ t'.tim = s.tim ∧ (x.q = [] → t'.aux c = x.drained) ∧
      (∀ i rest, x.q = i :: rest → x.subs = none → x.inTurn i →
        (t'.aux c).q = rest ∧ (t'.aux c).tLast = some i.t ∧ (t'.aux c).vLast = i.v ∧ (t'.aux c).nIn = x.nIn + 1 ∧ (t'.aux c).ring = (i.t :: x.ring).take 257 ∧
          (x.chain = 0 → (t'.aux c).win = [i.v] ∧ (t'.aux c).f1.useB = (x.f1.useB != x.f1.swapDue (s.tickOfNs i.t)) ∧
            (t'.aux c).f2.useB = (x.f2.useB != x.f2.swapDue (s.tickOfNs i.t)) ∧ (t'.aux c).f1.line = (sat32 i.v).1 :: x.f1.line.take 63 ∧
            (t'.aux c).lungo.seq = (x.lungo.seq + 1) % 2 ^ 32)) ∧
      (∀ i rest tl, x.q = i :: rest → x.subs = none → x.tLast = some tl → i.t ≤ tl →
        t'.aux c = { x with q := rest, sinks := x.sinks.map AuxSink.drain } ∧ t'.ctr (chCnt c 9) = s.ctr (chCnt c 9) + 1) ∧
      (∀ i rest tl, x.q = i :: rest → x.subs = none → x.tLast = some tl → 3 * (x.p : Int) < 512 * (i.t - tl) →
        ∀ m, m = x.missing (i.t - tl) →
          (1 ≤ m → m ≤ 8 → (t'.aux c).q = x.q ∧ (t'.aux c).subs = some (1, m, tl, x.p) ∧ (t'.aux c).tLast = some (tl + rneDivI x.p 256) ∧
            (t'.aux c).vLast = x.vLast) ∧
          (8 < m → (t'.aux c).q = rest ∧ (t'.aux c).subs = none ∧ (t'.aux c).nIn = 1 ∧ (t'.aux c).tLast = some i.t)) := by
  have hch := State.auxSlot_chanIs (s := s) (c := c) (hx ▸ he)
  have hrun : execChannelSlot n s = .next (s.auxSlot c) := by rw [hc]; rfl
  refine ⟨s.auxSlot c, hrun, hch.other, hch.fetch, hch.busq, hch.tim, fun hq => ?_, fun i rest hq hsub => State.auxSlot_inTurn_spec hx he hq hsub,
    fun i rest tl hq hsub ht => State.auxSlot_late_spec hx he hq hsub ht (State.canonical_ctrs hs), ?_⟩
  · rw [State.auxSlot_empty hx he hq]
    exact (State.drainSinks_chanIs hx he).own
  · rintro i rest tl hq hsub ht hgap m rfl
    exact ⟨State.auxSlot_gap_spec hx he hq hsub ht hgap, State.auxSlot_restart_spec hx he hq hsub ht hgap⟩

/-! ## The end of a tick (R277) -/

/-- One output kind with the ticks closed whose hold has passed. -/
def AuxOut.closedAt (tick : Nat) (o : AuxOut) : AuxOut := if o.hold = 0 then o else { o with closed := max o.closed (tick + 1 - o.hold) }

/-- The channel at the end of a tick. -/
def AuxChan.tickEnded (tick : Nat) (x : AuxChan) : AuxChan :=
  if x.en then { x with lungo := x.lungo.closedAt tick, rist := x.rist.closedAt tick } else x

theorem execAuxTickEnd_spec {s : State} (hw : SMap.wf {} s.ascu.chans = true) : ∃ t', execAuxTickEnd s = .next t' ∧
    t' = { s with ascu := { s.ascu with chans := t'.ascu.chans } } ∧ ∀ c, t'.aux c = (s.aux c).tickEnded s.tim.tick := by
  have hrun : execAuxTickEnd s =
      .next { s with ascu := { s.ascu with chans := SMap.mapAll {} s.ascu.chans (fun _ x => x.tickEnded s.tim.tick) } } := rfl
  exact ⟨_, hrun, rfl, SMap.get_mapAll (f := fun _ (x : AuxChan) => x.tickEnded s.tim.tick) (fun _ => rfl) hw⟩

end Sys2Proof.Machine

/-! SUPPORT. The commands of the Aux class (R262, R264, R272, Table 14.8). -/
namespace Sys2Proof.Machine

theorem exec_auxFetchSet (h : CmdRef) (n : BitVec 8) (e : BitVec 128) (s : State) : exec (.auxFetchSet h n e) s = execAuxFetchSet h n e s := rfl

theorem exec_auxChanSet (h : CmdRef) (n : BitVec 8) (src chain out time : BitVec 64) (s : State) :
    exec (.auxChanSet h n src chain out time) s = execAuxChanSet h n src chain out time s := rfl

theorem exec_auxChanEnable (h : CmdRef) (n en : BitVec 8) (s : State) : exec (.auxChanEnable h n en) s = execAuxChanEnable h n en s := rfl

theorem exec_auxCoefLoad (h : CmdRef) (n st taps shift : BitVec 8) (coef : List (BitVec 16)) (s : State) :
    exec (.auxCoefLoad h n st taps shift coef) s = execAuxCoefLoad h n st taps shift coef s := rfl

theorem exec_auxCoefSwap (h : CmdRef) (n st : BitVec 8) (s : State) : exec (.auxCoefSwap h n st) s = execAuxCoefSwap h n st s := rfl

/-- A row whose run fails with an effect is answered with that status on the state the run leaves. -/
theorem State.cmd_errKeep {s b u : State} {h : CmdRef} {opc : Nat} {c : Instr} {f : Fetched} {st det : Nat} {run : State → Fetched → Res}
    (hs : s.Starts h opc c f b) (hr : run b f = .errKeep u st det) (hu : u.fetchedOf h = b.fetchedOf h) (hst : st ≠ 0) (hd : det ≠ 0xF007) :
    State.Answered u (s.cmd h opc c run) h st det 0 := by
  have hfin : b.finish h (.errKeep u st det) = u.complete h st det := by
    cases st with
    | zero => exact absurd rfl hst
    | succ n => rfl
  rw [State.cmd_starts hs, hr, hfin]
  exact State.complete_answered (hu.trans hs.fetched) st det 0 hd

/-- A row whose run changes one channel and answers OK. -/
theorem State.cmd_modAux {s b : State} {h : CmdRef} {opc : Nat} {c : Instr} {f : Fetched} {r : BitVec 128} {run : State → Fetched → Res}
    {n : Nat} {g : AuxChan → AuxChan} (hs : s.Starts h opc c f b) (hw : SMap.wf {} b.ascu.chans = true) (hr : run b f = .ok (b.modAux n g) r) :
    ∃ u t : State, (Host.Outcome.next (s.cmd h opc c run) : Host.Outcome State Fault Refusal) = .next t ∧ State.Answered u t h 0 0 r ∧
      u = { b with ascu := { b.ascu with chans := u.ascu.chans } } ∧ (∀ k, k ≠ n → u.aux k = b.aux k) ∧ u.aux n = g (b.aux n) := by
  obtain ⟨t, ht, ha⟩ := State.cmd_ok hs hr rfl
  exact ⟨_, t, ht, ha, rfl, fun k hk => b.modAux_aux_ne hk g, State.modAux_aux_self hw n g⟩

/-! ## AUX_FETCH_SET -/

/-- What a fetch's configuration does to the pins: registers and the pins' lists alone change (R556). -/
theorem State.gpioUpdate_frame (s : State) (f : Nat) : s.gpioUpdate f = { s with xio := (s.gpioUpdate f).xio, regs := (s.gpioUpdate f).regs } := by
  have hloop : ∀ {g : State → Nat → State}, (∀ s p, g s p = { s with xio := (g s p).xio, regs := (g s p).regs }) →
      ∀ (l : List Nat) (s : State), l.foldl g s = { s with xio := (l.foldl g s).xio, regs := (l.foldl g s).regs } := by
    intro g hg l
    induction l with
    | nil => exact fun s => rfl
    | cons a r ih =>
      intro s
      rw [List.foldl_cons, ih, hg s a]
  refine hloop (fun s p => ?_) _ s
  extract_lets l s1
  split
  · split <;> rfl
  · rfl

/-- The state with a fetch entry written. -/
def State.setFetch (s : State) (n e : Nat) : State := { s with ascu := { s.ascu with fetch := SMap.put 0 s.ascu.fetch n e } }

/-- The format of a fetch entry that AUX_FETCH_SET accepts. -/
theorem auxFetchSet_format {n : BitVec 8} {e : BitVec 128} (hn : n.toNat < 16) (he : e.getLsbD 63 = true → fetchBad e.toNat = false) :
    ¬ (16 ≤ n.toNat ∨ (e.getLsbD 63 = true ∧ fetchBad e.toNat = true)) := by
  rintro (h16 | ⟨hv, hbad⟩)
  · omega
  · rw [he hv] at hbad
    exact Bool.false_ne_true hbad

section
variable {h : CmdRef} {n : BitVec 8} {e : BitVec 128} {f : Fetched} {s b : State} (hs : s.Starts h 0x0801 (.auxFetchSet h n e) f b)
  (hn : n.toNat < 16) (he : e.getLsbD 63 = true → fetchBad e.toNat = false)
include hs hn he

theorem execAuxFetchSet_spec (hw : SMap.wf 0 b.ascu.fetch = true) (hc : b.fetchChans n.toNat = []) :
    ∃ u t, execAuxFetchSet h n e s = .next t ∧ State.Answered u t h 0 0 0 ∧ u.fetchEnt n.toNat = e.toNat ∧
      (∀ k, k ≠ n.toNat → u.fetchEnt k = b.fetchEnt k) ∧ u.ascu.chans = b.ascu.chans ∧ u.ascu.busq = b.ascu.busq ∧ u.tim = b.tim := by
  have hfr := (b.setFetch n.toNat e.toNat).gpioUpdate_frame (32 + n.toNat)
  have hask : ((b.setFetch n.toNat e.toNat).gpioUpdate (32 + n.toNat)).ascu = (b.setFetch n.toNat e.toNat).ascu := congrArg (fun t => t.ascu) hfr
  have hfree : ¬ (!(b.fetchChans n.toNat).isEmpty) = true := by
    rw [hc]
    exact Bool.false_ne_true
  have hrun : ∃ t, execAuxFetchSet h n e s = .next t ∧ State.Answered ((b.setFetch n.toNat e.toNat).gpioUpdate (32 + n.toNat)) t h 0 0 0 :=
    State.cmd_ok hs ((if_neg (auxFetchSet_format hn he)).trans (if_neg hfree)) (State.fetchedOf_congr (congrArg (fun t => t.qps) hfr) h)
  obtain ⟨t, ht, ha⟩ := hrun
  refine ⟨_, t, ht, ha, ?_, fun k hk => ?_, ?_, ?_, congrArg (fun t => t.tim) hfr⟩
  · rw [State.fetchEnt, hask]
    exact SMap.get_put_self hw
  · rw [State.fetchEnt, hask]
    exact SMap.get_put_ne hk
  · rw [hask]
    rfl
  · rw [hask]
    rfl

theorem execAuxFetchSet_busy (hc : b.fetchChans n.toNat ≠ []) :
    ∃ t, execAuxFetchSet h n e s = .next t ∧ State.Answered b t h 0x700 1 0 := by
  refine ⟨_, rfl, State.cmd_err hs ((if_neg (auxFetchSet_format hn he)).trans (if_pos ?_)) (by decide)⟩
  simpa using hc

end

/-! ## AUX_CHAN_SET -/

/-- The format of the setting words that AUX_CHAN_SET accepts. -/
theorem auxChanSet_format {n src chain out : Nat} (hn : n < 32) (hsrc : bitsN src 31 0 = 0) (hchain : bitsN chain 3 0 = 0) (hout : bitsN out 51 33 = 0) :
    ¬ (32 ≤ n ∨ auxWordsBad src chain out = true) := by
  simp [auxWordsBad, hsrc, hchain, hout, hn]

/-- The channel with its setting words written. -/
def AuxChan.withWords (src chain out time : Nat) (x : AuxChan) : AuxChan :=
  { x with src := src % 2 ^ 63, chain := chain, out := out, time := time }

section
variable {h : CmdRef} {n : BitVec 8} {src chain out time : BitVec 64} {f : Fetched} {s b : State}
  (hs : s.Starts h 0x0802 (.auxChanSet h n src chain out time) f b) (hn : n.toNat < 32) (hsrc : bitsN src.toNat 31 0 = 0)
  (hchain : bitsN chain.toNat 3 0 = 0) (hout : bitsN out.toNat 51 33 = 0)
include hs hn hsrc hchain hout

theorem execAuxChanSet_enabled (he : (b.aux n.toNat).en = true) :
    ∃ t, execAuxChanSet h n src chain out time s = .next t ∧ State.Answered (b.orReg (ascuB + 4) 16) t h 0x700 2 0 :=
  ⟨_, rfl, State.cmd_errKeep hs ((if_neg (auxChanSet_format hn hsrc hchain hout)).trans (if_pos he)) rfl (by decide) (by decide)⟩

theorem execAuxChanSet_spec (hw : SMap.wf {} b.ascu.chans = true) (he : (b.aux n.toNat).en = false) :
    ∃ u t : State, execAuxChanSet h n src chain out time s = .next t ∧ State.Answered u t h 0 0 0 ∧
      u = { b with ascu := { b.ascu with chans := u.ascu.chans } } ∧ (∀ k, k ≠ n.toNat → u.aux k = b.aux k) ∧
      u.aux n.toNat = (b.aux n.toNat).withWords src.toNat chain.toNat out.toNat time.toNat :=
  State.cmd_modAux hs hw ((if_neg (auxChanSet_format hn hsrc hchain hout)).trans (if_neg (by rw [he]; exact Bool.false_ne_true)))

end

/-! ## AUX_CHAN_ENABLE -/

/-- The holds of a channel's two outputs (R277), by the greater taps of each stage's banks. -/
def State.auxHolds (s : State) (x : AuxChan) : Nat × Nat :=
  (s.auxHold x (x.reach 4 (max x.f1.a.taps x.f1.b.taps) (max x.f2.a.taps x.f2.b.taps)),
   if x.rtap = 0 then 0 else s.auxHold x (x.reach x.rtap (max x.f1.a.taps x.f1.b.taps) (max x.f2.a.taps x.f2.b.taps)))

/-- A channel that is switched on, with its holds. -/
def AuxChan.switchedOn (hl hr : Nat) (x : AuxChan) : AuxChan :=
  { x.restart with en := true, q := [], lost := false, lungo := { hold := hl }, rist := { hold := hr } }

/-- A channel that is switched off. -/
def AuxChan.switchedOff (x : AuxChan) : AuxChan := { x with en := false, q := [], lost := false }

section
variable {b : State} {h : CmdRef} {c : Nat} (hc : c < 32) (hm : b.mayAux h (b.auxSlip c) = true)
include hc hm

theorem State.auxEnable_off : b.auxEnable h c 0 = .ok (b.modAux c AuxChan.switchedOff) := by
  have hfmt : ¬ (32 ≤ c ∨ 1 < 0) := by omega
  simp only [State.auxEnable, if_neg hfmt, hm, Bool.not_true, Bool.false_eq_true, if_false, if_true]
  rfl

theorem State.auxEnable_on : b.auxEnable h c 1 =
    if !b.auxCfgOk c then .errKeep (b.orReg (ascuB + 4) 2) stBadParam 3
    else if (b.aux c).en then .ok b (result [((b.aux c).lungo.hold, 4), ((b.aux c).rist.hold, 4)])
    else .ok (b.modAux c (AuxChan.switchedOn (b.auxHolds (b.aux c)).1 (b.auxHolds (b.aux c)).2))
      (result [((b.auxHolds (b.aux c)).1, 4), ((b.auxHolds (b.aux c)).2, 4)]) := by
  have hfmt : ¬ (32 ≤ c ∨ 1 < 1) := by omega
  simp only [State.auxEnable, if_neg hfmt, hm, Bool.not_true, Bool.false_eq_true, if_false, if_neg Nat.one_ne_zero]
  rfl

end

section
variable {h : CmdRef} {n en : BitVec 8} {f : Fetched} {s b : State} (hs : s.Starts h 0x0803 (.auxChanEnable h n en) f b) (hn : n.toNat < 32)
  (hm : b.mayAux h (b.auxSlip n.toNat) = true)
include hs hn hm

theorem execAuxChanEnable_off (hw : SMap.wf {} b.ascu.chans = true) (he : en = 0) :
    ∃ u t : State, execAuxChanEnable h n en s = .next t ∧ State.Answered u t h 0 0 0 ∧ u = { b with ascu := { b.ascu with chans := u.ascu.chans } } ∧
      (∀ k, k ≠ n.toNat → u.aux k = b.aux k) ∧ u.aux n.toNat = (b.aux n.toNat).switchedOff := by
  subst he
  exact State.cmd_modAux (run := fun s _ => s.auxEnable h n.toNat (0 : BitVec 8).toNat) hs hw (State.auxEnable_off hn hm)

theorem execAuxChanEnable_invalid (he : en = 1) (hcfg : b.auxCfgOk n.toNat = false) :
    ∃ t, execAuxChanEnable h n en s = .next t ∧ State.Answered (b.orReg (ascuB + 4) 2) t h 0x102 3 0 := by
  subst he
  exact ⟨_, rfl, State.cmd_errKeep (run := fun s _ => s.auxEnable h n.toNat (1 : BitVec 8).toNat) hs
    ((State.auxEnable_on hn hm).trans (if_pos (by rw [hcfg]; rfl))) rfl (by decide) (by decide)⟩

theorem execAuxChanEnable_on (hw : SMap.wf {} b.ascu.chans = true) (he : en = 1) (hcfg : b.auxCfgOk n.toNat = true) (hoff : (b.aux n.toNat).en = false) :
    ∃ u t : State, execAuxChanEnable h n en s = .next t ∧
      State.Answered u t h 0 0 (result [((b.auxHolds (b.aux n.toNat)).1, 4), ((b.auxHolds (b.aux n.toNat)).2, 4)]) ∧
      u = { b with ascu := { b.ascu with chans := u.ascu.chans } } ∧ (∀ k, k ≠ n.toNat → u.aux k = b.aux k) ∧
      u.aux n.toNat = (b.aux n.toNat).switchedOn (b.auxHolds (b.aux n.toNat)).1 (b.auxHolds (b.aux n.toNat)).2 := by
  subst he
  refine State.cmd_modAux (run := fun s _ => s.auxEnable h n.toNat (1 : BitVec 8).toNat) hs hw
    ((State.auxEnable_on hn hm).trans ((if_neg ?_).trans (if_neg ?_)))
  · rw [hcfg]
    exact Bool.false_ne_true
  · rw [hoff]
    exact Bool.false_ne_true

end

/-! ## AUX_COEF_LOAD and AUX_COEF_SWAP (R272) -/

/-- A stage with a bank loaded: the one not in service. -/
def FirStage.loaded (k : FirBank) (g : FirStage) : FirStage := if g.useB then { g with a := k } else { g with b := k }

/-- Taps of the longest bank of a stage. -/
def maxTaps (st : BitVec 8) : Nat := if st = 1 then 64 else 128

/-- The stage of a channel that a load names. -/
def AuxChan.stage (st : BitVec 8) (x : AuxChan) : FirStage := if st = 1 then x.f1 else x.f2

/-- The bank of a load. -/
def loadBank (st : BitVec 8) (taps shift : Nat) (coef : List (BitVec 16)) : FirBank :=
  { taps := taps, shift := shift, coef := (coef.take (maxTaps st)).map (fun w => w.toInt),
    sym := coefSym (((coef.take (maxTaps st)).map (fun w => w.toInt)).take taps) }

/-- A bank is told by its taps, its shift, its coefficients and its SYM bit. -/
theorem FirBank.eq_loadBank {k : FirBank} {st : BitVec 8} {taps shift : Nat} {coef : List (BitVec 16)} (ht : k.taps = taps) (hs : k.shift = shift)
    (hc : k.coef = (coef.take (maxTaps st)).map (fun w => w.toInt)) (hy : k.sym = coefSym (k.coef.take k.taps)) :
    k = loadBank st taps shift coef := by
  obtain ⟨t, s, c, y⟩ := k
  simp only at ht hs hc hy
  subst ht hs hc hy
  rfl

/-- The channel with the stage that a load names set. -/
def AuxChan.withStage (st : BitVec 8) (g : FirStage) (x : AuxChan) : AuxChan := if st = 1 then { x with f1 := g } else { x with f2 := g }

theorem State.coefLoad_ok {b : State} {h : CmdRef} {c taps shift : Nat} {st : BitVec 8} (coef : List (BitVec 16)) (hc : c < 32)
    (hm : b.mayAux h (b.auxSlip c) = true) (hst : st = 1 ∨ st = 2) (hsh : shift ≤ 47) (ht : taps ≤ maxTaps st) (hp : ((b.aux c).stage st).pend = none) :
    b.coefLoad h c st.toNat taps shift coef =
      .ok (b.modAux c (AuxChan.withStage st (((b.aux c).stage st).loaded (loadBank st taps shift coef)))) (result [((loadBank st taps shift coef).sym.toNat, 1)]) := by
  have hmay : ¬ (!b.mayAux h (b.auxSlip c)) = true := by
    rw [hm]
    exact Bool.false_ne_true
  have hpend : ¬ ((b.aux c).stage st).pend.isSome = true := by
    rw [hp]
    exact Bool.false_ne_true
  obtain rfl | rfl := hst
  · have hfmt : ¬ (32 ≤ c ∨ 1 = 0 ∨ 2 < 1 ∨ 47 < shift) := by omega
    exact (if_neg hfmt).trans ((if_neg hmay).trans ((if_neg (Nat.not_lt.2 ht)).trans (if_neg hpend)))
  · have hfmt : ¬ (32 ≤ c ∨ 2 = 0 ∨ 2 < 2 ∨ 47 < shift) := by omega
    exact (if_neg hfmt).trans ((if_neg hmay).trans ((if_neg (Nat.not_lt.2 ht)).trans (if_neg hpend)))

theorem execAuxCoefLoad_spec {h : CmdRef} {n st taps shift : BitVec 8} {coef : List (BitVec 16)} {f : Fetched} {s b : State}
    (hs : s.Starts h 0x0804 (.auxCoefLoad h n st taps shift coef) f b) (hw : SMap.wf {} b.ascu.chans = true) (hn : n.toNat < 32)
    (hm : b.mayAux h (b.auxSlip n.toNat) = true) (hst : st = 1 ∨ st = 2) (hsh : shift.toNat ≤ 47) (ht : taps.toNat ≤ maxTaps st)
    (hp : ((b.aux n.toNat).stage st).pend = none) :
    ∃ u t : State, execAuxCoefLoad h n st taps shift coef s = .next t ∧
      State.Answered u t h 0 0 (result [((loadBank st taps.toNat shift.toNat coef).sym.toNat, 1)]) ∧
      u = { b with ascu := { b.ascu with chans := u.ascu.chans } } ∧ (∀ k, k ≠ n.toNat → u.aux k = b.aux k) ∧
      u.aux n.toNat = (b.aux n.toNat).withStage st (((b.aux n.toNat).stage st).loaded (loadBank st taps.toNat shift.toNat coef)) :=
  State.cmd_modAux (run := fun s _ => s.coefLoad h n.toNat st.toNat taps.toNat shift.toNat coef) hs hw (State.coefLoad_ok coef hn hm hst hsh ht hp)

/-- The channel with a swap of the stages named asked for, from a tick on or from now on. -/
def AuxChan.swapping (h : CmdRef) (st : BitVec 8) (w : Option Nat) (x : AuxChan) : AuxChan :=
  { x with
    f1 := if st.getLsbD 0 then { x.f1 with pend := some w } else x.f1, f2 := if st.getLsbD 1 then { x.f2 with pend := some w } else x.f2,
    swaps := x.swaps ++ [(h, st.toNat)] }

theorem State.coefSwap_later {b : State} {h : CmdRef} {c : Nat} {st : BitVec 8} (w : Option Nat) (hc : c < 32) (hm : b.mayAux h (b.auxSlip c) = true)
    (hst : st = 1 ∨ st = 2 ∨ st = 3) (h1 : st.getLsbD 0 = true → (b.aux c).f1.pend = none) (h2 : st.getLsbD 1 = true → (b.aux c).f2.pend = none) :
    b.coefSwap h c st.toNat w = .later (b.modAux c (AuxChan.swapping h st w)) := by
  have hfmt : ¬ (32 ≤ c ∨ st.toNat = 0 ∨ 3 < st.toNat) := by
    obtain rfl | rfl | rfl := hst <;> simp <;> omega
  have hpend : ¬ ((st.toNat.testBit 0 = true ∧ (b.aux c).f1.pend.isSome = true) ∨ (st.toNat.testBit 1 = true ∧ (b.aux c).f2.pend.isSome = true)) := by
    rintro (⟨hb, hp⟩ | ⟨hb, hp⟩)
    · rw [h1 hb] at hp
      exact Bool.false_ne_true hp
    · rw [h2 hb] at hp
      exact Bool.false_ne_true hp
  simp only [State.coefSwap, if_neg hfmt, hm, Bool.not_true, Bool.false_eq_true, if_false, if_neg hpend]
  rfl

section
variable {h : CmdRef} {n st : BitVec 8} {f : Fetched} {w : Option Nat} {s b : State} (hs : s.startable h 0x0805 = some f)
  (hb : b = s.brewFor f (.auxCoefSwap h n st)) (ho : b.objErr 0x0805 h.fn.toNat f.objId.toNat = none) (hn : n.toNat < 32)
  (hm : b.mayAux h (b.auxSlip n.toNat) = true) (hst : st = 1 ∨ st = 2 ∨ st = 3) (h1 : st.getLsbD 0 = true → (b.aux n.toNat).f1.pend = none)
  (h2 : st.getLsbD 1 = true → (b.aux n.toNat).f2.pend = none)
  (hw : (f.atEn = false ∧ w = none) ∨ ∃ d, f.atEn = true ∧ b.lead f.atTick = some d ∧ w = some (b.tim.tick + d))
include hs hb ho hn hm hst h1 h2 hw

/-- The swap waits for its output, and its command with it. -/
theorem execAuxCoefSwap_waits : execAuxCoefSwap h n st s = .next ((b.modAux n.toNat (AuxChan.swapping h st w)).setCmdPhase h .staged) := by
  subst hb
  refine congrArg Host.Outcome.next ?_
  obtain ⟨hat, rfl⟩ | ⟨d, hat, hl, rfl⟩ := hw
  · rw [if_neg (by rw [hs]; simpa using hat)]
    exact cmdOpen_later hs ho (State.coefSwap_later none hn hm hst h1 h2)
  · rw [if_pos (by rw [hs]; simpa using hat)]
    exact cmdAt_later hs ho hl (State.coefSwap_later _ hn hm hst h1 h2)

theorem execAuxCoefSwap_spec : ∃ t, execAuxCoefSwap h n st s = .next t ∧ t.tim = b.tim ∧ t.regs = b.regs ∧ (∀ j, j ≠ n.toNat → t.aux j = b.aux j) ∧
    t.aux n.toNat = (b.aux n.toNat).swapping h st w :=
  ⟨_, execAuxCoefSwap_waits hs hb ho hn hm hst h1 h2 hw, rfl, rfl, fun _ hj => b.modAux_aux_ne hj _,
    State.modAux_aux_of_ne fun he => List.append_ne_nil_of_right_ne_nil _ (List.cons_ne_nil _ _) (congrArg AuxChan.swaps he)⟩

end

end Sys2Proof.Machine

/-! PROOF. The statement about the ASCU (O56), a clause at a time. -/
namespace Sys2Proof.Machine

/-- Settles O56: triggers and interrupts, transactions, stuck buses, slots, ends of ticks, and the commands of the Aux class. -/
theorem sensorFetchesAreQueuedTakenAndConditioned : Obligations.SensorFetchesAreQueuedTakenAndConditioned := by
  unfold Obligations.SensorFetchesAreQueuedTakenAndConditioned
  simp only [exec_fetchTrigger, exec_ibi, exec_fetchComplete, exec_i3cStuck, exec_channelSlot, exec_auxTickEnd, exec_auxFetchSet, exec_auxChanSet,
    exec_auxChanEnable, exec_auxCoefLoad, exec_auxCoefSwap]
  refine ⟨?_, ?_, ?_, ?_, ?_, ?_, ?_, ?_, ?_, ?_, ?_⟩
  · intro f t e l s hs he hl
    exact ⟨execFetchTrigger_none he, execFetchTrigger_spec he hs hl⟩
  · rintro i addr t fs s hs rfl
    exact ⟨execIbi_off, execIbi_spec hs⟩
  · intro bus ok data s hs hq hw
    exact ⟨execFetchComplete_idle, fun t f rest h => execFetchComplete_spec hs hq hw h⟩
  · intro i l s hs hq hw hl
    exact execI3cStuck_spec hs hq hw hl
  · intro n c x s hs hc hx
    refine ⟨fun he => ?_, execChannelSlot_spec hs hc hx⟩
    subst hc hx
    exact congrArg Host.Outcome.next (State.auxSlot_disabled he)
  · intro s hw
    obtain ⟨t, ht, hfr, haux⟩ := execAuxTickEnd_spec hw
    refine ⟨t, ht, hfr, fun c => (haux c).trans ?_⟩
    unfold AuxChan.tickEnded
    cases (s.aux c).en <;> rfl
  · intro h n e f s b hs hb hw hn he
    exact ⟨execAuxFetchSet_spec hs hn he hw, execAuxFetchSet_busy hs hn he⟩
  · rintro h n src chain out time f c s b hs hb hw rfl hn hsrc hchain hout
    exact ⟨execAuxChanSet_enabled hs hn hsrc hchain hout, execAuxChanSet_spec hs hn hsrc hchain hout hw⟩
  · rintro h n en f c t1 t2 x s b hs hb hw rfl hn hm rfl rfl rfl
    refine ⟨execAuxChanEnable_off hs hn hm hw, execAuxChanEnable_invalid hs hn hm, ?_⟩
    rintro hen hcfg hoff hl hr rfl rfl
    exact execAuxChanEnable_on hs hn hm hw hen hcfg hoff
  · rintro h n st taps shift coef f c x g k s b hs hb hw rfl hn hm rfl hst hsh ht rfl hp htaps hshift hcoef hsym
    obtain rfl : k = loadBank st taps.toNat shift.toNat coef := FirBank.eq_loadBank htaps hshift hcoef hsym
    obtain ⟨u, t, hrun, ha, hu, hother, hself⟩ := execAuxCoefLoad_spec hs hw hn hm hst hsh ht hp
    refine ⟨u, t, hrun, ha, hu, hother, hself.trans ?_⟩
    obtain rfl | rfl := hst <;> rfl
  · rintro h n st f c x w s b hs hb ho hcan rfl hn hm rfl hst h1 h2 hw
    exact execAuxCoefSwap_spec hs hb ho hn hm hst h1 h2 hw

end Sys2Proof.Machine
